-- ==== Sys2Proof/Word.lean ====
section
/-! DEFINITION. The plainest types and bit operations of the model: bytes, and a
value seen as the bit pattern the object dictionary holds (spec 00_scope.md, R13 and the
conventions of its last section: a field is written [high:low], bit 0 the least significant). -/

namespace Sys2Proof

/-- One byte of a record, an image or a memory. -/
abbrev Byte := BitVec 8

/-- Field [hi:lo] of a value. -/
def bits (v hi lo : Nat) : Nat := (v >>> lo) % 2 ^ (hi + 1 - lo)

/-- One bit of a value. -/
def bit (v i : Nat) : Bool := v.testBit i

/-- The value with bit `i` set or cleared. -/
def setBit (v i : Nat) (b : Bool) : Nat :=
  if v.testBit i then (if b then v else v - 2 ^ i) else (if b then v + 2 ^ i else v)

/-- 1 for true, 0 for false. -/
def b2n (b : Bool) : Nat := if b then 1 else 0

/-- A two's-complement pattern of `w` bits read as an integer. -/
def toI (w v : Nat) : Int :=
  let u := v % 2 ^ w
  if u < 2 ^ (w - 1) then (u : Int) else (u : Int) - (2 ^ w : Nat)

/-- An integer as a two's-complement pattern of `w` bits. -/
def ofI (w : Nat) (i : Int) : Nat := (i % ((2 ^ w : Nat) : Int)).toNat

/-- The number of set bits among the lowest `n`. -/
def popcount (v : Nat) : Nat → Nat
  | 0 => 0
  | n + 1 => popcount v n + (if v.testBit n then 1 else 0)

/-- `n` bytes of a value, least significant first (R13). -/
def leBytes (v : Nat) : Nat → List Byte
  | 0 => []
  | n + 1 => BitVec.ofNat 8 v :: leBytes (v / 256) n

/-- The value of bytes given least significant first. -/
def ofLe : List Byte → Nat
  | [] => 0
  | b :: bs => b.toNat + 256 * ofLe bs

/-- `n` bytes of a value, most significant first (R45). -/
def beBytes (v n : Nat) : List Byte := (leBytes v n).reverse

/-- The value of bytes given most significant first. -/
def ofBe (bs : List Byte) : Nat := ofLe bs.reverse

/-- A saturating unsigned sum in `w` bits. -/
def satAdd (w a b : Nat) : Nat := if a + b < 2 ^ w then a + b else 2 ^ w - 1

/-- An integer clamped to the range from `lo` to `hi`. -/
def clampI (lo hi x : Int) : Int := if x < lo then lo else if hi < x then hi else x

end Sys2Proof
end

