-- ==== Sys2Proof/Syntax.lean ====
section
/-! DEFINITION. The commands the block takes: one constructor per row of the spec's table of operations and events,
with the operands the rule of that row speaks of. What the outside world, an analogue stage or an arithmetic that the spec does
not fix bit by bit delivers to a step comes with the step as an operand (log entry 2). -/

namespace Sys2Proof

/-- A master of the dictionary (R55, Table 2.8). -/
inductive Master where
  | host
  | eth (n : Fin 8)
  | can
deriving DecidableEq, Repr

/-- The master ID of Table 2.8. -/
def Master.id : Master → Nat
  | .host => 0x01
  | .eth n => 0x10 + n.val
  | .can => 0x20

/-- Where a UDP datagram came from and arrived (R45): the addresses, of IPv4 or IPv6, and the ports. -/
structure AdpPeer where
  /-- IPv6 -/
  v6 : Bool := false
  /-- the master's address -/
  remote : Nat := 0
  /-- the master's port -/
  remotePort : BitVec 16 := 0
  /-- the device's address -/
  local_ : Nat := 0
  /-- the device's port: 47120 -/
  localPort : BitVec 16 := 47120
deriving DecidableEq, Repr

/-- An ADP message as received: the fields of Table 2.5 (RESPONSE and reserved flag bits in `flags`), the payload and the
authentication tag. `port` is 0 or 1 for ETH0 or ETH1 and 2 for CAN FD. -/
structure AdpMsg where
  /-- where it arrived -/
  port : Fin 3
  /-- VERSION -/
  version : Byte
  /-- FLAGS -/
  flags : BitVec 16
  /-- SESSION -/
  session : Byte
  /-- KEY_ID -/
  keyId : Byte
  /-- PAYLOAD_LEN -/
  payloadLen : BitVec 16
  /-- SEQ -/
  seq : BitVec 32
  /-- TXN -/
  txn : BitVec 32
  /-- the payload bytes -/
  payload : List Byte
  /-- the tag -/
  tag : List Byte
  /-- addresses and ports of the datagram, on Ethernet -/
  peer : AdpPeer := {}
deriving DecidableEq, Repr

/-- What a calibration run measured of the sub-converter under test (Table 4.6): offset in 1/65,536 code, gain error in
ppm, skew in fs, bandwidth as ppm of the median, noise as ppm of the median. -/
structure CalMeas where
  /-- offset correction, 1/65,536 code -/
  offset : Int
  /-- gain correction, ppm of nominal -/
  gain : Int
  /-- skew trim, fs -/
  skew : Int
  /-- −3 dB bandwidth, ppm off the median -/
  bandwidth : Int
  /-- noise, ppm of the median -/
  noise : Nat
deriving DecidableEq, Repr

/-- What a trigger unit is shown when its source is judged (Table 7.1). Masks, regions, results, lacing lines, flag lines and the
outputs of slices are read from the machine. -/
structure TrigObs where
  /-- index of the sample of a source 1 or 2 -/
  index : Nat
  /-- samples n−2 to n+1 of a full-rate source -/
  samples : List Int
  /-- fF cycle after the last tick of fT in which a source 5, 6 or 9 is registered -/
  cycle : Fin 8
deriving DecidableEq, Repr

/-- A position of a bench (R195). -/
structure Pos where
  /-- bench -/
  bench : Fin 16
  /-- position -/
  pos : Fin 16
deriving DecidableEq, Repr

/-- The second operand of format R, and the value of EVT: a data register or IMM16 (Table 10.3). -/
inductive Op2 where
  | reg (t : Fin 8)
  | imm (v : BitVec 16)
deriving DecidableEq, Repr

/-- The count of REP: Dc or COUNT (R231). -/
inductive RepCount where
  | reg (c : Fin 8)
  | imm (v : BitVec 11)
deriving DecidableEq, Repr

/-- The count of ASH: D1 or IMM7 (R228). -/
inductive AshCount where
  | reg (c : Fin 8)
  | imm (v : BitVec 7)
deriving DecidableEq, Repr

/-- An addressing mode of format L (Table 10.6). -/
inductive AMode where
  | offset (imm : BitVec 12)
  | postInc (imm : BitVec 12)
  | postMod (m : Fin 4)
  | indexed (m : Fin 4)
deriving DecidableEq, Repr

/-- One load of format X: destination, address unit, modifier select, and whether it is suppressed (NX, NY). -/
structure XLoad where
  /-- destination data register -/
  dst : Fin 8
  /-- i of Ji, or j of J4 + j -/
  unit : Fin 4
  /-- XMOD or YMOD -/
  md : Fin 4
  /-- the load is suppressed -/
  skip : Bool
deriving DecidableEq, Repr

/-- Product modes (R226). -/
inductive MMode where
  | ss | uu | su | fr
deriving DecidableEq, Repr

/-- What moves a unit to the boundary at which it applies a plan (R17). -/
inductive BoundaryUnit where
  | converter (ch : Fin 4)
  | slice (m : Fin 32)
  | engine (e : Fin 4)
  | context (c : Fin 16)
  | position (p : Pos)
  | stream (st : Fin 32)
  | head (h : Fin 2)
deriving DecidableEq, Repr

/-- Announce data of a received Announce (R314): the fields that the BMCA compares. -/
structure AnnounceData where
  /-- grandmasterPriority1 -/
  priority1 : Byte
  /-- grandmasterClockQuality: clockClass -/
  clockClass : Byte
  /-- clockAccuracy -/
  accuracy : Byte
  /-- offsetScaledLogVariance -/
  variance : BitVec 16
  /-- grandmasterPriority2 -/
  priority2 : Byte
  /-- grandmasterIdentity -/
  identity : BitVec 64
  /-- stepsRemoved -/
  steps : BitVec 16
deriving DecidableEq, Repr

/-- A PTP message as received (R310, R313): the fields of IEEE 1588-2019 the device uses. -/
structure PtpMsg where
  /-- messageType, 0x0 to 0xF -/
  type : Fin 16
  /-- versionPTP, the major version -/
  version : Fin 16
  /-- domainNumber -/
  domain : Byte
  /-- twoStepFlag -/
  twoStep : Bool
  /-- sequenceId -/
  seq : BitVec 16
  /-- correctionField, 2^-16 ns -/
  correction : Int
  /-- sourcePortIdentity: clockIdentity -/
  source : BitVec 64
  /-- sourcePortIdentity: portNumber -/
  sourcePort : BitVec 16
  /-- originTimestamp, requestReceiptTimestamp, responseOriginTimestamp, preciseOriginTimestamp or
  receiveTimestamp, as a T96 pattern with no fraction -/
  time : Nat
  /-- requestingPortIdentity -/
  requester : BitVec 64
  /-- its portNumber -/
  requesterPort : BitVec 16
  /-- how it came: 0 Ethernet, 1 UDP over IPv4, 2 UDP over IPv6 (R310) -/
  transport : Fin 3
  /-- the UDP checksum over IPv4 was 0 -/
  noChecksum : Bool
  /-- body of an Announce -/
  announce : AnnounceData
deriving DecidableEq, Repr

/-- What training at reset found at one rank position (R334, R350, R351): populated, its sub-channel size in GiB, and the
step that failed, 0 when none did. -/
structure RankTrain where
  /-- populated -/
  populated : Bool
  /-- sub-channel size, log2 of GiB: 3, 4 or 5 -/
  sizeLog : Fin 6
  /-- the failing step, 1 to 8; 0 none -/
  failed : Fin 9
deriving DecidableEq, Repr

/-- What enumeration found of one NVMe controller (R375). -/
structure NvFound where
  /-- it meets R375 -/
  qualifies : Bool
  /-- I/O queue pairs granted -/
  queues : Byte
  /-- maximum data transfer, bytes -/
  mdts : BitVec 32
  /-- log2 of the LBA size, 9 or 12 -/
  lbaShift : Fin 16
deriving DecidableEq, Repr

/-- A fault source whose rails have held a new state long enough to count (R433), with the data that its unit supplies. -/
structure RailChange where
  /-- source -/
  src : Fin 256
  /-- rail P -/
  p : Bool
  /-- rail N -/
  n : Bool
  /-- data of Table 19.4, where no unit of the model drives the source -/
  data : BitVec 64
deriving DecidableEq, Repr

/-- What a fitting found (R463, Table 21.1): a calibration run's measurement of a sub-converter, a code-density run of an
interpolator, or the outcome of another pool's test. -/
inductive FitResult where
  | conv (meas : CalMeas)
  | loupe (hits : List Nat) (hard : Bool)
  | test (pass : Bool)
deriving DecidableEq, Repr

/-- A command of the block: one constructor per row of the table. -/
inductive Instr where
  /-- OBJECT_WRITE (R508) -/
  | objectWrite (m : Master) (index subindex : Nat) (value : List Byte)
  /-- BAR0_WRITE (R40) -/
  | bar0Write (offset width value : Nat)
  /-- BAR0_MALFORMED_ACCESS (R40) -/
  | bar0MalformedAccess (isWrite : Bool) (offset width value : Nat)
  /-- MBX_READ (R43) -/
  | mbxRead
  /-- MBX_WRITE (R43) -/
  | mbxWrite
  /-- MBX_SEG_READ (R44) -/
  | mbxSegRead
  /-- MBX_SEG_WRITE (R44) -/
  | mbxSegWrite
  /-- MBX_SEG_WRITE_LAST (R44) -/
  | mbxSegWriteLast
  /-- MBX_ABORT_TRANSFER (R44) -/
  | mbxAbortTransfer
  /-- MBX_COMMAND_COMPLETE (R43) -/
  | mbxCommandComplete
  /-- SEG_TRANSFER_SILENCE (R44) -/
  | segTransferSilence (m : Master) (index subindex : Nat)
  /-- ADP_SESSION_OPEN (R48) -/
  | adpSessionOpen (type : Byte) (q : AdpMsg)
  /-- ADP_READ (R46) -/
  | adpRead (q : AdpMsg)
  /-- ADP_WRITE (R46) -/
  | adpWrite (q : AdpMsg)
  /-- ADP_SEG_READ (R44) -/
  | adpSegRead (q : AdpMsg)
  /-- ADP_SEG_WRITE (R44) -/
  | adpSegWrite (q : AdpMsg)
  /-- ADP_CLAIM (R57) -/
  | adpClaim (q : AdpMsg) (rivals : List (Master × Nat))
  /-- ADP_RENEW (R57) -/
  | adpRenew (q : AdpMsg)
  /-- ADP_HANDOVER (R57) -/
  | adpHandover (q : AdpMsg)
  /-- ADP_ACCEPT (R57) -/
  | adpAccept (q : AdpMsg)
  /-- ADP_SUBSCRIBE (R46) -/
  | adpSubscribe (q : AdpMsg)
  /-- ADP_ABORT_TRANSFER (R46) -/
  | adpAbortTransfer (q : AdpMsg)
  /-- SESS_CLOSE (R50) -/
  | sessClose (q : AdpMsg)
  /-- ADP_IDLE_TIMEOUT (R50) -/
  | adpIdleTimeout (n : Fin 9)
  /-- ADP_KEY_WRITE (R51) -/
  | adpKeyWrite (m : Master) (slot : Fin 8) (key : List Byte)
  /-- CAN_FRAME_RECEIVED (R54) -/
  | canFrameReceived (ident : BitVec 11) (data : List Byte) (rivals : List (Master × Nat))
  /-- PCIE_CLAIM (R57) -/
  | pcieClaim (priority : Nat) (rivals : List (Master × Nat))
  /-- PCIE_RENEW (R57) -/
  | pcieRenew (value : Nat)
  /-- PCIE_HANDOVER (R57) -/
  | pcieHandover (successor : Nat)
  /-- PCIE_ACCEPT (R57) -/
  | pcieAccept (value : Nat)
  /-- LEASE_EXPIRED (R58) -/
  | leaseExpired
  /-- HANDOVER_WINDOW_EXPIRED (R57) -/
  | handoverWindowExpired
  /-- PCIE_HOST_DISCONNECT (R33) -/
  | pcieHostDisconnect
  /-- PARAM_STORE_SAVE (R38) -/
  | paramStoreSave (m : Master)
  /-- PARAM_STORE_ERASE (R38) -/
  | paramStoreErase (m : Master)
  /-- PARAM_STORE_DONE (R473) -/
  | paramStoreDone (verified : Bool)
  /-- PLAN_ADMIT (R61) -/
  | planAdmit (m : Master)
  /-- PLAN_COMMIT (R63) -/
  | planCommit (m : Master)
  /-- PLAN_ARM (R64) -/
  | planArm (m : Master)
  /-- PLAN_DISCARD (R60) -/
  | planDiscard (m : Master)
  /-- PLAN_SAFE (R79) -/
  | planSafe (m : Master)
  /-- PLAN_DISARM (R61) -/
  | planDisarm (m : Master)
  /-- ADMISSION_END (R62) -/
  | admissionEnd
  /-- COMMIT_TICK (R63) -/
  | commitTick (lost : Bool)
  /-- UNIT_BOUNDARY_APPLY (R17) -/
  | unitBoundaryApply (u : BoundaryUnit)
  /-- SAFE_PLAN_TICK (R79) -/
  | safePlanTick
  /-- SAMPLE_BLOCK (R94) -/
  | sampleBlock (ch : Fin 4) (corrected : List Int)
  /-- SAMPLE_BUS_PARITY_FAIL (R16) -/
  | sampleBusParityFail (ch : Fin 4)
  /-- TAG_BUS_PARITY_FAIL (R16) -/
  | tagBusParityFail (ch : Fin 8)
  /-- CAL_EVALUATE (R89) -/
  | calEvaluate (ch : Fin 4)
  /-- CAL_CMD (R100) -/
  | calCmd (m : Master) (ch : Fin 4) (value : Nat)
  /-- CAL_ROT_START (R89) -/
  | calRotStart (ch : Fin 4)
  /-- CAL_RUN_END (R90) -/
  | calRunEnd (ch : Fin 4) (meas : CalMeas)
  /-- CAL_OVERLAP_END (R92) -/
  | calOverlapEnd (ch : Fin 4) (rmsDiff rmsSignal : Nat)
  /-- SC_HARD_FAILURE (R98) -/
  | scHardFailure (ch : Fin 4) (sc : Fin 17)
  /-- SC_FORCED_SWAP (R98) -/
  | scForcedSwap (ch : Fin 4)
  /-- SYNC_CMD (R114) -/
  | syncCmd (m : Master) (value : Nat)
  /-- DDC_SYNC_FALL (R114) -/
  | ddcSyncFall
  /-- GROUP_RESET (R115) -/
  | groupReset
  /-- NCO_FTW_WRITE (R118) -/
  | ncoFtwWrite (m : Master) (sl : Fin 32) (value : Nat)
  /-- NCO_RETUNE (R118) -/
  | ncoRetune (sl : Fin 32)
  /-- SLICE_GAIN_WRITE (R119) -/
  | sliceGainWrite (m : Master) (sl : Fin 32) (fine : Bool) (value : Nat)
  /-- SLICE_GAIN_APPLY (R119) -/
  | sliceGainApply (sl : Fin 32)
  /-- SLICE_FRAME (R111) -/
  | sliceFrame (sl : Fin 32) (codes : List Int)
  /-- FIR_COEF_LOAD (R121) -/
  | firCoefLoad (m : Master) (sl : Fin 32) (image : List Byte)
  /-- SPECTRUM_RECORD (R143) -/
  | spectrumRecord (e : Fin 4) (src : Fin 32) (codes : List Int)
  /-- LANE_CHECK_FAIL (R148) -/
  | laneCheckFail (e : Fin 4) (lane : Fin 9)
  /-- LANE_SWAP (R148) -/
  | laneSwap (e : Fin 4)
  /-- WINDOW_TABLE_LOAD (R132) -/
  | windowTableLoad (m : Master) (e : Fin 4) (image : List Byte)
  /-- TU_EVENT (R153) -/
  | tuEvent (u : Fin 16) (o : TrigObs)
  /-- TRGIN_EDGE (R157) -/
  | trginEdge (pin : Fin 8) (level : Bool) (cycle : Fin 8)
  /-- TU_STRETCH_EXPIRE (R153) -/
  | tuStretchExpire (u : Fin 16)
  /-- AQ_HISTORY_FULL (R163) -/
  | aqHistoryFull (c : Fin 16)
  /-- SEGMENT_END (R164) -/
  | segmentEnd (c : Fin 16) (samples : List (Int × Int))
  /-- MASK_TABLE_LOAD (R156) -/
  | maskTableLoad (m : Master) (mask : Fin 4) (image : List Byte)
  /-- DN_GROUP_WRITE (R181) -/
  | dnGroupWrite (plane : Fin 2)
  /-- DN_DECAY_TICK (R182) -/
  | dnDecayTick
  /-- DN_CLEAR_CMD (R184) -/
  | dnClearCmd (m : Master) (value : Nat)
  /-- DN_CLEAR_APPLY (R184) -/
  | dnClearApply
  /-- DN_SNAP_CMD (R189) -/
  | dnSnapCmd (m : Master) (value : Nat)
  /-- DN_SNAP_PERIOD_EXPIRE (R190) -/
  | dnSnapPeriodExpire
  /-- DN_SNAP_TAKE (R189) -/
  | dnSnapTake
  /-- DN_SNAP_DONE (R189) -/
  | dnSnapDone
  /-- DN_PARITY_ERROR (R191) -/
  | dnParityError (plane : Fin 2) (row : Fin 1024) (col : Fin 2048) (hard : Bool)
  /-- DN_BANK_COPY_DONE (R191) -/
  | dnBankCopyDone
  /-- DN_PALETTE_LOAD (R185) -/
  | dnPaletteLoad (m : Master) (image : List Byte)
  /-- SG_LINE_WRITE (R188) -/
  | sgLineWrite (g : Fin 2)
  /-- BN_WINDOW_RECORD (R198) -/
  | bnWindowRecord (b : Fin 16) (w : Fin 4)
  /-- AW_BUDGET_OVERRUN (R202) -/
  | awBudgetOverrun (p : Pos)
  /-- AW_IMAGE_LOAD (R208) -/
  | awImageLoad (m : Master) (p : Pos) (image : List Byte)
  /-- AW_CORE_FAIL (R212) -/
  | awCoreFail (b : Fin 16) (phys : Fin 17) (kind : Fin 3)
  /-- AW_SPARE_LOADED (R212) -/
  | awSpareLoaded (p : Pos)
  /-- BENCH_MEM_DOUBLE_ERROR (R197, R212): an error that the protection detects, or one that it corrects -/
  | benchMemDoubleError (p : Pos) (addr : BitVec 20) (double : Bool)
  /-- SPILL_COMPLETE (R207) -/
  | spillComplete (b : Fin 16) (pos : Fin 16)
  /-- NOP (R229) -/
  | nop (p : Pos)
  /-- WAIT (R201) -/
  | wait (p : Pos)
  /-- BR (R230) -/
  | br (p : Pos) (cond : BitVec 4) (target : BitVec 12)
  /-- CALL (R232) -/
  | call (p : Pos) (target : BitVec 12)
  /-- RET (R232) -/
  | ret (p : Pos)
  /-- REP (R231) -/
  | rep (p : Pos) (level : Fin 3) (count : RepCount) (last : BitVec 12)
  /-- EVT (R206) -/
  | evt (p : Pos) (v : Op2)
  /-- SETFLAG (R204) -/
  | setflag (p : Pos) (line : Fin 4)
  /-- CLRFLAG (R204) -/
  | clrflag (p : Pos) (line : Fin 4)
  /-- EMIT (R233) -/
  | emit (p : Pos) (jp : Fin 8) (dl : Fin 8) (tag : BitVec 16) (waits : Nat)
  /-- SPILL (R233) -/
  | spill (p : Pos) (jp : Fin 8) (dOff dLen : Fin 8) (back : Bool)
  /-- MOV (R220) -/
  | mov (p : Pos) (rd rs : Fin 64)
  /-- MOVI (R220) -/
  | movi (p : Pos) (rd : Fin 64) (imm : BitVec 20)
  /-- LD (R224) -/
  | ld (p : Pos) (dd jp : Fin 8) (a : AMode) (waits : Nat)
  /-- ST (R224) -/
  | st (p : Pos) (dd jp : Fin 8) (a : AMode) (waits : Nat)
  /-- LDW (R224) -/
  | ldw (p : Pos) (wn : Fin 2) (jp : Fin 8) (a : AMode) (waits : Nat)
  /-- STW (R227) -/
  | stw (p : Pos) (wn : Fin 2) (jp : Fin 8) (a : AMode) (sat : Bool) (waits : Nat)
  /-- MODJ (R224) -/
  | modj (p : Pos) (jp : Fin 8) (a : AMode)
  /-- LD2 (R219) -/
  | ld2 (p : Pos) (x y : XLoad) (waits : Nat)
  /-- ADD (R229) -/
  | add (p : Pos) (dd ds : Fin 8) (o : Op2)
  /-- ADDS (R229) -/
  | adds (p : Pos) (dd ds : Fin 8) (o : Op2)
  /-- SUB (R229) -/
  | sub (p : Pos) (dd ds : Fin 8) (o : Op2)
  /-- SUBS (R229) -/
  | subs (p : Pos) (dd ds : Fin 8) (o : Op2)
  /-- AND (R229) -/
  | and (p : Pos) (dd ds : Fin 8) (o : Op2)
  /-- OR (R229) -/
  | or (p : Pos) (dd ds : Fin 8) (o : Op2)
  /-- XOR (R229) -/
  | xor (p : Pos) (dd ds : Fin 8) (o : Op2)
  /-- CMP (R229) -/
  | cmp (p : Pos) (ds : Fin 8) (o : Op2)
  /-- MIN (R229) -/
  | min (p : Pos) (dd ds : Fin 8) (o : Op2)
  /-- MAX (R229) -/
  | max (p : Pos) (dd ds : Fin 8) (o : Op2)
  /-- ABS (R229) -/
  | abs (p : Pos) (dd ds : Fin 8)
  /-- NEG (R229) -/
  | neg (p : Pos) (dd ds : Fin 8)
  /-- SHL (R229) -/
  | shl (p : Pos) (dd ds : Fin 8) (o : Op2)
  /-- SHR (R229) -/
  | shr (p : Pos) (dd ds : Fin 8) (o : Op2)
  /-- SRA (R229) -/
  | sra (p : Pos) (dd ds : Fin 8) (o : Op2)
  /-- MUL (R226) -/
  | mul (p : Pos) (wn : Fin 2) (dx dy : Fin 8) (mode : MMode)
  /-- MAC (R226) -/
  | mac (p : Pos) (wn : Fin 2) (dx dy : Fin 8) (mode : MMode)
  /-- MSU (R226) -/
  | msu (p : Pos) (wn : Fin 2) (dx dy : Fin 8) (mode : MMode)
  /-- MACX (R226) -/
  | macx (p : Pos) (wn : Fin 2) (dx dy : Fin 8) (mode : MMode) (subtract : Bool) (x y : XLoad) (waits : Nat)
  /-- CLRW (R229) -/
  | clrw (p : Pos) (wn : Fin 2)
  /-- RDW (R227) -/
  | rdw (p : Pos) (dd : Fin 8) (wn : Fin 2) (part : Fin 3) (rnd sat : Bool)
  /-- MOVDW (R229) -/
  | movdw (p : Pos) (wn : Fin 2) (ds : Fin 8)
  /-- ADDW (R229) -/
  | addw (p : Pos) (wn : Fin 2)
  /-- SUBW (R229) -/
  | subw (p : Pos) (wn : Fin 2)
  /-- CMPW (R229) -/
  | cmpw (p : Pos)
  /-- ASH (R228) -/
  | ash (p : Pos) (wn : Fin 2) (count : AshCount)
  /-- NEGW (R229) -/
  | negw (p : Pos) (wn : Fin 2)
  /-- ABSW (R229) -/
  | absw (p : Pos) (wn : Fin 2)
  /-- NORM (R228) -/
  | norm (p : Pos) (dd : Fin 8) (wn : Fin 2)
  /-- TIN_EDGE (R242) -/
  | tinEdge (ch : Fin 8) (tap up : Bool) (stop : Fin 4) (code : BitVec 12)
  /-- TIC_DECISION_WINDOW (R246) -/
  | ticDecisionWindow (ch : Fin 8)
  /-- TIC_CAL_EVALUATE (R254) -/
  | ticCalEvaluate (ch : Fin 8)
  /-- TIC_CAL_CMD (R254) -/
  | ticCalCmd (m : Master) (ch : Fin 8) (value : Nat)
  /-- LOUPE_RUN_END (R253) -/
  | loupeRunEnd (ch : Fin 8) (hits : List Nat) (hard : Bool)
  /-- LOUPE_STEP (R254) -/
  | loupeStep (ch : Fin 8)
  /-- IP_HARD_FAILURE (R255) -/
  | ipHardFailure (ch : Fin 8) (ip : Fin 5) (held : Option (Fin 4))
  /-- MS_TIME_GATE_BOUNDARY (R262) -/
  | msTimeGateBoundary (sl : Fin 16)
  /-- MS_EXT_GATE_CHANGE (R263) -/
  | msExtGateChange (gate : Fin 9) (asserted : Bool) (cycle : Fin 4)
  /-- MS_RESULT (R273) -/
  | msResult (sl : Fin 16)
  /-- MS_ADEV_RESET (R275) -/
  | msAdevReset (m : Master) (sl : Fin 16) (value : Nat)
  /-- XO_COMP_UPDATE (R283) -/
  | xoCompUpdate (temp : BitVec 32)
  /-- XO_AGE_RATE_WRITE (R283) -/
  | xoAgeRateWrite (m : Master) (value : Nat)
  /-- PLLC_LOCK_GATE (R285) -/
  | pllcLockGate (start phase delta : Int) (refHz : BitVec 64)
  /-- PLLC_REF_LOST (R286) -/
  | pllcRefLost (cause : Fin 3) (average : BitVec 64)
  /-- PLLC_REF_RETURN (R287) -/
  | pllcRefReturn (refHz : BitVec 64)
  /-- PLLC_QUALIFIED (R289) -/
  | pllcQualified (measured : Int)
  /-- PPSIN_EDGE (R290) -/
  | ppsinEdge (after : Nat) (phase : Int)
  /-- PLLA_LOCK (R292) -/
  | pllaLock
  /-- PLLA_LOL_DETECT (R292) -/
  | pllaLolDetect
  /-- PLLA_LOL_CLR (R292) -/
  | pllaLolClr (m : Master) (value : Nat)
  /-- PLLA_RELOCK (R295) -/
  | pllaRelock (m : Master) (value : Nat)
  /-- PHASE_STEP (R297) -/
  | phaseStep (m : Master) (value : Nat)
  /-- PHASE_STEP_APPLY (R296) -/
  | phaseStepApply
  /-- TC_SET (R306) -/
  | tcSet (m : Master) (value : Nat)
  /-- TC_STEP (R304) -/
  | tcStep (m : Master) (value : Nat)
  /-- TC_STEP_ACCEPT (R305) -/
  | tcStepAccept (m : Master) (value : Nat)
  /-- TC_STEP_APPLY (R304) -/
  | tcStepApply
  /-- TC_SLEW (R303) -/
  | tcSlew (m : Master) (value : Nat)
  /-- TC_SLEW_DONE (R303) -/
  | tcSlewDone
  /-- TC_FREQ_ADJ_WRITE (R302) -/
  | tcFreqAdjWrite (m : Master) (value : Nat)
  /-- PPSOUT_PULSE (R308) -/
  | ppsoutPulse
  /-- SYNC_RECEIVED (R313) -/
  | syncReceived (p : Fin 2) (q : PtpMsg) (after : Nat)
  /-- DELAY_REQ_RECEIVED (R313) -/
  | delayReqReceived (p : Fin 2) (q : PtpMsg) (after : Nat)
  /-- PDELAY_REQ_RECEIVED (R313) -/
  | pdelayReqReceived (p : Fin 2) (q : PtpMsg) (after depart : Nat) (sfdOk : Bool)
  /-- PDELAY_RESP_RECEIVED (R313) -/
  | pdelayRespReceived (p : Fin 2) (q : PtpMsg) (after : Nat)
  /-- FOLLOW_UP_RECEIVED (R313) -/
  | followUpReceived (p : Fin 2) (q : PtpMsg)
  /-- DELAY_RESP_RECEIVED (R313) -/
  | delayRespReceived (p : Fin 2) (q : PtpMsg)
  /-- PDELAY_RESP_FOLLOW_UP_RECEIVED (R313) -/
  | pdelayRespFollowUpReceived (p : Fin 2) (q : PtpMsg)
  /-- ANNOUNCE_RECEIVED (R314) -/
  | announceReceived (p : Fin 2) (q : PtpMsg)
  /-- SIGNALING_RECEIVED (R313) -/
  | signalingReceived (p : Fin 2)
  /-- MANAGEMENT_RECEIVED (R313) -/
  | managementReceived (p : Fin 2)
  /-- SYNC_TX (R312) -/
  | syncTx (p : Fin 2) (depart : Nat) (sfdOk : Bool)
  /-- DELAY_REQ_TX (R313) -/
  | delayReqTx (p : Fin 2) (depart : Nat) (sfdOk : Bool)
  /-- PDELAY_REQ_TX (R313) -/
  | pdelayReqTx (p : Fin 2) (depart : Nat) (sfdOk : Bool)
  /-- ANNOUNCE_TX (R313) -/
  | announceTx (p : Fin 2)
  /-- ANNOUNCE_RECEIPT_TIMEOUT (R314) -/
  | announceReceiptTimeout (p : Fin 2)
  /-- FOLLOW_UP_TIMEOUT (R313) -/
  | followUpTimeout (p : Fin 2)
  /-- PTP_TC_FORWARD (R315) -/
  | ptpTcForward (p : Fin 2) (q : PtpMsg) (ingress egress : Nat) (sfdOk : Bool)
  /-- SERVO_HOLDOVER_TIMEOUT (R317) -/
  | servoHoldoverTimeout
  /-- ESMC_TX (R316) -/
  | esmcTx (p : Fin 2)
  /-- ESMC_RECEIVED (R316) -/
  | esmcReceived (p : Fin 2) (ql : Fin 16)
  /-- TA_VALID_SET (R320) -/
  | taValidSet (m : Master) (e : Fin 512)
  /-- TA_VALID_CLEAR (R319) -/
  | taValidClear (m : Master) (e : Fin 512)
  /-- TA_PLAN_COMMIT (R64) -/
  | taPlanCommit (lost : Bool)
  /-- TA_PHASE_STEP (R297) -/
  | taPhaseStep (e : Fin 512)
  /-- TA_DECIMATOR_SYNC (R114) -/
  | taDecimatorSync (e : Fin 512)
  /-- TA_CAPTURE_START (R163) -/
  | taCaptureStart (e : Fin 512)
  /-- TA_ARM (R264) -/
  | taArm (e : Fin 512)
  /-- TA_DISARM (R163) -/
  | taDisarm (e : Fin 512)
  /-- TA_TRIGGER (R320) -/
  | taTrigger (e : Fin 512)
  /-- TA_PULSE (R417) -/
  | taPulse (e : Fin 512)
  /-- TA_NOISE_TOGGLE (R320) -/
  | taNoiseToggle (e : Fin 512)
  /-- TA_DENSITY_SNAPSHOT (R189) -/
  | taDensitySnapshot (e : Fin 512)
  /-- TA_LACING_EPOCH (R325) -/
  | taLacingEpoch (e : Fin 512)
  /-- LACE_S_CMD (R325) -/
  | laceSCmd (m : Master) (value : Nat)
  /-- LACE_EPOCH (R325) -/
  | laceEpoch (cycle : Fin 8)
  /-- LACE_LAUNCH (R326) -/
  | laceLaunch
  /-- LACE_CANDIDATE (R327) -/
  | laceCandidate (lines : BitVec 4) (cycle : Fin 8)
  /-- LACE_VETO_DECISION (R328) -/
  | laceVetoDecision (vetoed : Bool)
  /-- LACE_CLK_LOST (R330) -/
  | laceClkLost (cause : Fin 2)
  /-- LACE_CLK_OK (R330) -/
  | laceClkOk (period : BitVec 64)
  /-- DR_CORRECTED_ERROR (R341) -/
  | drCorrectedError (ch : Fin 4) (pos : Fin 3)
  /-- DR_UE (R342) -/
  | drUe (port : Fin 12) (line : Nat)
  /-- DR_COMMAND_ERROR (R343) -/
  | drCommandError (line : Nat) (write : Bool)
  /-- DR_POISON_READ (R342) -/
  | drPoisonRead (port : Fin 12) (line : Nat)
  /-- DR_PATROL_SCRUB (R341) -/
  | drPatrolScrub (found : List (Fin 4 × Fin 3))
  /-- DR_MIG_START (R344) -/
  | drMigStart
  /-- DR_MIG_DONE (R344) -/
  | drMigDone
  /-- DR_MIG_ABORT (R346) -/
  | drMigAbort (lost : List Nat)
  /-- DR_REFRESH (R347) -/
  | drRefresh (ch : Fin 4)
  /-- DR_REFRESH_WINDOW (R348) -/
  | drRefreshWindow
  /-- DR_ROW_ACTIVATE (R348) -/
  | drRowActivate (sub : Fin 8) (pos : Fin 3) (bank : Fin 32) (row : Nat)
  /-- DR_HOT (R347) -/
  | drHot (ch : Fin 4) (temp : BitVec 32)
  /-- DR_PANIC_LONG (R349) -/
  | drPanicLong (port : Fin 12)
  /-- DR_TRAINING_DONE (R350) -/
  | drTrainingDone (found : List RankTrain)
  /-- DR_ZERO_DONE (R352) -/
  | drZeroDone
  /-- DMA_START (R357) -/
  | dmaStart (m : Master) (ch : Fin 64) (value : Nat)
  /-- DMA_NUDGE (R364) -/
  | dmaNudge (m : Master) (ch : Fin 64) (value : Nat)
  /-- DMA_STOP (R362) -/
  | dmaStop (m : Master) (ch : Fin 64) (value : Nat)
  /-- DMA_DESC_FETCH (R359) -/
  | dmaDescFetch (ch : Fin 64) (bytes : List Byte)
  /-- DMA_DESC_END (R362) -/
  | dmaDescEnd (ch : Fin 64) (moved : Nat) (data : List Byte)
  /-- DMA_HOST_ERROR (R362) -/
  | dmaHostError (ch : Fin 64) (data : List Byte)
  /-- ST_RECORD_CLOSE (R368) -/
  | stRecordClose (st : Fin 32)
  /-- ST_FLUSH_TIMEOUT (R368) -/
  | stFlushTimeout (st : Fin 32)
  /-- ST_VDIF_FRAME (R371) -/
  | stVdifFrame (st : Fin 32)
  /-- ST_HOST_RP_POLL (R373) -/
  | stHostRpPoll (st : Fin 32) (consumer : Nat)
  /-- ST_UDP_SEND (R374) -/
  | stUdpSend (st : Fin 32)
  /-- NV_ENUMERATE (R375) -/
  | nvEnumerate (found : List NvFound)
  /-- NV_CMD_COMPLETE (R381) -/
  | nvCmdComplete (ctrl : Fin 8) (ok : Bool)
  /-- NV_CMD_TIMEOUT (R381) -/
  | nvCmdTimeout (ctrl : Fin 8)
  /-- NV_CATALOGUE_WRITE (R379) -/
  | nvCatalogueWrite (d : Fin 8)
  /-- NV_TRIM_CMD (R381) -/
  | nvTrimCmd (m : Master) (d : Fin 8) (value : Nat)
  /-- NV_SMART_POLL (R376) -/
  | nvSmartPoll (ctrl : Fin 8) (temp : BitVec 32) (warn : Byte)
  /-- PCIE_LINK (R383) -/
  | pcieLink (lanes : Fin 17) (speed : Fin 6)
  /-- NV_ROOT_LINK (R383) -/
  | nvRootLink (lanes : Fin 9) (speed : Fin 6)
  /-- ETH_LINK_CHANGE (R384) -/
  | ethLinkChange (p : Fin 2) (link : Fin 3)
  /-- ETH_NEIGHBOUR_REQUEST (R384) -/
  | ethNeighbourRequest (p : Fin 2) (kind : Fin 3) (target : Nat)
  /-- CAN_TIMING_WRITE (R384) -/
  | canTimingWrite (m : Master) (object : Fin 5) (value : Nat)
  /-- CAN_BUS_OFF_RECOVERY (R384) -/
  | canBusOffRecovery
  /-- DP_HPD_RISE (R390) -/
  | dpHpdRise (h : Fin 2) (edid : List Byte)
  /-- DP_HPD_FALL (R390) -/
  | dpHpdFall (h : Fin 2)
  /-- DP_LINK_TRAINED (R390) -/
  | dpLinkTrained (h : Fin 2) (ok : Bool)
  /-- DP_TRAIN_RETRY (R390) -/
  | dpTrainRetry (h : Fin 2)
  /-- DP_COMMIT (R397) -/
  | dpCommit (m : Master) (h : Fin 2) (value : Nat)
  /-- DP_CLASP (R398) -/
  | dpClasp (h : Fin 2)
  /-- DP_FLIP (R391) -/
  | dpFlip (h : Fin 2)
  /-- DP_HALLMARK (R403) -/
  | dpHallmark (h : Fin 2) (errors : List (Nat × Byte))
  /-- GT_DUE (R409) -/
  | gtDue (t : Fin 8)
  /-- HK_SLOT_DELAY_EXPIRE (R410) -/
  | hkSlotDelayExpire (n : Fin 32)
  /-- HK_CONVERSION (R412) -/
  | hkConversion (code : BitVec 16)
  /-- HK_STEWARD_CONVERT (R410) -/
  | hkStewardConvert (codes : List (BitVec 16))
  /-- HK_SNAPSHOT (R412) -/
  | hkSnapshot (m : Master)
  /-- HK_SNAPSHOT_CLEAR (R412) -/
  | hkSnapshotClear (m : Master)
  /-- HK_CAL_ZERO (R414) -/
  | hkCalZero (m : Master) (input : Fin 32)
  /-- HK_CAL_FULL_SCALE (R414) -/
  | hkCalFullScale (m : Master) (input : Fin 32)
  /-- HK_CAL_APPLY (R414) -/
  | hkCalApply (m : Master) (input : Fin 32)
  /-- HK_CAL_DONE (R414) -/
  | hkCalDone (codes : List (BitVec 16))
  /-- HK_THRESHOLD_TRIM (R414) -/
  | hkThresholdTrim (codes : List (BitVec 16))
  /-- WM_CHANGE (R415) -/
  | wmChange (mon : Fin 12) (asserted : Bool)
  /-- PG_FIRE (R417) -/
  | pgFire (m : Master) (g : Fin 16) (value : Nat)
  /-- PG_PULSE_EDGE (R416) -/
  | pgPulseEdge (g : Fin 16)
  /-- PG_PPS_EDGE (R416) -/
  | pgPpsEdge (g : Fin 16)
  /-- PG_TRIP_CLR (R419) -/
  | pgTripClr (m : Master) (g : Fin 16) (value : Nat)
  /-- PG_TRIP_RELEASE (R419) -/
  | pgTripRelease (g : Fin 16)
  /-- EVENT_RAISE (R425) -/
  | eventRaise
  /-- EV_MOD_EXPIRE (R430) -/
  | evModExpire (v : Fin 2048)
  /-- EV_ADP_MOD_EXPIRE (R431) -/
  | evAdpModExpire (n : Fin 9)
  /-- MSIX_UNMASK (R429) -/
  | msixUnmask (v : Fin 2048)
  /-- EV_CLEAR (R426) -/
  | evClear (m : Master) (word : Fin 64) (value : Nat)
  /-- EV_RING_CONFIG_WRITE (R432) -/
  | evRingConfigWrite (m : Master) (size : Bool) (value : Nat)
  /-- FAULT_RAIL_CHANGE (R433) -/
  | faultRailChange (changes : List RailChange)
  /-- FAULT_MASKED_DROP (R441) -/
  | faultMaskedDrop (src : Fin 256)
  /-- STEWARD_WATCHDOG (R440) -/
  | stewardWatchdog
  /-- FR_TIMER_EXPIRE (R436) -/
  | frTimerExpire
  /-- FR_ACK (R438) -/
  | frAck (m : Master) (value : Nat)
  /-- FR_RELEASE (R439) -/
  | frRelease (m : Master) (value : Nat)
  /-- PWR_FLOOR_CHANGE (R449) -/
  | pwrFloorChange
  /-- PWR_DWELL_EXPIRE (R450) -/
  | pwrDwellExpire
  /-- PWR_WAKE (R450) -/
  | pwrWake (link : Bool)
  /-- PWR_TRANSITION_DONE (R447) -/
  | pwrTransitionDone
  /-- PWR_LTOL_WRITE (R452) -/
  | pwrLtolWrite (m : Master) (c : Fin 8) (value : Nat)
  /-- POWER_CAP_WRITE (R452) -/
  | powerCapWrite (m : Master) (value : Nat)
  /-- PWR_DOMAIN_ON (R453) -/
  | pwrDomainOn (m : Master) (dom : Fin 64)
  /-- PWR_DOMAIN_OFF (R453) -/
  | pwrDomainOff (m : Master) (dom : Fin 64)
  /-- QUIESCE_DONE (R454) -/
  | quiesceDone (dom : Fin 64)
  /-- QUIESCE_TIMEOUT (R454) -/
  | quiesceTimeout (dom : Fin 64)
  /-- GATED_DOMAIN_ACCESS (R446) -/
  | gatedDomainAccess (dom : Fin 64)
  /-- XC_WAKE_REQUEST (R457) -/
  | xcWakeRequest (dom : Fin 64)
  /-- PCIE_LINK_L23 (R449) -/
  | pcieLinkL23 (enter : Bool)
  /-- FIT_CMD (R463) -/
  | fitCmd (m : Master) (value : Nat)
  /-- FIT_ABANDON (R465) -/
  | fitAbandon (m : Master)
  /-- FIT_END (R466) -/
  | fitEnd (r : FitResult)
  /-- LEDGER_HOURS (R468) -/
  | ledgerHours
  /-- LEDGER_RECORD_WRITE (R469) -/
  | ledgerRecordWrite (verified : Bool)
  /-- LEDGER_COMPACT (R470) -/
  | ledgerCompact
  /-- CAL_STORE_CMD (R475) -/
  | calStoreCmd (m : Master) (value : Nat)
  /-- CAL_STORE_STALE_WRITE (R475) -/
  | calStoreStaleWrite
  /-- STORE_WRITE_DONE (R473) -/
  | storeWriteDone (store : Fin 2) (verified : Bool)
  /-- PORST_ASSERT (R478) -/
  | porstAssert
  /-- PORST_RELEASE (R479) -/
  | porstRelease (bootSel : Fin 4)
  /-- BOOT_VERIFY_DONE (R481) -/
  | bootVerifyDone (ok : Bool)
  /-- DICTIONARY_READY (R485) -/
  | dictionaryReady
  /-- STARTUP_PLAN_COMMIT (R487) -/
  | startupPlanCommit
  /-- STARTUP_CALIBRATION_DONE (R485) -/
  | startupCalibrationDone (convs : List CalMeas) (hits : List (List Nat)) (links : List Nat)
  /-- DEV_READY (R485) -/
  | devReady
  /-- FW_IMAGE_WRITE (R482) -/
  | fwImageWrite (m : Master) (slotB : Bool) (image : List Byte) (signed readBack : Bool)
  /-- RECOVERY_CMD (R484) -/
  | recoveryCmd (m : Master) (value : Nat) (aperture : List Byte)
  /-- RESET_CMD (R488) -/
  | resetCmd (m : Master) (value : Nat)
  /-- PERST_ASSERT (R489) -/
  | perstAssert
  /-- PERST_RELEASE (R486) -/
  | perstRelease
  /-- PCIE_HOST_CONNECT (R55) -/
  | pcieHostConnect
  /-- ADP_UNKNOWN_TYPE (R52) -/
  | adpUnknownType (type : Byte) (q : AdpMsg)
  /-- CAN_BUS_OFF (R384) -/
  | canBusOff
  /-- DQS_OSCILLATOR_TRACK (R350) -/
  | dqsOscillatorTrack
  /-- DR_TEMP_REPORT (R347) -/
  | drTempReport (ch : Fin 4) (pos : Fin 3) (temp : BitVec 32)
deriving DecidableEq, Repr

end Sys2Proof
end

