-- ==== Sys2Proof/Decode.lean ====
section
/-! DEFINITION. The decoder of the command table. No row of the table of operations and events gives any bits (each row's
list of fields is empty: a command is an occurrence at a pin, a bus or a clock, not a word), so no word spells a
command. The words of awl programs, which the spec does encode, are decoded in Machine/AwlWord.lean. -/

namespace Sys2Proof

/-- The command that a word of the table spells: none, for no row gives bits. -/
def decodeTableWord (_nbits _w : Nat) : Option Instr := none

end Sys2Proof
end

