-- ==== Sys2Proof/Config.lean ====
section
/-! DEFINITION. What the spec leaves to the implementation: the free values. Each is a constant without a
body, so no proof can rest on a number chosen for it. Which log entry names each stands beside it. -/

namespace Sys2Proof.Config

/-- The n-th session nonce of 8 bytes: "a fresh random NONCE" (R48; log entry 5). -/
opaque nonce : Nat → BitVec 64

/-- Code of 1.0 in the 18-bit sine and cosine of the NCO, whose scale R104 leaves open (log entry 2). -/
opaque ncoPeak : Nat

/-- Coefficient of a short halfband stage at a distance from its centre: "fixed" and not stated (R104, R107; log entry 2). -/
opaque halfbandShort : Nat → Int

/-- As `halfbandShort`, of the last stage, which has 47 taps. -/
opaque halfbandLong : Nat → Int

/-- Fraction bits of those coefficients (log entry 2). -/
opaque halfbandBits : Nat

/-- What the transform's own rounding adds to a bin, in units of 2^-40: a function of the folded samples and the bin, since equal
input gives equal spectra (R148); R130 bounds only its density (log entry 6). -/
opaque transformNoise : List (Int × Int) → Nat → Int × Int

/-- What the n-th change of `DR_ADDR_ORDER` makes of the byte at an address: "the contents of DRAM are undefined" (R337; log entry 193). -/
opaque orderMask : Nat → Nat → BitVec 8

/-- How much of a fitting has completed, per mille, where the spec gives its run no length: by the pool and the elapsed time of the
fitting, 2^-64 ns (`FIT_PROGRESS`; log entry 179). -/
opaque fitPart : Nat → Nat → Nat

/-- A value that an instruction leaves open, the n-th such value (log entry 7). -/
opaque freeValue : Nat → Nat

end Sys2Proof.Config
end

