-- ==== Sys2Proof/Machine/Num.lean ====
section
/-! DEFINITION. Numbers the spec computes with: rounding half to even, IEEE 754 binary32 and binary64
(00_scope.md, "Numbers and units"), and T96 device time (R4 to R6). A value is held as its bit pattern and
computed on as an exact rational; it is narrowed once, at the end. -/

namespace Sys2Proof

/-- The integer nearest to `n / d`, ties to even; `d` is positive. -/
def rneDiv (n : Int) (d : Nat) : Int :=
  let q := n / (d : Int)
  let r := n % (d : Int)
  if 2 * r < d then q else if (d : Int) < 2 * r then q + 1 else if q % 2 = 0 then q else q + 1

/-- The integer nearest to a rational, ties to even. -/
def rne (x : Rat) : Int := rneDiv x.num x.den

/-- Magnitude of a rational. -/
def ratAbs (x : Rat) : Rat := if x < 0 then -x else x

/-- A power of two with an integer exponent. -/
def pow2 (e : Int) : Rat := if 0 ≤ e then ((2 ^ e.toNat : Nat) : Rat) else 1 / ((2 ^ (-e).toNat : Nat) : Rat)

/-- The greatest `e` with `2 ^ e ≤ x`, for a positive `x`. -/
def ilog2 (x : Rat) : Int :=
  let e : Int := (x.num.toNat.log2 : Int) - (x.den.log2 : Int)
  if pow2 e ≤ x then e else e - 1

/-- A binary floating-point format: `m` bits of fraction, exponent field of `w` bits. -/
structure FloatFmt where
  /-- fraction bits -/
  m : Nat
  /-- exponent bits -/
  w : Nat
deriving DecidableEq, Repr

/-- binary32 -/
def FloatFmt.f32 : FloatFmt := ⟨23, 8⟩
/-- binary64 -/
def FloatFmt.f64 : FloatFmt := ⟨52, 11⟩

/-- The exponent bias of a format. -/
def FloatFmt.bias (f : FloatFmt) : Nat := 2 ^ (f.w - 1) - 1

/-- The value of a pattern; an infinity reads as the first power of two past the finite range,
with its sign, and a NaN as 0 (R31 refuses a NaN on every write). -/
def FloatFmt.toRat (f : FloatFmt) (v : Nat) : Rat :=
  let e := bits v (f.m + f.w - 1) f.m
  let fr := v % 2 ^ f.m
  let neg := v.testBit (f.m + f.w)
  let mag : Rat :=
    if e = 2 ^ f.w - 1 then (if fr = 0 then pow2 (f.bias + 1) else 0)
    else if e = 0 then (fr : Rat) * pow2 (1 - (f.bias : Int) - f.m)
    else ((2 ^ f.m + fr : Nat) : Rat) * pow2 ((e : Int) - f.bias - f.m)
  if neg then -mag else mag

/-- Whether a pattern is a NaN. -/
def FloatFmt.isNaN (f : FloatFmt) (v : Nat) : Bool :=
  bits v (f.m + f.w - 1) f.m == 2 ^ f.w - 1 && v % 2 ^ f.m != 0

/-- A rational rounded once to a format, half to even; past the largest finite value it is an infinity. -/
def FloatFmt.ofRat (f : FloatFmt) (x : Rat) : Nat :=
  if x = 0 then 0 else
  let s := if x < 0 then 2 ^ (f.m + f.w) else 0
  let a := if x < 0 then -x else x
  let emin : Int := 1 - (f.bias : Int)
  let e0 := ilog2 a
  let e := if e0 < emin then emin else e0
  let q := (rne (a * pow2 (f.m - e))).toNat
  let big := (e + f.bias - 1).toNat * 2 ^ f.m + q
  if (2 ^ f.w - 1) * 2 ^ f.m ≤ big then s + (2 ^ f.w - 1) * 2 ^ f.m else s + big

/-- The value of a binary64 pattern. -/
def f64 (v : Nat) : Rat := FloatFmt.f64.toRat v
/-- The value of a binary32 pattern. -/
def f32 (v : Nat) : Rat := FloatFmt.f32.toRat v
/-- A rational as a binary64 pattern. -/
def toF64 (x : Rat) : Nat := FloatFmt.f64.ofRat x
/-- A rational as a binary32 pattern. -/
def toF32 (x : Rat) : Nat := FloatFmt.f32.ofRat x

/-- The floor of the square root of a rational scaled by `2 ^ (2 * k)`, as an integer in units of `2 ^ -k`,
with one sticky bit below it, so that one further rounding is exact half to even. -/
def sqrtSticky (x : Rat) (k : Nat) : Nat :=
  let n := x.num.toNat * 2 ^ (2 * k)
  let q := n / x.den
  let r := Nat.sqrt q
  2 * r + (if r * r = q ∧ n % x.den = 0 then 0 else 1)

/-- The square root of a rational rounded to a format: 0 for a value not above 0. -/
def FloatFmt.sqrt (f : FloatFmt) (x : Rat) : Nat :=
  if x ≤ 0 then 0 else
  let k := 2 * f.m + (-(ilog2 x)).toNat + 8
  f.ofRat ((sqrtSticky x k : Rat) * pow2 (-(k : Int) - 1))

/-- Whether `10 ^ (n / 2560) ≤ x`, exactly, for a positive `x` (R139). -/
def dbLe (n : Int) (den : Nat) (x : Rat) : Bool :=
  let a := x.num.toNat ^ den
  let b := x.den ^ den
  if 0 ≤ n then 10 ^ n.toNat * b ≤ a else b ≤ 10 ^ (-n).toNat * a

/-- The greatest `n` in `lo ..< lo + 2 ^ k` with `10 ^ (n / den) ≤ x`, by halving. -/
def dbFloor (den : Nat) (x : Rat) : Nat → Int → Int
  | 0, lo => lo
  | k + 1, lo =>
    let mid := lo + ((2 ^ k : Nat) : Int)
    if dbLe mid den x then dbFloor den x k mid else dbFloor den x k lo

/-- `2,560 × log10 x` rounded half to even, for a positive `x` (R139; in units of 1/256 dB). A positive
rational is never exactly half way, since `10 ^ (odd / 5,120)` is irrational, so the half-way test is on which
side of it the value lies. -/
def log2560 (x : Rat) : Int :=
  let n := dbFloor 5120 x 19 (-262144)
  (n + 1) / 2

/-! ### T96 device time (R4 to R6) -/

/-- One second in units of `2 ^ -16` ns. -/
def T96.second : Nat := 1000000000 * 65536

/-- A T96 value as a count of `2 ^ -16` ns since the epoch. -/
def T96.toTicks (t : Nat) : Nat := (t >>> 48) * T96.second + t % 2 ^ 48

/-- A count of `2 ^ -16` ns as a T96 value, its nanoseconds below 10^9 (R5); seconds keep 48 bits. -/
def T96.ofTicks (n : Nat) : Nat := ((n / T96.second) % 2 ^ 48) * 2 ^ 48 + n % T96.second

/-- Whether a 96-bit pattern is a T96 value: nanoseconds at most 999,999,999 (R5). -/
def T96.ok (t : Nat) : Bool := bits t 47 16 ≤ 999999999 && t < 2 ^ 96

/-- The time counter (in `2 ^ -64` ns) as the T96 value every stamp reads: rounded half to even to
`2 ^ -16` ns, a carry going into nanoseconds and seconds (R301). -/
def T96.ofCounter (c : Nat) : Nat := T96.ofTicks (rneDiv (c : Int) (2 ^ 48)).toNat

end Sys2Proof
end

