-- ==== Sys2Proof/Machine/Store.lean ====
section
/-! DEFINITION. Sparse data by key, in one canonical form: a list of key and value pairs, keys strictly
rising, no entry equal to the default that an unlisted key reads as. Every bank of registers, table of units and
memory of the model is one of these. -/

namespace Sys2Proof

/-- Sparse data by key. -/
abbrev Map (α : Type) := List (Nat × α)

/-- The value at a key, `d` where none is listed. -/
def Map.get {α : Type} (m : Map α) (d : α) (k : Nat) : α :=
  match m with
  | [] => d
  | (k', v) :: r => if k' = k then v else Map.get r d k

/-- Insert a pair before the first greater key. -/
def Map.ins {α : Type} (k : Nat) (v : α) : Map α → Map α
  | [] => [(k, v)]
  | (k', v') :: r => if k < k' then (k, v) :: (k', v') :: r else (k', v') :: Map.ins k v r

/-- Drop a key. -/
def Map.del {α : Type} (m : Map α) (k : Nat) : Map α := m.filter (fun p => p.1 != k)

/-- Set a key; the default removes the entry, so equal contents are equal lists. -/
def Map.put {α : Type} [DecidableEq α] (m : Map α) (d : α) (k : Nat) (v : α) : Map α :=
  if v = d then Map.del m k else Map.ins k v (Map.del m k)

/-- The canonical form, for a default that may differ by key. -/
def Map.wf {α : Type} [DecidableEq α] (d : Nat → α) : Map α → Bool
  | [] => true
  | [(k, v)] => v != d k
  | (k, v) :: (k', v') :: r => v != d k && decide (k < k') && Map.wf d ((k', v') :: r)

/-- The dictionary's scalar values and T96 values, as bit patterns by key. -/
abbrev Store := Map Nat

/-- Bytes at consecutive addresses, written one by one (a byte memory whose unlisted bytes read 0, R352). -/
def Map.putBytes (m : Map Byte) (a : Nat) : List Byte → Map Byte
  | [] => m
  | b :: bs => Map.putBytes (Map.put m 0 a b) (a + 1) bs

/-- `n` bytes at consecutive addresses. -/
def Map.getBytes (m : Map Byte) (a : Nat) : Nat → List Byte
  | 0 => []
  | n + 1 => Map.get m 0 a :: Map.getBytes m (a + 1) n

end Sys2Proof
end

