-- ==== Sys2Proof/Machine/Dict.lean ====
section
/-! DEFINITION. The object dictionary (spec 02_dictionary.md and the object table of every chapter): one row per line
of an object table, with its index and subindex ranges, type (Table 2.2), access class (Table 2.3), default, persistence flag,
value check and the bits that are not reserved (R10). The name before each group is the table it follows. -/

namespace Sys2Proof.Machine

/-- Object types in the order of Table 2.2; no object of this edition has type STR. -/
inductive Ty where
  | bool | u8 | u16 | u32 | u64 | i16 | i32 | i64 | f32 | f64 | t96 | str | domain
deriving DecidableEq, Repr

/-- Size in bytes of a value of the type (R31); 0 for the types without a fixed size. -/
def Ty.size : Ty → Nat
  | .bool => 1 | .u8 => 1 | .u16 => 2 | .u32 => 4 | .u64 => 8 | .i16 => 2 | .i32 => 4 | .i64 => 8
  | .f32 => 4 | .f64 => 8 | .t96 => 12 | .str => 0 | .domain => 0

/-- TYPECODE of an ADP READ reply: the types in table order from 1 (R46). -/
def Ty.code : Ty → Nat
  | .bool => 1 | .u8 => 2 | .u16 => 3 | .u32 => 4 | .u64 => 5 | .i16 => 6 | .i32 => 7 | .i64 => 8
  | .f32 => 9 | .f64 => 10 | .t96 => 11 | .str => 12 | .domain => 13

/-- Whether a BAR0 slot holds the object: every type but T96, STR and DOMAIN (R39). -/
def Ty.scalar : Ty → Bool
  | .t96 => false | .str => false | .domain => false | _ => true

/-- Access classes (Table 2.3). -/
inductive Cls where
  | ro | rw | wo | own | plan | live
deriving DecidableEq, Repr

/-- What the object's table states of its value: nothing beyond the type; a range of integers; a range of numbers, its
ends as patterns of the object's own type; above 0; above 0 up to a pattern; 0 or above; a multiple of `n` in a range; one of a
list; an upper 16-bit field that is not 0; four unit numbers, 0 to 15 or 0xFF; or the counts of a density region (Table 7.10). -/
inductive Chk where
  | any
  | rng (lo hi : Int)
  | frng (lo hi : Nat)
  | fpos
  | fposTo (hi : Nat)
  | zrng (lo hi : Nat)
  | fge0
  | mul (n lo hi : Nat)
  | one (vs : List Nat)
  | top16
  | units
  | region
deriving DecidableEq, Repr

/-- One line of an object table. Instance `i` lies at index `idx + ist * i`, instance `j` of it at subindex
`sub + sst * j`. -/
structure Row where
  /-- first index -/
  idx : Nat
  /-- first subindex -/
  sub : Nat
  /-- type -/
  ty : Ty
  /-- access class -/
  cls : Cls
  /-- index step per unit -/
  ist : Nat := 1
  /-- units -/
  icnt : Nat := 1
  /-- subindex step -/
  sst : Nat := 1
  /-- subindices -/
  scnt : Nat := 1
  /-- defaults: one for all, or one per instance, the last repeating -/
  dfl : List Nat := [0]
  /-- the defaults repeat over the index and not the subindex -/
  byIdx : Bool := false
  /-- persistence flag (R36) -/
  pers : Bool := false
  /-- value check -/
  chk : Chk := .any
  /-- bits that are not reserved (R10) -/
  mask : Nat := 2 ^ 96 - 1
  /-- defined for the PCI Express host alone (R33, R42, R56) -/
  host : Bool := false
deriving DecidableEq, Repr

/-- Index and subindex of an instance as one number, index × 256 + subindex. -/
def Row.key (r : Row) (i j : Nat) : Nat := (r.idx + r.ist * i) * 256 + (r.sub + r.sst * j)

/-- The default of an instance. -/
def Row.default (r : Row) (i j : Nat) : Nat :=
  if r.byIdx then r.dfl.getD (i % r.dfl.length) 0 else r.dfl.getD j (r.dfl.getLast?.getD 0)

/-- The instance of a row at an index and subindex. -/
def Row.inst (r : Row) (index subindex : Nat) : Option (Nat × Nat) :=
  if index < r.idx then none
  else if subindex < r.sub then none
  else
    let di := index - r.idx
    let dj := subindex - r.sub
    if di % r.ist = 0 then
      if dj % r.sst = 0 then
        if di / r.ist < r.icnt then
          if dj / r.sst < r.scnt then some (di / r.ist, dj / r.sst) else none
        else none
      else none
    else none

namespace O

/-! 00_scope.md R3, Table 0.3 -/

/-- ID_PART -/
def idPart : Row where
  idx := 0x100; sub := 0x1; ty := .u32; cls := .ro; dfl := [29718]
/-- ID_STEPPING -/
def idStepping : Row where
  idx := 0x100; sub := 0x2; ty := .u8; cls := .ro; dfl := [11]
/-- FW_VERSION -/
def fwVersion : Row where
  idx := 0x100; sub := 0x3; ty := .u32; cls := .ro; dfl := [0x30001]
/-! 22_startup.md R490, Table 22.4 -/

/-- BOOT_SEL: sampled; DESIGN CHOICE 0 -/
def bootSel : Row where
  idx := 0x100; sub := 0x10; ty := .u8; cls := .ro
/-- BOOT_SLOT -/
def bootSlot : Row where
  idx := 0x100; sub := 0x11; ty := .u8; cls := .ro
/-- BOOT_STATUS -/
def bootStatus : Row where
  idx := 0x100; sub := 0x12; ty := .u16; cls := .ro
/-- RESET_CAUSE -/
def resetCause : Row where
  idx := 0x100; sub := 0x13; ty := .u8; cls := .ro; dfl := [1]
/-- READY_STATE -/
def readyState : Row where
  idx := 0x100; sub := 0x14; ty := .u8; cls := .ro
/-- READY_MS -/
def readyMs : Row where
  idx := 0x100; sub := 0x15; ty := .u32; cls := .ro
/-- RESET_CMD -/
def resetCmd : Row where
  idx := 0x100; sub := 0x16; ty := .u32; cls := .wo
/-- SVN_MIN: fuses; DESIGN CHOICE 0 -/
def svnMin : Row where
  idx := 0x100; sub := 0x17; ty := .u16; cls := .ro
/-- RECOVERY_CMD -/
def recoveryCmd : Row where
  idx := 0x100; sub := 0x18; ty := .u8; cls := .wo
/-! 02_dictionary.md R56, Table 2.9 -/

/-- OWNER_ID -/
def ownerId : Row where
  idx := 0x200; sub := 0x1; ty := .u8; cls := .ro
/-- OWNER_STATE -/
def ownerState : Row where
  idx := 0x200; sub := 0x2; ty := .u8; cls := .ro
/-- LEASE_TIME -/
def leaseTime : Row where
  idx := 0x200; sub := 0x3; ty := .u32; cls := .own; dfl := [2000]; pers := true; chk := .rng (100) 60000
/-- LEASE_LEFT -/
def leaseLeft : Row where
  idx := 0x200; sub := 0x4; ty := .u32; cls := .ro
/-- SUCCESSOR_ID -/
def successorId : Row where
  idx := 0x200; sub := 0x5; ty := .u8; cls := .ro
/-- OWNER_SINCE -/
def ownerSince : Row where
  idx := 0x200; sub := 0x6; ty := .t96; cls := .ro
/-- MY_ID: reads the reader's own ID -/
def myId : Row where
  idx := 0x200; sub := 0x7; ty := .u8; cls := .rw
/-- PCIE_CLAIM -/
def pcieClaim : Row where
  idx := 0x200; sub := 0x10; ty := .u8; cls := .wo; host := true
/-- PCIE_RENEW -/
def pcieRenew : Row where
  idx := 0x200; sub := 0x11; ty := .u8; cls := .wo; chk := .one [1]; host := true
/-- PCIE_HANDOVER -/
def pcieHandover : Row where
  idx := 0x200; sub := 0x12; ty := .u8; cls := .wo; host := true
/-- PCIE_ACCEPT -/
def pcieAccept : Row where
  idx := 0x200; sub := 0x13; ty := .u8; cls := .wo; chk := .one [1]; host := true
/-- PCIE_LAST_ABORT -/
def pcieLastAbort : Row where
  idx := 0x200; sub := 0x14; ty := .u32; cls := .ro
/-- READ_VIEW -/
def readView : Row where
  idx := 0x200; sub := 0x15; ty := .u8; cls := .rw; chk := .rng (0) 1
/-- SESS_OPEN -/
def sessOpen : Row where
  idx := 0x200; sub := 0x20; ty := .u16; cls := .ro
/-- ADP_IDLE -/
def adpIdle : Row where
  idx := 0x200; sub := 0x21; ty := .u32; cls := .own; dfl := [30000]; pers := true; chk := .rng (1000) 600000
/-- ADP_AUTH_FAIL -/
def adpAuthFail : Row where
  idx := 0x200; sub := 0x22; ty := .u32; cls := .ro
/-- CAN_NODE -/
def canNode : Row where
  idx := 0x200; sub := 0x23; ty := .u8; cls := .own; dfl := [16]; pers := true; chk := .rng (1) 127
/-- CAN_FRAG_ERR -/
def canFragErr : Row where
  idx := 0x200; sub := 0x24; ty := .u32; cls := .ro
/-! 02_dictionary.md R42, Table 2.4 -/

/-- MBX_TARGET -/
def mbxTarget : Row where
  idx := 0x220; sub := 0x1; ty := .u32; cls := .rw; mask := 0xFFFFFF01; host := true
/-- MBX_OFFSET -/
def mbxOffset : Row where
  idx := 0x220; sub := 0x2; ty := .u32; cls := .rw; host := true
/-- MBX_LENGTH -/
def mbxLength : Row where
  idx := 0x220; sub := 0x3; ty := .u32; cls := .rw; chk := .rng (0) 2048; host := true
/-- MBX_TOTAL -/
def mbxTotal : Row where
  idx := 0x220; sub := 0x4; ty := .u32; cls := .rw; host := true
/-- MBX_CMD -/
def mbxCmd : Row where
  idx := 0x220; sub := 0x5; ty := .u32; cls := .wo; chk := .rng (1) 6; host := true
/-- MBX_STATUS -/
def mbxStatus : Row where
  idx := 0x220; sub := 0x6; ty := .u32; cls := .ro; host := true
/-- MBX_ABORT -/
def mbxAbort : Row where
  idx := 0x220; sub := 0x7; ty := .u32; cls := .ro; host := true
/-- MBX_RESULT_LEN -/
def mbxResultLen : Row where
  idx := 0x220; sub := 0x8; ty := .u32; cls := .ro; host := true
/-- MBX_DATA -/
def mbxData : Row where
  idx := 0x221; sub := 0x0; ty := .u64; cls := .rw; sst := 1; scnt := 256; host := true
/-! 02_dictionary.md R51 -/

/-- ADP_KEY: 32 zero bytes -/
def adpKey : Row where
  idx := 0x8010; sub := 0x1; ty := .domain; cls := .own; sst := 1; scnt := 8; pers := true
/-! 03_plans.md R80, Table 3.6 -/

/-- PLAN_CMD -/
def planCmd : Row where
  idx := 0x300; sub := 0x1; ty := .u32; cls := .wo; chk := .rng (1) 6
/-- ADM_RESULT -/
def admResult : Row where
  idx := 0x300; sub := 0x2; ty := .u8; cls := .ro
/-- ADM_OBJECT -/
def admObject : Row where
  idx := 0x300; sub := 0x3; ty := .u32; cls := .ro
/-- ADM_OBJECT2 -/
def admObject2 : Row where
  idx := 0x300; sub := 0x4; ty := .u32; cls := .ro
/-- ADM_VALUE -/
def admValue : Row where
  idx := 0x300; sub := 0x5; ty := .f64; cls := .ro
/-- ADM_LIMIT -/
def admLimit : Row where
  idx := 0x300; sub := 0x6; ty := .f64; cls := .ro
/-- PLAN_STATE -/
def planState : Row where
  idx := 0x300; sub := 0x7; ty := .u8; cls := .ro
/-- PLAN_GEN -/
def planGen : Row where
  idx := 0x300; sub := 0x8; ty := .u32; cls := .ro
/-- PENDING_TIME -/
def pendingTime : Row where
  idx := 0x300; sub := 0x9; ty := .t96; cls := .own
/-- COMMIT_TIME -/
def commitTime : Row where
  idx := 0x300; sub := 0xA; ty := .t96; cls := .ro
/-- ADM_FAIL_MASK -/
def admFailMask : Row where
  idx := 0x300; sub := 0xB; ty := .u32; cls := .ro
/-- PENDING_LATE_OK -/
def pendingLateOk : Row where
  idx := 0x300; sub := 0xC; ty := .bool; cls := .own
/-- POWER_CAP -/
def powerCap : Row where
  idx := 0x300; sub := 0x10; ty := .f32; cls := .own; dfl := [0x42340000]; pers := true; chk := .frng 0x40A00000 0x42340000
/-- ADM_POWER_EST -/
def admPowerEst : Row where
  idx := 0x300; sub := 0x11; ty := .f32; cls := .ro
/-- ACTIVE_POWER_EST -/
def activePowerEst : Row where
  idx := 0x300; sub := 0x12; ty := .f32; cls := .ro
/-! 20_power.md R459, Table 20.5 -/

/-- PWR_STATE -/
def pwrState : Row where
  idx := 0x400; sub := 0x1; ty := .u8; cls := .ro
/-- PWR_FLOOR_PLAN -/
def pwrFloorPlan : Row where
  idx := 0x400; sub := 0x2; ty := .u8; cls := .ro; dfl := [4]
/-- PWR_FLOOR_LAT -/
def pwrFloorLat : Row where
  idx := 0x400; sub := 0x3; ty := .u8; cls := .ro; dfl := [3]
/-- PWR_DWELL -/
def pwrDwell : Row where
  idx := 0x400; sub := 0x4; ty := .u32; cls := .own; dfl := [10000]; pers := true; chk := .rng (100) 10000000
/-- QUIESCE_MAX -/
def quiesceMax : Row where
  idx := 0x400; sub := 0x5; ty := .u32; cls := .own; dfl := [100]; pers := true; chk := .rng (1) 100000
/-- PWR_OFF_MASK -/
def pwrOffMask : Row where
  idx := 0x400; sub := 0x6; ty := .u64; cls := .plan; pers := true; mask := 0x7FFFFFFFFE
/-- PWR_DOMAIN_CMD -/
def pwrDomainCmd : Row where
  idx := 0x400; sub := 0x7; ty := .u16; cls := .wo; mask := 0x13F
/-- PWR_HELD_OFF -/
def pwrHeldOff : Row where
  idx := 0x400; sub := 0x8; ty := .u64; cls := .ro
/-- PWR_DOMAIN_ON: no default stated; P0 holds every domain on (Table 20.2) -/
def pwrDomainOn : Row where
  idx := 0x400; sub := 0x9; ty := .u64; cls := .ro; dfl := [0x7FFFFFFFFF]
/-- PWR_P0_EST -/
def pwrP0Est : Row where
  idx := 0x400; sub := 0xA; ty := .f32; cls := .ro
/-- PWR_WAKES -/
def pwrWakes : Row where
  idx := 0x400; sub := 0xB; ty := .u32; cls := .ro
/-- PWR_EXIT_NS: Table 20.2; P0 has no exit latency: 0 -/
def pwrExitNs : Row where
  idx := 0x401; sub := 0x0; ty := .u32; cls := .ro; sst := 1; scnt := 5; dfl := [0, 200, 20000, 0x1E8480, 0x3938700]
/-- PWR_LTOL -/
def pwrLtol : Row where
  idx := 0x402; sub := 0x0; ty := .u32; cls := .own; sst := 1; scnt := 8; dfl := [0x4C4B40, 0xFFFFFFFF]; pers := true
/-- XC_OVERRUN -/
def xcOverrun : Row where
  idx := 0x403; sub := 0x1; ty := .u64; cls := .ro
/-- XC_OVERRUN_CLR -/
def xcOverrunClr : Row where
  idx := 0x403; sub := 0x2; ty := .u64; cls := .wo
/-! 19_events_faults.md R432, Table 19.2 -/

/-- EV_ENABLE -/
def evEnable : Row where
  idx := 0x500; sub := 0x1; ty := .u32; cls := .own; ist := 0x1; icnt := 64; dfl := [0xFFFFFFFF]; pers := true
/-- EV_PENDING -/
def evPending : Row where
  idx := 0x500; sub := 0x2; ty := .u32; cls := .ro; ist := 0x1; icnt := 64
/-- EV_CLEAR -/
def evClear : Row where
  idx := 0x500; sub := 0x3; ty := .u32; cls := .wo; ist := 0x1; icnt := 64
/-- EV_ROUTE -/
def evRoute : Row where
  idx := 0x500; sub := 0x20; ty := .u32; cls := .own; ist := 0x1; icnt := 64; sst := 1; scnt := 32; pers := true; mask := 0x1FFFF
/-- EV_MOD_US -/
def evModUs : Row where
  idx := 0x540; sub := 0x20; ty := .u32; cls := .own; ist := 0x1; icnt := 64; sst := 1; scnt := 32; pers := true; chk := .rng (0) 65535
/-- EV_RING_BASE -/
def evRingBase : Row where
  idx := 0x580; sub := 0x1; ty := .u64; cls := .own; pers := true; chk := .mul 4096 0 18446744073709551615
/-- EV_RING_SIZE -/
def evRingSize : Row where
  idx := 0x580; sub := 0x2; ty := .u64; cls := .own; pers := true; chk := .mul 4096 0 18446744073709551615
/-- EV_RING_WP_ADDR -/
def evRingWpAddr : Row where
  idx := 0x580; sub := 0x3; ty := .u64; cls := .own; pers := true; chk := .mul 8 0 18446744073709551615
/-- EV_RING_SEQ -/
def evRingSeq : Row where
  idx := 0x580; sub := 0x4; ty := .u32; cls := .ro
/-- EV_MERGED -/
def evMerged : Row where
  idx := 0x580; sub := 0x5; ty := .u32; cls := .ro
/-- EV_ADP_MOD_US -/
def evAdpModUs : Row where
  idx := 0x580; sub := 0x6; ty := .u32; cls := .rw; dfl := [1000]; chk := .rng (10) 1000000
/-! 19_events_faults.md R442, Table 19.6 -/

/-- FR_STATE -/
def frState : Row where
  idx := 0x600; sub := 0x1; ty := .u8; cls := .ro
/-- FR_FIRST -/
def frFirst : Row where
  idx := 0x600; sub := 0x2; ty := .u16; cls := .ro
/-- FR_FIRST_T96 -/
def frFirstT96 : Row where
  idx := 0x600; sub := 0x3; ty := .t96; cls := .ro
/-- FR_FIRST_DATA -/
def frFirstData : Row where
  idx := 0x600; sub := 0x4; ty := .u64; cls := .ro
/-- FR_OVERFLOW -/
def frOverflow : Row where
  idx := 0x600; sub := 0x5; ty := .bool; cls := .ro
/-- FR_ACK -/
def frAck : Row where
  idx := 0x600; sub := 0x6; ty := .u16; cls := .wo
/-- FR_TIMER -/
def frTimer : Row where
  idx := 0x600; sub := 0x7; ty := .u32; cls := .own; dfl := [10000]; pers := true; chk := .rng (1) 65000
/-- FR_RELEASE -/
def frRelease : Row where
  idx := 0x600; sub := 0x8; ty := .u8; cls := .wo; chk := .one [1]
/-- FR_SAFE -/
def frSafe : Row where
  idx := 0x600; sub := 0x9; ty := .bool; cls := .ro
/-- FR_RAW -/
def frRaw : Row where
  idx := 0x601; sub := 0x1; ty := .u64; cls := .ro; sst := 1; scnt := 4
/-- FR_WIRE -/
def frWire : Row where
  idx := 0x601; sub := 0x5; ty := .u64; cls := .ro; sst := 1; scnt := 4
/-- FR_MASK -/
def frMask : Row where
  idx := 0x602; sub := 0x1; ty := .u64; cls := .own; sst := 1; scnt := 4; pers := true
/-- FR_COUNT -/
def frCount : Row where
  idx := 0x610; sub := 0x0; ty := .u32; cls := .ro; sst := 1; scnt := 256
/-! 13_clocks.md R299, Table 13.6 -/

/-- PLLC_SRC -/
def pllcSrc : Row where
  idx := 0x800; sub := 0x1; ty := .u8; cls := .plan; pers := true; chk := .rng (0) 3
/-- PLLC_REF_HZ -/
def pllcRefHz : Row where
  idx := 0x800; sub := 0x2; ty := .f64; cls := .plan; dfl := [0x416312D000000000]; pers := true; chk := .frng 0x412E848000000000 0x41ADCD6500000000
/-- PLLC_BW -/
def pllcBw : Row where
  idx := 0x800; sub := 0x3; ty := .f32; cls := .live; dfl := [0x3F800000]; pers := true; chk := .frng 0x3DCCCCCD 0x42C80000
/-- PLLC_LOCK_PPB -/
def pllcLockPpb : Row where
  idx := 0x800; sub := 0x4; ty := .f32; cls := .live; dfl := [0x40A00000]; pers := true; chk := .frng 0x3DCCCCCD 0x447A0000
/-- PLLC_LOCK_GATE -/
def pllcLockGate : Row where
  idx := 0x800; sub := 0x5; ty := .u32; cls := .live; dfl := [100]; pers := true; chk := .rng (10) 10000
/-- PLLC_REF_WIN -/
def pllcRefWin : Row where
  idx := 0x800; sub := 0x6; ty := .f32; cls := .live; dfl := [0x41A00000]; pers := true; chk := .frng 0x3F800000 0x447A0000
/-- PLLC_QUAL_TIME -/
def pllcQualTime : Row where
  idx := 0x800; sub := 0x7; ty := .u32; cls := .live; dfl := [2000]; pers := true; chk := .rng (100) 600000
/-- PLLC_PHASE_PULL -/
def pllcPhasePull : Row where
  idx := 0x800; sub := 0x8; ty := .u32; cls := .live; dfl := [5000]; pers := true; chk := .rng (0) 1000000
/-- PLLC_SLEW -/
def pllcSlew : Row where
  idx := 0x800; sub := 0x9; ty := .f32; cls := .live; dfl := [0x3F800000]; pers := true; chk := .frng 0x3C23D70A 0x3F800000
/-- PLLC_HOLD_AVG -/
def pllcHoldAvg : Row where
  idx := 0x800; sub := 0xA; ty := .u32; cls := .live; dfl := [10]; pers := true; chk := .rng (1) 1000
/-- PPSIN_EN -/
def ppsinEn : Row where
  idx := 0x800; sub := 0xB; ty := .bool; cls := .plan; pers := true
/-- CLKOUT_SEL -/
def clkoutSel : Row where
  idx := 0x800; sub := 0xC; ty := .u8; cls := .plan; pers := true; chk := .rng (0) 4
/-- PLLC_STATE -/
def pllcState : Row where
  idx := 0x801; sub := 0x1; ty := .u8; cls := .ro
/-- PLLC_LOCKED -/
def pllcLocked : Row where
  idx := 0x801; sub := 0x2; ty := .bool; cls := .ro
/-- PLLC_FREQ_ERR -/
def pllcFreqErr : Row where
  idx := 0x801; sub := 0x3; ty := .f64; cls := .ro
/-- PLLC_PHASE_ERR -/
def pllcPhaseErr : Row where
  idx := 0x801; sub := 0x4; ty := .f64; cls := .ro
/-- PLLC_HOLD_T96 -/
def pllcHoldT96 : Row where
  idx := 0x801; sub := 0x5; ty := .t96; cls := .ro
/-- PLLC_HOLD_RATIO -/
def pllcHoldRatio : Row where
  idx := 0x801; sub := 0x6; ty := .f64; cls := .ro
/-- PLLC_REF_FREQ -/
def pllcRefFreq : Row where
  idx := 0x801; sub := 0x7; ty := .f64; cls := .ro
/-- PPSIN_PHASE -/
def ppsinPhase : Row where
  idx := 0x801; sub := 0x8; ty := .f64; cls := .ro
/-- PLLC_HANDOFF -/
def pllcHandoff : Row where
  idx := 0x801; sub := 0x9; ty := .f64; cls := .ro
/-- XO_AGE_RATE -/
def xoAgeRate : Row where
  idx := 0x802; sub := 0x1; ty := .i32; cls := .own; pers := true
/-- XO_AGE_T0 -/
def xoAgeT0 : Row where
  idx := 0x802; sub := 0x2; ty := .t96; cls := .ro; pers := true
/-- XO_TEMP: no default stated: DESIGN CHOICE 0.0 -/
def xoTemp : Row where
  idx := 0x802; sub := 0x3; ty := .f32; cls := .ro
/-- XO_CORR -/
def xoCorr : Row where
  idx := 0x802; sub := 0x4; ty := .f64; cls := .ro
/-- FROOT_HZ -/
def frootHz : Row where
  idx := 0x803; sub := 0x1; ty := .u64; cls := .plan; dfl := [0x2CB417800]; pers := true; chk := .rng (10240000000) 12800000000
/-- PLLA_MODE -/
def pllaMode : Row where
  idx := 0x803; sub := 0x2; ty := .u8; cls := .plan; pers := true; chk := .rng (0) 1
/-- PLLA_LOCK_WAIT -/
def pllaLockWait : Row where
  idx := 0x803; sub := 0x3; ty := .u32; cls := .plan; dfl := [200]; pers := true; chk := .rng (20) 5000
/-- PHASE_STEP -/
def phaseStep : Row where
  idx := 0x803; sub := 0x4; ty := .i32; cls := .wo; chk := .rng (-65535) 65535
/-- PLLA_LOL_CLR -/
def pllaLolClr : Row where
  idx := 0x803; sub := 0x5; ty := .u8; cls := .wo; chk := .one [1]
/-- PLLA_RELOCK -/
def pllaRelock : Row where
  idx := 0x803; sub := 0x6; ty := .u8; cls := .wo; chk := .one [1]
/-- PLLA_STATE -/
def pllaState : Row where
  idx := 0x804; sub := 0x1; ty := .u8; cls := .ro
/-- PLLA_LOL -/
def pllaLol : Row where
  idx := 0x804; sub := 0x2; ty := .bool; cls := .ro
/-- FROOT_ACTUAL -/
def frootActual : Row where
  idx := 0x804; sub := 0x3; ty := .f64; cls := .ro
/-- PLLA_N -/
def pllaN : Row where
  idx := 0x804; sub := 0x4; ty := .u8; cls := .ro
/-- PLLA_FRAC -/
def pllaFrac : Row where
  idx := 0x804; sub := 0x5; ty := .u32; cls := .ro
/-- PHASE_REMAIN -/
def phaseRemain : Row where
  idx := 0x804; sub := 0x6; ty := .i32; cls := .ro
/-- PHASE_TOTAL -/
def phaseTotal : Row where
  idx := 0x804; sub := 0x7; ty := .i64; cls := .ro
/-- PLLA_LOCK_T96 -/
def pllaLockT96 : Row where
  idx := 0x804; sub := 0x8; ty := .t96; cls := .ro
/-- XO_TC_TABLE: factory -/
def xoTcTable : Row where
  idx := 0x8080; sub := 0x1; ty := .domain; cls := .own; pers := true
/-! 14_time.md R331, Table 14.6 -/

/-- TC_NOW: reads the time counter -/
def tcNow : Row where
  idx := 0x810; sub := 0x1; ty := .t96; cls := .ro
/-- TC_VALID -/
def tcValid : Row where
  idx := 0x810; sub := 0x2; ty := .bool; cls := .ro
/-- TC_SET -/
def tcSet : Row where
  idx := 0x810; sub := 0x3; ty := .t96; cls := .wo
/-- TC_STEP -/
def tcStep : Row where
  idx := 0x810; sub := 0x4; ty := .i64; cls := .wo
/-- TC_STEP_ACCEPT -/
def tcStepAccept : Row where
  idx := 0x810; sub := 0x5; ty := .u32; cls := .wo
/-- TC_FREQ_ADJ -/
def tcFreqAdj : Row where
  idx := 0x810; sub := 0x6; ty := .f64; cls := .own; chk := .frng 0xC1186A0000000000 0x41186A0000000000
/-- TC_SLEW -/
def tcSlew : Row where
  idx := 0x810; sub := 0x7; ty := .i64; cls := .wo
/-- TC_SLEW_RATE -/
def tcSlewRate : Row where
  idx := 0x810; sub := 0x8; ty := .f32; cls := .live; dfl := [0x41200000]; pers := true; chk := .frng 0x3A83126F 0x42C80000
/-- JUMP_MAX -/
def jumpMax : Row where
  idx := 0x810; sub := 0x9; ty := .u32; cls := .own; dfl := [1000]; pers := true; chk := .rng (0) 1000000000
/-- PPSOUT_EN -/
def ppsoutEn : Row where
  idx := 0x810; sub := 0xA; ty := .bool; cls := .plan; dfl := [1]; pers := true
/-- PPSOUT_WIDTH -/
def ppsoutWidth : Row where
  idx := 0x810; sub := 0xB; ty := .u32; cls := .plan; dfl := [0x186A0]; pers := true; chk := .rng (100) 500000000
/-- TC_INC -/
def tcInc : Row where
  idx := 0x811; sub := 0x1; ty := .u64; cls := .ro; dfl := [0x2AAAAAAAA]
/-- TC_INC_EXT -/
def tcIncExt : Row where
  idx := 0x811; sub := 0x2; ty := .u32; cls := .ro; dfl := [0xAAAAAAAB]
/-- TC_SLEW_REMAIN -/
def tcSlewRemain : Row where
  idx := 0x811; sub := 0x3; ty := .i64; cls := .ro
/-- TC_STEP_HELD -/
def tcStepHeld : Row where
  idx := 0x811; sub := 0x4; ty := .i64; cls := .ro
/-- TC_STEP_HELD_SRC -/
def tcStepHeldSrc : Row where
  idx := 0x811; sub := 0x5; ty := .u8; cls := .ro
/-- TC_STEP_HELD_SEQ -/
def tcStepHeldSeq : Row where
  idx := 0x811; sub := 0x6; ty := .u32; cls := .ro
/-- TC_LAST_STEP -/
def tcLastStep : Row where
  idx := 0x811; sub := 0x7; ty := .i64; cls := .ro
/-- TC_LAST_STEP_T96 -/
def tcLastStepT96 : Row where
  idx := 0x811; sub := 0x8; ty := .t96; cls := .ro
/-- PTP_MODE -/
def ptpMode : Row where
  idx := 0x820; sub := 0x1; ty := .u8; cls := .plan; pers := true; chk := .rng (0) 1
/-- PTP_DOMAIN -/
def ptpDomain : Row where
  idx := 0x820; sub := 0x2; ty := .u8; cls := .plan; pers := true; chk := .rng (0) 239
/-- PTP_PRIORITY1 -/
def ptpPriority1 : Row where
  idx := 0x820; sub := 0x3; ty := .u8; cls := .plan; dfl := [128]; pers := true
/-- PTP_PRIORITY2 -/
def ptpPriority2 : Row where
  idx := 0x820; sub := 0x4; ty := .u8; cls := .plan; dfl := [128]; pers := true
/-- PTP_CLOCK_CLASS -/
def ptpClockClass : Row where
  idx := 0x820; sub := 0x5; ty := .u8; cls := .plan; dfl := [248]; pers := true
/-- PTP_CLOCK_ID: factory: DESIGN CHOICE 0 -/
def ptpClockId : Row where
  idx := 0x820; sub := 0x6; ty := .u64; cls := .own; pers := true
/-- PTP_UTC_OFFSET -/
def ptpUtcOffset : Row where
  idx := 0x820; sub := 0x7; ty := .i16; cls := .live; dfl := [37]; pers := true
/-- PTP_TC_LOCAL -/
def ptpTcLocal : Row where
  idx := 0x820; sub := 0x8; ty := .u8; cls := .plan; pers := true; chk := .rng (0) 1
/-- PTP_TC_DELAY -/
def ptpTcDelay : Row where
  idx := 0x820; sub := 0x9; ty := .u8; cls := .plan; pers := true; chk := .rng (0) 1
/-- PTP_ROLE -/
def ptpRole : Row where
  idx := 0x830; sub := 0x1; ty := .u8; cls := .plan; ist := 0x1; icnt := 2; pers := true; chk := .rng (0) 3
/-- PTP_TRANSPORT -/
def ptpTransport : Row where
  idx := 0x830; sub := 0x2; ty := .u8; cls := .plan; ist := 0x1; icnt := 2; pers := true; chk := .rng (0) 2
/-- PTP_DELAY -/
def ptpDelay : Row where
  idx := 0x830; sub := 0x3; ty := .u8; cls := .plan; ist := 0x1; icnt := 2; pers := true; chk := .rng (0) 1
/-- PTP_LOG_SYNC -/
def ptpLogSync : Row where
  idx := 0x830; sub := 0x4; ty := .i16; cls := .plan; ist := 0x1; icnt := 2; pers := true; chk := .rng (-7) 1
/-- PTP_LOG_ANNOUNCE -/
def ptpLogAnnounce : Row where
  idx := 0x830; sub := 0x5; ty := .i16; cls := .plan; ist := 0x1; icnt := 2; dfl := [1]; pers := true; chk := .rng (-3) 4
/-- PTP_LOG_DELAY -/
def ptpLogDelay : Row where
  idx := 0x830; sub := 0x6; ty := .i16; cls := .plan; ist := 0x1; icnt := 2; pers := true; chk := .rng (-7) 5
/-- PTP_ANN_TIMEOUT -/
def ptpAnnTimeout : Row where
  idx := 0x830; sub := 0x7; ty := .u8; cls := .plan; ist := 0x1; icnt := 2; dfl := [3]; pers := true; chk := .rng (2) 10
/-- PTP_TX_LAT: factory: DESIGN CHOICE 0 -/
def ptpTxLat : Row where
  idx := 0x830; sub := 0x8; ty := .u32; cls := .live; ist := 0x1; icnt := 2; pers := true
/-- PTP_RX_LAT: factory: DESIGN CHOICE 0 -/
def ptpRxLat : Row where
  idx := 0x830; sub := 0x9; ty := .u32; cls := .live; ist := 0x1; icnt := 2; pers := true
/-- PTP_ASYM -/
def ptpAsym : Row where
  idx := 0x830; sub := 0xA; ty := .i32; cls := .live; ist := 0x1; icnt := 2; pers := true
/-- SYNCE_ESMC -/
def synceEsmc : Row where
  idx := 0x830; sub := 0xB; ty := .bool; cls := .plan; ist := 0x1; icnt := 2; pers := true
/-- SYNCE_TX_QL -/
def synceTxQl : Row where
  idx := 0x830; sub := 0xC; ty := .u8; cls := .live; ist := 0x1; icnt := 2; dfl := [15]; pers := true; chk := .rng (0) 15
/-- PTP_PORT_STATE -/
def ptpPortState : Row where
  idx := 0x838; sub := 0x1; ty := .u8; cls := .ro; ist := 0x1; icnt := 2; dfl := [1]
/-- PTP_OFFSET -/
def ptpOffset : Row where
  idx := 0x838; sub := 0x2; ty := .f64; cls := .ro; ist := 0x1; icnt := 2
/-- PTP_MPD -/
def ptpMpd : Row where
  idx := 0x838; sub := 0x3; ty := .f64; cls := .ro; ist := 0x1; icnt := 2
/-- PTP_T1-PTP_T4 -/
def ptpT : Row where
  idx := 0x838; sub := 0x4; ty := .t96; cls := .ro; ist := 0x1; icnt := 2; sst := 1; scnt := 4
/-- PTP_PARENT -/
def ptpParent : Row where
  idx := 0x838; sub := 0x8; ty := .u64; cls := .ro; ist := 0x1; icnt := 2
/-- PTP_RX_COUNT -/
def ptpRxCount : Row where
  idx := 0x838; sub := 0x9; ty := .u32; cls := .ro; ist := 0x1; icnt := 2
/-- PTP_DROP_COUNT -/
def ptpDropCount : Row where
  idx := 0x838; sub := 0xA; ty := .u32; cls := .ro; ist := 0x1; icnt := 2
/-- SYNCE_RX_QL -/
def synceRxQl : Row where
  idx := 0x838; sub := 0xB; ty := .u8; cls := .ro; ist := 0x1; icnt := 2
/-- TC_SERVO -/
def tcServo : Row where
  idx := 0x840; sub := 0x1; ty := .u8; cls := .plan; pers := true; chk := .rng (0) 1
/-- SERVO_SRC -/
def servoSrc : Row where
  idx := 0x840; sub := 0x2; ty := .u8; cls := .plan; pers := true; chk := .rng (0) 1
/-- SERVO_BW -/
def servoBw : Row where
  idx := 0x840; sub := 0x3; ty := .f32; cls := .live; dfl := [0x3D4CCCCD]; pers := true; chk := .frng 0x3A83126F 0x3F800000
/-- SERVO_STEP_THR -/
def servoStepThr : Row where
  idx := 0x840; sub := 0x4; ty := .u32; cls := .live; dfl := [1000]; pers := true; chk := .rng (100) 1000000000
/-- SERVO_LOCK_NS -/
def servoLockNs : Row where
  idx := 0x840; sub := 0x5; ty := .u32; cls := .live; dfl := [100]; pers := true; chk := .rng (1) 1000000
/-- SERVO_STATE -/
def servoState : Row where
  idx := 0x840; sub := 0x6; ty := .u8; cls := .ro; dfl := [1]
/-- LACE_EN -/
def laceEn : Row where
  idx := 0x860; sub := 0x1; ty := .bool; cls := .plan; pers := true
/-- LACE_HZ -/
def laceHz : Row where
  idx := 0x860; sub := 0x2; ty := .f64; cls := .plan; dfl := [0x41ADCD6500000000]; pers := true; chk := .frng 0x4197D78400000000 0x41ADCD6500000000
/-- LACE_VETO_LINES -/
def laceVetoLines : Row where
  idx := 0x860; sub := 0x3; ty := .u8; cls := .plan; pers := true; mask := 0xF
/-- LACE_VETO_UNITS -/
def laceVetoUnits : Row where
  idx := 0x860; sub := 0x4; ty := .u16; cls := .plan; pers := true
/-- LACE_S_DRIVE -/
def laceSDrive : Row where
  idx := 0x860; sub := 0x5; ty := .bool; cls := .plan; pers := true
/-- LACE_S_CMD -/
def laceSCmd : Row where
  idx := 0x860; sub := 0x6; ty := .u8; cls := .wo; chk := .one [1]
/-- LACE_STATE -/
def laceState : Row where
  idx := 0x861; sub := 0x1; ty := .u8; cls := .ro
/-- LACE_CYCLE -/
def laceCycle : Row where
  idx := 0x861; sub := 0x2; ty := .u64; cls := .ro
/-- LACE_S_T96 -/
def laceST96 : Row where
  idx := 0x861; sub := 0x3; ty := .t96; cls := .ro
/-- LACE_PERIOD -/
def lacePeriod : Row where
  idx := 0x861; sub := 0x4; ty := .f64; cls := .ro
/-- LACE_Tn_COUNT -/
def laceTCount : Row where
  idx := 0x861; sub := 0x5; ty := .u32; cls := .ro; sst := 1; scnt := 4
/-- LACE_VETOED -/
def laceVetoed : Row where
  idx := 0x861; sub := 0x9; ty := .u32; cls := .ro
/-- TA_FREE -/
def taFree : Row where
  idx := 0x900; sub := 0x1; ty := .u16; cls := .ro; dfl := [512]
/-- TA_DROPPED_COUNT -/
def taDroppedCount : Row where
  idx := 0x900; sub := 0x2; ty := .u32; cls := .ro
/-- TA_TIME -/
def taTime : Row where
  idx := 0xA00; sub := 0x1; ty := .t96; cls := .own; ist := 0x1; icnt := 512
/-- TA_KIND -/
def taKind : Row where
  idx := 0xA00; sub := 0x2; ty := .u8; cls := .own; ist := 0x1; icnt := 512
/-- TA_TARGET -/
def taTarget : Row where
  idx := 0xA00; sub := 0x3; ty := .u16; cls := .own; ist := 0x1; icnt := 512
/-- TA_ARG -/
def taArg : Row where
  idx := 0xA00; sub := 0x4; ty := .i64; cls := .own; ist := 0x1; icnt := 512
/-- TA_PERIOD -/
def taPeriod : Row where
  idx := 0xA00; sub := 0x5; ty := .u64; cls := .own; ist := 0x1; icnt := 512
/-- TA_FLAGS -/
def taFlags : Row where
  idx := 0xA00; sub := 0x6; ty := .u8; cls := .own; ist := 0x1; icnt := 512; mask := 0x7
/-- TA_VALID -/
def taValid : Row where
  idx := 0xA00; sub := 0x7; ty := .bool; cls := .own; ist := 0x1; icnt := 512
/-- TA_STATE -/
def taState : Row where
  idx := 0xA00; sub := 0x8; ty := .u8; cls := .ro; ist := 0x1; icnt := 512
/-! 04_converters.md R102, Table 4.8 -/

/-- CV_ENABLE -/
def cvEnable : Row where
  idx := 0x1000; sub := 0x1; ty := .bool; cls := .plan; ist := 0x100; icnt := 4; pers := true
/-- CV_FORMAT -/
def cvFormat : Row where
  idx := 0x1000; sub := 0x2; ty := .u8; cls := .plan; ist := 0x100; icnt := 4; pers := true; chk := .rng (0) 1
/-- CAL_MODE -/
def calMode : Row where
  idx := 0x1000; sub := 0x3; ty := .u8; cls := .plan; ist := 0x100; icnt := 4; dfl := [1]; pers := true; chk := .rng (0) 2
/-- CAL_DT -/
def calDt : Row where
  idx := 0x1000; sub := 0x4; ty := .f32; cls := .live; ist := 0x100; icnt := 4; dfl := [0x40000000]; pers := true; chk := .frng 0x3E800000 0x41800000
/-- CAL_MAX_INTERVAL -/
def calMaxInterval : Row where
  idx := 0x1000; sub := 0x5; ty := .u32; cls := .live; ist := 0x100; icnt := 4; pers := true; chk := .rng (0) 86400
/-- CAL_CMD -/
def calCmd : Row where
  idx := 0x1000; sub := 0x6; ty := .u8; cls := .wo; ist := 0x100; icnt := 4; chk := .one [1]
/-- CAL_STATE -/
def calState : Row where
  idx := 0x1000; sub := 0x7; ty := .u8; cls := .ro; ist := 0x100; icnt := 4
/-- CAL_SEQ -/
def calSeq : Row where
  idx := 0x1000; sub := 0x8; ty := .u16; cls := .ro; ist := 0x100; icnt := 4
/-- CAL_LAST_T96 -/
def calLastT96 : Row where
  idx := 0x1000; sub := 0x9; ty := .t96; cls := .ro; ist := 0x100; icnt := 4
/-- CAL_TREF: stored (R101): DESIGN CHOICE 0.0 -/
def calTref : Row where
  idx := 0x1000; sub := 0xA; ty := .f32; cls := .ro; ist := 0x100; icnt := 4
/-- DIE_TEMP: no default stated: DESIGN CHOICE 0.0 -/
def dieTemp : Row where
  idx := 0x1000; sub := 0xB; ty := .f32; cls := .ro; ist := 0x100; icnt := 4
/-- IDLE_SC -/
def idleSc : Row where
  idx := 0x1000; sub := 0xC; ty := .u8; cls := .ro; ist := 0x100; icnt := 4; dfl := [16]
/-- SPARE_PRESENT -/
def sparePresent : Row where
  idx := 0x1000; sub := 0xD; ty := .bool; cls := .ro; ist := 0x100; icnt := 4; dfl := [1]
/-- IDX_EPOCH -/
def idxEpoch : Row where
  idx := 0x1000; sub := 0xE; ty := .u32; cls := .ro; ist := 0x100; icnt := 4
/-- IDX_EPOCH_T96 -/
def idxEpochT96 : Row where
  idx := 0x1000; sub := 0xF; ty := .t96; cls := .ro; ist := 0x100; icnt := 4
/-- OVR_BLOCKS -/
def ovrBlocks : Row where
  idx := 0x1000; sub := 0x10; ty := .u32; cls := .ro; ist := 0x100; icnt := 4
/-- SLOT_SC -/
def slotSc : Row where
  idx := 0x1001; sub := 0x0; ty := .u8; cls := .ro; ist := 0x100; icnt := 4; sst := 1; scnt := 16; dfl := [0, 1, 2, 3, 4, 5, 6, 7, 8, 9, 10, 11, 12, 13, 14, 15]
/-- SC_STATE: no default stated; slots hold 0-15 and IDLE_SC is 16, so 0-15 active and 16 idle (DEDUCED) -/
def scState : Row where
  idx := 0x1002; sub := 0x0; ty := .u8; cls := .ro; ist := 0x100; icnt := 4; sst := 1; scnt := 17; dfl := [0, 0, 0, 0, 0, 0, 0, 0, 0, 0, 0, 0, 0, 0, 0, 0, 1]
/-! 05_slices.md R123, Table 5.5 -/

/-- DDC_ENABLE -/
def ddcEnable : Row where
  idx := 0x1400; sub := 0x1; ty := .bool; cls := .plan; ist := 0x20; icnt := 32; pers := true
/-- DDC_INPUT -/
def ddcInput : Row where
  idx := 0x1400; sub := 0x2; ty := .u8; cls := .plan; ist := 0x20; icnt := 32; pers := true; chk := .rng (0) 3
/-- NCO_FTW -/
def ncoFtw : Row where
  idx := 0x1400; sub := 0x3; ty := .u64; cls := .live; ist := 0x20; icnt := 32; pers := true; mask := 0xFFFFFFFFFFFF
/-- NCO_PHASE -/
def ncoPhase : Row where
  idx := 0x1400; sub := 0x4; ty := .u16; cls := .plan; ist := 0x20; icnt := 32; pers := true
/-- DDC_K -/
def ddcK : Row where
  idx := 0x1400; sub := 0x5; ty := .u8; cls := .plan; ist := 0x20; icnt := 32; dfl := [1]; pers := true; chk := .rng (1) 16
/-- FIR_TAPS -/
def firTaps : Row where
  idx := 0x1400; sub := 0x6; ty := .u8; cls := .plan; ist := 0x20; icnt := 32; dfl := [1]; pers := true; chk := .rng (1) 96
/-- GAIN_SHIFT -/
def gainShift : Row where
  idx := 0x1400; sub := 0x7; ty := .i16; cls := .live; ist := 0x20; icnt := 32; pers := true; chk := .rng (-8) 15
/-- GAIN_FINE -/
def gainFine : Row where
  idx := 0x1400; sub := 0x8; ty := .u16; cls := .live; ist := 0x20; icnt := 32; dfl := [32768]; pers := true; chk := .rng (1) 65535
/-- OUT_FORMAT -/
def outFormat : Row where
  idx := 0x1400; sub := 0x9; ty := .u8; cls := .plan; ist := 0x20; icnt := 32; pers := true; chk := .rng (0) 1
/-- FRAME_EXP -/
def frameExp : Row where
  idx := 0x1400; sub := 0xA; ty := .u8; cls := .plan; ist := 0x20; icnt := 32; dfl := [12]; pers := true; chk := .rng (6) 16
/-- SYNC_MEMBER -/
def syncMember : Row where
  idx := 0x1400; sub := 0xB; ty := .bool; cls := .plan; ist := 0x20; icnt := 32; pers := true
/-- DDC_STATE -/
def ddcState : Row where
  idx := 0x1401; sub := 0x1; ty := .u8; cls := .ro; ist := 0x20; icnt := 32
/-- SYNC_SEQ -/
def syncSeq : Row where
  idx := 0x1401; sub := 0x2; ty := .u32; cls := .ro; ist := 0x20; icnt := 32
/-- LAST_SYNC_INDEX -/
def lastSyncIndex : Row where
  idx := 0x1401; sub := 0x3; ty := .u64; cls := .ro; ist := 0x20; icnt := 32
/-- LAST_SYNC_T96 -/
def lastSyncT96 : Row where
  idx := 0x1401; sub := 0x4; ty := .t96; cls := .ro; ist := 0x20; icnt := 32
/-- SAT_FRAMES -/
def satFrames : Row where
  idx := 0x1401; sub := 0x5; ty := .u32; cls := .ro; ist := 0x20; icnt := 32
/-- GROUP_DELAY -/
def groupDelay : Row where
  idx := 0x1401; sub := 0x6; ty := .u32; cls := .ro; ist := 0x20; icnt := 32; dfl := [23]
/-- OUT_RATE -/
def outRate : Row where
  idx := 0x1401; sub := 0x7; ty := .f64; cls := .ro; ist := 0x20; icnt := 32
/-- RETUNE_INDEX -/
def retuneIndex : Row where
  idx := 0x1401; sub := 0x8; ty := .u64; cls := .ro; ist := 0x20; icnt := 32
/-- FIR_COEF: entry 0 = 65,536, others 0 -/
def firCoef : Row where
  idx := 0x8400; sub := 0x1; ty := .domain; cls := .own; ist := 0x1; icnt := 32; pers := true
/-- SYNC_PIN_EN -/
def syncPinEn : Row where
  idx := 0x141F; sub := 0x1; ty := .bool; cls := .plan; pers := true
/-- SYNC_CMD -/
def syncCmd : Row where
  idx := 0x141F; sub := 0x2; ty := .u8; cls := .wo; chk := .one [1]
/-- GROUP_SYNC_SEQ -/
def groupSyncSeq : Row where
  idx := 0x141F; sub := 0x3; ty := .u32; cls := .ro
/-- GROUP_LAST_T96 -/
def groupLastT96 : Row where
  idx := 0x141F; sub := 0x4; ty := .t96; cls := .ro
/-- GROUP_LAST_CAUSE -/
def groupLastCause : Row where
  idx := 0x141F; sub := 0x5; ty := .u8; cls := .ro
/-! 06_transforms.md R151, Table 6.7 -/

/-- TE_ENABLE -/
def teEnable : Row where
  idx := 0x1800; sub := 0x1; ty := .bool; cls := .plan; ist := 0x100; icnt := 4; pers := true
/-- TE_SRC_KIND -/
def teSrcKind : Row where
  idx := 0x1800; sub := 0x2; ty := .u8; cls := .plan; ist := 0x100; icnt := 4; pers := true; chk := .rng (0) 1
/-- TE_SLICES -/
def teSlices : Row where
  idx := 0x1800; sub := 0x3; ty := .u32; cls := .plan; ist := 0x100; icnt := 4; pers := true
/-- TE_LOG2N -/
def teLog2n : Row where
  idx := 0x1800; sub := 0x4; ty := .u8; cls := .plan; ist := 0x100; icnt := 4; dfl := [10]; pers := true; chk := .rng (6) 16
/-- TE_TAPS -/
def teTaps : Row where
  idx := 0x1800; sub := 0x5; ty := .u8; cls := .plan; ist := 0x100; icnt := 4; dfl := [1]; pers := true; chk := .rng (1) 8
/-- TE_OVERLAP -/
def teOverlap : Row where
  idx := 0x1800; sub := 0x6; ty := .u8; cls := .plan; ist := 0x100; icnt := 4; dfl := [1]; pers := true; chk := .rng (0) 2
/-- TE_WINDOW -/
def teWindow : Row where
  idx := 0x1800; sub := 0x7; ty := .u8; cls := .plan; ist := 0x100; icnt := 4; dfl := [1]; pers := true; chk := .one [0, 1, 2, 3, 7]
/-- TE_DET_MASK -/
def teDetMask : Row where
  idx := 0x1800; sub := 0x8; ty := .u8; cls := .plan; ist := 0x100; icnt := 4; dfl := [2]; pers := true
/-- AVG_M -/
def avgM : Row where
  idx := 0x1800; sub := 0x9; ty := .u32; cls := .plan; ist := 0x100; icnt := 4; dfl := [1024]; pers := true; chk := .rng (1) 16777216
/-- AVG_SPLIT -/
def avgSplit : Row where
  idx := 0x1800; sub := 0xA; ty := .bool; cls := .plan; ist := 0x100; icnt := 4; dfl := [1]; pers := true
/-- SPAN_START -/
def spanStart : Row where
  idx := 0x1800; sub := 0xB; ty := .u16; cls := .plan; ist := 0x100; icnt := 4; pers := true
/-- SPAN_COUNT -/
def spanCount : Row where
  idx := 0x1800; sub := 0xC; ty := .u32; cls := .plan; ist := 0x100; icnt := 4; pers := true; chk := .rng (0) 65536
/-- TE_STATE -/
def teState : Row where
  idx := 0x1801; sub := 0x1; ty := .u8; cls := .ro; ist := 0x100; icnt := 4
/-- TE_LOAD -/
def teLoad : Row where
  idx := 0x1801; sub := 0x2; ty := .f64; cls := .ro; ist := 0x100; icnt := 4
/-- TE_SPEC_RATE -/
def teSpecRate : Row where
  idx := 0x1801; sub := 0x3; ty := .f64; cls := .ro; ist := 0x100; icnt := 4
/-- TE_LANE_MAP -/
def teLaneMap : Row where
  idx := 0x1801; sub := 0x4; ty := .u16; cls := .ro; ist := 0x100; icnt := 4; dfl := [255]
/-- TE_SPARE_LANE -/
def teSpareLane : Row where
  idx := 0x1801; sub := 0x5; ty := .u8; cls := .ro; ist := 0x100; icnt := 4; dfl := [8]
/-- TE_LANE_SWAPS -/
def teLaneSwaps : Row where
  idx := 0x1801; sub := 0x6; ty := .u32; cls := .ro; ist := 0x100; icnt := 4
/-- TE_SUSPECT -/
def teSuspect : Row where
  idx := 0x1801; sub := 0x7; ty := .u32; cls := .ro; ist := 0x100; icnt := 4
/-- TE_WINDOW_SUM -/
def teWindowSum : Row where
  idx := 0x1801; sub := 0x8; ty := .f64; cls := .ro; ist := 0x100; icnt := 4; dfl := [0x4080000000000000]
/-- TE_ENBW -/
def teEnbw : Row where
  idx := 0x1801; sub := 0x9; ty := .f64; cls := .ro; ist := 0x100; icnt := 4; dfl := [0x3FF8000000000000]
/-- TE_CAPACITY -/
def teCapacity : Row where
  idx := 0x1801; sub := 0xA; ty := .f64; cls := .ro; ist := 0x100; icnt := 4; dfl := [0x42165A0BC0000000]
/-- TE_WINDOW_TABLE: 131,072 entries of 65,536 -/
def teWindowTable : Row where
  idx := 0x8800; sub := 0x1; ty := .domain; cls := .own; ist := 0x1; icnt := 4; pers := true
/-! 07_triggers.md R173, Table 7.10 -/

/-- TU_ENABLE -/
def tuEnable : Row where
  idx := 0x1C00; sub := 0x1; ty := .bool; cls := .plan; ist := 0x20; icnt := 16; pers := true
/-- TU_SRC -/
def tuSrc : Row where
  idx := 0x1C00; sub := 0x2; ty := .u8; cls := .plan; ist := 0x20; icnt := 16; dfl := [1]; pers := true; chk := .rng (1) 9
/-- TU_SEL -/
def tuSel : Row where
  idx := 0x1C00; sub := 0x3; ty := .u16; cls := .plan; ist := 0x20; icnt := 16; pers := true
/-- TU_MODE -/
def tuMode : Row where
  idx := 0x1C00; sub := 0x4; ty := .u8; cls := .plan; ist := 0x20; icnt := 16; pers := true; chk := .rng (0) 2
/-- TU_LEVEL -/
def tuLevel : Row where
  idx := 0x1C00; sub := 0x5; ty := .i32; cls := .live; ist := 0x20; icnt := 16; pers := true
/-- TU_HYST -/
def tuHyst : Row where
  idx := 0x1C00; sub := 0x6; ty := .u32; cls := .live; ist := 0x20; icnt := 16; pers := true
/-- TU_WIN_LO -/
def tuWinLo : Row where
  idx := 0x1C00; sub := 0x7; ty := .f64; cls := .live; ist := 0x20; icnt := 16; pers := true
/-- TU_WIN_HI -/
def tuWinHi : Row where
  idx := 0x1C00; sub := 0x8; ty := .f64; cls := .live; ist := 0x20; icnt := 16; pers := true
/-- TU_STRETCH -/
def tuStretch : Row where
  idx := 0x1C00; sub := 0x9; ty := .u16; cls := .plan; ist := 0x20; icnt := 16; dfl := [1]; pers := true; chk := .rng (1) 65535
/-- TU_MASK -/
def tuMask : Row where
  idx := 0x1C00; sub := 0xA; ty := .u8; cls := .plan; ist := 0x20; icnt := 16; pers := true; chk := .rng (0) 3
/-- TU_REGION -/
def tuRegion : Row where
  idx := 0x1C00; sub := 0xB; ty := .u64; cls := .plan; ist := 0x20; icnt := 16; pers := true; mask := 0x1FFFFFFFFFFF; chk := .region
/-- TU_LACE_DRIVE -/
def tuLaceDrive : Row where
  idx := 0x1C00; sub := 0xC; ty := .u8; cls := .plan; ist := 0x20; icnt := 16; pers := true; mask := 0xF
/-- TU_LAT_BOUND -/
def tuLatBound : Row where
  idx := 0x1C00; sub := 0xD; ty := .u32; cls := .plan; ist := 0x20; icnt := 16; pers := true
/-- TU_FIRES -/
def tuFires : Row where
  idx := 0x1C01; sub := 0x1; ty := .u32; cls := .ro; ist := 0x20; icnt := 16
/-- TU_STATE -/
def tuState : Row where
  idx := 0x1C01; sub := 0x2; ty := .bool; cls := .ro; ist := 0x20; icnt := 16
/-- TU_LAST_INDEX -/
def tuLastIndex : Row where
  idx := 0x1C01; sub := 0x3; ty := .u64; cls := .ro; ist := 0x20; icnt := 16
/-- TU_LAST_T96 -/
def tuLastT96 : Row where
  idx := 0x1C01; sub := 0x4; ty := .t96; cls := .ro; ist := 0x20; icnt := 16
/-- TU_LAT_MAX -/
def tuLatMax : Row where
  idx := 0x1C01; sub := 0x5; ty := .f64; cls := .ro; ist := 0x20; icnt := 16
/-- TU_MASK_TABLE: 1 point, +32,767 and -32,768 -/
def tuMaskTable : Row where
  idx := 0x8C00; sub := 0x1; ty := .domain; cls := .own; ist := 0x1; icnt := 4; pers := true
/-! 07_triggers.md R173, Table 7.11 -/

/-- AQ_ENABLE -/
def aqEnable : Row where
  idx := 0x1E00; sub := 0x1; ty := .bool; cls := .plan; ist := 0x20; icnt := 16; pers := true
/-- AQ_MODE -/
def aqMode : Row where
  idx := 0x1E00; sub := 0x2; ty := .u8; cls := .plan; ist := 0x20; icnt := 16; pers := true; chk := .rng (0) 1
/-- AQ_SRC_KIND -/
def aqSrcKind : Row where
  idx := 0x1E00; sub := 0x3; ty := .u8; cls := .plan; ist := 0x20; icnt := 16; pers := true; chk := .rng (0) 1
/-- AQ_SRC -/
def aqSrc : Row where
  idx := 0x1E00; sub := 0x4; ty := .u8; cls := .plan; ist := 0x20; icnt := 16; pers := true; chk := .rng (0) 31
/-- AQ_EXPR -/
def aqExpr : Row where
  idx := 0x1E00; sub := 0x5; ty := .u8; cls := .plan; ist := 0x20; icnt := 16; pers := true; chk := .rng (0) 2
/-- AQ_UNITS -/
def aqUnits : Row where
  idx := 0x1E00; sub := 0x6; ty := .u32; cls := .plan; ist := 0x20; icnt := 16; dfl := [0xFFFFFFFF]; pers := true; chk := .units
/-- AQ_THEN_WIN -/
def aqThenWin : Row where
  idx := 0x1E00; sub := 0x7; ty := .u32; cls := .plan; ist := 0x20; icnt := 16; dfl := [1]; pers := true; chk := .rng (1) 4294967295
/-- AQ_PRE -/
def aqPre : Row where
  idx := 0x1E00; sub := 0x8; ty := .u32; cls := .plan; ist := 0x20; icnt := 16; pers := true
/-- AQ_POST -/
def aqPost : Row where
  idx := 0x1E00; sub := 0x9; ty := .u32; cls := .plan; ist := 0x20; icnt := 16; dfl := [65536]; pers := true; chk := .rng (1) 4294967295
/-- AQ_SEGMENTS -/
def aqSegments : Row where
  idx := 0x1E00; sub := 0xA; ty := .u32; cls := .plan; ist := 0x20; icnt := 16; pers := true
/-- AQ_RING_BASE -/
def aqRingBase : Row where
  idx := 0x1E00; sub := 0xB; ty := .u64; cls := .plan; ist := 0x20; icnt := 16; pers := true; chk := .mul 4096 0 18446744073709551615
/-- AQ_RING_SIZE -/
def aqRingSize : Row where
  idx := 0x1E00; sub := 0xC; ty := .u64; cls := .plan; ist := 0x20; icnt := 16; dfl := [4096]; pers := true; chk := .mul 4096 4096 18446744073709551615
/-- AQ_FACET_BASE -/
def aqFacetBase : Row where
  idx := 0x1E00; sub := 0xD; ty := .u64; cls := .plan; ist := 0x20; icnt := 16; pers := true; chk := .mul 4096 0 18446744073709551615
/-- AQ_FACET_SIZE -/
def aqFacetSize : Row where
  idx := 0x1E00; sub := 0xE; ty := .u64; cls := .plan; ist := 0x20; icnt := 16; pers := true; chk := .mul 4096 0 18446744073709551615
/-- AQ_FACET_LOG2D -/
def aqFacetLog2d : Row where
  idx := 0x1E00; sub := 0xF; ty := .u8; cls := .plan; ist := 0x20; icnt := 16; dfl := [4]; pers := true; chk := .rng (1) 8
/-- AQ_RING_MODE -/
def aqRingMode : Row where
  idx := 0x1E00; sub := 0x10; ty := .u8; cls := .plan; ist := 0x20; icnt := 16; pers := true; chk := .rng (0) 1
/-- AQ_START -/
def aqStart : Row where
  idx := 0x1E00; sub := 0x11; ty := .u8; cls := .plan; ist := 0x20; icnt := 16; pers := true; chk := .rng (0) 1
/-- AQ_DECL_RATE -/
def aqDeclRate : Row where
  idx := 0x1E00; sub := 0x12; ty := .f64; cls := .plan; ist := 0x20; icnt := 16; dfl := [0x3FF0000000000000]; pers := true; chk := .fpos
/-- AQ_LAD_HIGH -/
def aqLadHigh : Row where
  idx := 0x1E00; sub := 0x13; ty := .u8; cls := .plan; ist := 0x20; icnt := 16; dfl := [75]; pers := true; chk := .rng (2) 100
/-- AQ_LAD_LOW -/
def aqLadLow : Row where
  idx := 0x1E00; sub := 0x14; ty := .u8; cls := .plan; ist := 0x20; icnt := 16; dfl := [25]; pers := true; chk := .rng (1) 99
/-- AQ_LAD_HOLD -/
def aqLadHold : Row where
  idx := 0x1E00; sub := 0x15; ty := .u32; cls := .plan; ist := 0x20; icnt := 16; dfl := [10000]; pers := true
/-- AQ_LAD_MAX -/
def aqLadMax : Row where
  idx := 0x1E00; sub := 0x16; ty := .u8; cls := .plan; ist := 0x20; icnt := 16; dfl := [7]; pers := true; chk := .rng (0) 7
/-- AQ_STATE -/
def aqState : Row where
  idx := 0x1E01; sub := 0x1; ty := .u8; cls := .ro; ist := 0x20; icnt := 16
/-- AQ_SEG_SEQ -/
def aqSegSeq : Row where
  idx := 0x1E01; sub := 0x2; ty := .u32; cls := .ro; ist := 0x20; icnt := 16
/-- AQ_LEVEL -/
def aqLevel : Row where
  idx := 0x1E01; sub := 0x3; ty := .u8; cls := .ro; ist := 0x20; icnt := 16
/-- AQ_IGNORED -/
def aqIgnored : Row where
  idx := 0x1E01; sub := 0x4; ty := .u32; cls := .ro; ist := 0x20; icnt := 16
/-- AQ_REFUSED -/
def aqRefused : Row where
  idx := 0x1E01; sub := 0x5; ty := .u32; cls := .ro; ist := 0x20; icnt := 16
/-- AQ_WRITE_PTR -/
def aqWritePtr : Row where
  idx := 0x1E01; sub := 0x6; ty := .u64; cls := .ro; ist := 0x20; icnt := 16
/-- AQ_FIFO_FILL -/
def aqFifoFill : Row where
  idx := 0x1E01; sub := 0x7; ty := .u8; cls := .ro; ist := 0x20; icnt := 16
/-- AQ_HIST_NEED -/
def aqHistNeed : Row where
  idx := 0x1E01; sub := 0x8; ty := .u32; cls := .ro; ist := 0x20; icnt := 16
/-! 08_density.md R193, Table 8.4 -/

/-- DN_ENABLE -/
def dnEnable : Row where
  idx := 0x2000; sub := 0x1; ty := .bool; cls := .plan; pers := true
/-- DN_LAYOUT -/
def dnLayout : Row where
  idx := 0x2000; sub := 0x2; ty := .u8; cls := .plan; pers := true; chk := .rng (0) 1
/-- DN_MODE -/
def dnMode : Row where
  idx := 0x2000; sub := 0x3; ty := .u8; cls := .plan; pers := true; chk := .rng (0) 1
/-- DN_GROUP_MIN -/
def dnGroupMin : Row where
  idx := 0x2000; sub := 0x4; ty := .u8; cls := .plan; dfl := [1]; pers := true; chk := .rng (1) 64
/-- DN_DECAY -/
def dnDecay : Row where
  idx := 0x2000; sub := 0x5; ty := .u8; cls := .live; pers := true; chk := .rng (0) 2
/-- DN_DECAY_TICK -/
def dnDecayTick : Row where
  idx := 0x2000; sub := 0x6; ty := .u32; cls := .live; dfl := [1000]; pers := true; chk := .rng (100) 10000000
/-- DN_DECAY_AMOUNT -/
def dnDecayAmount : Row where
  idx := 0x2000; sub := 0x7; ty := .u32; cls := .live; dfl := [1]; pers := true; chk := .rng (1) 16777215
/-- DN_DECAY_SHIFT -/
def dnDecayShift : Row where
  idx := 0x2000; sub := 0x8; ty := .u8; cls := .live; dfl := [4]; pers := true; chk := .rng (1) 16
/-- DN_PERSIST -/
def dnPersist : Row where
  idx := 0x2000; sub := 0x9; ty := .u8; cls := .live; dfl := [255]; pers := true; chk := .rng (1) 255
/-- DN_PAL_MODE -/
def dnPalMode : Row where
  idx := 0x2000; sub := 0xA; ty := .u8; cls := .live; dfl := [1]; pers := true; chk := .rng (0) 1
/-- DN_PAL_SCALE -/
def dnPalScale : Row where
  idx := 0x2000; sub := 0xB; ty := .u32; cls := .live; dfl := [10912]; pers := true; chk := .rng (1) 4294967295
/-- DN_SNAP_BASE -/
def dnSnapBase : Row where
  idx := 0x2000; sub := 0xC; ty := .u64; cls := .plan; pers := true; chk := .mul 4096 0 18446744073709551615
/-- DN_SNAP_SIZE -/
def dnSnapSize : Row where
  idx := 0x2000; sub := 0xD; ty := .u64; cls := .plan; pers := true
/-- DN_SNAP_PERIOD -/
def dnSnapPeriod : Row where
  idx := 0x2000; sub := 0xE; ty := .u32; cls := .plan; pers := true; chk := .rng (0) 3600000
/-- DN_SNAP_CMD -/
def dnSnapCmd : Row where
  idx := 0x2000; sub := 0xF; ty := .u8; cls := .wo; chk := .one [1]
/-- DN_CLEAR_CMD -/
def dnClearCmd : Row where
  idx := 0x2000; sub := 0x10; ty := .u8; cls := .wo; chk := .one [1]
/-- DN_Pp_ENGINE -/
def dnPEngine : Row where
  idx := 0x2000; sub := 0x20; ty := .u8; cls := .plan; sst := 16; scnt := 2; pers := true; chk := .rng (0) 3
/-- DN_Pp_SRC -/
def dnPSrc : Row where
  idx := 0x2000; sub := 0x21; ty := .u8; cls := .plan; sst := 16; scnt := 2; pers := true; chk := .rng (0) 31
/-- DN_Pp_TOP -/
def dnPTop : Row where
  idx := 0x2000; sub := 0x22; ty := .i16; cls := .live; sst := 16; scnt := 2; pers := true
/-- DN_Pp_ROW_STEP -/
def dnPRowStep : Row where
  idx := 0x2000; sub := 0x23; ty := .u16; cls := .live; sst := 16; scnt := 2; dfl := [25]; pers := true; chk := .rng (1) 65535
/-- DN_STATE -/
def dnState : Row where
  idx := 0x2001; sub := 0x1; ty := .u8; cls := .ro
/-- DN_GROUP -/
def dnGroup : Row where
  idx := 0x2001; sub := 0x2; ty := .u8; cls := .ro; dfl := [1]
/-- DN_RATE -/
def dnRate : Row where
  idx := 0x2001; sub := 0x3; ty := .f64; cls := .ro
/-- DN_CLAMPED -/
def dnClamped : Row where
  idx := 0x2001; sub := 0x4; ty := .u64; cls := .ro
/-- DN_SAT_HITS -/
def dnSatHits : Row where
  idx := 0x2001; sub := 0x5; ty := .u64; cls := .ro
/-- DN_SNAP_SEQ -/
def dnSnapSeq : Row where
  idx := 0x2001; sub := 0x6; ty := .u32; cls := .ro
/-- DN_SNAP_T96 -/
def dnSnapT96 : Row where
  idx := 0x2001; sub := 0x7; ty := .t96; cls := .ro
/-- DN_SNAP_SKIPPED -/
def dnSnapSkipped : Row where
  idx := 0x2001; sub := 0x8; ty := .u32; cls := .ro
/-- DN_CLEAR_T96 -/
def dnClearT96 : Row where
  idx := 0x2001; sub := 0x9; ty := .t96; cls := .ro
/-- DN_PARITY_ERR -/
def dnParityErr : Row where
  idx := 0x2001; sub := 0xA; ty := .u32; cls := .ro
/-- DN_SPARE_BANKS -/
def dnSpareBanks : Row where
  idx := 0x2001; sub := 0xB; ty := .u8; cls := .ro; dfl := [2]
/-- SGg_ENABLE -/
def sgEnable : Row where
  idx := 0x2010; sub := 0x1; ty := .bool; cls := .plan; ist := 0x10; icnt := 2; pers := true
/-- SGg_ENGINE -/
def sgEngine : Row where
  idx := 0x2010; sub := 0x2; ty := .u8; cls := .plan; ist := 0x10; icnt := 2; pers := true; chk := .rng (0) 3
/-- SGg_SRC -/
def sgSrc : Row where
  idx := 0x2010; sub := 0x3; ty := .u8; cls := .plan; ist := 0x10; icnt := 2; pers := true; chk := .rng (0) 31
/-- SGg_DETECTOR -/
def sgDetector : Row where
  idx := 0x2010; sub := 0x4; ty := .u8; cls := .plan; ist := 0x10; icnt := 2; dfl := [1]; pers := true; chk := .one [1, 4, 5, 6]
/-- SGg_LINE_DIV -/
def sgLineDiv : Row where
  idx := 0x2010; sub := 0x5; ty := .u16; cls := .plan; ist := 0x10; icnt := 2; dfl := [1]; pers := true; chk := .rng (1) 65535
/-- SGg_WIDTH -/
def sgWidth : Row where
  idx := 0x2010; sub := 0x6; ty := .u16; cls := .plan; ist := 0x10; icnt := 2; dfl := [1024]; pers := true; chk := .rng (64) 3840
/-- SGg_TOP -/
def sgTop : Row where
  idx := 0x2010; sub := 0x7; ty := .i16; cls := .live; ist := 0x10; icnt := 2; pers := true
/-- SGg_RANGE -/
def sgRange : Row where
  idx := 0x2010; sub := 0x8; ty := .u16; cls := .live; ist := 0x10; icnt := 2; dfl := [25600]; pers := true; chk := .rng (1) 65535
/-- SGg_RING_BASE -/
def sgRingBase : Row where
  idx := 0x2010; sub := 0x9; ty := .u64; cls := .plan; ist := 0x10; icnt := 2; pers := true; chk := .mul 4096 0 18446744073709551615
/-- SGg_RING_LINES -/
def sgRingLines : Row where
  idx := 0x2010; sub := 0xA; ty := .u32; cls := .plan; ist := 0x10; icnt := 2; dfl := [1024]; pers := true; chk := .rng (1) 4294967295
/-- SGg_LINE_SEQ -/
def sgLineSeq : Row where
  idx := 0x2011; sub := 0x1; ty := .u32; cls := .ro; ist := 0x10; icnt := 2
/-- SGg_WRITE_LINE -/
def sgWriteLine : Row where
  idx := 0x2011; sub := 0x2; ty := .u32; cls := .ro; ist := 0x10; icnt := 2
/-- SGg_LINE_RATE -/
def sgLineRate : Row where
  idx := 0x2011; sub := 0x3; ty := .f64; cls := .ro; ist := 0x10; icnt := 2
/-- DN_PALETTE: grey ramp -/
def dnPalette : Row where
  idx := 0x9000; sub := 0x1; ty := .domain; cls := .own; pers := true
/-! 09_awl.md R215, Table 9.6 -/

/-- AW_STORE_EN -/
def awStoreEn : Row where
  idx := 0x2420; sub := 0x1; ty := .bool; cls := .plan; pers := true
/-- AW_STORE_BASE -/
def awStoreBase : Row where
  idx := 0x2420; sub := 0x2; ty := .u64; cls := .plan; pers := true; chk := .mul 4096 0 18446744073709551615
/-- BN_REC_BASE -/
def bnRecBase : Row where
  idx := 0x2400; sub := 0x1; ty := .u64; cls := .plan; ist := 0x1; icnt := 16; pers := true; chk := .mul 4096 0 18446744073709551615
/-- BN_REC_SIZE -/
def bnRecSize : Row where
  idx := 0x2400; sub := 0x2; ty := .u64; cls := .plan; ist := 0x1; icnt := 16; pers := true; chk := .mul 4096 0 18446744073709551615
/-- BN_SPILL_BASE -/
def bnSpillBase : Row where
  idx := 0x2400; sub := 0x3; ty := .u64; cls := .plan; ist := 0x1; icnt := 16; pers := true; chk := .mul 4096 0 18446744073709551615
/-- BN_SPILL_SIZE -/
def bnSpillSize : Row where
  idx := 0x2400; sub := 0x4; ty := .u64; cls := .plan; ist := 0x1; icnt := 16; pers := true
/-- BN_SPILL_RATE -/
def bnSpillRate : Row where
  idx := 0x2400; sub := 0x5; ty := .f64; cls := .plan; ist := 0x1; icnt := 16; pers := true; chk := .fge0
/-- BN_FIT_POS -/
def bnFitPos : Row where
  idx := 0x2400; sub := 0x6; ty := .u8; cls := .own; ist := 0x1; icnt := 16; chk := .rng (0) 15
/-- BN_Ww_ENABLE -/
def bnWEnable : Row where
  idx := 0x2400; sub := 0x10; ty := .bool; cls := .plan; ist := 0x1; icnt := 16; sst := 8; scnt := 4; pers := true
/-- BN_Ww_ENGINE -/
def bnWEngine : Row where
  idx := 0x2400; sub := 0x11; ty := .u8; cls := .plan; ist := 0x1; icnt := 16; sst := 8; scnt := 4; pers := true; chk := .rng (0) 3
/-- BN_Ww_SRC -/
def bnWSrc : Row where
  idx := 0x2400; sub := 0x12; ty := .u8; cls := .plan; ist := 0x1; icnt := 16; sst := 8; scnt := 4; pers := true; chk := .rng (0) 31
/-- BN_Ww_DET -/
def bnWDet : Row where
  idx := 0x2400; sub := 0x13; ty := .u8; cls := .plan; ist := 0x1; icnt := 16; sst := 8; scnt := 4; dfl := [1]; pers := true; chk := .rng (0) 7
/-- BN_Ww_BASE -/
def bnWBase : Row where
  idx := 0x2400; sub := 0x14; ty := .u32; cls := .plan; ist := 0x1; icnt := 16; sst := 8; scnt := 4; pers := true
/-- BN_Ww_BIN_FIRST -/
def bnWBinFirst : Row where
  idx := 0x2400; sub := 0x15; ty := .u32; cls := .plan; ist := 0x1; icnt := 16; sst := 8; scnt := 4; pers := true
/-- BN_Ww_BIN_COUNT -/
def bnWBinCount : Row where
  idx := 0x2400; sub := 0x16; ty := .u32; cls := .plan; ist := 0x1; icnt := 16; sst := 8; scnt := 4; dfl := [1]; pers := true; chk := .rng (1) 65536
/-- BN_Ww_CONV -/
def bnWConv : Row where
  idx := 0x2400; sub := 0x17; ty := .u8; cls := .plan; ist := 0x1; icnt := 16; sst := 8; scnt := 4; pers := true; chk := .rng (0) 1
/-- BN_SPARE -/
def bnSpare : Row where
  idx := 0x2410; sub := 0x1; ty := .u8; cls := .ro; ist := 0x1; icnt := 16; dfl := [16]
/-- BN_REC_WRITE_PTR -/
def bnRecWritePtr : Row where
  idx := 0x2410; sub := 0x2; ty := .u64; cls := .ro; ist := 0x1; icnt := 16
/-- BN_FLAGS -/
def bnFlags : Row where
  idx := 0x2410; sub := 0x3; ty := .u8; cls := .ro; ist := 0x1; icnt := 16
/-- BN_SWAPS -/
def bnSwaps : Row where
  idx := 0x2410; sub := 0x4; ty := .u32; cls := .ro; ist := 0x1; icnt := 16
/-- BN_PHYS_STATE: no default stated; BN_SPARE is 16 and AW_PHYS is i, so 0-15 active and 16 spare (DEDUCED) -/
def bnPhysState : Row where
  idx := 0x2410; sub := 0x10; ty := .u8; cls := .ro; ist := 0x1; icnt := 16; sst := 1; scnt := 17; dfl := [0, 0, 0, 0, 0, 0, 0, 0, 0, 0, 0, 0, 0, 0, 0, 0, 1]
/-- AW_ENABLE -/
def awEnable : Row where
  idx := 0x2500; sub := 0x1; ty := .bool; cls := .plan; ist := 0x1; icnt := 256; pers := true
/-- AW_WINDOW -/
def awWindow : Row where
  idx := 0x2500; sub := 0x2; ty := .u8; cls := .plan; ist := 0x1; icnt := 256; pers := true; chk := .rng (0) 3
/-- AW_BUDGET -/
def awBudget : Row where
  idx := 0x2500; sub := 0x3; ty := .u32; cls := .plan; ist := 0x1; icnt := 256; dfl := [1000]; pers := true; chk := .rng (1) 4294967295
/-- AW_REC_MAX -/
def awRecMax : Row where
  idx := 0x2500; sub := 0x4; ty := .u32; cls := .plan; ist := 0x1; icnt := 256; pers := true; chk := .mul 64 0 16777216
/-- AW_STATE -/
def awState : Row where
  idx := 0x2600; sub := 0x1; ty := .u8; cls := .ro; ist := 0x1; icnt := 256
/-- AW_PHYS -/
def awPhys : Row where
  idx := 0x2600; sub := 0x2; ty := .u8; cls := .ro; ist := 0x1; icnt := 256; dfl := [0, 1, 2, 3, 4, 5, 6, 7, 8, 9, 10, 11, 12, 13, 14, 15]; byIdx := true
/-- AW_FRAMES -/
def awFrames : Row where
  idx := 0x2600; sub := 0x3; ty := .u32; cls := .ro; ist := 0x1; icnt := 256
/-- AW_CYC_MAX -/
def awCycMax : Row where
  idx := 0x2600; sub := 0x4; ty := .u32; cls := .ro; ist := 0x1; icnt := 256
/-- AW_OVERRUNS -/
def awOverruns : Row where
  idx := 0x2600; sub := 0x5; ty := .u32; cls := .ro; ist := 0x1; icnt := 256
/-- AW_MISSED -/
def awMissed : Row where
  idx := 0x2600; sub := 0x6; ty := .u32; cls := .ro; ist := 0x1; icnt := 256
/-- AW_REC_REFUSED -/
def awRecRefused : Row where
  idx := 0x2600; sub := 0x7; ty := .u32; cls := .ro; ist := 0x1; icnt := 256
/-- AW_MEM_ERR -/
def awMemErr : Row where
  idx := 0x2600; sub := 0x8; ty := .u32; cls := .ro; ist := 0x1; icnt := 256
/-- AW_IMAGE: none -/
def awImage : Row where
  idx := 0xA000; sub := 0x1; ty := .domain; cls := .own; ist := 0x1; icnt := 256
/-! 11_tagging.md R258, Table 11.9 -/

/-- TIC_ENABLE -/
def ticEnable : Row where
  idx := 0x2800; sub := 0x1; ty := .bool; cls := .plan; ist := 0x20; icnt := 8; pers := true
/-- TIC_SRC -/
def ticSrc : Row where
  idx := 0x2800; sub := 0x2; ty := .u8; cls := .plan; ist := 0x20; icnt := 8; pers := true; chk := .rng (0) 4
/-- TIN_MODE -/
def tinMode : Row where
  idx := 0x2800; sub := 0x3; ty := .u8; cls := .plan; ist := 0x20; icnt := 8; pers := true; chk := .rng (0) 1
/-- TIN_TERM -/
def tinTerm : Row where
  idx := 0x2800; sub := 0x4; ty := .u8; cls := .plan; ist := 0x20; icnt := 8; pers := true; chk := .rng (0) 2
/-- TIN_UPPER -/
def tinUpper : Row where
  idx := 0x2800; sub := 0x5; ty := .i16; cls := .live; ist := 0x20; icnt := 8; dfl := [17]; pers := true; chk := .rng (-2048) 2047
/-- TIN_LOWER -/
def tinLower : Row where
  idx := 0x2800; sub := 0x6; ty := .i16; cls := .live; ist := 0x20; icnt := 8; dfl := [65519]; pers := true; chk := .rng (-2048) 2047
/-- TIN_HOLDOFF -/
def tinHoldoff : Row where
  idx := 0x2800; sub := 0x7; ty := .u32; cls := .live; ist := 0x20; icnt := 8; pers := true; chk := .rng (0) 1048576
/-- TIC_POLARITY -/
def ticPolarity : Row where
  idx := 0x2800; sub := 0x8; ty := .u8; cls := .plan; ist := 0x20; icnt := 8; pers := true; chk := .rng (0) 2
/-- TIC_DECL_RATE -/
def ticDeclRate : Row where
  idx := 0x2800; sub := 0x9; ty := .f64; cls := .plan; ist := 0x20; icnt := 8; dfl := [0x412E848000000000]; pers := true; chk := .fposTo 0x41ADCD6500000000
/-- TIC_K_MIN -/
def ticKMin : Row where
  idx := 0x2800; sub := 0xA; ty := .u8; cls := .plan; ist := 0x20; icnt := 8; pers := true; chk := .rng (0) 15
/-- TIC_K_MAX -/
def ticKMax : Row where
  idx := 0x2800; sub := 0xB; ty := .u8; cls := .plan; ist := 0x20; icnt := 8; dfl := [15]; pers := true; chk := .rng (0) 15
/-- TIC_DEC_HOLD -/
def ticDecHold : Row where
  idx := 0x2800; sub := 0xC; ty := .u16; cls := .plan; ist := 0x20; icnt := 8; dfl := [16]; pers := true; chk := .rng (1) 65535
/-- TIC_RING_BASE -/
def ticRingBase : Row where
  idx := 0x2800; sub := 0xD; ty := .u64; cls := .plan; ist := 0x20; icnt := 8; pers := true; chk := .mul 4096 0 18446744073709551615
/-- TIC_RING_SIZE -/
def ticRingSize : Row where
  idx := 0x2800; sub := 0xE; ty := .u64; cls := .plan; ist := 0x20; icnt := 8; pers := true; chk := .mul 4096 0 18446744073709551615
/-- TIC_CAL_MODE -/
def ticCalMode : Row where
  idx := 0x2800; sub := 0xF; ty := .u8; cls := .plan; ist := 0x20; icnt := 8; dfl := [1]; pers := true; chk := .rng (0) 2
/-- TIC_CAL_DT -/
def ticCalDt : Row where
  idx := 0x2800; sub := 0x10; ty := .f32; cls := .live; ist := 0x20; icnt := 8; dfl := [0x40000000]; pers := true; chk := .frng 0x3E800000 0x41800000
/-- TIC_CAL_CMD -/
def ticCalCmd : Row where
  idx := 0x2800; sub := 0x11; ty := .u8; cls := .wo; ist := 0x20; icnt := 8; chk := .one [1]
/-- TIC_STATE -/
def ticState : Row where
  idx := 0x2801; sub := 0x1; ty := .u8; cls := .ro; ist := 0x20; icnt := 8
/-- TIC_COUNT -/
def ticCount : Row where
  idx := 0x2801; sub := 0x2; ty := .u64; cls := .ro; ist := 0x20; icnt := 8
/-- TIC_K -/
def ticK : Row where
  idx := 0x2801; sub := 0x3; ty := .u8; cls := .ro; ist := 0x20; icnt := 8
/-- TIC_RECORDS -/
def ticRecords : Row where
  idx := 0x2801; sub := 0x4; ty := .u64; cls := .ro; ist := 0x20; icnt := 8
/-- TIC_MERGED -/
def ticMerged : Row where
  idx := 0x2801; sub := 0x5; ty := .u64; cls := .ro; ist := 0x20; icnt := 8
/-- TIC_OVERFLOW -/
def ticOverflow : Row where
  idx := 0x2801; sub := 0x6; ty := .u32; cls := .ro; ist := 0x20; icnt := 8
/-- TIN_HOLDOFF_SUPP -/
def tinHoldoffSupp : Row where
  idx := 0x2801; sub := 0x7; ty := .u64; cls := .ro; ist := 0x20; icnt := 8
/-- TIC_QUEUE_FILL -/
def ticQueueFill : Row where
  idx := 0x2801; sub := 0x8; ty := .u16; cls := .ro; ist := 0x20; icnt := 8
/-- TIC_RING_WRITE_PTR -/
def ticRingWritePtr : Row where
  idx := 0x2801; sub := 0x9; ty := .u64; cls := .ro; ist := 0x20; icnt := 8
/-- TIC_UNDECIDED -/
def ticUndecided : Row where
  idx := 0x2801; sub := 0xA; ty := .bool; cls := .ro; ist := 0x20; icnt := 8; dfl := [1]
/-- TIC_CAL_STATE -/
def ticCalState : Row where
  idx := 0x2801; sub := 0xB; ty := .u8; cls := .ro; ist := 0x20; icnt := 8
/-- TIC_CAL_SEQ -/
def ticCalSeq : Row where
  idx := 0x2801; sub := 0xC; ty := .u16; cls := .ro; ist := 0x20; icnt := 8
/-- TIC_CAL_TREF -/
def ticCalTref : Row where
  idx := 0x2801; sub := 0xD; ty := .f32; cls := .ro; ist := 0x20; icnt := 8
/-- TIC_MIN_SPACING -/
def ticMinSpacing : Row where
  idx := 0x2801; sub := 0xE; ty := .f64; cls := .ro; ist := 0x20; icnt := 8; dfl := [0x3FF8000000000000]
/-- IP_STATE: no default stated; four active and the fifth idle (DEDUCED from R240) -/
def ipState : Row where
  idx := 0x2801; sub := 0x10; ty := .u8; cls := .ro; ist := 0x20; icnt := 8; sst := 1; scnt := 5; dfl := [0, 0, 0, 0, 1]
/-- LOUPE_TABLE: instance 16n + i, i from 0 to 4 -/
def loupeTable : Row where
  idx := 0xB000; sub := 0x1; ty := .domain; cls := .ro; ist := 0x1; icnt := 128
/-! 12_measurements.md R280, Table 12.7 -/

/-- MS_ENABLE -/
def msEnable : Row where
  idx := 0x2A00; sub := 0x1; ty := .bool; cls := .plan; ist := 0x1; icnt := 16; pers := true
/-- MS_FUNC -/
def msFunc : Row where
  idx := 0x2A00; sub := 0x2; ty := .u8; cls := .plan; ist := 0x1; icnt := 16; dfl := [1]; pers := true; chk := .rng (1) 6
/-- MS_CHAN_A -/
def msChanA : Row where
  idx := 0x2A00; sub := 0x3; ty := .u8; cls := .plan; ist := 0x1; icnt := 16; pers := true; chk := .rng (0) 7
/-- MS_CHAN_B -/
def msChanB : Row where
  idx := 0x2A00; sub := 0x4; ty := .u8; cls := .plan; ist := 0x1; icnt := 16; dfl := [1]; pers := true; chk := .rng (0) 7
/-- MS_METHOD -/
def msMethod : Row where
  idx := 0x2A00; sub := 0x5; ty := .u8; cls := .plan; ist := 0x1; icnt := 16; pers := true; chk := .rng (0) 1
/-- MS_TI_MODE -/
def msTiMode : Row where
  idx := 0x2A00; sub := 0x6; ty := .u8; cls := .plan; ist := 0x1; icnt := 16; pers := true; chk := .rng (0) 1
/-- MS_ARM -/
def msArm : Row where
  idx := 0x2A00; sub := 0x7; ty := .u8; cls := .plan; ist := 0x1; icnt := 16; pers := true; chk := .rng (0) 3
/-- MS_ARM_SEL -/
def msArmSel : Row where
  idx := 0x2A00; sub := 0x8; ty := .u8; cls := .plan; ist := 0x1; icnt := 16; pers := true; chk := .rng (0) 3
/-- MS_GATE_KIND -/
def msGateKind : Row where
  idx := 0x2A00; sub := 0x9; ty := .u8; cls := .plan; ist := 0x1; icnt := 16; pers := true; chk := .rng (0) 1
/-- MS_GATE_SEL -/
def msGateSel : Row where
  idx := 0x2A00; sub := 0xA; ty := .u8; cls := .plan; ist := 0x1; icnt := 16; dfl := [8]; pers := true; chk := .rng (0) 8
/-- MS_GATE_TIME -/
def msGateTime : Row where
  idx := 0x2A00; sub := 0xB; ty := .u64; cls := .plan; ist := 0x1; icnt := 16; dfl := [0x3B9ACA00]; pers := true; chk := .rng (10000) 1000000000000
/-- MS_GATES -/
def msGates : Row where
  idx := 0x2A00; sub := 0xC; ty := .u32; cls := .plan; ist := 0x1; icnt := 16; pers := true
/-- MS_DECL_RATE -/
def msDeclRate : Row where
  idx := 0x2A00; sub := 0xD; ty := .f64; cls := .plan; ist := 0x1; icnt := 16; dfl := [0x408F400000000000]; pers := true; chk := .fposTo 0x40F86A0000000000
/-- MS_STAT_N -/
def msStatN : Row where
  idx := 0x2A00; sub := 0xE; ty := .u32; cls := .plan; ist := 0x1; icnt := 16; pers := true
/-- MS_FNOM -/
def msFnom : Row where
  idx := 0x2A00; sub := 0xF; ty := .f64; cls := .plan; ist := 0x1; icnt := 16; dfl := [0x416312D000000000]; pers := true; chk := .fpos
/-- MS_ADEV_TAUS -/
def msAdevTaus : Row where
  idx := 0x2A00; sub := 0x10; ty := .u8; cls := .plan; ist := 0x1; icnt := 16; pers := true; chk := .rng (0) 32
/-- MS_ADEV_X -/
def msAdevX : Row where
  idx := 0x2A00; sub := 0x11; ty := .u8; cls := .plan; ist := 0x1; icnt := 16; pers := true; chk := .rng (0) 1
/-- MS_ADEV_RESET -/
def msAdevReset : Row where
  idx := 0x2A00; sub := 0x12; ty := .u8; cls := .wo; ist := 0x1; icnt := 16; chk := .one [1]
/-- MS_STATE -/
def msState : Row where
  idx := 0x2A10; sub := 0x1; ty := .u8; cls := .ro; ist := 0x1; icnt := 16
/-- MS_RESULT -/
def msResult : Row where
  idx := 0x2A10; sub := 0x2; ty := .f64; cls := .ro; ist := 0x1; icnt := 16
/-- MS_RESULT_T96 -/
def msResultT96 : Row where
  idx := 0x2A10; sub := 0x3; ty := .t96; cls := .ro; ist := 0x1; icnt := 16
/-- MS_RESULT_FLAGS -/
def msResultFlags : Row where
  idx := 0x2A10; sub := 0x4; ty := .u16; cls := .ro; ist := 0x1; icnt := 16
/-- MS_RESULT_SEQ -/
def msResultSeq : Row where
  idx := 0x2A10; sub := 0x5; ty := .u32; cls := .ro; ist := 0x1; icnt := 16
/-- MS_EDGES -/
def msEdges : Row where
  idx := 0x2A10; sub := 0x6; ty := .u64; cls := .ro; ist := 0x1; icnt := 16
/-- MS_POINTS -/
def msPoints : Row where
  idx := 0x2A10; sub := 0x7; ty := .u32; cls := .ro; ist := 0x1; icnt := 16
/-- MS_STAT_MEAN -/
def msStatMean : Row where
  idx := 0x2A10; sub := 0x8; ty := .f64; cls := .ro; ist := 0x1; icnt := 16
/-- MS_STAT_SDEV -/
def msStatSdev : Row where
  idx := 0x2A10; sub := 0x9; ty := .f64; cls := .ro; ist := 0x1; icnt := 16
/-- MS_STAT_MIN -/
def msStatMin : Row where
  idx := 0x2A10; sub := 0xA; ty := .f64; cls := .ro; ist := 0x1; icnt := 16
/-- MS_STAT_MAX -/
def msStatMax : Row where
  idx := 0x2A10; sub := 0xB; ty := .f64; cls := .ro; ist := 0x1; icnt := 16
/-- MS_STAT_COUNT -/
def msStatCount : Row where
  idx := 0x2A10; sub := 0xC; ty := .u32; cls := .ro; ist := 0x1; icnt := 16
/-- MS_STAT_T96 -/
def msStatT96 : Row where
  idx := 0x2A10; sub := 0xD; ty := .t96; cls := .ro; ist := 0x1; icnt := 16
/-- MS_OVERRUN -/
def msOverrun : Row where
  idx := 0x2A10; sub := 0xE; ty := .u32; cls := .ro; ist := 0x1; icnt := 16
/-- AD_SIGMA -/
def adSigma : Row where
  idx := 0x2A20; sub := 0x1; ty := .f64; cls := .ro; ist := 0x1; icnt := 4; sst := 1; scnt := 32
/-- AD_TERMS -/
def adTerms : Row where
  idx := 0x2A20; sub := 0x21; ty := .u64; cls := .ro; ist := 0x1; icnt := 4; sst := 1; scnt := 32
/-- MS_RING_BASE -/
def msRingBase : Row where
  idx := 0x2A30; sub := 0x1; ty := .u64; cls := .plan; pers := true; chk := .mul 4096 0 18446744073709551615
/-- MS_RING_SIZE -/
def msRingSize : Row where
  idx := 0x2A30; sub := 0x2; ty := .u64; cls := .plan; pers := true; chk := .mul 4096 0 18446744073709551615
/-- MS_RING_WRITE_PTR -/
def msRingWritePtr : Row where
  idx := 0x2A30; sub := 0x3; ty := .u64; cls := .ro
/-! 15_dram.md R355, Table 15.5 -/

/-- DR_ADDR_ORDER -/
def drAddrOrder : Row where
  idx := 0x3000; sub := 0x1; ty := .u8; cls := .plan; dfl := [1]; pers := true; chk := .rng (0) 3
/-- DR_SPARE_DEMAND -/
def drSpareDemand : Row where
  idx := 0x3000; sub := 0x2; ty := .bool; cls := .plan; pers := true
/-- DR_SPARE_CFG -/
def drSpareCfg : Row where
  idx := 0x3000; sub := 0x3; ty := .u8; cls := .own; dfl := [15]; pers := true; mask := 0xF
/-- DR_RH_THRESHOLD -/
def drRhThreshold : Row where
  idx := 0x3000; sub := 0x4; ty := .u32; cls := .own; dfl := [4096]; pers := true; chk := .rng (1024) 65535
/-- DR_RH_RADIUS -/
def drRhRadius : Row where
  idx := 0x3000; sub := 0x5; ty := .u8; cls := .own; dfl := [2]; pers := true; chk := .rng (1) 2
/-- DR_CE_RETIRE -/
def drCeRetire : Row where
  idx := 0x3000; sub := 0x6; ty := .u32; cls := .own; dfl := [1024]; pers := true
/-- DR_SCRUB_HOURS -/
def drScrubHours : Row where
  idx := 0x3000; sub := 0x7; ty := .u16; cls := .own; dfl := [24]; pers := true; chk := .rng (0) 720
/-- DR_STATE -/
def drState : Row where
  idx := 0x3001; sub := 0x1; ty := .u8; cls := .ro
/-- DR_CAPACITY -/
def drCapacity : Row where
  idx := 0x3001; sub := 0x2; ty := .u64; cls := .ro
/-- DR_RANK_BYTES -/
def drRankBytes : Row where
  idx := 0x3001; sub := 0x3; ty := .u64; cls := .ro
/-- DR_ACTIVE_RANKS -/
def drActiveRanks : Row where
  idx := 0x3001; sub := 0x4; ty := .u8; cls := .ro
/-- DR_ZERO_PTR -/
def drZeroPtr : Row where
  idx := 0x3001; sub := 0x5; ty := .u64; cls := .ro
/-- DR_MIG_STATE -/
def drMigState : Row where
  idx := 0x3001; sub := 0x6; ty := .u8; cls := .ro
/-- DR_MIG_RANK -/
def drMigRank : Row where
  idx := 0x3001; sub := 0x7; ty := .u8; cls := .ro
/-- DR_MIG_PTR -/
def drMigPtr : Row where
  idx := 0x3001; sub := 0x8; ty := .u64; cls := .ro
/-- DR_POISON_LINES -/
def drPoisonLines : Row where
  idx := 0x3001; sub := 0x9; ty := .u64; cls := .ro
/-- DR_POISON_READS -/
def drPoisonReads : Row where
  idx := 0x3001; sub := 0xA; ty := .u64; cls := .ro
/-- DR_BW_CAPACITY -/
def drBwCapacity : Row where
  idx := 0x3001; sub := 0xB; ty := .f64; cls := .ro; dfl := [0x4242A05F20000000]
/-- DR_LOAD -/
def drLoad : Row where
  idx := 0x3001; sub := 0xC; ty := .f64; cls := .ro
/-- DR_POS_STATE -/
def drPosState : Row where
  idx := 0x3010; sub := 0x1; ty := .u8; cls := .ro; ist := 0x1; icnt := 4; sst := 1; scnt := 3
/-- DR_RANK_MAP -/
def drRankMap : Row where
  idx := 0x3010; sub := 0x4; ty := .u8; cls := .ro; ist := 0x1; icnt := 4; dfl := [36]
/-- DR_CE_COUNT -/
def drCeCount : Row where
  idx := 0x3010; sub := 0x5; ty := .u64; cls := .ro; ist := 0x1; icnt := 4
/-- DR_UE_COUNT -/
def drUeCount : Row where
  idx := 0x3010; sub := 0x6; ty := .u32; cls := .ro; ist := 0x1; icnt := 4
/-- DR_RH_REFRESHES -/
def drRhRefreshes : Row where
  idx := 0x3010; sub := 0x7; ty := .u64; cls := .ro; ist := 0x1; icnt := 4
/-- DR_TEMP: no default stated: DESIGN CHOICE 0.0 -/
def drTemp : Row where
  idx := 0x3010; sub := 0x8; ty := .f32; cls := .ro; ist := 0x1; icnt := 4
/-- DR_PORT_RES -/
def drPortRes : Row where
  idx := 0x3020; sub := 0x1; ty := .f64; cls := .ro; ist := 0x1; icnt := 12
/-- DR_PORT_PANICS -/
def drPortPanics : Row where
  idx := 0x3020; sub := 0x2; ty := .u32; cls := .ro; ist := 0x1; icnt := 12
/-- DR_PORT_BYTES -/
def drPortBytes : Row where
  idx := 0x3020; sub := 0x3; ty := .u64; cls := .ro; ist := 0x1; icnt := 12
/-! 16_streams.md R386, Table 16.11 -/

/-- DMA_ENABLE -/
def dmaEnable : Row where
  idx := 0x3100; sub := 0x1; ty := .bool; cls := .plan; ist := 0x1; icnt := 64; pers := true
/-- DMA_HOST_RATE -/
def dmaHostRate : Row where
  idx := 0x3100; sub := 0x2; ty := .f64; cls := .plan; ist := 0x1; icnt := 64; pers := true; chk := .fge0
/-- DMA_WIN_BASE -/
def dmaWinBase : Row where
  idx := 0x3100; sub := 0x3; ty := .u64; cls := .plan; ist := 0x1; icnt := 64; pers := true; chk := .mul 4096 0 18446744073709551615
/-- DMA_WIN_SIZE -/
def dmaWinSize : Row where
  idx := 0x3100; sub := 0x4; ty := .u64; cls := .plan; ist := 0x1; icnt := 64; pers := true; chk := .mul 4096 0 18446744073709551615
/-- DMA_START -/
def dmaStart : Row where
  idx := 0x3100; sub := 0x5; ty := .u64; cls := .wo; ist := 0x1; icnt := 64; mask := 0xFFFFFFFFFFFFFFF0
/-- DMA_NUDGE -/
def dmaNudge : Row where
  idx := 0x3100; sub := 0x6; ty := .u8; cls := .wo; ist := 0x1; icnt := 64; chk := .one [1]
/-- DMA_STOP -/
def dmaStop : Row where
  idx := 0x3100; sub := 0x7; ty := .u8; cls := .wo; ist := 0x1; icnt := 64; chk := .one [1]
/-- DMA_STATE -/
def dmaState : Row where
  idx := 0x3100; sub := 0x10; ty := .u8; cls := .ro; ist := 0x1; icnt := 64
/-- DMA_CUR -/
def dmaCur : Row where
  idx := 0x3100; sub := 0x11; ty := .u64; cls := .ro; ist := 0x1; icnt := 64
/-- DMA_BYTES -/
def dmaBytes : Row where
  idx := 0x3100; sub := 0x12; ty := .u64; cls := .ro; ist := 0x1; icnt := 64
/-- DMA_LAST_STATUS -/
def dmaLastStatus : Row where
  idx := 0x3100; sub := 0x13; ty := .u16; cls := .ro; ist := 0x1; icnt := 64
/-- DMA_DONE_COUNT -/
def dmaDoneCount : Row where
  idx := 0x3100; sub := 0x14; ty := .u32; cls := .ro; ist := 0x1; icnt := 64
/-- ST_ENABLE -/
def stEnable : Row where
  idx := 0x3200; sub := 0x1; ty := .bool; cls := .plan; ist := 0x4; icnt := 32; pers := true
/-- ST_SRC_KIND -/
def stSrcKind : Row where
  idx := 0x3200; sub := 0x2; ty := .u8; cls := .plan; ist := 0x4; icnt := 32; dfl := [1]; pers := true; chk := .rng (1) 9
/-- ST_SRC -/
def stSrc : Row where
  idx := 0x3200; sub := 0x3; ty := .u32; cls := .plan; ist := 0x4; icnt := 32; pers := true
/-- ST_FORMAT -/
def stFormat : Row where
  idx := 0x3200; sub := 0x4; ty := .u8; cls := .plan; ist := 0x4; icnt := 32; pers := true; chk := .rng (0) 2
/-- ST_DEST -/
def stDest : Row where
  idx := 0x3200; sub := 0x5; ty := .u8; cls := .plan; ist := 0x4; icnt := 32; pers := true; chk := .rng (0) 2
/-- ST_RING_BASE -/
def stRingBase : Row where
  idx := 0x3200; sub := 0x6; ty := .u64; cls := .plan; ist := 0x4; icnt := 32; pers := true; chk := .mul 4096 0 18446744073709551615
/-- ST_RING_SIZE -/
def stRingSize : Row where
  idx := 0x3200; sub := 0x7; ty := .u64; cls := .plan; ist := 0x4; icnt := 32; pers := true; chk := .mul 4096 0 18446744073709551615
/-- ST_DRAIN_US -/
def stDrainUs : Row where
  idx := 0x3200; sub := 0x8; ty := .u32; cls := .plan; ist := 0x4; icnt := 32; dfl := [10000]; pers := true; chk := .rng (1) 10000000
/-- ST_REC_MAX -/
def stRecMax : Row where
  idx := 0x3200; sub := 0x9; ty := .u32; cls := .plan; ist := 0x4; icnt := 32; dfl := [65536]; pers := true; chk := .mul 64 1024 4194304
/-- ST_FLUSH_US -/
def stFlushUs : Row where
  idx := 0x3200; sub := 0xA; ty := .u32; cls := .plan; ist := 0x4; icnt := 32; dfl := [100]; pers := true; chk := .rng (1) 1000000
/-- ST_CRC -/
def stCrc : Row where
  idx := 0x3200; sub := 0xB; ty := .bool; cls := .plan; ist := 0x4; icnt := 32; pers := true
/-- ST_EVT_BYTES -/
def stEvtBytes : Row where
  idx := 0x3200; sub := 0xC; ty := .u64; cls := .plan; ist := 0x4; icnt := 32; pers := true
/-- ST_HOST_BASE -/
def stHostBase : Row where
  idx := 0x3201; sub := 0x1; ty := .u64; cls := .plan; ist := 0x4; icnt := 32; pers := true; chk := .mul 4096 0 18446744073709551615
/-- ST_HOST_SIZE -/
def stHostSize : Row where
  idx := 0x3201; sub := 0x2; ty := .u64; cls := .plan; ist := 0x4; icnt := 32; dfl := [65536]; pers := true; chk := .mul 4096 65536 18446744073709551615
/-- ST_HOST_WP_ADDR -/
def stHostWpAddr : Row where
  idx := 0x3201; sub := 0x3; ty := .u64; cls := .plan; ist := 0x4; icnt := 32; pers := true; chk := .mul 8 0 18446744073709551615
/-- ST_HOST_RP_ADDR -/
def stHostRpAddr : Row where
  idx := 0x3201; sub := 0x4; ty := .u64; cls := .plan; ist := 0x4; icnt := 32; pers := true; chk := .mul 8 0 18446744073709551615
/-- ST_HOST_MODE -/
def stHostMode : Row where
  idx := 0x3201; sub := 0x5; ty := .u8; cls := .plan; ist := 0x4; icnt := 32; dfl := [1]; pers := true; chk := .rng (0) 1
/-- ST_NV_SET -/
def stNvSet : Row where
  idx := 0x3201; sub := 0x6; ty := .u8; cls := .plan; ist := 0x4; icnt := 32; pers := true; chk := .rng (0) 7
/-- ST_UDP_ETH -/
def stUdpEth : Row where
  idx := 0x3201; sub := 0x7; ty := .u8; cls := .plan; ist := 0x4; icnt := 32; pers := true; chk := .rng (0) 1
/-- ST_UDP_IPV6 -/
def stUdpIpv6 : Row where
  idx := 0x3201; sub := 0x8; ty := .bool; cls := .plan; ist := 0x4; icnt := 32; pers := true
/-- ST_UDP_DST_MAC -/
def stUdpDstMac : Row where
  idx := 0x3201; sub := 0x9; ty := .u64; cls := .plan; ist := 0x4; icnt := 32; pers := true; mask := 0xFFFFFFFFFFFF
/-- ST_UDP_DST_IP_HI -/
def stUdpDstIpHi : Row where
  idx := 0x3201; sub := 0xA; ty := .u64; cls := .plan; ist := 0x4; icnt := 32; pers := true
/-- ST_UDP_DST_IP_LO -/
def stUdpDstIpLo : Row where
  idx := 0x3201; sub := 0xB; ty := .u64; cls := .plan; ist := 0x4; icnt := 32; pers := true
/-- ST_UDP_PORTS -/
def stUdpPorts : Row where
  idx := 0x3201; sub := 0xC; ty := .u32; cls := .plan; ist := 0x4; icnt := 32; pers := true
/-- ST_UDP_DSCP -/
def stUdpDscp : Row where
  idx := 0x3201; sub := 0xD; ty := .u8; cls := .plan; ist := 0x4; icnt := 32; pers := true; chk := .rng (0) 63
/-- VD_PAYLOAD -/
def vdPayload : Row where
  idx := 0x3201; sub := 0x10; ty := .u32; cls := .plan; ist := 0x4; icnt := 32; dfl := [8000]; pers := true; chk := .rng (1) 4294967295
/-- VD_REF_EPOCH -/
def vdRefEpoch : Row where
  idx := 0x3201; sub := 0x11; ty := .u8; cls := .plan; ist := 0x4; icnt := 32; dfl := [50]; pers := true; chk := .rng (0) 63
/-- VD_THREAD -/
def vdThread : Row where
  idx := 0x3201; sub := 0x12; ty := .u16; cls := .plan; ist := 0x4; icnt := 32; pers := true; chk := .rng (0) 1023
/-- VD_STATION -/
def vdStation : Row where
  idx := 0x3201; sub := 0x13; ty := .u16; cls := .plan; ist := 0x4; icnt := 32; pers := true
/-- ST_STATE -/
def stState : Row where
  idx := 0x3202; sub := 0x1; ty := .u8; cls := .ro; ist := 0x4; icnt := 32
/-- ST_REC_SEQ -/
def stRecSeq : Row where
  idx := 0x3202; sub := 0x2; ty := .u64; cls := .ro; ist := 0x4; icnt := 32
/-- ST_BYTES -/
def stBytes : Row where
  idx := 0x3202; sub := 0x3; ty := .u64; cls := .ro; ist := 0x4; icnt := 32
/-- ST_LOST -/
def stLost : Row where
  idx := 0x3202; sub := 0x4; ty := .u64; cls := .ro; ist := 0x4; icnt := 32
/-- ST_RATE -/
def stRate : Row where
  idx := 0x3202; sub := 0x5; ty := .f64; cls := .ro; ist := 0x4; icnt := 32
/-- ST_NV_OFFSET -/
def stNvOffset : Row where
  idx := 0x3202; sub := 0x6; ty := .u64; cls := .ro; ist := 0x4; icnt := 32
/-- NV_MEMBERS -/
def nvMembers : Row where
  idx := 0x3280; sub := 0x1; ty := .u8; cls := .plan; ist := 0x1; icnt := 8; dfl := [1]; pers := true; chk := .rng (1) 8
/-- NV_STRIPE -/
def nvStripe : Row where
  idx := 0x3280; sub := 0x2; ty := .u32; cls := .plan; ist := 0x1; icnt := 8; dfl := [0x20000]; pers := true; chk := .mul 4096 65536 16777216
/-- NV_MODE -/
def nvMode : Row where
  idx := 0x3280; sub := 0x3; ty := .u8; cls := .plan; ist := 0x1; icnt := 8; pers := true; chk := .rng (0) 1
/-- NV_CAT_MS -/
def nvCatMs : Row where
  idx := 0x3280; sub := 0x4; ty := .u32; cls := .plan; ist := 0x1; icnt := 8; dfl := [1000]; pers := true; chk := .rng (100) 60000
/-- NV_SET_RATE -/
def nvSetRate : Row where
  idx := 0x3280; sub := 0x5; ty := .f64; cls := .plan; ist := 0x1; icnt := 8; pers := true; chk := .fge0
/-- NV_TIMEOUT_MS -/
def nvTimeoutMs : Row where
  idx := 0x3280; sub := 0x6; ty := .u32; cls := .plan; ist := 0x1; icnt := 8; dfl := [100]; pers := true; chk := .rng (10) 10000
/-- NV_TRIM_CMD -/
def nvTrimCmd : Row where
  idx := 0x3280; sub := 0x7; ty := .u8; cls := .wo; ist := 0x1; icnt := 8; chk := .one [1]
/-- NV_M_NS -/
def nvMNs : Row where
  idx := 0x3280; sub := 0x10; ty := .u64; cls := .plan; ist := 0x1; icnt := 8; sst := 1; scnt := 8; pers := true; mask := 0x7FFFFFFFF
/-- NV_M_START -/
def nvMStart : Row where
  idx := 0x3280; sub := 0x18; ty := .u64; cls := .plan; ist := 0x1; icnt := 8; sst := 1; scnt := 8; pers := true
/-- NV_M_COUNT -/
def nvMCount : Row where
  idx := 0x3280; sub := 0x20; ty := .u64; cls := .plan; ist := 0x1; icnt := 8; sst := 1; scnt := 8; pers := true
/-- NV_SET_STATE -/
def nvSetState : Row where
  idx := 0x3280; sub := 0x30; ty := .u8; cls := .ro; ist := 0x1; icnt := 8
/-- NV_CAPACITY -/
def nvCapacity : Row where
  idx := 0x3280; sub := 0x31; ty := .u64; cls := .ro; ist := 0x1; icnt := 8
/-- NV_CAT_GEN -/
def nvCatGen : Row where
  idx := 0x3280; sub := 0x32; ty := .u64; cls := .ro; ist := 0x1; icnt := 8
/-- NV_BYTES_DONE -/
def nvBytesDone : Row where
  idx := 0x3280; sub := 0x33; ty := .u64; cls := .ro; ist := 0x1; icnt := 8
/-- NV_CTRL_STATE -/
def nvCtrlState : Row where
  idx := 0x3290; sub := 0x1; ty := .u8; cls := .ro; ist := 0x1; icnt := 8
/-- NV_CTRL_QUEUES -/
def nvCtrlQueues : Row where
  idx := 0x3290; sub := 0x2; ty := .u8; cls := .ro; ist := 0x1; icnt := 8
/-- NV_CTRL_MDTS -/
def nvCtrlMdts : Row where
  idx := 0x3290; sub := 0x3; ty := .u32; cls := .ro; ist := 0x1; icnt := 8
/-- NV_CTRL_TEMP: no default stated: DESIGN CHOICE 0.0 -/
def nvCtrlTemp : Row where
  idx := 0x3290; sub := 0x4; ty := .f32; cls := .ro; ist := 0x1; icnt := 8
/-- NV_CTRL_WARN -/
def nvCtrlWarn : Row where
  idx := 0x3290; sub := 0x5; ty := .u8; cls := .ro; ist := 0x1; icnt := 8
/-- NV_CTRL_ERRORS -/
def nvCtrlErrors : Row where
  idx := 0x3290; sub := 0x6; ty := .u32; cls := .ro; ist := 0x1; icnt := 8
/-- PCIE_WIDTH -/
def pcieWidth : Row where
  idx := 0x3300; sub := 0x1; ty := .u8; cls := .ro
/-- PCIE_SPEED -/
def pcieSpeed : Row where
  idx := 0x3300; sub := 0x2; ty := .u8; cls := .ro
/-- PCIE_HOST_CAP -/
def pcieHostCap : Row where
  idx := 0x3300; sub := 0x3; ty := .f64; cls := .ro; dfl := [0x4229254D38000000]
/-- NV_ROOT_WIDTH -/
def nvRootWidth : Row where
  idx := 0x3301; sub := 0x1; ty := .u8; cls := .ro
/-- NV_ROOT_SPEED -/
def nvRootSpeed : Row where
  idx := 0x3301; sub := 0x2; ty := .u8; cls := .ro
/-- NV_ROOT_CAP -/
def nvRootCap : Row where
  idx := 0x3301; sub := 0x3; ty := .f64; cls := .ro; dfl := [0x4219254D38000000]
/-- NV_WORK_BASE -/
def nvWorkBase : Row where
  idx := 0x3301; sub := 0x4; ty := .u64; cls := .plan; pers := true; chk := .mul 4096 0 18446744073709551615
/-- ETH_RATE -/
def ethRate : Row where
  idx := 0x3310; sub := 0x1; ty := .u8; cls := .plan; ist := 0x1; icnt := 2; dfl := [2]; pers := true; chk := .rng (0) 2
/-- ETH_FEC -/
def ethFec : Row where
  idx := 0x3310; sub := 0x2; ty := .u8; cls := .plan; ist := 0x1; icnt := 2; dfl := [1]; pers := true; chk := .rng (0) 2
/-- ETH_MAC: factory: DESIGN CHOICE 0 -/
def ethMac : Row where
  idx := 0x3310; sub := 0x3; ty := .u64; cls := .own; ist := 0x1; icnt := 2; pers := true; mask := 0xFFFFFFFFFFFF
/-- ETH_IPV4 -/
def ethIpv4 : Row where
  idx := 0x3310; sub := 0x4; ty := .u32; cls := .own; ist := 0x1; icnt := 2; pers := true
/-- ETH_IPV4_PREFIX -/
def ethIpv4Prefix : Row where
  idx := 0x3310; sub := 0x5; ty := .u8; cls := .own; ist := 0x1; icnt := 2; dfl := [24]; pers := true; chk := .rng (1) 31
/-- ETH_IPV6_HI -/
def ethIpv6Hi : Row where
  idx := 0x3310; sub := 0x6; ty := .u64; cls := .own; ist := 0x1; icnt := 2; pers := true
/-- ETH_IPV6_LO -/
def ethIpv6Lo : Row where
  idx := 0x3310; sub := 0x7; ty := .u64; cls := .own; ist := 0x1; icnt := 2; pers := true
/-- ETH_MTU -/
def ethMtu : Row where
  idx := 0x3310; sub := 0x8; ty := .u16; cls := .plan; ist := 0x1; icnt := 2; dfl := [1500]; pers := true; chk := .rng (1280) 9216
/-- ETH_LINK -/
def ethLink : Row where
  idx := 0x3310; sub := 0x10; ty := .u8; cls := .ro; ist := 0x1; icnt := 2
/-- CAN_NOM_RATE -/
def canNomRate : Row where
  idx := 0x3320; sub := 0x1; ty := .u32; cls := .own; dfl := [0x7A120]; pers := true; chk := .rng (125000) 1000000
/-- CAN_DATA_RATE -/
def canDataRate : Row where
  idx := 0x3320; sub := 0x2; ty := .u32; cls := .own; dfl := [0x1E8480]; pers := true; chk := .rng (1000000) 8000000
/-- CAN_BRS -/
def canBrs : Row where
  idx := 0x3320; sub := 0x3; ty := .bool; cls := .own; dfl := [1]; pers := true
/-- CAN_SP_NOM -/
def canSpNom : Row where
  idx := 0x3320; sub := 0x4; ty := .u16; cls := .own; dfl := [800]; pers := true; chk := .rng (500) 900
/-- CAN_SP_DATA -/
def canSpData : Row where
  idx := 0x3320; sub := 0x5; ty := .u16; cls := .own; dfl := [750]; pers := true; chk := .rng (500) 900
/-- CAN_STATE -/
def canState : Row where
  idx := 0x3320; sub := 0x6; ty := .u8; cls := .ro
/-! 17_display.md R405, Table 17.4 -/

/-- DP_ENABLE -/
def dpEnable : Row where
  idx := 0x2100; sub := 0x1; ty := .bool; cls := .plan; ist := 0x10; icnt := 2; pers := true
/-- DP_LANES -/
def dpLanes : Row where
  idx := 0x2100; sub := 0x2; ty := .u8; cls := .plan; ist := 0x10; icnt := 2; dfl := [4]; pers := true; chk := .one [1, 2, 4]
/-- DP_LANE_RATE -/
def dpLaneRate : Row where
  idx := 0x2100; sub := 0x3; ty := .u8; cls := .plan; ist := 0x10; icnt := 2; dfl := [4]; pers := true; chk := .rng (1) 4
/-- DP_PCLK_KHZ -/
def dpPclkKhz : Row where
  idx := 0x2100; sub := 0x4; ty := .u32; cls := .plan; ist := 0x10; icnt := 2; dfl := [0x91050]; pers := true; chk := .rng (25000) 600000
/-- DP_H_ACTIVE -/
def dpHActive : Row where
  idx := 0x2100; sub := 0x5; ty := .u16; cls := .plan; ist := 0x10; icnt := 2; dfl := [3840]; pers := true; chk := .rng (1) 65535
/-- DP_H_FP -/
def dpHFp : Row where
  idx := 0x2100; sub := 0x6; ty := .u16; cls := .plan; ist := 0x10; icnt := 2; dfl := [176]; pers := true; chk := .rng (1) 65535
/-- DP_H_SYNC -/
def dpHSync : Row where
  idx := 0x2100; sub := 0x7; ty := .u16; cls := .plan; ist := 0x10; icnt := 2; dfl := [88]; pers := true; chk := .rng (1) 65535
/-- DP_H_BP -/
def dpHBp : Row where
  idx := 0x2100; sub := 0x8; ty := .u16; cls := .plan; ist := 0x10; icnt := 2; dfl := [296]; pers := true; chk := .rng (1) 65535
/-- DP_V_ACTIVE -/
def dpVActive : Row where
  idx := 0x2100; sub := 0x9; ty := .u16; cls := .plan; ist := 0x10; icnt := 2; dfl := [2160]; pers := true; chk := .rng (1) 65535
/-- DP_V_FP -/
def dpVFp : Row where
  idx := 0x2100; sub := 0xA; ty := .u16; cls := .plan; ist := 0x10; icnt := 2; dfl := [8]; pers := true; chk := .rng (1) 65535
/-- DP_V_SYNC -/
def dpVSync : Row where
  idx := 0x2100; sub := 0xB; ty := .u16; cls := .plan; ist := 0x10; icnt := 2; dfl := [10]; pers := true; chk := .rng (1) 65535
/-- DP_V_BP -/
def dpVBp : Row where
  idx := 0x2100; sub := 0xC; ty := .u16; cls := .plan; ist := 0x10; icnt := 2; dfl := [72]; pers := true; chk := .rng (1) 65535
/-- DP_SYNC_POL -/
def dpSyncPol : Row where
  idx := 0x2100; sub := 0xD; ty := .u8; cls := .plan; ist := 0x10; icnt := 2; dfl := [3]; pers := true; mask := 0x3
/-- DP_V_CLASP -/
def dpVClasp : Row where
  idx := 0x2100; sub := 0xE; ty := .u16; cls := .plan; ist := 0x10; icnt := 2; dfl := [2]; pers := true
/-- DP_L0_PLANE -/
def dpL0Plane : Row where
  idx := 0x2100; sub := 0xF; ty := .u8; cls := .plan; ist := 0x10; icnt := 2; pers := true; chk := .rng (0) 1
/-- DP_L1_SRC -/
def dpL1Src : Row where
  idx := 0x2100; sub := 0x10; ty := .bool; cls := .plan; ist := 0x10; icnt := 2; pers := true
/-- DP_L3_AREA_BASE -/
def dpL3AreaBase : Row where
  idx := 0x2100; sub := 0x11; ty := .u64; cls := .plan; ist := 0x10; icnt := 2; pers := true; chk := .mul 4096 0 18446744073709551615
/-- DP_L3_AREA_SIZE -/
def dpL3AreaSize : Row where
  idx := 0x2100; sub := 0x12; ty := .u64; cls := .plan; ist := 0x10; icnt := 2; pers := true; chk := .mul 4096 0 18446744073709551615
/-- DP_L3_MAX_W -/
def dpL3MaxW : Row where
  idx := 0x2100; sub := 0x13; ty := .u16; cls := .plan; ist := 0x10; icnt := 2; pers := true; chk := .rng (0) 7680
/-- DP_L3_MAX_H -/
def dpL3MaxH : Row where
  idx := 0x2100; sub := 0x14; ty := .u16; cls := .plan; ist := 0x10; icnt := 2; pers := true; chk := .rng (0) 4320
/-- DP_TRt_SRC: as PG_TRIP_MASK (log entry 173) -/
def dpTrSrc : Row where
  idx := 0x2100; sub := 0x18; ty := .u32; cls := .plan; ist := 0x10; icnt := 2; sst := 1; scnt := 8; pers := true; mask := 0x10F1F03
/-- DP_Ln_GEOM -/
def dpLGeom : Row where
  idx := 0x2101; sub := 0x1; ty := .u64; cls := .own; ist := 0x10; icnt := 2; sst := 2; scnt := 4
/-- DP_Ln_CTRL -/
def dpLCtrl : Row where
  idx := 0x2101; sub := 0x2; ty := .u16; cls := .own; ist := 0x10; icnt := 2; sst := 2; scnt := 4; dfl := [65280]; mask := 0xFF01
/-- DP_L3_ADDR -/
def dpL3Addr : Row where
  idx := 0x2101; sub := 0x9; ty := .u64; cls := .own; ist := 0x10; icnt := 2; chk := .mul 64 0 18446744073709551615
/-- DP_L3_STRIDE -/
def dpL3Stride : Row where
  idx := 0x2101; sub := 0xA; ty := .u32; cls := .own; ist := 0x10; icnt := 2; chk := .mul 64 0 4294967295
/-- DP_BG -/
def dpBg : Row where
  idx := 0x2101; sub := 0xB; ty := .u32; cls := .own; ist := 0x10; icnt := 2; mask := 0xFFFFFF
/-- DP_HM_EXPECT: as PG_TRIP_MASK (log entry 173) -/
def dpHmExpect : Row where
  idx := 0x2101; sub := 0xC; ty := .u64; cls := .own; ist := 0x10; icnt := 2; mask := 0x1FFFFFFFF
/-- DP_TRt_STYLE -/
def dpTrStyle : Row where
  idx := 0x2101; sub := 0x10; ty := .u64; cls := .own; ist := 0x10; icnt := 2; sst := 1; scnt := 8; dfl := [0x64000000FFFFFFFF]; chk := .top16
/-- DP_COMMIT -/
def dpCommit : Row where
  idx := 0x2101; sub := 0x1F; ty := .u8; cls := .wo; ist := 0x10; icnt := 2; chk := .one [1]
/-- DP_STATE -/
def dpState : Row where
  idx := 0x2102; sub := 0x1; ty := .u8; cls := .ro; ist := 0x10; icnt := 2
/-- DP_FRAME -/
def dpFrame : Row where
  idx := 0x2102; sub := 0x2; ty := .u32; cls := .ro; ist := 0x10; icnt := 2
/-- DP_FLIP_T96 -/
def dpFlipT96 : Row where
  idx := 0x2102; sub := 0x3; ty := .t96; cls := .ro; ist := 0x10; icnt := 2
/-- DP_COMMIT_SEQ -/
def dpCommitSeq : Row where
  idx := 0x2102; sub := 0x4; ty := .u32; cls := .ro; ist := 0x10; icnt := 2
/-- DP_LATE -/
def dpLate : Row where
  idx := 0x2102; sub := 0x5; ty := .u32; cls := .ro; ist := 0x10; icnt := 2
/-- DP_HM_LAST -/
def dpHmLast : Row where
  idx := 0x2102; sub := 0x6; ty := .u32; cls := .ro; ist := 0x10; icnt := 2
/-- DP_HM_FRAME -/
def dpHmFrame : Row where
  idx := 0x2102; sub := 0x7; ty := .u32; cls := .ro; ist := 0x10; icnt := 2
/-- DP_HM_MISMATCH -/
def dpHmMismatch : Row where
  idx := 0x2102; sub := 0x8; ty := .u32; cls := .ro; ist := 0x10; icnt := 2
/-- DP_LAYER_STATE -/
def dpLayerState : Row where
  idx := 0x2102; sub := 0x9; ty := .u8; cls := .ro; ist := 0x10; icnt := 2
/-- DP_LINK -/
def dpLink : Row where
  idx := 0x2102; sub := 0xA; ty := .u16; cls := .ro; ist := 0x10; icnt := 2
/-- DP_PORT_LOAD -/
def dpPortLoad : Row where
  idx := 0x2102; sub := 0xB; ty := .f64; cls := .ro; ist := 0x10; icnt := 2
/-- DP_RETIRED_ADDR -/
def dpRetiredAddr : Row where
  idx := 0x2102; sub := 0xC; ty := .u64; cls := .ro; ist := 0x10; icnt := 2
/-- DP_EDID: 128 zero bytes -/
def dpEdid : Row where
  idx := 0x9100; sub := 0x1; ty := .domain; cls := .ro; ist := 0x1; icnt := 2
/-! 18_housekeeping.md R422, Table 18.8 -/

/-- HK_SNAP_CMD -/
def hkSnapCmd : Row where
  idx := 0x2C00; sub := 0x1; ty := .u8; cls := .wo; chk := .rng (1) 2
/-- HK_CAL_CMD: the bits that R414 does not name must be 0 (log entry 173) -/
def hkCalCmd : Row where
  idx := 0x2C00; sub := 0x2; ty := .u16; cls := .wo
/-- HK_CAL_FS_V -/
def hkCalFsV : Row where
  idx := 0x2C00; sub := 0x3; ty := .f64; cls := .own; dfl := [0x3FF8000000000000]; pers := true; chk := .frng 0x3FD999999999999A 0x3FF999999999999A
/-- HK_SNAP_T96 -/
def hkSnapT96 : Row where
  idx := 0x2C00; sub := 0x4; ty := .t96; cls := .ro
/-- HK_LOAD -/
def hkLoad : Row where
  idx := 0x2C00; sub := 0x5; ty := .f64; cls := .ro
/-- GT_ORIGIN -/
def gtOrigin : Row where
  idx := 0x2C10; sub := 0x1; ty := .t96; cls := .plan; ist := 0x1; icnt := 8; pers := true
/-- GT_PERIOD -/
def gtPeriod : Row where
  idx := 0x2C10; sub := 0x2; ty := .u64; cls := .plan; ist := 0x1; icnt := 8; pers := true; chk := .zrng 6553600 65536000000000000
/-- GT_TICKS -/
def gtTicks : Row where
  idx := 0x2C10; sub := 0x3; ty := .u64; cls := .ro; ist := 0x1; icnt := 8
/-- GT_SKIPPED -/
def gtSkipped : Row where
  idx := 0x2C10; sub := 0x4; ty := .u32; cls := .ro; ist := 0x1; icnt := 8
/-- HK_SLOT_INPUT -/
def hkSlotInput : Row where
  idx := 0x2C20; sub := 0x1; ty := .u8; cls := .plan; ist := 0x1; icnt := 32; pers := true; chk := .rng (0) 31
/-- HK_SLOT_SEL -/
def hkSlotSel : Row where
  idx := 0x2C20; sub := 0x2; ty := .u8; cls := .plan; ist := 0x1; icnt := 32; pers := true; chk := .rng (0) 19
/-- HK_SLOT_START -/
def hkSlotStart : Row where
  idx := 0x2C20; sub := 0x3; ty := .u8; cls := .plan; ist := 0x1; icnt := 32; pers := true; chk := .rng (0) 24
/-- HK_SLOT_DELAY -/
def hkSlotDelay : Row where
  idx := 0x2C20; sub := 0x4; ty := .u16; cls := .plan; ist := 0x1; icnt := 32; pers := true
/-- HK_SLOT_REPS -/
def hkSlotReps : Row where
  idx := 0x2C20; sub := 0x5; ty := .u16; cls := .plan; ist := 0x1; icnt := 32; dfl := [1]; pers := true; chk := .rng (1) 256
/-- HK_SLOT_MISSED -/
def hkSlotMissed : Row where
  idx := 0x2C20; sub := 0x6; ty := .u32; cls := .ro; ist := 0x1; icnt := 32
/-- HK_SUM -/
def hkSum : Row where
  idx := 0x2C40; sub := 0x1; ty := .u64; cls := .ro; ist := 0x1; icnt := 32
/-- HK_COUNT -/
def hkCount : Row where
  idx := 0x2C40; sub := 0x2; ty := .u32; cls := .ro; ist := 0x1; icnt := 32
/-- HK_SUMSQ -/
def hkSumsq : Row where
  idx := 0x2C40; sub := 0x3; ty := .u64; cls := .ro; ist := 0x1; icnt := 32
/-- HK_MIN -/
def hkMin : Row where
  idx := 0x2C40; sub := 0x4; ty := .u16; cls := .ro; ist := 0x1; icnt := 32; dfl := [65535]
/-- HK_MAX -/
def hkMax : Row where
  idx := 0x2C40; sub := 0x5; ty := .u16; cls := .ro; ist := 0x1; icnt := 32
/-- HK_MIN_T96 -/
def hkMinT96 : Row where
  idx := 0x2C40; sub := 0x6; ty := .t96; cls := .ro; ist := 0x1; icnt := 32
/-- HK_MAX_T96 -/
def hkMaxT96 : Row where
  idx := 0x2C40; sub := 0x7; ty := .t96; cls := .ro; ist := 0x1; icnt := 32
/-- HK_MEAN -/
def hkMean : Row where
  idx := 0x2C40; sub := 0x8; ty := .f64; cls := .ro; ist := 0x1; icnt := 32
/-- HK_GAIN: factory or 1.6/65,535: DESIGN CHOICE for inputs 16 to 30 -/
def hkGain : Row where
  idx := 0x2C40; sub := 0x9; ty := .f64; cls := .ro; ist := 0x1; icnt := 32; dfl := [0x3EF999B3334CCCE7, 0x3EF999B3334CCCE7, 0x3EF999B3334CCCE7, 0x3EF999B3334CCCE7, 0x3EF999B3334CCCE7, 0x3EF999B3334CCCE7, 0x3EF999B3334CCCE7, 0x3EF999B3334CCCE7, 0x3EF999B3334CCCE7, 0x3EF999B3334CCCE7, 0x3EF999B3334CCCE7, 0x3EF999B3334CCCE7, 0x3EF999B3334CCCE7, 0x3EF999B3334CCCE7, 0x3EF999B3334CCCE7, 0x3EF999B3334CCCE7, 0x3F70000000000000, 0x3F70000000000000, 0x3F70000000000000, 0x3F70000000000000, 0x3F70000000000000, 0x3F00000000000000, 0x3F00000000000000, 0x3F00000000000000, 0x3F00000000000000, 0x3F00000000000000, 0x3F00000000000000, 0x3F00000000000000, 0x3F00000000000000, 0x3F00000000000000, 0x3F00000000000000, 0x3EF999B3334CCCE7]; byIdx := true
/-- HK_OFFSET: factory or 0.0: DESIGN CHOICE for inputs 16 to 30 -/
def hkOffset : Row where
  idx := 0x2C40; sub := 0xA; ty := .f64; cls := .ro; ist := 0x1; icnt := 32; dfl := [0, 0, 0, 0, 0, 0, 0, 0, 0, 0, 0, 0, 0, 0, 0, 0, 0xC050000000000000, 0xC050000000000000, 0xC050000000000000, 0xC050000000000000, 0xC050000000000000, 0, 0, 0, 0, 0, 0, 0, 0, 0, 0, 0]; byIdx := true
/-- HK_FLAGS: uncalibrated inputs, R414 -/
def hkFlags : Row where
  idx := 0x2C40; sub := 0xB; ty := .u8; cls := .ro; ist := 0x1; icnt := 32; dfl := [2, 2, 2, 2, 2, 2, 2, 2, 2, 2, 2, 2, 2, 2, 2, 2, 0, 0, 0, 0, 0, 0, 0, 0, 0, 0, 0, 0, 0, 0, 0, 0]; byIdx := true
/-- RFOV_THRESH -/
def rfovThresh : Row where
  idx := 0x2C60; sub := 0x1; ty := .u16; cls := .live; ist := 0x1; icnt := 4; dfl := [1023]; pers := true; chk := .rng (0) 1023
/-- RFOV_HYST -/
def rfovHyst : Row where
  idx := 0x2C60; sub := 0x2; ty := .u8; cls := .live; ist := 0x1; icnt := 4; dfl := [1]; pers := true; chk := .rng (0) 3
/-- WM_STATE -/
def wmState : Row where
  idx := 0x2C70; sub := 0x1; ty := .u16; cls := .ro
/-- PG_MODE -/
def pgMode : Row where
  idx := 0x2D00; sub := 0x1; ty := .u8; cls := .plan; ist := 0x1; icnt := 16; pers := true; chk := .rng (0) 5
/-- PG_IDLE -/
def pgIdle : Row where
  idx := 0x2D00; sub := 0x2; ty := .bool; cls := .plan; ist := 0x1; icnt := 16; pers := true
/-- PG_WIDTH -/
def pgWidth : Row where
  idx := 0x2D00; sub := 0x3; ty := .u32; cls := .plan; ist := 0x1; icnt := 16; dfl := [96000]; pers := true; chk := .rng (96) 4294967295
/-- PG_DELAY -/
def pgDelay : Row where
  idx := 0x2D00; sub := 0x4; ty := .u64; cls := .plan; ist := 0x1; icnt := 16; pers := true; chk := .rng (0) 1099511627775
/-- PG_SPACING -/
def pgSpacing : Row where
  idx := 0x2D00; sub := 0x5; ty := .u64; cls := .plan; ist := 0x1; icnt := 16; dfl := [0x2EE00]; pers := true
/-- PG_COUNT -/
def pgCount : Row where
  idx := 0x2D00; sub := 0x6; ty := .u16; cls := .plan; ist := 0x1; icnt := 16; dfl := [1]; pers := true; chk := .rng (1) 65535
/-- PG_TIMER -/
def pgTimer : Row where
  idx := 0x2D00; sub := 0x7; ty := .u8; cls := .plan; ist := 0x1; icnt := 16; pers := true; chk := .rng (0) 7
/-- PG_TRIG_UNITS -/
def pgTrigUnits : Row where
  idx := 0x2D00; sub := 0x8; ty := .u16; cls := .plan; ist := 0x1; icnt := 16; pers := true
/-- PG_BALL -/
def pgBall : Row where
  idx := 0x2D00; sub := 0x9; ty := .u8; cls := .plan; ist := 0x1; icnt := 16; pers := true; chk := .rng (0) 3
/-- PG_TRIP_MASK: the bits that Table 18.7 does not name are taken as reserved (log entry 173) -/
def pgTripMask : Row where
  idx := 0x2D00; sub := 0xA; ty := .u16; cls := .plan; ist := 0x1; icnt := 16; pers := true; mask := 0xFFF
/-- PG_TRIP_INV -/
def pgTripInv : Row where
  idx := 0x2D00; sub := 0xB; ty := .u16; cls := .plan; ist := 0x1; icnt := 16; pers := true; mask := 0xFFF
/-- PG_TRIP_LEVEL -/
def pgTripLevel : Row where
  idx := 0x2D00; sub := 0xC; ty := .bool; cls := .plan; ist := 0x1; icnt := 16; pers := true
/-- PG_TRIP_HOLD -/
def pgTripHold : Row where
  idx := 0x2D00; sub := 0xD; ty := .u32; cls := .plan; ist := 0x1; icnt := 16; pers := true
/-- PG_FIRE -/
def pgFire : Row where
  idx := 0x2D00; sub := 0xE; ty := .u8; cls := .wo; ist := 0x1; icnt := 16; chk := .one [1]
/-- PG_TRIP_CLR -/
def pgTripClr : Row where
  idx := 0x2D00; sub := 0xF; ty := .u8; cls := .wo; ist := 0x1; icnt := 16; chk := .one [1]
/-- PG_STATE -/
def pgState : Row where
  idx := 0x2D10; sub := 0x1; ty := .u8; cls := .ro; ist := 0x1; icnt := 16
/-- PG_PULSES -/
def pgPulses : Row where
  idx := 0x2D10; sub := 0x2; ty := .u64; cls := .ro; ist := 0x1; icnt := 16
/-- PG_IGNORED -/
def pgIgnored : Row where
  idx := 0x2D10; sub := 0x3; ty := .u32; cls := .ro; ist := 0x1; icnt := 16
/-- PG_TRIPS -/
def pgTrips : Row where
  idx := 0x2D10; sub := 0x4; ty := .u32; cls := .ro; ist := 0x1; icnt := 16
/-- PG_LAST_T96 -/
def pgLastT96 : Row where
  idx := 0x2D10; sub := 0x5; ty := .t96; cls := .ro; ist := 0x1; icnt := 16
/-- PG_TRIP_T96 -/
def pgTripT96 : Row where
  idx := 0x2D10; sub := 0x6; ty := .t96; cls := .ro; ist := 0x1; icnt := 16
/-! 21_service.md R476, Table 21.7 -/

/-- FIT_CMD -/
def fitCmd : Row where
  idx := 0x3800; sub := 0x1; ty := .u32; cls := .wo; mask := 0xFFFFFF
/-- FIT_STATE -/
def fitState : Row where
  idx := 0x3800; sub := 0x2; ty := .u8; cls := .ro
/-- FIT_TARGET -/
def fitTarget : Row where
  idx := 0x3800; sub := 0x3; ty := .u32; cls := .ro
/-- FIT_PROGRESS -/
def fitProgress : Row where
  idx := 0x3800; sub := 0x4; ty := .u16; cls := .ro
/-- CAL_STORE_CMD -/
def calStoreCmd : Row where
  idx := 0x3800; sub := 0x5; ty := .u8; cls := .wo; chk := .one [1]
/-- CAL_STORE_GEN -/
def calStoreGen : Row where
  idx := 0x3800; sub := 0x6; ty := .u64; cls := .ro
/-- CAL_STORE_T96 -/
def calStoreT96 : Row where
  idx := 0x3800; sub := 0x7; ty := .t96; cls := .ro
/-- CAL_STORE_STATE -/
def calStoreState : Row where
  idx := 0x3800; sub := 0x8; ty := .u8; cls := .ro
/-- PARAM_STORE_GEN -/
def paramStoreGen : Row where
  idx := 0x3800; sub := 0x9; ty := .u64; cls := .ro
/-! 02_dictionary.md R38 -/

/-- PARAM_STORE -/
def paramStore : Row where
  idx := 0x3800; sub := 0x20; ty := .u32; cls := .wo; chk := .rng (1) 2
/-! 21_service.md R476, Table 21.7 -/

/-- LEDGER_GEN -/
def ledgerGen : Row where
  idx := 0x3801; sub := 0x1; ty := .u64; cls := .ro
/-- LEDGER_FREE -/
def ledgerFree : Row where
  idx := 0x3801; sub := 0x2; ty := .u16; cls := .ro; dfl := [1022]
/-- LEDGER_BAD -/
def ledgerBad : Row where
  idx := 0x3801; sub := 0x3; ty := .u32; cls := .ro
/-- HOURS_POWERED -/
def hoursPowered : Row where
  idx := 0x3801; sub := 0x4; ty := .u32; cls := .ro
/-- HOURS_ACTIVE -/
def hoursActive : Row where
  idx := 0x3801; sub := 0x5; ty := .u32; cls := .ro
/-- THERMAL_CYCLES -/
def thermalCycles : Row where
  idx := 0x3801; sub := 0x6; ty := .u16; cls := .ro
/-- POOL_SPARES: Table 21.1; the DRAM pool is 0 to 4, DESIGN CHOICE 0 before training; pool 7 is 8 per macro -/
def poolSpares : Row where
  idx := 0x3802; sub := 0x1; ty := .u8; cls := .ro; sst := 1; scnt := 7; dfl := [4, 4, 16, 8, 2, 0, 8]
/-- POOL_RETIRED -/
def poolRetired : Row where
  idx := 0x3802; sub := 0x11; ty := .u16; cls := .ro; sst := 1; scnt := 7
/-- LEDGER_IMAGE: 32,768 bytes of the active half -/
def ledgerImage : Row where
  idx := 0x8020; sub := 0x1; ty := .domain; cls := .ro
/-! 22_startup.md R482, R490 -/

/-- FW_IMAGE_A -/
def fwImageA : Row where
  idx := 0x8000; sub := 0x1; ty := .domain; cls := .own
/-- FW_IMAGE_B -/
def fwImageB : Row where
  idx := 0x8000; sub := 0x2; ty := .domain; cls := .own

end O

/-- Rows of the dictionary, part 0. -/
def dictPart0 : List Row :=
  [O.idPart, O.idStepping, O.fwVersion, O.bootSel, O.bootSlot, O.bootStatus, O.resetCause, O.readyState,
   O.readyMs, O.resetCmd, O.svnMin, O.recoveryCmd, O.ownerId, O.ownerState, O.leaseTime, O.leaseLeft,
   O.successorId, O.ownerSince, O.myId, O.pcieClaim, O.pcieRenew, O.pcieHandover, O.pcieAccept, O.pcieLastAbort,
   O.readView, O.sessOpen, O.adpIdle, O.adpAuthFail, O.canNode, O.canFragErr, O.mbxTarget, O.mbxOffset,
   O.mbxLength, O.mbxTotal, O.mbxCmd, O.mbxStatus, O.mbxAbort, O.mbxResultLen, O.mbxData, O.adpKey, O.planCmd,
   O.admResult, O.admObject, O.admObject2, O.admValue, O.admLimit, O.planState, O.planGen, O.pendingTime,
   O.commitTime, O.admFailMask, O.pendingLateOk, O.powerCap, O.admPowerEst, O.activePowerEst, O.pwrState,
   O.pwrFloorPlan, O.pwrFloorLat, O.pwrDwell, O.quiesceMax]

/-- Rows of the dictionary, part 1. -/
def dictPart1 : List Row :=
  [O.pwrOffMask, O.pwrDomainCmd, O.pwrHeldOff, O.pwrDomainOn, O.pwrP0Est, O.pwrWakes, O.pwrExitNs, O.pwrLtol,
   O.xcOverrun, O.xcOverrunClr, O.evEnable, O.evPending, O.evClear, O.evRoute, O.evModUs, O.evRingBase,
   O.evRingSize, O.evRingWpAddr, O.evRingSeq, O.evMerged, O.evAdpModUs, O.frState, O.frFirst, O.frFirstT96,
   O.frFirstData, O.frOverflow, O.frAck, O.frTimer, O.frRelease, O.frSafe, O.frRaw, O.frWire, O.frMask,
   O.frCount, O.pllcSrc, O.pllcRefHz, O.pllcBw, O.pllcLockPpb, O.pllcLockGate, O.pllcRefWin, O.pllcQualTime,
   O.pllcPhasePull, O.pllcSlew, O.pllcHoldAvg, O.ppsinEn, O.clkoutSel, O.pllcState, O.pllcLocked, O.pllcFreqErr,
   O.pllcPhaseErr, O.pllcHoldT96, O.pllcHoldRatio, O.pllcRefFreq, O.ppsinPhase, O.pllcHandoff, O.xoAgeRate,
   O.xoAgeT0, O.xoTemp, O.xoCorr, O.frootHz]

/-- Rows of the dictionary, part 2. -/
def dictPart2 : List Row :=
  [O.pllaMode, O.pllaLockWait, O.phaseStep, O.pllaLolClr, O.pllaRelock, O.pllaState, O.pllaLol, O.frootActual,
   O.pllaN, O.pllaFrac, O.phaseRemain, O.phaseTotal, O.pllaLockT96, O.xoTcTable, O.tcNow, O.tcValid, O.tcSet,
   O.tcStep, O.tcStepAccept, O.tcFreqAdj, O.tcSlew, O.tcSlewRate, O.jumpMax, O.ppsoutEn, O.ppsoutWidth, O.tcInc,
   O.tcIncExt, O.tcSlewRemain, O.tcStepHeld, O.tcStepHeldSrc, O.tcStepHeldSeq, O.tcLastStep, O.tcLastStepT96,
   O.ptpMode, O.ptpDomain, O.ptpPriority1, O.ptpPriority2, O.ptpClockClass, O.ptpClockId, O.ptpUtcOffset,
   O.ptpTcLocal, O.ptpTcDelay, O.ptpRole, O.ptpTransport, O.ptpDelay, O.ptpLogSync, O.ptpLogAnnounce,
   O.ptpLogDelay, O.ptpAnnTimeout, O.ptpTxLat, O.ptpRxLat, O.ptpAsym, O.synceEsmc, O.synceTxQl, O.ptpPortState,
   O.ptpOffset, O.ptpMpd, O.ptpT, O.ptpParent, O.ptpRxCount]

/-- Rows of the dictionary, part 3. -/
def dictPart3 : List Row :=
  [O.ptpDropCount, O.synceRxQl, O.tcServo, O.servoSrc, O.servoBw, O.servoStepThr, O.servoLockNs, O.servoState,
   O.laceEn, O.laceHz, O.laceVetoLines, O.laceVetoUnits, O.laceSDrive, O.laceSCmd, O.laceState, O.laceCycle,
   O.laceST96, O.lacePeriod, O.laceTCount, O.laceVetoed, O.taFree, O.taDroppedCount, O.taTime, O.taKind,
   O.taTarget, O.taArg, O.taPeriod, O.taFlags, O.taValid, O.taState, O.cvEnable, O.cvFormat, O.calMode, O.calDt,
   O.calMaxInterval, O.calCmd, O.calState, O.calSeq, O.calLastT96, O.calTref, O.dieTemp, O.idleSc,
   O.sparePresent, O.idxEpoch, O.idxEpochT96, O.ovrBlocks, O.slotSc, O.scState, O.ddcEnable, O.ddcInput,
   O.ncoFtw, O.ncoPhase, O.ddcK, O.firTaps, O.gainShift, O.gainFine, O.outFormat, O.frameExp, O.syncMember,
   O.ddcState]

/-- Rows of the dictionary, part 4. -/
def dictPart4 : List Row :=
  [O.syncSeq, O.lastSyncIndex, O.lastSyncT96, O.satFrames, O.groupDelay, O.outRate, O.retuneIndex, O.firCoef,
   O.syncPinEn, O.syncCmd, O.groupSyncSeq, O.groupLastT96, O.groupLastCause, O.teEnable, O.teSrcKind, O.teSlices,
   O.teLog2n, O.teTaps, O.teOverlap, O.teWindow, O.teDetMask, O.avgM, O.avgSplit, O.spanStart, O.spanCount,
   O.teState, O.teLoad, O.teSpecRate, O.teLaneMap, O.teSpareLane, O.teLaneSwaps, O.teSuspect, O.teWindowSum,
   O.teEnbw, O.teCapacity, O.teWindowTable, O.tuEnable, O.tuSrc, O.tuSel, O.tuMode, O.tuLevel, O.tuHyst,
   O.tuWinLo, O.tuWinHi, O.tuStretch, O.tuMask, O.tuRegion, O.tuLaceDrive, O.tuLatBound, O.tuFires, O.tuState,
   O.tuLastIndex, O.tuLastT96, O.tuLatMax, O.tuMaskTable, O.aqEnable, O.aqMode, O.aqSrcKind, O.aqSrc, O.aqExpr]

/-- Rows of the dictionary, part 5. -/
def dictPart5 : List Row :=
  [O.aqUnits, O.aqThenWin, O.aqPre, O.aqPost, O.aqSegments, O.aqRingBase, O.aqRingSize, O.aqFacetBase,
   O.aqFacetSize, O.aqFacetLog2d, O.aqRingMode, O.aqStart, O.aqDeclRate, O.aqLadHigh, O.aqLadLow, O.aqLadHold,
   O.aqLadMax, O.aqState, O.aqSegSeq, O.aqLevel, O.aqIgnored, O.aqRefused, O.aqWritePtr, O.aqFifoFill,
   O.aqHistNeed, O.dnEnable, O.dnLayout, O.dnMode, O.dnGroupMin, O.dnDecay, O.dnDecayTick, O.dnDecayAmount,
   O.dnDecayShift, O.dnPersist, O.dnPalMode, O.dnPalScale, O.dnSnapBase, O.dnSnapSize, O.dnSnapPeriod,
   O.dnSnapCmd, O.dnClearCmd, O.dnPEngine, O.dnPSrc, O.dnPTop, O.dnPRowStep, O.dnState, O.dnGroup, O.dnRate,
   O.dnClamped, O.dnSatHits, O.dnSnapSeq, O.dnSnapT96, O.dnSnapSkipped, O.dnClearT96, O.dnParityErr,
   O.dnSpareBanks, O.sgEnable, O.sgEngine, O.sgSrc, O.sgDetector]

/-- Rows of the dictionary, part 6. -/
def dictPart6 : List Row :=
  [O.sgLineDiv, O.sgWidth, O.sgTop, O.sgRange, O.sgRingBase, O.sgRingLines, O.sgLineSeq, O.sgWriteLine,
   O.sgLineRate, O.dnPalette, O.awStoreEn, O.awStoreBase, O.bnRecBase, O.bnRecSize, O.bnSpillBase, O.bnSpillSize,
   O.bnSpillRate, O.bnFitPos, O.bnWEnable, O.bnWEngine, O.bnWSrc, O.bnWDet, O.bnWBase, O.bnWBinFirst,
   O.bnWBinCount, O.bnWConv, O.bnSpare, O.bnRecWritePtr, O.bnFlags, O.bnSwaps, O.bnPhysState, O.awEnable,
   O.awWindow, O.awBudget, O.awRecMax, O.awState, O.awPhys, O.awFrames, O.awCycMax, O.awOverruns, O.awMissed,
   O.awRecRefused, O.awMemErr, O.awImage, O.ticEnable, O.ticSrc, O.tinMode, O.tinTerm, O.tinUpper, O.tinLower,
   O.tinHoldoff, O.ticPolarity, O.ticDeclRate, O.ticKMin, O.ticKMax, O.ticDecHold, O.ticRingBase, O.ticRingSize,
   O.ticCalMode, O.ticCalDt]

/-- Rows of the dictionary, part 7. -/
def dictPart7 : List Row :=
  [O.ticCalCmd, O.ticState, O.ticCount, O.ticK, O.ticRecords, O.ticMerged, O.ticOverflow, O.tinHoldoffSupp,
   O.ticQueueFill, O.ticRingWritePtr, O.ticUndecided, O.ticCalState, O.ticCalSeq, O.ticCalTref, O.ticMinSpacing,
   O.ipState, O.loupeTable, O.msEnable, O.msFunc, O.msChanA, O.msChanB, O.msMethod, O.msTiMode, O.msArm,
   O.msArmSel, O.msGateKind, O.msGateSel, O.msGateTime, O.msGates, O.msDeclRate, O.msStatN, O.msFnom,
   O.msAdevTaus, O.msAdevX, O.msAdevReset, O.msState, O.msResult, O.msResultT96, O.msResultFlags, O.msResultSeq,
   O.msEdges, O.msPoints, O.msStatMean, O.msStatSdev, O.msStatMin, O.msStatMax, O.msStatCount, O.msStatT96,
   O.msOverrun, O.adSigma, O.adTerms, O.msRingBase, O.msRingSize, O.msRingWritePtr, O.drAddrOrder,
   O.drSpareDemand, O.drSpareCfg, O.drRhThreshold, O.drRhRadius, O.drCeRetire]

/-- Rows of the dictionary, part 8. -/
def dictPart8 : List Row :=
  [O.drScrubHours, O.drState, O.drCapacity, O.drRankBytes, O.drActiveRanks, O.drZeroPtr, O.drMigState,
   O.drMigRank, O.drMigPtr, O.drPoisonLines, O.drPoisonReads, O.drBwCapacity, O.drLoad, O.drPosState,
   O.drRankMap, O.drCeCount, O.drUeCount, O.drRhRefreshes, O.drTemp, O.drPortRes, O.drPortPanics, O.drPortBytes,
   O.dmaEnable, O.dmaHostRate, O.dmaWinBase, O.dmaWinSize, O.dmaStart, O.dmaNudge, O.dmaStop, O.dmaState,
   O.dmaCur, O.dmaBytes, O.dmaLastStatus, O.dmaDoneCount, O.stEnable, O.stSrcKind, O.stSrc, O.stFormat, O.stDest,
   O.stRingBase, O.stRingSize, O.stDrainUs, O.stRecMax, O.stFlushUs, O.stCrc, O.stEvtBytes, O.stHostBase,
   O.stHostSize, O.stHostWpAddr, O.stHostRpAddr, O.stHostMode, O.stNvSet, O.stUdpEth, O.stUdpIpv6, O.stUdpDstMac,
   O.stUdpDstIpHi, O.stUdpDstIpLo, O.stUdpPorts, O.stUdpDscp, O.vdPayload]

/-- Rows of the dictionary, part 9. -/
def dictPart9 : List Row :=
  [O.vdRefEpoch, O.vdThread, O.vdStation, O.stState, O.stRecSeq, O.stBytes, O.stLost, O.stRate, O.stNvOffset,
   O.nvMembers, O.nvStripe, O.nvMode, O.nvCatMs, O.nvSetRate, O.nvTimeoutMs, O.nvTrimCmd, O.nvMNs, O.nvMStart,
   O.nvMCount, O.nvSetState, O.nvCapacity, O.nvCatGen, O.nvBytesDone, O.nvCtrlState, O.nvCtrlQueues,
   O.nvCtrlMdts, O.nvCtrlTemp, O.nvCtrlWarn, O.nvCtrlErrors, O.pcieWidth, O.pcieSpeed, O.pcieHostCap,
   O.nvRootWidth, O.nvRootSpeed, O.nvRootCap, O.nvWorkBase, O.ethRate, O.ethFec, O.ethMac, O.ethIpv4,
   O.ethIpv4Prefix, O.ethIpv6Hi, O.ethIpv6Lo, O.ethMtu, O.ethLink, O.canNomRate, O.canDataRate, O.canBrs,
   O.canSpNom, O.canSpData, O.canState, O.dpEnable, O.dpLanes, O.dpLaneRate, O.dpPclkKhz, O.dpHActive, O.dpHFp,
   O.dpHSync, O.dpHBp, O.dpVActive]

/-- Rows of the dictionary, part 10. -/
def dictPart10 : List Row :=
  [O.dpVFp, O.dpVSync, O.dpVBp, O.dpSyncPol, O.dpVClasp, O.dpL0Plane, O.dpL1Src, O.dpL3AreaBase, O.dpL3AreaSize,
   O.dpL3MaxW, O.dpL3MaxH, O.dpTrSrc, O.dpLGeom, O.dpLCtrl, O.dpL3Addr, O.dpL3Stride, O.dpBg, O.dpHmExpect,
   O.dpTrStyle, O.dpCommit, O.dpState, O.dpFrame, O.dpFlipT96, O.dpCommitSeq, O.dpLate, O.dpHmLast, O.dpHmFrame,
   O.dpHmMismatch, O.dpLayerState, O.dpLink, O.dpPortLoad, O.dpRetiredAddr, O.dpEdid, O.hkSnapCmd, O.hkCalCmd,
   O.hkCalFsV, O.hkSnapT96, O.hkLoad, O.gtOrigin, O.gtPeriod, O.gtTicks, O.gtSkipped, O.hkSlotInput, O.hkSlotSel,
   O.hkSlotStart, O.hkSlotDelay, O.hkSlotReps, O.hkSlotMissed, O.hkSum, O.hkCount, O.hkSumsq, O.hkMin, O.hkMax,
   O.hkMinT96, O.hkMaxT96, O.hkMean, O.hkGain, O.hkOffset, O.hkFlags, O.rfovThresh]

/-- Rows of the dictionary, part 11. -/
def dictPart11 : List Row :=
  [O.rfovHyst, O.wmState, O.pgMode, O.pgIdle, O.pgWidth, O.pgDelay, O.pgSpacing, O.pgCount, O.pgTimer,
   O.pgTrigUnits, O.pgBall, O.pgTripMask, O.pgTripInv, O.pgTripLevel, O.pgTripHold, O.pgFire, O.pgTripClr,
   O.pgState, O.pgPulses, O.pgIgnored, O.pgTrips, O.pgLastT96, O.pgTripT96, O.fitCmd, O.fitState, O.fitTarget,
   O.fitProgress, O.calStoreCmd, O.calStoreGen, O.calStoreT96, O.calStoreState, O.paramStoreGen, O.paramStore,
   O.ledgerGen, O.ledgerFree, O.ledgerBad, O.hoursPowered, O.hoursActive, O.thermalCycles, O.poolSpares,
   O.poolRetired, O.ledgerImage, O.fwImageA, O.fwImageB]

/-- Every row of the dictionary. -/
def dict : List Row :=
  dictPart0 ++ dictPart1 ++ dictPart2 ++ dictPart3 ++ dictPart4 ++ dictPart5 ++ dictPart6 ++ dictPart7 ++ dictPart8 ++ dictPart9 ++ dictPart10 ++ dictPart11

/-- The row and instance at an index and subindex in a list of rows. -/
def findRow : List Row → Nat → Nat → Option (Row × Nat × Nat)
  | [], _, _ => none
  | r :: rs, index, subindex =>
    match r.inst index subindex with
    | some (i, j) => some (r, i, j)
    | none => findRow rs index subindex

/-- `LOUPE_TABLE` has five tables per channel at a step of sixteen indices: the eleven indices after them are
undefined (R258, R30). -/
def hole (index : Nat) : Bool := decide (0xB000 ≤ index ∧ index < 0xB080 ∧ 5 ≤ index % 16)

/-- The object that the manual defines at an index and subindex (R30). -/
def lookup (index subindex : Nat) : Option (Row × Nat × Nat) :=
  if hole index then none else findRow dict index subindex

end Sys2Proof.Machine
end

