-- ==== Sys2Proof/Machine/Types.lean ====
section
/-! DEFINITION. The records State is made of, group by group: the structures of the units' own state that the rules
speak of beside the dictionary objects. A structure's field values are its values after reset. -/

namespace Sys2Proof.Machine

/-- A raise waiting in the event unit's bundled crossing (R425): when it arrived, its number, data and merges. -/
structure Raise where
  /-- arrival, as elapsed time -/
  at_ : Nat
  /-- event number -/
  event : Nat
  /-- data -/
  data : Nat
  /-- raises merged into it -/
  merged : Nat := 0
deriving DecidableEq, Repr

/-- An entry of a session's event queue (R431, Table 2.6). -/
structure EvEntry where
  /-- event number -/
  event : Nat
  /-- T96 of the taking -/
  t96 : Nat
  /-- data -/
  data : Nat
deriving DecidableEq, Repr

/-- An ADP or CAN FD session (R45 to R50, R431). -/
structure Session where
  /-- open -/
  isOpen : Bool := false
  /-- bound key -/
  key : Nat := 0
  /-- nonce -/
  nonce : Nat := 0
  /-- last SEQ accepted from the master -/
  rxSeq : Nat := 0
  /-- last SEQ sent by the device -/
  txSeq : Nat := 0
  /-- port -/
  port : Nat := 0
  /-- addresses and UDP ports of its last authenticated request (log entry 134) -/
  peer : AdpPeer := {}
  /-- the stored reply to the last request (R49) -/
  reply : List Byte := []
  /-- subscribed events, one bit each -/
  subs : Nat := 0
  /-- event queue, oldest first -/
  queue : List EvEntry := []
  /-- entries dropped since the last EVENT message -/
  dropped : Nat := 0
  /-- T96 of the first of them -/
  droppedAt : Nat := 0
deriving DecidableEq, Repr

/-- A segmented transfer in progress (R44). -/
structure Xfer where
  /-- master ID -/
  master : Nat
  /-- index × 256 + subindex -/
  key : Nat
  /-- a write collects, a read serves from its snapshot -/
  write : Bool
  /-- total length -/
  total : Nat
  /-- bytes collected so far, or the snapshot -/
  data : List Byte
  /-- next offset of a read -/
  next : Nat := 0
  /-- an owner write broke the read -/
  broken : Bool := false
deriving DecidableEq, Repr

/-- A CAN FD message being reassembled (R54). -/
structure CanAsm where
  /-- bytes so far -/
  data : List Byte
  /-- next counter value -/
  next : Nat
deriving DecidableEq, Repr

/-- A running mailbox command (R43). -/
structure MbxRun where
  /-- the command value of MBX_CMD -/
  cmd : Nat
  /-- target key -/
  key : Nat
  /-- abort code, 0 when it will end done -/
  abort : Nat
  /-- it needs ownership -/
  needsOwner : Bool
deriving DecidableEq, Repr

/-- A running admission (R62): PLAN_CMD value, and what became of it meanwhile. -/
structure Admission where
  /-- 1 ADMIT, 2 COMMIT, 3 ARM -/
  cmd : Nat
  /-- step 3 of the ladder was taken: it commits and arms nothing (R438) -/
  bare : Bool := false
deriving DecidableEq, Repr

/-- What a PTP message sent carries beside its times: port, transport of R310, whether the device writes its UDP checksum (R312),
domain, type and sequenceId. -/
structure PtpHead where
  /-- port -/
  port : Nat
  /-- 0 Ethernet, 1 UDP over IPv4, 2 UDP over IPv6 -/
  transport : Nat
  /-- a UDP checksum is written -/
  checksum : Bool
  /-- domainNumber -/
  domain : Nat
  /-- messageType -/
  type : Nat
  /-- sequenceId -/
  seq : Nat
deriving DecidableEq, Repr

/-- What leaves the device. -/
inductive Out where
  /-- an ADP message sent on an Ethernet port from a UDP address and port of the device to those of a master -/
  | adp (port : Nat) (peer : AdpPeer) (msg : List Byte)
  /-- the answer to a request that one master made of the dictionary server: its abort code, 0 when it was executed -/
  | answer (master : Nat) (code : Nat)
  /-- data returned by a BAR0 read -/
  | readData (value : Nat)
  /-- a write to host memory -/
  | hostWrite (addr : Nat) (bytes : List Byte)
  /-- as `hostWrite`, in poisoned TLPs (R362) -/
  | hostPoison (addr : Nat) (bytes : List Byte)
  /-- an MSI-X message on a vector -/
  | msix (vector : Nat)
  /-- a record on an internal bus or to a stream: 0 block header, 1 slice frame, 2 spectrum record, 3 tag record,
  4 measurement record, 5 trigger record, 6 awl record -/
  | record (kind : Nat) (bytes : List Byte)
  /-- a frame on an Ethernet port -/
  | frame (port : Nat) (bytes : List Byte)
  /-- a frame on an Ethernet port ended with a bad FCS -/
  | badFrame (port : Nat)
  /-- a stream's datagram: port, destination MAC, IPv6, destination address, ports, DSCP, payload -/
  | udp (port mac : Nat) (v6 : Bool) (ip ports dscp : Nat) (payload : List Byte)
  /-- an answer to ARP, neighbour solicitation or ICMP echo on a port -/
  | neighbour (port kind target : Nat)
  /-- a catalogue written to a slot of a drive set, by the four steps of R379 -/
  | catalogue (set slot : Nat) (bytes : List Byte)
  /-- an NVMe command to a controller: opcode (an admin opcode plus 256), first LBA, bytes -/
  | nvme (controller : Nat) (opcode : Nat) (lba : Nat) (len : Nat)
  /-- a level driven on an output ball: 0–15 PG, 16 PPSOUT, 17 LACE_S, 18–21 LACE_T, 22 LACE_V,
  23 DDC_SYNC_N, 24 GATE_N -/
  | ball (ball : Nat) (level : Bool)
  /-- what CLKOUT carries from here on: 0 low, else a selection of R298 -/
  | clkout (sel : Nat)
  /-- a PTP message sent: correctionField, timestamp, requesting port identity -/
  | ptp (head : PtpHead) (correction : Int) (time requester requesterPort : Nat)
  /-- an Announce sent: currentUtcOffset and the data set (R310, R314) -/
  | announce (head : PtpHead) (utcOffset : Int) (data : List Nat)
  /-- an ESMC message sent on a port with its quality level -/
  | esmc (port ql : Nat)
  /-- a CAN FD data frame sent: identifier, data -/
  | can (ident : Nat) (bytes : List Byte)
  /-- a pulse on a ball, its leading edge at a T96 time, its width in ns -/
  | pulse (ball at_ width : Nat)
  /-- a display head starts a frame of blank or composed lines -/
  | flip (head : Nat) (frame : Nat)
deriving DecidableEq, Repr

/-! ### The index and device time -/

/-- A point of the time line (R25, R87): at a sample index the time counter read a value, and from there it adds an
increment every 32 samples. -/
structure Anchor where
  /-- sample index -/
  idx : Nat
  /-- time counter there, 2^-64 ns -/
  tc : Nat
  /-- increment per tick of fT, 2^-64 ns -/
  inc : Nat
deriving DecidableEq, Repr

/-- A move of device time within a block (R27): samples from one index up to another keep the times they had. -/
structure Hold where
  /-- index of the move -/
  from_ : Nat
  /-- first index that the move affects -/
  till : Nat
  /-- the move, 2^-64 ns -/
  delta : Int
deriving DecidableEq, Repr

/-! ### The RF path -/

/-- Background calibration and block state of a converter channel (R85 to R100). -/
structure Conv where
  /-- FIRST_INDEX of the next block to be delivered -/
  next : Nat := 0
  /-- run in progress, 0 when no rotation runs -/
  run : Nat := 0
  /-- the run is in its overlap block -/
  overlap : Bool := false
  /-- the run is a repeat -/
  again : Bool := false
  /-- a rotation is due at the next block boundary, with this cause; 0 when none -/
  due : Nat := 0
  /-- reading at the boundary at which run 1 began, a binary32 pattern -/
  tStart : Nat := 0
  /-- order in which each sub-converter's corrections were completed, larger is younger -/
  age : Map Nat := []
  /-- the last number given in `age` -/
  ageLast : Nat := 0
  /-- markers that blocks not yet delivered carry (Table 4.5), by block number -/
  marks : Map Nat := []
  /-- SC_IN of the next block's marked step -/
  scIn : Nat := 31
  /-- SC_OUT of the next block's marked step -/
  scOut : Nat := 31
  /-- SLOT of the next block's marked step -/
  slot : Nat := 0
  /-- a sample-bus parity check failed in the block in progress -/
  parity : Bool := false
  /-- active sub-converter with a reported hard failure -/
  failed : Option Nat := none
  /-- further ones, reported while that one waits -/
  more : List Nat := []
  /-- FIRST_INDEX of the first block that is SUSPECT for it -/
  suspectFrom : Nat := 0
  /-- flags and CAL_SEQ of each delivered block of the epoch, FLAGS + 65,536 × CAL_SEQ, by block number -/
  blocks : Map Nat := []
  /-- stopped by step 2 of the fault ladder -/
  isolated : Bool := false
  /-- step 2 stops it at the end of the block in progress (R437) -/
  leaving : Bool := false
  /-- `PLAN_GEN` of the plan that the block in progress is made under (R17) -/
  gen : Nat := 0
  /-- `CV_FORMAT` of that plan -/
  fmt : Nat := 0
  /-- `PLAN_GEN` of the plan that the last delivered block was made under -/
  sent : Nat := 0
deriving DecidableEq, Repr

/-- A stretch of a slice's NCO (R113, R118): from an input index it runs on from a phase with a frequency word. -/
structure Tune where
  /-- input index -/
  from_ : Nat
  /-- phase accumulator there -/
  phase : Nat
  /-- frequency word -/
  word : Nat
deriving DecidableEq, Repr

/-- A gain in force for outputs that refer to an input index or a later one (R119). -/
structure Gain where
  /-- input index -/
  from_ : Nat
  /-- `GAIN_SHIFT`, I16 pattern -/
  shift : Nat
  /-- `GAIN_FINE` -/
  fine : Nat
deriving DecidableEq, Repr

/-- A slice's running state (R104 to R119). -/
structure Slice where
  /-- number of the next output sample -/
  q : Nat := 0
  /-- n_sync -/
  nSync : Nat := 0
  /-- input index of the next sample to enter the chain -/
  inAt : Nat := 0
  /-- samples held by each halfband stage, newest first, the first stage first -/
  stages : List (List (Int × Int)) := []
  /-- cascade outputs held by the final FIR, newest first -/
  hist : List (Int × Int) := []
  /-- the NCO since the last reset, newest first -/
  tunes : List Tune := []
  /-- an accepted retune waits for its tick -/
  retune : Bool := false
  /-- retune indices that no frame has marked yet -/
  nrs : List Nat := []
  /-- retune indices of the epoch since the slice started, newest first -/
  retunes : List Nat := []
  /-- an accepted gain change waits for its tick -/
  gain : Bool := false
  /-- the gains of the run, newest first -/
  gains : List Gain := []
  /-- indices of gain changes that no frame has marked yet -/
  ngs : List Nat := []
  /-- indices of the gain changes of the epoch since the slice started, newest first -/
  gainIdxs : List Nat := []
  /-- slice flags the next frame carries -/
  marks : Nat := 0
  /-- output samples of the frame in progress -/
  part : List (Int × Int) := []
  /-- a sample of the frame in progress saturated -/
  sat : Bool := false
  /-- delivered frames since the last reset: first sample, COUNT, FLAGS, CAL_SEQ, SLICE_FLAGS -/
  frames : List (Nat × Nat × Nat × Nat × Nat) := []
  /-- output samples since the last reset that engines and trigger units may still read, newest first -/
  outs : List (Int × Int) := []
deriving DecidableEq, Repr

/-- One source of a transform engine: framing and interval accumulators (R133, R134, R141). -/
structure EngSrc where
  /-- SPEC_SEQ of the next spectrum -/
  seq : Nat := 0
  /-- source sample at which the next spectrum's span begins -/
  next : Nat := 0
  /-- the next spectrum is the first after a restart -/
  restart : Bool := true
  /-- largest retune index of the source slice that a spectrum has marked, plus one -/
  nr : Nat := 0
  /-- largest gain-change index of the source slice that a spectrum has marked, plus one -/
  ng : Nat := 0
  /-- FIRST_INDEX of the newest spectrum -/
  at_ : Nat := 0
  /-- its scaled bins, in units of 2^-40 -/
  bins : List (Int × Int) := []
  /-- the last spectrum carried CAL -/
  hadCal : Bool := false
  /-- spectra in the interval -/
  count : Nat := 0
  /-- FIRST_INDEX, T96 of the interval's first spectrum -/
  first : Nat := 0
  /-- as `first` -/
  firstT : Nat := 0
  /-- union of FLAGS over the interval -/
  flags : Nat := 0
  /-- union of TE_FLAGS over the interval -/
  teFlags : Nat := 0
  /-- CAL_SEQ of the last spectrum of the interval -/
  calSeq : Nat := 0
  /-- S1 per bin, binary64 -/
  s1 : List Nat := []
  /-- S2 per bin, binary64 -/
  s2 : List Nat := []
  /-- largest power per bin, binary32 -/
  peak : List Nat := []
  /-- smallest power per bin, binary32 -/
  least : List Nat := []
deriving DecidableEq, Repr

/-- A transform engine (R148, R149). -/
structure Eng where
  /-- a failed lane waits for the next spectrum boundary -/
  failing : Option Nat := none
  /-- the spectrum in progress is SUSPECT -/
  suspect : Bool := false
  /-- the next spectrum carries LANE_SWAP -/
  swapMark : Bool := false
  /-- retired lanes, one bit each -/
  retired : Nat := 0
  /-- retired lanes that still serve (R149) -/
  serving : Nat := 0
  /-- TE_STARTED is due at the first spectrum -/
  starting : Bool := false
  /-- stopped by step 2 of the fault ladder -/
  isolated : Bool := false
  /-- step 2 stops it at its next spectrum (R437) -/
  leaving : Bool := false
  /-- `PLAN_GEN` of the plan whose settings the engine works under (R17, R143) -/
  gen : Nat := 0
deriving DecidableEq, Repr

/-- An event of a trigger unit, as a trigger record shows it (Table 7.8). -/
structure TrigEv where
  /-- trigger index -/
  index : Nat
  /-- trigger time -/
  t96 : Nat
  /-- [35:32] as bits 3 to 0 -/
  info : Nat
  /-- SRC_DATA -/
  data : Nat
  /-- CLK_UNQUAL, TIME_UNSET and SUSPECT of a full-rate or slice source, as in Table 4.5; the record has no field for them
  (log entry 77) -/
  flags : Nat
deriving DecidableEq, Repr

/-- A trigger unit (R153 to R158). -/
structure Trig where
  /-- no event since the last commit -/
  fresh : Bool := true
  /-- hysteresis armed for a rising event -/
  armUp : Bool := true
  /-- hysteresis armed for a falling event -/
  armDown : Bool := true
  /-- its events of the index epoch, newest first, for THEN and CAUSE_MASK (R161, R162) -/
  events : List TrigEv := []
  /-- changes of its state, each with the index from which it holds, newest first, for AND (R161) -/
  states : List (Nat × Bool) := []
deriving DecidableEq, Repr

/-- The settings of a context that a segment is cut under (R160, R164 to R171). -/
structure AqCfg where
  /-- source kind -/
  kind : Nat := 0
  /-- source -/
  src : Nat := 0
  /-- FORMAT of Table 7.6 -/
  fmt : Nat := 0
  /-- continuous -/
  cont : Bool := false
  /-- pre-trigger samples -/
  pre : Nat := 0
  /-- post-trigger samples -/
  post : Nat := 0
  /-- sample ring -/
  ringBase : Nat := 0
  /-- as `ringBase` -/
  ringSize : Nat := 0
  /-- facet ring -/
  facetBase : Nat := 0
  /-- as `facetBase` -/
  facetSize : Nat := 0
  /-- `AQ_FACET_LOG2D` -/
  log2d : Nat := 0
deriving DecidableEq, Repr

/-- A segment that has ended and waits for its samples (R164, R166). -/
structure Seg where
  /-- settings -/
  cfg : AqCfg
  /-- header, as a bit pattern -/
  head : Nat
  /-- trigger record, as a bit pattern -/
  record : Nat
  /-- samples -/
  count : Nat
  /-- ladder level -/
  level : Nat
  /-- FIRST_INDEX -/
  first : Nat
  /-- T96 of it -/
  t96 : Nat
  /-- its place in the sample ring -/
  at_ : Nat := 0
  /-- place of its facets in the facet ring -/
  facetAt : Nat := 0
  /-- time flags of its trigger record (R158, log entry 77) -/
  recFlags : Nat := 0
deriving DecidableEq, Repr

/-- An acquisition context (R160 to R171). -/
structure Ctx where
  /-- it has armed since it started -/
  armedOnce : Bool := false
  /-- arm index a -/
  armIndex : Nat := 0
  /-- settings in force -/
  cfg : AqCfg := {}
  /-- trigger index of the segment in progress -/
  trigIndex : Nat := 0
  /-- trigger record of the segment in progress, as its bit pattern -/
  record : Nat := 0
  /-- its time flags (R158, log entry 77) -/
  recFlags : Nat := 0
  /-- index difference of THEN -/
  diff : Nat := 0
  /-- source sample q_t of the trigger, or first sample of a continuous segment -/
  qt : Nat := 0
  /-- source sample at which the pre-trigger history begins -/
  from_ : Nat := 0
  /-- accepted triggers -/
  trigSeq : Nat := 0
  /-- triggers ignored in the segment in progress -/
  ignored : Nat := 0
  /-- level of the segment in progress -/
  level : Nat := 0
  /-- level of the segment before it -/
  prev : Nat := 0
  /-- FIFO fill in bytes at `fillAt`, of which the segment in progress is no part -/
  fill : Nat := 0
  /-- counter value of `fill`: the end of the last segment, or the opening of the one in progress -/
  fillAt : Nat := 0
  /-- counter value from which the fill is below the low mark -/
  lowSince : Nat := 0
  /-- REFUSED and SKIPPED of the next segment, as in Table 7.7 -/
  marks : Nat := 0
  /-- those of the segment in progress -/
  segMarks : Nat := 0
  /-- the continuous segment in progress is skipped -/
  skipping : Bool := false
  /-- the segment in progress has ended early, and the context has not gone on yet -/
  cut : Bool := false
  /-- a disarm waits for the segment in progress to complete -/
  stopping : Bool := false
  /-- disarmed by timed action -/
  disarmed : Bool := false
  /-- segments written since it last armed by a commit or an arm entry -/
  segs : Nat := 0
  /-- segments written since it last armed from STOPPED or WAITING -/
  sinceArm : Nat := 0
  /-- ring offset of the first of them -/
  firstPtr : Nat := 0
  /-- the ring came round past its end since then -/
  wrapped : Bool := false
  /-- write offset of the facet ring -/
  facetPtr : Nat := 0
  /-- ended segments that wait for their samples, oldest first -/
  ended : List Seg := []
deriving DecidableEq, Repr

/-! ### Density, spectrogram and benches -/

/-- A group of spectra of a density plane (R180). -/
structure Group where
  /-- spectra held -/
  n : Nat := 0
  /-- largest level per column so far -/
  cols : List Int := []
  /-- FIRST_INDEX of the group's first spectrum -/
  first : Nat := 0
  /-- input index of the last sample of its last spectrum -/
  last : Nat := 0
  /-- union of block flags -/
  flags : Nat := 0
  /-- `DN_Pp_TOP`, `DN_Pp_ROW_STEP` and `DN_MODE` as its first spectrum found them (R184) -/
  top : Int := 0
  /-- as `top` -/
  mode : Nat := 0
  /-- as `top` -/
  step : Nat := 1
  /-- it holds its G spectra, or a restart or a stop ended it -/
  full : Bool := false
deriving DecidableEq, Repr

/-- The hits of the last group written to a plane, for the density-region trigger (R181). -/
structure Plotted where
  /-- FIRST_INDEX of the group's first spectrum -/
  first : Nat
  /-- input index of the last sample of its last spectrum -/
  last : Nat
  /-- weight -/
  weight : Nat
  /-- rows and columns that gained the weight -/
  places : List (Nat × Nat)
deriving DecidableEq, Repr

/-- The density engine beside its table (R181 to R191). -/
structure Density where
  /-- clear requested, applies at the next fT tick -/
  clearDue : Bool := false
  /-- snapshot requested for the next fT tick -/
  snapDue : Bool := false
  /-- a snapshot is being copied to this address -/
  copying : Option Nat := none
  /-- the frozen table being copied -/
  frozen : Map Nat := []
  /-- its age of an unlisted entry -/
  frozenAge : Nat := 0
  /-- its header, as a bit pattern -/
  header : Nat := 0
  /-- age of an entry of the table that is not listed -/
  age : Nat := 0
  /-- slot the next snapshot takes -/
  slot : Nat := 0
  /-- groups written to each plane since the last clear -/
  written : Vector Nat 2 := Vector.replicate 2 0
  /-- block flags of groups since the last snapshot -/
  flags : Nat := 0
  /-- a bank was brought in since the last snapshot -/
  swapped : Bool := false
  /-- the last group written to each plane since its source started or restarted -/
  plotted : Map (List Plotted) := []
  /-- counter values of parity errors within the last second, by bank -/
  errs : Map (List Nat) := []
  /-- bank copies in progress, in order: logical bank, spare -/
  copies : List (Nat × Nat) := []
  /-- physical bank serving each logical bank, plus one, where it is not the bank itself -/
  bankMap : Map Nat := []
  /-- logical banks failing in service without a spare -/
  failing : List Nat := []
  /-- stopped by step 2 of the fault ladder -/
  isolated : Bool := false
deriving DecidableEq, Repr

/-- A spectrogram line (R187). -/
structure Line where
  /-- records combined -/
  n : Nat := 0
  /-- combined value per bin: binary32 extremes, or binary64 sums of AVERAGE records -/
  vals : List Nat := []
  /-- FIRST_INDEX of the first record -/
  first : Nat := 0
  /-- T96 of the first record -/
  firstT : Nat := 0
  /-- CAL_SEQ of the last record -/
  calSeq : Nat := 0
  /-- union of FLAGS -/
  flags : Nat := 0
  /-- union of TE_FLAGS -/
  teFlags : Nat := 0
  /-- it holds its records, or a restart ended it -/
  full : Bool := false
deriving DecidableEq, Repr

/-- A detector record on its way to a window: the header of Table 6.2 as a bit pattern, the bytes of its bins, and the counter
when it left its engine. -/
structure BusRec where
  /-- header -/
  header : Nat
  /-- bin bytes -/
  bins : List Byte
  /-- counter value -/
  left : Nat
deriving DecidableEq, Repr

/-- A window of a bench (R198). -/
structure Window where
  /-- FRAME_SEQ of the next frame -/
  seq : Nat := 0
  /-- records that have left for it, oldest first -/
  queue : List BusRec := []
deriving DecidableEq, Repr

/-- Registers of one awl core (R217, Table 10.1), and what Table 10.8 needs of the two instructions before. -/
structure Core where
  /-- data registers D0–D7 -/
  d : Vector (BitVec 16) 8 := Vector.replicate 8 0
  /-- accumulators W0, W1 -/
  w : Vector (BitVec 40) 2 := Vector.replicate 2 0
  /-- address registers J0–J7 -/
  j : Vector (BitVec 20) 8 := Vector.replicate 8 0
  /-- bases JB0–JB7 -/
  jb : Vector (BitVec 20) 8 := Vector.replicate 8 0
  /-- lengths JL0–JL7 -/
  jl : Vector (BitVec 20) 8 := Vector.replicate 8 0
  /-- modifiers JM0–JM3 -/
  jm : Vector (BitVec 20) 4 := Vector.replicate 4 0
  /-- loop counters K0–K2 -/
  k : Vector (BitVec 16) 3 := Vector.replicate 3 0
  /-- status SR -/
  sr : BitVec 16 := 0
  /-- PC, an instruction index -/
  pc : BitVec 12 := 0
  /-- active loop levels, the most recently started first: level, index after the REP, END -/
  loops : List (Fin 3 × BitVec 12 × BitVec 12) := []
  /-- return stack, newest first, at most 8 -/
  stack : List (BitVec 12) := []
  /-- address registers that a MOV or MOVI wrote one instruction before: bit n for Jn, 8 + n for JBn, 16 + n for JLn, 24 + m
  for JMm (R235) -/
  hazA1 : Nat := 0
  /-- as `hazA1`, two instructions before -/
  hazA2 : Nat := 0
  /-- D registers written one instruction before -/
  hazD1 : Nat := 0
  /-- as `hazD1`, two instructions before -/
  hazD2 : Nat := 0
  /-- accumulators written one instruction before -/
  hazW1 : Nat := 0
deriving DecidableEq, Repr

/-- A position of a bench: its core's registers and memories, and its frame loop (R195 to R206). -/
structure Position where
  /-- registers -/
  core : Core := {}
  /-- X with the token area, by byte address -/
  x : Map Byte := []
  /-- Y, by byte address from 0x0_4000 -/
  y : Map Byte := []
  /-- instruction words by index -/
  imem : Map Nat := []
  /-- instructions in the image; 0 when none is loaded -/
  ilen : Nat := 0
  /-- ENTRY of the image -/
  entry : Nat := 0
  /-- OVR_ENTRY of the image -/
  ovrEntry : Nat := 0xFFFF
  /-- a frame is running -/
  running : Bool := false
  /-- cycles of the frame -/
  cycles : Nat := 0
  /-- the next token starts at ENTRY -/
  fresh : Bool := true
  /-- the next token resumes after an overrun -/
  overrun : Bool := false
  /-- index after the last WAIT -/
  afterWait : Option (BitVec 12) := none
  /-- pending token: FRAME_SEQ, record header as bit pattern -/
  token : Option (Nat × Nat) := none
  /-- FRAME_SEQ of the frame in process -/
  frame : Nat := 0
  /-- record header of the frame in process -/
  header : Nat := 0
  /-- window, `AW_BUDGET` and `AW_REC_MAX` of the frame in process -/
  window : Nat := 0
  /-- as `window` -/
  budget : Nat := 0
  /-- as `window` -/
  recMax : Nat := 0
  /-- counter value of the commit tick that it started or restarted at (R210) -/
  startAt : Nat := 0
  /-- a commit restarts the position when the frame in process has ended (R210) -/
  restart : Bool := false
  /-- frames missed since the previous frame -/
  missed : Nat := 0
  /-- ring bytes written in this frame -/
  recBytes : Nat := 0
  /-- AW_FLAGS that the next record carries -/
  recFlags : Nat := 1
  /-- flag bits of the position, bit n for line 4b + n -/
  flags : Nat := 0
  /-- a spare core that is being loaded (R212), with the failed core -/
  loading : Option (Nat × Nat) := none
deriving DecidableEq, Repr

/-- A fitting of an awl core: frames shadowed without a difference (R214). -/
structure Shadow where
  /-- bench -/
  bench : Nat
  /-- physical core under test -/
  phys : Nat
  /-- shadowed position -/
  pos : Nat
  /-- its registers have been copied while the serving core slept in a WAIT -/
  copied : Bool
  /-- consecutive frames without a difference since then -/
  frames : Nat
deriving DecidableEq, Repr

/-- A spill in progress (R207). -/
structure Spill where
  /-- position that started it -/
  pos : Nat
  /-- to DRAM, or from it -/
  out : Bool
  /-- bench-memory offset -/
  bench : Nat
  /-- offset in the spill range -/
  off : Nat
  /-- bytes -/
  len : Nat
deriving DecidableEq, Repr

/-! ### Counter channels and measurement slots -/

/-- A tag record in a channel's queue, with what the plan it was taken under says of its way out (R78, R251). -/
structure QTag where
  /-- the record -/
  tag : Nat
  /-- declared rate at which it leaves, binary64 -/
  rate : Nat
  /-- base of the ring it goes to -/
  base : Nat
  /-- the ring's size, 0 none -/
  size : Nat
  /-- its offset there -/
  off : Nat
  /-- the number of the ring's use, which tells a ring of an earlier plan from the present one -/
  run : Nat
deriving DecidableEq, Repr

/-- A counter channel beside its objects (R236 to R256). -/
structure Chan where
  /-- tag flags of Table 11.4 the next record carries, [23:16] as bits 7 to 0 -/
  marks : Nat := 0
  /-- epoch position of the last tagged edge, 2^-16 ns, plus one; 0 none -/
  lastTag : Nat := 0
  /-- fC number of the stop edge of the last counted edge, plus one; 0 none -/
  lastStop : Nat := 0
  /-- edges counted in the decision window in progress -/
  inWindow : Nat := 0
  /-- calm windows -/
  calm : Nat := 0
  /-- pending k -/
  pendK : Option Nat := none
  /-- queue of tag records, oldest first -/
  queue : List QTag := []
  /-- root-cycle position from which the records at the queue's front leave at their rate -/
  drainFrom : Nat := 0
  /-- records drained since then -/
  drained : Nat := 0
  /-- offset of the next record to be queued in the present ring -/
  ringNext : Nat := 0
  /-- number of the present ring's use -/
  ringRun : Nat := 0
  /-- the newest record that has left the queue, the last tag before a gate that opens (R261) -/
  newest : Option Nat := none
  /-- an idle interpolator that joins the turn at the next fT tick (R255) -/
  join : Option Nat := none
  /-- active interpolators in turn order, the next one first -/
  turn : List Nat := [0, 1, 2, 3]
  /-- order in which each interpolator's table was completed, larger is younger -/
  age : Map Nat := []
  /-- the last number given in `age` -/
  ageLast : Nat := 0
  /-- run of the rotation in progress, 1 to 5; 0 none -/
  run : Nat := 0
  /-- the run is a repeat -/
  again : Bool := false
  /-- a swap waits for the next fT tick: incoming, outgoing -/
  swap : Option (Nat × Nat) := none
  /-- a rotation is due because fROOT changed -/
  due : Bool := false
deriving DecidableEq, Repr

/-- A gate that has closed and waits for its result (R261, R273). -/
structure Gate where
  /-- open time, a count of 2^-16 ns -/
  openT : Nat
  /-- close time, likewise -/
  closeT : Nat
  /-- edges of channel A in it -/
  edges : Nat
  /-- closed early (R277) -/
  short : Bool
  /-- it takes the last tag before its open time as first point -/
  shared : Bool
  /-- time gate number in the run -/
  number : Nat
deriving DecidableEq, Repr

/-- A measurement slot (R260 to R277). -/
structure Slot where
  /-- arm time T_a, a count of 2^-16 ns -/
  armT : Nat := 0
  /-- gates begun since arming -/
  gate : Nat := 0
  /-- gates completed since arming -/
  done : Nat := 0
  /-- open time of the gate in progress -/
  openT : Option Nat := none
  /-- count of channel A at its opening -/
  openCount : Nat := 0
  /-- closed gates without a result yet, oldest first -/
  closed : List Gate := []
  /-- points of channel A kept, oldest first, tag records -/
  ptsA : List Nat := []
  /-- points of channel B -/
  ptsB : List Nat := []
  /-- results formed since arming -/
  seq : Nat := 0
  /-- a disarm waits for the gate -/
  stopping : Bool := false
  /-- the next ring record carries OVERRUN -/
  dropped : Bool := false
  /-- time of the last ring record of an external-gate slot, plus one -/
  lastRing : Nat := 0
  /-- statistics block: results, mean, sum of squared deviations, minimum, maximum (binary64 patterns), T96 of the last -/
  statN : Nat := 0
  /-- as above -/
  statMean : Nat := 0
  /-- as above -/
  statM2 : Nat := 0
  /-- as above -/
  statMin : Nat := 0
  /-- as above -/
  statMax : Nat := 0
  /-- as above -/
  statT : Nat := 0
  /-- Allan phase points x[g], numerator and denominator, newest first, back to the last break -/
  xs : List (Int × Nat) := []
  /-- number of the newest of them -/
  xTop : Nat := 0
  /-- count carried across gates for the phase points -/
  xCount : Nat := 0
  /-- Allan sums, binary64 patterns -/
  sums : List Nat := List.replicate 32 0
deriving DecidableEq, Repr

/-! ### Clocks, time and PTP -/

/-- An unanswered PTP exchange or a message that waits for its follow-up. -/
structure Exchange where
  /-- sequenceId -/
  seq : Nat
  /-- time held first: t2 of a Sync, t3 of a Delay_Req, t1 of a Pdelay_Req; 2^-16 ns -/
  t : Int
  /-- t2 of a peer exchange -/
  t2 : Int := 0
  /-- t4 of a peer exchange -/
  t4 : Int := 0
  /-- correction collected so far -/
  corr : Int := 0
  /-- the response came and waits for its follow-up -/
  waits : Bool := false
deriving DecidableEq, Repr

/-- A PTP port (R310 to R315). -/
structure PtpPort where
  /-- sequenceId of the next Sync, Delay_Req, Pdelay_Req, Announce -/
  seqs : Vector Nat 4 := Vector.replicate 4 0
  /-- a two-step Sync waiting for Follow_Up -/
  sync : Option Exchange := none
  /-- a Delay_Req in flight -/
  delay : Option Exchange := none
  /-- a Pdelay_Req in flight -/
  pdelay : Option Exchange := none
  /-- t1, t2 of the last Sync, less its corrections, and t3, t4 of the last delay exchange, 2^-16 ns -/
  t1 : Int := 0
  /-- as `t1` -/
  t2 : Int := 0
  /-- as `t1` -/
  t3 : Int := 0
  /-- as `t1` -/
  t4 : Int := 0
  /-- a Sync has been completed -/
  haveSync : Bool := false
  /-- a delay exchange has been completed -/
  haveDelay : Bool := false
  /-- mean path or link delay, 2^-16 ns times 2 -/
  mpd2 : Int := 0
  /-- qualified Announce of the port's best foreign master: data, source identity and port -/
  foreign : Option (List Nat) := none
deriving DecidableEq, Repr

/-! ### DRAM, DMA, streams and drives -/

/-- A descriptor in progress (R358). -/
structure Desc where
  /-- SRC -/
  src : Nat := 0
  /-- DST -/
  dst : Nat := 0
  /-- NEXT -/
  next : Nat := 0
  /-- COUNT -/
  count : Nat := 0
  /-- CTRL -/
  ctrl : Nat := 0
deriving DecidableEq, Repr

/-- A DMA channel (R357 to R364). -/
structure Dma where
  /-- address to fetch next, [63:5], with its space in [4] -/
  fetch : Option Nat := none
  /-- descriptor in progress -/
  desc : Option Desc := none
  /-- a nudge waits -/
  nudge : Bool := false
  /-- the fetch re-reads CTRL and NEXT of a parked tail -/
  reread : Bool := false
  /-- DMA_STOP was written -/
  stop : Bool := false
  /-- a commit disabled the channel: it goes idle at the descriptor's end -/
  leaving : Bool := false
deriving DecidableEq, Repr

/-- An item of a stream's source that waits to go into a record (R368). -/
structure Item where
  /-- bytes left -/
  bytes : List Byte
  /-- index; 0 for an item without one -/
  index : Nat
  /-- T96 -/
  t96 : Nat
  /-- a part of it has gone into a record already -/
  begun : Bool := false
  /-- it was read from poisoned lines -/
  poison : Bool := false
deriving DecidableEq, Repr

/-- A closed record, frame or raw item on its way to a stream's destination. -/
structure StRec where
  /-- bytes -/
  bytes : List Byte
  /-- items that end in it: offset after the item's last byte, T96 -/
  ends : List (Nat × Nat) := []
  /-- items that begin in it -/
  count : Nat := 1
  /-- its turn among the records of all streams (R374) -/
  turn : Nat := 0
deriving DecidableEq, Repr

/-- A stream (R365 to R374). -/
structure Stream where
  /-- items that wait to go into a record -/
  items : List Item := []
  /-- ST_FLAGS that the next record carries -/
  flags : Nat := 1
  /-- closed records, frames or items waiting for the destination, oldest first -/
  ready : List StRec := []
  /-- staging ring write offset -/
  ringPtr : Nat := 0
  /-- host ring write offset -/
  wp : Nat := 0
  /-- consumer offset last read -/
  rp : Nat := 0
  /-- bytes since the last kind-2 event -/
  evtBytes : Nat := 0
  /-- bytes that wait for a whole stripe -/
  nvBuf : Nat := 0
  /-- VDIF: whole second S of the framing -/
  vdS : Nat := 0
  /-- VDIF: next frame j -/
  vdJ : Nat := 0
  /-- device time of the commit tick that started it, T96 -/
  startT : Nat := 0
  /-- sample index of the commit tick: the first live item taken begins there or later (R366) -/
  startI : Nat := 0
  /-- VDIF: sample n0 has been reached -/
  vdOn : Bool := false
deriving DecidableEq, Repr

/-- What a stream that a commit stopped still has to deliver, under the plan that ran it (R78). -/
structure Drain where
  /-- stream -/
  stream : Nat
  /-- that plan -/
  plan : Store
  /-- the stream as it stopped -/
  left : Stream
deriving DecidableEq, Repr

/-- An NVMe command that has not completed (R376, R381). -/
structure NvCmd where
  /-- controller -/
  ctrl : Nat
  /-- drive set -/
  set : Nat
  /-- opcode: 0 Flush, 1 Write -/
  op : Nat
  /-- data-stream bytes submitted before a Write -/
  off : Nat := 0
  /-- first LBA -/
  lba : Nat := 0
  /-- bytes -/
  len : Nat := 0
  /-- it was retried -/
  again : Bool := false
deriving DecidableEq, Repr

/-- The recording that a drive set takes, or took last: what its catalogues say of it (Table 16.9). -/
structure NvRun where
  /-- stream -/
  stream : Nat := 0
  /-- `ST_FORMAT` -/
  fmt : Nat := 0
  /-- `ST_SRC_KIND` -/
  kind : Nat := 0
  /-- `ST_SRC` -/
  src : Nat := 0
  /-- commit tick that started the stream, T96 -/
  startT : Nat := 0
  /-- stripe -/
  stripe : Nat := 0
  /-- log2 of the LBA size -/
  shift : Nat := 0
  /-- the members: namespace word, first LBA, LBAs -/
  members : List (Nat × Nat × Nat) := []
  /-- the other entries of the member table -/
  others : List (Nat × Nat × Nat) := []
  /-- capacity -/
  cap : Nat := 0
  /-- wrap mode -/
  wrap : Bool := false
  /-- data-stream bytes submitted -/
  sent : Nat := 0
  /-- data-stream bytes below which every Write has completed, and a Flush on every member since -/
  done : Nat := 0
deriving DecidableEq, Repr

/-- A catalogue write in progress (R379). -/
structure NvCat where
  /-- STATE -/
  state : Nat
  /-- data-stream bytes that it covers -/
  total : Nat
  /-- its slot has been written; without it the members are being flushed -/
  put : Bool
deriving DecidableEq, Repr

/-- A drive set (R377 to R381): what its member 0 holds in the catalogue slots, and the recording in progress. -/
structure NvSet where
  /-- slot of the newest valid catalogue: 0 A, 1 B -/
  slot : Nat := 1
  /-- its generation -/
  gen : Nat := 0
  /-- the other slot is newer and invalid -/
  cut : Bool := false
  /-- LAST_T96 of the recording so far -/
  lastT : Nat := 0
  /-- items submitted: data-stream bytes up to the item's end, T96 -/
  ends : List (Nat × Nat) := []
  /-- the stream has stopped; the closed catalogue is not yet valid -/
  closing : Bool := false
  /-- the recording -/
  run : NvRun := {}
  /-- the catalogue write in progress -/
  cat : Option NvCat := none
deriving DecidableEq, Repr

/-! ### Display, housekeeping and pulses -/

/-- A set of display settings: the shadow set, a pending set, or the set in force (R397). -/
structure DpSet where
  /-- `DP_Ln_GEOM` -/
  geom : Vector Nat 4 := Vector.replicate 4 0
  /-- `DP_Ln_CTRL` -/
  ctrl : Vector Nat 4 := Vector.replicate 4 0xFF00
  /-- `DP_L3_ADDR` -/
  addr : Nat := 0
  /-- `DP_L3_STRIDE` -/
  stride : Nat := 0
  /-- `DP_BG` -/
  bg : Nat := 0
  /-- `DP_HM_EXPECT` -/
  expect : Nat := 0
  /-- `DP_TRt_STYLE` -/
  style : Vector Nat 8 := Vector.replicate 8 0x6400_0000_FFFF_FFFF
deriving DecidableEq, Repr

/-- What a head latches at a clasp point for the frame to come (R394, R395). -/
structure DpLatch where
  /-- lines that SGh has completed, and the ring line after the newest -/
  lines : Nat := 0
  /-- as `lines` -/
  line : Nat := 0
  /-- records of the traces: detector code × 256 + trace, bins -/
  traces : List (Nat × List Byte) := []
deriving DecidableEq, Repr

/-- A display head (R388 to R403). -/
structure Head where
  /-- pending set, and whether it is late -/
  pend : Option (DpSet × Bool) := none
  /-- the set in force: it governs the next frame -/
  live : DpSet := {}
  /-- what was latched at the last clasp point -/
  latch : DpLatch := {}
  /-- values of the head's PLAN objects in force, in the order of Table 17.4 -/
  cfg : List Nat := []
  /-- the set, latches and PLAN values under which the frame being sent is composed -/
  shown : DpSet := {}
  /-- as `shown` -/
  shownLatch : DpLatch := {}
  /-- as `shown` -/
  shownCfg : List Nat := []
  /-- the palette loaded when the frame being sent started; none: the default (R185) -/
  shownPal : List Byte := []
  /-- L3 buffers replaced: address and flips until retirement -/
  retiring : List (Nat × Nat) := []
  /-- blank frames still to start -/
  blanks : Nat := 0
  /-- the clasp point of the frame being sent has passed -/
  clasped : Bool := false
  /-- the frame being sent is blank -/
  blank : Bool := true
  /-- a timing change waits for the clasp point of the second blank frame -/
  timing : Bool := false
  /-- the link retrains at the end of the frame being sent (Table 17.2) -/
  retrain : Bool := false
  /-- the hallmark of the frame being sent is stored -/
  marked : Bool := false
  /-- safe plan: layers off at the next clasp point -/
  safe : Bool := false
  /-- the sink's EDID -/
  sink : List Byte := []
  /-- hot plug level -/
  hpd : Bool := false
deriving DecidableEq, Repr

/-- Accumulators and trackers of a housekeeping input (R412, R413). -/
structure HkAcc where
  /-- sum of codes -/
  sum : Nat := 0
  /-- conversions -/
  count : Nat := 0
  /-- sum of squares -/
  sumsq : Nat := 0
  /-- smallest code -/
  min : Nat := 65535
  /-- largest code -/
  max : Nat := 0
  /-- T96 of the smallest -/
  minT : Nat := 0
  /-- T96 of the largest -/
  maxT : Nat := 0
deriving DecidableEq, Repr

/-- A sequencer slot's pending start or conversions (R410, R411). -/
structure HkSlot where
  /-- started and waiting for its delay -/
  waiting : Bool := false
  /-- conversions still to make -/
  left : Nat := 0
  /-- their input -/
  input : Nat := 0
  /-- started by a pulse generator -/
  byPg : Bool := false
  /-- fP cycle of the last start, as a counter value plus one -/
  startAt : Nat := 0
deriving DecidableEq, Repr

/-- A pulse generator (R416 to R419). -/
structure Pg where
  /-- output level driven -/
  level : Bool := false
  /-- edges still to come: time as a count of 2^-16 ns, and whether it is a leading edge -/
  edges : List (Nat × Bool) := []
  /-- held tripped by the fault reaction -/
  byFault : Bool := false
  /-- it was tripped already when the fault reaction came -/
  before : Bool := false
  /-- last whole second at which a pulse-per-second pulse fell due -/
  lastSecond : Nat := 0
deriving DecidableEq, Repr

/-! ### Flash -/

/-- A happening on its way to the wear ledger, or a record of it (R467, Table 21.2). -/
structure LedgerRec where
  /-- TYPE -/
  type : Nat
  /-- POOL -/
  pool : Nat := 0
  /-- GROUP -/
  group : Nat := 0
  /-- UNIT -/
  unit : Nat := 0
  /-- T96 of the happening -/
  t96 : Nat := 0
  /-- DATA -/
  data : Nat := 0
  /-- SEQ, given when it is written -/
  seq : Nat := 0
deriving DecidableEq, Repr

/-- A half of the ledger. -/
structure LedgerHalf where
  /-- header: 0 erased, 1 valid, 2 neither -/
  header : Nat := 0
  /-- GENERATION -/
  gen : Nat := 0
  /-- records, oldest first -/
  recs : List LedgerRec := []
deriving DecidableEq, Repr

/-- A slot of a flash store (R473): the values it holds, by object key or hidden number, and its DOMAIN values. -/
structure StoreSlot where
  /-- 0 erased, 1 valid, 2 neither -/
  state : Nat := 0
  /-- GENERATION -/
  gen : Nat := 0
  /-- values -/
  vals : Store := []
  /-- DOMAIN values -/
  doms : Map (List Byte) := []
  /-- persistent objects that the slot holds no value of, as one written by other firmware does (R36) -/
  lacks : List Nat := []
deriving DecidableEq, Repr

/-- A firmware image slot (R481, R482): 0 empty, 1 good, 2 bad, with its version and security number. -/
structure ImageSlot where
  /-- the image's bytes -/
  image : List Byte := []
deriving DecidableEq, Repr

/-- The xSPI flash (Table 21.4), which every reset keeps. -/
structure Flash where
  /-- ledger halves -/
  halves : Vector LedgerHalf 2 := Vector.replicate 2 {}
  /-- the active half -/
  active : Fin 2 := 0
  /-- records written since the ledger was first formatted -/
  seq : Nat := 0
  /-- calibration store slots -/
  cal : Vector StoreSlot 2 := Vector.replicate 2 {}
  /-- parameter store slots -/
  param : Vector StoreSlot 2 := Vector.replicate 2 {}
  /-- firmware image slots A and B -/
  images : Vector ImageSlot 2 := Vector.replicate 2 {}
deriving DecidableEq, Repr

end Sys2Proof.Machine
end

