-- ==== Sys2Proof/Machine/State.lean ====
section
/-! DEFINITION. The state of the block: every object of the dictionary, the state of the units behind them, the
memories, what leaves the device, and the queue of waiting commands. Registers and plan values are held sparsely: an
object that no entry names reads as its row's default, so the empty stores are the machine after a cold reset (R36, R478). -/

namespace Sys2Proof.Machine

/-- The block's state. -/
structure State where
  /-- objects of class RO, RW, WO and OWN, by key; of class RW one per master (key + 2^24 × master ID) -/
  regs : Store := []
  /-- PLAN and LIVE values of the active plan (R17, R33) -/
  active : Store := []
  /-- values that units still work under until their own boundary, by key (R17) -/
  lag : Map Nat := []
  /-- PLAN and LIVE values of the staged plan -/
  staged : Store := []
  /-- an admitted COMMIT that awaits its commit tick (R63) -/
  awaiting : Option Store := none
  /-- the plan that an ARM froze (R64) -/
  armed : Option Store := none
  /-- contents of the DOMAIN objects, by key; an unlisted one holds its default contents -/
  doms : Map (List Byte) := []
  /-- scalars of the units that no object shows, by the numbers of `H` -/
  hid : Store := []
  /-- the time counter: nanoseconds with 64 fraction bits, seconds included (R301) -/
  tc : Nat := 0
  /-- time elapsed since a cold reset, in 2^-64 ns: what timers count, and no step of device time moves (R58, R63, R341) -/
  up : Nat := 0
  /-- root cycles since the index epoch began (R86, R293) -/
  idx : Nat := 0
  /-- the epoch's time line, newest first (R25, R87) -/
  timeline : List Anchor := []
  /-- moves of device time within blocks, newest first (R27) -/
  holds : List Hold := []
  /-- steps accepted for the next fT tick: true for a time to be set, false for an offset; 2^-16 ns (R304) -/
  steps : List (Bool × Int) := []
  /-- raises waiting in the event unit, oldest first (R425) -/
  raises : List Raise := []
  /-- ADP and CAN FD sessions, by slot (R50) -/
  sess : Map Session := []
  /-- segmented transfers in progress (R44) -/
  xfers : List Xfer := []
  /-- transfers discarded that a later segment will hear of: master, key, write, and the code it hears (R44, R58) -/
  ends : List (Nat × Nat × Bool × Nat) := []
  /-- CAN FD message being reassembled (R54) -/
  can : Option CanAsm := none
  /-- mailbox command running (R43) -/
  mbx : Option MbxRun := none
  /-- bytes of the mailbox data window -/
  mbxData : Map Byte := []
  /-- admission running (R62) -/
  adm : Option Admission := none
  /-- objects with a segmented write open when the plan command was issued (R121) -/
  issued : List Nat := []
  /-- what left the device, newest first: the model's own -/
  out : List Out := []
  /-- converter channels -/
  conv : Map Conv := []
  /-- slices -/
  slices : Map Slice := []
  /-- transform engines -/
  engs : Map Eng := []
  /-- their sources, by 32 × engine + source -/
  engSrcs : Map EngSrc := []
  /-- newest record of each detector on the bus, by engine + 4 × source + 128 × detector (R395) -/
  newest : Map (List Byte) := []
  /-- trigger units -/
  trigs : Map Trig := []
  /-- acquisition contexts -/
  ctxs : Map Ctx := []
  /-- density groups not yet written, by plane, oldest first; the last may be in progress -/
  groups : Map (List Group) := []
  /-- density engine -/
  density : Density := {}
  /-- density table: count × 256 + age, by plane × 2^21 + row × 2^11 + column (R175) -/
  table : Map Nat := []
  /-- spectrogram lines not yet written, by generator, oldest first; the last may be in progress -/
  lines : Map (List Line) := []
  /-- bench windows, by 4 × bench + window -/
  windows : Map Window := []
  /-- bench positions, by 16 × bench + position -/
  positions : Map Position := []
  /-- fittings of awl cores by shadowing -/
  shadows : List Shadow := []
  /-- spills in progress -/
  spills : List Spill := []
  /-- bench memories: bench × 2^20 + byte address -/
  bench : Map Byte := []
  /-- counter channels -/
  chans : Map Chan := []
  /-- measurement slots -/
  slots : Map Slot := []
  /-- PTP ports -/
  ptp : Map PtpPort := []
  /-- DMA channels -/
  dmas : Map Dma := []
  /-- streams -/
  streams : Map Stream := []
  /-- what streams that a commit stopped still deliver, oldest first (R78) -/
  drains : List Drain := []
  /-- drive sets -/
  nvSets : Map NvSet := []
  /-- NVMe commands outstanding, oldest first -/
  nvCmds : List NvCmd := []
  /-- display heads -/
  heads : Map Head := []
  /-- housekeeping accumulators, by input -/
  hk : Map HkAcc := []
  /-- housekeeping slots -/
  hkSlots : Map HkSlot := []
  /-- pulse generators -/
  pgs : Map Pg := []
  /-- device DRAM; an unlisted byte reads 0 (R352) -/
  mem : Map Byte := []
  /-- poisoned lines, address ÷ 64 (R342): 1 marks one -/
  poison : Map Nat := []
  /-- xSPI flash -/
  flash : Flash := {}
  /-- happenings waiting to be written to the wear ledger, oldest first (R469) -/
  ledgerDue : List LedgerRec := []
  /-- elapsed times of the corrected errors of a rank within the last hour, by 4 × channel + position (R341) -/
  ceTimes : Map (List Nat) := []
  /-- ranks that wait for migration, in order of occurrence: channel, position (R344) -/
  migQueue : List (Nat × Nat) := []
  /-- activate-counter tables, by bank: row and count of each entry (R348) -/
  activates : Map (List (Nat × Nat)) := []
  /-- commands waiting, first in, first out -/
  pending : List Instr := []
deriving DecidableEq, Repr

/-- Reasons the machine stops. -/
inductive Fault where
  /-- A command names device DRAM at or above the capacity that training found (R334): raised by the commands of the DRAM
  controller alone. Safe: the hardware has no such line, and admission keeps every unit below the capacity. -/
  | noSuchLine
deriving DecidableEq, Repr

/-- Reasons a command has no meaning. -/
inductive Refusal where
  /-- The command named has no meaning yet: raised by `exec`'s arms alone. Safe. -/
  | notModelled (mnemonic : String)
deriving DecidableEq, Repr

/-- What a command answers. -/
abbrev Result := Host.Outcome State Fault Refusal

/-- The machine right after a cold reset with the reset ball still held (R478): every object at its default, every
memory empty, no command waiting. -/
def State.reset : State := {}

/-- The canonical form of the DRAM contents: addresses strictly rising, no listed byte 0. -/
def Memory.wf (m : Map Byte) : Bool := Map.wf (fun _ => 0) m

end Sys2Proof.Machine
end

