-- ==== Sys2Proof/Machine/Ops.lean ====
section
/-! DEFINITION. The operations that every unit shares: reading and writing objects, device time, raising events (R425),
driving fault rails (R433, R441), judging a request to the dictionary server (R508), and DRAM access (R339, R342). -/

namespace Sys2Proof.Machine

/-! ### Objects -/

/-- The value of an object of class RO, OWN or RW that stands alone. -/
def State.reg (s : State) (r : Row) (i : Nat := 0) (j : Nat := 0) : Nat :=
  Map.get s.regs (r.default i j) (r.key i j)

/-- Set it. -/
def State.setReg (s : State) (r : Row) (v : Nat) (i : Nat := 0) (j : Nat := 0) : State :=
  { s with regs := Map.put s.regs (r.default i j) (r.key i j) v }

/-- The value of a PLAN or LIVE object in a plan. -/
def planVal (p : Store) (r : Row) (i : Nat := 0) (j : Nat := 0) : Nat := Map.get p (r.default i j) (r.key i j)

/-- The values that the units work under: the active plan, but for what a unit applies at its own boundary (R17). -/
def State.view (s : State) : Store := s.lag.foldl (fun p e => Map.ins e.1 e.2 (Map.del p e.1)) s.active

/-- The value that a unit works under (R17). -/
def State.plan (s : State) (r : Row) (i : Nat := 0) (j : Nat := 0) : Nat := planVal s.view r i j

/-- The machine as it would be under a plan: what admission and the figures of a plan are worked out on. -/
def State.under (s : State) (p : Store) : State := { s with active := p, lag := [] }

/-- A scalar of a unit that no object shows. -/
def State.hidden (s : State) (n : Nat) (i : Nat := 0) : Nat := Map.get s.hid 0 (n * 2 ^ 20 + i)

/-- Set it. -/
def State.setHidden (s : State) (n : Nat) (v : Nat) (i : Nat := 0) : State :=
  { s with hid := Map.put s.hid 0 (n * 2 ^ 20 + i) v }

/-- Bits in a value of an object's type. -/
def Row.width (r : Row) : Nat := 8 * r.ty.size

/-- Add to a counter that wraps to 0. -/
def State.bump (s : State) (r : Row) (i : Nat := 0) (j : Nat := 0) (n : Nat := 1) : State :=
  s.setReg r ((s.reg r i j + n) % 2 ^ r.width) i j

/-- Add to a saturating counter. -/
def State.bumpSat (s : State) (r : Row) (i : Nat := 0) (j : Nat := 0) (n : Nat := 1) : State :=
  s.setReg r (satAdd r.width (s.reg r i j) n) i j

/-- A DOMAIN object's contents, or its default. -/
def State.dom (s : State) (r : Row) (i : Nat := 0) (j : Nat := 0) (dflt : List Byte := []) : List Byte :=
  Map.get s.doms dflt (r.key i j)

/-- Replace a DOMAIN object's contents. -/
def State.setDom (s : State) (r : Row) (b : List Byte) (i : Nat := 0) (j : Nat := 0) : State :=
  { s with doms := Map.ins (r.key i j) b (Map.del s.doms (r.key i j)) }

/-! ### Hidden scalars: numbers of `State.hidden` -/

namespace H
/-- phase of start-up: 0 held in reset, 1 verifying, 2 image running, 3 recovery, 4 no start, 5 dictionary ready,
6 start-up plan committed, 7 device ready (R478 to R485) -/
def boot : Nat := 1
/-- the PCI Express host master is connected (R55) -/
def hostUp : Nat := 2
/-- elapsed time at an event's last occurrence, plus one, by event number: for events raised after 1 s without one -/
def rare : Nat := 3
/-- a fault source's rails show a fault (R433), by source -/
def drive : Nat := 4
/-- the data that its unit supplies, by source -/
def driveData : Nat := 5
/-- as `drive`, for a wire fault -/
def wire : Nat := 6
/-- an acknowledged source may not latch again until it has shown no fault (R435), by source -/
def acked : Nat := 7
/-- number of free values drawn -/
def free : Nat := 8
/-- elapsed time at which the lease ends -/
def leaseEnd : Nat := 9
/-- elapsed time at which the acceptance window ends -/
def windowEnd : Nat := 10
/-- the endpoint link is up and not in L2/L3 Ready (R444) -/
def linkUp : Nat := 11
/-- an occurrence that a source holds until it is released (R441), by source -/
def held : Nat := 12
end H

/-- The next free value, for a value that the spec leaves open (log entry 7). -/
def State.drawFree (s : State) : Nat × State :=
  (Config.freeValue (s.hidden H.free), s.setHidden H.free (s.hidden H.free + 1))

/-! ### Device time -/

/-- Device time as the T96 value that every stamp reads (R301). -/
def State.now (s : State) : Nat := T96.ofCounter s.tc

/-- Device time as a count of 2^-16 ns. -/
def State.nowTicks (s : State) : Nat := (rneDiv (s.tc : Int) (2 ^ 48)).toNat

/-- Elapsed time as a count of 2^-16 ns. -/
def State.upTicks (s : State) : Nat := s.up / 2 ^ 48

/-- One second of the time counter. -/
def secondTc : Nat := 1000000000 * 2 ^ 64

/-- PLL-A is locked (Table 13.6). -/
def State.locked (s : State) : Bool := s.reg O.pllaState == 2

/-- fROOT in Hz as an exact number (R291); before the first lock the default, 12.000 GHz (R302). -/
def State.froot (s : State) : Rat :=
  if s.reg O.frootActual = 0 then (12000000000 : Rat) else f64 (s.reg O.frootActual)

/-- The increment in force, in 2^-64 ns (R302). -/
def State.inc (s : State) : Nat := s.reg O.tcInc * 2 ^ 32 + s.reg O.tcIncExt

/-- Stamp markers that hold while a condition lasts (Table 1.3): clock unqualified, time unset. -/
def State.clkUnqual (s : State) : Bool := s.reg O.pllaLol != 0
/-- Time not set yet. -/
def State.timeUnset (s : State) : Bool := s.reg O.tcValid == 0

/-- An fP cycle, in 2^-64 ns of elapsed time: 48 root periods, or 4 ns while PLL-A is not running (R7, R8, R294). -/
def State.cycleP (s : State) : Nat :=
  if s.locked then (48 * (1000000000 * 2 ^ 64 : Nat) / s.froot).floor.toNat else 4 * 2 ^ 64

/-- The time of a registration `n` cycles of fROOT ÷ `d` after the last fT tick, as a count of 2^-16 ns (R25, R157). -/
def State.after (s : State) (d : Nat) (n : Int) : Nat :=
  (rneDiv ((s.tc : Int) * 32 + (s.inc * d : Nat) * n) (32 * 2 ^ 48)).toNat

/-! ### Rates -/

/-- A number as a rational. -/
def nat (n : Nat) : Rat := (n : Rat)

/-- A quotient; 0 where the divisor is 0. -/
def ratio (a b : Rat) : Rat := if b = 0 then 0 else a / b

/-- A sum. -/
def total (l : List Rat) : Rat := l.foldl (· + ·) 0

/-- fF, fA and fC in Hz (R291). -/
def State.fF (t : State) : Rat := t.froot / 4
/-- fA -/
def State.fA (t : State) : Rat := t.froot / 8
/-- fC -/
def State.fC (t : State) : Rat := t.froot / 8

/-- The scale of R8. -/
def State.scale (t : State) : Rat := t.froot / 12000000000

/-- A time in seconds as 2^-16 ns, to the nearest. -/
def ticksOf (x : Rat) : Nat := (rne (x * (T96.second : Rat))).toNat

/-! ### The time line (R25, R27, R87) -/

/-- Put a point on the time line; at the index of the newest one it takes its place. -/
def pushAnchor (a : Anchor) : List Anchor → List Anchor
  | b :: r => if b.idx = a.idx then a :: r else a :: b :: r
  | [] => [a]

/-- The point that governs an index: the newest one at or before it, else the oldest. -/
def anchorAt (n : Nat) : List Anchor → Anchor → Anchor
  | [], d => d
  | a :: r, _ => if a.idx ≤ n then a else anchorAt n r a

/-- What the moves of device time within blocks keep away from an index, 2^-64 ns. -/
def heldBack (n : Nat) (l : List Hold) : Int :=
  (l.filter (fun h => decide (h.from_ ≤ n ∧ n < h.till))).foldl (fun a h => a + h.delta) 0

/-- The time counter that an index's sample is stamped by, in 2^-69 ns: from the newest point on the line onwards with the
increment in force (R25, R87). -/
def State.counterAt (s : State) (n : Nat) : Int :=
  let a := anchorAt n s.timeline ⟨s.idx, s.tc, s.inc⟩
  (a.tc : Int) * 32 + (a.inc : Int) * ((n : Int) - a.idx) - 32 * heldBack n s.holds

/-- The number of the first block that begins at or after an index. -/
def blockFrom (n : Nat) : Nat := (n + 65535) / 65536

/-- A point of the time line at the present tick. -/
def State.anchor (s : State) : State := { s with timeline := pushAnchor ⟨s.idx, s.tc, s.inc⟩ s.timeline }

/-- Device time moves at the present tick: the samples of blocks in progress keep their times (R27). -/
def State.moveTime (s : State) (tc : Nat) : State :=
  let till := blockFrom s.idx * 65536
  { { s with tc := tc }.anchor with
    holds := if s.idx < till then ⟨s.idx, till, (tc : Int) - s.tc⟩ :: s.holds else s.holds }

/-- A marker on a block of a channel that has not been delivered. -/
def Conv.mark (c : Conv) (block b : Nat) : Conv := { c with marks := Map.put c.marks 0 block (Map.get c.marks 0 block ||| b) }

/-- The markers of the block in progress. -/
def Conv.now (c : Conv) : Nat := Map.get c.marks 0 (c.next / 65536)

/-- A change of a channel that the plan samples. -/
def State.eachConv (s : State) (f : Conv → Conv) : State :=
  { s with conv := (List.range 4).foldl (fun m ch =>
      if s.plan O.cvEnable ch = 1 then Map.put m {} ch (f (Map.get m {} ch)) else m) s.conv }

/-- A change marker on every sampling channel (R27): on the first block whose samples the change affects, which for a change
that applies from a block's first sample is the first to begin at or after the present tick, or the channel's first. -/
def State.markBlocks (s : State) (b : Nat) : State := s.eachConv (fun c => c.mark (max (blockFrom s.idx) (c.next / 65536)) b)

/-- The PSTEP marker: on the block within which the step takes effect (R87). -/
def State.markWithin (s : State) : State := s.eachConv (fun c => if c.next ≤ s.idx then c.mark (s.idx / 65536) 16 else c)

/-- A condition that has held until the present tick ends: the blocks in progress keep its flag (R95). -/
def State.markUntil (s : State) (b : Nat) : State := s.eachConv (fun c => if c.next < s.idx then c.mark (c.next / 65536) b else c)

/-! ### Events -/

/-- Let something leave the device. -/
def State.emit (s : State) (o : Out) : State := { s with out := o :: s.out }

/-- Merge a raise into a waiting one of the same source, where one waits that arrived at most `span` before (R425). -/
def mergeRaise (span now event data : Nat) : List Raise → Option (List Raise)
  | [] => none
  | r :: rs =>
    if r.event = event ∧ r.at_ ≤ now ∧ now ≤ r.at_ + span then
      some ({ r with data := data, merged := satAdd 16 r.merged 1 } :: rs)
    else (mergeRaise span now event data rs).map (r :: ·)

/-- Insert a raise: in order of arrival, and in ascending event number within one cycle (R425). -/
def insRaise (r : Raise) : List Raise → List Raise
  | [] => [r]
  | q :: qs => if q.at_ = r.at_ ∧ r.event < q.event then r :: q :: qs else q :: insRaise r qs

/-- Raise an event (R425): merged within two fP cycles. -/
def State.raise (s : State) (event : Nat) (data : Nat := 0) : State :=
  match mergeRaise (2 * s.cycleP) s.up event data s.raises with
  | some l => { s with raises := l }.bumpSat O.evMerged
  | none => { s with raises := insRaise ⟨s.up, event, data, 0⟩ s.raises }

/-- Raise an event for the first occurrence after at least 1 s without one. -/
def State.raiseRare (s : State) (event : Nat) (data : Nat := 0) : State :=
  let last := s.hidden H.rare event
  let s := s.setHidden H.rare (s.up + 1) event
  if last = 0 ∨ last + secondTc ≤ s.up + 1 then s.raise event data else s

/-! ### Fault rails -/

/-- Whether the collector counts a fault of a source (`FR_RAW`). -/
def State.faultRaw (s : State) (src : Nat) : Bool := (s.reg O.frRaw 0 (src / 64)).testBit (src % 64)

/-- A unit drives its fault source (R433): the collector samples the rails at `FAULT_RAIL_CHANGE`. -/
def State.fault (s : State) (src : Nat) (data : Nat := 0) : State :=
  (s.setHidden H.drive 1 src).setHidden H.driveData data src

/-- A condition has ended: the source drops its fault state (R441). -/
def State.unfault (s : State) (src : Nat) : State := s.setHidden H.drive 0 src

/-- An occurrence source (R441): it holds its fault state; a further occurrence while it shows a fault only counts. -/
def State.occurrence (s : State) (src : Nat) (data : Nat := 0) : State :=
  if s.faultRaw src then s.bumpSat O.frCount 0 src
  else (s.setHidden H.held 1 src).setHidden H.driveData data src

/-! ### Requests -/

/-- Abort codes (Table 2.7). -/
def Abort.protoType : Nat := 0x00010001
/-- PROTO_LENGTH -/
def Abort.protoLength : Nat := 0x00010002
/-- SEG_ORDER -/
def Abort.segOrder : Nat := 0x00010003
/-- SEG_TOTAL -/
def Abort.segTotal : Nat := 0x00010004
/-- OBJ_NOT_FOUND -/
def Abort.notFound : Nat := 0x00020001
/-- ACC_READ_ONLY -/
def Abort.readOnly : Nat := 0x00020002
/-- ACC_WRITE_ONLY -/
def Abort.writeOnly : Nat := 0x00020003
/-- ACC_TYPE -/
def Abort.type : Nat := 0x00020004
/-- ACC_RANGE -/
def Abort.range : Nat := 0x00020005
/-- ACC_USE_MAILBOX -/
def Abort.useMailbox : Nat := 0x00020006
/-- OBJ_BUSY -/
def Abort.busy : Nat := 0x00020007
/-- OWN_NOT_OWNER -/
def Abort.notOwner : Nat := 0x00040001
/-- OWN_HELD -/
def Abort.held : Nat := 0x00040002
/-- OWN_LOST_TIE -/
def Abort.lostTie : Nat := 0x00040003
/-- OWN_NO_HANDOVER -/
def Abort.noHandover : Nat := 0x00040004
/-- OWN_NO_SUCCESSOR -/
def Abort.noSuccessor : Nat := 0x00040005
/-- SESS_NEW -/
def Abort.sessNew : Nat := 0x00050001
/-- SESS_FULL -/
def Abort.sessFull : Nat := 0x00050002
/-- SESS_UNKNOWN -/
def Abort.sessUnknown : Nat := 0x00050003
/-- SESS_CLOSE -/
def Abort.sessClose : Nat := 0x00050004
/-- SEG_ABANDONED -/
def Abort.segAbandoned : Nat := 0x00050005
/-- An admission reason as an abort code (R35). -/
def Abort.adm (reason : Nat) : Nat := 0x00030000 + reason

/-- The session slot of an Ethernet or CAN FD master. -/
def masterSlot : Master → Nat
  | .host => 0xFF
  | .eth n => n.val
  | .can => 8

/-- Whether a master is connected (Table 2.8). -/
def State.connected (s : State) (m : Master) : Bool :=
  match m with
  | .host => s.hidden H.hostUp == 1
  | .eth n => (Map.get s.sess {} n.val).isOpen
  | .can => (Map.get s.sess {} 8).isOpen

/-- Whether a master is the owner. -/
def State.owns (s : State) (m : Master) : Bool := s.reg O.ownerId == m.id

/-- The dictionary server runs (R485). -/
def State.dictReady (s : State) : Bool := decide (5 ≤ s.hidden H.boot)

/-- How a request that stands alone is answered: the host's refusal shows in `PCIE_LAST_ABORT` and event 0x019 (R41); any
other master receives the code. -/
def State.answer (s : State) (m : Master) (code : Nat) : State :=
  match m with
  | .host => if code = 0 then s else (s.setReg O.pcieLastAbort code).raise 0x019 code
  | _ => s.emit (.answer m.id code)

/-- Whether a pattern of a type satisfies the value check of its row (R31). -/
def Row.checks (r : Row) (v : Nat) : Bool :=
  let num : Int := match r.ty with
    | .i16 => toI 16 v
    | .i32 => toI 32 v
    | .i64 => toI 64 v
    | _ => (v : Int)
  let fmt : FloatFmt := if r.ty = .f32 then .f32 else .f64
  let typed : Bool := match r.ty with
    | .bool => decide (v ≤ 1)
    | .f32 => !FloatFmt.f32.isNaN v
    | .f64 => !FloatFmt.f64.isNaN v
    | .t96 => T96.ok v
    | _ => true
  typed && match r.chk with
    | .any => true
    | .rng lo hi => decide (lo ≤ num ∧ num ≤ hi)
    | .frng lo hi => decide (fmt.toRat lo ≤ fmt.toRat v ∧ fmt.toRat v ≤ fmt.toRat hi)
    | .fpos => decide (0 < fmt.toRat v)
    | .zrng lo hi => decide (v = 0 ∨ (lo ≤ v ∧ v ≤ hi))
    | .fposTo hi => decide (0 < fmt.toRat v ∧ fmt.toRat v ≤ fmt.toRat hi)
    | .fge0 => decide (0 ≤ fmt.toRat v)
    | .mul n lo hi => decide (lo ≤ v ∧ v ≤ hi ∧ v % n = 0)
    | .one vs => vs.contains v
    | .top16 => decide (0 < v / 2 ^ 48)
    | .units => (List.range 4).all (fun i => decide (v / 256 ^ i % 256 < 16 ∨ v / 256 ^ i % 256 = 255))
    | .region => decide (1 ≤ bits v 22 11 ∧ bits v 22 11 ≤ 2048 ∧ 1 ≤ bits v 43 33 ∧ bits v 43 33 ≤ 1024)

/-- What a judged request does: the state after it, or the code it is refused with. -/
abbrev Act := State → Except Nat State

/-- Judge a write of a scalar command object (R508) and run it: existence, ownership, size, value, then the object's own
rule. `f` holds the last two steps' own part. -/
def State.judge (s : State) (m : Master) (r : Row) (v : Nat) (f : Act) : Except Nat State :=
  if r.host && m != .host then .error Abort.notFound
  else if !r.host && !s.owns m then .error Abort.notOwner
  else if 2 ^ r.width ≤ v then .error Abort.type
  else if !r.checks (v &&& r.mask) then .error Abort.range
  else f s

/-- A request that stands alone: nothing comes of it while the dictionary is not ready or the master is not connected. -/
def State.request (s : State) (m : Master) (a : Act) : Result :=
  if s.dictReady && s.connected m then
    match a s with
    | .ok s' => .next (s'.answer m 0)
    | .error c => .next (s.answer m c)
  else .next s

/-- A write of a scalar command object by a master. -/
def State.command (s : State) (m : Master) (r : Row) (v : Nat) (f : Act) : Result :=
  s.request m (fun s => s.judge m r v f)

/-- The act refuses where a condition holds. -/
def refuseIf (c : Bool) (code : Nat) (f : Act) : Act := fun s => if c then .error code else f s

/-- The act refuses a value other than 1. -/
def onlyOne (v : Nat) (f : Act) : Act := refuseIf (v != 1) Abort.range f

/-- A write ends a segmented read of the object (R44). -/
def State.breakReads (s : State) (key : Nat) : State :=
  { s with xfers := s.xfers.map (fun x => if x.key = key ∧ !x.write then { x with broken := true } else x) }

/-- A load of a DOMAIN object of class OWN, whole (R44, R508): existence and ownership; `f` judges form, value and state. A
load ends segmented reads of the object. -/
def State.load (s : State) (m : Master) (key : Nat) (f : Act) : Result :=
  s.request m (fun s => if !s.owns m then .error Abort.notOwner else (f s).map (fun t => t.breakReads key))

/-- Whether something holds of the active plan, or of one that awaits its tick or its time. -/
def State.anyPlan (s : State) (f : Store → Bool) : Bool :=
  f s.active || (s.awaiting.map f).getD false || (s.armed.map f).getD false

/-! ### DRAM (R339, R342) -/

/-- Whether a line is poisoned. -/
def State.poisoned (s : State) (line : Nat) : Bool := Map.get s.poison 0 line == 1

/-- Poison a line, or clear it. -/
def State.setPoison (s : State) (line : Nat) (b : Bool) : State :=
  { s with poison := Map.put s.poison 0 line (b2n b) }

namespace H
/-- changes of `DR_ADDR_ORDER` since the DRAM was initialised (R337) -/
def memOrder : Nat := 403
end H

/-- What turns the byte held for an address into the one read there: nothing until an order of addresses has changed, and an unknown
byte from then on (R337). -/
def State.orderMask (s : State) (a : Nat) : Byte :=
  if s.hidden H.memOrder = 0 then 0 else Config.orderMask (s.hidden H.memOrder) a

/-- The bytes held for bytes written from an address on, so that they read back as written. -/
def State.held (s : State) (a : Nat) (bs : List Byte) : List Byte :=
  if s.hidden H.memOrder = 0 then bs else bs.zipIdx.map (fun b => b.1 ^^^ s.orderMask (a + b.2))

/-- Write bytes that lie within one line: a full line clears poison, a part of a poisoned line is discarded (R342). -/
def State.writeLine (s : State) (a : Nat) (bs : List Byte) : State :=
  if s.poisoned (a / 64) then
    if bs.length = 64 then { s.setPoison (a / 64) false with mem := Map.putBytes s.mem a (s.held a bs) } else s
  else { s with mem := Map.putBytes s.mem a (s.held a bs) }

/-- Write bytes line by line; `fuel` bounds the lines. -/
def State.writeLines (s : State) : Nat → Nat → List Byte → State
  | 0, _, _ => s
  | n + 1, a, bs =>
    match bs with
    | [] => s
    | _ =>
      let k := 64 - a % 64
      (s.writeLine a (bs.take k)).writeLines n (a + k) (bs.drop k)

/-- Write bytes to DRAM. -/
def State.writeMem (s : State) (a : Nat) (bs : List Byte) : State := s.writeLines (bs.length / 64 + 2) a bs

/-- One byte as read: 0 from a poisoned line. -/
def State.readByte (s : State) (a : Nat) : Byte :=
  if s.poisoned (a / 64) then 0 else Map.get s.mem 0 a ^^^ s.orderMask a

/-- Bytes as read. -/
def State.readMem (s : State) (a : Nat) : Nat → List Byte
  | 0 => []
  | n + 1 => s.readByte a :: s.readMem (a + 1) n

/-- Count bytes moved on a scheduler port (`DR_PORT_BYTES`). -/
def State.portBytes (s : State) (port n : Nat) : State := s.bump O.drPortBytes port 0 n

/-- Write into a ring through a port: the bytes run on across the end; the offset after them. -/
def State.writeRing (s : State) (port base size off : Nat) (bs : List Byte) : State × Nat :=
  if size = 0 then (s, 0) else
  let k := size - off
  let s := (s.writeMem (base + off) (bs.take k)).portBytes port bs.length
  let s := if k < bs.length then s.writeMem base (bs.drop k) else s
  (s, (off + bs.length) % size)

end Sys2Proof.Machine
end

