-- ==== Sys2Proof/Machine/Ledger.lean ====
section
/-! DEFINITION. Retirement, the wear ledger's happenings and the start of a store write (spec 21_service.md, R461 to R475):
what every pool shares. -/

namespace Sys2Proof.Machine

namespace H
/-- a unit is retired, by pool × 65,536 + group × 256 + unit -/
def retired : Nat := 20
/-- a completed rotation has made the calibration store stale (R475) -/
def calStale : Nat := 21
/-- a trigger came while the calibration store was being written (R475) -/
def calAgain : Nat := 22
/-- slot of the calibration store being written -/
def calSlot : Nat := 23
/-- start-up calibration is needed (R101, R471, R474): converter channel n in bit n, the interpolators in bit 4 -/
def calNeed : Nat := 24
/-- a warm reset kept the DRAM contents (Table 22.5) -/
def drWarm : Nat := 25
/-- corrections in force of a sub-converter by 17 × channel + sub-converter: offset, 1/65,536 code, 64 bits -/
def scOffset : Nat := 430
/-- gain, ppm -/
def scGain : Nat := 431
/-- skew trim, fs -/
def scSkew : Nat := 432
/-- bandwidth, ppm of the median -/
def scBandwidth : Nat := 433
/-- the housekeeping converter's internal reference as measured in step 3 of R414, a value that the spec does not state (log entry 7) -/
def hkIntRef : Nat := 542
/-- trims of the twenty threshold converters (R414, Table 21.5), values that the spec does not state (log entry 7) -/
def hkTrim : Nat := 543
end H

/-- Key of a unit of a pool. -/
def unitKey (pool group unit : Nat) : Nat := pool * 65536 + group * 256 + unit

/-- Layout of `FIT_CMD` for a unit (Table 21.7). -/
def fitLayout (pool group unit : Nat) : Nat := pool + 256 * group + 65536 * unit

/-- Whether a unit is retired. -/
def State.isRetired (s : State) (pool group unit : Nat) : Bool := s.hidden H.retired (unitKey pool group unit) == 1

/-- Put a happening before the ledger (R469). -/
def State.happen (s : State) (r : LedgerRec) : State := { s with ledgerDue := s.ledgerDue ++ [{ r with t96 := s.now }] }

/-- Retire a unit (R462, Table 21.3): `spare` says that its group loses a spare by it. -/
def State.retire (s : State) (pool group unit reason : Nat) (hard spare : Bool) : State :=
  let s := (s.setHidden H.retired 1 (unitKey pool group unit)).bumpSat O.poolRetired 0 (pool - 1)
  let s := if spare then s.setReg O.poolSpares (s.reg O.poolSpares 0 (pool - 1) - 1) 0 (pool - 1) else s
  s.happen { type := 1, pool := pool, group := group, unit := unit, data := reason + 256 * b2n hard }

/-- A unit that fitting returned goes into service at once: it is no spare of its pool (Table 21.7). -/
def State.spareTaken (s : State) (pool : Nat) : State :=
  s.setReg O.poolSpares (s.reg O.poolSpares 0 (pool - 1) - 1) 0 (pool - 1)

/-! ### Stores (R473, R475) -/

/-- Whether a key is an object of a row. -/
def Row.has (r : Row) (key : Nat) : Bool := (r.inst (key / 256) (key % 256)).isSome

/-- Whether the calibration store holds a number of `State.hid`. -/
def calHid (k : Nat) : Bool :=
  let n := k / 2 ^ 20
  decide (H.scOffset ≤ n ∧ n ≤ H.scBandwidth) || n == H.hkIntRef || n == H.hkTrim

/-- Whether it holds an object (Table 21.5). -/
def calKey (k : Nat) : Bool :=
  O.slotSc.has k || O.calTref.has k || ((O.hkGain.has k || O.hkOffset.has k) && decide (k / 256 < 0x2C40 + 16))

/-- The slot with the newest valid set. -/
def newestSlot (v : Vector StoreSlot 2) : Option (Fin 2) :=
  match (v.get 0).state == 1, (v.get 1).state == 1 with
  | true, true => if (v.get 0).gen < (v.get 1).gen then some 1 else some 0
  | true, false => some 0
  | false, true => some 1
  | false, false => none

/-- The slot that a write goes to, and its generation. -/
def nextSlot (v : Vector StoreSlot 2) : Fin 2 × Nat :=
  match newestSlot v with
  | some i => (1 - i, (v.get i).gen + 1)
  | none => (0, 1)

/-- Steps 1 to 3 of a write: the slot holds the new set and has no commit word yet. -/
def storeBegin (v : Vector StoreSlot 2) (vals : Store) (doms : Map (List Byte)) : Vector StoreSlot 2 × Fin 2 :=
  let n := nextSlot v
  (v.set n.1 { state := 2, gen := n.2, vals := vals, doms := doms }, n.1)

/-- Step 4: the commit word; or the write is abandoned. -/
def storeCommit (v : Vector StoreSlot 2) (i : Fin 2) : Vector StoreSlot 2 := v.set i { v.get i with state := 1 }

/-- A write of the calibration store begins, with the values in force. -/
def State.calBegin (s : State) : State :=
  let vals := s.regs.filter (fun e => calKey e.1) ++ (s.hid.filter (fun e => calHid e.1)).map (fun e => (e.1 + 2 ^ 60, e.2))
  let b := storeBegin s.flash.cal vals (s.doms.filter (fun e => O.loupeTable.has e.1))
  let s := { s with flash := { s.flash with cal := b.1 } }
  (((s.setReg O.calStoreState 1).setHidden H.calSlot b.2.val).setHidden H.calStale 0).setHidden H.calAgain 0

/-- A trigger: one further write serves every trigger that comes during a write. -/
def State.calTrigger (s : State) : State :=
  if s.reg O.calStoreState = 1 then s.setHidden H.calAgain 1 else s.calBegin

end Sys2Proof.Machine
end

