-- ==== Sys2Proof/Machine/Dram.lean ====
section
/-! DEFINITION. The capture memory controller (spec 15_dram.md). -/

namespace Sys2Proof.Machine

namespace H
/-- device time at which the migration in progress began, 2^-16 ns (R344) -/
def migStart : Nat := 400
/-- device time at which zeroing began, 2^-16 ns (R352) -/
def zeroStart : Nat := 401
/-- a rank is refreshed at twice the rate, by 4 × channel + position (R347) -/
def refreshTwice : Nat := 402
/-- temperature that a position last reported, binary32 plus one, by 4 × channel + position (R347) -/
def rankTemp : Nat := 404
end H

/-- Position states of `DR_POS_STATE` (Table 15.5). -/
def DP.active : Nat := 1
/-- SPARE -/
def DP.spare : Nat := 2
/-- RETIRED -/
def DP.retired : Nat := 3
/-- MIGRATING_FROM -/
def DP.from_ : Nat := 5
/-- MIGRATING_TO -/
def DP.to_ : Nat := 6
/-- UNMAPPED -/
def DP.unmapped : Nat := 7
/-- FAILED -/
def DP.failed : Nat := 8

/-- Sub-channel of an address under the order in force (Table 15.1). -/
def State.drSub (s : State) (a : Nat) : Nat :=
  match s.plan O.drAddrOrder with
  | 2 => bits a 14 12
  | 3 => if s.reg O.drCapacity = 0 then 0 else a / (s.reg O.drCapacity / 8)
  | _ => bits a 8 6

/-- Logical rank of an address: the field above the others, decoded by division (R336). -/
def State.drRank (s : State) (a : Nat) : Nat :=
  let sub := s.reg O.drRankBytes / 2
  if sub = 0 then 0
  else if s.plan O.drAddrOrder = 3 then a % (s.reg O.drCapacity / 8) / sub else a / (8 * sub)

/-- Physical position of a logical rank (R335). -/
def State.drPos (s : State) (ch rank : Nat) : Nat := bits (s.reg O.drRankMap ch) (2 * rank + 1) (2 * rank)

/-- Logical rank served by a position. -/
def State.drLogical (s : State) (ch pos : Nat) : Nat :=
  ((List.range 3).find? (fun i => s.drPos ch i == pos && decide (i < s.reg O.drActiveRanks))).getD 0

/-- Position in SPARE state of a channel. -/
def State.drSpare (s : State) (ch : Nat) : Option Nat := (List.range 3).find? (fun p => s.reg O.drPosState ch p == DP.spare)

/-- The admissible figure: the lower one while any channel holds a spare (R334, Table 3.2). -/
def State.setDrBw (s : State) : State :=
  let held := (List.range 4).any (fun ch => (List.range 3).any (fun p =>
    s.reg O.drPosState ch p == DP.spare || s.reg O.drPosState ch p == DP.to_))
  s.setReg O.drBwCapacity (toF64 (if held then 152000000000 else 160000000000))

/-- Migration state as `DR_MIG_STATE` shows it. -/
def State.setMigState (s : State) : State :=
  let running := (List.range 4).any (fun ch => (List.range 3).any (fun p => s.reg O.drPosState ch p == DP.from_))
  s.setReg O.drMigState (if running then 1 else if s.migQueue.isEmpty then 0 else 2)

/-- A rank stays in service without a spare (R346). -/
def State.drNoSpare (s : State) (ch pos : Nat) : State := (s.raise 0x7C6 (ch + 4 * pos)).fault (0x50 + ch) pos

/-- Retirement of an active rank starts (R344, R346): it waits for migration, or has no spare. -/
def State.drRetire (s : State) (ch pos : Nat) : State :=
  if s.reg O.drPosState ch pos ≠ DP.active ∨ (ch, pos) ∈ s.migQueue then s
  else if (s.drSpare ch).isSome then { s with migQueue := s.migQueue ++ [(ch, pos)] }.setMigState
  else s.drNoSpare ch pos

/-- A corrected error of a rank (R341). -/
def State.drCorrected (s : State) (ch pos : Nat) : State :=
  let st := s.reg O.drPosState ch pos
  if st = 0 ∨ st = DP.failed ∨ st = DP.unmapped ∨ st = DP.retired then s else
  let s := s.bumpSat O.drCeCount ch
  let t := s.upTicks
  let recent := (Map.get s.ceTimes [] (4 * ch + pos)).filter (fun x => decide (t < x + 3600 * T96.second)) ++ [t]
  let s := { s with ceTimes := Map.put s.ceTimes [] (4 * ch + pos) recent }
  let lim := s.reg O.drCeRetire
  if lim ≠ 0 ∧ lim ≤ recent.length then s.drRetire ch pos else s

/-- DR_CORRECTED_ERROR (R341). -/
def execDrCorrectedError (ch : Fin 4) (pos : Fin 3) (s : State) : Result := .next (s.drCorrected ch.val pos.val)

/-- DR_PATROL_SCRUB (R341): every correction it makes counts. -/
def execDrPatrolScrub (found : List (Fin 4 × Fin 3)) (s : State) : Result :=
  if s.reg O.drState = 2 ∧ s.reg O.drScrubHours ≠ 0 then
    .next (found.foldl (fun s f => s.drCorrected f.1.val f.2.val) s)
  else .next s

/-- A command that names a line at or above the capacity. -/
def State.noLine (s : State) (line : Nat) : Bool := decide (s.reg O.drCapacity ≤ 64 * line)

/-- Channel, failing position and spare of the migration in progress. -/
def State.migrating (s : State) : Option (Nat × Nat × Nat) :=
  (List.range 4).findSome? (fun ch =>
    match (List.range 3).find? (fun p => s.reg O.drPosState ch p == DP.from_),
          (List.range 3).find? (fun p => s.reg O.drPosState ch p == DP.to_) with
    | some f, some t => some (ch, f, t)
    | _, _ => none)

/-- `DR_MIG_PTR` as it reads: 4 GB/s from the start (R344). -/
def State.migPtr (s : State) : Nat :=
  if s.reg O.drMigState = 1 then
    min (s.reg O.drRankBytes) ((s.upTicks - s.hidden H.migStart) * 4000000000 / T96.second / 64 * 64)
  else s.reg O.drMigPtr

/-- Offset of a line's address in its rank, the migration pointer's measure: the lines of a rank in ascending address order (R344). -/
def State.rankOffset (s : State) (line : Nat) : Nat :=
  let a := 64 * line
  let sub := s.reg O.drRankBytes / 2
  if sub = 0 then 0
  else
    let half := s.drSub a % 2
    let r := a % (8 * sub)
    match s.plan O.drAddrOrder with
    | 2 => r / 32768 * 8192 + half * 4096 + r % 4096
    | 3 => half * sub + a % (s.reg O.drCapacity / 8) % sub
    | _ => r / 512 * 128 + half * 64

/-- Position that serves a line: below the pointer of a migration the spare does (R345). -/
def State.drServes (s : State) (line : Nat) : Nat :=
  let ch := s.drSub (64 * line) / 2
  let pos := s.drPos ch (s.drRank (64 * line))
  match s.migrating with
  | some (c, f, t) => if c = ch ∧ f = pos ∧ s.rankOffset line < s.migPtr then t else pos
  | none => pos

/-- An uncorrectable error or a command error (R342 to R344): the line is poisoned, the error counted, and its rank retires. -/
def State.drLost (s : State) (line : Nat) : State :=
  let ch := s.drSub (64 * line) / 2
  let pos := s.drServes line
  let s := if s.poisoned line then s else (s.setPoison line true).bumpSat O.drPoisonLines
  ((s.bumpSat O.drUeCount ch).raise 0x7C2 (ch + 4 * pos + 256 * line)).drRetire ch pos

/-- A read of a poisoned line counts (R342). -/
def State.poisonRead (s : State) (port line : Nat) : State :=
  (s.bumpSat O.drPoisonReads).raiseRare 0x7C7 (port + 256 * line)

/-- DR_UE (R342): an uncorrectable codeword; a line poisoned before reads as poisoned, not as an error. -/
def execDrUe (port : Fin 12) (line : Nat) (s : State) : Result :=
  if s.noLine line then .fault .noSuchLine
  else .next ((if s.poisoned line then s.poisonRead port.val line else s.drLost line).portBytes port.val 64)

/-- DR_COMMAND_ERROR (R343): the write is lost and its line poisoned, or the read wholly failed. -/
def execDrCommandError (line : Nat) (_write : Bool) (s : State) : Result :=
  if s.noLine line then .fault .noSuchLine else .next (s.drLost line)

/-- DR_POISON_READ (R342). -/
def execDrPoisonRead (port : Fin 12) (line : Nat) (s : State) : Result :=
  if s.noLine line then .fault .noSuchLine
  else if s.poisoned line then .next ((s.poisonRead port.val line).portBytes port.val 64) else .next s

/-- A unit reads bytes through a port: its poisoned lines count, the bytes read as zeros. -/
def State.readPort (s : State) (port a n : Nat) : List Byte × Bool × State :=
  let bad := (List.range ((a + n + 63) / 64 - a / 64)).filter (fun k => s.poisoned (a / 64 + k))
  (s.readMem a n, !bad.isEmpty, (bad.foldl (fun s k => s.poisonRead port (a / 64 + k)) s).portBytes port n)

/-- DR_MIG_START (R344): one migration at a time, in order of occurrence. -/
def execDrMigStart (s : State) : Result :=
  match s.migQueue with
  | [] => .next s
  | (ch, pos) :: rest =>
    if s.reg O.drMigState = 1 then .next s else
    let s := { s with migQueue := rest }
    match s.drSpare ch with
    | none => .next ((s.drNoSpare ch pos).setMigState)
    | some sp =>
      let v := ch + 4 * s.drLogical ch pos + 16 * pos
      let s := ((s.setReg O.drPosState DP.from_ ch pos).setReg O.drPosState DP.to_ ch sp).setReg O.drMigRank v
      .next (((s.setHidden H.migStart s.upTicks).setReg O.drMigPtr 0).setMigState.raise 0x7C3 v)

/-- `DR_RANK_MAP` with one logical rank at a position. -/
def mapRank (v rank pos : Nat) : Nat := v - bits v (2 * rank + 1) (2 * rank) * 4 ^ rank + pos * 4 ^ rank

/-- DR_MIG_DONE (R344). -/
def execDrMigDone (s : State) : Result :=
  match s.migrating with
  | none => .next s
  | some (ch, f, t) =>
    let m := mapRank (s.reg O.drRankMap ch) (s.drLogical ch f) t
    let s := (((s.setReg O.drRankMap m ch).setReg O.drPosState DP.retired ch f).setReg O.drPosState DP.active ch t).setReg
      O.drMigPtr (s.reg O.drRankBytes)
    let s := (s.retire 6 ch f 0 false true).happen { type := 6, pool := 6, group := ch, data := m }
    .next (s.setMigState.setDrBw.raise 0x7C4 (s.reg O.drMigRank))

/-- A line lies below the pointer of the migration in progress (R345). -/
def State.belowPtr (s : State) (line : Nat) : Bool :=
  match s.migrating with
  | some (ch, f, _) => s.drSub (64 * line) / 2 == ch && s.drPos ch (s.drRank (64 * line)) == f && decide (s.rankOffset line < s.migPtr)
  | none => false

/-- DR_MIG_ABORT (R346): the lines written only to the spare, below the pointer, are lost. -/
def execDrMigAbort (lost : List Nat) (s : State) : Result :=
  match s.migrating with
  | none => .next s
  | some (ch, f, t) =>
    let s := lost.foldl (fun s line =>
      if s.noLine line || s.poisoned line || !s.belowPtr line then s else (s.setPoison line true).bumpSat O.drPoisonLines) s
    let s := ((s.setReg O.drPosState DP.active ch f).setReg O.drPosState DP.retired ch t).retire 6 ch t 0 true true
    .next ((s.setMigState.setDrBw.raise 0x7C5 (s.reg O.drMigRank)).drNoSpare ch f)

/-- DR_REFRESH (R347): refresh keeps contents; nothing an agent can read changes. -/
def execDrRefresh (_ch : Fin 4) (s : State) : Result := .next s

/-- DQS_OSCILLATOR_TRACK (R350): timing is tracked without interrupting traffic. -/
def execDqsOscillatorTrack (s : State) : Result := .next s

/-- DR_REFRESH_WINDOW (R348): the activate-counter tables clear. -/
def execDrRefreshWindow (s : State) : Result := .next { s with activates := [] }

/-- The entry with the smallest count, lowest number on a tie. -/
def smallest : List (Nat × Nat) → Nat × Nat
  | [] => (0, 0)
  | [e] => e
  | e :: es => let m := smallest es; if m.2 < e.2 then m else e

/-- An activate in a table of 64 entries: the new table and the row's count (R348). -/
def activate (t : List (Nat × Nat)) (w : Nat) : List (Nat × Nat) × Nat :=
  match t.find? (fun e => e.1 == w) with
  | some e => (t.map (fun x => if x.1 = w then (w, x.2 + 1) else x), e.2 + 1)
  | none =>
    if t.length < 64 then (t ++ [(w, 1)], 1)
    else
      let v := smallest t
      (t.map (fun x => if x.1 = v.1 then (w, v.2 + 1) else x), v.2 + 1)

/-- Rows of a bank: 2^17 for a sub-channel of 32 GiB, a half of it for each halving (R336; DEDUCED, log entry 26). -/
def State.drRows (s : State) : Nat := s.reg O.drRankBytes / 2 ^ 19

/-- Rows within a radius of a row, the row's neighbours that exist. -/
def neighbours (rows w radius : Nat) : Nat :=
  ((List.range radius).map (fun d => (if d + 1 ≤ w then 1 else 0) + (if w + d + 1 < rows then 1 else 0))).foldl (· + ·) 0

/-- DR_ROW_ACTIVATE (R348). -/
def execDrRowActivate (sub : Fin 8) (pos : Fin 3) (bank : Fin 32) (row : Nat) (s : State) : Result :=
  let k := (sub.val * 3 + pos.val) * 32 + bank.val
  let r := activate (Map.get s.activates [] k) row
  if s.reg O.drRhThreshold ≤ r.2 then
    let t := r.1.map (fun x => if x.1 = row then (row, 0) else x)
    .next ({ s with activates := Map.put s.activates [] k t }.bumpSat O.drRhRefreshes (sub.val / 2) 0
      (neighbours s.drRows row (s.reg O.drRhRadius)))
  else .next { s with activates := Map.put s.activates [] k r.1 }

/-- The hottest of the positions of a channel that have reported (R347). -/
def State.drHottest (s : State) (ch : Nat) : Nat :=
  (((List.range 3).map (fun p => s.hidden H.rankTemp (4 * ch + p))).filter (· ≠ 0)).foldl (fun m t =>
    if m = 0 ∨ f32 (m - 1) < f32 (t - 1) then t else m) 0 - 1

/-- DR_HOT (R347): a device above 95 °C. -/
def execDrHot (ch : Fin 4) (temp : BitVec 32) (s : State) : Result :=
  if 95 < f32 temp.toNat then
    .next (((s.setReg O.drTemp temp.toNat ch.val).raise 0x7C9 (ch.val + 2 ^ 32 * temp.toNat)).fault (0x54 + ch.val)
      (toF64 (f32 temp.toNat)))
  else .next s

/-- DR_TEMP_REPORT (R347): a position reports; `DR_TEMP` reads the hottest of the channel. The refresh rate doubles above 85 °C; the
fault of R347 ends when none is above 95 °C. -/
def execDrTempReport (ch : Fin 4) (pos : Fin 3) (temp : BitVec 32) (s : State) : Result :=
  let k := 4 * ch.val + pos.val
  let s := (s.setHidden H.rankTemp (temp.toNat + 1) k).setHidden H.refreshTwice (b2n (decide (85 < f32 temp.toNat))) k
  let hot := s.drHottest ch.val
  let s := s.setReg O.drTemp hot ch.val
  .next (if f32 hot ≤ 95 then s.unfault (0x54 + ch.val) else s)

/-- DR_PANIC_LONG (R349). -/
def execDrPanicLong (port : Fin 12) (s : State) : Result :=
  if port.val < 10 then .next ((s.bumpSat O.drPortPanics port.val).raise 0x7C8 port.val) else .next s

/-! ### Training (R334, R350, R351) -/

/-- What training found at a position. -/
def foundAt (found : List RankTrain) (ch pos : Nat) : RankTrain := found.getD (3 * ch + pos) ⟨false, 0, 0⟩

/-- A position works: populated, not retired, no failed step. -/
def State.drWorks (s : State) (found : List RankTrain) (ch pos : Nat) : Bool :=
  let f := foundAt found ch pos
  f.populated && f.failed.val == 0 && !s.isRetired 6 ch pos

/-- Position 2 of a channel is its spare by its bit (R334). -/
def State.drSpareBit (s : State) (found : List RankTrain) (ch : Nat) : Bool :=
  bit (s.reg O.drSpareCfg) ch && s.drWorks found ch 2

/-- Positions that serve the logical ranks of a channel: each populated position that is not the spare, a failed or
retired one replaced by the spare (R351). `two` leaves position 2 out (R334). -/
def State.drLogicals (s : State) (found : List RankTrain) (ch : Nat) (two : Bool) : List Nat :=
  let sp := s.drSpareBit found ch
  let cand := (List.range 3).filter (fun p => (foundAt found ch p).populated && !(p == 2 && (sp || two)))
  let bad := cand.find? (fun p => !s.drWorks found ch p)
  (cand.map (fun p => if bad = some p ∧ sp then 2 else p)).filter (fun p => s.drWorks found ch p)

/-- State of a position after training, given the logical ranks in use. -/
def State.drTrained (s : State) (found : List RankTrain) (ch pos n : Nat) (logicals : List Nat) (two : Bool) : Nat :=
  let f := foundAt found ch pos
  if s.isRetired 6 ch pos then DP.retired
  else if !f.populated then 0
  else if f.failed.val ≠ 0 then DP.failed
  else if (logicals.take n).contains pos then DP.active
  else if pos = 2 ∧ s.drSpareBit found ch then DP.spare
  else if pos = 2 ∧ !two then DP.spare
  else DP.unmapped

/-- DR_TRAINING_DONE (R334, R350 to R352): training runs from PLL-A lock (`DR_STATE` 1); after a warm reset the contents stay (R488). -/
def execDrTrainingDone (found : List RankTrain) (s : State) : Result :=
  if s.reg O.drState ≠ 1 then .next s else
  let size := (found.map (fun f => if f.populated then f.sizeLog.val else 0)).foldl max 0
  let count := fun two => ((List.range 4).map (fun ch => (s.drLogicals found ch two).length)).foldl min 3
  let sub := 2 ^ size * 2 ^ 30
  let two := decide (512 * 2 ^ 30 < 8 * count false * sub)
  let n := count two
  let cap := 8 * n * sub
  let s := (List.range 4).foldl (fun s ch => (List.range 3).foldl (fun s p =>
    let f := foundAt found ch p
    let s := if f.populated && f.failed.val != 0 then s.raise 0x7C1 (ch + 4 * p + 16 * f.failed.val) else s
    s.setReg O.drPosState (s.drTrained found ch p n (s.drLogicals found ch two) two) ch p) s) s
  if n = 0 then .next (((s.setReg O.drState 3).setReg O.drCapacity 0).fault 0x58 0)
  else
    let s := (List.range 4).foldl (fun s ch =>
      let l := s.drLogicals found ch two
      s.setReg O.drRankMap ((List.range (min n l.length)).foldl (fun v i => mapRank v i (l.getD i 0)) 0x24) ch) s
    let s := (((s.setReg O.drState 2).setReg O.drCapacity cap).setReg O.drRankBytes (2 * sub)).setReg O.drActiveRanks n
    let s := if s.hidden H.drWarm = 1 then s.setReg O.drZeroPtr cap
      else (({ s with mem := [], poison := [] }.setReg O.drZeroPtr 0).setHidden H.memOrder 0).setHidden H.zeroStart (s.upTicks + 1)
    let spares := ((List.range 12).filter (fun k => s.reg O.drPosState (k / 3) (k % 3) == DP.spare)).length
    .next ((s.setReg O.poolSpares spares 0 5).setDrBw.raise 0x7C0 cap)

/-- DR_ZERO_DONE (R352). -/
def execDrZeroDone (s : State) : Result :=
  if s.reg O.drState = 2 then .next ((s.setReg O.drZeroPtr (s.reg O.drCapacity)).setHidden H.zeroStart 0) else .next s

/-- `DR_ZERO_PTR` as it reads: 20 GB/s from `DR_READY` (R352). -/
def State.zeroPtr (s : State) : Nat :=
  if s.hidden H.zeroStart = 0 then s.reg O.drZeroPtr
  else min (s.reg O.drCapacity) ((s.upTicks + 1 - s.hidden H.zeroStart) * 20000000000 / T96.second / 64 * 64)

end Sys2Proof.Machine
end

