-- ==== Sys2Proof/Machine/Wake.lean ====
section
/-! DEFINITION. Wakes (spec 20_power.md, R450): what every unit that causes one calls. The transition itself completes at
`PWR_TRANSITION_DONE`. With them stands what PLL-A and CLKOUT do as the clocks stop and start (R295, R297, R298). -/

namespace Sys2Proof.Machine

namespace H
/-- power state that a transition leads to, plus one; 0 none (R447) -/
def pwrNext : Nat := 500
/-- cause of that transition (Table 20.6) -/
def pwrCause : Nat := 501
/-- the dwell of R450 runs -/
def dwelling : Nat := 502
/-- a PLAN_CMD that waits for P2 (R451) -/
def planWait : Nat := 503
/-- a restart of PLL-A is in progress (R295) -/
def restarting : Nat := 324
/-- fROOT of the epoch before, to rescale loupe tables, Hz as binary64 -/
def frootOld : Nat := 325
/-- what CLKOUT carries, a selection of R298 -/
def clkout : Nat := 331
end H

/-- CLKOUT follows its selection (R298): low in the safe state, and low under a selection of fROOT's while PLL-A does not run. -/
def State.clkoutShow (s : State) : State :=
  let sel := s.plan O.clkoutSel
  let sel := if s.reg O.frSafe = 1 ∨ ((sel = 2 ∨ sel = 3) ∧ !s.locked) then 0 else sel
  if s.hidden H.clkout = sel then s else (s.setHidden H.clkout sel).emit (.clkout sel)

/-- The clocks' part of step 1 of Table 13.5: PLL-A waits, and phase steps outstanding are discarded (R297). -/
def State.pllaStop (s : State) (off : Bool) : State :=
  let left := s.reg O.phaseRemain
  let s := (((s.setReg O.pllaState (if off then 0 else 1)).setHidden H.restarting 1).setHidden H.frootOld
    (s.reg O.frootActual)).setReg O.phaseRemain 0
  let s := s.clkoutShow
  if left = 0 then s else s.raise 0x048 left

/-- A transition to a power state begins; PLL-A starts where it was off and the new state keeps it on (R447). -/
def State.pwrTo (s : State) (st cause : Nat) : State :=
  let s := (s.setHidden H.pwrNext (st + 1)).setHidden H.pwrCause cause
  if st ≤ 2 ∧ s.reg O.pllaState = 0 then s.pllaStop false else s

/-- A wake (R450): the device goes to P0, and stays there for the dwell. -/
def State.wake (s : State) (cause : Nat) : State :=
  let s := s.setHidden H.dwelling 1
  if s.reg O.pwrState = 0 ∧ s.hidden H.pwrNext = 0 then s
  else (s.bumpSat O.pwrWakes).pwrTo 0 cause

/-- A request reaches a unit in a domain: it wakes the device where the domain is not on (R450). -/
def State.reach (s : State) (d : Nat) : State := if bit (s.reg O.pwrDomainOn) d then s else s.wake 3

/-- The act, once accepted, reaches a unit in a domain (R450, R457): the commands that a unit itself carries out, which are those
that the dictionary cannot keep for it under R445 (DEDUCED, log entry 178). -/
def reaching (d : Nat) (f : Act) : Act := fun s => (f s).map (fun t => t.reach d)

end Sys2Proof.Machine
end

