-- ==== Sys2Proof/Machine/Dma.lean ====
section
/-! DEFINITION. DMA channels and descriptors (spec 16_streams.md, R357 to R364). -/

namespace Sys2Proof.Machine

/-- A channel's state. -/
def State.dma (s : State) (c : Nat) : Dma := Map.get s.dmas {} c
/-- Set it. -/
def State.setDma (s : State) (c : Nat) (x : Dma) : State := { s with dmas := Map.put s.dmas {} c x }

/-- A descriptor of 32 bytes (Table 16.1). -/
def parseDesc (b : List Byte) : Desc :=
  { src := ofLe (b.take 8), dst := ofLe ((b.drop 8).take 8), next := ofLe ((b.drop 16).take 8),
    count := ofLe ((b.drop 24).take 4), ctrl := ofLe ((b.drop 28).take 2) }

/-- CTRL fields (Table 16.2). -/
def descLink (d : Desc) : Bool := bit d.ctrl 15
/-- NOEVT -/
def descNoEvt (d : Desc) : Bool := bit d.ctrl 14
/-- SRC_SPACE -/
def descSrc (d : Desc) : Nat := bits d.ctrl 13 12
/-- DST_SPACE -/
def descDst (d : Desc) : Nat := bits d.ctrl 11 10
/-- SWAP -/
def descSwap (d : Desc) : Nat := bits d.ctrl 9 8
/-- HSWAP -/
def descHswap (d : Desc) : Bool := bit d.ctrl 7
/-- CIRC_K -/
def descK (d : Desc) : Nat := bits d.ctrl 6 1
/-- the destination is the circular side -/
def descCircDst (d : Desc) : Bool := bit d.ctrl 0

/-- Circular exponent of a side: 0 where it is linear. -/
def sideK (d : Desc) (dst : Bool) : Nat := if descCircDst d = dst then descK d else 0

/-- Whether a DRAM side reaches outside the window (R359). -/
def outsideWindow (base size addr count k : Nat) : Bool :=
  let lo := if k = 0 then addr else addr / 2 ^ k * 2 ^ k
  let n := if k = 0 then count else 2 ^ k
  !(decide (base ≤ lo ∧ lo + n ≤ base + size))

/-- Whether the channel refuses a descriptor (R359). -/
def State.descRefused (s : State) (c : Nat) (d : Desc) : Bool :=
  let unit := if descHswap d && decide (descSwap d < 2) then 4 else 2 ^ descSwap d
  let base := s.plan O.dmaWinBase c
  let size := s.plan O.dmaWinSize c
  d.next % 16 != 0 || decide (1 < descSrc d) || decide (1 < descDst d) || d.count == 0 ||
  decide (1 ≤ descK d ∧ descK d ≤ 5) || decide (40 < descK d) ||
  (descSrc d == 0 && descDst d == 0) || d.count % unit != 0 ||
  (descDst d == 0 && decide (f64 (s.plan O.dmaHostRate c) = 0)) ||
  (descSrc d == 1 && outsideWindow base size d.src d.count (sideK d false)) ||
  (descDst d == 1 && outsideWindow base size d.dst d.count (sideK d true))

/-- Swap the bytes of each unit of `n`; `fuel` bounds the units. -/
def swapUnits (n : Nat) : Nat → List Byte → List Byte
  | 0, l => l
  | f + 1, l => if l.isEmpty then [] else (l.take n).reverse ++ swapUnits n f (l.drop n)

/-- Exchange the 16-bit halves of each 4-byte unit. -/
def swapHalves : List Byte → List Byte
  | a :: b :: c :: d :: r => c :: d :: a :: b :: swapHalves r
  | l => l

/-- SWAP, then HSWAP (R360). -/
def swapData (d : Desc) (l : List Byte) : List Byte :=
  let l := if descSwap d = 0 then l else swapUnits (2 ^ descSwap d) l.length l
  if descHswap d then swapHalves l else l

/-- Contiguous pieces of a side of `n` bytes: address and length (R361). -/
def pieces (addr k : Nat) : Nat → Nat → List (Nat × Nat)
  | 0, _ => []
  | f + 1, n =>
    if n = 0 then []
    else if k = 0 then [(addr, n)]
    else
      let base := addr / 2 ^ k * 2 ^ k
      let m := min n (base + 2 ^ k - addr)
      (addr, m) :: pieces base k f (n - m)

/-- The pieces of a descriptor's side. -/
def sidePieces (d : Desc) (dst : Bool) (n : Nat) : List (Nat × Nat) :=
  pieces (if dst then d.dst else d.src) (sideK d dst) (n / 64 + 2) n

/-- Read a DRAM side: bytes, poison, state. -/
def State.readSide (s : State) (ps : List (Nat × Nat)) : List Byte × Bool × State :=
  ps.foldl (fun a p => let r := a.2.2.readPort 10 p.1 p.2; (a.1 ++ r.1, a.2.1 || r.2.1, r.2.2)) ([], false, s)

/-- A DRAM side line by line: bytes of each line, and whether it is poisoned (R362); `fuel` bounds the lines. -/
def State.lineRuns (s : State) : Nat → List (Nat × Nat) → List (Nat × Bool)
  | 0, _ => []
  | _, [] => []
  | f + 1, (a, n) :: ps =>
    let m := min n (64 - a % 64)
    (m, s.poisoned (a / 64)) :: s.lineRuns f (if m = n then ps else (a + m, n - m) :: ps)

/-- Pieces of the destination cut where the lines of the source end; `fuel` bounds the cuts. -/
def cutPieces : Nat → List (Nat × Bool) → List (Nat × Nat) → List (Nat × Nat × Bool)
  | f + 1, (m, b) :: rs, (a, n) :: ps =>
    let k := min m n
    (a, k, b) :: cutPieces f (if k = m then rs else (m - k, b) :: rs) (if k = n then ps else (a + k, n - k) :: ps)
  | _, _, _ => []

/-- Write a side; a piece whose mark is set goes to host memory in poisoned TLPs (R362). -/
def State.writeSide (s : State) (space : Nat) : List (Nat × Nat × Bool) → List Byte → State
  | [], _ => s
  | (a, n, bad) :: ps, b =>
    let s := if space = 0 then s.emit (if bad then .hostPoison a (b.take n) else .hostWrite a (b.take n))
      else (s.writeMem a (b.take n)).portBytes 10 n
    s.writeSide space ps (b.drop n)

/-- Write STATUS of the current descriptor (R358). -/
def State.writeStatus (s : State) (c st : Nat) : State :=
  let cur := s.reg O.dmaCur c
  let a := cur / 32 * 32 + 30
  let s := if bit cur 4 then (s.writeMem a (leBytes st 2)).portBytes 10 2 else s.emit (.hostWrite a (leBytes st 2))
  (s.setReg O.dmaLastStatus st c).bump O.dmaDoneCount c

/-- The channel stops (R359, R362); one that the active plan no longer enables goes idle (R357). -/
def State.dmaHalt (s : State) (c st : Nat) : State :=
  ((s.setDma c {}).setReg O.dmaState (if (s.dma c).leaving then 0 else 3) c).raise (0x701 + 2 * c) st

/-- STATUS and event of a descriptor that ends after `n` bytes (R361, R362). -/
def State.descDone (s : State) (c : Nat) (d : Desc) (n code : Nat) : State :=
  let k := descK d
  let addr := if descCircDst d then d.dst else d.src
  let lap := k != 0 && decide (2 ^ k < addr % 2 ^ k + n)
  let st := 0x8000 + 0x4000 * b2n lap + code
  let s := s.writeStatus c st
  if descNoEvt d then s else s.raise (0x700 + 2 * c) (st + 65536 * s.reg O.dmaDoneCount c)

/-- A descriptor ends after `n` bytes, with a code: data, STATUS, event (R362). -/
def State.descEnd (s : State) (c : Nat) (d : Desc) (n code : Nat) (host : List Byte) : State :=
  let from_ := sidePieces d false n
  let src : List Byte × Bool × State := if descSrc d = 1 then s.readSide from_ else (host.take n, false, s)
  let dst := sidePieces d true n
  let cut := if src.2.1 then
      let m := 2 * (n / 64 + from_.length + dst.length + 1)
      cutPieces m (s.lineRuns m from_) dst
    else dst.map (fun p => (p.1, p.2, false))
  let s := src.2.2.writeSide (descDst d) cut (swapData d src.1)
  (s.bump O.dmaBytes c 0 n).descDone c d n (if code = 0 ∧ src.2.1 then 1 else code)

/-- After a descriptor the chain follows NEXT, parks at its tail, or the channel goes idle (R357, R362, R364). -/
def State.dmaNext (s : State) (c : Nat) (d : Desc) : State :=
  let x := s.dma c
  if x.leaving then (s.setDma c {}).setReg O.dmaState 0 c
  else if descLink d then s.setDma c { x with desc := none, fetch := some d.next }
  else if x.nudge then
    (s.setDma c { x with desc := none, nudge := false, reread := true, fetch := some (s.reg O.dmaCur c) }).setReg O.dmaState 2 c
  else (s.setDma c { x with desc := none, fetch := none }).setReg O.dmaState 2 c

/-- `DMA_START` (R357), which wakes the device (R450). -/
def actDmaStart (c v : Nat) : Act := fun s =>
  if s.plan O.dmaEnable c = 0 then .error Abort.range
  else if s.reg O.dmaState c = 1 then .error Abort.busy
  else .ok ((((s.setDma c { fetch := some (v / 16 * 16) }).setReg O.dmaState 1 c).setReg O.dmaCur (v / 16 * 16) c).wake 3)

/-- `DMA_NUDGE` (R364): a nudge to a parked channel re-reads its tail. -/
def actDmaNudge (c v : Nat) : Act := onlyOne v fun s =>
  let x := s.dma c
  if s.reg O.dmaState c = 2 ∧ !x.reread then
    .ok (s.setDma c { x with reread := true, nudge := false, fetch := some (s.reg O.dmaCur c) })
  else .ok (s.setDma c { x with nudge := true })

/-- `DMA_STOP` (R362): the descriptor in progress ends at its next 64-byte boundary. -/
def actDmaStop (c v : Nat) : Act := onlyOne v fun s =>
  if s.reg O.dmaState c = 1 then .ok (s.setDma c { s.dma c with stop := true }) else .ok s

/-- DMA_START (R357). -/
def execDmaStart (m : Master) (ch : Fin 64) (value : Nat) (s : State) : Result :=
  s.command m O.dmaStart value (actDmaStart ch.val value)

/-- DMA_NUDGE (R364). -/
def execDmaNudge (m : Master) (ch : Fin 64) (value : Nat) (s : State) : Result :=
  s.command m O.dmaNudge value (actDmaNudge ch.val value)

/-- DMA_STOP (R362). -/
def execDmaStop (m : Master) (ch : Fin 64) (value : Nat) (s : State) : Result :=
  s.command m O.dmaStop value (actDmaStop ch.val value)

/-- DMA_DESC_FETCH (R359, R364): the descriptor's bytes come from host memory with the step, or from device DRAM. -/
def execDmaDescFetch (ch : Fin 64) (bytes : List Byte) (s : State) : Result :=
  let c := ch.val
  let x := s.dma c
  match x.fetch, x.desc with
  | some a, none =>
    let r : List Byte × Bool × State := if bit a 4 then s.readPort 10 (a / 32 * 32) 32 else (bytes, false, s)
    let d := parseDesc r.1
    let s := r.2.2
    if x.reread then
      if descLink d then .next ((s.setDma c { x with reread := false, fetch := some d.next }).setReg O.dmaState 1 c)
      else if x.nudge then .next (s.setDma c { x with nudge := false })
      else .next (s.setDma c { x with reread := false, fetch := none })
    else
      let s := s.setReg O.dmaCur (a / 16 * 16) c
      if s.descRefused c d then .next ((s.writeStatus c 0x8002).dmaHalt c 0x8002)
      else .next (s.setDma c { x with fetch := none, desc := some d })
  | _, _ => .next s

/-- DMA_DESC_END (R362): `data` is what was read from host memory; after a stop, `moved` bytes were moved and the descriptor goes on
to its next 64-byte boundary. -/
def execDmaDescEnd (ch : Fin 64) (moved : Nat) (data : List Byte) (s : State) : Result :=
  let c := ch.val
  let x := s.dma c
  match x.desc with
  | none => .next s
  | some d =>
    if x.stop then
      let n := min d.count ((moved + 63) / 64 * 64)
      let s := s.descEnd c d n 4 data
      .next (s.dmaHalt c (s.reg O.dmaLastStatus c))
    else .next ((s.descEnd c d d.count 0 data).dmaNext c d)

/-- DMA_HOST_ERROR (R362): bytes already written stay written. -/
def execDmaHostError (ch : Fin 64) (data : List Byte) (s : State) : Result :=
  let c := ch.val
  match (s.dma c).desc with
  | none => .next s
  | some d =>
    if descSrc d = 1 ∧ descDst d = 1 then .next s else
    let s := s.descEnd c d (min d.count data.length) 3 data
    .next (s.dmaHalt c (s.reg O.dmaLastStatus c))

/-- Every channel with a descriptor or chain ends it with a code and stops: the safe state, a quiesce, a disconnect. -/
def State.dmaAbort (s : State) (code : Nat) (which : State → Nat → Bool) : State :=
  (List.range 64).foldl (fun s c =>
    if s.reg O.dmaState c = 1 ∧ which s c then
      let s := match (s.dma c).desc with | some d => s.descDone c d 0 code | none => s
      s.dmaHalt c (0x8000 + code)
    else s) s

/-- A descriptor in progress touches host memory. -/
def State.dmaOnHost (s : State) (c : Nat) : Bool :=
  match (s.dma c).desc with
  | some d => descSrc d == 0 || descDst d == 0
  | none => match (s.dma c).fetch with | some a => !bit a 4 | none => false

/-- A commit that disables a channel lets its descriptor complete (R357). -/
def State.dmaCommit (s : State) (c : Nat) : State :=
  if s.plan O.dmaEnable c = 1 then s
  else if (s.dma c).desc.isSome then s.setDma c { s.dma c with leaving := true }
  else (s.setDma c {}).setReg O.dmaState 0 c

end Sys2Proof.Machine
end

