-- ==== Sys2Proof/Machine/AwlWord.lean ====
section
/-! DEFINITION. The words of awl instructions: the formats of Table 10.3, an encoder and a decoder that refuses every word that
R221 refuses by itself, and the checks of R221 that need a whole image. -/

namespace Sys2Proof.Machine

/-! ### Fields -/

/-- The fields of given widths, most significant first, of a value. -/
def splitFields : List Nat → Nat → List Nat
  | [], _ => []
  | k :: ks, w => w / 2 ^ ks.sum % 2 ^ k :: splitFields ks w

/-- The value whose fields they are. -/
def joinFields : List Nat → List Nat → Nat
  | k :: ks, v :: vs => v % 2 ^ k * 2 ^ ks.sum + joinFields ks vs
  | _, _ => 0

/-- The widths of the fields below the opcode (Table 10.3). -/
def opLayout (op : Nat) : List Nat :=
  if op = 0x02 then [4, 10, 12]
  else if op = 0x03 then [14, 12]
  else if op = 0x05 then [2, 1, 11, 12]
  else if op = 0x06 then [1, 3, 6, 16]
  else if op = 0x07 then [1, 2, 23]
  else if op = 0x08 then [3, 3, 4, 16]
  else if op = 0x09 then [1, 3, 3, 3, 16]
  else if op = 0x10 then [6, 6, 14]
  else if op = 0x11 then [6, 20]
  else if 0x12 ≤ op ∧ op ≤ 0x16 then [3, 3, 2, 2, 1, 3, 12]
  else if op = 0x17 ∨ op = 0x2B then [1, 2, 3, 3, 3, 2, 2, 3, 2, 2, 1, 1, 1]
  else if 0x18 ≤ op ∧ op ≤ 0x26 then [3, 3, 1, 3, 16]
  else if 0x28 ≤ op ∧ op ≤ 0x35 then [1, 2, 3, 3, 1, 1, 7, 8]
  else [26]

/-! ### Operands as fields -/

/-- MODE, JMm and IMM12 of an addressing mode. -/
def amodeFields : AMode → Nat × Nat × Nat
  | .offset i => (0, 0, i.toNat)
  | .postInc i => (1, 0, i.toNat)
  | .postMod m => (2, m.val, 0)
  | .indexed m => (3, m.val, 0)

/-- The addressing mode of MODE, JMm and IMM12; a field it does not use must be 0 (R219). -/
def amodeOf (mode jm imm : Nat) : Option AMode :=
  match mode with
  | 0 => if jm = 0 then some (.offset (BitVec.ofNat 12 imm)) else none
  | 1 => if jm = 0 then some (.postInc (BitVec.ofNat 12 imm)) else none
  | 2 => if imm = 0 then some (.postMod (Fin.ofNat 4 jm)) else none
  | _ => if imm = 0 then some (.indexed (Fin.ofNat 4 jm)) else none

/-- I, Dt and IMM16 of a second operand. -/
def op2Fields : Op2 → Nat × Nat × Nat
  | .reg t => (0, t.val, 0)
  | .imm v => (1, 0, v.toNat)

/-- The second operand of I, Dt and IMM16. -/
def op2Of (i dt imm : Nat) : Option Op2 :=
  match i with
  | 0 => if imm = 0 then some (.reg (Fin.ofNat 8 dt)) else none
  | _ => if dt = 0 then some (.imm (BitVec.ofNat 16 imm)) else none

/-- MODE of a product. -/
def mmodeField : MMode → Nat
  | .ss => 0
  | .uu => 1
  | .su => 2
  | .fr => 3

/-- The product mode of MODE. -/
def mmodeOf (n : Nat) : MMode := match n with | 0 => .ss | 1 => .uu | 2 => .su | _ => .fr

/-- A load of format X from its fields; the fields of a suppressed load must be 0. -/
def xloadOf (dst unit md skip : Nat) : Option XLoad :=
  if skip = 0 then some ⟨Fin.ofNat 8 dst, Fin.ofNat 4 unit, Fin.ofNat 4 md, false⟩
  else if dst = 0 ∧ unit = 0 ∧ md = 0 then some ⟨0, 0, 0, true⟩ else none

/-- Whether two loads of one instruction may stand together (R221). -/
def xpairOk (x y : XLoad) : Bool := x.skip || y.skip || x.dst != y.dst

/-- Bits of the register a code names, for MOVI's immediate (Table 10.4); 0 for a reserved code. -/
def codeWidth (c : Nat) : Nat :=
  if c < 0x08 then 16 else if c < 0x24 then 20 else if c = 0x2A ∨ c = 0x2D then 8 else if c < 0x2E then 16 else 0

/-! ### The encoder -/

/-- One bit of a Bool. -/
def fieldOf (b : Bool) : Nat := if b then 1 else 0

/-- Fields of format L. -/
def fieldsL (dd jp : Nat) (a : AMode) (sat : Bool) : List Nat :=
  let f := amodeFields a
  [dd, jp, f.1, f.2.1, fieldOf sat, 0, f.2.2]

/-- Fields of format R. -/
def fieldsR (dd ds : Nat) (o : Op2) : List Nat :=
  let f := op2Fields o
  [dd, ds, f.1, f.2.1, f.2.2]

/-- Fields of format X. -/
def fieldsX (wn mode dx dy : Nat) (x y : XLoad) (sub : Bool) : List Nat :=
  [wn, mode, dx, dy, x.dst.val, x.unit.val, x.md.val, y.dst.val, y.unit.val, y.md.val, fieldOf sub, fieldOf x.skip, fieldOf y.skip]

/-- Opcode and fields of an instruction; none for a command that is none. -/
def awFields (i : Instr) : Option (Nat × List Nat) :=
  match i with
  | .nop _ => some (0x00, [0])
  | .wait _ => some (0x01, [0])
  | .br _ c t => some (0x02, [c.toNat, 0, t.toNat])
  | .call _ t => some (0x03, [0, t.toNat])
  | .ret _ => some (0x04, [0])
  | .rep _ l c e => some (0x05, match c with | .imm v => [l.val, 1, v.toNat, e.toNat] | .reg r => [l.val, 0, r.val, e.toNat])
  | .evt _ v => some (0x06, match v with | .reg t => [0, t.val, 0, 0] | .imm v => [1, 0, 0, v.toNat])
  | .setflag _ l => some (0x07, [1, l.val, 0])
  | .clrflag _ l => some (0x07, [0, l.val, 0])
  | .emit _ jp dl tag _ => some (0x08, [jp.val, dl.val, 0, tag.toNat])
  | .spill _ jp dO dL back => some (0x09, [fieldOf back, jp.val, dO.val, dL.val, 0])
  | .mov _ rd rs => some (0x10, [rd.val, rs.val, 0])
  | .movi _ rd imm => some (0x11, [rd.val, imm.toNat])
  | .ld _ dd jp a _ => some (0x12, fieldsL dd.val jp.val a false)
  | .st _ dd jp a _ => some (0x13, fieldsL dd.val jp.val a false)
  | .ldw _ wn jp a _ => some (0x14, fieldsL (4 * wn.val) jp.val a false)
  | .stw _ wn jp a sat _ => some (0x15, fieldsL (4 * wn.val) jp.val a sat)
  | .modj _ jp a => some (0x16, fieldsL 0 jp.val a false)
  | .ld2 _ x y _ => some (0x17, fieldsX 0 0 0 0 x y false)
  | .add _ dd ds o => some (0x18, fieldsR dd.val ds.val o)
  | .adds _ dd ds o => some (0x19, fieldsR dd.val ds.val o)
  | .sub _ dd ds o => some (0x1A, fieldsR dd.val ds.val o)
  | .subs _ dd ds o => some (0x1B, fieldsR dd.val ds.val o)
  | .and _ dd ds o => some (0x1C, fieldsR dd.val ds.val o)
  | .or _ dd ds o => some (0x1D, fieldsR dd.val ds.val o)
  | .xor _ dd ds o => some (0x1E, fieldsR dd.val ds.val o)
  | .cmp _ ds o => some (0x1F, fieldsR 0 ds.val o)
  | .min _ dd ds o => some (0x20, fieldsR dd.val ds.val o)
  | .max _ dd ds o => some (0x21, fieldsR dd.val ds.val o)
  | .abs _ dd ds => some (0x22, [dd.val, ds.val, 0, 0, 0])
  | .neg _ dd ds => some (0x23, [dd.val, ds.val, 0, 0, 0])
  | .shl _ dd ds o => some (0x24, fieldsR dd.val ds.val o)
  | .shr _ dd ds o => some (0x25, fieldsR dd.val ds.val o)
  | .sra _ dd ds o => some (0x26, fieldsR dd.val ds.val o)
  | .mul _ wn dx dy m => some (0x28, [wn.val, mmodeField m, dx.val, dy.val, 0, 0, 0, 0])
  | .mac _ wn dx dy m => some (0x29, [wn.val, mmodeField m, dx.val, dy.val, 0, 0, 0, 0])
  | .msu _ wn dx dy m => some (0x2A, [wn.val, mmodeField m, dx.val, dy.val, 0, 0, 0, 0])
  | .macx _ wn dx dy m sub x y _ => some (0x2B, fieldsX wn.val (mmodeField m) dx.val dy.val x y sub)
  | .clrw _ wn => some (0x2C, [wn.val, 0, 0, 0, 0, 0, 0, 0])
  | .rdw _ dd wn part rnd sat => some (0x2D, [wn.val, part.val, dd.val, 0, fieldOf rnd, fieldOf sat, 0, 0])
  | .movdw _ wn ds => some (0x2E, [wn.val, 0, ds.val, 0, 0, 0, 0, 0])
  | .addw _ wn => some (0x2F, [wn.val, 0, 0, 0, 0, 0, 0, 0])
  | .subw _ wn => some (0x30, [wn.val, 0, 0, 0, 0, 0, 0, 0])
  | .cmpw _ => some (0x31, [0, 0, 0, 0, 0, 0, 0, 0])
  | .ash _ wn c => some (0x32, match c with
      | .imm v => [wn.val, 0, 0, 0, 0, 0, v.toNat, 0]
      | .reg r => [wn.val, 2, r.val, 0, 0, 0, 0, 0])
  | .negw _ wn => some (0x33, [wn.val, 0, 0, 0, 0, 0, 0, 0])
  | .absw _ wn => some (0x34, [wn.val, 0, 0, 0, 0, 0, 0, 0])
  | .norm _ dd wn => some (0x35, [wn.val, 0, dd.val, 0, 0, 0, 0, 0])
  | _ => none

/-- The word of an instruction. -/
def awEncode (i : Instr) : Option Nat := (awFields i).map (fun f => f.1 * 2 ^ 26 + joinFields (opLayout f.1) f.2)

/-! ### The decoder (R219, R221) -/

/-- An instruction of format R from its fields. -/
def decodeR (p : Pos) (op : Nat) (dd ds : Fin 8) (o : Op2) : Option Instr :=
  let small := match o with | .imm v => decide (v.toNat ≤ 16) | .reg _ => true
  match op with
  | 0x18 => some (.add p dd ds o)
  | 0x19 => some (.adds p dd ds o)
  | 0x1A => some (.sub p dd ds o)
  | 0x1B => some (.subs p dd ds o)
  | 0x1C => some (.and p dd ds o)
  | 0x1D => some (.or p dd ds o)
  | 0x1E => some (.xor p dd ds o)
  | 0x1F => if dd = 0 then some (.cmp p ds o) else none
  | 0x20 => some (.min p dd ds o)
  | 0x21 => some (.max p dd ds o)
  | 0x22 => if o = .reg 0 then some (.abs p dd ds) else none
  | 0x23 => if o = .reg 0 then some (.neg p dd ds) else none
  | 0x24 => if small then some (.shl p dd ds o) else none
  | 0x25 => if small then some (.shr p dd ds o) else none
  | 0x26 => if small then some (.sra p dd ds o) else none
  | _ => none

/-- An instruction of format A from its fields. -/
def decodeA (p : Pos) (op wn mode d1 d2 rnd sat imm : Nat) : Option Instr :=
  let w : Fin 2 := Fin.ofNat 2 wn
  let a : Fin 8 := Fin.ofNat 8 d1
  let b : Fin 8 := Fin.ofNat 8 d2
  let plain : Bool := mode == 0 && d1 == 0 && d2 == 0 && rnd == 0 && sat == 0 && imm == 0
  let product : Bool := rnd == 0 && sat == 0 && imm == 0
  let one : Bool := mode == 0 && d2 == 0 && rnd == 0 && sat == 0 && imm == 0
  match op with
  | 0x28 => if product then some (.mul p w a b (mmodeOf mode)) else none
  | 0x29 => if product then some (.mac p w a b (mmodeOf mode)) else none
  | 0x2A => if product then some (.msu p w a b (mmodeOf mode)) else none
  | 0x2C => if plain then some (.clrw p w) else none
  | 0x2D => if mode < 3 ∧ d2 = 0 ∧ imm = 0 ∧ (mode = 1 ∨ (rnd = 0 ∧ sat = 0)) then
      some (.rdw p a w (Fin.ofNat 3 mode) (rnd == 1) (sat == 1)) else none
  | 0x2E => if one then some (.movdw p w a) else none
  | 0x2F => if plain then some (.addw p w) else none
  | 0x30 => if plain then some (.subw p w) else none
  | 0x31 => if plain ∧ wn = 0 then some (.cmpw p) else none
  | 0x32 =>
    if d2 = 0 ∧ rnd = 0 ∧ sat = 0 then
      match mode with
      | 0 => if d1 = 0 then some (.ash p w (.imm (BitVec.ofNat 7 imm))) else none
      | 2 => if imm = 0 then some (.ash p w (.reg a)) else none
      | _ => none
    else none
  | 0x33 => if plain then some (.negw p w) else none
  | 0x34 => if plain then some (.absw p w) else none
  | 0x35 => if one then some (.norm p a w) else none
  | _ => none

/-- An instruction of format L from its fields. -/
def decodeL (p : Pos) (waits op dd : Nat) (jp : Fin 8) (a : AMode) (sat : Nat) : Option Instr :=
  let d : Fin 8 := Fin.ofNat 8 dd
  let w : Fin 2 := Fin.ofNat 2 (dd / 4)
  match op with
  | 0x12 => if sat = 0 then some (.ld p d jp a waits) else none
  | 0x13 => if sat = 0 then some (.st p d jp a waits) else none
  | 0x14 => if sat = 0 ∧ dd % 4 = 0 then some (.ldw p w jp a waits) else none
  | 0x15 => if dd % 4 = 0 then some (.stw p w jp a (sat == 1) waits) else none
  | 0x16 =>
    if sat = 0 ∧ dd = 0 then
      match a with
      | .postInc _ => some (.modj p jp a)
      | .postMod _ => some (.modj p jp a)
      | _ => none
    else none
  | _ => none

/-- An instruction from its opcode and fields. -/
def decodeFields (p : Pos) (waits op : Nat) (f : List Nat) : Option Instr :=
  match f with
  | [z] =>
    if z ≠ 0 then none
    else match op with
      | 0x00 => some (.nop p)
      | 0x01 => some (.wait p)
      | 0x04 => some (.ret p)
      | _ => none
  | [a, b] =>
    match op with
    | 0x03 => if a = 0 then some (.call p (BitVec.ofNat 12 b)) else none
    | 0x11 => if a < 0x2E ∧ b < 2 ^ codeWidth a then some (.movi p (Fin.ofNat 64 a) (BitVec.ofNat 20 b)) else none
    | _ => none
  | [a, b, c] =>
    match op with
    | 0x02 => if b = 0 then some (.br p (BitVec.ofNat 4 a) (BitVec.ofNat 12 c)) else none
    | 0x07 => if c = 0 then (if a = 1 then some (.setflag p (Fin.ofNat 4 b)) else some (.clrflag p (Fin.ofNat 4 b))) else none
    | 0x10 => if a < 0x2E ∧ b < 0x2E ∧ c = 0 then some (.mov p (Fin.ofNat 64 a) (Fin.ofNat 64 b)) else none
    | _ => none
  | [a, b, c, d] =>
    match op with
    | 0x05 =>
      if a = 3 then none
      else if b = 1 then some (.rep p (Fin.ofNat 3 a) (.imm (BitVec.ofNat 11 c)) (BitVec.ofNat 12 d))
      else if c < 8 then some (.rep p (Fin.ofNat 3 a) (.reg (Fin.ofNat 8 c)) (BitVec.ofNat 12 d))
      else none
    | 0x06 =>
      if c ≠ 0 then none
      else if a = 1 then (if b = 0 then some (.evt p (.imm (BitVec.ofNat 16 d))) else none)
      else (if d = 0 then some (.evt p (.reg (Fin.ofNat 8 b))) else none)
    | 0x08 => if c = 0 then some (.emit p (Fin.ofNat 8 a) (Fin.ofNat 8 b) (BitVec.ofNat 16 d) waits) else none
    | _ => none
  | [a, b, c, d, e] =>
    if op = 0x09 then (if e = 0 then some (.spill p (Fin.ofNat 8 b) (Fin.ofNat 8 c) (Fin.ofNat 8 d) (a == 1)) else none)
    else (op2Of c d e).bind (decodeR p op (Fin.ofNat 8 a) (Fin.ofNat 8 b))
  | [dd, jp, mode, jm, sat, z, imm] =>
    if z ≠ 0 then none else (amodeOf mode jm imm).bind (fun a => decodeL p waits op dd (Fin.ofNat 8 jp) a sat)
  | [wn, mode, d1, d2, rnd, sat, imm, z] => if z ≠ 0 then none else decodeA p op wn mode d1 d2 rnd sat imm
  | [wn, mode, dx, dy, da, ji, xm, db, jj, ym, sub, nx, ny] =>
    match xloadOf da ji xm nx, xloadOf db jj ym ny with
    | some x, some y =>
      if !xpairOk x y then none
      else if op = 0x17 then (if wn = 0 ∧ mode = 0 ∧ dx = 0 ∧ dy = 0 ∧ sub = 0 then some (.ld2 p x y waits) else none)
      else if op = 0x2B then
        some (.macx p (Fin.ofNat 2 wn) (Fin.ofNat 8 dx) (Fin.ofNat 8 dy) (mmodeOf mode) (sub == 1) x y waits)
      else none
    | _, _ => none
  | _ => none

/-- The instruction that a word spells on the core of a position, none for a word that R221 refuses by itself. `waits` is what
the round-robin port of bench memory makes the instruction wait, which no word holds. -/
def awDecode (p : Pos) (waits w : Nat) : Option Instr :=
  let op := w / 2 ^ 26 % 64
  decodeFields p waits op (splitFields (opLayout op) w)

/-! ### Images (R221) -/

/-- Instruction words of an image part. -/
def imageWords : List Byte → List Nat
  | a :: b :: c :: d :: r => ofLe [a, b, c, d] :: imageWords r
  | _ => []

/-- An instruction may stand at the END of a REP. -/
def endOk (i : Instr) : Bool :=
  match i with
  | .br _ _ _ => false
  | .call _ _ => false
  | .ret _ => false
  | .wait _ => false
  | .rep _ _ _ _ => false
  | _ => true

/-- The checks of R221 on the word at an index of an image. -/
def wordOk (ws : List Nat) (k w : Nat) : Bool :=
  let p : Pos := ⟨0, 0⟩
  match awDecode p 0 w with
  | none => false
  | some i =>
    match i with
    | .br _ _ t => decide (t.toNat < ws.length)
    | .call _ t => decide (t.toNat < ws.length)
    | .rep _ _ _ e => decide (k < e.toNat) && (match ws[e.toNat]? with
        | some v => match awDecode p 0 v with
          | some j => endOk j
          | none => false
        | none => false)
    | _ => true

/-- Every word of an image passes (R221). -/
def imageOk (ws : List Nat) : Bool := (ws.zipIdx).all (fun q => wordOk ws q.2 q.1)

end Sys2Proof.Machine
end

