-- ==== Sys2Proof/Machine/Fitting.lean ====
section
/-! DEFINITION. The fitting in progress, and how it fails or is abandoned (spec R465, R466): what the units whose changes end
it call. -/

namespace Sys2Proof.Machine

/-- The unit under test: pool, group and unit. -/
def State.fitting (s : State) : Option (Nat × Nat × Nat) :=
  if s.reg O.fitState = 1 then
    let t := s.reg O.fitTarget
    some (bits t 7 0, bits t 15 8, bits t 23 16)
  else none

namespace H
/-- elapsed time at which the running fitting began -/
def fitFrom : Nat := 544
/-- root index at which its run began -/
def fitIdx : Nat := 545
/-- its first run has failed and is being repeated (Table 21.1) -/
def fitAgain : Nat := 546
end H

/-- `FIT_PROGRESS` of the running fitting: frames shadowed, the built-in test's 10 ms, the 8,192 blocks of a run; the others' lengths
are not stated. -/
def State.fitPart (s : State) : Nat :=
  match s.fitting with
  | some (1, _, _) => min 1000 ((s.idx - s.hidden H.fitIdx) * 1000 / (8192 * 65536))
  | some (2, _, _) => min 1000 ((s.up - s.hidden H.fitFrom) * 1000 / (10000000 * 2 ^ 64))
  | some (3, _, _) => min 1000 ((s.shadows.head?.map (·.frames)).getD 0 * 1000 / 256)
  | some (pool, _, _) => Config.fitPart pool (s.up - s.hidden H.fitFrom) % 1001
  | none => s.reg O.fitProgress

/-- The unit's own status reads retired. -/
def State.unitRetired (s : State) (pool group unit : Nat) : State :=
  match pool with
  | 1 => s.setReg O.scState 3 group unit
  | 3 => s.setReg O.bnPhysState 2 group unit
  | 4 => s.setReg O.ipState 3 group unit
  | 6 => s.setReg O.drPosState 3 group unit
  | _ => s

/-- The running fitting fails or is abandoned (R466): the reason of Table 21.3, and the value of kind 6 of Table 9.7, 0 where
no rule of the awl chapter names it. `FIT_FAILED` follows the record (R469). -/
def State.fitFail (s : State) (reason kind : Nat) : State :=
  match s.fitting with
  | none => s
  | some (pool, group, unit) =>
    let pos := (s.shadows.head?.map (·.pos)).getD 0
    let s := ((s.setReg O.fitProgress s.fitPart).unitRetired pool group unit).setReg O.fitState 3
    let s := if pool = 3 ∧ kind ≠ 0 then s.raise (0x480 + 17 * group + unit) (6 + 256 * pos + 65536 * kind) else s
    let s := if pool = 6 ∧ reason ≠ 3 then s.raise 0x7CA (group + 4 * unit) else s
    let s := { s with shadows := [] }
    s.happen { type := 3, pool := pool, group := group, unit := unit, data := reason }

end Sys2Proof.Machine
end

