-- ==== Sys2Proof/Machine/Flags.lean ====
section
/-! DEFINITION. Flag computations: the awl status register SR (R218, Table 10.2), and the bits of the block, slice,
transform and segment flags (Tables 4.5, 5.4, 6.3 and 7.7). -/

namespace Sys2Proof.Machine

/-! ### SR -/

/-- SR bit numbers of Table 10.2. -/
def SR.z : Nat := 0
/-- N -/
def SR.n : Nat := 1
/-- C -/
def SR.c : Nat := 2
/-- V -/
def SR.v : Nat := 3
/-- WV -/
def SR.wv : Nat := 4
/-- SAT -/
def SR.sat : Nat := 5
/-- VS -/
def SR.vs : Nat := 6
/-- STK -/
def SR.stk : Nat := 7
/-- OVR -/
def SR.ovr : Nat := 8
/-- REF -/
def SR.ref : Nat := 9
/-- SPL -/
def SR.spl : Nat := 10
/-- SPB -/
def SR.spb : Nat := 11
/-- MF -/
def SR.mf : Nat := 12

/-- SR with one bit set or cleared. -/
def srSet (sr : BitVec 16) (i : Nat) (b : Bool) : BitVec 16 :=
  if b then sr ||| (1#16 <<< i) else sr &&& ~~~(1#16 <<< i)

/-- SR with one bit set where the condition holds, else as it was (the sticky bits). -/
def srStick (sr : BitVec 16) (i : Nat) (b : Bool) : BitVec 16 :=
  if b then sr ||| (1#16 <<< i) else sr

/-- One bit of SR. -/
def srBit (sr : BitVec 16) (i : Nat) : Bool := sr.getLsbD i

/-- Z and N of a 16-bit result. -/
def srZN (sr : BitVec 16) (r : BitVec 16) : BitVec 16 := srSet (srSet sr SR.z (r == 0)) SR.n r.msb

/-- Z and N of a 16-bit result, C and V as given, VS with V. -/
def srZNCV (sr : BitVec 16) (r : BitVec 16) (c v : Bool) : BitVec 16 :=
  srStick (srSet (srSet (srZN sr r) SR.c c) SR.v v) SR.vs v

/-- The flags of an accumulator result (R226): Z and N of the 40-bit value, V when the exact result lies outside the
40-bit range, WV when the value uses the guard bits, VS with V, C cleared. -/
def srAcc (sr : BitVec 16) (r : BitVec 40) (v : Bool) : BitVec 16 :=
  let wv := decide (r.toInt < -(2 ^ 31) ∨ 2 ^ 31 - 1 < r.toInt)
  srStick (srSet (srSet (srSet (srSet (srSet sr SR.z (r == 0)) SR.n r.msb) SR.c false) SR.v v) SR.wv wv) SR.vs v

/-- SR after a program writes it (R218): [4:0] and the sticky bits take the value; a device bit [10:8] or [12] is cleared by
a 0 and left by a 1; SPB and the reserved bits stay. -/
def srWrite (old new : BitVec 16) : BitVec 16 :=
  (new &&& 0x00FF#16) ||| (old &&& new &&& 0x1700#16) ||| (old &&& 0x0800#16)

/-- Whether a branch condition of Table 10.7 holds. -/
def condHolds (sr : BitVec 16) (cond : BitVec 4) : Bool :=
  let z := srBit sr SR.z
  let n := srBit sr SR.n
  let c := srBit sr SR.c
  let v := srBit sr SR.v
  match cond.toNat with
  | 0 => true
  | 1 => z
  | 2 => !z
  | 3 => n != v
  | 4 => n == v
  | 5 => !z && n == v
  | 6 => z || n != v
  | 7 => c
  | 8 => !c
  | 9 => v
  | 10 => srBit sr SR.wv
  | 11 => srBit sr SR.ovr
  | 12 => srBit sr SR.ref
  | 13 => srBit sr SR.spl
  | 14 => n
  | _ => !n

/-! ### Block flags (Table 4.5) -/

/-- CAL -/
def BF.cal : Nat := 1
/-- RETIRE -/
def BF.retire : Nat := 2
/-- PLAN -/
def BF.plan : Nat := 4
/-- TSTEP -/
def BF.tstep : Nat := 8
/-- PSTEP -/
def BF.pstep : Nat := 16
/-- GAP -/
def BF.gap : Nat := 32
/-- CLK_UNQUAL -/
def BF.clkUnqual : Nat := 0x100
/-- TIME_UNSET -/
def BF.timeUnset : Nat := 0x200
/-- NO_SPARE -/
def BF.noSpare : Nat := 0x400
/-- SUSPECT -/
def BF.suspect : Nat := 0x800
/-- OVERRANGE -/
def BF.overrange : Nat := 0x1000

/-! ### Slice flags (Table 5.4) -/

/-- SYNC -/
def SF.sync : Nat := 1
/-- SETTLING -/
def SF.settling : Nat := 2
/-- RETUNE -/
def SF.retune : Nat := 4
/-- GAIN -/
def SF.gain : Nat := 8
/-- SAT -/
def SF.sat : Nat := 16
/-- TRUNCATED -/
def SF.truncated : Nat := 32

/-! ### Transform flags (Table 6.3) -/

/-- RESTART -/
def TF.restart : Nat := 1
/-- SAT -/
def TF.sat : Nat := 16
/-- LANE_SWAP -/
def TF.laneSwap : Nat := 32
/-- SUSPECT -/
def TF.suspect : Nat := 64
/-- PARTIAL -/
def TF.partial_ : Nat := 128

/-- A flag where the condition holds. -/
def flagIf (b : Bool) (f : Nat) : Nat := if b then f else 0

end Sys2Proof.Machine
end

