-- ==== Sys2Proof/Machine/Nvme.lean ====
section
/-! DEFINITION. NVMe drive sets (spec 16_streams.md, R375 to R381), with the few stream accessors they share with
Machine/Streams.lean. -/

namespace Sys2Proof.Machine

namespace H
/-- log2 of a controller's LBA size (R375) -/
def lbaShift : Nat := 420
/-- enumeration has been made since reset -/
def enumerated : Nat := 421
end H

/-- A stream's state. -/
def State.stream (s : State) (n : Nat) : Stream := Map.get s.streams {} n
/-- Set it. -/
def State.setStream (s : State) (n : Nat) (x : Stream) : State := { s with streams := Map.put s.streams {} n x }

/-- Data of `ST_EVENT` of a kind (Table 16.12). -/
def State.stData (s : State) (n kind : Nat) : Nat := kind + 256 * (s.reg O.stRecSeq n % 2 ^ 56)

/-- The stream's event of a kind. -/
def State.stEvent (s : State) (n kind : Nat) : State := s.raise (0x780 + n) (s.stData n kind)

/-- A drive set. -/
def State.nvSet (s : State) (d : Nat) : NvSet := Map.get s.nvSets {} d
/-- Set it. -/
def State.setNvSet (s : State) (d : Nat) (x : NvSet) : State := { s with nvSets := Map.put s.nvSets {} d x }

/-- Controller of a member. -/
def State.nvCtrl (s : State) (d i : Nat) : Nat := bits (s.plan O.nvMNs d i) 34 32

/-- log2 of the LBA size of a member. -/
def State.nvShift (s : State) (d i : Nat) : Nat := s.hidden H.lbaShift (s.nvCtrl d i)

/-- `NV_CAPACITY` (R377): 0 while a member's LBA size is not known. -/
def State.nvCap (s : State) (d : Nat) : Nat :=
  let n := s.plan O.nvMembers d
  let u := s.plan O.nvStripe d
  let ext := (List.range n).map (fun i => if s.nvShift d i = 0 then 0 else s.plan O.nvMCount d i * 2 ^ s.nvShift d i)
  let least := ext.foldl min (ext.headD 0)
  if u = 0 then 0 else n * u * ((least - 65536) / u)

/-- The stream of the active plan that names a set. -/
def planSetStream (p : Store) (d : Nat) : Option Nat :=
  (List.range 32).find? (fun n =>
    planVal p O.stEnable n == 1 && planVal p O.stDest n == 1 && planVal p O.stNvSet n == d)

/-- Bytes of the data stream on the set below which every Write has completed. -/
def State.nvDone (s : State) (d : Nat) : Nat :=
  ((s.nvCmds.filter (fun c => c.set == d && c.op == 1)).map (·.off)).foldl min (s.nvSet d).run.sent

/-- A set as a stream finds it in the active plan. -/
def State.nvRun (s : State) (d n : Nat) : NvRun :=
  let m := s.plan O.nvMembers d
  let at_ := fun i => (s.plan O.nvMNs d i, s.plan O.nvMStart d i, s.plan O.nvMCount d i)
  { stream := n, fmt := s.plan O.stFormat n, kind := s.plan O.stSrcKind n, src := s.plan O.stSrc n, startT := (s.stream n).startT,
    stripe := s.plan O.nvStripe d, shift := s.nvShift d 0, members := (List.range m).map at_,
    others := ((List.range 8).drop m).map at_, cap := s.nvCap d, wrap := s.plan O.nvMode d == 1 }

/-- Catalogue bytes (Table 16.9). -/
def catBytes (r : NvRun) (st gen done wraps lastT : Nat) : List Byte :=
  let body := leBytes 0x51434154 4 ++ leBytes 1 2 ++ leBytes st 1 ++ leBytes r.fmt 1 ++ leBytes gen 8 ++
    leBytes r.startT 12 ++ leBytes lastT 12 ++ leBytes done 8 ++ leBytes wraps 8 ++ leBytes r.stream 1 ++
    leBytes r.kind 1 ++ leBytes r.members.length 1 ++ leBytes r.shift 1 ++ leBytes r.src 4 ++ leBytes r.stripe 4 ++ leBytes 0 60 ++
    (r.members ++ r.others).flatMap (fun q => leBytes q.1 8 ++ leBytes q.2.1 8 ++ leBytes q.2.2 8) ++ leBytes 0 3768
  body ++ leBytes (crc32 body) 4 ++ leBytes 0x434F4D31 4

/-- Controller of a member's namespace word. -/
def nvCtrlOf (q : Nat × Nat × Nat) : Nat := bits q.1 34 32

/-- Issue a Flush to a controller. -/
def State.nvFlush (s : State) (d c : Nat) : State :=
  { s.emit (.nvme c 0 0 0) with nvCmds := s.nvCmds ++ [{ ctrl := c, set := d, op := 0 }] }

/-- Flush every member of a set. -/
def State.nvFlushAll (s : State) (d : Nat) : State := (s.nvSet d).run.members.foldl (fun s q => s.nvFlush d (nvCtrlOf q)) s

/-- Write a catalogue of a state to the slot that does not hold the newest valid one, with the next generation (R379, steps 1 to 3);
it is valid once member 0 is flushed. -/
def State.nvCatPut (s : State) (d st total : Nat) : State :=
  let x := s.nvSet d
  let r := x.run
  let wrap := r.wrap && r.cap != 0
  let lastT := ((x.ends.filter (fun e => decide (e.1 ≤ total))).map (·.2)).foldl max x.lastT
  let b := catBytes r st (x.gen + 1) (if wrap then total % r.cap else total) (if wrap then total / r.cap else 0) lastT
  let s := (s.emit (.catalogue d (1 - x.slot) b)).setNvSet d
    { x with lastT := lastT, ends := x.ends.filter (fun e => decide (total < e.1)), cat := some ⟨st, total, true⟩ }
  match r.members with
  | q :: _ => s.nvFlush d (nvCtrlOf q)
  | [] => s

/-- The catalogue written is valid (R379, step 4). -/
def State.nvCatDone (s : State) (d : Nat) : State :=
  let x := s.nvSet d
  match x.cat with
  | none => s
  | some q =>
    let s := s.setNvSet d { x with slot := 1 - x.slot, gen := x.gen + 1, cut := false, cat := none, closing := x.closing && q.state != 2,
                                   run := { x.run with done := q.total } }
    let s := if q.state = 2 then s.setReg O.nvSetState 0 d else s
    (s.setReg O.nvCatGen (x.gen + 1) d).setReg O.nvBytesDone (if x.run.wrap ∧ x.run.cap ≠ 0 then q.total % x.run.cap else q.total) d

/-- A catalogue write goes on once no Flush of the set is outstanding. -/
def State.nvCatStep (s : State) (d : Nat) : State :=
  if s.nvCmds.any (fun c => c.set == d && c.op == 0) then s else
  match (s.nvSet d).cat with
  | none => s
  | some q => if q.put then s.nvCatDone d else s.nvCatPut d q.state q.total

/-- Begin a catalogue write: the members are flushed first, so that BYTES_DONE is flushed on every one. -/
def State.nvCatalogue (s : State) (d st : Nat) : State :=
  let s := s.setNvSet d { s.nvSet d with cat := some ⟨st, s.nvDone d, false⟩ }
  (s.nvFlushAll d).nvCatStep d

/-- A stream starts on a set (R379): both slots are read, an open catalogue is written, recording begins at offset 0. A recording
whose closed catalogue is still due gets it first, for what is flushed. -/
def State.nvOpen (s : State) (d n : Nat) : State :=
  let s := if (s.nvSet d).closing then (s.nvCatPut d 2 (s.nvSet d).run.done).nvCatDone d else s
  let s := if (s.nvSet d).cut then s.raise 0x7A7 d else s
  let s := { s with nvCmds := s.nvCmds.filter (fun c => c.set != d) }
  let s := s.setNvSet d { s.nvSet d with lastT := 0, ends := [], closing := false, cat := none, run := s.nvRun d n }
  (((s.setReg O.stNvOffset 0 n).setReg O.nvSetState 1 d).unfault (0x68 + d)).nvCatPut d 1 0

/-- The Writes of `len` bytes at data-stream offset `off` of a member, split at the controller's maximum transfer. -/
def writePieces (c d max : Nat) : Nat → Nat → Nat → Nat → Nat → List NvCmd
  | 0, _, _, _, _ => []
  | f + 1, off, lba, shift, len =>
    if len = 0 then [] else
    let k := if max = 0 then len else min len max
    { ctrl := c, set := d, op := 1, off := off, lba := lba, len := k } ::
      writePieces c d max f (off + k) (lba + k / 2 ^ shift) shift (len - k)

/-- Submit `len` bytes of the data stream at its present offset: at most one stripe. -/
def State.nvSubmit (s : State) (d n len : Nat) : State :=
  let total := s.reg O.stNvOffset n
  let cap := s.nvCap d
  let b := if cap = 0 then total else total % cap
  let u := s.plan O.nvStripe d
  let m := s.plan O.nvMembers d
  let j := b / u
  let i := j % m
  let shift := s.nvShift d i
  let lba := s.plan O.nvMStart d i + (65536 + j / m * u + b % u) / 2 ^ shift
  let round := (len + 2 ^ shift - 1) / 2 ^ shift * 2 ^ shift
  let mdts := s.reg O.nvCtrlMdts (s.nvCtrl d i)
  let cmds := writePieces (s.nvCtrl d i) d mdts (round / 512 + 1) total lba shift round
  let s := cmds.foldl (fun s c => s.emit (.nvme c.ctrl 1 c.lba c.len)) s
  let x := s.nvSet d
  let s := s.setNvSet d { x with run := { x.run with sent := total + len } }
  { s with nvCmds := s.nvCmds ++ cmds }.setReg O.stNvOffset (total + len) n

/-- Submit the whole stripes that wait; in stop mode nothing beyond the capacity. -/
def State.nvDrain (s : State) (d n : Nat) : Nat → State
  | 0 => s
  | f + 1 =>
    let u := s.plan O.nvStripe d
    let x := s.stream n
    if u = 0 ∨ s.plan O.nvMembers d = 0 ∨ x.nvBuf < u then s
    else if s.plan O.nvMode d = 0 ∧ s.nvCap d < s.reg O.stNvOffset n + u then s
    else ((s.setStream n { x with nvBuf := x.nvBuf - u }).nvSubmit d n u).nvDrain d n f

/-- The data stream has reached the capacity in stop mode and every Write has completed (R380). -/
def State.nvFull (s : State) (d : Nat) : State :=
  match planSetStream s.active d with
  | none => s
  | some n =>
    if s.plan O.nvMode d = 0 ∧ s.reg O.nvSetState d = 1 ∧ s.nvCap d ≤ s.reg O.stNvOffset n ∧
        !(s.nvCmds.any (fun c => c.set == d && c.op == 1)) ∧ (s.nvSet d).cat = none then
      let s := (s.setReg O.nvSetState 2 d).setReg O.stState 4 n
      let s := s.setStream n { s.stream n with items := [], ready := [], nvBuf := 0 }
      (s.nvCatalogue d 3).stEvent n 5
    else s

/-- Bytes of a stream go to its set. -/
def State.nvPush (s : State) (n : Nat) (r : StRec) : State :=
  let d := s.plan O.stNvSet n
  let x := s.stream n
  let base := s.reg O.stNvOffset n + x.nvBuf
  let q := s.nvSet d
  let s := s.setNvSet d { q with ends := q.ends ++ r.ends.map (fun e => (base + e.1, e.2)) }
  let total := x.nvBuf + r.bytes.length
  ((s.setStream n { x with nvBuf := total }).nvDrain d n (total / 65536 + 1)).nvFull d

/-- The set is closed once its last Write and a catalogue write in progress have completed (R379). -/
def State.nvClose (s : State) (d : Nat) : State :=
  let s := s.setNvSet d { s.nvSet d with closing := true }
  if s.nvCmds.any (fun c => c.set == d && c.op == 1) ∨ (s.nvSet d).cat ≠ none then s else s.nvCatalogue d 2

/-- A stream to a set stops: its last Write ends at the next LBA boundary, then the set is closed. -/
def State.nvStop (s : State) (n : Nat) : State :=
  let d := s.plan O.stNvSet n
  let x := s.stream n
  if s.reg O.nvSetState d ≠ 1 then s else
  let s := if x.nvBuf = 0 ∨ s.plan O.nvStripe d = 0 ∨ s.plan O.nvMembers d = 0 then s
    else (s.setStream n { x with nvBuf := 0 }).nvSubmit d n x.nvBuf
  s.nvClose d

/-- A set fails at a command (R381): a Flush that fails on member 0 leaves the slot being written invalid. The catalogue with
STATE 4 covers what was flushed before. -/
def State.nvFail (s : State) (c : NvCmd) : State :=
  let d := c.set
  let s := (s.setReg O.nvCtrlState 3 c.ctrl).raise 0x7A2 (c.ctrl + 256 * 3)
  let s := { s with nvCmds := s.nvCmds.filter (fun q => q.set != d) }.setReg O.nvSetState 3 d
  let x := s.nvSet d
  let half := match x.cat with | some q => q.put | none => false
  let s := s.setNvSet d { x with closing := false, cat := none, cut := x.cut || half }
  let first := ((x.run.members.head?).map nvCtrlOf).getD 8
  let s := if s.reg O.nvCtrlState first = 2 then s.nvCatPut d 4 x.run.done else s
  let s := match planSetStream s.active d with
    | none => s
    | some n =>
      ((s.setReg O.stState 3 n).setStream n { s.stream n with items := [], ready := [], nvBuf := 0 }).stEvent n 4
  s.fault (0x68 + d) c.ctrl

/-- The oldest command outstanding on a controller, and the others. -/
def oldestOf (ctrl : Nat) : List NvCmd → Option (NvCmd × List NvCmd)
  | [] => none
  | c :: cs => if c.ctrl = ctrl then some (c, cs) else (oldestOf ctrl cs).map (fun r => (r.1, c :: r.2))

/-- A failed Write or Flush: retried once, then its set fails (R381). -/
def State.nvBad (s : State) (ctrl : Nat) : State :=
  match oldestOf ctrl s.nvCmds with
  | none => s
  | some (c, rest) =>
    let s := (s.bumpSat O.nvCtrlErrors ctrl).emit (.nvme ctrl 0x102 0 0)
    if c.again then { s with nvCmds := rest }.nvFail c
    else { s.emit (.nvme ctrl c.op c.lba c.len) with nvCmds := { c with again := true } :: rest }

/-- NV_CMD_COMPLETE (R380, R381): the controller's oldest command completes. -/
def execNvCmdComplete (ctrl : Fin 8) (ok : Bool) (s : State) : Result :=
  if !ok then .next (s.nvBad ctrl.val)
  else match oldestOf ctrl.val s.nvCmds with
    | none => .next s
    | some (c, rest) =>
      let s := { s with nvCmds := rest }
      let s := s.nvCatStep c.set
      .next ((if (s.nvSet c.set).closing then s.nvClose c.set else s).nvFull c.set)

/-- NV_CMD_TIMEOUT (R381): a Write or Flush not completed within `NV_TIMEOUT_MS` counts as failed. -/
def execNvCmdTimeout (ctrl : Fin 8) (s : State) : Result := .next (s.nvBad ctrl.val)

/-- NV_CATALOGUE_WRITE (R379). -/
def execNvCatalogueWrite (d : Fin 8) (s : State) : Result :=
  let x := s.nvSet d.val
  if s.reg O.nvSetState d.val = 1 ∧ x.closing = false ∧ x.cat = none then .next (s.nvCatalogue d.val 1) else .next s

/-- `NV_TRIM_CMD` (R381): every extent of the set is deallocated. -/
def actNvTrim (d v : Nat) : Act := onlyOne v <| reaching 35 fun s =>
  let named := fun p => (planSetStream p d).isSome
  if named s.active || (s.awaiting.map named).getD false || (s.armed.map named).getD false then .error Abort.busy
  else .ok ((List.range (s.plan O.nvMembers d)).foldl (fun s i =>
    s.emit (.nvme (s.nvCtrl d i) 9 (s.plan O.nvMStart d i) (s.plan O.nvMCount d i * 2 ^ s.nvShift d i))) s)

/-- NV_TRIM_CMD (R381). -/
def execNvTrimCmd (m : Master) (d : Fin 8) (value : Nat) (s : State) : Result :=
  s.command m O.nvTrimCmd value (actNvTrim d.val value)

/-- NV_SMART_POLL (R376). -/
def execNvSmartPoll (ctrl : Fin 8) (temp : BitVec 32) (warn : Byte) (s : State) : Result :=
  if s.reg O.nvCtrlState ctrl.val = 2 then
    let s := ((s.emit (.nvme ctrl.val 0x102 0 0)).setReg O.nvCtrlTemp temp.toNat ctrl.val).setReg O.nvCtrlWarn warn.toNat ctrl.val
    .next (if warn = 0 then s else s.raise 0x7A3 (ctrl.val + 256 * warn.toNat))
  else .next s

/-- One controller found (R375, R376): Identify, then for one that is used Set Features and a pair of queues for each granted. -/
def State.nvFound (s : State) (i : Nat) (f : NvFound) : State :=
  let s := s.emit (.nvme i 0x106 0 0)
  if f.qualifies then
    let s := (List.range (min 16 f.queues.toNat)).foldl (fun s _ => (s.emit (.nvme i 0x105 0 0)).emit (.nvme i 0x101 0 0)) (s.emit (.nvme i 0x109 0 0))
    let s := (s.setReg O.nvCtrlQueues f.queues.toNat i).setReg O.nvCtrlMdts f.mdts.toNat i
    ((s.setHidden H.lbaShift f.lbaShift.val i).setReg O.nvCtrlState 2 i).raise 0x7A2 (i + 256 * 2)
  else (s.setReg O.nvCtrlState 3 i).raise 0x7A2 (i + 256 * 3)

/-- NV_ENUMERATE (R375): once after `DR_READY`; the controllers in ascending order, at most eight. -/
def execNvEnumerate (found : List NvFound) (s : State) : Result :=
  if s.reg O.drState = 2 ∧ s.hidden H.enumerated = 0 then
    .next (((found.take 8).zipIdx).foldl (fun s f => s.nvFound f.2 f.1) (s.setHidden H.enumerated 1))
  else .next s

end Sys2Proof.Machine
end

