-- ==== Sys2Proof/Machine/Streams.lean ====
section
/-! DEFINITION. Streams: native records, VDIF frames, host rings and UDP (spec 16_streams.md, R365 to R374). -/

namespace Sys2Proof.Machine

namespace H
/-- turn of the next record of a stream (R374) -/
def turn : Nat := 422
end H

/-! ### Where a stream reads and writes -/

/-- Scheduler port that fills a stream's staging ring (Table 16.5); a ring source's copy uses its destination's port. -/
def State.stagePort (s : State) (n : Nat) : Nat :=
  match s.plan O.stSrcKind n with
  | 1 => n % 4
  | 2 => n % 4
  | 3 => 4
  | _ => 7 + s.plan O.stDest n

/-- A stream runs: it waits for its destination at most. -/
def State.streaming (s : State) (n : Nat) : Bool := s.reg O.stState n == 1 || s.reg O.stState n == 2

/-- Bytes that wait for the destination. -/
def Stream.waiting (x : Stream) : Nat := (x.ready.map (fun r => r.bytes.length)).foldl (· + ·) 0

/-- A loss (R369): counted, marked on the next record, and the event of kind 3 after 1 s without one. -/
def State.streamLost (s : State) (n k : Nat) : State :=
  let x := s.stream n
  let s := (s.bumpSat O.stLost n 0 k).setStream n { x with flags := x.flags ||| 2 }
  s.raiseRare (0x780 + n) (s.stData n 3)

/-- Size of a ring source's ring; 0 for a live source. -/
def State.srcRing (s : State) (n : Nat) : Nat :=
  let i := s.plan O.stSrc n
  match s.plan O.stSrcKind n with
  | 4 => s.plan O.aqRingSize i
  | 5 => s.plan O.aqFacetSize i
  | 6 => s.plan O.ticRingSize i
  | 7 => s.plan O.msRingSize
  | 8 => s.plan O.bnRecSize i
  | _ => 0

/-- A byte of a list with a bit set. -/
def orByte (l : List Byte) (i : Nat) (m : Byte) : List Byte := l.modify i (fun b => b ||| m)

/-- A record is read back from its staging ring through the destination's port (R342, R369, Table 16.7): a poisoned one
carries POISON in a native header, or invalid in a VDIF header. -/
def State.readBack (s : State) (n : Nat) (r : StRec) : List Byte × State :=
  let size := s.plan O.stRingSize n
  let port := 7 + s.plan O.stDest n
  if size = 0 then (r.bytes, s) else
  let x := s.stream n
  let base := s.plan O.stRingBase n
  let off := (x.ringPtr + size - x.waiting % size) % size
  let a := s.readPort port (base + off) (min r.bytes.length (size - off))
  let b := a.2.2.readPort port base (r.bytes.length - (size - off))
  let got := a.1 ++ b.1
  let bad := a.2.1 || b.2.1
  let got := if !bad then got
    else if s.plan O.stFormat n = 1 then orByte got 3 0x80
    else if s.plan O.stFormat n = 0 then orByte got 24 4 else got
  (got, b.2.2)

/-! ### Host rings (R372, R373) -/

/-- The SKIP header of stream `n` (R372); of fewer than 64 bytes left, it fills those (DESIGN CHOICE, log entry 122). -/
def skipHeader (n : Nat) : List Byte := leBytes (16 * 2 ^ 192 + n * 2 ^ 147 + 0x51535231 * 2 ^ 64) 64

/-- Room that a record takes of the ring: with the bytes it leaves unused at the end. -/
def ringNeed (raw : Bool) (size wp len : Nat) : Nat :=
  if raw || decide (wp + len ≤ size) then len else size - wp + len

/-- Write one record to the host ring. -/
def State.hostPut (s : State) (n : Nat) (bs : List Byte) : State :=
  let base := s.plan O.stHostBase n
  let size := s.plan O.stHostSize n
  let x := s.stream n
  let len := bs.length
  let fits := decide (x.wp + len ≤ size)
  let raw := s.plan O.stFormat n == 2
  let s :=
    if fits then s.emit (.hostWrite (base + x.wp) bs)
    else if raw then
      (s.emit (.hostWrite (base + x.wp) (bs.take (size - x.wp)))).emit (.hostWrite base (bs.drop (size - x.wp)))
    else (s.emit (.hostWrite (base + x.wp) ((skipHeader n).take (size - x.wp)))).emit (.hostWrite base bs)
  let wp := if fits then (x.wp + len) % size else if raw then (x.wp + len) % size else len % size
  let s := (s.emit (.hostWrite (s.plan O.stHostWpAddr n) (leBytes wp 8))).bump O.stBytes n 0 len
  let due := s.plan O.stEvtBytes n
  let ev := x.evtBytes + len
  if due ≠ 0 ∧ due ≤ ev then (s.setStream n { s.stream n with wp := wp, evtBytes := 0 }).stEvent n 2
  else s.setStream n { s.stream n with wp := wp, evtBytes := ev }

/-- Whether the host ring takes a record now. -/
def State.hostTakes (s : State) (n len : Nat) : Bool :=
  let size := s.plan O.stHostSize n
  let x := s.stream n
  s.hidden H.hostUp == 1 && s.reg O.frSafe == 0 && size != 0 &&
    (s.plan O.stHostMode n == 0 ||
      decide ((x.wp + size - x.rp % size) % size + ringNeed (s.plan O.stFormat n == 2) size x.wp len < size))

/-- Drop the record at the front. -/
def Stream.pop (x : Stream) : Stream := { x with ready := x.ready.drop 1 }

/-- Drain what waits to a host ring or a drive set; `fuel` bounds the records. -/
def State.streamDrain (s : State) (n : Nat) : Nat → State
  | 0 => s
  | f + 1 =>
    match (s.stream n).ready with
    | [] => if s.reg O.stState n = 2 then s.setReg O.stState 1 n else s
    | r :: _ =>
      match s.plan O.stDest n with
      | 0 =>
        if s.hostTakes n r.bytes.length then
          let b := s.readBack n r
          ((b.2.setStream n (b.2.stream n).pop).hostPut n b.1).streamDrain n f
        else if s.reg O.stState n = 1 then (s.setReg O.stState 2 n).stEvent n 6 else s
      | 1 =>
        if s.reg O.stState n = 1 then
          let b := s.readBack n r
          (((b.2.setStream n (b.2.stream n).pop).bump O.stBytes n 0 r.bytes.length).nvPush n { r with bytes := b.1 }).streamDrain n f
        else s
      | _ => s

/-- Everything that waits is offered to the destination. -/
def State.streamOut (s : State) (n : Nat) : State := s.streamDrain n ((s.stream n).ready.length + 1)

/-- A record, frame or raw item is ready, after those of every stream before it (R374): through the staging ring where there is one
(R366, R369). -/
def State.stage (s : State) (n : Nat) (r : StRec) : State :=
  let r := { r with turn := s.hidden H.turn }
  let s := s.setHidden H.turn (r.turn + 1)
  let x := s.stream n
  let size := s.plan O.stRingSize n
  if size ≠ 0 then
    if size < x.waiting + r.bytes.length then s.streamLost n 1
    else
      let w := s.writeRing (s.stagePort n) (s.plan O.stRingBase n) size x.ringPtr r.bytes
      (w.1.setStream n { x with ringPtr := w.2, ready := x.ready ++ [r] }).streamOut n
  else
    let s := (s.setStream n { x with ready := x.ready ++ [r] }).streamOut n
    let y := s.stream n
    let ring := s.srcRing n
    if ring ≠ 0 ∧ ring < y.waiting then
      (s.setStream n { y with ready := [] }).streamLost n ((y.ready.map (·.count)).foldl (· + ·) 0)
    else s

/-! ### Native records (R368) -/

/-- What a record takes from the waiting items. -/
structure Taken where
  /-- payload -/
  payload : List Byte := []
  /-- items left -/
  rest : List Item := []
  /-- payload offset and item of the first that begins -/
  first : Option (Nat × Item) := none
  /-- items that begin -/
  begins : Nat := 0
  /-- items that end: payload offset after the item, T96 -/
  ends : List (Nat × Nat) := []
  /-- bytes read from poisoned lines -/
  poison : Bool := false

/-- Take items into a room of bytes. -/
def takeItems (room : Nat) (acc : Taken) : List Item → Taken
  | [] => acc
  | i :: is =>
    let off := acc.payload.length
    if room ≤ off then { acc with rest := i :: is }
    else
      let n := min i.bytes.length (room - off)
      let a : Taken := { acc with
        payload := acc.payload ++ i.bytes.take n
        first := if i.begun then acc.first else (match acc.first with | some f => some f | none => some (off, i))
        begins := acc.begins + b2n (!i.begun)
        poison := acc.poison || i.poison }
      if n < i.bytes.length then { a with rest := { i with bytes := i.bytes.drop n, begun := true } :: is }
      else takeItems room { a with ends := a.ends ++ [(off + n, i.t96)] } is

/-- Table 16.6 as a bit pattern. -/
def State.recHeader (s : State) (n : Nat) (index t96 len firstItem items flags crc : Nat) : Nat :=
  index * 2 ^ 448 + t96 * 2 ^ 352 + s.reg O.stRecSeq n * 2 ^ 288 + len * 2 ^ 256 + firstItem * 2 ^ 224 +
  items % 2 ^ 16 * 2 ^ 208 + flags * 2 ^ 192 + s.reg O.planGen % 2 ^ 16 * 2 ^ 176 + s.plan O.stSrcKind n * 2 ^ 172 +
  s.plan O.stSrc n % 2 ^ 20 * 2 ^ 152 + n * 2 ^ 147 + crc * 2 ^ 96 + 0x51535231 * 2 ^ 64

/-- Close one record from the items that wait. -/
def State.closeRecord (s : State) (n : Nat) : State :=
  let x := s.stream n
  match x.items with
  | [] => s
  | i :: _ =>
    let t := takeItems (s.plan O.stRecMax n - 64) {} x.items
    let named := match t.first with | some f => f.2 | none => i
    let flags := x.flags ||| flagIf t.poison 4 ||| flagIf i.begun 8
    let crc := if s.plan O.stCrc n = 1 then crc32 t.payload else 0
    let len := t.payload.length
    let h := s.recHeader n named.index named.t96 len (match t.first with | some f => f.1 | none => 0xFFFFFFFF) t.begins flags crc
    let bytes := leBytes h 64 ++ t.payload ++ List.replicate ((64 - len % 64) % 64) 0
    let s := (s.setStream n { x with items := t.rest, flags := 0 }).bump O.stRecSeq n
    s.stage n { bytes := bytes, ends := t.ends.map (fun e => (64 + e.1, e.2)), count := t.begins }

/-- Payload bytes that wait. -/
def Stream.total (x : Stream) : Nat := (x.items.map (fun i => i.bytes.length)).foldl (· + ·) 0

/-- Close records until no item waits; `fuel` bounds them. -/
def State.closeAll (s : State) (n : Nat) : Nat → State
  | 0 => s
  | f + 1 => if (s.stream n).items.isEmpty then s else (s.closeRecord n).closeAll n f

/-- The stream stops: nothing more is taken, and its destination is finished. -/
def State.streamEnd (s : State) (n : Nat) : State :=
  let s := (s.setStream n { s.stream n with items := [] }).setReg O.stState 0 n
  if s.plan O.stDest n = 1 then s.nvStop n else s

/-- ST_RECORD_CLOSE (R368): the record is full; the record of a stream that stops closes in `streamStop`. -/
def execStRecordClose (st : Fin 32) (s : State) : Result :=
  let n := st.val
  if !s.streaming n then .next s
  else if s.plan O.stFormat n = 0 ∧ s.plan O.stRecMax n - 64 ≤ (s.stream n).total then .next (s.closeRecord n)
  else .next s

/-- ST_FLUSH_TIMEOUT (R368): `ST_FLUSH_US` after its first payload byte the record closes. -/
def execStFlushTimeout (st : Fin 32) (s : State) : Result :=
  let n := st.val
  if s.streaming n ∧ s.plan O.stFormat n = 0 then .next (s.closeRecord n) else .next s

/-! ### Sources (R366) -/

/-- The unit that `ST_SRC` names: of an engine's word the fields of Table 16.5 alone. -/
def srcUnit (kind v : Nat) : Nat := if kind = 3 then bits v 1 0 + 256 * bits v 12 8 + 65536 * bits v 19 16 else v

/-- A stream takes items of a source. -/
def State.takesFrom (s : State) (n kind src : Nat) : Bool :=
  s.streaming n && s.plan O.stSrcKind n == kind && srcUnit kind (s.plan O.stSrc n) == src

/-- An item of a source for one stream: raw items go on as they stand, native ones wait for their record. -/
def State.streamTake (s : State) (n : Nat) (i : Item) : State :=
  match s.plan O.stFormat n with
  | 2 => s.stage n { bytes := i.bytes, ends := [(i.bytes.length, i.t96)] }
  | 0 => s.setStream n { s.stream n with items := (s.stream n).items ++ [i] }
  | _ => s

/-- An item of a live source reaches every stream that takes it, from the first that begins at or after its commit tick (R366). -/
def State.streamItem (s : State) (kind src : Nat) (i : Item) : State :=
  (List.range 32).foldl (fun s n =>
    if s.takesFrom n kind src && decide ((s.stream n).startI ≤ i.index) then s.streamTake n i else s) s

/-- An index epoch begins: every item begins after the commits before it. -/
def State.streamEpoch (s : State) : State :=
  (List.range 32).foldl (fun s n => if (s.stream n).startI = 0 then s else s.setStream n { s.stream n with startI := 0 }) s

/-- An item that a writer has put into its ring at an offset and published: each stream that follows the ring reads it
through its destination's port (R366, Table 1.5). -/
def State.streamRing (s : State) (kind src base size off len index t96 : Nat) : State :=
  (List.range 32).foldl (fun s n =>
    if s.takesFrom n kind src then
      let port := 7 + s.plan O.stDest n
      let a := s.readPort port (base + off) (min len (size - off))
      let b := a.2.2.readPort port base (len - (size - off))
      b.2.2.streamTake n { bytes := a.1 ++ b.1, index := index, t96 := t96, poison := a.2.1 || b.2.1 }
    else s) s

/-! ### VDIF (R370, R371) -/

/-- POSIX time of a VDIF reference epoch. -/
def vdifEpoch (e : Nat) : Nat :=
  let y := e / 2
  let leap := b2n (decide (y % 4 = 0))
  (10957 + 365 * y + (y + 3) / 4 + (if e % 2 = 1 then 181 + leap else 0)) * 86400

/-- Little-endian 16-bit values to offset binary: their top bits inverted (R370). -/
def offsetBinary : List Byte → List Byte
  | lo :: hi :: r => lo :: (hi ^^^ 0x80) :: offsetBinary r
  | l => l

/-- Sample rate of a stream's source in Hz at `FROOT_ACTUAL` (R371): inputs at fROOT, slices by their decimation. -/
def State.srcRate (s : State) (n : Nat) : Rat :=
  if s.plan O.stSrcKind n = 2 then s.froot / ((2 ^ s.plan O.ddcK (s.plan O.stSrc n) : Nat) : Rat) else s.froot

/-- Samples per frame. -/
def State.vdifP (s : State) (n : Nat) : Nat := s.plan O.vdPayload n / (if s.plan O.stSrcKind n = 2 then 4 else 2)

/-- Header words 0 to 3 of frame j (Table 16.7). -/
def State.vdifHeader (s : State) (n j : Nat) (invalid : Bool) : List Byte :=
  let f := (s.srcRate n / ((s.vdifP n : Nat) : Rat)).floor.toNat
  let e := s.plan O.vdRefEpoch n
  let sec : Int := ((s.stream n).vdS : Int) - toI 16 (s.plan O.ptpUtcOffset) - vdifEpoch e + j / f
  let complex := decide (s.plan O.stSrcKind n = 2)
  leBytes (b2n invalid * 2 ^ 31 + ofI 30 sec) 4 ++ leBytes (e * 2 ^ 24 + j % f % 2 ^ 24) 4 ++
    leBytes ((32 + s.plan O.vdPayload n) / 8) 4 ++
    leBytes (b2n complex * 2 ^ 31 + 15 * 2 ^ 26 + s.plan O.vdThread n * 2 ^ 16 + s.plan O.vdStation n) 4 ++ leBytes 0 16

/-- Samples of a live item for the VDIF streams of its source (R371): `w` bytes a sample after a header of `hdr` bytes, sample j at
time `time j`; those before n0 are left out. `bad`: one of them carries a mark of Table 16.7. -/
def State.vdifItem (s : State) (kind src hdr w : Nat) (bad : Bool) (time : Nat → Nat) (i : Item) : State :=
  (List.range 32).foldl (fun s n =>
    if s.takesFrom n kind src && s.plan O.stFormat n == 1 then
      let x := s.stream n
      let body := i.bytes.drop hdr
      let skip := if x.vdOn then some 0 else (List.range (body.length / w)).find? (fun j => decide (x.vdS * T96.second ≤ time j))
      match skip with
      | some j => s.setStream n { x with vdOn := true, items := x.items ++ [{ i with bytes := body.drop (j * w), poison := bad }] }
      | none => s
    else s) s

/-- ST_VDIF_FRAME (R370, R371): the samples of a frame have come. -/
def execStVdifFrame (st : Fin 32) (s : State) : Result :=
  let n := st.val
  let x := s.stream n
  let p := s.plan O.vdPayload n
  if s.streaming n ∧ s.plan O.stFormat n = 1 ∧ p ≠ 0 ∧ p ≤ x.total then
    let t := takeItems p {} x.items
    let frame := s.vdifHeader n x.vdJ t.poison ++ offsetBinary t.payload
    let s := (s.setStream n { x with items := t.rest, vdJ := x.vdJ + 1 }).bump O.stRecSeq n
    .next (s.stage n { bytes := frame, ends := t.ends.map (fun e => (32 + e.1, e.2)), count := t.begins })
  else .next s

/-- The first whole second at or after a time in 2^-16 ns. -/
def secondFrom (t : Nat) : Nat := (t + T96.second - 1) / T96.second

/-- Framing of a stream starts again at the first whole second at or after a time (R371). -/
def State.vdifAt (s : State) (n t : Nat) : State :=
  s.setStream n { s.stream n with vdS := secondFrom t, vdJ := 0, vdOn := false, items := [] }

/-- Framing starts again for the VDIF streams of a source. -/
def State.vdifRestart (s : State) (kind src t : Nat) : State :=
  (List.range 32).foldl (fun s n =>
    if s.takesFrom n kind src && s.plan O.stFormat n == 1 then s.vdifAt n t else s) s

/-- As `vdifRestart`, for every VDIF stream, now. -/
def State.vdifRestartAll (s : State) : State :=
  (List.range 32).foldl (fun s n => if s.streaming n && s.plan O.stFormat n == 1 then s.vdifAt n s.nowTicks else s) s

/-! ### Host polling and UDP -/

/-- Deliver from what a stopped stream left, under the plan that ran it (R78): `f` acts on stream `n` of the state it is given. -/
def State.fromDrain (s : State) (n : Nat) (d : Drain) (f : State → State) : State :=
  let t := f ({ s with active := d.plan }.setStream n d.left)
  let left := t.stream n
  let rest := s.drains.erase d
  { t.setStream n (s.stream n) with
    active := s.active, drains := if left.ready.isEmpty then rest else { d with left := left } :: rest }

/-- The oldest of what stream `n` left for a kind of destination. -/
def State.drainOf (s : State) (n dest : Nat) : Option Drain :=
  s.drains.find? (fun d => d.stream == n && planVal d.plan O.stDest n == dest)

/-- Records left go to the host ring as it takes them; `fuel` bounds them. -/
def State.hostLeft (s : State) (n : Nat) : Nat → State
  | 0 => s
  | f + 1 =>
    match (s.stream n).ready with
    | [] => s
    | r :: _ =>
      if s.hostTakes n r.bytes.length then
        let b := s.readBack n r
        ((b.2.setStream n (b.2.stream n).pop).hostPut n b.1).hostLeft n f
      else s

/-- ST_HOST_RP_POLL (R373): the consumer offset as read from host memory, for what a commit left first (log entry 176). -/
def execStHostRpPoll (st : Fin 32) (consumer : Nat) (s : State) : Result :=
  let n := st.val
  match s.drainOf n 0 with
  | some d =>
    let d' := { d with left := { d.left with rp := consumer } }
    .next ({ s with drains := s.drains.map (fun e => if e = d then d' else e) }.fromDrain n d' (·.hostLeft n (d.left.ready.length + 1)))
  | none =>
    if s.plan O.stDest n = 0 ∧ s.plan O.stHostMode n = 1 ∧ s.hidden H.hostUp = 1 ∧ s.reg O.stState n ≠ 3 then
      .next ((s.setStream n { s.stream n with rp := consumer }).streamOut n)
    else .next s

/-- The turn of the record that a stream sends next to a port by UDP. -/
def State.udpTurn (s : State) (p n : Nat) : Option Nat :=
  match s.drainOf n 2 with
  | some d => if planVal d.plan O.stUdpEth n = p then (d.left.ready.head?).map (·.turn) else none
  | none => if s.plan O.stDest n = 2 ∧ s.plan O.stUdpEth n = p then ((s.stream n).ready.head?).map (·.turn) else none

/-- The record at the front of a stream goes as one datagram (R374), while its port is up and not held by the safe state and no
record that was ready before it waits for that port. -/
def State.udpSend (s : State) (n : Nat) (first : Nat → Nat → Bool) : State :=
  match (s.stream n).ready with
  | [] => s
  | r :: _ =>
    let p := s.plan O.stUdpEth n
    if s.plan O.stDest n = 2 ∧ s.reg O.ethLink p ≠ 0 ∧ s.reg O.frSafe = 0 ∧ first p r.turn then
      let b := s.readBack n r
      let v6 := s.plan O.stUdpIpv6 n == 1
      let ip := if v6 then s.plan O.stUdpDstIpHi n * 2 ^ 64 + s.plan O.stUdpDstIpLo n else s.plan O.stUdpDstIpLo n % 2 ^ 32
      let s := (b.2.setStream n (b.2.stream n).pop).bump O.stBytes n 0 r.bytes.length
      s.emit (.udp p (s.plan O.stUdpDstMac n) v6 ip (s.plan O.stUdpPorts n) (s.plan O.stUdpDscp n) b.1)
    else s

/-- ST_UDP_SEND (R374). -/
def execStUdpSend (st : Fin 32) (s : State) : Result :=
  let n := st.val
  let first := fun p turn => (List.range 32).all (fun m => match s.udpTurn p m with | some v => decide (turn ≤ v) | none => true)
  match s.drainOf n 2 with
  | some d => .next (s.fromDrain n d (·.udpSend n first))
  | none => .next (s.udpSend n first)

/-! ### Commits -/

/-- A stream starts at a commit tick (R366, R371, R379). -/
def State.streamStart (s : State) (n : Nat) : State :=
  let s := s.setStream n { startT := s.now, startI := s.idx, vdS := secondFrom s.nowTicks }
  let s := ((s.setReg O.stState 1 n).setReg O.stRecSeq 0 n).stEvent n 1
  if s.plan O.stDest n = 1 then s.nvOpen (s.plan O.stNvSet n) n else s

/-- A stream stops with the record in progress (R79, R368), called while the plan that ran it is still active; what waits then
drains (R78). -/
def State.streamStop (s : State) (n : Nat) : State :=
  if !s.streaming n then s.setReg O.stState 0 n
  else
    let s := if s.plan O.stFormat n = 0 then s.closeAll n ((s.stream n).total / (s.plan O.stRecMax n - 64) + 2) else s
    let x := s.stream n
    let s := if x.ready.isEmpty then s
      else { s.setStream n { x with ready := [] } with drains := s.drains ++ [⟨n, s.active, { x with items := [] }⟩] }
    s.streamEnd n

/-- A stream stops at once, with what it left: the safe state, or an isolated drive set. -/
def State.streamKill (s : State) (n : Nat) : State :=
  let s := { s with drains := s.drains.filter (fun d => d.stream != n) }
  if s.reg O.stState n = 0 then s
  else (s.setStream n { s.stream n with items := [], ready := [] }).streamEnd n

/-- The streams to host memory hold: their host is gone (R382). -/
def State.streamsHold (s : State) : State :=
  (List.range 32).foldl (fun s n =>
    if s.plan O.stDest n = 0 ∧ s.reg O.stState n = 1 then (s.setReg O.stState 2 n).stEvent n 6 else s) s

/-- The host is back: what waits is offered to it again. -/
def State.streamsBack (s : State) : State :=
  (List.range 32).foldl (fun s n =>
    let s := match s.drainOf n 0 with
      | some d => s.fromDrain n d (·.hostLeft n (d.left.ready.length + 1))
      | none => s
    if s.plan O.stDest n = 0 ∧ s.reg O.stState n = 2 then s.streamOut n else s) s

end Sys2Proof.Machine
end

