-- ==== Sys2Proof/Machine/Tagging.lean ====
section
/-! DEFINITION. Counter channels: comparators, edges, tag records, queues and loupe calibration
(spec 11_tagging.md). -/

namespace Sys2Proof.Machine

namespace H
/-- comparator of TINn asserted, as the counter sees it (R237) -/
def comp : Nat := 200
/-- calibrated path latency d of R242, 2^-16 ns, by 8 × channel + source -/
def tagLat : Nat := 201
/-- the root frequency that the loupe tables are scaled to, Hz as binary64, 0 before the first epoch (R256) -/
def loupeHz : Nat := 202
end H

/-- Tag flags of Table 11.4, as bits of the record's FLAGS field. -/
def TG.pairMerge : Nat := 1
/-- DEC_CHANGE -/
def TG.decChange : Nat := 2
/-- QUEUE_OVF -/
def TG.queueOvf : Nat := 4
/-- UNDECIDED -/
def TG.undecided : Nat := 8
/-- CLK_UNQUAL -/
def TG.clkUnqual : Nat := 16
/-- TIME_UNSET -/
def TG.timeUnset : Nat := 32
/-- LOUPE_STEP -/
def TG.loupeStep : Nat := 64
/-- START -/
def TG.start : Nat := 128

/-- A channel's state. -/
def State.chan (s : State) (n : Nat) : Chan := Map.get s.chans {} n
/-- Set it. -/
def State.setChan (s : State) (n : Nat) (c : Chan) : State := { s with chans := Map.put s.chans {} n c }
/-- A slot's state. -/
def State.slot (s : State) (n : Nat) : Slot := Map.get s.slots {} n
/-- Set it. -/
def State.setSlot (s : State) (n : Nat) (c : Slot) : State := { s with slots := Map.put s.slots {} n c }

/-- Event number k of a channel (R259). -/
def ticEvent (n k : Nat) : Nat := 0x600 + 0x10 * n + k

/-- The nominal increment of R302, in 2^-64 ns. -/
def State.incNom (s : State) : Nat := (rne ((32000000000 * 2 ^ 64 : Nat) / s.froot)).toNat

/-- The fC period t_c of R253, in 2^-16 ns. -/
def State.fcPeriod (s : State) : Rat := (8000000000 * 65536 : Nat) / s.froot

/-- Entry of an interpolator's loupe table, in 2^-16 ns (R258). -/
def State.loupe (s : State) (n ip code : Nat) : Nat :=
  ofLe (((s.dom O.loupeTable (16 * n + ip)).drop (4 * code)).take 4) % 2 ^ 20

/-! ### Fields of a tag record (Table 11.3) -/

/-- A tag record. -/
def tagRecord (ticks ch : Nat) (rising : Bool) (k flags seq : Nat) : Nat :=
  T96.ofTicks ticks * 2 ^ 32 + ch * 2 ^ 29 + b2n rising * 2 ^ 28 + k * 2 ^ 24 + flags * 2 ^ 16 + seq % 65536
/-- T96 of a record, as a count of 2^-16 ns. -/
def tagTicks (r : Nat) : Nat := T96.toTicks (r >>> 32)
/-- K -/
def tagK (r : Nat) : Nat := bits r 27 24
/-- FLAGS -/
def tagFlags (r : Nat) : Nat := bits r 23 16
/-- SEQ -/
def tagSeq (r : Nat) : Nat := bits r 15 0
/-- POLARITY -/
def tagRising (r : Nat) : Bool := bit r 28

/-! ### The queue (R251) -/

/-- `TIC_MIN_SPACING`: 6.0 ns over the active interpolators (Table 11.9); with none it keeps its value. -/
def State.setSpacing (s : State) (n : Nat) : State :=
  let a := (s.chan n).turn.length
  if a = 0 then s else s.setReg O.ticMinSpacing (toF64 (6 / (a : Rat))) n

/-- Whether a slot takes points of a channel now, and as A or B. -/
def State.takesPoints (s : State) (sl ch : Nat) : Bool × Bool :=
  let f := s.plan O.msFunc sl
  let live := s.plan O.msEnable sl == 1 && (s.reg O.msState sl == 2 || s.reg O.msState sl == 3 || !(s.slot sl).closed.isEmpty)
  (live && s.plan O.msChanA sl == ch, live && (f == 3 || f == 4) && s.plan O.msChanB sl == ch)

/-- A record leaves the queue: to the solver's slots, to the ring of the plan it was taken under and to the streams that read
it (R78, R251, R366). -/
def State.deliverTag (s : State) (n : Nat) (q : QTag) : State :=
  let s := (List.range 16).foldl (fun s sl =>
    let t := s.takesPoints sl n
    if t.1 || t.2 then
      let x := s.slot sl
      s.setSlot sl { x with ptsA := if t.1 then x.ptsA ++ [q.tag] else x.ptsA, ptsB := if t.2 then x.ptsB ++ [q.tag] else x.ptsB }
    else s) (s.setChan n { s.chan n with newest := some q.tag })
  if q.size = 0 then s else
    let w := s.writeRing 4 q.base q.size q.off (leBytes q.tag 16)
    let s := if q.run = (s.chan n).ringRun then w.1.setReg O.ticRingWritePtr w.2 n else w.1
    s.streamRing 6 n q.base q.size q.off 16 0 (q.tag >>> 32)

/-- The records of a queue that have left by a root-cycle position, and what stays: the position from which its front leaves,
the records gone since, and the queue. Each record leaves at its own plan's declared rate (R78, R251). -/
def drainOut (froot : Rat) (now : Nat) : Nat → Nat → List QTag → List QTag × Nat × Nat × List QTag
  | since, k, [] => ([], since, k, [])
  | since, k, q :: qs =>
    let at_ := since + (((k + 1 : Nat) : Rat) * froot / f64 q.rate).ceil.toNat
    if at_ ≤ now then
      let same := (qs.headD q).rate == q.rate
      let r := drainOut froot now (if same then since else at_) (if same then k + 1 else 0) qs
      (q :: r.1, r.2)
    else ([], since, k, q :: qs)

/-- A queue drains up to the present tick. -/
def State.drainTags (s : State) (n : Nat) : State :=
  let c := s.chan n
  match c.queue with
  | [] => s
  | _ =>
    let r := drainOut s.froot s.idx c.drainFrom c.drained c.queue
    let s := r.1.foldl (fun s q => s.deliverTag n q) s
    (s.setChan n { s.chan n with drainFrom := r.2.1, drained := r.2.2.1, queue := r.2.2.2 }).setReg O.ticQueueFill r.2.2.2.length n

/-- A commit gives a channel another ring: records queued before it go where the old plan had them go, and the new ring is
written from its start (R78; DESIGN CHOICE, log entry 147). -/
def State.ringMoves (s : State) (n : Nat) : State :=
  (s.setChan n { s.chan n with ringNext := 0, ringRun := (s.chan n).ringRun + 1 }).setReg O.ticRingWritePtr 0 n

/-- A record enters the queue, or is lost to a full one (R251). -/
def State.queueTag (s : State) (n r : Nat) : State :=
  let s := s.drainTags n
  let c := s.chan n
  if 8192 ≤ c.queue.length then
    ((s.bumpSat O.ticOverflow n).setChan n { c with marks := c.marks ||| (tagFlags r &&& 0xCF) ||| TG.queueOvf }).raiseRare
      (ticEvent n 1) (satAdd 32 (s.reg O.ticOverflow n) 1)
  else
    let size := s.plan O.ticRingSize n
    let q : QTag := { tag := r, rate := s.plan O.ticDeclRate n, base := s.plan O.ticRingBase n, size := size, off := c.ringNext,
                      run := c.ringRun }
    let c := if c.queue.isEmpty then { c with drainFrom := s.idx, drained := 0 } else c
    let c := { c with queue := c.queue ++ [q], marks := 0, ringNext := if size = 0 then 0 else (c.ringNext + 16) % size }
    let s := ((s.setChan n c).setReg O.ticQueueFill c.queue.length n).bump O.ticRecords n
    if tagFlags r &&& TG.pairMerge = 0 then s else s.raiseRare (ticEvent n 2) (tagSeq r)

/-! ### Edges (R242 to R246) -/

/-- The tag time: the coarse count less the loupe value and path latency, both scaled by the steering (R242). -/
def State.tagTime (s : State) (n ip stop code : Nat) : Nat :=
  let nom := s.incNom
  let fine := s.loupe n ip code + s.hidden H.tagLat (8 * n + s.plan O.ticSrc n)
  (rneDiv ((((s.tc * 4 + stop * s.inc) * nom : Nat) : Int) - ((4 * fine * 2 ^ 48 * s.inc : Nat) : Int)) (4 * nom * 2 ^ 48)).toNat

/-- The physical position of an edge within the epoch, in 2^-16 ns (R243). -/
def State.edgePos (s : State) (n ip stop code : Nat) : Nat :=
  (rne (((s.idx + 8 * stop : Nat) : Rat) * (1000000000 * 65536 : Nat) / s.froot)).toNat - s.loupe n ip code

/-- Whether an edge at a position is taggable (R243): 6.0 ns ÷ a after the previous tagged edge. -/
def taggable (c : Chan) (pos : Nat) : Bool :=
  !c.turn.isEmpty && (c.lastTag == 0 || decide (c.lastTag - 1 + 0 ≤ pos ∧ 6 * 65536 ≤ c.turn.length * (pos - (c.lastTag - 1))))

/-- A due edge is counted but not tagged (R243). -/
def State.mergeEdge (s : State) (n : Nat) : State :=
  (s.setChan n { s.chan n with marks := (s.chan n).marks ||| TG.pairMerge }).bumpSat O.ticMerged n

/-- A due edge is stamped, or counts as merged (R243). -/
def State.tagEdge (s : State) (n : Nat) (rising : Bool) (stop code : Nat) : State :=
  let c := s.chan n
  let ip := c.turn.headD 0
  let pos := s.edgePos n ip stop code
  if taggable c pos then
    let flags := c.marks ||| flagIf s.clkUnqual TG.clkUnqual ||| flagIf s.timeUnset TG.timeUnset
    let r := tagRecord (s.tagTime n ip stop code) n rising (s.reg O.ticK n) flags (s.reg O.ticCount n)
    (s.setChan n { c with turn := c.turn.drop 1 ++ [ip], lastTag := pos + 1 }).queueTag n r
  else s.mergeEdge n

/-- A pending exponent takes effect at a count that is a multiple under both (R246). -/
def State.changeK (s : State) (n : Nat) : State :=
  let c := s.chan n
  match c.pendK with
  | none => s
  | some p =>
    let k := s.reg O.ticK n
    if s.reg O.ticCount n % 2 ^ (max k p) = 0 then
      ((s.setReg O.ticK p n).setChan n { c with pendK := none, marks := c.marks ||| TG.decChange }).raise (ticEvent n 0)
        (p + 16 * k + 65536 * (s.reg O.ticCount n % 65536))
    else s

/-- A counted edge enters the count and the decision window, and may bring a pending exponent into force (R244, R246): `stop` is
the fC cycle of its stop edge after the tick. -/
def State.countOne (s : State) (n stop : Nat) : State :=
  let s := s.bump O.ticCount n
  let c := s.chan n
  (s.setChan n { c with inWindow := c.inWindow + 1, lastStop := s.idx / 8 + stop + 1 }).changeK n

/-- The edge just counted is due for tagging (R245). -/
def State.edgeDue (s : State) (n : Nat) : Bool := s.reg O.ticCount n % 2 ^ s.reg O.ticK n == 0

/-- A counted edge (R240, R242 to R246). -/
def State.countEdge (s : State) (n : Nat) (rising : Bool) (stop code : Nat) : State :=
  let s := s.countOne n stop
  if s.edgeDue n then s.tagEdge n rising stop code else s

/-- Whether a crossing falls into the hold-off of the last counted edge (R240). -/
def State.heldOff (s : State) (n stop : Nat) : Bool :=
  let c := s.chan n
  decide (s.plan O.ticSrc n = 0 ∧ 0 < s.plan O.tinHoldoff n ∧ 0 < c.lastStop ∧
    s.idx / 8 + stop + 2 ≤ c.lastStop + s.plan O.tinHoldoff n)

/-- Whether `TIC_POLARITY` counts an edge (R237). -/
def countsEdge (polarity : Nat) (rising : Bool) : Bool :=
  polarity == 2 || (polarity == 0 && rising) || (polarity == 1 && !rising)

/-- An edge of a channel's source. -/
def State.sourceEdge (s : State) (n : Nat) (rising : Bool) (stop code : Nat) : State :=
  if s.reg O.ticState n = 1 then
    if s.heldOff n stop then s.bumpSat O.tinHoldoffSupp n
    else if countsEdge (s.plan O.ticPolarity n) rising then s.countEdge n rising stop code
    else s
  else s

/-- The smallest exponent from `k`, of `f` more, that brings `e` edges to the declared tags `b` of a window. -/
def ktFrom (e : Nat) (b : Rat) : Nat → Nat → Nat
  | 0, k => k
  | f + 1, k => if (e : Rat) ≤ (2 ^ k : Nat) * b then k else ktFrom e b f (k + 1)

/-- TIC_DECISION_WINDOW (R246). -/
def execTicDecisionWindow (ch : Fin 8) (s : State) : Result :=
  let n := ch.val
  if s.reg O.ticState n = 1 then
    let c := s.chan n
    let e := c.inWindow
    let q := c.queue.length
    let k := s.reg O.ticK n
    let kmin := s.plan O.ticKMin n
    let kmax := s.plan O.ticKMax n
    let b : Rat := f64 (s.plan O.ticDeclRate n) * 4096 * 8 / s.froot
    let kt := ktFrom e b (kmax - kmin) kmin
    let kt := if 6144 < q then max kt (min (k + 1) kmax) else kt
    let c := { c with inWindow := 0 }
    if k < kt then .next (s.setChan n { c with pendK := some kt })
    else if kmin < k ∧ (e : Rat) ≤ (2 ^ (k - 1) : Nat) * b / 2 ∧ q < 2048 then
      if s.plan O.ticDecHold n ≤ c.calm + 1 then .next (s.setChan n { c with calm := 0, pendK := some (k - 1) })
      else .next (s.setChan n { c with calm := c.calm + 1 })
    else .next (s.setChan n { c with calm := 0 })
  else .next s

/-! ### Starting and stopping (R238, R256) -/

/-- A channel starts, or restarts: count 0, first record START, beside every mark that still waits for a record (R244, R249,
R256). -/
def State.chanStart (s : State) (n : Nat) : State :=
  let c := s.chan n
  let und := s.plan O.ticSrc n == 0 && s.reg O.ticUndecided n == 1
  let c := { c with marks := (c.marks &&& 0xF7) ||| TG.start ||| flagIf und TG.undecided, lastTag := 0, lastStop := 0,
                    inWindow := 0, calm := 0, pendK := none }
  (((s.setChan n c).setReg O.ticState 1 n).setReg O.ticCount 0 n).setReg O.ticK (s.plan O.ticKMin n) n

/-- A channel stops: its queue drains (R78, R251). -/
def State.chanStop (s : State) (n : Nat) : State := s.setReg O.ticState 0 n

/-- Rescale a channel's tables by the ratio of the new fC period to the old (R256). -/
def State.loupeRescale (s : State) (n : Nat) (ratio : Rat) : State :=
  (List.range 5).foldl (fun s ip =>
    let t := s.dom O.loupeTable (16 * n + ip)
    if t.isEmpty then s else
      s.setDom O.loupeTable ((List.range 4096).flatMap (fun code =>
        leBytes ((rne ((s.loupe n ip code : Rat) * ratio)).toNat % 2 ^ 20) 4)) (16 * n + ip)) s

/-! ### Loupe calibration (R253 to R255) -/

/-- The idle interpolator of a channel (calibrating included). -/
def State.idleIp (s : State) (n : Nat) : Option Nat :=
  (List.range 5).find? (fun i => s.reg O.ipState n i == 1 || s.reg O.ipState n i == 2)

/-- What `TIC_CAL_STATE` shows of a channel (R254, R255): no spare, rotating, frozen or waiting. -/
def State.showTicCal (s : State) (n : Nat) : State :=
  s.setReg O.ticCalState (if s.idleIp n = none then 3 else if (s.chan n).run ≠ 0 then 1 else if s.plan O.ticCalMode n = 0 then 2 else 0) n

/-- The converter-die temperature that stands for a counter channel: the sensor of converter channel n ÷ 2, which lies on
the channel's own die (Table 1.1; DESIGN CHOICE between the die's two sensors, log entry 21). -/
def State.ticTemp (s : State) (n : Nat) : Nat := s.reg O.dieTemp (n / 2)

/-- A rotation starts with run 1 on the idle interpolator (R254). -/
def State.loupeStart (s : State) (n : Nat) : State :=
  match s.idleIp n with
  | none => s
  | some i => ((s.setChan n { s.chan n with run := 1, again := false, swap := none, due := false }).setReg O.ipState 2 n i).setReg O.ticCalState 1 n

/-- No idle interpolator is left (R255): a channel that runs under mode 1 has a fault. -/
def State.loupeNoSpare (s : State) (n ip : Nat) : State :=
  let s := ((s.setChan n { s.chan n with run := 0, again := false, swap := none }).showTicCal n).raise (ticEvent n 5)
    (s.plan O.ticCalMode n)
  if s.plan O.ticCalMode n = 1 ∧ s.reg O.ticState n = 1 then s.fault (0x48 + n) ip else s

/-- fROOT becomes another (R256): every table is rescaled, and a channel that runs restarts and rotates at once, one that does not
when it runs again. -/
def State.loupeMoves (s : State) (n : Nat) (ratio : Rat) : State :=
  let s := s.loupeRescale n ratio
  if s.plan O.ticCalMode n = 0 ∨ s.idleIp n = none then s
  else if s.reg O.ticState n = 1 then s.loupeStart n
  else s.setChan n { s.chan n with due := true }

/-- An interpolator retires (R255). -/
def State.ipRetire (s : State) (n ip reason : Nat) (spare : Bool) : State :=
  ((s.setReg O.ipState 3 n ip).raise (ticEvent n 4) (ip + 256 * reason)).retire 4 n ip reason (reason == 4) spare

/-- TIC_CAL_EVALUATE (R254). -/
def execTicCalEvaluate (ch : Fin 8) (s : State) : Result :=
  let n := ch.val
  let c := s.chan n
  let far := decide (f32 (s.plan O.ticCalDt n) < ratAbs (f32 (s.ticTemp n) - f32 (s.reg O.ticCalTref n)))
  if s.reg O.ticState n = 1 ∧ s.plan O.ticCalMode n ≠ 0 ∧ c.run = 0 ∧ (s.idleIp n).isSome ∧ (far || c.due) then
    .next (s.loupeStart n)
  else .next s

/-- `TIC_CAL_CMD` (R254). -/
def actTicCal (n v : Nat) : Act :=
  onlyOne v (reaching 32 fun s =>
    if s.plan O.ticCalMode n = 0 ∨ s.idleIp n = none then .error Abort.range
    else if (s.chan n).run ≠ 0 then .error Abort.busy
    else .ok (if s.reg O.ticState n = 1 then s.loupeStart n else s))

/-- TIC_CAL_CMD (R254). -/
def execTicCalCmd (m : Master) (ch : Fin 8) (value : Nat) (s : State) : Result :=
  s.command m O.ticCalCmd value (actTicCal ch.val value)

/-- Running sums of a list, each before its own element. -/
def prefixSums : Nat → List Nat → List Nat
  | _, [] => []
  | a, h :: hs => a :: prefixSums (a + h) hs

/-- The loupe table of a code-density run (R253). -/
def loupeTable (tc : Rat) (hits : List Nat) : List Nat :=
  let total := hits.foldl (· + ·) 0
  (List.zip (prefixSums 0 hits) hits).map (fun p =>
    if total = 0 then (rne tc).toNat else (rne (tc + tc * ((2 * p.1 + p.2 : Nat) : Rat) / (2 * total : Nat))).toNat)

/-- The first limit of Table 11.6 that a run breaks, 0 when none. -/
def loupeReason (hits : List Nat) (hard : Bool) : Nat :=
  let used := (hits.zipIdx.filter (fun h => h.1 != 0)).map (·.2)
  let first := used.headD 4096
  let last := used.getLastD 0
  let total := hits.foldl (· + ·) 0
  let span := (hits.drop first).take (last + 1 - first)
  if first < 16 ∨ 4079 < last then 1
  else if used.length < 2048 then 2
  else if span.any (fun h => h == 0 || decide (4 * total < h * used.length)) then 3
  else if hard then 4 else 0

/-- The active interpolator with the oldest table. -/
def oldestIp (c : Chan) : Nat :=
  c.turn.foldl (fun best i => if Map.get c.age 0 i < Map.get c.age 0 best then i else best) (c.turn.headD 0)

/-- LOUPE_RUN_END (R253 to R255). -/
def execLoupeRunEnd (ch : Fin 8) (hits : List Nat) (hard : Bool) (s : State) : Result :=
  let n := ch.val
  let c := s.chan n
  match s.idleIp n with
  | none => .next s
  | some ip =>
    if c.run = 0 ∨ c.swap.isSome then .next s else
    let reason := loupeReason hits hard
    if reason = 0 then
      let s := s.setDom O.loupeTable ((loupeTable s.fcPeriod hits).flatMap (fun v => leBytes v 4)) (16 * n + ip)
      let c := { c with age := Map.put c.age 0 ip (c.ageLast + 1), ageLast := c.ageLast + 1, again := false }
      if c.run < 5 then .next (s.setChan n { c with swap := some (ip, oldestIp c) })
      else
        let s := ((s.setChan n { c with run := 0 }).setReg O.ipState 1 n ip).setReg O.ticCalTref (s.ticTemp n) n
        .next (((s.showTicCal n).setHidden H.calStale 1).raise (ticEvent n 7) (s.ticTemp n))
    else if c.again then .next ((s.ipRetire n ip reason true).loupeNoSpare n ip)
    else .next (s.setChan n { c with again := true })

/-- LOUPE_STEP (R254): at the next fT tick the calibrated interpolator takes the turn position, and the next run begins. -/
def execLoupeStep (ch : Fin 8) (s : State) : Result :=
  let n := ch.val
  let c := s.chan n
  match c.swap with
  | none => .next s
  | some (i, o) =>
    let c := { c with swap := none, run := c.run + 1, turn := c.turn.map (fun x => if x = o then i else x),
                      marks := c.marks ||| TG.loupeStep }
    let s := (((s.setChan n c).setReg O.ipState 0 n i).setReg O.ipState 2 n o).bump O.ticCalSeq n
    .next (s.raise (ticEvent n 3) (s.reg O.ticCalSeq n + 65536 * i + 1048576 * o))

/-- The edge that a failed interpolator was converting: counted, and where due not tagged (R243, R255). -/
def State.heldEdge (s : State) (n : Nat) (held : Option (Fin 4)) : State :=
  match held with
  | some stop =>
    if s.reg O.ticState n = 1 then
      let s := s.countOne n stop.val
      if s.edgeDue n then s.mergeEdge n else s
    else s
  | none => s

/-- IP_HARD_FAILURE (R255): `held` gives the fC cycle of the stop edge of the counted edge that it was converting, if any. -/
def execIpHardFailure (ch : Fin 8) (ip : Fin 5) (held : Option (Fin 4)) (s : State) : Result :=
  let n := ch.val
  if s.reg O.ipState n ip.val = 0 then
    let s := s.heldEdge n held
    let c := s.chan n
    let c := { c with turn := c.turn.filter (· != ip.val), join := if c.join = some ip.val then none else c.join }
    match s.idleIp n with
    | some i =>
      let s := (s.setChan n { c with join := some i }).setReg O.ipState 0 n i
      .next (((s.ipRetire n ip.val 4 true).setSpacing n).loupeNoSpare n ip.val)
    | none => .next ((((s.setChan n c).ipRetire n ip.val 4 false).setSpacing n).loupeNoSpare n ip.val)
  else if s.fitting = some (4, n, ip.val) then .next (s.fitFail 4 0)
  else .next s

/-- TAG_BUS_PARITY_FAIL (R16): the word and its increment are lost; the channel's next record carries the mark. -/
def execTagBusParityFail (ch : Fin 8) (s : State) : Result :=
  let n := ch.val
  if s.reg O.ticState n = 1 then
    .next ((s.setChan n { s.chan n with marks := (s.chan n).marks ||| TG.queueOvf }).occurrence (0x40 + n / 4) n)
  else .next s

end Sys2Proof.Machine
end

