-- ==== Sys2Proof/Machine/Measure.lean ====
section
/-! DEFINITION. The measurement solver: slots, gates, results, statistics and Allan deviation (spec 12_measurements.md). -/

namespace Sys2Proof.Machine

namespace H
/-- an external gate source is asserted, by source 0 to 8 (R263) -/
def gateSrc : Nat := 210
/-- calibrated path latency of a gate source, 2^-16 ns (R263) -/
def gateLat : Nat := 211
/-- gates in progress close early at the next fT tick: PLL-A has lost lock (R277) -/
def gatesDue : Nat := 212
end H

/-- Result flags of Table 12.3. -/
def RF.noData : Nat := 1
/-- SEGMENTED -/
def RF.segmented : Nat := 2
/-- GATE_SHORT -/
def RF.gateShort : Nat := 256
/-- MISMATCH -/
def RF.mismatch : Nat := 512
/-- UNPAIRED -/
def RF.unpaired : Nat := 1024
/-- OVERRUN -/
def RF.overrun : Nat := 2048

/-- Event number k of a slot (R281). -/
def msEvent (sl k : Nat) : Nat := 0x680 + 4 * sl + k

/-- G of R262 as a count of 2^-16 ns. -/
def State.gateTime (s : State) (sl : Nat) : Nat := s.plan O.msGateTime sl * 65536

/-! ### Arming and gates (R262 to R264) -/

/-- The Allan sums of a slot restart (R275). -/
def State.adevClear (s : State) (sl : Nat) : State :=
  let s := s.setSlot sl { s.slot sl with sums := List.replicate 32 0 }
  if sl < 4 then (List.range 32).foldl (fun s j => (s.setReg O.adSigma 0 sl j).setReg O.adTerms 0 sl j) s else s

/-- A slot arms at T_a (R264): gates, results and Allan sums begin anew; of each channel it keeps the last tag, which the gate
after the first may share (R261). -/
def State.slotRun (s : State) (sl t : Nat) : State :=
  let x := s.slot sl
  let ext := s.plan O.msGateKind sl == 1
  let isOpen := !ext || s.hidden H.gateSrc (s.plan O.msGateSel sl) == 1
  let x := { x with armT := t, gate := 0, done := 0, seq := 0, stopping := false, closed := [],
                    ptsA := (s.chan (s.plan O.msChanA sl)).newest.toList, ptsB := (s.chan (s.plan O.msChanB sl)).newest.toList,
                    openT := if isOpen then some t else none, openCount := s.reg O.ticCount (s.plan O.msChanA sl),
                    xs := [], xTop := 0, xCount := 0 }
  let s := (s.setSlot sl x).setReg O.msState (if isOpen then 2 else 3) sl
  (s.adevClear sl).raise (msEvent sl 0) (T96.ofTicks t >>> 48)

/-- The gate in progress closes (R261); it waits for its result. -/
def State.gateClose (s : State) (sl t : Nat) (short : Bool) : State :=
  let x := s.slot sl
  match x.openT with
  | none => s
  | some o =>
    let c := s.reg O.ticCount (s.plan O.msChanA sl)
    let g : Gate := ⟨o, t, (c + 2 ^ 64 - x.openCount) % 2 ^ 64, short, s.plan O.msGateKind sl == 0 && x.gate != 0, x.gate⟩
    s.setSlot sl { x with closed := x.closed ++ [g], openT := none, openCount := c, done := x.done + 1 }

/-- The state a slot enters when a gate has closed: STOPPED after a disarm, DONE after the last gate, else as given. -/
def State.afterGate (s : State) (sl other : Nat) : State :=
  let x := s.slot sl
  let n := s.plan O.msGates sl
  if x.stopping then (s.setSlot sl { x with stopping := false, openT := none }).setReg O.msState 0 sl
  else if n ≠ 0 ∧ n ≤ x.done then (s.setSlot sl { x with openT := none }).setReg O.msState 4 sl
  else s.setReg O.msState other sl

/-- The next gate of a slot opens. -/
def State.gateOpen (s : State) (sl t : Nat) : State :=
  let x := s.slot sl
  s.setSlot sl { x with openT := some t, gate := x.gate + 1, openCount := s.reg O.ticCount (s.plan O.msChanA sl) }

/-- The boundary of a time gate, once it is due (R262): the gate closes and the next opens. -/
def State.gateDue (s : State) (sl : Nat) : State :=
  let x := s.slot sl
  let t := x.armT + (x.gate + 1) * s.gateTime sl
  if s.reg O.msState sl = 2 ∧ s.plan O.msGateKind sl = 0 ∧ t ≤ s.nowTicks then
    let s := (s.gateClose sl t false).afterGate sl 2
    if s.reg O.msState sl = 2 then s.gateOpen sl t else s
  else s

/-- The gate in progress closes early (R277); a close that falls on this tick completes normally first, and a gate that opens
at this tick stays open. Time gates continue on the grid. -/
def State.gateShort (s : State) (sl : Nat) : State :=
  let s := s.gateDue sl
  if s.reg O.msState sl = 2 ∧ (s.slot sl).openT ≠ some s.nowTicks then (s.gateClose sl s.nowTicks true).afterGate sl 2 else s

/-- MS_TIME_GATE_BOUNDARY (R262). -/
def execMsTimeGateBoundary (sl : Fin 16) (s : State) : Result := .next (s.gateDue sl.val)

/-- The solver reads a channel for a slot: channel A, and channel B where the function takes two. -/
def readsChan (p : Store) (sl ch : Nat) : Bool :=
  planVal p O.msChanA sl == ch || ((planVal p O.msFunc sl == 3 || planVal p O.msFunc sl == 4) && planVal p O.msChanB sl == ch)

/-- A channel starts or restarts: the gates that read it close early, and edges are counted from 0 (R244, R277). -/
def State.chanBegin (s : State) (ch : Nat) : State :=
  let s := ((List.range 16).foldl (fun s sl => if readsChan s.active sl ch then s.gateShort sl else s) s).chanStart ch
  (List.range 16).foldl (fun s sl =>
    if s.plan O.msChanA sl = ch then s.setSlot sl { s.slot sl with openCount := 0 } else s) s

/-! ### Points and fits (R265, R266) -/

/-- A point: time in 2^-16 ns, exact count within the gate, its record. -/
structure Point where
  /-- time -/
  t : Nat
  /-- count -/
  c : Nat
  /-- record -/
  r : Nat
deriving DecidableEq, Repr

/-- Points of a gate among the kept records: the last before the open time where the gate shares it (R261). -/
def gateRecords (g : Gate) (rs : List Nat) : List Nat :=
  let inside := rs.filter (fun r => decide (g.openT ≤ tagTicks r ∧ tagTicks r < g.closeT))
  let before := (rs.filter (fun r => decide (tagTicks r < g.openT))).getLast?
  match g.shared, before with
  | true, some b => b :: inside
  | _, _ => inside

/-- Segments of consecutive points with exact counts (R250, R265), the newest segment and the newest point first; turned round by
`segmentsOf`. They are split at QUEUE_OVF, and at START, where the count begins anew (DEDUCED, log entry 149). -/
def segStep (segs : List (List Point)) (r : Nat) : List (List Point) :=
  let p : Point := ⟨tagTicks r, 0, r⟩
  match segs with
  | (q :: qs) :: rest =>
    if tagFlags r &&& (TG.queueOvf ||| TG.start) = 0 then
      ({ p with c := q.c + (tagSeq r + 65536 - tagSeq q.r) % 65536 } :: q :: qs) :: rest
    else [p] :: (q :: qs) :: rest
  | _ => [[p]]

/-- The segments, oldest first. -/
def segmentsOf (rs : List Nat) : List (List Point) := ((rs.foldl segStep []).map List.reverse).reverse

/-- Mean of a list of rationals; 0 of the empty list. -/
def meanOf (xs : List Rat) : Rat := if xs.isEmpty then 0 else xs.foldl (· + ·) 0 / (xs.length : Rat)

/-- Slope in 2^-16 ns per edge, by the method selected (R266); none with fewer than two points in every segment. -/
def slope (method : Nat) (segs : List (List Point)) : Option Rat :=
  if segs.all (fun g => decide (g.length < 2)) then none
  else if method = 1 then
    let dt := segs.foldl (fun a g => match g.head?, g.getLast? with | some p, some q => a + ((q.t : Rat) - p.t) | _, _ => a) (0 : Rat)
    let dc := segs.foldl (fun a g => match g.head?, g.getLast? with | some p, some q => a + ((q.c : Rat) - p.c) | _, _ => a) (0 : Rat)
    some (dt / dc)
  else
    let sums := segs.foldl (fun a g =>
      let cm := meanOf (g.map (fun (p : Point) => (p.c : Rat)))
      let tm := meanOf (g.map (fun (p : Point) => (p.t : Rat)))
      (a.1 + g.foldl (fun x p => x + ((p.c : Rat) - cm) * ((p.t : Rat) - tm)) 0,
       a.2 + g.foldl (fun x p => x + ((p.c : Rat) - cm) * ((p.c : Rat) - cm)) 0)) ((0 : Rat), (0 : Rat))
    some (sums.1 / sums.2)

/-- Fitted time of a count of a segment, on the common slope (R266, R268). -/
def fitted (method : Nat) (seg : List Point) (b : Rat) (c : Nat) : Rat :=
  match method, seg.head? with
  | 1, some p => p.t + b * ((c : Rat) - p.c)
  | _, _ => meanOf (seg.map (fun (p : Point) => (p.t : Rat))) + b * ((c : Rat) - meanOf (seg.map (fun (p : Point) => (p.c : Rat))))

/-- One second in 2^-16 ns. -/
def tickHz : Rat := (1000000000 * 65536 : Nat)

/-- What a function answers: its value, none for NO_DATA, and further flags. A value whose formula divides by 0 is `open_`
(log entry 7). -/
structure Answer where
  /-- value -/
  val : Option Rat := none
  /-- flags beside NO_DATA -/
  flags : Nat := 0
  /-- the spec states no value -/
  open_ : Bool := false
deriving DecidableEq, Repr

/-- FREQ (R266). -/
def freqOf (m method : Nat) (segs : List (List Point)) : Answer :=
  match slope method segs with
  | none => {}
  | some b => if b = 0 then { open_ := true } else { val := some (tickHz / ((m : Rat) * b)) }

/-- Pairs of the signed mode (R267): the i-th points. -/
def pairSigned (a b : List Nat) : List (Int × Nat) :=
  (List.zip a b).map (fun p => ((tagTicks p.2 : Int) - tagTicks p.1, 0))

/-- Merge two lists in time order, starts first at equal times: true marks a start. -/
def mergeStarts : Nat → List Nat → List Nat → List (Bool × Nat)
  | 0, _, _ => []
  | _, [], b => b.map (fun t => (false, t))
  | _, a, [] => a.map (fun t => (true, t))
  | n + 1, x :: a, y :: b => if x ≤ y then (true, x) :: mergeStarts n a (y :: b) else (false, y) :: mergeStarts n (x :: a) b

/-- Ordered pairing (R267): intervals, and whether a stop was ignored or a start replaced. -/
def pairOrdered (evs : List (Bool × Nat)) : List Nat × Bool :=
  let r := evs.foldl (fun (st : List Nat × Bool × Option Nat) e =>
    match e.1, st.2.2 with
    | true, some _ => (st.1, true, some e.2)
    | true, none => (st.1, st.2.1, some e.2)
    | false, some x => (st.1 ++ [e.2 - x], st.2.1, none)
    | false, none => (st.1, true, none)) ([], false, none)
  (r.1, r.2.1)

/-- TI (R267): starts and stops as record lists. -/
def tiOf (mode : Nat) (a b : List Nat) : Answer :=
  if mode = 0 then
    let ps := pairSigned a b
    let fl := if a.length = b.length then 0 else RF.unpaired
    if ps.isEmpty then { flags := fl } else
      { val := some (meanOf (ps.map (fun p => (p.1 : Rat))) / tickHz), flags := fl }
  else
    let r := pairOrdered (mergeStarts (a.length + b.length) (a.map tagTicks) (b.map tagTicks))
    let fl := if r.2 then RF.unpaired else 0
    if r.1.isEmpty then { flags := fl } else { val := some (meanOf (r.1.map (fun (d : Nat) => (d : Rat))) / tickHz), flags := fl }

/-- PHASE (R268). -/
def phaseOf (m mb method : Nat) (sa sb : List (List Point)) : Answer :=
  match slope method sa, slope method sb, sa.head?, sb.head? with
  | some ba, some bb, some ga, some gb =>
    if ba = 0 ∨ bb = 0 then { open_ := true } else
    let fa := 1 / ((m : Rat) * ba)
    let fb := 1 / ((mb : Rat) * bb)
    let d := (fitted method gb bb ((gb.head?.map Point.c).getD 0) - fitted method ga ba ((ga.head?.map Point.c).getD 0)) * fa
    { val := some (360 * (d - (d.floor : Rat))),
      flags := if ratAbs fa / 1000 < ratAbs (fb - fa) then RF.mismatch else 0 }
  | _, _, _, _ => {}

/-- Times from a rising point to the falling point whose count follows it (R269). -/
def dutyPairs : List Point → List Rat
  | p :: q :: r =>
    if tagRising p.r && !tagRising q.r && q.c == p.c + 1 then ((q.t : Rat) - p.t) :: dutyPairs (q :: r) else dutyPairs (q :: r)
  | _ => []

/-- DUTY (R269). -/
def dutyOf (m method : Nat) (segs : List (List Point)) : Answer :=
  let ps := segs.flatMap dutyPairs
  match ps.isEmpty, slope method segs with
  | false, some b => if b = 0 then { open_ := true } else { val := some (meanOf ps / ((m : Rat) * b)) }
  | _, _ => {}

/-- Edges per cycle that the fit divides by (R266). -/
def State.fitM (s : State) (ch : Nat) : Nat := if s.plan O.ticPolarity ch = 2 then 2 else 1

/-- The function of a slot over a gate's records of channels A and B (Table 12.1). -/
def State.measure (s : State) (sl : Nat) (g : Gate) (a b : List Nat) : Answer :=
  let chA := s.plan O.msChanA sl
  let chB := s.plan O.msChanB sl
  let method := s.plan O.msMethod sl
  let sa := segmentsOf a
  let sb := segmentsOf b
  match s.plan O.msFunc sl with
  | 1 => freqOf (s.fitM chA) method sa
  | 2 => match freqOf (s.fitM chA) method sa with
    | { val := some f, .. } => { val := some (1 / f) }
    | r => r
  | 3 => if chA = chB then tiOf (s.plan O.msTiMode sl) (a.filter tagRising) (b.filter (fun r => !tagRising r))
         else tiOf (s.plan O.msTiMode sl) a b
  | 4 => phaseOf (s.fitM chA) (s.fitM chB) method sa sb
  | 5 => dutyOf (s.fitM chA) method sa
  | _ => { val := some (g.edges : Rat) }

/-- Flags that points carry over to the result (Table 12.3). -/
def pointFlags (rs : List Nat) : Nat :=
  let u := rs.foldl (fun a r => a ||| tagFlags r) 0
  flagIf (bit u 0) 4 ||| flagIf (bit u 1) 8 ||| flagIf (bit u 4) 16 ||| flagIf (bit u 5) 32 ||| flagIf (bit u 3) 64 |||
    flagIf (bit u 6) 128

/-- A result record (Table 12.4) as its bit pattern. -/
def resultRecord (val t96 openT edges points seq flags sl func chA chB k : Nat) : Nat :=
  val * 2 ^ 448 + t96 * 2 ^ 352 + openT * 2 ^ 256 + edges * 2 ^ 192 + points * 2 ^ 160 + seq * 2 ^ 128 + flags * 2 ^ 112 +
    sl * 2 ^ 108 + func * 2 ^ 104 + chA * 2 ^ 101 + chB * 2 ^ 98 + k * 2 ^ 94

/-! ### Statistics and Allan deviation (R274, R275) -/

/-- A block ends: its five status objects and T96 change together (R274). -/
def State.statEnd (s : State) (sl : Nat) : State :=
  let x := s.slot sl
  if x.statN = 0 then s else
  let sd := if x.statN = 1 then 0 else FloatFmt.f64.sqrt (f64 x.statM2 / ((x.statN - 1 : Nat) : Rat))
  let s := ((((((s.setReg O.msStatMean x.statMean sl).setReg O.msStatSdev sd sl).setReg O.msStatMin x.statMin sl).setReg
    O.msStatMax x.statMax sl).setReg O.msStatCount x.statN sl).setReg O.msStatT96 x.statT sl)
  (s.setSlot sl { x with statN := 0 }).raise (msEvent sl 1) x.statN

/-- A value enters the block by running updates, each rounded once to binary64 (R274; DEDUCED, log entry 22). -/
def State.statAdd (s : State) (sl v t96 : Nat) : State :=
  let x := s.slot sl
  if s.plan O.msStatN sl = 0 then s else
  let n := x.statN + 1
  let mean := if x.statN = 0 then f64 v else f64 x.statMean + (f64 v - f64 x.statMean) / (n : Rat)
  let mean' := toF64 mean
  let m2 := if x.statN = 0 then 0 else toF64 (f64 x.statM2 + (f64 v - f64 x.statMean) * (f64 v - f64 mean'))
  let x := { x with statN := n, statMean := mean', statM2 := m2, statT := t96,
                    statMin := if x.statN = 0 ∨ f64 v < f64 x.statMin then v else x.statMin,
                    statMax := if x.statN = 0 ∨ f64 x.statMax < f64 v then v else x.statMax }
  let s := s.setSlot sl x
  if s.plan O.msStatN sl ≤ n then s.statEnd sl else s

/-- One phase point as a rational, in seconds. -/
def xVal (p : Int × Nat) : Rat := (p.1 : Rat) / (p.2 : Rat)

/-- The terms that the newest phase point completes (R275), for τ index j. -/
def State.adevTerm (s : State) (sl j : Nat) : State :=
  let x := s.slot sl
  let n := 2 ^ j
  let st := if j ≤ 10 then 1 else 2 ^ (j - 10)
  match x.xs[0]?, x.xs[n]?, x.xs[2 * n]? with
  | some c, some b, some a =>
    if (x.xTop - 2 * n) % st = 0 then
      let d := xVal c - 2 * xVal b + xVal a
      let sum := toF64 (f64 (x.sums.getD j 0) + d * d)
      let terms := s.reg O.adTerms sl j + 1
      let tau : Rat := (n : Rat) * (s.gateTime sl : Rat) / tickHz
      ((s.setSlot sl { x with sums := x.sums.set j sum }).setReg O.adTerms terms sl j).setReg O.adSigma
        (FloatFmt.f64.sqrt (f64 sum / (2 * tau * tau * (terms : Rat)))) sl j
    else s
  | _, _, _ => s

/-- A phase point joins the series (R275): `num` its boundary, `t` its time and `c` its count. -/
def State.adevPush (s : State) (sl num : Nat) (t : Rat) (c : Nat) : State :=
  let x := s.slot sl
  let xg := t / tickHz - (c : Rat) / ((s.fitM (s.plan O.msChanA sl) : Rat) * f64 (s.plan O.msFnom sl))
  let s := s.setSlot sl { x with xs := (xg.num, xg.den) :: x.xs, xTop := num, xCount := c }
  (List.range (s.plan O.msAdevTaus sl)).foldl (fun s j => s.adevTerm sl j) s

/-- The series breaks (R275): no term spans the break, and the sums are kept. -/
def State.adevBreak (s : State) (sl : Nat) : State := s.setSlot sl { s.slot sl with xs := [], xCount := 0 }

/-- The phase points of a gate with records `a` (R275): the one that opens it where the series begins with it, and the one that
opens the gate after it. A segmented gate breaks the series between them; so does one that closes early, whose end is no boundary
of the grid (DEDUCED, log entry 149). -/
def State.adevPoint (s : State) (sl : Nat) (g : Gate) (a : List Nat) : State :=
  if 4 ≤ sl ∨ s.plan O.msAdevTaus sl = 0 then s
  else if g.short then s.adevBreak sl
  else
    let method := s.plan O.msMethod sl
    let fit := s.plan O.msAdevX sl == 1
    let segs := segmentsOf a
    match segs.getLast?, a with
    | some seg, r :: _ =>
      let s := if (s.slot sl).xs.isEmpty && g.shared && !fit then s.adevPush sl g.number (tagTicks r) 0 else s
      let s := if 1 < segs.length then s.adevBreak sl else s
      match seg.getLast? with
      | some p =>
        let t : Rat := match fit, slope method segs with
          | true, some b => fitted method seg b p.c
          | _, _ => p.t
        s.adevPush sl (g.number + 1) t ((s.slot sl).xCount + p.c)
      | none => s
    | _, _ => s

/-- `MS_ADEV_RESET` (R275). -/
def actAdevReset (sl v : Nat) : Act := onlyOne v <| reaching 32 fun s => .ok (s.adevClear sl)

/-- MS_ADEV_RESET (R275). -/
def execMsAdevReset (m : Master) (sl : Fin 16) (value : Nat) (s : State) : Result :=
  s.command m O.msAdevReset value (actAdevReset sl.val value)

/-! ### Results (R271 to R273) -/

/-- A result enters the ring and the streams that read it, or an external-gate slot beyond its declared rate drops it (R273,
R366). -/
def State.resultRing (s : State) (sl rec_ : Nat) : State :=
  let size := s.plan O.msRingSize
  let x := s.slot sl
  let early := s.plan O.msGateKind sl == 1 && x.lastRing != 0 &&
    decide (((s.upTicks + 1 - x.lastRing : Nat) : Rat) * f64 (s.plan O.msDeclRate sl) < tickHz)
  if size = 0 then s
  else if early then
    ((s.setSlot sl { x with dropped := true }).bumpSat O.msOverrun sl).raiseRare (msEvent sl 3)
      (satAdd 32 (s.reg O.msOverrun sl) 1)
  else
    let base := s.plan O.msRingBase
    let off := s.reg O.msRingWritePtr
    let r := s.writeRing 4 base size off (leBytes rec_ 64)
    ((r.1.setReg O.msRingWritePtr r.2).setSlot sl { x with dropped := false, lastRing := s.upTicks + 1 }).streamRing 7 0 base size off
      64 0 (bits rec_ 447 352)

/-- A channel's queue holds no record from before a time. -/
def State.queueClear (s : State) (ch t : Nat) : Bool :=
  (s.chan ch).queue.all (fun q => decide (t ≤ tagTicks q.tag))

/-- The result of a closed gate (R271 to R275). -/
def State.formResult (s : State) (sl : Nat) (g : Gate) (rest : List Gate) : State :=
  let x := s.slot sl
  let chA := s.plan O.msChanA sl
  let func := s.plan O.msFunc sl
  let two := func == 3 || func == 4
  let a := gateRecords g x.ptsA
  let b := if two then gateRecords g (if s.plan O.msChanB sl = chA then x.ptsA else x.ptsB) else []
  let ans := s.measure sl g a b
  let fr := s.drawFree
  let s := if ans.open_ then fr.2 else s
  let val := if ans.open_ then fr.1 % 2 ^ 64 else match ans.val with | some v => toF64 v | none => 0
  let noData := !ans.open_ && ans.val.isNone
  let segmented := decide (1 < (segmentsOf a).length ∨ 1 < (segmentsOf b).length)
  let times := (a ++ b).map tagTicks
  let t96 := T96.ofTicks (if times.isEmpty then g.closeT else times.foldl max 0)
  let k := match a.getLast? with | some r => tagK r | none => s.reg O.ticK chA
  let flags := flagIf noData RF.noData ||| flagIf segmented RF.segmented ||| pointFlags (a ++ b) ||| flagIf g.short RF.gateShort |||
    ans.flags ||| flagIf x.dropped RF.overrun
  let pts := if two && s.plan O.msChanB sl == chA then a.length else a.length + b.length
  let rec_ := resultRecord val t96 (T96.ofTicks g.openT) g.edges pts x.seq flags sl func chA (s.plan O.msChanB sl) k
  let keep := fun (rs : List Nat) =>
    (match (rs.filter (fun r => decide (tagTicks r < g.closeT))).getLast? with
      | some r => if s.plan O.msGateKind sl = 0 then [r] else []
      | none => []) ++ rs.filter (fun r => decide (g.closeT ≤ tagTicks r))
  let s := s.setSlot sl { x with closed := rest, ptsA := keep x.ptsA, ptsB := keep x.ptsB, seq := (x.seq + 1) % 2 ^ 32 }
  let s := ((((((s.setReg O.msResult val sl).setReg O.msResultT96 t96 sl).setReg O.msResultFlags flags sl).setReg
    O.msResultSeq x.seq sl).setReg O.msEdges g.edges sl).setReg O.msPoints pts sl)
  let s := (s.emit (.record 4 (leBytes rec_ 64))).resultRing sl rec_
  let s := if noData then s else s.statAdd sl val t96
  let s := if g.short then s.statEnd sl else s
  let s := s.adevPoint sl g a
  let n := s.plan O.msGates sl
  if n ≠ 0 ∧ (s.slot sl).closed.isEmpty ∧ s.reg O.msState sl = 4 then s.raise (msEvent sl 2) x.seq else s

/-- The results of gates that have closed are formed at once, with their records still in a queue: the slot changes, arms
again or loses its channel, and they belong to the old run (R271; DESIGN CHOICE, log entry 105). -/
def State.slotFlush (s : State) (sl : Nat) : State :=
  (s.slot sl).closed.foldl (fun s _ =>
    let x := s.slot sl
    match x.closed with
    | [] => s
    | g :: rest =>
      let late := fun ch => ((s.chan ch).queue.map (·.tag)).filter (fun r => decide (tagTicks r < g.closeT))
      (s.setSlot sl { x with ptsA := x.ptsA ++ late (s.plan O.msChanA sl), ptsB := x.ptsB ++ late (s.plan O.msChanB sl) }).formResult
        sl g rest) s

/-- MS_RESULT (R273): after the gate has closed and the last point of each channel has left its queue. -/
def execMsResult (sl : Fin 16) (s : State) : Result :=
  let n := sl.val
  match (s.slot n).closed with
  | [] => .next s
  | g :: rest =>
    let two := s.plan O.msFunc n == 3 || s.plan O.msFunc n == 4
    if s.queueClear (s.plan O.msChanA n) g.closeT && (!two || s.queueClear (s.plan O.msChanB n) g.closeT) then
      .next (s.formResult n g rest)
    else .next s

/-! ### Arming by gate, entry, line and commit (R264) -/

/-- A slot arms at T_a (R264), after the results of its last run. -/
def State.slotArm (s : State) (sl t : Nat) : State := (s.slotFlush sl).slotRun sl t

/-- An external gate source changes: the effect on one slot (R262 to R264). -/
def State.extGate (s : State) (sl gate : Nat) (asserted : Bool) (t : Nat) : State :=
  if s.plan O.msEnable sl = 1 ∧ s.plan O.msGateSel sl = gate then
    let st := s.reg O.msState sl
    if asserted then
      if st = 1 ∧ s.plan O.msArm sl = 3 then s.slotArm sl t
      else if st = 3 ∧ s.plan O.msGateKind sl = 1 then
        let x := s.slot sl
        ((s.setSlot sl { x with openT := some t, gate := x.gate + (if x.done = 0 then 0 else 1),
                                openCount := s.reg O.ticCount (s.plan O.msChanA sl) })).setReg O.msState 2 sl
      else s
    else if st = 2 ∧ s.plan O.msGateKind sl = 1 then (s.gateClose sl t false).afterGate sl 3
    else s
  else s

/-- MS_EXT_GATE_CHANGE (R263): registered at an fC cycle less the calibrated path latency. A TIN gate follows its comparator,
whatever the channel runs on; `asserted` speaks of GATE_N alone. -/
def execMsExtGateChange (gate : Fin 9) (asserted : Bool) (cycle : Fin 4) (s : State) : Result :=
  let g := gate.val
  let asserted := if g < 8 then s.hidden H.comp g == 1 else asserted
  if s.hidden H.gateSrc g = b2n asserted then .next s else
  let t := s.after 8 cycle.val - s.hidden H.gateLat g
  .next ((List.range 16).foldl (fun s sl => s.extGate sl g asserted t) (s.setHidden H.gateSrc (b2n asserted) g))

/-- An arm entry that names a slot (R264): whether it is accepted. -/
def State.slotArmEntry (s : State) (sl t : Nat) : Option State :=
  if s.plan O.msEnable sl = 1 then
    let st := s.reg O.msState sl
    if st = 2 ∨ st = 3 then some s
    else if st = 4 ∨ (st = 1 ∧ s.plan O.msArm sl = 1) then some (s.slotArm sl t)
    else none
  else none

/-- A disarm entry (R264): while OPEN the gate completes first. -/
def State.slotDisarm (s : State) (sl : Nat) : Option State :=
  if s.plan O.msEnable sl = 1 then
    if s.reg O.msState sl = 2 then some (s.setSlot sl { s.slot sl with stopping := true })
    else some ((s.setSlot sl { s.slot sl with openT := none }).setReg O.msState 0 sl)
  else none

/-- The first assertion of a lacing line arms the slots that wait for it (R264). -/
def State.slotsLace (s : State) (line t : Nat) : State :=
  (List.range 16).foldl (fun s sl =>
    if s.plan O.msEnable sl = 1 ∧ s.reg O.msState sl = 1 ∧ s.plan O.msArm sl = 2 ∧ s.plan O.msArmSel sl = line then
      s.slotArm sl t else s) s

/-- A commit starts a slot (R264). -/
def State.slotStart (s : State) (sl : Nat) : State :=
  if s.plan O.msArm sl = 0 then s.slotArm sl s.nowTicks
  else (s.setSlot sl { s.slot sl with openT := none, stopping := false }).setReg O.msState 1 sl

/-- A commit stops a slot. -/
def State.slotStop (s : State) (sl : Nat) : State :=
  let s := (s.gateShort sl).slotFlush sl
  (s.setSlot sl { s.slot sl with openT := none, stopping := false }).setReg O.msState 0 sl

/-- What the counter does at an fT tick: queues drain, an interpolator that joins the turn takes its place, and gates close early
after a loss of lock (R251, R255, R277). -/
def State.chansTick (s : State) : State :=
  let s := (List.range 8).foldl (fun s n =>
    let s := s.drainTags n
    match (s.chan n).join with
    | some i => (s.setChan n { s.chan n with join := none, turn := (s.chan n).turn ++ [i] }).setSpacing n
    | none => s) s
  if s.hidden H.gatesDue = 0 then s else (List.range 16).foldl State.gateShort (s.setHidden H.gatesDue 0)

/-- The channel of a slot restarts, stops or is lost at a commit. -/
def State.slotBreak (s : State) (sl : Nat) : State := (s.gateShort sl).slotFlush sl

end Sys2Proof.Machine
end

