-- ==== Sys2Proof/Machine/Lacing.lean ====
section
/-! DEFINITION. The lacing bus (spec 14_time.md, R324 to R330). -/

namespace Sys2Proof.Machine

namespace H
/-- lines with an event waiting for launch, one bit each (R326) -/
def lacePend : Nat := 340
/-- lines that the part drives in this cycle -/
def laceOut : Nat := 341
/-- candidates of the cycle that wait for the veto decision (R328) -/
def laceCand : Nat := 342
/-- their time, 2^-16 ns -/
def laceCandT : Nat := 343
/-- the part asserts LACE_V (R327) -/
def laceVeto : Nat := 344
/-- the part drives LACE_S -/
def laceS : Nat := 345
/-- cycles are counted since a LACE_S (R325, R330) -/
def laceCounting : Nat := 346
/-- lines that reach the trigger units asserted in this cycle, one bit each (R328) -/
def laceT : Nat := 347
/-- of those, the ones that the veto decision at this cycle's edge let through -/
def laceLate : Nat := 348
end H

/-- Whether the bus runs. -/
def State.laceRuns (s : State) : Bool := s.plan O.laceEn == 1 && s.reg O.laceState == 2

/-- The time of an edge registered at an fF cycle (R157, R325). -/
def State.laceTime (s : State) (cycle : Nat) : Nat := s.after 4 ((cycle : Int) - 4)

/-- `LACE_CYCLE` at an edge: the edges since cycle 0, from the measured period (log entry 25). -/
def State.laceCount (s : State) (t : Nat) : State :=
  if s.hidden H.laceCounting = 1 then
    let per : Rat := f64 (s.reg O.lacePeriod) * 65536 / 1000
    if per ≤ 0 then s else
      s.setReg O.laceCycle ((rne (((t : Int) - (T96.toTicks (s.reg O.laceST96) : Nat) : Int) / per)).toNat % 2 ^ 64)
  else s

/-- Drive LACE_S for one cycle, where this part may (R325): none where it does not. -/
def State.laceSDrive (s : State) : Option State :=
  if s.laceRuns ∧ s.plan O.laceSDrive = 1 ∧ s.reg O.frSafe = 0 then some ((s.setHidden H.laceS 1).emit (.ball 17 true)) else none

/-- `LACE_S_CMD` (R325): a part that may not drive the line does not. -/
def actLaceS (v : Nat) : Act := onlyOne v fun s => .ok ((s.laceSDrive).getD s)

/-- LACE_S_CMD (R325). -/
def execLaceSCmd (m : Master) (value : Nat) (s : State) : Result := s.command m O.laceSCmd value (actLaceS value)

/-- LACE_EPOCH (R325): that edge is cycle 0. -/
def execLaceEpoch (cycle : Fin 8) (s : State) : Result :=
  if s.laceRuns then
    let t := s.laceTime cycle.val
    let s := s.laceCount t
    let s := if s.hidden H.laceS = 1 then (s.setHidden H.laceS 0).emit (.ball 17 false) else s
    let s := s.raise 0x0A2 (s.reg O.laceCycle)
    .next (((s.setReg O.laceCycle 0).setReg O.laceST96 (T96.ofTicks t)).setHidden H.laceCounting 1)
  else .next s

/-- A trigger unit's event reaches the lacing driver (R159, R326, R330). -/
def State.laceFire (s : State) (lines : Nat) : State :=
  if s.laceRuns ∧ s.reg O.frSafe = 0 then s.setHidden H.lacePend (s.hidden H.lacePend ||| lines % 16) else s

/-- Drive the lines of a mask to a level. -/
def State.laceBalls (s : State) (mask : Nat) (level : Bool) : State :=
  (List.range 4).foldl (fun s n => if mask.testBit n then s.emit (.ball (18 + n) level) else s) s

/-- LACE_LAUNCH (R326): events that reached the driver since the last edge leave as one assertion. -/
def execLaceLaunch (s : State) : Result :=
  let m := s.hidden H.lacePend
  if s.laceRuns ∧ m ≠ 0 then .next (((s.setHidden H.lacePend 0).setHidden H.laceOut m).laceBalls m true) else .next s

/-- Accepted candidates reach the units: they are counted, and slots that wait for the line arm (R264, R328). -/
def State.laceAccept (s : State) (mask t : Nat) : State :=
  (List.range 4).foldl (fun s n =>
    if mask.testBit n then (s.bumpSat O.laceTCount 0 n).slotsLace n t else s) s

/-- LACE_CANDIDATE (R327, R328): lines sampled asserted at an edge. A line reaches the trigger units until the next edge (log
entry 189). -/
def execLaceCandidate (lines : BitVec 4) (cycle : Fin 8) (s : State) : Result :=
  if s.laceRuns then
    let t := s.laceTime cycle.val
    let own := s.hidden H.laceOut
    let m := lines.toNat ||| own
    let s := ((s.laceCount t).laceBalls own false).setHidden H.laceOut 0
    let subject := m &&& s.plan O.laceVetoLines
    let units := (List.range 16).any (fun u => (s.plan O.laceVetoUnits).testBit u && s.reg O.tuState u == 1)
    let veto := subject != 0 && units
    let s := ((s.setHidden H.laceCand subject).setHidden H.laceCandT t).setHidden H.laceVeto (b2n veto)
    let s := if veto then s.emit (.ball 22 true) else s
    let direct := m &&& (15 - s.plan O.laceVetoLines % 16)
    let s := (s.setHidden H.laceT (direct ||| s.hidden H.laceLate)).setHidden H.laceLate 0
    .next (s.laceAccept direct t)
  else .next s

/-- LACE_VETO_DECISION (R328): LACE_V as sampled at the next edge. -/
def execLaceVetoDecision (vetoed : Bool) (s : State) : Result :=
  let m := s.hidden H.laceCand
  if s.laceRuns ∧ m ≠ 0 then
    let t := s.hidden H.laceCandT
    let own := s.hidden H.laceVeto == 1
    let s := s.setHidden H.laceCand 0
    let s := if own then (s.setHidden H.laceVeto 0).emit (.ball 22 false) else s
    if vetoed || own then
      let s := s.bumpSat O.laceVetoed 0 0 (popcount m 4)
      .next (s.raiseRare 0x0A3 (s.reg O.laceCycle))
    else .next (((s.setHidden H.laceT (s.hidden H.laceT ||| m)).setHidden H.laceLate m).laceAccept m t)
  else .next s

/-- Drivers at high impedance, waiting events discarded, every line deasserted (R330). -/
def State.laceIdle (s : State) : State :=
  let s := s.laceBalls (s.hidden H.laceOut) false
  let s := if s.hidden H.laceVeto = 1 then s.emit (.ball 22 false) else s
  let s := if s.hidden H.laceS = 1 then s.emit (.ball 17 false) else s
  ((((((s.setHidden H.laceT 0).setHidden H.laceLate 0).setHidden H.lacePend 0).setHidden H.laceOut 0).setHidden H.laceCand 0).setHidden H.laceVeto 0).setHidden H.laceS 0

/-- A period in ps lies within 1 % of 1 ÷ `LACE_HZ`. -/
def State.laceGood (s : State) (period : Nat) : Bool :=
  decide (ratAbs (f64 period * f64 (s.plan O.laceHz) - 1000000000000) ≤ 10000000000)

/-- LACE_CLK is lost (R330). -/
def State.laceLost (s : State) (cause : Nat) : State :=
  ((s.laceIdle.setReg O.laceState 1).setHidden H.laceCounting 0).raise 0x0A0 (cause + 1)

/-- LACE_CLK_LOST (R330). -/
def execLaceClkLost (cause : Fin 2) (s : State) : Result := .next (if s.laceRuns then s.laceLost cause.val else s)

/-- LACE_CLK_OK (R330): after 1,000 good cycles, with the measured period in ps. -/
def execLaceClkOk (period : BitVec 64) (s : State) : Result :=
  if s.plan O.laceEn = 1 ∧ s.reg O.laceState = 1 ∧ s.laceGood period.toNat then
    .next (((s.setReg O.laceState 2).setReg O.lacePeriod period.toNat).raise 0x0A1 period.toNat)
  else .next s

/-- A commit enables or disables the bus, or gives it a frequency that its clock does not have. -/
def State.laceCommit (s : State) (old : Nat) : State :=
  if s.plan O.laceEn = old then (if s.laceRuns && !s.laceGood (s.reg O.lacePeriod) then s.laceLost 1 else s)
  else (s.laceIdle.setHidden H.laceCounting 0).setReg O.laceState (if s.plan O.laceEn = 1 then 1 else 0)

end Sys2Proof.Machine
end

