-- ==== Sys2Proof/Machine/Housekeeping.lean ====
section
/-! DEFINITION. The housekeeping converter: sequencer slots, accumulators, trackers, snapshots and system calibration
(spec 18_housekeeping.md, R407 to R414), and what the steward reads of it (R89, R440, R468). -/

namespace Sys2Proof.Machine

namespace H
/-- calibration step that runs: step × 256 + input (R414) -/
def hkCalRun : Nat := 460
/-- mean code of the zero step, plus one, by input -/
def hkCal0 : Nat := 461
/-- mean code of the full-scale step, plus one, by input -/
def hkCal1 : Nat := 462
/-- lowest temperature of the analysis die since the last thermal cycle, a binary64 pattern plus one (R468) -/
def thLow : Nat := 463
/-- highest since it rose by 20 °C, likewise; 0 before that rise -/
def thHigh : Nat := 464
/-- reading of an internal input, a binary64 pattern, by input -/
def hkRead : Nat := 465
end H

/-- Accumulators and trackers of an input. -/
def State.hkAcc (s : State) (i : Nat) : HkAcc := Map.get s.hk {} i
/-- Set them. -/
def State.setHkAcc (s : State) (i : Nat) (x : HkAcc) : State := { s with hk := Map.put s.hk {} i x }
/-- A sequencer slot. -/
def State.hkSlot (s : State) (n : Nat) : HkSlot := Map.get s.hkSlots {} n
/-- Set it. -/
def State.setHkSlot (s : State) (n : Nat) (x : HkSlot) : State := { s with hkSlots := Map.put s.hkSlots {} n x }

/-! ### Starts (R410, R411) -/

/-- A slot's source starts it: dropped while the previous start is pending; starts in one fP cycle count as one. -/
def State.hkStart (s : State) (n : Nat) (byPg : Bool) : State :=
  let x := s.hkSlot n
  if x.startAt ≠ 0 ∧ s.up + 1 < x.startAt + s.cycleP then s
  else if x.waiting ∨ x.left ≠ 0 then ((s.setHkSlot n { x with startAt := s.up + 1 }).bumpSat O.hkSlotMissed n).raiseRare 0x7E1 n
  else s.setHkSlot n { x with waiting := true, byPg := byPg, startAt := s.up + 1 }

/-- Start every slot whose `HK_SLOT_START` names a source. -/
def State.hkSource (s : State) (start : Nat) (byPg : Bool) : State :=
  (List.range 32).foldl (fun s n => if s.plan O.hkSlotStart n = start then s.hkStart n byPg else s) s

/-- HK_SLOT_DELAY_EXPIRE (R410): the slot requests its conversions. -/
def execHkSlotDelayExpire (n : Fin 32) (s : State) : Result :=
  let x := s.hkSlot n.val
  if x.waiting then .next (s.setHkSlot n.val { x with waiting := false, left := s.plan O.hkSlotReps n.val, input := s.plan O.hkSlotInput n.val }) else .next s

/-! ### Conversions (R412, R413) -/

/-- The trackers see a conversion: only a strictly smaller or larger code replaces the tracked one. -/
def State.hkTrack (s : State) (i code : Nat) : State :=
  let x := s.hkAcc i
  let x := if code < x.min then { x with min := code, minT := s.now } else x
  let x := if x.max < code then { x with max := code, maxT := s.now } else x
  s.setHkAcc i x

/-- The accumulators add a slot conversion; at 2^32 − 1 conversions the input stops accumulating. -/
def State.hkAdd (s : State) (i code : Nat) : State :=
  let x := s.hkAcc i
  if x.count = 2 ^ 32 - 1 then s
  else
    let y := { x with sum := (x.sum + code) % 2 ^ 48, count := x.count + 1, sumsq := (x.sumsq + code * code) % 2 ^ 64 }
    let s := s.setHkAcc i y
    if y.count = 2 ^ 32 - 1 then (s.setReg O.hkFlags (s.reg O.hkFlags i ||| 1) i).raise 0x7E2 i else s

/-- The slot whose conversion is next: timer-started slots first, then those that a pulse generator started, each in
ascending number (R410). -/
def State.hkNext (s : State) : Option Nat :=
  match (List.range 32).find? (fun n => (s.hkSlot n).left != 0 && !(s.hkSlot n).byPg) with
  | some n => some n
  | none => (List.range 32).find? (fun n => (s.hkSlot n).left != 0)

/-- HK_CONVERSION (R412). -/
def execHkConversion (code : BitVec 16) (s : State) : Result :=
  match s.hkNext with
  | none => .next s
  | some n =>
    let x := s.hkSlot n
    let i := x.input
    .next (((s.setHkSlot n { x with left := x.left - 1 }).hkAdd i code.toNat).hkTrack i code.toNat)

/-! ### The steward's conversions (R410, R440, R468) -/

/-- A code in the input's unit. -/
def State.hkValue (s : State) (i code : Nat) : Rat := f64 (s.reg O.hkOffset i) + f64 (s.reg O.hkGain i) * (code : Rat)

/-- Nominal voltage of the rail on input 21 + n (Table 23.5), in units of 10 mV. -/
def railNominal (n : Nat) : Nat := [75, 85, 80, 95, 180, 120, 90, 120, 110, 180].getD n 100

/-- The analysis-die temperature moves the thermal-cycle count (R468). -/
def State.hkThermal (s : State) (t : Rat) : State :=
  let low := s.hidden H.thLow
  let high := s.hidden H.thHigh
  let v := toF64 t + 1
  if low = 0 then s.setHidden H.thLow v
  else if high = 0 then
    if t < f64 (low - 1) then s.setHidden H.thLow v
    else if f64 (low - 1) + 20 ≤ t then s.setHidden H.thHigh v else s
  else if f64 (high - 1) < t then s.setHidden H.thHigh v
  else if t ≤ f64 (high - 1) - 20 then
    ((s.setReg O.thermalCycles (satAdd 16 (s.reg O.thermalCycles) 1)).setHidden H.thLow v).setHidden H.thHigh 0
  else s

/-- One of the steward's readings of inputs 16 to 30. -/
def State.hkSteward (s : State) (i code : Nat) : State :=
  let v := s.hkValue i code
  let s := (s.hkTrack i code).setHidden H.hkRead (toF64 v) i
  if i < 20 then s.setReg O.dieTemp (toF32 v) (i - 16)
  else if i = 20 then s.hkThermal v
  else
    let nom : Rat := (railNominal (i - 21) : Rat) / 100
    if ratAbs (v - nom) * 20 ≤ nom then s.unfault (0x08 + (i - 21)) else s.fault (0x08 + (i - 21)) (toF64 v)

/-- The hottest die drives the junction fault. -/
def State.hkJunction (s : State) : State :=
  let t := (List.range 5).foldl (fun (a : Rat) k => let v := f64 (s.hidden H.hkRead (16 + k)); if a < v then v else a) (-1000)
  if 125 < t then s.fault 0x12 (toF64 t) else s.unfault 0x12

/-- HK_STEWARD_CONVERT (R410): inputs 16 to 30, in order. -/
def execHkStewardConvert (codes : List (BitVec 16)) (s : State) : Result :=
  .next ((((codes.take 15).zipIdx).foldl (fun s p => s.hkSteward (16 + p.2) p.1.toNat) s).hkJunction)

/-- A threshold converter is read through input 31 and trimmed to its code (R414): the trim is a value that the spec does not state. -/
def State.hkTrimOne (s : State) (c : BitVec 16 × Nat) : State :=
  let r := (s.hkTrack 31 c.1.toNat).drawFree
  r.2.setHidden H.hkTrim (r.1 % 2 ^ 32) c.2

/-- HK_THRESHOLD_TRIM (R414): the twenty threshold converters. -/
def execHkThresholdTrim (codes : List (BitVec 16)) (s : State) : Result :=
  .next ((codes.take 20).zipIdx.foldl State.hkTrimOne s)

/-! ### Snapshots (R412) -/

/-- `HK_MEAN`, computed from the snapshot. -/
def State.hkMean (s : State) (i : Nat) : Nat :=
  let n := s.reg O.hkCount i
  if n = 0 then 0 else toF64 (f64 (s.reg O.hkOffset i) + f64 (s.reg O.hkGain i) * (s.reg O.hkSum i : Rat) / (n : Rat))

/-- Copy one input's accumulators and trackers. -/
def State.hkCopy (s : State) (i : Nat) : State :=
  let x := s.hkAcc i
  let s := ((s.setReg O.hkSum x.sum i).setReg O.hkCount x.count i).setReg O.hkSumsq x.sumsq i
  let s := ((s.setReg O.hkMin x.min i).setReg O.hkMax x.max i).setReg O.hkMinT96 x.minT i
  s.setReg O.hkMaxT96 x.maxT i

/-- Clear one input's accumulators and trackers; a saturated input accumulates again. -/
def State.hkClear (s : State) (i : Nat) : State :=
  (s.setHkAcc i {}).setReg O.hkFlags (s.reg O.hkFlags i &&& 0xFE) i

/-- `HK_SNAP_CMD`. -/
def actHkSnap (v : Nat) : Act := refuseIf (v != 1 && v != 2) Abort.range fun s =>
  let s := ((List.range 32).foldl State.hkCopy s).setReg O.hkSnapT96 s.now
  .ok (if v = 2 then (List.range 32).foldl State.hkClear s else s)

/-- HK_SNAPSHOT (R412). -/
def execHkSnapshot (m : Master) (s : State) : Result := s.command m O.hkSnapCmd 1 (actHkSnap 1)

/-- HK_SNAPSHOT_CLEAR (R412). -/
def execHkSnapshotClear (m : Master) (s : State) : Result := s.command m O.hkSnapCmd 2 (actHkSnap 2)

/-! ### System calibration (R414) -/

/-- `HK_CAL_CMD`; step 3 measures the internal reference anew, with a result that the spec does not state. -/
def actHkCal (v : Nat) : Act := fun s =>
  let i := v % 256
  let step := v / 256
  if 15 < i ∨ step = 0 ∨ 3 < step then .error Abort.range
  else if s.hidden H.hkCalRun ≠ 0 then .error Abort.busy
  else if step < 3 then .ok (s.setHidden H.hkCalRun v)
  else
    let a := s.hidden H.hkCal0 i
    let b := s.hidden H.hkCal1 i
    if a = 0 ∨ b = 0 ∨ b < a + 16384 then .error Abort.range
    else
      let g : Rat := f64 (s.reg O.hkCalFsV) / ((b - a : Nat) : Rat)
      let s := (s.setReg O.hkGain (toF64 g) i).setReg O.hkOffset (toF64 (-g * ((a - 1 : Nat) : Rat))) i
      let s := s.setReg O.hkFlags (s.reg O.hkFlags i &&& 0xFD) i
      let r := ((s.setHidden H.hkCal0 0 i).setHidden H.hkCal1 0 i).drawFree
      .ok (r.2.setHidden H.hkIntRef (r.1 % 2 ^ 64)).calTrigger

/-- HK_CAL_ZERO (R414). -/
def execHkCalZero (m : Master) (input : Fin 32) (s : State) : Result := s.command m O.hkCalCmd (256 + input.val) (actHkCal (256 + input.val))

/-- HK_CAL_FULL_SCALE (R414). -/
def execHkCalFullScale (m : Master) (input : Fin 32) (s : State) : Result := s.command m O.hkCalCmd (512 + input.val) (actHkCal (512 + input.val))

/-- HK_CAL_APPLY (R414). -/
def execHkCalApply (m : Master) (input : Fin 32) (s : State) : Result := s.command m O.hkCalCmd (768 + input.val) (actHkCal (768 + input.val))

/-- HK_CAL_DONE (R414): the 4,096 conversions of a step, which the trackers see too; their mean code is kept. -/
def execHkCalDone (codes : List (BitVec 16)) (s : State) : Result :=
  let run := s.hidden H.hkCalRun
  if run = 0 ∨ codes.length ≠ 4096 then .next s
  else
    let i := run % 256
    let step := run / 256
    let mean := (rneDiv ((codes.map BitVec.toNat).foldl (· + ·) 0 : Nat) 4096).toNat
    let s := (codes.foldl (fun s c => s.hkTrack i c.toNat) s).setHidden H.hkCalRun 0
    let s := if step = 1 then s.setHidden H.hkCal0 (mean + 1) i else s.setHidden H.hkCal1 (mean + 1) i
    .next (s.raise 0x7E0 (run + 65536 * mean))

/-- `HK_LOAD` at a commit: 500 ns per conversion of timer-started slots, and the steward's 7.5 µs of every millisecond. -/
def State.hkLoadSet (s : State) : State :=
  let slots := (List.range 32).filter (fun n => decide (1 ≤ s.plan O.hkSlotStart n ∧ s.plan O.hkSlotStart n ≤ 8))
  let share := slots.foldl (fun (a : Rat) n =>
    let p := s.plan O.gtPeriod (s.plan O.hkSlotStart n - 1)
    if p = 0 then a else a + ((500 * 65536 * s.plan O.hkSlotReps n : Nat) : Rat) / (p : Rat)) (75 / 10000)
  s.setReg O.hkLoad (toF64 (if 1 < share then 1 else share))

end Sys2Proof.Machine
end

