-- ==== Sys2Proof/Machine/TimeCounter.lean ====
section
/-! DEFINITION. The time counter: its increment, slews, steps and the steward servo (spec 14_time.md, R301 to R309,
R317, R318), and the tick of fT that an idle block runs to. -/

namespace Sys2Proof.Machine

namespace H
/-- slew remaining in 2^-64 ns, two's complement of 128 bits (R303) -/
def slew : Nat := 300
/-- held offset in 2^-16 ns, two's complement of 128 bits (R305) -/
def heldOffset : Nat := 301
/-- consecutive offsets within `SERVO_LOCK_NS` (R317) -/
def servoGood : Nat := 302
/-- elapsed time of the last PPSIN edge, 2^-16 ns, plus one (R290) -/
def ppsLast : Nat := 303
/-- elapsed time since which PPSIN edges come 1 s ± 1 µs apart, plus one -/
def ppsSince : Nat := 304
/-- phase of the last PPSIN edge against the PLL-C output, ps, later edges positive, two's complement of 64 bits -/
def ppsPhase : Nat := 305
/-- whole second of the last PPSOUT pulse, plus one, and its time in 2^-16 ns (R308) -/
def ppsOut : Nat := 306
/-- device time up to which a general timer's due times are served or skipped, 2^-16 ns, by timer (R409) -/
def gtServed : Nat := 307
/-- time of the present hour during which any of PD01 to PD04 was on (R468), 2^-64 ns -/
def activeAcc : Nat := 308
end H

/-- TC_FREQ_ADJ as a factor (R302). -/
def State.freqFactor (s : State) : Rat := 1 + f64 (s.reg O.tcFreqAdj) / 1000000000

/-- Slew remaining, in 2^-64 ns. -/
def State.slewLeft (s : State) : Int := toI 128 (s.hidden H.slew)

/-- Set it, with the object that shows it. -/
def State.setSlew (s : State) (v : Int) : State :=
  (s.setHidden H.slew (ofI 128 v)).setReg O.tcSlewRemain (ofI 64 (rneDiv v (2 ^ 48)))

/-- The most that one tick slews, in 2^-64 ns (R303). -/
def State.slewMax (s : State) : Nat := (rne ((s.incNom : Rat) * f32 (s.plan O.tcSlewRate) / 1000000)).toNat

/-- The slew offset of the next tick. -/
def State.slewOffset (s : State) : Int :=
  let r := s.slewLeft
  if 0 ≤ r then min r s.slewMax else max r (-(s.slewMax : Int))

/-- The increment without slew, in 2^-64 ns (R302). -/
def State.incBase (s : State) : Int := rne ((s.incNom : Rat) * s.freqFactor)

/-- What a tick adds to the counter: the increment in force, or while PLL-A is not running 10 ns at a PLL-C edge, steered
likewise, the slew offset scaled by the same ratio (R294). -/
def State.tickAdd (s : State) (off : Int) : Int :=
  if s.locked then s.incBase + off
  else rne (10 * (2 ^ 64 : Nat) * s.freqFactor + (off : Rat) * s.froot / 3200000000)

/-- Active hours (R468). -/
def State.countActive (s : State) (add : Nat) : State :=
  if s.reg O.pwrDomainOn / 2 % 16 = 0 then s else
  let acc := s.hidden H.activeAcc + add
  if 3600 * secondTc ≤ acc then (s.setHidden H.activeAcc (acc - 3600 * secondTc)).bumpSat O.hoursActive
  else s.setHidden H.activeAcc acc

/-- A tick takes place with an increment: where it is a new one, the time line bends (R25). -/
def State.bend (s : State) (inc : Nat) : State :=
  if !s.locked ∨ (anchorAt s.idx s.timeline ⟨s.idx, s.tc, s.inc⟩).inc = inc ∧ !s.timeline.isEmpty then s
  else { s with timeline := pushAnchor ⟨s.idx, s.tc, inc⟩ s.timeline }

/-- One tick of fT: the counter advances, the slew remainder shrinks, and the index advances by 32 (R25, R301, R303); a
device held in reset stands still (R478). -/
def tick (s : State) : State :=
  if s.hidden H.boot = 0 then s else
  let off := s.slewOffset
  let inc := (s.tickAdd off).toNat
  let left := s.slewLeft
  let s := s.bend inc
  let s1 := { s with tc := ((s.tc : Int) + s.tickAdd off).toNat, up := s.up + (s.tickAdd off).toNat, idx := if s.locked then s.idx + 32 else s.idx }
  let s1 := (s1.setReg O.tcInc (inc / 2 ^ 32 % 2 ^ 40)).setReg O.tcIncExt (inc % 2 ^ 32)
  let s1 := (s1.setSlew (left - off)).countActive (s.tickAdd off).toNat
  if left ≠ 0 ∧ left - off = 0 then s1.raise 0x063 0 else s1

/-! ### Steps (R304 to R306) -/

/-- The T96 range as a count of 2^-16 ns. -/
def timeTop : Int := (2 ^ 48 * T96.second : Nat)

/-- Whether device time moved by an offset stays in range. -/
def State.inRange (s : State) (off : Int) : Bool :=
  decide (0 ≤ (s.nowTicks : Int) + off ∧ (s.nowTicks : Int) + off < timeTop)

/-- An offset as an I64 object shows it: clamped (log entry 23). -/
def i64 (v : Int) : Nat := ofI 64 (clampI (-(2 ^ 63)) (2 ^ 63 - 1) v)

/-- What became of a step request. -/
inductive StepVerdict where
  | outOfRange | held | accepted
deriving DecidableEq, Repr

/-- Judge a step request (R304, R305): range first, then `JUMP_MAX`; a request beyond it is held. `set` gives the time
that a TC_SET writes. -/
def State.stepRequest (s : State) (src : Nat) (off : Int) (set : Option Int) : State × StepVerdict :=
  if !s.inRange off then (s, .outOfRange)
  else if s.reg O.jumpMax = 0 ∨ ((s.reg O.jumpMax * 65536 : Nat) : Int) < off.natAbs then
    let q := (s.reg O.tcStepHeldSeq + 1) % 2 ^ 32
    let s := (((s.setHidden H.heldOffset (ofI 128 off)).setReg O.tcStepHeld (i64 off)).setReg O.tcStepHeldSrc src).setReg
      O.tcStepHeldSeq q
    (s.raise 0x062 (q + 2 ^ 32 * src), .held)
  else ({ s with steps := s.steps ++ [match set with | some t => (true, t) | none => (false, off)] }, .accepted)

/-- Clear the held request. -/
def State.clearHold (s : State) : State :=
  ((s.setHidden H.heldOffset 0).setReg O.tcStepHeld 0).setReg O.tcStepHeldSrc 0

/-- Device time moves by an offset in 2^-16 ns: pulses that have started keep their distance (R416). -/
def State.pgMoved (s : State) (off : Int) : State :=
  { s with pgs := s.pgs.map (fun p => (p.1, { p.2 with edges := p.2.edges.map (fun e => (((e.1 : Int) + off).toNat, e.2)) })) }

/-- Set the time first (R306): blocks in progress keep TIME_UNSET and their times (R18, R27). It is no step: the due times of general
timers that it passes are neither served nor counted (DESIGN CHOICE, log entry 177). -/
def State.firstSet (s : State) (ticks : Int) : State :=
  let off := ticks - s.nowTicks
  let s := (((s.markUntil 0x200).moveTime (ticks.toNat * 2 ^ 48)).pgMoved off).setReg O.tcValid 1
  let s := (List.range 8).foldl (fun s t => s.setHidden H.gtServed (max (s.hidden H.gtServed t) (s.nowTicks - 1)) t) s
  s.raise 0x060 (s.now >>> 48)

/-- A step request made by a write: its code. -/
def stepWrite (r : State × StepVerdict) : Except Nat State :=
  match r with
  | (_, .outOfRange) => .error Abort.range
  | (s, _) => .ok s

/-- `TC_SET` (R304, R306); a held request is reported by `TcWrite`. -/
def tcSetAct (v : Nat) (s : State) : State × Nat :=
  let t : Int := T96.toTicks v
  if s.timeUnset then (s.firstSet t, 0)
  else
    let r := s.stepRequest 2 (t - s.nowTicks) (some t)
    (r.1, if r.2 = .accepted then 0 else Abort.range)

/-- `TC_STEP` (R304 to R306). -/
def tcStepAct (v : Nat) (s : State) : State × Nat :=
  if s.timeUnset then (s, Abort.range)
  else
    let r := s.stepRequest 1 (toI 64 v) none
    (r.1, if r.2 = .accepted then 0 else Abort.range)

/-- `TC_STEP_ACCEPT` (R305). -/
def actStepAccept (v : Nat) : Act := fun s =>
  if s.reg O.tcStepHeldSrc = 0 ∨ v ≠ s.reg O.tcStepHeldSeq then .error Abort.range
  else
    let off := toI 128 (s.hidden H.heldOffset)
    if s.inRange off then .ok ({ s with steps := s.steps ++ [(false, off)] }.clearHold) else .error Abort.range

/-- `TC_SLEW` (R303). -/
def actSlew (v : Nat) : Act := fun s =>
  if s.plan O.tcServo = 0 then .error Abort.busy
  else
    let left := s.slewLeft
    let new := left + toI 64 v * 2 ^ 48
    if new.natAbs ≤ T96.second * 2 ^ 48 then
      let s := s.setSlew new
      .ok (if left ≠ 0 ∧ new = 0 then s.raise 0x063 0 else s)
    else .error Abort.range

/-- `TC_FREQ_ADJ` (R302, R317): in force from the next tick. -/
def actFreqAdj (v : Nat) : Act := fun s =>
  if s.plan O.tcServo = 0 then .error Abort.busy else .ok (s.setReg O.tcFreqAdj v)

/-- A request whose refusal has an effect of its own (a held step, R305). -/
def State.commandHeld (s : State) (m : Master) (r : Row) (v : Nat) (f : State → State × Nat) : Result :=
  if s.dictReady && s.connected m then
    match s.judge m r v .ok with
    | .error c => .next (s.answer m c)
    | .ok s =>
      let x := f s
      .next (x.1.answer m x.2)
  else .next s

/-- TC_SET (R304, R306). -/
def execTcSet (m : Master) (value : Nat) (s : State) : Result := s.commandHeld m O.tcSet value (tcSetAct value)

/-- TC_STEP (R304). -/
def execTcStep (m : Master) (value : Nat) (s : State) : Result := s.commandHeld m O.tcStep value (tcStepAct value)

/-- TC_STEP_ACCEPT (R305). -/
def execTcStepAccept (m : Master) (value : Nat) (s : State) : Result :=
  s.command m O.tcStepAccept value (actStepAccept value)

/-- The offset of an accepted request at the tick (R304). -/
def stepOffset (now : Nat) (q : Bool × Int) : Int := if q.1 then q.2 - now else q.2

/-- Due times of a general timer in the open interval from `a` to `b`, both counts of 2^-16 ns (R409). -/
def gtBetween (origin period a b : Nat) : Nat :=
  if period = 0 ∨ b ≤ a + 1 then 0
  else ((((b : Int) - 1 - origin) / (period : Int)) - (((a : Int) - origin) / (period : Int))).toNat

/-- A forward step skips the due times that it passes over (R409). -/
def State.gtSkip (s : State) (now : Nat) : State :=
  (List.range 8).foldl (fun s t =>
    let a := s.hidden H.gtServed t
    let n := gtBetween (T96.toTicks (s.plan O.gtOrigin t)) (s.plan O.gtPeriod t) a now
    if n = 0 then s
    else ((s.setHidden H.gtServed (now - 1) t).bumpSat O.gtSkipped t 0 n).raise 0x7E7 (t + 2 ^ 32 * (n % 2 ^ 32))) s

/-- TC_STEP_APPLY (R304, R305, R307, R409): the accepted requests are summed and judged again. -/
def execTcStepApply (s : State) : Result :=
  match s.steps with
  | [] => .next s
  | qs =>
    let off := qs.foldl (fun a q => a + stepOffset s.nowTicks q) 0
    let ok := s.inRange off
    let s := { s with steps := [] }
    if ok then
      let s := ((s.moveTime ((s.tc : Int) + off * 2 ^ 48).toNat).pgMoved off).clearHold
      let s := (s.setReg O.tcLastStep (i64 off)).setReg O.tcLastStepT96 s.now
      .next (((s.markBlocks 8).raise 0x061 (i64 off)).gtSkip s.nowTicks)
    else .next (s.raise 0x062 (s.reg O.tcStepHeldSeq))

/-- TC_SLEW (R303). -/
def execTcSlew (m : Master) (value : Nat) (s : State) : Result := s.command m O.tcSlew value (actSlew value)

/-- TC_SLEW_DONE (R303): the tick that consumes the remainder. -/
def execTcSlewDone (s : State) : Result :=
  if s.slewLeft ≠ 0 ∧ s.slewLeft.natAbs ≤ s.slewMax then .next (tick s).chansTick else .next s

/-- TC_FREQ_ADJ_WRITE (R302). -/
def execTcFreqAdjWrite (m : Master) (value : Nat) (s : State) : Result :=
  s.command m O.tcFreqAdj value (actFreqAdj value)

/-- The whole second of device time that falls into the tick in progress, a count of 2^-16 ns: one that a step passes over never does. -/
def State.wholeSecond (s : State) : Option Nat :=
  let t := (s.nowTicks + T96.second - 1) / T96.second * T96.second
  if t < s.after 32 1 then some t else none

/-- PPSOUT_PULSE (R308): at a whole second of device time, not within 0.5 s of the previous pulse after a backward step;
parked in the safe state (R437). -/
def execPpsoutPulse (s : State) : Result :=
  let last := s.hidden H.ppsOut
  match s.wholeSecond with
  | none => .next s
  | some t =>
    let near := last != 0 && decide (((t : Int) - (last - 1 : Nat)).natAbs < T96.second / 2)
    if s.plan O.ppsoutEn = 1 ∧ s.reg O.frSafe = 0 ∧ !near then
      .next ((s.setHidden H.ppsOut (t + 1)).emit (.pulse 16 (T96.ofTicks t) (s.plan O.ppsoutWidth)))
    else .next s

/-! ### The servo (R317, R318) -/

/-- A change of `SERVO_STATE`. -/
def State.setServo (s : State) (st : Nat) : State :=
  let old := s.reg O.servoState
  if old = st then s else (s.setReg O.servoState st).raise 0x064 (st + 16 * old)

/-- The lock state that an offset leads to: LOCKED after 16 in a row, left beyond four times the limit. -/
def State.servoLock (s : State) (off : Int) : State :=
  let lim := s.plan O.servoLockNs * 65536
  let good := if off.natAbs ≤ lim then s.hidden H.servoGood + 1 else 0
  let s := s.setHidden H.servoGood good
  if s.reg O.servoState = 3 then (if 4 * lim < off.natAbs then (s.setHidden H.servoGood 0).setServo 2 else s)
  else if 16 ≤ good then s.setServo 3 else s.setServo 2

/-- The servo steers by frequency: a free value within its range (log entry 7). -/
def State.servoFreq (s : State) : State :=
  let f := s.drawFree
  f.2.setReg O.tcFreqAdj (toF64 (((f.1 % 800001 : Nat) : Rat) - 400000))

/-- The steward servo takes an offset (R306, R317, R318). The proportional-integral law is given by its bandwidth alone, so
the frequency and slew that it writes are free values within their ranges (log entry 7). -/
def State.servoOffset (s : State) (off : Int) : State :=
  if s.plan O.tcServo ≠ 0 then s
  else if s.timeUnset then ((s.firstSet ((s.nowTicks : Int) - off)).setServo 2).servoLock off
  else
    let s := s.servoLock off
    let big := decide (s.plan O.servoStepThr * 65536 < off.natAbs)
    if big then
      let r := s.stepRequest 3 (-off) none
      if r.2 = .accepted then r.1 else r.1.servoFreq
    else
      let g := s.servoFreq.drawFree
      g.2.setSlew (((g.1 % (2 * T96.second + 1) : Nat) - (T96.second : Int)) * 2 ^ 48)

/-- SERVO_HOLDOVER_TIMEOUT (R317). -/
def execServoHoldoverTimeout (s : State) : Result :=
  if s.plan O.tcServo = 0 ∧ (s.reg O.servoState = 2 ∨ s.reg O.servoState = 3) then
    .next ((s.setHidden H.servoGood 0).setServo 4)
  else .next s

end Sys2Proof.Machine
end

