-- ==== Sys2Proof/Machine/Pulse.lean ====
section
/-! DEFINITION. General timers, window monitors and pulse generators (spec 18_housekeeping.md, R409, R415 to R420). -/

namespace Sys2Proof.Machine

namespace H
/-- time of a generator's last start, a count of 2^-16 ns plus one: starts in one fC cycle count as one (R417) -/
def pgStart : Nat := 470
end H

/-- A generator. -/
def State.pg (s : State) (g : Nat) : Pg := Map.get s.pgs {} g
/-- Set it. -/
def State.setPg (s : State) (g : Nat) (x : Pg) : State := { s with pgs := Map.put s.pgs {} g x }

/-- A time in units of 1/64 of the fC period as a count of 2^-16 ns (R416). -/
def State.pgTime (s : State) (u : Nat) : Nat := (rneDiv ((s.inc * u : Nat) : Int) (256 * 2 ^ 48)).toNat

/-- The ball a generator drives (R420): its own, DDC_SYNC_N, GATE_N or none. -/
def State.pgOut (s : State) (g : Nat) (level : Bool) : State :=
  let s := s.setPg g { s.pg g with level := level }
  match s.plan O.pgBall g with
  | 0 => s.emit (.ball g level)
  | 1 => s.emit (.ball 23 level)
  | 2 => s.emit (.ball 24 level)
  | _ => s

/-- The idle level. -/
def State.pgIdleLevel (s : State) (g : Nat) : Bool := s.plan O.pgIdle g == 1

/-- A start or an edge is ignored (R417). -/
def State.pgIgnore (s : State) (g : Nat) : State := (s.bumpSat O.pgIgnored g).raiseRare 0x7E6 g

/-- Put an edge into a generator's list, in time order. -/
def insEdge (e : Nat × Bool) : List (Nat × Bool) → List (Nat × Bool)
  | [] => [e]
  | f :: fs => if e.1 < f.1 then e :: f :: fs else f :: insEdge e fs

/-- A pulse whose leading edge falls at a time. -/
def State.pgPulse (s : State) (g t : Nat) : State :=
  let x := s.pg g
  s.setPg g { x with edges := insEdge (t + s.pgTime (s.plan O.pgWidth g), false) (insEdge (t, true) x.edges) }

/-- The pulses of a single or burst generator, the first one's leading edge at a time. -/
def State.pgRun (s : State) (g t : Nat) : State :=
  let n := if s.plan O.pgMode g = 3 then s.plan O.pgCount g else 1
  ((List.range n).foldl (fun s i => s.pgPulse g (t + s.pgTime (i * s.plan O.pgSpacing g))) s).setReg O.pgState 1 g

/-- A start reaches a generator at a time (R416, R417): single and burst take it, unless they run or are tripped; other modes
ignore and count it, as R427 says of a start by an event. -/
def State.pgStartAt (s : State) (g t delay : Nat) : State :=
  let mode := s.plan O.pgMode g
  let last := s.hidden H.pgStart g
  if last ≠ 0 ∧ t + 1 < last + s.pgTime 64 ∧ last ≤ t + 1 then s
  else
    let s := s.setHidden H.pgStart (t + 1) g
    if (mode = 2 ∨ mode = 3) ∧ s.reg O.pgState g = 0 then s.pgRun g (t + delay) else s.pgIgnore g

/-- `PG_FIRE`: at the first fC cycle after the write. -/
def State.pgFireNow (s : State) (g : Nat) : State := s.pgStartAt g (s.after 8 1) (s.pgTime (s.plan O.pgDelay g))

/-- `PG_FIRE` = 1. -/
def actPgFire (g v : Nat) : Act := onlyOne v <| reaching 31 fun s => .ok (s.pgFireNow g)

/-- PG_FIRE (R417). -/
def execPgFire (m : Master) (g : Fin 16) (value : Nat) (s : State) : Result := s.command m O.pgFire value (actPgFire g.val value)

/-- The most fF cycles from a trigger's source to a PG pin (Table 7.3). -/
def pgLatencyMax (src : Nat) : Nat :=
  match src with
  | 1 => 96
  | 2 => 52
  | 3 => 48
  | 4 => 54
  | 7 => 55
  | _ => 46

/-- A trigger unit's event starts the generators that name it (R417), from the moment that Table 7.3 counts from: with a latency
that the spec bounds by that table, and by `wait` cycles more for a source that waits behind others, and does not fix: a free
value (log entry 7). -/
def State.pgUnit (s : State) (u src base wait : Nat) : State :=
  (List.range 16).foldl (fun s g =>
    let mode := s.plan O.pgMode g
    if (s.plan O.pgTrigUnits g).testBit u ∧ (mode = 2 ∨ mode = 3) then
      let f := s.drawFree
      f.2.pgStartAt g (base + f.2.pgTime (f.1 % (pgLatencyMax src + wait + 1) * 32)) (s.pgTime (s.plan O.pgDelay g))
    else s) s

/-- A timed entry of kind 7 (R417): the leading edge falls at its time; a run in progress ignores it without a drop. -/
def State.pgTimed (s : State) (g t : Nat) : Option State :=
  let mode := s.plan O.pgMode g
  if mode = 2 ∨ mode = 3 then some (s.pgStartAt g t 0) else none

/-- A timed entry of kind 8 (Table 14.3): 0 low, 1 high, 2 invert, in mode 1 only. -/
def State.pgNoise (s : State) (g v : Nat) : Option State :=
  if s.plan O.pgMode g = 1 then
    if s.reg O.pgState g = 2 then some s
    else some (s.pgOut g (if v = 2 then !(s.pg g).level else v == 1))
  else none

/-- PG_PULSE_EDGE (R416): the next edge has come within the tick in progress. -/
def execPgPulseEdge (g : Fin 16) (s : State) : Result :=
  let n := g.val
  let x := s.pg n
  match x.edges with
  | [] => .next s
  | (t, lead) :: rest =>
    if s.after 32 1 < t then .next s
    else
      let s := (s.setPg n { x with edges := rest }).pgOut n (lead != s.pgIdleLevel n)
      if lead then
        let s := ((s.bump O.pgPulses n).setReg O.pgLastT96 (T96.ofTicks t) n).setReg O.pgState 1 n
        .next (s.hkSource (9 + n) true)
      else
        let mode := s.plan O.pgMode n
        .next (if (mode = 2 ∨ mode = 3) ∧ !rest.isEmpty then s else s.setReg O.pgState 0 n)

/-- An edge of a periodic or pulse-per-second generator falls due (R416, R417). -/
def State.pgDue (s : State) (g t : Nat) : State :=
  if s.reg O.pgState g = 2 then s.pgIgnore g else s.pgPulse g (t + s.pgTime (s.plan O.pgDelay g))

/-- PG_PPS_EDGE (R416, R417): each whole second of device time, none twice and none that a step passes over. -/
def execPgPpsEdge (g : Fin 16) (s : State) : Result :=
  let n := g.val
  match s.wholeSecond with
  | none => .next s
  | some t =>
    let sec := t / T96.second
    if s.plan O.pgMode n = 5 ∧ (s.pg n).lastSecond < sec then
      .next ((s.setPg n { s.pg n with lastSecond := sec }).pgDue n t)
    else .next s

/-- GT_DUE (R409): the earliest due time not yet served, where it has come. -/
def execGtDue (t : Fin 8) (s : State) : Result :=
  let n := t.val
  let per := s.plan O.gtPeriod n
  if per = 0 then .next s
  else
    let origin : Int := T96.toTicks (s.plan O.gtOrigin n)
    let due := (origin + per * (((s.hidden H.gtServed n : Int) - origin) / per + 1)).toNat
    if s.nowTicks < due then .next s
    else
      let s := ((s.setHidden H.gtServed due n).bump O.gtTicks n).hkSource (n + 1) false
      .next ((List.range 16).foldl (fun s g =>
        if s.plan O.pgMode g = 4 ∧ s.plan O.pgTimer g = n then s.pgDue g due else s) s)

/-! ### Trips (R415, R418, R419) -/

/-- The monitors that trip a generator. -/
def State.pgTripping (s : State) (g : Nat) : Nat := (s.reg O.wmState ^^^ s.plan O.pgTripInv g) &&& s.plan O.pgTripMask g &&& 0xFFF

/-- A generator trips: its output goes to the trip level and any pulse is abandoned. -/
def State.pgTrip (s : State) (g monitors : Nat) : State :=
  let s := (s.setPg g { s.pg g with edges := [] }).pgOut g (s.plan O.pgTripLevel g == 1)
  let s := ((s.setReg O.pgState 2 g).bumpSat O.pgTrips g).setReg O.pgTripT96 s.now g
  (s.raise 0x7E4 (g + 16 * monitors)).hkSource (9 + g) true

/-- A generator is released: its output returns to idle. -/
def State.pgRelease (s : State) (g : Nat) : State :=
  ((s.pgOut g (s.pgIdleLevel g)).setReg O.pgState 0 g).raise 0x7E5 g

/-- A monitor has changed: what it does to one generator. -/
def State.pgMonitor (s : State) (g mon : Nat) : State :=
  let t := s.pgTripping g
  if s.plan O.pgMode g ≠ 0 ∧ t.testBit mon ∧ s.reg O.pgState g ≠ 2 then s.pgTrip g t else s

/-- A monitor's output changes (R415, R418). -/
def State.wmSet (s : State) (mon : Nat) (asserted : Bool) : State :=
  let old := s.reg O.wmState
  if old.testBit mon = asserted then s
  else
    let s := s.setReg O.wmState (setBit old mon asserted)
    let s := if asserted then s.raiseRare 0x7E3 (s.reg O.wmState) else s
    (List.range 16).foldl (fun s g => s.pgMonitor g mon) s

/-- WM_CHANGE (R415, R418): monitors 0 to 7 are the comparators of TIN0 to TIN7, whose states the model holds; `asserted` speaks of
the RF windows. -/
def execWmChange (mon : Fin 12) (asserted : Bool) (s : State) : Result :=
  .next (s.wmSet mon.val (if mon.val < 8 then s.hidden H.comp mon.val == 1 else asserted))

/-! ### Edges at the counter's inputs (R237, R238, R241) -/

/-- A comparator of TINn changes state: so does its window monitor; the channel has an edge where it counts TINn. -/
def State.compSet (s : State) (n : Nat) (up : Bool) (stop code : Nat) : State :=
  let s := (s.setHidden H.comp (b2n up) n).wmSet n up
  if s.plan O.ticSrc n = 0 then s.sourceEdge n up stop code else s

/-- TIN_EDGE (R237 to R246): a crossing of TINn's thresholds, which acts on the comparator whatever the channel counts, or an edge
of the tap that the channel counts. A domain that is off has no comparators. -/
def execTinEdge (ch : Fin 8) (tap up : Bool) (stop : Fin 4) (code : BitVec 12) (s : State) : Result :=
  let n := ch.val
  if !bit (s.reg O.pwrDomainOn) 32 then .next s
  else if tap then .next (if s.plan O.ticSrc n = 0 then s else s.sourceEdge n up stop.val code.toNat)
  else if s.reg O.ticUndecided n = 1 then
    let s := (s.setReg O.ticUndecided 0 n).raise (ticEvent n 6) (b2n up)
    .next (if up then s.compSet n true stop.val code.toNat else s)
  else .next (if s.hidden H.comp n = b2n up then s else s.compSet n up stop.val code.toNat)

/-- `PG_TRIP_CLR` = 1: a latched trip. -/
def actPgTripClr (g v : Nat) : Act := onlyOne v <| reaching 31 fun s =>
  if s.reg O.pgState g ≠ 2 ∨ (s.pg g).byFault ∨ s.plan O.pgTripHold g ≠ 0 then .ok s
  else if s.pgTripping g ≠ 0 then .error Abort.busy
  else .ok (s.pgRelease g)

/-- PG_TRIP_CLR (R419). -/
def execPgTripClr (m : Master) (g : Fin 16) (value : Nat) (s : State) : Result :=
  s.command m O.pgTripClr value (actPgTripClr g.val value)

/-- PG_TRIP_RELEASE (R419): `PG_TRIP_HOLD` cycles have passed without a trip. -/
def execPgTripRelease (g : Fin 16) (s : State) : Result :=
  let n := g.val
  if s.reg O.pgState n = 2 ∧ !(s.pg n).byFault ∧ s.plan O.pgTripHold n ≠ 0 ∧ s.pgTripping n = 0 then .next (s.pgRelease n)
  else .next s

/-- Step 4 of the fault ladder trips every generator (Table 19.3). -/
def State.pgTripAll (s : State) : State :=
  (List.range 16).foldl (fun s g =>
    let was := s.reg O.pgState g == 2
    let s := s.setPg g { s.pg g with byFault := true, before := was }
    if was then s else s.pgTrip g 0) s

/-- The release of the safe state (R439): every generator that step 4 tripped returns to its idle level; one that was tripped
before is under R419 again. -/
def State.pgReleaseAll (s : State) : State :=
  (List.range 16).foldl (fun s g =>
    if (s.pg g).byFault then
      let was := (s.pg g).before
      let s := s.setPg g { s.pg g with byFault := false, before := false }
      if was then s else s.pgRelease g
    else s) s

/-! ### Commits -/

/-- The settings of a generator. -/
def pgRows : List Row :=
  [O.pgMode, O.pgIdle, O.pgWidth, O.pgDelay, O.pgSpacing, O.pgCount, O.pgTimer, O.pgTrigUnits, O.pgBall, O.pgTripMask,
   O.pgTripInv, O.pgTripLevel, O.pgTripHold]

/-- A commit that changes a generator's settings ends its pulses; its output goes to idle unless it is tripped. A changed timer
serves due times from the commit on. -/
def State.pulseCommit (s : State) (old : Store) : State :=
  let s := (List.range 16).foldl (fun s g =>
    if pgRows.all (fun r => planVal old r g == s.plan r g) then s
    else
      let x := s.pg g
      let s := s.setPg g { x with edges := [], lastSecond := if planVal old O.pgMode g = 5 then x.lastSecond else (s.nowTicks - 1) / T96.second }
      if s.reg O.pgState g = 2 ∧ (x.byFault ∨ s.plan O.pgMode g ≠ 0) then s
      else (s.pgOut g (s.pgIdleLevel g)).setReg O.pgState 0 g) s
  let s := (List.range 8).foldl (fun s t =>
    if planVal old O.gtOrigin t = s.plan O.gtOrigin t ∧ planVal old O.gtPeriod t = s.plan O.gtPeriod t then s
    else s.setHidden H.gtServed (s.nowTicks - 1) t) s
  s.hkLoadSet

end Sys2Proof.Machine
end

