-- ==== Sys2Proof/Machine/Converters.lean ====
section
/-! DEFINITION. Converter channels and their background calibration (spec 04_converters.md). SAMPLE_BLOCK itself stands in
Machine/Blocks.lean, since a block also reaches the units behind it. -/

namespace Sys2Proof.Machine

namespace H
/-- latency of a channel's path to the corrector, as start-up training measured it, 2^-16 ns (R15, Table 4.1) -/
def busLat : Nat := 434
end H

/-- A channel. -/
def State.cv (s : State) (ch : Nat) : Conv := Map.get s.conv {} ch
/-- Set it. -/
def State.setCv (s : State) (ch : Nat) (c : Conv) : State := { s with conv := Map.put s.conv {} ch c }

/-- Event k of a channel (Table 4.9). -/
def cvEvent (ch k : Nat) : Nat := 0x100 + 0x10 * ch + k

/-- A channel samples. -/
def State.sampling (s : State) (ch : Nat) : Bool := s.plan O.cvEnable ch == 1 && s.locked && !(s.cv ch).isolated

/-- The idle sub-converter of a channel. -/
def State.idle (s : State) (ch : Nat) : Option Nat := if s.reg O.idleSc ch = 0xFF then none else some (s.reg O.idleSc ch)

/-! ### Times of samples (R25, R87) -/

/-- The time counter at an index, 2^-16 ns. -/
def State.stampAt (s : State) (n : Nat) : Nat := (rneDiv (s.counterAt n) (32 * 2 ^ 48)).toNat

/-- The stamp of a block: the time counter at the tick of its first sample, less the latency of the channel's sample bus (R15,
R24, R25). -/
def State.blockStamp (s : State) (ch block : Nat) : Nat := s.stampAt (block * 65536) - s.hidden H.busLat ch

/-- The time of a sample of a channel, 2^-16 ns (R25, R87). -/
def State.sampleTime (s : State) (ch n : Nat) : Nat :=
  ((s.blockStamp ch (n / 65536) : Int) + rneDiv (s.counterAt n - s.counterAt (n / 65536 * 65536)) (32 * 2 ^ 48)).toNat

/-- FLAGS of the block in progress as it stands, with or without OVERRANGE (Table 4.5). -/
def State.blockFlags (s : State) (ch : Nat) (ovr : Bool) : Nat :=
  let c := s.cv ch
  c.now ||| flagIf s.clkUnqual BF.clkUnqual ||| flagIf s.timeUnset BF.timeUnset |||
    flagIf (s.reg O.sparePresent ch == 0) BF.noSpare |||
    flagIf (c.parity || (c.failed.isSome && decide (c.suspectFrom ≤ c.next))) BF.suspect ||| flagIf ovr BF.overrange

/-- FLAGS and CAL_SEQ of an output whose input spans the indices from `a` to `b` (R96); a block in progress gives its flags as
they stand (log entry 139). -/
def State.spanFlags (s : State) (ch a b : Nat) : Nat × Nat :=
  let c := s.cv ch
  let done := (c.blocks.filter (fun p => decide (a / 65536 ≤ p.1 ∧ p.1 ≤ b / 65536))).map (fun p => p.2 % 65536) |>.foldl (· ||| ·) 0
  (done ||| (if a / 65536 ≤ c.next / 65536 ∧ c.next / 65536 ≤ b / 65536 then s.blockFlags ch false else 0),
   match c.blocks.find? (fun p => p.1 == b / 65536) with
    | some p => p.2 / 65536
    | none => s.reg O.calSeq ch)

/-! ### The spare (R97 to R99) -/

/-- A channel without an idle sub-converter (R99); a failed sub-converter that waits for its swap stays in its slot (R98). -/
def State.cvNoSpare (s : State) (ch : Nat) : State :=
  let s := s.setCv ch { s.cv ch with run := 0, overlap := false, again := false, due := 0 }
  let s := ((s.setReg O.calState 3 ch).setReg O.sparePresent 0 ch).setReg O.idleSc 0xFF ch
  let s := s.raise (cvEvent ch 4) (s.plan O.calMode ch)
  let s := if (s.cv ch).failed.isSome then s.fault (0x20 + ch) (s.cv ch).next else s
  if s.plan O.calMode ch = 1 ∧ s.sampling ch then s.fault (0x24 + ch) 0xFF else s

/-- A sub-converter retires (R97, R98). -/
def State.scRetire (s : State) (ch sc reason : Nat) : State :=
  ((s.setReg O.scState 3 ch sc).raise (cvEvent ch 3) (sc + 256 * reason)).retire 1 ch sc reason (reason == 7) true

/-- Abandon a run in progress (R97, R100): the idle sub-converter keeps its last completed corrections. -/
def State.runAbandon (s : State) (ch : Nat) : State :=
  let c := s.cv ch
  let s := s.setCv ch { c with run := 0, overlap := false, again := false }
  match s.idle ch with
  | some i =>
    let s := if s.reg O.scState ch i = 2 then s.setReg O.scState 1 ch i else s
    s.setReg O.calState (if s.plan O.calMode ch = 0 then 2 else 0) ch
  | none => s

/-! ### Rotations (R88 to R93) -/

/-- The channel's temperature has left `CAL_TREF` by more than `CAL_DT`. -/
def State.calFar (s : State) (ch : Nat) : Bool :=
  decide (f32 (s.plan O.calDt ch) < ratAbs (f32 (s.reg O.dieTemp ch) - f32 (s.reg O.calTref ch)))

/-- A rotation falls due with a cause. -/
def State.calDue (s : State) (ch cause : Nat) : State :=
  let c := s.cv ch
  if c.run = 0 ∧ c.due = 0 then s.setCv ch { c with due := cause } else s

/-- CAL_EVALUATE (R89). -/
def execCalEvaluate (ch : Fin 4) (s : State) : Result :=
  let n := ch.val
  let max := s.plan O.calMaxInterval n
  if s.sampling n ∧ s.plan O.calMode n ≠ 0 ∧ (s.idle n).isSome then
    if s.calFar n then .next (s.calDue n 1)
    else if max ≠ 0 ∧ T96.toTicks (s.reg O.calLastT96 n) + max * T96.second ≤ s.nowTicks then .next (s.calDue n 2)
    else .next s
  else .next s

/-- `CAL_CMD` (R100). -/
def actCalCmd (ch v : Nat) : Act := onlyOne v <| reaching (1 + ch) fun s =>
  if s.plan O.calMode ch = 0 ∨ s.idle ch = none ∨ !s.sampling ch then .error Abort.range
  else if (s.cv ch).run ≠ 0 then .error Abort.busy
  else .ok (s.calDue ch 3)

/-- CAL_CMD (R100). -/
def execCalCmd (m : Master) (ch : Fin 4) (value : Nat) (s : State) : Result :=
  s.command m O.calCmd value (actCalCmd ch.val value)

/-- Run 1 begins. -/
def State.rotStart (s : State) (ch i cause : Nat) : State :=
  let s := s.setCv ch { s.cv ch with run := 1, overlap := false, again := false, due := 0, tStart := s.reg O.dieTemp ch }
  ((s.setReg O.scState 2 ch i).setReg O.calState 1 ch).raise (cvEvent ch 0) cause

/-- CAL_ROT_START (R89): at the next block boundary. -/
def execCalRotStart (ch : Fin 4) (s : State) : Result :=
  let n := ch.val
  match s.idle n with
  | none => .next s
  | some i =>
    if (s.cv n).due ≠ 0 ∧ (s.cv n).run = 0 ∧ s.sampling n ∧ s.plan O.calMode n ≠ 0 then .next (s.rotStart n i (s.cv n).due)
    else .next s

/-- The first limit of Table 4.6 that a measurement breaks; 0 none. -/
def calReason (m : CalMeas) : Nat :=
  if 64 * 65536 < m.offset.natAbs then 1
  else if 50000 < m.gain.natAbs then 2
  else if 5000 < m.skew.natAbs then 3
  else if 100000 < m.bandwidth.natAbs then 4
  else if 1500000 < m.noise then 5 else 0

/-- A sub-converter's corrections are completed (R90). -/
def State.scCorrect (s : State) (ch sc : Nat) (m : CalMeas) : State :=
  let c := s.cv ch
  let k := 17 * ch + sc
  let s := s.setCv ch { c with age := Map.put c.age 0 sc (c.ageLast + 1), ageLast := c.ageLast + 1 }
  (((s.setHidden H.scOffset (ofI 64 m.offset) k).setHidden H.scGain (ofI 64 m.gain) k).setHidden H.scSkew (ofI 64 m.skew)
    k).setHidden H.scBandwidth (ofI 64 m.bandwidth) k

/-- A failed run (R97): repeated once in full, then the sub-converter retires. -/
def State.runFailed (s : State) (ch sc reason : Nat) : State :=
  let c := s.cv ch
  if c.again then (s.scRetire ch sc reason).cvNoSpare ch
  else s.setCv ch { c with again := true, overlap := false }

/-- Run 17 has passed: the rotation ends (R90). -/
def State.rotEnd (s : State) (ch i : Nat) : State :=
  let t := s.reg O.dieTemp ch
  let t0 := (s.cv ch).tStart
  let s := s.setCv ch { s.cv ch with run := 0, again := false }
  let s := ((s.setReg O.scState 1 ch i).setReg O.calTref t ch).setReg O.calLastT96 s.now ch
  let s := ((s.setReg O.calState (if s.plan O.calMode ch = 0 then 2 else 0) ch).setHidden H.calStale 1).raise (cvEvent ch 2) t
  if f32 (s.plan O.calDt ch) < ratAbs (f32 t - f32 t0) then s.rotStart ch i 1 else s

/-- CAL_RUN_END (R90, R97). -/
def execCalRunEnd (ch : Fin 4) (meas : CalMeas) (s : State) : Result :=
  let n := ch.val
  let c := s.cv n
  match s.idle n with
  | none => .next s
  | some i =>
    if c.run = 0 ∨ c.overlap then .next s
    else if calReason meas ≠ 0 then .next (s.runFailed n i (calReason meas))
    else
      let s := s.scCorrect n i meas
      if c.run < 17 then .next (s.setCv n { s.cv n with overlap := true }) else .next (s.rotEnd n i)

/-- The slot whose holder has the oldest corrections, the lowest on a tie (R91). -/
def State.oldestSlot (s : State) (ch : Nat) : Nat :=
  let age := fun slot => Map.get (s.cv ch).age 0 (s.reg O.slotSc ch slot)
  (List.range 16).foldl (fun best slot => if age slot < age best then slot else best) 0

/-- A calibration step (R93): `marks` are its markers, on the block that follows. -/
def State.calStep (s : State) (ch slot inc out marks : Nat) : State :=
  let c := s.cv ch
  let s := s.setCv ch { c.mark (c.next / 65536) marks with scIn := inc, scOut := out, slot := slot }
  let s := ((s.setReg O.slotSc inc ch slot).setReg O.scState 0 ch inc).bump O.calSeq ch
  s.raise (cvEvent ch 1) (s.reg O.calSeq ch + 2 ^ 16 * slot + 2 ^ 20 * inc + 2 ^ 25 * out)

/-- CAL_OVERLAP_END (R92, R93): the rms difference of the overlap block and the rms signal of its slot, in 1/65,536 code. -/
def execCalOverlapEnd (ch : Fin 4) (rmsDiff rmsSignal : Nat) (s : State) : Result :=
  let n := ch.val
  let c := s.cv n
  match s.idle n with
  | none => .next s
  | some i =>
    if c.run = 0 ∨ !c.overlap then .next s
    else if 800 * 65536 + rmsSignal < 100 * rmsDiff then
      .next ((s.raise (cvEvent n 5) (i + 256 * 6)).runFailed n i 6)
    else
      let slot := s.oldestSlot n
      let out := s.reg O.slotSc n slot
      let s := s.setCv n { c with run := c.run + 1, overlap := false, again := false }
      .next (((s.calStep n slot i out BF.cal).setReg O.scState 2 n out).setReg O.idleSc out n)

/-! ### Hard failures (R97, R98) -/

/-- SC_HARD_FAILURE (R97, R98): of an active sub-converter, or of the idle one. -/
def execScHardFailure (ch : Fin 4) (sc : Fin 17) (s : State) : Result :=
  let n := ch.val
  let c := s.cv n
  if s.reg O.scState n sc.val = 0 then
    if c.failed = some sc.val ∨ c.more.contains sc.val then .next s
    else if c.failed.isSome then .next ((s.setCv n { c with more := c.more ++ [sc.val] }).fault (0x20 + n) c.next)
    else
    let s := s.setCv n { c with failed := some sc.val, suspectFrom := if s.idx ≤ c.next then c.next else c.next + 65536 }
    .next (if (s.idle n).isSome then s else s.fault (0x20 + n) c.next)
  else if s.idle n = some sc.val then .next (((s.runAbandon n).scRetire n sc.val 7).cvNoSpare n)
  else if s.fitting = some (1, n, sc.val) then .next (s.fitFail 4 0)
  else .next s

/-- SC_FORCED_SWAP (R98). -/
def execScForcedSwap (ch : Fin 4) (s : State) : Result :=
  let n := ch.val
  match (s.cv n).failed, s.idle n with
  | some f, some i =>
    match (List.range 16).find? (fun slot => s.reg O.slotSc n slot == f) with
    | none => .next s
    | some slot =>
      let s := s.runAbandon n
      let c := s.cv n
      let s := s.setCv n { c with failed := c.more.head?, more := c.more.drop 1 }
      let s := (s.calStep n slot i f (BF.cal + BF.retire)).scRetire n f 7
      .next ((if c.more.isEmpty then s.unfault (0x20 + n) else s).cvNoSpare n)
  | _, _ => .next s

/-- SAMPLE_BUS_PARITY_FAIL (R16): the block in progress is SUSPECT; its samples are still delivered. -/
def execSampleBusParityFail (ch : Fin 4) (s : State) : Result :=
  let n := ch.val
  if s.sampling n then .next ((s.setCv n { s.cv n with parity := true }).occurrence (0x20 + n) (s.cv n).next) else .next s

/-! ### Blocks (R83, R84, R94) -/

/-- A corrected sample in units of 1/65,536 code as its 12-bit code, and whether it saturated (R83). -/
def roundSample (x : Int) : Int × Bool :=
  let r := rneDiv x 65536
  (clampI (-2048) 2047 r, decide (r < -2048 ∨ 2047 < r))

/-- Samples in the 12-bit packed format. -/
def packSamples : List Int → List Byte
  | a :: b :: r => leBytes (ofI 12 a + 4096 * ofI 12 b) 3 ++ packSamples r
  | [a] => leBytes (ofI 12 a) 2
  | [] => []

/-- Samples in a format (Table 4.3). -/
def sampleBytes (fmt : Nat) (l : List Int) : List Byte := if fmt = 0 then packSamples l else l.flatMap (fun v => leBytes (ofI 16 v) 2)

/-- Table 4.4 as a bit pattern. -/
def State.blockHeader (s : State) (ch flags : Nat) : Nat :=
  let c := s.cv ch
  c.next * 2 ^ 192 + T96.ofTicks (s.blockStamp ch (c.next / 65536)) * 2 ^ 96 + s.reg O.idxEpoch ch * 2 ^ 64 + s.reg O.calSeq ch * 2 ^ 48 + c.scIn * 2 ^ 43 +
    c.scOut * 2 ^ 38 + c.slot * 2 ^ 34 + ch * 2 ^ 32 + c.gen % 2 ^ 16 * 2 ^ 16 + flags

/-! ### Starting and stopping -/

/-- A sampling channel takes up `CAL_MODE` (R88, R99, R100): when it starts, and when a commit changes the mode. -/
def State.convMode (s : State) (ch : Nat) : State :=
  let s :=
    if s.plan O.calMode ch ≠ 1 then s.unfault (0x24 + ch)
    else if (s.idle ch).isNone then s.fault (0x24 + ch) 0xFF else s
  if s.plan O.calMode ch = 0 then
    let s := s.runAbandon ch
    s.setCv ch { s.cv ch with due := 0 }
  else if (s.idle ch).isSome ∧ (s.cv ch).run = 0 then s.setReg O.calState 0 ch
  else s

/-- Sampling starts, or starts again after a gap: the first block begins at the next multiple of 65,536, and it is the first
block under a plan committed meanwhile (R86, R94, R95). -/
def State.convStart (s : State) (ch : Nat) : State :=
  let c := s.cv ch
  let n := blockFrom s.idx
  let marks := BF.gap ||| flagIf (c.sent != s.reg O.planGen) BF.plan
  let s := s.setCv ch { c with next := n * 65536, marks := [(n, marks)], scIn := 31, scOut := 31, slot := 0, parity := false,
                               isolated := false, blocks := [], gen := s.reg O.planGen, fmt := s.plan O.cvFormat ch }
  let s := s.convMode ch
  if s.plan O.calMode ch ≠ 0 ∧ (s.idle ch).isSome ∧ s.calFar ch then s.calDue ch 1 else s

/-- Sampling stops (R100). -/
def State.convStop (s : State) (ch : Nat) : State :=
  let s := s.runAbandon ch
  s.setCv ch { s.cv ch with due := 0, marks := [] }

end Sys2Proof.Machine
end

