-- ==== Sys2Proof/Machine/Trig.lean ====
section
/-! DEFINITION. Sines and cosines of fractions of a turn, and the prototypes of R131, as integers in units of 2^-128: the
spec gives their formulas, and every use narrows the result to far fewer bits (log entry 2). -/

namespace Sys2Proof

/-- 2^128: one, in the units of this file. -/
def Trig.one : Int := 2 ^ 128

/-- π × 2^128, rounded down. -/
def Trig.pi : Int := 0x3243F6A8885A308D313198A2E03707344

/-- Product of two numbers in these units. -/
def Trig.mul (a b : Int) : Int := a * b / Trig.one

/-- Terms of a Taylor series with argument squared `x2`: from `term` on, `i` the exponent it has reached. -/
def Trig.series (x2 : Int) : Nat → Nat → Int → Int
  | 0, _, _ => 0
  | n + 1, i, term => term + Trig.series x2 n (i + 2) (-(Trig.mul term x2) / (((i + 1) * (i + 2) : Nat) : Int))

/-- 2π × num / den, brought to within half a turn of 0. -/
def Trig.angle (num : Int) (den : Nat) : Int :=
  let r := (2 * num + den) % (2 * den) - den
  Trig.pi * r / den

/-- cos(2π × num / den). -/
def cosTurn (num : Int) (den : Nat) : Int :=
  let x := Trig.angle num den
  Trig.series (Trig.mul x x) 28 0 Trig.one

/-- sin(2π × num / den). -/
def sinTurn (num : Int) (den : Nat) : Int :=
  let x := Trig.angle num den
  Trig.series (Trig.mul x x) 28 1 x

/-- sinc(z) = sin(πz) ÷ (πz) for z = num / den, 1 at 0 (R131). -/
def sincAt (num : Int) (den : Nat) : Int :=
  if num = 0 then Trig.one else sinTurn num (2 * den) * den * Trig.one / (Trig.pi * num)

/-- Coefficients of a built-in window as 10^-9, the cosines' signs alternating (R131). -/
def windowCoefs (w : Nat) : List Nat :=
  match w with
  | 0 => [1000000000]
  | 1 => [500000000, 500000000]
  | 2 => [358750000, 488290000, 141280000, 11680000]
  | _ => [215578950, 416631580, 277263158, 83578947, 6947368]

/-- w(i) over a length (R131): the cosine sum, `m` the order reached. -/
def cosineSum (i l : Nat) : Nat → List Nat → Int
  | _, [] => 0
  | m, c :: r => (if m % 2 = 0 then 1 else -1) * (c : Int) * cosTurn (m * i : Nat) l / 1000000000 + cosineSum i l (m + 1) r

/-- h(i) of a built-in prototype of `taps` × `n` points (R131). -/
def protoAt (w n taps i : Nat) : Int :=
  let l := taps * n
  let h := cosineSum i l 0 (windowCoefs w)
  if taps = 1 then h else Trig.mul h (sincAt (2 * (i : Int) - l) (2 * n))

end Sys2Proof
end

