-- ==== Sys2Proof/Machine/Slices.lean ====
section
/-! DEFINITION. Tuning and decimation slices (spec 05_slices.md). The codes of the slice's input come with SLICE_FRAME; every
stage is computed on them, with the fixed coefficients that the spec does not state as free constants (log entry 2). What a
decimator reset does to the units behind a slice stands in Machine/Blocks.lean. -/

namespace Sys2Proof.Machine

namespace H
/-- causes of a group reset that is due, as `GROUP_LAST_CAUSE` shows them (R114, R115) -/
def syncDue : Nat := 440
end H

/-- A slice. -/
def State.slice (s : State) (m : Nat) : Slice := Map.get s.slices {} m
/-- Set it. -/
def State.setSlice (s : State) (m : Nat) (x : Slice) : State := { s with slices := Map.put s.slices {} m x }

/-- Event k of a slice (Table 5.6). -/
def ddcEvent (m k : Nat) : Nat := 0x200 + 4 * m + k

/-- Group delay in input samples (R108). -/
def groupDelay (taps k : Nat) : Nat := (taps + 27) * 2 ^ (k - 1) - 5

/-- d of a slice under the active plan. -/
def State.sliceD (s : State) (m : Nat) : Nat := groupDelay (s.plan O.firTaps m) (s.plan O.ddcK m)

/-- Latency of a slice (R110), seconds. -/
def State.sliceLatency (t : State) (m : Nat) : Rat := nat (t.sliceD m) / t.froot + 56 / t.fF

/-- Input index that output sample q refers to (R109). -/
def State.sliceIndex (s : State) (m q : Nat) : Nat := (s.slice m).nSync + q * 2 ^ s.plan O.ddcK m

/-! ### The NCO, the mixer and the cascade (R104 to R108, R113, R118) -/

/-- The stretch of the NCO that an input index lies in: the newest that begins at or before it, else the oldest. -/
def tuneAt (n : Nat) : List Tune → Tune
  | [] => ⟨0, 0, 0⟩
  | [t] => t
  | t :: r => if t.from_ ≤ n then t else tuneAt n r

/-- NCO phase at an input index (R113, R118). -/
def Tune.phaseAt (t : Tune) (n : Nat) : Nat := (t.phase + t.word * (n - t.from_)) % 2 ^ 48

/-- The 18-bit cosine and sine of a phase, which is truncated to 20 bits (R104). -/
def ncoAt (phase : Nat) : Int × Int :=
  (rneDiv ((Config.ncoPeak : Int) * cosTurn (phase / 2 ^ 28 : Nat) (2 ^ 20)) (2 ^ 128),
   rneDiv ((Config.ncoPeak : Int) * sinTurn (phase / 2 ^ 28 : Nat) (2 ^ 20)) (2 ^ 128))

/-- The mixer (R105): a code x stands for x ÷ 2,048, an output for a fraction of 2^23, and the product with the cosine and the
negated sine is rounded to 24 bits. -/
def mixOne (x : Int) (cs : Int × Int) : Int × Int :=
  (rneDiv (x * cs.1 * 4096) Config.ncoPeak, rneDiv (-(x * cs.2 * 4096)) Config.ncoPeak)

/-- One output of a halfband stage (R104): symmetric coefficients about tap `mid`, rounded to 24 bits. -/
def halfband (c : Nat → Int) (mid : Nat) (h : List (Int × Int)) : Int × Int :=
  let w := (List.range (2 * mid + 1)).map (fun i => c (if i ≤ mid then mid - i else i - mid))
  let one := fun (l : List Int) => rneDiv ((List.zipWith (· * ·) w l).foldl (· + ·) 0) (2 ^ Config.halfbandBits)
  (one (h.map (·.1)), one (h.map (·.2)))

/-- A sample enters the stages (R107): what they hold after it, and the output that leaves the last one with its number. A stage
puts out, for every second sample, the one centred on an even place of its input; the last stage's places stand so that the
delay of R108 is removed from the numbers of the final FIR's outputs. -/
def cascade (taps : Nat) : List (List (Int × Int)) → Int → Int × Int → List (List (Int × Int)) × Option (Int × (Int × Int))
  | [], r, v => ([], some (r, v))
  | h :: rest, r, v =>
    let last := rest.isEmpty
    let h := (v :: h).take (if last then 47 else 11)
    let c := r - (if last then (taps : Int) + 22 else 5)
    if c % 2 ≠ 0 then (h :: rest, none)
    else
      let y := if last then halfband Config.halfbandLong 23 h else halfband Config.halfbandShort 5 h
      let n := cascade taps rest (c / 2) y
      (h :: n.1, n.2)

/-! ### The FIR and the gain stage (R104, R105, R107, R119, R120) -/

/-- The gain for outputs that refer to an input index (R119). -/
def gainAt (n : Nat) : List Gain → Gain
  | [] => ⟨0, 0, 32768⟩
  | [g] => g
  | g :: r => if g.from_ ≤ n then g else gainAt n r

/-- Coefficient i: entry 0 is 65,536 by default, the rest 0. -/
def State.firCoef (s : State) (m i : Nat) : Int :=
  let t := s.dom O.firCoef m 0 (leBytes 65536 4)
  toI 32 (ofLe ((t.drop (4 * i)).take 4))

/-- One component of the FIR: 24 bits, saturating. -/
def firOne (c x : List Int) : Int × Bool :=
  let r := rneDiv ((List.zipWith (· * ·) c x).foldl (· + ·) 0) 65536
  (clampI (-(2 ^ 23)) (2 ^ 23 - 1) r, decide (r < -(2 ^ 23) ∨ 2 ^ 23 - 1 < r))

/-- One component through the gain stage, in the 16- or 24-bit format, saturating. -/
def gainOne (fmt : Nat) (shift : Int) (fine : Nat) (v : Int) : Int × Bool :=
  let w : Nat := if fmt = 0 then 16 else 24
  let den := 2 ^ 15 * (if fmt = 0 then 256 else 1) * 2 ^ (-shift).toNat
  let r := rneDiv (v * fine * (2 ^ shift.toNat : Nat)) den
  let top : Int := (2 ^ (w - 1) : Nat)
  (clampI (-top) (top - 1) r, decide (r < -top ∨ top ≤ r))

/-- An output sample from the newest cascade outputs, and whether a value saturated. -/
def firGain (c : List Int) (fmt : Nat) (shift : Int) (fine : Nat) (hist : List (Int × Int)) : (Int × Int) × Bool :=
  let i := firOne c (hist.map (·.1))
  let q := firOne c (hist.map (·.2))
  let gi := gainOne fmt shift fine i.1
  let gq := gainOne fmt shift fine q.1
  ((gi.1, gq.1), i.2 || q.2 || gi.2 || gq.2)

/-! ### Frames (R111, R112) -/

/-- Samples in the output format (R111). -/
def frameBytes (fmt : Nat) (l : List (Int × Int)) : List Byte :=
  let n := if fmt = 0 then 2 else 3
  l.flatMap (fun p => leBytes (ofI (8 * n) p.1) n ++ leBytes (ofI (8 * n) p.2) n)

/-- SLICE_FLAGS of the frame whose samples have been formed. -/
def State.sliceFlags (s : State) (m : Nat) (truncated : Bool) : Nat :=
  let x := s.slice m
  let k := s.plan O.ddcK m
  let d := s.sliceD m
  let q0 := x.q - x.part.length
  let last := s.sliceIndex m (x.q - 1)
  x.marks ||| flagIf (decide (q0 * 2 ^ k < d)) SF.settling |||
    flagIf (x.nrs.any (fun r => decide (r ≤ last + d))) SF.retune ||| flagIf (x.ngs.any (fun g => decide (g ≤ last))) SF.gain |||
    flagIf x.sat SF.sat ||| flagIf truncated SF.truncated

/-- Table 5.3 as a bit pattern; PLAN_GEN is the one in force when the frame leaves (log entry 171). -/
def State.frameHeader (s : State) (m flags : Nat) : Nat :=
  let x := s.slice m
  let ch := s.plan O.ddcInput m
  let d := s.sliceD m
  let first := s.sliceIndex m (x.q - x.part.length)
  let last := s.sliceIndex m (x.q - 1)
  let f := s.spanFlags ch (max x.nSync (first - d)) (last + d)
  first * 2 ^ 448 + T96.ofTicks (s.sampleTime ch first) * 2 ^ 352 + s.reg O.idxEpoch ch * 2 ^ 320 + f.2 * 2 ^ 304 +
    f.1 * 2 ^ 288 + s.reg O.planGen % 2 ^ 16 * 2 ^ 272 + flags * 2 ^ 256 + (tuneAt first x.tunes).word * 2 ^ 208 +
    m * 2 ^ 203 + ch * 2 ^ 201 + s.plan O.outFormat m * 2 ^ 200 + s.plan O.ddcK m * 2 ^ 195 + x.part.length * 2 ^ 178 +
    s.plan O.firTaps m * 2 ^ 170 + s.reg O.syncSeq m * 2 ^ 138

/-- The samples formed leave as one frame. -/
def State.frameOut (s : State) (m : Nat) (truncated : Bool) : State :=
  let x := s.slice m
  if x.part.isEmpty then s else
  let flags := s.sliceFlags m truncated
  let first := s.sliceIndex m (x.q - x.part.length)
  let h := leBytes (s.frameHeader m flags) 64
  let bytes := h ++ frameBytes (s.plan O.outFormat m) x.part
  let t := T96.ofTicks (s.sampleTime (s.plan O.ddcInput m) first)
  let d := s.sliceD m
  let last := s.sliceIndex m (x.q - 1)
  let f := s.spanFlags (s.plan O.ddcInput m) (max x.nSync (first - d)) (last + d)
  let y := { x with part := [], sat := false, marks := 0,
                    frames := x.frames ++ [(x.q - x.part.length, x.part.length, f.1, f.2, flags)],
                    nrs := x.nrs.filter (fun r => decide (last + d < r)), ngs := x.ngs.filter (fun g => decide (last < g)) }
  let s := (s.setSlice m y).emit (.record 1 h)
  let s := if x.sat then (s.bumpSat O.satFrames m).raiseRare (ddcEvent m 3) first else s
  let bad := f.1 &&& (BF.suspect ||| BF.clkUnqual ||| BF.timeUnset) != 0 || flags &&& SF.settling != 0
  let q0 := x.q - x.part.length
  let time := fun j => s.sampleTime (s.plan O.ddcInput m) (s.sliceIndex m (q0 + j))
  let item : Item := { bytes := bytes, index := first, t96 := t }
  (s.streamItem 2 m item).vdifItem 2 m 64 4 bad time item

/-- An output of the cascade makes one output sample; a full frame leaves. Outputs before number 0 only fill the FIR. -/
def State.sliceOut (s : State) (m : Nat) (n : Int) (p : Int × Int) : State :=
  let x := s.slice m
  let taps := s.plan O.firTaps m
  let hist := (p :: x.hist).take taps
  if n < 0 then s.setSlice m { x with hist := hist } else
  let g := gainAt (s.sliceIndex m x.q) x.gains
  let y := firGain ((List.range taps).map (s.firCoef m)) (s.plan O.outFormat m) (toI 16 g.shift) g.fine hist
  let x := { x with hist := hist, q := x.q + 1, part := x.part ++ [y.1], sat := x.sat || y.2, outs := (y.1 :: x.outs).take 262144 }
  let s := s.setSlice m x
  if x.part.length = 2 ^ s.plan O.frameExp m then s.frameOut m false else s

/-- A code of the input enters the chain (R104). -/
def State.sliceSample (s : State) (m : Nat) (code : Int) : State :=
  let x := s.slice m
  let n := x.inAt
  let v := mixOne code (ncoAt ((tuneAt n x.tunes).phaseAt n))
  let r := cascade (s.plan O.firTaps m) x.stages ((n : Int) - x.nSync) v
  let s := s.setSlice m { x with inAt := n + 1, stages := r.1 }
  match r.2 with
  | some o => s.sliceOut m o.1 o.2
  | none => s

/-- SLICE_FRAME (R104, R109 to R113): codes of the slice's input, from the next one that its chain has not taken; a frame leaves
with the code that completes it. -/
def execSliceFrame (sl : Fin 32) (codes : List Int) (s : State) : Result :=
  let m := sl.val
  if s.reg O.ddcState m = 0 then .next s else
  let s := codes.foldl (fun s c => s.sliceSample m c) s
  if s.reg O.ddcState m = 1 ∧ s.sliceD m ≤ (s.slice m).q * 2 ^ s.plan O.ddcK m then
    .next ((s.setReg O.ddcState 2 m).raise (ddcEvent m 1) (s.reg O.lastSyncIndex m))
  else .next s

/-! ### Resets (R113 to R117) -/

/-- A reset at the present tick also retunes: a retune falls on that tick (R117). -/
def Slice.tuned (x : Slice) (now cause word : Nat) : Bool :=
  cause != 4 && cause != 2 && (x.retune || word != (tuneAt now x.tunes).word)

/-- The NCO from a reset on (R113, R117, R118): a reset at the present tick puts the active word in force; a reset at an earlier
sample (cause 4) keeps the word in force there, and the retunes made since. -/
def Slice.retuned (x : Slice) (n cause phase word : Nat) : List Tune :=
  if cause = 4 then
    (x.tunes.filter (fun t => decide (n < t.from_))).foldr
      (fun t l => ⟨t.from_, (tuneAt t.from_ l).phaseAt t.from_, t.word⟩ :: l) [⟨n, phase, (tuneAt n x.tunes).word⟩]
  else [⟨n, phase, word⟩]

/-- What a reset at index n leaves of a slice with k stages and delay d (R113, R117): marks of retunes and gain changes that no
frame has carried stand, a retune's while its index lies in the span of output 0. -/
def Slice.renew (x : Slice) (k d n cause now phase word : Nat) : Slice :=
  let nr := if x.tuned now cause word then [n] else []
  { x with q := 0, nSync := n, inAt := n, stages := List.replicate k [], hist := [], tunes := x.retuned n cause phase word,
           retune := cause == 4 && x.retune, nrs := nr ++ x.nrs.filter (fun r => decide (n ≤ r + d)), retunes := nr ++ x.retunes,
           marks := SF.sync, part := [], sat := false, frames := [], outs := [] }

/-- The counters and marks of a decimator reset at an input index (R113, R115, Table 5.5), with its cause (Table 5.6). -/
def State.sliceCount (s : State) (m n cause : Nat) : State :=
  let t := T96.ofTicks (s.sampleTime (s.plan O.ddcInput m) n)
  let s := ((s.bump O.syncSeq m).setReg O.lastSyncIndex n m).setReg O.lastSyncT96 t m
  s.raise (ddcEvent m 0) (s.reg O.syncSeq m + 2 ^ 32 * cause)

/-- A decimator reset of a slice that runs, or that starts (R113). -/
def State.sliceReset (s : State) (m n cause : Nat) : State :=
  let s := s.frameOut m true
  let x := s.slice m
  let word := s.plan O.ncoFtw m % 2 ^ 48
  let y := x.renew (s.plan O.ddcK m) (s.sliceD m) n cause s.idx (s.plan O.ncoPhase m * 2 ^ 32) word
  let s := (((s.setSlice m y).setReg O.ddcState 1 m).vdifRestart 2 m (s.sampleTime (s.plan O.ddcInput m) n)).sliceCount m n cause
  if x.tuned s.idx cause word then (s.setReg O.retuneIndex n m).raise (ddcEvent m 2) n else s

/-- A source calls for a group reset at the next tick: bit 0 pin, 1 command, 2 timed action. -/
def State.syncRequest (s : State) (b : Nat) : State := s.setHidden H.syncDue (s.hidden H.syncDue ||| 2 ^ b)

/-- The sync group has a member. -/
def State.syncMembers (s : State) : List Nat := (List.range 32).filter (fun m => s.plan O.syncMember m == 1)

/-- `SYNC_CMD` (R114, R115). -/
def actSyncCmd (v : Nat) : Act := onlyOne v fun s => if s.syncMembers.isEmpty then .error Abort.range
  else .ok (s.syncMembers.foldl (fun s m => s.reach (6 + m / 8)) (s.syncRequest 1))

/-- SYNC_CMD (R114). -/
def execSyncCmd (m : Master) (value : Nat) (s : State) : Result := s.command m O.syncCmd value (actSyncCmd value)

/-- DDC_SYNC_FALL (R114). -/
def execDdcSyncFall (s : State) : Result := if s.plan O.syncPinEn = 1 then .next (s.syncRequest 0) else .next s

/-! ### Retunes and gain (R118, R119) -/

/-- The NCO goes on phase-continuously with the active word from an index (R118). -/
def State.ncoRetune (s : State) (m n : Nat) : State :=
  let x := s.slice m
  let p := (tuneAt n x.tunes).phaseAt n
  let s := s.setSlice m { x with tunes := ⟨n, p, s.plan O.ncoFtw m % 2 ^ 48⟩ :: x.tunes, nrs := x.nrs ++ [n],
                                 retunes := n :: x.retunes, retune := false }
  (s.setReg O.retuneIndex n m).raise (ddcEvent m 2) n

/-- NCO_RETUNE (R118): at the first fT tick after a LIVE write is accepted. -/
def execNcoRetune (sl : Fin 32) (s : State) : Result :=
  let m := sl.val
  if (s.slice m).retune ∧ s.reg O.ddcState m ≠ 0 then .next (s.ncoRetune m s.idx) else .next s

/-- The active gain applies from outputs that refer to an index at or after `n` (R119). -/
def State.gainApply (s : State) (m n : Nat) : State :=
  let x := s.slice m
  s.setSlice m { x with gain := false, gains := ⟨n, s.plan O.gainShift m, s.plan O.gainFine m⟩ :: x.gains, ngs := x.ngs ++ [n],
                        gainIdxs := n :: x.gainIdxs }

/-- SLICE_GAIN_APPLY (R119). -/
def execSliceGainApply (sl : Fin 32) (s : State) : Result :=
  let m := sl.val
  if (s.slice m).gain ∧ s.reg O.ddcState m ≠ 0 then .next (s.gainApply m s.idx) else .next s

/-! ### Coefficients (R120, R121) -/

/-- Entries of an image as signed words. -/
def words32 : List Byte → List Int
  | a :: b :: c :: d :: r => toI 32 (ofLe [a, b, c, d]) :: words32 r
  | _ => []

/-- A load of `FIR_COEF`. -/
def actFirCoef (m : Nat) (image : List Byte) : Act := fun s =>
  if image.length % 4 ≠ 0 ∨ image.isEmpty then .error Abort.type
  else if 384 < image.length then .error (Abort.adm 0x0A)
  else if (words32 image).any (fun c => decide (c < -131072 ∨ 131071 < c)) then .error Abort.range
  else if s.anyPlan (fun p => planVal p O.ddcEnable m == 1) then .error Abort.busy
  else .ok (s.setDom O.firCoef image m)

/-- FIR_COEF_LOAD (R121). -/
def execFirCoefLoad (m : Master) (sl : Fin 32) (image : List Byte) (s : State) : Result :=
  s.load m (O.firCoef.key sl.val 0) (actFirCoef sl.val image)

/-! ### Commits -/

/-- A slice takes its settings at a commit tick (R116); its reset is made by the caller. -/
def State.sliceSettings (s : State) (m : Nat) : State :=
  let s := s.setSlice m { s.slice m with gains := [⟨s.idx, s.plan O.gainShift m, s.plan O.gainFine m⟩], gain := false }
  (s.setReg O.groupDelay (s.sliceD m) m).setReg O.outRate (toF64 (s.froot / ((2 ^ s.plan O.ddcK m : Nat) : Rat))) m

/-- What a slice holds of a past index epoch is forgotten (R86, R293): the word and the gain in force stay. -/
def Slice.epoch (x : Slice) : Slice :=
  { x with tunes := (x.tunes.take 1).map (fun t => ⟨0, 0, t.word⟩), gains := (x.gains.take 1).map (fun g => ⟨0, g.shift, g.fine⟩),
           nrs := [], retunes := [], ngs := x.ngs.map (fun _ => 0), gainIdxs := [] }

/-- A slice stops: the frame in progress ends. -/
def State.sliceStop (s : State) (m : Nat) : State :=
  let s := s.frameOut m true
  ((s.setSlice m {}).setReg O.ddcState 0 m).setReg O.outRate 0 m

end Sys2Proof.Machine
end

