-- ==== Sys2Proof/Machine/Transforms.lean ====
section
/-! DEFINITION. Transform engines and detectors (spec 06_transforms.md). A full-rate spectrum's samples come with
SPECTRUM_RECORD, a slice's are those the slice put out; folding, transform and scaling are computed to 2^-40 of full scale, and
what the transform's own rounding adds is a free value (R130; log entry 6). SPECTRUM_RECORD itself stands in
Machine/Blocks.lean, since the detector bus feeds units defined later. -/

namespace Sys2Proof.Machine

/-- An engine. -/
def State.eng (s : State) (e : Nat) : Eng := Map.get s.engs {} e
/-- Set it. -/
def State.setEng (s : State) (e : Nat) (x : Eng) : State := { s with engs := Map.put s.engs {} e x }
/-- A source of an engine. -/
def State.engSrc (s : State) (e src : Nat) : EngSrc := Map.get s.engSrcs {} (32 * e + src)
/-- Set it. -/
def State.setEngSrc (s : State) (e src : Nat) (x : EngSrc) : State := { s with engSrcs := Map.put s.engSrcs {} (32 * e + src) x }

/-- Event k of an engine (Table 6.8). -/
def teEvent (e k : Nat) : Nat := 0x280 + 0x20 * e + k

/-- Whether an engine of a plan takes a source (R125). -/
def planTakes (p : Store) (e src : Nat) : Bool :=
  if planVal p O.teSrcKind e = 0 then src == e else bit (planVal p O.teSlices e) src

/-- Sources of an engine, ascending. -/
def State.engSources (s : State) (e : Nat) : List Nat := (List.range 32).filter (fun src => planTakes s.view e src)

/-- N of R129. -/
def State.teN (s : State) (e : Nat) : Nat := 2 ^ s.plan O.teLog2n e
/-- L of R129. -/
def State.teL (s : State) (e : Nat) : Nat := s.plan O.teTaps e * s.teN e
/-- Hop of an overlap code (R129). -/
def hopOf (n ovl : Nat) : Nat := if ovl = 0 then n else if ovl = 1 then n / 2 else n / 4
/-- H of R129. -/
def State.teH (s : State) (e : Nat) : Nat := hopOf (s.teN e) (s.plan O.teOverlap e)
/-- Bins of a spectrum (R135). -/
def State.teBins (s : State) (e : Nat) : Nat := if s.plan O.teSrcKind e = 0 then s.teN e / 2 else s.teN e
/-- C of R142. -/
def State.teC (s : State) (e : Nat) : Nat :=
  if s.plan O.spanCount e = 0 then s.teBins e - s.plan O.spanStart e else s.plan O.spanCount e

/-- Input index of a source sample (R109, R143). -/
def State.srcIndex (s : State) (e src n : Nat) : Nat := if s.plan O.teSrcKind e = 0 then n else s.sliceIndex src n
/-- Input of a source. -/
def State.srcInput (s : State) (e src : Nat) : Nat := if s.plan O.teSrcKind e = 0 then e else s.plan O.ddcInput src

/-! ### Latency (R146, R149) -/

/-- Fraction by which N-dependent latencies grow (R149): an eighth of the lanes gone costs one seventh. -/
def State.laneGrowth (t : State) (e : Nat) : Rat := if 2 ≤ popcount (t.eng e).retired 9 then 8 / 7 else 1

/-- Waiting bound of a source behind the others of its engine (R146), seconds. -/
def State.teJ (t : State) (e : Nat) : Rat :=
  if t.plan O.teSrcKind e = 0 then 0
  else t.laneGrowth e * nat ((((List.range 32).filter (fun m => planTakes t.active e m)).length - 1) * t.teN e) / 4 / t.fF

/-- Time from the ball of a span's last sample to the first bin on the bus, but for waiting (R146), seconds. -/
def State.specDelay (t : State) (e src : Nat) : Rat :=
  let g := t.laneGrowth e
  if t.plan O.teSrcKind e = 0 then (104 + g * nat (t.teN e) / 8) / t.fF
  else t.sliceLatency src + (64 + g * nat (t.teN e) / 4) / t.fF

/-- Greatest time from the ball to the last bin of a spectrum on the bus (R146), seconds. -/
def State.teLatency (t : State) (e src : Nat) : Rat := t.specDelay e src + nat ((t.teC e - 1) / 8) / t.fF + t.teJ e

/-! ### Window figures (R131, R132, R136) -/

/-- Entries of a user table: 131,072 by default (R132). -/
def State.userEntries (s : State) (e : Nat) : Nat :=
  match s.dom O.teWindowTable e with
  | [] => 131072
  | b => b.length / 4

/-- The entries of a user table that the prototype takes. -/
def State.userWindow (s : State) (e : Nat) : List Int :=
  match s.dom O.teWindowTable e with
  | [] => List.replicate (min 131072 (s.teL e)) 65536
  | b => (words32 b).take (s.teL e)

/-- The prototype's L values in units of 2^-128 (R131, R132). -/
def State.prototype (s : State) (e : Nat) : List Int :=
  let w := s.plan O.teWindow e
  if w = 7 then (s.userWindow e).map (fun c => c * 2 ^ 112)
  else (List.range (s.teL e)).map (protoAt w (s.teN e) (s.plan O.teTaps e))

/-- S of R136 for the settings in force. With T = 1 the cosines of a built-in window sum to 0 over its length, so S is L × a0. -/
def State.windowSum (s : State) (e : Nat) : Rat :=
  let w := s.plan O.teWindow e
  if w ≠ 7 ∧ s.plan O.teTaps e = 1 then (((windowCoefs w).headD 0 : Nat) : Rat) * ((s.teL e : Nat) : Rat) / 1000000000
  else (((s.prototype e).foldl (· + ·) 0 : Int) : Rat) / (2 ^ 128 : Nat)

/-- Equivalent noise bandwidth in bins of the transform (R136): N × Σh² ÷ (Σh)². -/
def State.windowEnbw (s : State) (e : Nat) : Nat :=
  let w := s.plan O.teWindow e
  if w ≠ 7 ∧ s.plan O.teTaps e = 1 then
    let c := windowCoefs w
    let a0 : Rat := ((c.headD 1 : Nat) : Rat)
    let r : Rat := (((c.drop 1).foldl (fun a x => a + x * x) 0 : Nat) : Rat)
    toF64 (1 + r / (2 * a0 * a0))
  else
    let h := s.prototype e
    let sum : Rat := ((h.foldl (· + ·) 0 : Int) : Rat)
    let sq : Rat := ((h.foldl (fun a c => a + c * c) 0 : Int) : Rat)
    if sum = 0 then 0 else toF64 (sq * ((s.teN e : Nat) : Rat) / (sum * sum))

/-! ### The transform (R130, R135, R136, R142) -/

/-- Folded samples: the sums of `t` stretches of n weighted samples (R130). -/
def foldParts (n : Nat) : Nat → List (Int × Int) → List (Int × Int)
  | 0, _ => List.replicate n (0, 0)
  | t + 1, l => List.zipWith (fun a b => (a.1 + b.1, a.2 + b.2)) (l.take n) (foldParts n t (l.drop n))

/-- x_hat[b] of n folded samples, in units of 2^-128 of theirs (R130). -/
def dftBin (n b : Nat) (y : List (Int × Int)) : Int × Int :=
  y.zipIdx.foldl (fun a p =>
    let c := cosTurn (b * p.2 : Nat) n
    let d := sinTurn (b * p.2 : Nat) n
    (a.1 + p.1.1 * c + p.1.2 * d, a.2 + p.1.2 * c - p.1.1 * d)) (0, 0)

/-- Where bin b of a record lies in the transform: a complex source's bin N ÷ 2 is 0 Hz (R135; log entry 6). -/
def rawBin (real : Bool) (n b : Nat) : Nat := if real then b else (b + n / 2) % n

/-- Codes of full scale of a source's samples (R105). -/
def State.fullScale (s : State) (e src : Nat) : Nat :=
  if s.plan O.teSrcKind e = 0 then 2 ^ 11 else if s.plan O.outFormat src = 0 then 2 ^ 15 else 2 ^ 23

/-- X[b] of the bins in the span window, in units of 2^-40 (R130, R135, R136, R142). -/
def State.scaledBins (s : State) (e src : Nat) (x : List (Int × Int)) : List (Int × Int) :=
  let n := s.teN e
  let real := s.plan O.teSrcKind e == 0
  let h := s.prototype e
  let y := foldParts n (s.plan O.teTaps e) (List.zipWith (fun c v => (c * v.1, c * v.2)) h x)
  let den := (h.foldl (· + ·) 0).toNat * s.fullScale e src * 2 ^ 88
  ((List.range (s.teC e)).map (fun i => s.plan O.spanStart e + i)).map (fun b =>
    let v := dftBin n (rawBin real n b) y
    let w : Int := if real && b != 0 then 2 else 1
    let z := Config.transformNoise y b
    (rneDiv (w * v.1) den + z.1, rneDiv (w * v.2) den + z.2))

/-- The samples of the next spectrum's span: a full-rate source's are given, a slice's are those it has put out; none when they are
not all there. -/
def State.spanSamples (s : State) (e src : Nat) (codes : List Int) : Option (List (Int × Int)) :=
  let l := s.teL e
  if s.plan O.teSrcKind e = 0 then
    if codes.length = l then some (codes.map (fun c => (c, 0))) else none
  else
    let y := s.slice src
    let last := (s.engSrc e src).next + l
    if last ≤ y.q then
      let x := ((y.outs.drop (y.q - last)).take l).reverse
      if x.length = l then some x else none
    else none

/-! ### Detector values (R137 to R140) -/

/-- P[b], exactly. -/
def binPower (x : Int × Int) : Rat := ((x.1 * x.1 + x.2 * x.2 : Int) : Rat) / (2 ^ 80 : Nat)

/-- LOGPOWER of a binary32 power, and whether it was clamped (R139). -/
def logPower (p : Nat) : Int × Bool :=
  let x := f32 p
  if x ≤ 0 then (-32768, false)
  else
    let l := log2560 x
    (clampI (-32767) 32767 l, decide (l < -32767 ∨ 32767 < l))

/-- I or Q of R140 with an exponent. -/
def blockCode (ex v : Int) : Int :=
  let k := -17 - ex
  if 0 ≤ k then v * (2 ^ k.toNat : Nat) else rneDiv v (2 ^ (-k).toNat)

/-- The smallest EXP for which every component fits (R140). -/
def blockExp (bins : List (Int × Int)) : Int :=
  let fits := fun (ex v : Int) => decide (-(2 ^ 23) ≤ blockCode ex v ∧ blockCode ex v ≤ 2 ^ 23 - 1)
  (((List.range 64).map (fun (i : Nat) => (i : Int) - 32)).find? (fun ex => bins.all (fun b => fits ex b.1 && fits ex b.2))).getD 31

/-- Bytes of a per-spectrum detector's bins (Table 6.1). -/
def detBytes (det : Nat) (ex : Int) (bins : List (Int × Int)) : List Byte :=
  match det with
  | 0 => bins.flatMap (fun b => leBytes (ofI 24 (blockCode ex b.1)) 3 ++ leBytes (ofI 24 (blockCode ex b.2)) 3)
  | 1 => bins.flatMap (fun b => leBytes (toF32 (binPower b)) 4)
  | 2 => bins.flatMap (fun b => leBytes (FloatFmt.f32.sqrt (binPower b)) 4)
  | _ => bins.flatMap (fun b => leBytes (ofI 16 (logPower (toF32 (binPower b))).1) 2)

/-! ### Records (R143 to R145) -/

/-- A record on the detector bus: source, detector, its header fields and its bins. -/
structure DetOut where
  /-- engine -/
  eng : Nat
  /-- source -/
  src : Nat
  /-- detector code -/
  det : Nat
  /-- FIRST_INDEX -/
  index : Nat
  /-- T96 -/
  t96 : Nat
  /-- CAL_SEQ -/
  calSeq : Nat
  /-- FLAGS -/
  flags : Nat
  /-- TE_FLAGS -/
  teFlags : Nat
  /-- SPEC_SEQ -/
  seq : Nat
  /-- COUNT -/
  count : Nat
  /-- EXP, 6 bits -/
  ex : Nat
  /-- bins -/
  bytes : List Byte
deriving DecidableEq, Repr

/-- Table 6.2 as a bit pattern. -/
def State.specHeader (s : State) (r : DetOut) : Nat :=
  let e := r.eng
  r.index * 2 ^ 448 + r.t96 * 2 ^ 352 + s.reg O.idxEpoch (s.srcInput e r.src) * 2 ^ 320 + r.calSeq * 2 ^ 304 + r.flags * 2 ^ 288 +
    (s.eng e).gen % 2 ^ 16 * 2 ^ 272 + r.teFlags * 2 ^ 256 + r.seq * 2 ^ 224 + r.count * 2 ^ 199 + s.plan O.spanStart e * 2 ^ 183 +
    s.teC e * 2 ^ 166 + s.plan O.teLog2n e * 2 ^ 161 + r.det * 2 ^ 157 + s.plan O.teSrcKind e * 2 ^ 156 + r.src * 2 ^ 151 +
    e * 2 ^ 149 + s.plan O.teTaps e * 2 ^ 145 + s.plan O.teOverlap e * 2 ^ 143 + r.ex * 2 ^ 137

/-- A record leaves on the detector bus: to the streams that take it, and to what listens on the bus. -/
def State.detOut (s : State) (r : DetOut) : State :=
  let h := leBytes (s.specHeader r) 64
  let k := r.eng + 4 * r.src + 128 * r.det
  let s := { s with newest := Map.ins k r.bytes (Map.del s.newest k) }
  (s.emit (.record 2 h)).streamItem 3 (r.eng + 256 * r.src + 65536 * r.det)
    { bytes := h ++ r.bytes, index := r.index, t96 := r.t96 }

/-- The interval record of a detector (R138, R141). -/
def intervalBytes (det : Nat) (x : EngSrc) : List Byte :=
  match det with
  | 4 => x.s1.flatMap (fun a => leBytes (toF32 (f64 a / ((x.count : Nat) : Rat))) 4)
  | 5 => x.peak.flatMap (fun a => leBytes a 4)
  | 6 => x.least.flatMap (fun a => leBytes a 4)
  | _ => (List.zip x.s1 x.s2).flatMap (fun a => leBytes a.1 8 ++ leBytes a.2 8)

/-- Records of the interval in progress, in order of detector; none when it holds no spectrum. -/
def State.intervalOut (s : State) (e src : Nat) : List DetOut :=
  let x := s.engSrc e src
  if x.count = 0 then [] else
  ([4, 5, 6, 7].filter (fun d => bit (s.plan O.teDetMask e) d)).map (fun d =>
    { eng := e, src := src, det := d, index := x.first, t96 := x.firstT, calSeq := x.calSeq, flags := x.flags,
      teFlags := x.teFlags ||| flagIf (decide (x.count < s.plan O.avgM e)) TF.partial_, seq := (x.seq + 2 ^ 32 - 1) % 2 ^ 32,
      count := x.count, ex := 0, bytes := intervalBytes d x })

/-- The interval starts afresh. -/
def EngSrc.clear (x : EngSrc) : EngSrc := { x with count := 0, flags := 0, teFlags := 0, s1 := [], s2 := [], peak := [], least := [] }

/-- Combine two lists elementwise, the second alone where the first is empty. -/
def combine (f : Nat → Nat → Nat) (a b : List Nat) : List Nat := if a.isEmpty then b else List.zipWith f a b

/-- A spectrum enters the interval (R138). -/
def EngSrc.add (x : EngSrc) (index t96 calSeq flags teFlags : Nat) (bins : List (Int × Int)) : EngSrc :=
  let ps := bins.map binPower
  let p32 := ps.map toF32
  { x with
    count := x.count + 1, first := if x.count = 0 then index else x.first, firstT := if x.count = 0 then t96 else x.firstT,
    calSeq := calSeq, flags := x.flags ||| flags, teFlags := x.teFlags ||| teFlags,
    s1 := if x.s1.isEmpty then ps.map toF64 else List.zipWith (fun a p => toF64 (f64 a + p)) x.s1 ps,
    s2 := if x.s2.isEmpty then ps.map (fun p => toF64 (p * p)) else List.zipWith (fun a p => toF64 (f64 a + p * p)) x.s2 ps,
    peak := combine max x.peak p32, least := combine min x.least p32 }

/-! ### Spectra -/

/-- FLAGS and CAL_SEQ of a spectrum of a slice source (R144), and whether a frame of its span saturated, the one in progress
as it stands (log entry 139). -/
def State.sliceSpan (s : State) (src a b : Nat) : Nat × Nat × Bool :=
  let ch := s.plan O.ddcInput src
  let d := s.sliceD src
  let i := s.sliceIndex src a
  let y := s.slice src
  let own := s.spanFlags ch (max y.nSync (i - d)) (s.sliceIndex src b + d)
  let fs := y.frames.filter (fun f => decide (f.1 ≤ b ∧ a < f.1 + f.2.1))
  (fs.foldl (fun acc f => acc ||| f.2.2.1) own.1,
   match fs.getLast? with | some f => f.2.2.2.1 | none => own.2,
   fs.any (fun f => f.2.2.2.2 &&& SF.sat != 0) || (y.sat && decide (y.q - y.part.length ≤ b)))

/-- The newest of a slice's retune or gain-change indices that lies in a span and that no spectrum has marked, plus one; 0 none. -/
def newMark (seen : Nat) (l : List Nat) (inSpan : Nat → Bool) : Nat :=
  l.foldl (fun a n => if seen ≤ n ∧ inSpan n then max a (n + 1) else a) 0

/-- The retune, and the gain change, that a spectrum is the first to contain: a retune by its index, a gain change by the first
output sample it applies to (R144, Table 6.3). -/
def State.specMarks (s : State) (e src : Nat) : Nat × Nat :=
  let x := s.engSrc e src
  let y := s.slice src
  let a := x.next
  let b := x.next + s.teL e - 1
  let k := 2 ^ s.plan O.ddcK src
  if s.plan O.teSrcKind e = 0 then (0, 0) else
  (newMark x.nr y.retunes (fun n => decide (s.sliceIndex src a ≤ n ∧ n ≤ s.sliceIndex src b)),
   newMark x.ng y.gainIdxs (fun n => decide (a ≤ (n - y.nSync + k - 1) / k ∧ (n - y.nSync + k - 1) / k ≤ b)))

/-- TE_FLAGS of a spectrum (Table 6.3). -/
def State.specFlags (s : State) (e src : Nat) (sat : Bool) : Nat :=
  let x := s.engSrc e src
  let q := s.eng e
  let m := s.specMarks e src
  let isSlice := decide (s.plan O.teSrcKind e = 1)
  flagIf x.restart TF.restart ||| flagIf (isSlice && decide (x.next * 2 ^ s.plan O.ddcK src < s.sliceD src)) SF.settling |||
    flagIf (m.1 != 0) SF.retune ||| flagIf (m.2 != 0) SF.gain |||
    flagIf sat TF.sat ||| flagIf q.swapMark TF.laneSwap ||| flagIf q.suspect TF.suspect

/-- A spectrum completes: its records in order, with the state after it (R137 to R145). -/
def State.spectrum (s : State) (e src : Nat) (bins : List (Int × Int)) : List DetOut × State :=
  let x := s.engSrc e src
  let b := x.next + s.teL e - 1
  let index := s.srcIndex e src x.next
  let ch := s.srcInput e src
  let t96 := T96.ofTicks (s.sampleTime ch index)
  let f : Nat × Nat × Bool :=
    if s.plan O.teSrcKind e = 0 then (let g := s.spanFlags ch x.next b; (g.1, g.2, false)) else s.sliceSpan src x.next b
  let mask := s.plan O.teDetMask e
  let clamped := bit mask 3 && bins.any (fun v => (logPower (toF32 (binPower v))).2)
  let te := s.specFlags e src (f.2.2 || clamped)
  let ex := blockExp bins
  let recs : List DetOut := ([0, 1, 2, 3].filter (bit mask)).map (fun d =>
    { eng := e, src := src, det := d, index := index, t96 := t96, calSeq := f.2.1, flags := f.1, teFlags := te, seq := x.seq,
      count := 1, ex := if d = 0 then ofI 6 ex else 0, bytes := detBytes d ex bins })
  let cal := f.1 &&& BF.cal != 0
  let split := s.plan O.avgSplit e == 1 && cal && !x.hadCal
  let early := if split then s.intervalOut e src else []
  let x := if split then x.clear else x
  let m := s.specMarks e src
  let x := x.add index t96 f.2.1 f.1 te bins
  let x := { x with seq := (x.seq + 1) % 2 ^ 32, next := x.next + s.teH e, restart := false, hadCal := cal,
                    nr := max x.nr m.1, ng := max x.ng m.2, at_ := index, bins := bins }
  let s := s.setEngSrc e src x
  let done := decide (s.plan O.avgM e ≤ x.count)
  let late := if done then s.intervalOut e src else []
  let s := if done then s.setEngSrc e src x.clear else s
  let q := s.eng e
  let first := q.starting && decide ((s.engSources e).head? = some src)
  let s := if first then s.raise (teEvent e 0) index else s
  let s := if te &&& TF.suspect = 0 then s else (s.bumpSat O.teSuspect e).raiseRare (teEvent e 3) index
  let s := if te &&& TF.sat = 0 then s else s.raiseRare (teEvent e 5) index
  let s := s.setEng e { q with starting := q.starting && !first, swapMark := false, suspect := false }
  (early ++ recs ++ late, s)

/-! ### Restarts (R133, R134) -/

/-- Where the framing of a source begins at or after the present tick. -/
def State.framingStart (s : State) (e src : Nat) : Nat :=
  if s.plan O.teSrcKind e = 0 then (s.idx + 65535) / 65536 * 65536
  else
    let k := 2 ^ s.plan O.ddcK src
    let q := (s.idx - (s.slice src).nSync + k - 1) / k
    let h := s.teH e
    (q + h - 1) / h * h

/-- The framing of a source ends: the interval in progress leaves; the records are given back. -/
def State.endSrc (s : State) (e src : Nat) : List DetOut × State :=
  (s.intervalOut e src, s.setEngSrc e src (s.engSrc e src).clear)

/-- New framing of a source begins at a source sample (R134), with its cause (Table 6.8). -/
def State.beginSrc (s : State) (e src next cause : Nat) : State :=
  let s := s.setEngSrc e src { s.engSrc e src with next := next, restart := true, hadCal := false }
  s.raise (teEvent e 4) (s.plan O.teSrcKind e + 2 * src + 256 * cause)

/-! ### Lanes (R148, R149) -/

/-- `TE_CAPACITY`: fF × the lanes not retired, at most 8. -/
def State.setTeCapacity (s : State) (e : Nat) : State :=
  s.setReg O.teCapacity (toF64 (s.froot / 4 * (((min 8 (9 - popcount (s.eng e).retired 9) : Nat)) : Rat))) e

/-- LANE_CHECK_FAIL (R148, R149). -/
def execLaneCheckFail (e : Fin 4) (lane : Fin 9) (s : State) : Result :=
  let n := e.val
  let l := lane.val
  let x := s.eng n
  if s.reg O.teState n = 1 ∧ bit (s.reg O.teLaneMap n) l then
    let s := s.setEng n { x with suspect := true }
    if x.failing = some l ∨ bit x.retired l then .next s
    else
      let x := { x with suspect := true, retired := setBit x.retired l true }
      if s.reg O.teSpareLane n ≠ 0xFF ∧ x.failing = none then
        .next (((s.setEng n { x with failing := some l }).retire 2 n l 0 false true).setTeCapacity n)
      else
        let s := ((s.setEng n { x with serving := setBit x.serving l true }).retire 2 n l 0 false false).setTeCapacity n
        .next ((s.raise (teEvent n 2) l).fault (0x28 + n) l)
  else .next s

/-- LANE_SWAP (R148): at the next spectrum boundary. -/
def execLaneSwap (e : Fin 4) (s : State) : Result :=
  let n := e.val
  let x := s.eng n
  match x.failing with
  | none => .next s
  | some l =>
    let sp := s.reg O.teSpareLane n
    if sp = 0xFF then .next s else
    let s := if bit x.serving l then s.spareTaken 2 else s
    let x := { x with failing := none, serving := setBit x.serving l false, swapMark := true }
    let s := (s.setEng n x).setReg O.teLaneMap (setBit (setBit (s.reg O.teLaneMap n) l false) sp true) n
    let s := ((s.setReg O.teSpareLane 0xFF n).bumpSat O.teLaneSwaps n).raise (teEvent n 1) (l + 16 * sp)
    .next (if x.serving = 0 then s.unfault (0x28 + n) else s)

/-- At a commit an engine takes lanes that serve though retired out of service (R149). -/
def State.engLanes (s : State) (e : Nat) : State :=
  let x := s.eng e
  if x.serving = 0 then s else
  let map := (List.range 9).foldl (fun m l => if bit x.serving l then setBit m l false else m) (s.reg O.teLaneMap e)
  let failing := match x.failing with | some l => if bit x.serving l then none else some l | none => none
  ((s.setEng e { x with serving := 0, failing := failing, swapMark := true }).setReg O.teLaneMap map e).unfault (0x28 + e)

/-- `TE_WINDOW_SUM` and `TE_ENBW` for the active settings (R136). -/
def State.engWindow (s : State) (e : Nat) : State :=
  (s.setReg O.teWindowSum (toF64 (s.windowSum e)) e).setReg O.teEnbw (s.windowEnbw e) e

/-! ### Window tables (R132) -/

/-- A load of `TE_WINDOW_TABLE`. -/
def actWindowTable (e : Nat) (image : List Byte) : Act := fun s =>
  if image.length % 4 ≠ 0 ∨ image.isEmpty then .error Abort.type
  else if 524288 < image.length then .error (Abort.adm 0x0A)
  else if (words32 image).any (fun c => decide (c < -131072 ∨ 131071 < c)) then .error Abort.range
  else if (words32 image).foldl (· + ·) 0 ≤ 0 then .error Abort.range
  else if s.anyPlan (fun p => planVal p O.teEnable e == 1) then .error Abort.busy
  else .ok ((s.setDom O.teWindowTable image e).engWindow e)

/-- WINDOW_TABLE_LOAD (R132). -/
def execWindowTableLoad (m : Master) (e : Fin 4) (image : List Byte) (s : State) : Result :=
  s.load m (O.teWindowTable.key e.val 0) (actWindowTable e.val image)

/-! ### Commits -/

/-- Rate of a source, Hz (R126). -/
def planSrcRate (p : Store) (froot : Rat) (e src : Nat) : Rat :=
  if planVal p O.teSrcKind e = 0 then froot else froot / ((2 ^ planVal p O.ddcK src : Nat) : Rat)

/-- Load and spectrum rate of an engine of a plan (R126, R129): hop over length is 1 − o. -/
def planLoad (p : Store) (froot : Rat) (e : Nat) : Rat × Rat :=
  let n := 2 ^ planVal p O.teLog2n e
  let h := hopOf n (planVal p O.teOverlap e)
  let w : Rat := if planVal p O.teSrcKind e = 0 then 1 else 2
  ((List.range 32).filter (planTakes p e)).foldl (fun a src =>
    let f := planSrcRate p froot e src
    (a.1 + w * f * ((n : Nat) : Rat) / ((h : Nat) : Rat), a.2 + f / ((h : Nat) : Rat))) (0, 0)

/-- Status of a running engine: load and rate of the active plan, and the window it works with (R151). -/
def State.engFigures (s : State) (e : Nat) : State :=
  let l := planLoad s.active s.froot e
  ((s.setReg O.teLoad (toF64 l.1) e).setReg O.teSpecRate (toF64 l.2) e).engWindow e

/-- An engine starts (R133): the first spectrum of each source carries RESTART (log entry 172). -/
def State.engStart (s : State) (e : Nat) : State :=
  let s := (s.engSources e).foldl (fun s src => s.setEngSrc e src { next := s.framingStart e src }) s
  ((s.setEng e { s.eng e with starting := true, suspect := false, isolated := false, gen := s.reg O.planGen }).setReg O.teState 1 e).engFigures e

/-- An engine stops: intervals end early; their records are given back. -/
def State.engStop (s : State) (e : Nat) : List DetOut × State :=
  let out := (s.engSources e).flatMap (fun src => s.intervalOut e src)
  let s := (List.range 32).foldl (fun s src => s.setEngSrc e src {}) s
  (out, ((s.setReg O.teState 0 e).setReg O.teLoad 0 e).setReg O.teSpecRate 0 e)

end Sys2Proof.Machine
end

