-- ==== Sys2Proof/Machine/Triggers.lean ====
section
/-! DEFINITION. Trigger units, acquisition contexts, facets and segments (spec 07_triggers.md). What restarts a unit or cuts a
context's segment calls `tuRestart`, `ctxCut` and `ctxResume` of this file. -/

namespace Sys2Proof.Machine

namespace H
/-- level of a TRGIN pin as last registered, by pin -/
def trgin : Nat := 480
end H

/-- A unit. -/
def State.trig (s : State) (u : Nat) : Trig := Map.get s.trigs {} u
/-- Set it. -/
def State.setTrig (s : State) (u : Nat) (x : Trig) : State := { s with trigs := Map.put s.trigs {} u x }
/-- A context. -/
def State.ctx (s : State) (c : Nat) : Ctx := Map.get s.ctxs {} c
/-- Set it. -/
def State.setCtx (s : State) (c : Nat) (x : Ctx) : State := { s with ctxs := Map.put s.ctxs {} c x }

/-- Event k of a unit (Table 7.12). -/
def tuEvt (u k : Nat) : Nat := 0x300 + 4 * u + k
/-- Event k of a context. -/
def aqEvt (c k : Nat) : Nat := 0x340 + 8 * c + k

/-- The first sample index at or after a time (R87, R157). -/
def State.indexAt (s : State) (t : Nat) : Nat :=
  if s.inc = 0 then s.idx
  else
    let d : Int := (t : Int) * 2 ^ 48 - s.tc
    ((s.idx : Int) - (-d * 32) / (s.inc : Int)).toNat

/-! ### Settings of a segment (R160, R168) -/

/-- The settings of a context under a plan. -/
def aqCfg (p : Store) (c : Nat) : AqCfg :=
  let kind := planVal p O.aqSrcKind c
  let src := planVal p O.aqSrc c
  let cont := planVal p O.aqMode c == 1
  { kind := kind, src := src, fmt := if kind = 0 then planVal p O.cvFormat src else 2 + planVal p O.outFormat src, cont := cont,
    pre := if cont then 0 else planVal p O.aqPre c, post := planVal p O.aqPost c,
    ringBase := planVal p O.aqRingBase c, ringSize := planVal p O.aqRingSize c,
    facetBase := planVal p O.aqFacetBase c, facetSize := planVal p O.aqFacetSize c, log2d := planVal p O.aqFacetLog2d c }

/-- Bytes of n samples in a format of Table 7.6. -/
def aqSampleBytes (fmt n : Nat) : Nat :=
  match fmt with
  | 0 => (n + 1) / 2 * 3
  | 1 => 2 * n
  | 2 => 4 * n
  | _ => 6 * n

/-- Bytes of a segment of n samples at a level (R168, R170). -/
def segBytes (g : AqCfg) (level n : Nat) : Nat := (96 + (if level = 0 then aqSampleBytes g.fmt n else 0) + 63) / 64 * 64

/-- Facet bytes of a segment of n samples at a level (R167). -/
def facetLen (g : AqCfg) (level n : Nat) : Nat :=
  if g.facetSize = 0 then 0
  else
    let d := 2 ^ (g.log2d + level)
    (n + d - 1) / d * (if g.kind = 0 then 16 else 32)

/-- Source samples per second of a context. -/
def State.aqRate (s : State) (g : AqCfg) : Rat :=
  if g.kind = 0 then s.froot else s.froot / ((2 ^ s.plan O.ddcK g.src : Nat) : Rat)

/-- The DRAM reservation of a context, bytes per second: the full source rate, or the declared segments (R170, Table 7.9). -/
def State.aqReserve (s : State) (c : Nat) (g : AqCfg) : Rat :=
  let n := g.pre + g.post
  let per : Rat := ((segBytes g 0 n + facetLen g 0 n : Nat) : Rat)
  if g.cont then (if g.post = 0 then 0 else s.aqRate g / (g.post : Rat) * per) else f64 (s.plan O.aqDeclRate c) * per

/-! ### The FIFO and the descent ladder (R170) -/

/-- Size of the FIFO. -/
def aqFifo : Nat := 1048576

/-- The source sample that has been taken last, plus one. -/
def State.aqTaken (s : State) (g : AqCfg) : Nat := if g.kind = 0 then s.idx else (s.slice g.src).q

/-- Bytes of the segment in progress that have entered the FIFO: its header and record, the samples taken and their facets. -/
def State.aqArrived (s : State) (c : Nat) : Nat :=
  let x := s.ctx c
  let g := x.cfg
  if s.reg O.aqState c = 4 ∧ !x.skipping ∧ !x.cut then
    let n := min (g.pre + g.post) (s.aqTaken g - (x.qt - g.pre))
    96 + (if x.level = 0 then aqSampleBytes g.fmt n else 0) + facetLen g x.level n
  else 0

/-- FIFO fill now: it takes the segment in progress as its samples come, and drains at the reservation. -/
def State.aqFill (s : State) (c : Nat) : Nat :=
  let x := s.ctx c
  let d : Rat := s.aqReserve c x.cfg * ((s.up - x.fillAt : Nat) : Rat) / (secondTc : Rat)
  (((x.fill + s.aqArrived c : Nat) : Rat) - d).ceil.toNat

/-- The fill is settled at this moment, so that what changes the reservation changes only what comes after. -/
def State.aqSettle (s : State) (c : Nat) : State := s.setCtx c { s.ctx c with fill := s.aqFill c, fillAt := s.up }

/-- A segment of n bytes has passed into the FIFO since it opened, all the while draining. The hold below the low mark begins
anew where the fill came to the mark: at its opening by the pre-trigger part, or at its end. -/
def State.aqPush (s : State) (c n : Nat) : State :=
  let x := s.ctx c
  let g := x.cfg
  let r := s.aqReserve c g
  let f := (((x.fill + n : Nat) : Rat) - r * ((s.up - x.fillAt : Nat) : Rat) / (secondTc : Rat)).ceil.toNat
  let low := s.plan O.aqLadLow c * aqFifo / 100
  let top := x.fill + 96 + (if x.level = 0 then aqSampleBytes g.fmt g.pre else 0)
  let since :=
    if low ≤ f then s.up + (if r ≤ 0 then 0 else ((((f - low : Nat) : Rat) / r) * (secondTc : Rat)).ceil.toNat)
    else if low ≤ top ∧ f < top then x.fillAt + (top - low) * (s.up - x.fillAt) / (top - f)
    else x.lowSince
  s.setCtx c { x with fill := f, fillAt := s.up, lowSince := max x.lowSince since }

/-- The level at which a segment opens, and whether the hold restarts. -/
def State.aqLevelNext (s : State) (c : Nat) : Nat × Bool :=
  let x := s.ctx c
  let f := s.aqFill c
  if s.plan O.aqLadHigh c * aqFifo < 100 * f then (if x.level < s.plan O.aqLadMax c then x.level + 1 else x.level, false)
  else if 0 < x.level ∧ 100 * f < s.plan O.aqLadLow c * aqFifo ∧
      x.lowSince + s.plan O.aqLadHold c * 1000 * 2 ^ 64 ≤ s.up then (x.level - 1, true)
  else (x.level, false)

/-- Whether the FIFO takes a whole segment at a level, draining while its post-trigger part arrives. -/
def State.aqRoom (s : State) (c level : Nat) : Bool :=
  let g := (s.ctx c).cfg
  let n := g.pre + g.post
  let dur : Rat := if s.aqRate g ≤ 0 then 0 else (g.post : Rat) / s.aqRate g
  decide (((s.aqFill c + segBytes g level n + facetLen g level n : Nat) : Rat) ≤ (aqFifo : Rat) + s.aqReserve c g * dur)

/-- A segment opens at the level that the ladder gives; none where the FIFO cannot take it. -/
def State.aqOpen (s : State) (c : Nat) : Option State :=
  let l := s.aqLevelNext c
  if s.aqRoom c l.1 then
    let s := s.aqSettle c
    let x := s.ctx c
    let s := s.setCtx c { x with prev := x.level, level := l.1, lowSince := if l.2 then s.up else x.lowSince, ignored := 0,
                                 segMarks := x.marks, marks := 0, skipping := false, cut := false }
    some (if l.1 = x.level then s else (s.setReg O.aqLevel l.1 c).raise (aqEvt c 2) (l.1 + 256 * x.level))
  else none

/-- A trigger is refused (R170). -/
def State.aqRefuse (s : State) (c i : Nat) : State :=
  let s := s.setCtx c { s.ctx c with marks := (s.ctx c).marks ||| 0x20 }
  (s.bumpSat O.aqRefused c).raiseRare (aqEvt c 3) i

/-! ### Rings (R171) -/

/-- The offset at which a segment of some bytes starts. -/
def ringStart (ptr n size : Nat) : Nat := if ptr + n ≤ size then ptr else 0

/-- In stop mode: the next segment, at the level that the ladder gives now, would overwrite the first one since the context last
armed from STOPPED or WAITING (log entry 190). -/
def State.aqRingFull (s : State) (c : Nat) : Bool :=
  let x := s.ctx c
  let n := segBytes x.cfg (s.aqLevelNext c).1 (x.cfg.pre + x.cfg.post)
  let ptr := s.reg O.aqWritePtr c
  s.plan O.aqRingMode c == 1 && x.sinceArm != 0 &&
    (if x.wrapped then decide (x.cfg.ringSize < ptr + n ∨ x.firstPtr < ptr + n)
     else decide (x.cfg.ringSize < ptr + n ∧ x.firstPtr < n))

/-! ### Arming (R163) -/

/-- The source sample at or after an input index (R164). -/
def State.aqSample (s : State) (g : AqCfg) (i : Nat) : Nat :=
  if g.kind = 0 then i
  else
    let d := 2 ^ s.plan O.ddcK g.src
    (i - (s.slice g.src).nSync + d - 1) / d

/-- The pre-trigger history is full. -/
def State.ctxReady (s : State) (c : Nat) : State :=
  let x := s.ctx c
  let s := (s.setCtx c { x with armedOnce := true }).setReg O.aqState 3 c
  if x.armedOnce then s else s.raise (aqEvt c 0) x.armIndex

/-- The context arms at source sample `n`, input index `a`. -/
def State.ctxArmAt (s : State) (c n a : Nat) : State :=
  let x := s.ctx c
  let s := (s.setCtx c { x with from_ := n, armIndex := a, cut := false }).setReg O.aqState 2 c
  if x.cfg.pre = 0 then s.ctxReady c else s

/-- A context begins anew; armed from STOPPED or WAITING, its ring holds no first segment yet (R171). -/
def State.ctxFresh (s : State) (c : Nat) : State :=
  let x := { s.ctx c with segs := 0, disarmed := false, stopping := false }
  s.setCtx c (if s.reg O.aqState c = 0 ∨ s.reg O.aqState c = 1 then { x with sinceArm := 0, wrapped := false } else x)

/-- A commit or an arm entry arms the context at an index. -/
def State.ctxArm (s : State) (c a : Nat) : State :=
  (s.ctxFresh c).ctxArmAt c (s.aqSample (s.ctx c).cfg a) a

/-- A continuous segment opens at a source sample; without room it is skipped, and the next one that opens is marked (R170). -/
def State.ctxContinue (s : State) (c n : Nat) : State :=
  let s := (s.setCtx c { s.ctx c with qt := n, record := 0, recFlags := 0, cut := false, skipping := true }).setReg O.aqState 4 c
  match s.aqOpen c with
  | some s' => s'
  | none => (s.setCtx c { s.ctx c with ignored := 0, marks := (s.ctx c).marks ||| 0x40 }).bumpSat O.aqRefused c

/-- AQ_HISTORY_FULL (R163). -/
def execAqHistoryFull (c : Fin 16) (s : State) : Result :=
  if s.reg O.aqState c.val = 2 then .next (s.ctxReady c.val) else .next s

/-- A context is done: its segments are written, or its ring is full in stop mode (Table 7.4). -/
def State.ctxDone (s : State) (c : Nat) (full : Bool) : State :=
  let s := (s.setReg O.aqState 5 c).raise (aqEvt c 1) (s.reg O.aqSegSeq c)
  if full then s.raise (aqEvt c 5) (s.reg O.aqWritePtr c) else s

/-- A capture-start entry (R163): the index that it resolves; none where it has no effect. -/
def State.ctxArmEntry (s : State) (c t : Nat) : Option State :=
  let st := s.reg O.aqState c
  if s.plan O.aqEnable c = 1 ∧ (st = 1 ∨ st = 5 ∨ (st = 0 ∧ (s.ctx c).disarmed)) then
    let a := s.indexAt t
    if (s.ctx c).cfg.cont then
      let s := s.ctxFresh c
      some (if s.aqRingFull c then s.ctxDone c true else s.ctxContinue c (s.aqSample (s.ctx c).cfg a))
    else some (s.ctxArm c a)
  else none

/-- A disarm entry (R163): while CAPTURING the segment completes first. -/
def State.ctxDisarm (s : State) (c : Nat) : Option State :=
  if s.plan O.aqEnable c = 1 then
    if s.reg O.aqState c = 4 then some (s.setCtx c { s.ctx c with stopping := true, disarmed := true })
    else some ((s.setCtx c { s.ctx c with disarmed := true }).setReg O.aqState 0 c)
  else none

/-! ### Segments (R164 to R168) -/

/-- Input index of a source sample. -/
def State.aqIndex (s : State) (g : AqCfg) (n : Nat) : Nat := if g.kind = 0 then n else s.sliceIndex g.src n
/-- Input of a source. -/
def State.aqInput (s : State) (g : AqCfg) : Nat := if g.kind = 0 then g.src else s.plan O.ddcInput g.src

/-- The segment in progress ends before source sample `stop`: its header (Table 7.6) and its places in the rings (R171). -/
def State.segOf (s : State) (c stop : Nat) (truncated : Bool) : Seg :=
  let x := s.ctx c
  let g := x.cfg
  let q0 := x.qt - g.pre
  let post := min g.post (stop - x.qt)
  let n := min (x.qt - q0 + g.post) (stop - q0)
  let first := s.aqIndex g q0
  let last := s.aqIndex g (q0 + n - 1)
  let ch := s.aqInput g
  let d := if g.kind = 0 then 0 else s.sliceD g.src
  let f := s.spanFlags ch (if g.kind = 0 then first else max (s.slice g.src).nSync (first - d)) (last + d)
  let t := T96.ofTicks (s.sampleTime ch first)
  let flags := flagIf (decide (x.prev < x.level)) 1 ||| flagIf (decide (x.level < x.prev)) 2 ||| flagIf (x.level == 0) 4 |||
    flagIf truncated 8 ||| flagIf g.cont 16 ||| x.segMarks
  let fn := facetLen g x.level n
  let fo := ringStart x.facetPtr fn g.facetSize
  { cfg := g, record := x.record, recFlags := x.recFlags, count := n, level := x.level, first := first, t96 := t,
    at_ := ringStart (s.reg O.aqWritePtr c) (segBytes g x.level n) g.ringSize, facetAt := fo,
    head := first * 2 ^ 448 + t * 2 ^ 352 + s.reg O.idxEpoch ch * 2 ^ 320 + f.2 * 2 ^ 304 + f.1 * 2 ^ 288 +
      s.reg O.planGen % 2 ^ 16 * 2 ^ 272 + flags * 2 ^ 256 + s.reg O.aqSegSeq c % 2 ^ 32 * 2 ^ 224 + (n - post) * 2 ^ 192 + post * 2 ^ 160 + x.ignored * 2 ^ 128 + (if fn = 0 then 0 else fo * 2 ^ 88) +
      x.level * 2 ^ 85 + g.log2d * 2 ^ 81 + g.src % 32 * 2 ^ 76 + g.kind * 2 ^ 75 + g.fmt * 2 ^ 73 + c * 2 ^ 69 }

/-- One facet entry (Table 7.5). -/
def facetEntry (l : List Int) : List Byte :=
  let n := l.length
  let sum : Int := l.foldl (· + ·) 0
  let sq : Int := l.foldl (fun a v => a + v * v) 0
  let a : Int := l.headD 0
  leBytes (ofI 16 (l.foldl min a)) 2 ++ leBytes (ofI 16 (l.foldl max a)) 2 ++ leBytes (ofI 16 a) 2 ++ leBytes n 2 ++
    leBytes (toF32 ((sum : Rat) / (n : Rat))) 4 ++ leBytes (toF32 ((sq : Rat) / (n : Rat))) 4

/-- A component as the facets see it: the upper 16 bits of a 24-bit value. -/
def facetCode (fmt : Nat) (v : Int) : Int := if fmt = 3 then clampI (-32768) 32767 (rneDiv v 256) else v

/-- The facets of samples, in intervals of `d`; `fuel` bounds the intervals (R167). -/
def facetBytes (g : AqCfg) (d : Nat) : Nat → List (Int × Int) → List Byte
  | 0, _ => []
  | f + 1, l =>
    match l with
    | [] => []
    | _ =>
      let p := l.take d
      facetEntry (p.map (fun v => facetCode g.fmt v.1)) ++
        (if g.kind = 0 then [] else facetEntry (p.map (fun v => facetCode g.fmt v.2))) ++ facetBytes g d f (l.drop d)

/-- Samples in a format of Table 7.6. -/
def aqSamples (fmt : Nat) (l : List (Int × Int)) : List Byte :=
  match fmt with
  | 0 => sampleBytes 0 (let r := l.map (·.1); if r.length % 2 = 0 then r else r ++ [0])
  | 1 => sampleBytes 1 (l.map (·.1))
  | 2 => frameBytes 0 l
  | _ => frameBytes 1 l

/-- A segment ends (R166, R168, R171): it takes its number and its places, and waits for its samples. -/
def State.segPlace (s : State) (c stop : Nat) (truncated : Bool) : State :=
  let g := s.segOf c stop truncated
  let n := segBytes g.cfg g.level g.count
  let fn := facetLen g.cfg g.level g.count
  let next := g.at_ + n
  let ptr := s.reg O.aqWritePtr c
  let seq := s.reg O.aqSegSeq c
  let s := s.aqPush c (n + fn)
  let x := s.ctx c
  let s := s.setCtx c { x with facetPtr := if fn = 0 then x.facetPtr else g.facetAt + fn, segs := x.segs + 1,
                               sinceArm := x.sinceArm + 1, firstPtr := if x.sinceArm = 0 then g.at_ else x.firstPtr,
                               wrapped := (x.sinceArm != 0 && (x.wrapped || decide (g.at_ < ptr))) || next == g.cfg.ringSize,
                               ended := x.ended ++ [g], cut := true }
  let s := (s.setReg O.aqWritePtr (if next = g.cfg.ringSize then 0 else next) c).bump O.aqSegSeq c
  if truncated then s.raise (aqEvt c 4) seq else s

/-- Write an ended segment and its facets with its samples (R167, R168). -/
def State.segWrite (s : State) (c : Nat) (g : Seg) (samples : List (Int × Int)) : State :=
  let l := samples.take g.count
  let facets := if g.cfg.facetSize = 0 then [] else facetBytes g.cfg (2 ^ (g.cfg.log2d + g.level)) l.length l
  let body := leBytes g.head 64 ++ leBytes g.record 32 ++ (if g.level = 0 then aqSamples g.cfg.fmt l else [])
  let bytes := body ++ List.replicate ((64 - body.length % 64) % 64) 0
  let s := (s.writeRing (c / 4) g.cfg.ringBase g.cfg.ringSize g.at_ bytes).1
  let s := if facets.isEmpty then s else (s.writeRing (c / 4) g.cfg.facetBase g.cfg.facetSize g.facetAt facets).1
  let s := s.streamRing 4 c g.cfg.ringBase g.cfg.ringSize g.at_ bytes.length g.first g.t96
  (List.range (facets.length / 16)).foldl (fun s i => s.streamRing 5 c g.cfg.facetBase g.cfg.facetSize (g.facetAt + 16 * i) 16 0 g.t96) s

/-- `AQ_SEGMENTS` is not 0 and reached. -/
def State.aqAll (s : State) (c n : Nat) : Bool := s.plan O.aqSegments c != 0 && decide (s.plan O.aqSegments c ≤ n)

/-- After a segment: STOPPED after a disarm, DONE, or on with the next at a source sample (R160, R163, R164, R166). -/
def State.ctxNext (s : State) (c stop : Nat) : State :=
  let x := s.ctx c
  if x.stopping then (s.setCtx c { x with stopping := false }).setReg O.aqState 0 c
  else if s.aqAll c x.segs then s.ctxDone c false
  else if s.aqRingFull c then s.ctxDone c true
  else if x.cfg.cont then s.ctxContinue c stop
  else s.ctxArmAt c stop (s.aqIndex x.cfg stop)

/-- The oldest ended segment is written with its samples. -/
def State.segFill (s : State) (c : Nat) (samples : List (Int × Int)) : State :=
  let x := s.ctx c
  match x.ended with
  | g :: rest => if samples.length = g.count then (s.setCtx c { x with ended := rest }).segWrite c g samples else s
  | [] => s

/-- SEGMENT_END (R164): the samples of the oldest ended segment, or of the one whose last sample has been taken. -/
def execSegmentEnd (c : Fin 16) (samples : List (Int × Int)) (s : State) : Result :=
  let n := c.val
  let x := s.ctx n
  match x.ended with
  | _ :: _ => .next (s.segFill n samples)
  | [] =>
    let stop := x.qt + x.cfg.post
    if s.reg O.aqState n ≠ 4 ∨ x.cut ∨ samples.length ≠ x.cfg.pre + x.cfg.post then .next s
    else if x.skipping then .next (s.ctxNext n stop)
    else .next (((s.segPlace n stop false).segFill n samples).ctxNext n stop)

/-- The segment in progress ends at a source sample (R166); it waits for its samples. One of no sample yet leaves nothing. -/
def State.ctxCut (s : State) (c stop : Nat) : State :=
  let x := s.ctx c
  if s.reg O.aqState c = 4 ∧ !x.cut then
    if !x.skipping ∧ x.qt - x.cfg.pre < stop then s.segPlace c stop true else s.setCtx c { x with cut := true }
  else s

/-- After a cut the context goes on at a source sample, unless it was to stop or the segment was its last (R160, R166). -/
def State.ctxResume (s : State) (c n : Nat) : State :=
  let st := s.reg O.aqState c
  if st = 4 then s.ctxNext c n
  else if st = 2 ∨ st = 3 then s.ctxArmAt c n (s.aqIndex (s.ctx c).cfg n)
  else s

/-! ### Expressions (R161, R162) -/

/-- The units that a context names. -/
def State.aqNamed (s : State) (c : Nat) : List Nat :=
  ((List.range 4).map (fun k => bits (s.plan O.aqUnits c) (8 * k + 7) (8 * k))).filter (fun u => decide (u < 16))

/-- A unit's state at an index, as its judgements so far give it. -/
def Trig.stateAt (x : Trig) (i : Nat) : Bool := ((x.states.find? (fun e => decide (e.1 ≤ i))).map (·.2)).getD false

/-- A unit's event at an index. -/
def Trig.eventAt (x : Trig) (i : Nat) : Option TrigEv := x.events.find? (fun e => e.index == i)

/-- Whether unit u's event at index i satisfies the expression; the index difference for THEN. AND asks for the states at that
index as they are known when the event comes (log entry 188). -/
def State.aqSatisfied (s : State) (c u i : Nat) : Option Nat :=
  let named := s.aqNamed c
  if !named.contains u then none
  else match s.plan O.aqExpr c with
  | 0 => some 0
  | 1 => if named.all (fun v => v == u || (s.trig v).stateAt i) then some 0 else none
  | _ =>
    let a := bits (s.plan O.aqUnits c) 7 0
    let b := bits (s.plan O.aqUnits c) 15 8
    if u ≠ b then none
    else ((s.trig a).events.find? (fun e => decide (e.index < i ∧ i - e.index ≤ s.plan O.aqThenWin c))).map (fun e => i - e.index)

/-- The named units that have fired at an index, lowest first: CAUSE is the first of them (R162). -/
def State.causes (s : State) (c i : Nat) : List Nat :=
  (List.range 16).filter (fun v => (s.aqNamed c).contains v && ((s.trig v).eventAt i).isSome)

/-- The trigger record of a context at an index (Table 7.8), and its time flags (R158). -/
def State.trigRecord (s : State) (c i seq diff : Nat) : Nat × Nat :=
  let l := s.causes c i
  let cause := l.headD 0
  let e := ((s.trig cause).eventAt i).getD ⟨i, 0, 0, 0, 0⟩
  let thenExpr := s.plan O.aqExpr c == 2
  (i * 2 ^ 192 + e.t96 * 2 ^ 96 + seq * 2 ^ 64 + l.foldl (fun a v => a + 2 ^ v) 0 * 2 ^ 48 + cause * 2 ^ 44 +
    s.plan O.tuSrc cause * 2 ^ 40 + c * 2 ^ 36 + (e.info ||| flagIf thenExpr 2) * 2 ^ 32 +
    (if thenExpr then diff % 2 ^ 32 else e.data), e.flags)

/-- A trigger is accepted: the segment opens (R163, R164), or is refused (R170). -/
def State.ctxAccept (s : State) (c i diff : Nat) : State :=
  if s.aqRingFull c then s.ctxDone c true
  else match s.aqOpen c with
  | none => s.aqRefuse c i
  | some s =>
    let x := s.ctx c
    let r := s.trigRecord c i x.trigSeq diff
    (s.setCtx c { x with trigIndex := i, qt := s.aqSample x.cfg i, record := r.1, recFlags := r.2, diff := diff,
                         trigSeq := (x.trigSeq + 1) % 2 ^ 32 }).setReg O.aqState 4 c

/-- A unit's event reaches a context (R161 to R163). -/
def State.ctxEvent (s : State) (c u i : Nat) : State :=
  if s.plan O.aqEnable c ≠ 1 ∨ s.plan O.aqMode c ≠ 0 ∨ !(s.aqNamed c).contains u then s
  else
    let x := s.ctx c
    let sat := s.aqSatisfied c u i
    match s.reg O.aqState c with
    | 2 => if sat.isSome then s.bumpSat O.aqIgnored c else s
    | 3 =>
      match sat with
      | none => s
      | some d => if s.aqSample x.cfg i < x.from_ + x.cfg.pre then s.bumpSat O.aqIgnored c else s.ctxAccept c i d
    | 4 =>
      if x.trigIndex = i then
        let r := s.trigRecord c i ((x.trigSeq + 2 ^ 32 - 1) % 2 ^ 32) x.diff
        s.setCtx c { x with record := r.1, recFlags := r.2 }
      else if sat.isSome then s.setCtx c { x with ignored := satAdd 32 x.ignored 1 } else s
    | _ => s

/-! ### Units (R153 to R159) -/

/-- A unit fires (R153, R159, R169): its status, the contexts, the generators and the lacing drivers; `base` and `wait` are those
of Table 7.3. -/
def State.tuFire (s : State) (u : Nat) (e : TrigEv) (base wait : Nat) : State :=
  let x := s.trig u
  let s := s.setTrig u { x with fresh := false, events := e :: x.events }
  let s := ((s.bumpSat O.tuFires u).setReg O.tuLastIndex e.index u).setReg O.tuLastT96 e.t96 u
  let s := if x.fresh then s.raise (tuEvt u 0) e.index else s
  let s := (List.range 16).foldl (fun s c => s.ctxEvent c u e.index) s
  let s := s.pgUnit u (s.plan O.tuSrc u) base wait
  let lines := s.plan O.tuLaceDrive u % 16
  if lines = 0 then s else s.laceFire lines

/-- A unit's state from an index on. -/
def State.tuSet (s : State) (u i : Nat) (now : Bool) : State :=
  let x := s.trig u
  (s.setTrig u { x with states := (i, now) :: x.states }).setReg O.tuState (b2n now) u

/-- The state of a level source is judged: a change from false to true is an event; with `both`, so is the other. -/
def State.tuLevelSource (s : State) (u : Nat) (now both : Bool) (e : TrigEv) (base wait : Nat) : State :=
  let old := s.reg O.tuState u == 1
  let s := s.tuSet u e.index now
  if now != old && (now || both) then s.tuFire u e base wait else s

/-- One sample of sources 1 and 2 is judged with its hysteresis (R154); `ge` compares the value with a threshold. -/
def State.tuAnalogue (s : State) (u : Nat) (ge : Int → Bool) (e : TrigEv) (base : Nat) : State :=
  let l := toI 32 (s.plan O.tuLevel u)
  let h : Int := s.plan O.tuHyst u
  let mode := s.plan O.tuMode u
  let x := s.trig u
  let up := ge l
  let x := { x with armUp := x.armUp || !ge (l - h), armDown := x.armDown || ge (l + h) }
  let old := s.reg O.tuState u == 1
  let now := if mode = 1 then !up else up
  let s := (s.setTrig u x).tuSet u e.index now
  let y := s.trig u
  let rising := up && now != old && mode != 1
  let falling := !up && now != old && mode != 0
  if rising && x.armUp then (s.setTrig u { y with armUp := !ge (l - h) }).tuFire u e base 0
  else if falling && x.armDown then (s.setTrig u { y with armDown := ge (l + h) }).tuFire u e base 0
  else s

/-- The cubic through four samples at −1, 0, 1, 2, at the point k ÷ 2^24, times 6 × 2^72. -/
def cubicAt (a b c d : Int) (k : Nat) : Int :=
  let x : Int := k
  let one : Int := 2 ^ 24
  3 * b * (x + one) * (x - one) * (x - 2 * one) - a * x * (x - one) * (x - 2 * one) -
    3 * c * (x + one) * x * (x - 2 * one) + d * (x + one) * x * (x - one)

/-- The crossing of a level within 0 to 1, in units of 2^-24, by halving. -/
def crossing (f : Nat → Int) (level : Int) (rising : Bool) : Nat → Nat → Nat
  | 0, lo => lo
  | n + 1, lo =>
    let mid := lo + 2 ^ n
    let below := if rising then decide (f mid < level) else decide (level ≤ f mid)
    crossing f level rising n (if below then mid else lo)

/-- Interpolated crossing time (R155), 2^-16 ns: t(n − 1) and the offset in steps of 1 ps. -/
def State.crossTime (s : State) (u ch i : Nat) (x : List Int) : Nat :=
  let g := fun (k : Nat) => x.getD k 0
  let l := toI 32 (s.plan O.tuLevel u)
  let k := crossing (cubicAt (g 0) (g 1) (g 2) (g 3)) (6 * l * 2 ^ 72) (decide (g 1 < l)) 24 0
  let ps := rne ((k : Rat) / (2 ^ 24 : Nat) * 1000000000000 / s.froot)
  s.sampleTime ch (i - 1) + (rneDiv (ps * 65536) 1000).toNat

/-- Whether 10 log10(I² + Q²) of a slice's output reaches a threshold in 1/256 dBFS (R105, R154). -/
def magGe (fmt : Nat) (iq : List Int) (th : Int) : Bool :=
  let p : Int := (iq.take 2).foldl (fun a v => a + v * v) 0
  if p ≤ 0 then false
  else if 2560 < th then false
  else if th < -60000 then true
  else dbLe th 2560 ((p : Rat) / (2 ^ (if fmt = 0 then 30 else 46) : Nat))

/-- The first breaking bin of a mask (R156): its point and whether the lower limit broke. -/
def maskBreak (mode : Nat) : Nat → List Byte → List Int → Option (Nat × Bool)
  | i, a :: b :: c :: d :: pts, l :: ls =>
    if mode ≠ 1 ∧ toI 16 (ofLe [a, b]) < l then some (i, false)
    else if mode ≠ 0 ∧ l < toI 16 (ofLe [c, d]) then some (i, true)
    else maskBreak mode (i + 1) pts ls
  | _, _, _ => none

/-- Default contents of a mask: one point that nothing breaks. -/
def maskDefault : List Byte := leBytes 0x80007FFF 4

/-- Input whose grid gives the time of a unit's trigger index (R87). -/
def State.tuInput (s : State) (u : Nat) : Nat :=
  let sel := s.plan O.tuSel u
  match s.plan O.tuSrc u with
  | 1 => sel % 4
  | 2 => s.plan O.ddcInput (sel % 32)
  | 3 => s.srcInput (sel % 4) (bits sel 12 8)
  | 4 => let p := bits (s.plan O.tuRegion u) 44 44
         s.srcInput (s.plan O.dnPEngine 0 p) (s.plan O.dnPSrc 0 p)
  | _ => 0

/-- A flag line is set: any position of its bench holds it. -/
def State.flagLine (s : State) (line : Nat) : Bool :=
  s.positions.any (fun p => p.1 / 16 == line / 4 && p.2.flags.testBit (line % 4))

/-- CLK_UNQUAL, TIME_UNSET and SUSPECT of an input over a span (R158). -/
def State.tuFlags (s : State) (ch a b : Nat) : Nat := (s.spanFlags ch a b).1 &&& (BF.clkUnqual ||| BF.timeUnset ||| BF.suspect)

/-- A sample of a slice that refers to an input index, if the slice has put it out and still holds it. -/
def State.sliceAt (s : State) (m i : Nat) : Option (Int × Int) :=
  let x := s.slice m
  let k := 2 ^ s.plan O.ddcK m
  let q := (i - x.nSync) / k
  if x.nSync + q * k = i ∧ q < x.q then x.outs[x.q - 1 - q]? else none

/-- When a bin of a source's spectrum leaves its engine (R146), from the input index of the span's last sample and the fF cycles
from the first bin on, and the cycles for which it may wait besides. -/
def State.binLeaves (s : State) (e src last cycles : Nat) : Nat × Nat :=
  (s.sampleTime (s.srcInput e src) last + ticksOf (s.specDelay e src + nat cycles / s.fF), (s.teJ e * s.fF).ceil.toNat)

/-- Source 1 sees a sample (R154, R155). -/
def State.tuCode (s : State) (u : Nat) (o : TrigObs) : State :=
  let ch := s.tuInput u
  let e : TrigEv := ⟨o.index, T96.ofTicks (s.crossTime u ch o.index o.samples), 8, 0, s.tuFlags ch o.index o.index⟩
  s.tuAnalogue u (fun l => decide (l ≤ o.samples.getD 2 0)) e (s.sampleTime ch o.index)

/-- Source 2 sees an output of its slice (R154). -/
def State.tuMagnitude (s : State) (u : Nat) (o : TrigObs) : State :=
  let m := s.plan O.tuSel u % 32
  let ch := s.tuInput u
  match s.sliceAt m o.index with
  | none => s
  | some v =>
    let t := s.sampleTime ch o.index
    let d := s.sliceD m
    let e : TrigEv := ⟨o.index, T96.ofTicks t, 0, 0, s.tuFlags ch (max (s.slice m).nSync (o.index - d)) (o.index + d)⟩
    s.tuAnalogue u (magGe (s.plan O.outFormat m) [v.1, v.2]) e (t + ticksOf (s.sliceLatency m))

/-- Source 3 sees the newest spectrum of its source (R156). -/
def State.tuMasked (s : State) (u : Nat) : State :=
  let en := s.plan O.tuSel u % 4
  let src := bits (s.plan O.tuSel u) 12 8
  let x := s.engSrc en src
  if x.bins.isEmpty then s else
  let l := x.bins.map (fun v => (logPower (toF32 (binPower v))).1)
  let b := maskBreak (s.plan O.tuMode u) 0 (s.dom O.tuMaskTable (s.plan O.tuMask u) 0 maskDefault) l
  let data := match b with | some p => p.1 + (if p.2 then 2 ^ 31 else 0) | none => 0
  let last := x.at_ + (s.teL en - 1) * (if s.plan O.teSrcKind en = 0 then 1 else 2 ^ s.plan O.ddcK src)
  let base := s.binLeaves en src last ((match b with | some p => p.1 | none => 0) / 8)
  s.tuLevelSource u b.isSome false ⟨x.at_, T96.ofTicks (s.sampleTime (s.tuInput u) x.at_), 0, data, 0⟩ base.1 base.2

/-- Source 4 sees the last group that its plane has been given (R181). -/
def State.tuRegionHits (s : State) (u : Nat) : State :=
  let r := s.plan O.tuRegion u
  let p := bits r 44 44
  let en := s.plan O.dnPEngine 0 p
  let src := s.plan O.dnPSrc 0 p
  match Map.get s.density.plotted [] p with
  | [] => s
  | g :: _ =>
    let inside := g.places.filter (fun q => decide (bits r 32 23 ≤ q.1 ∧ q.1 < bits r 32 23 + bits r 43 33 ∧
      bits r 10 0 ≤ q.2 ∧ q.2 < bits r 10 0 + bits r 22 11))
    let hit := decide (toI 32 (s.plan O.tuLevel u) ≤ ((inside.length * g.weight : Nat) : Int))
    let base := s.binLeaves en src g.last ((s.teC en - 1) / 8)
    s.tuLevelSource u hit false ⟨g.first, T96.ofTicks (s.sampleTime (s.tuInput u) g.first), 0, 0, 0⟩ base.1 base.2

/-- A registered source is judged in an fF cycle: its registration time lies some time before it (R157). -/
def State.tuRegistered (s : State) (u cycle early : Nat) (now : Bool) (info : Nat) (t96 : Option Nat) : State :=
  let at_ := s.after 4 cycle
  let t := at_ - early
  s.tuLevelSource u now false ⟨s.indexAt t, t96.getD (T96.ofTicks t), info, 0, 0⟩ at_ 0

/-- TU_EVENT (R153 to R158): a unit's source is judged. Sources 7 and 8 are judged by TRGIN_EDGE and by their timed entry. -/
def execTuEvent (u : Fin 16) (o : TrigObs) (s : State) : Result :=
  let n := u.val
  let sel := s.plan O.tuSel n
  if s.plan O.tuEnable n ≠ 1 then .next s
  else match s.plan O.tuSrc n with
  | 1 => .next (s.tuCode n o)
  | 2 => .next (s.tuMagnitude n o)
  | 3 => .next (s.tuMasked n)
  | 4 => .next (s.tuRegionHits n)
  | 5 =>
    let v := f64 (s.reg O.msResult (sel % 16))
    let out := decide (v < f64 (s.plan O.tuWinLo n) ∨ f64 (s.plan O.tuWinHi n) < v)
    .next (s.tuRegistered n o.cycle.val 0 out 1 (some (s.reg O.msResultT96 (sel % 16))))
  | 6 =>
    let line := sel % 4
    let late := if bit (s.plan O.laceVetoLines) line then ticksOf (f64 (s.reg O.lacePeriod) / 1000000000000) else 0
    .next (s.tuRegistered n o.cycle.val (s.after 4 4 - s.after 4 0 + late) (bit (s.hidden H.laceT) line) 4 none)
  | 9 => .next (s.tuRegistered n o.cycle.val 0 (s.flagLine (sel % 64)) 4 none)
  | _ => .next s

/-- A unit of source 7 sees its pin (R154, R157). -/
def State.tuPin (s : State) (u cycle : Nat) : State :=
  if s.plan O.tuEnable u = 1 ∧ s.plan O.tuSrc u = 7 then
    let level := s.hidden H.trgin (s.plan O.tuSel u % 8) == 1
    let mode := s.plan O.tuMode u
    let t := s.after 4 cycle - (s.after 4 4 - s.after 4 0)
    s.tuLevelSource u (if mode = 1 then !level else level) (mode == 2) ⟨s.indexAt t, T96.ofTicks t, 4, 0, 0⟩ t 0
  else s

/-- TRGIN_EDGE (R157): registered in the fF cycle that sees it, less the latency from the ball of 4 fF cycles. -/
def execTrginEdge (pin : Fin 8) (level : Bool) (cycle : Fin 8) (s : State) : Result :=
  if s.hidden H.trgin pin.val = b2n level then .next s
  else
    .next ((List.range 16).foldl (fun s u =>
      if s.plan O.tuSel u % 8 = pin.val then s.tuPin u cycle.val else s) (s.setHidden H.trgin (b2n level) pin.val))

/-- A timed entry of kind 6 (Table 7.1): none where the unit does not accept it. Its state holds for `TU_STRETCH` fF cycles of
four samples. -/
def State.tuTimed (s : State) (u t : Nat) : Option State :=
  if s.plan O.tuEnable u = 1 ∧ s.plan O.tuSrc u = 8 then
    let i := s.indexAt t
    let x := s.trig u
    let s := s.setTrig u { x with states := (i + 4 * s.plan O.tuStretch u, false) :: (i, true) ::
                                              x.states.filter (fun e => decide (e.1 < i)) }
    some ((s.setReg O.tuState 1 u).tuFire u ⟨i, T96.ofTicks (s.stampAt i), 0, 0, 0⟩ t 0)
  else none

/-- TU_STRETCH_EXPIRE (R153). -/
def execTuStretchExpire (u : Fin 16) (s : State) : Result :=
  if s.plan O.tuSrc u.val = 8 then .next (s.setReg O.tuState 0 u.val) else .next s

/-- A unit's source restarts at an index (R158): state cleared, hysteresis re-armed. -/
def State.tuRestart (s : State) (u i cause : Nat) : State :=
  if s.plan O.tuEnable u = 1 then
    let x := s.trig u
    ((s.setTrig u { x with armUp := true, armDown := true }).tuSet u i false).raise (tuEvt u 1) cause
  else s

/-- Every unit of full-rate input `ch`, at a block with GAP. -/
def State.tuGap (s : State) (ch i : Nat) : State :=
  (List.range 16).foldl (fun s u => if s.plan O.tuSrc u = 1 ∧ s.plan O.tuSel u % 4 = ch then s.tuRestart u i 1 else s) s
/-- Every unit of slice `m`, at a decimator reset. -/
def State.tuSliceReset (s : State) (m i : Nat) : State :=
  (List.range 16).foldl (fun s u => if s.plan O.tuSrc u = 2 ∧ s.plan O.tuSel u % 32 = m then s.tuRestart u i 2 else s) s
/-- Every unit of a source of engine `e`, at a transform restart. -/
def State.tuTransform (s : State) (e src i : Nat) : State :=
  (List.range 16).foldl (fun s u =>
    let sel := s.plan O.tuSel u
    let p := bits (s.plan O.tuRegion u) 44 44
    if (s.plan O.tuSrc u = 3 ∧ sel % 4 = e ∧ (s.plan O.teSrcKind e = 0 ∨ bits sel 12 8 = src)) ∨
       (s.plan O.tuSrc u = 4 ∧ s.plan O.dnPEngine 0 p = e ∧ (s.plan O.teSrcKind e = 0 ∨ s.plan O.dnPSrc 0 p = src)) then s.tuRestart u i 3 else s) s

/-- Contexts of a source. -/
def State.ctxsOf (s : State) (kind src : Nat) : List Nat :=
  (List.range 16).filter (fun c => s.plan O.aqEnable c == 1 && (s.ctx c).cfg.kind == kind && (s.ctx c).cfg.src == src)

/-- Cut the segments of a source at its sample. -/
def State.ctxCutAll (s : State) (kind src n : Nat) : State := (s.ctxsOf kind src).foldl (fun s c => s.ctxCut c n) s
/-- The source stops at its sample: segments are cut, and triggered contexts arm there at once (R166). -/
def State.ctxHalt (s : State) (kind src n : Nat) : State :=
  (s.ctxsOf kind src).foldl (fun s c =>
    let s := s.ctxCut c n
    if (s.ctx c).cfg.cont then s else s.ctxResume c n) s
/-- They go on at a sample. -/
def State.ctxResumeAll (s : State) (kind src n : Nat) : State := (s.ctxsOf kind src).foldl (fun s c => s.ctxResume c n) s

/-! ### Masks (R156) -/

/-- A load of `TU_MASK_TABLE`. -/
def actMaskTable (k : Nat) (image : List Byte) : Act := fun s =>
  if image.length % 4 ≠ 0 ∨ image.isEmpty then .error Abort.type
  else if 262144 < image.length then .error (Abort.adm 0x0A)
  else if s.anyPlan (fun p => (List.range 16).any (fun u =>
      planVal p O.tuEnable u == 1 && planVal p O.tuSrc u == 3 && planVal p O.tuMask u == k)) then .error Abort.busy
  else .ok (s.setDom O.tuMaskTable image k)

/-- MASK_TABLE_LOAD (R156). -/
def execMaskTableLoad (m : Master) (mask : Fin 4) (image : List Byte) (s : State) : Result :=
  s.load m (O.tuMaskTable.key mask.val 0) (actMaskTable mask.val image)

/-! ### Commits (R158, R163, R166) -/

/-- The settings of a unit. -/
def tuRows : List Row :=
  [O.tuEnable, O.tuSrc, O.tuSel, O.tuMode, O.tuLevel, O.tuHyst, O.tuWinLo, O.tuWinHi, O.tuStretch, O.tuMask, O.tuRegion,
   O.tuLaceDrive, O.tuLatBound]
/-- The settings of a context. -/
def aqRows : List Row :=
  [O.aqEnable, O.aqMode, O.aqSrcKind, O.aqSrc, O.aqExpr, O.aqUnits, O.aqThenWin, O.aqPre, O.aqPost, O.aqSegments,
   O.aqRingBase, O.aqRingSize, O.aqFacetBase, O.aqFacetSize, O.aqFacetLog2d, O.aqRingMode, O.aqStart, O.aqDeclRate,
   O.aqLadHigh, O.aqLadLow, O.aqLadHold, O.aqLadMax]

/-- Whether two plans differ in a row of an instance. -/
def plansDiffer (a b : Store) (rows : List Row) (i : Nat) : Bool := rows.any (fun r => planVal a r i != planVal b r i)

/-- A commit touches a context: its settings or those of a unit that it names differ, or its source's format. -/
def ctxTouched (a b : Store) (c : Nat) : Bool :=
  plansDiffer a b aqRows c || aqCfg a c != aqCfg b c ||
    (List.range 4).any (fun k =>
      let u := bits (planVal b O.aqUnits c) (8 * k + 7) (8 * k)
      decide (u < 16) && plansDiffer a b tuRows u)

/-- Before a commit's switch: segments of touched contexts end, and their FIFOs have drained under the old settings. -/
def State.ctxCutCommit (s : State) (new : Store) : State :=
  (List.range 16).foldl (fun s c =>
    if ctxTouched s.active new c then
      (if s.plan O.aqEnable c = 1 then s.ctxCut c (s.aqTaken (s.ctx c).cfg) else s).aqSettle c
    else s) s

/-- A context starts with the active settings; data of former segments goes on draining. -/
def State.ctxStart (s : State) (c : Nat) : State :=
  let old := s.ctx c
  let g := aqCfg s.view c
  let s := s.setCtx c { cfg := g, ended := old.ended, fill := old.fill, fillAt := old.fillAt }
  let s := (((s.setReg O.aqSegSeq 0 c).setReg O.aqLevel 0 c).setReg O.aqIgnored 0 c).setReg O.aqRefused 0 c
  let s := (s.setReg O.aqWritePtr 0 c).setReg O.aqState 0 c
  if s.plan O.aqStart c = 1 then s.setReg O.aqState 1 c
  else if g.cont then s.ctxContinue c (if g.kind = 0 then (s.idx + 65535) / 65536 * 65536 else s.aqSample g s.idx)
  else s.ctxArm c s.idx

/-- After a commit's switch: touched contexts start anew or stop. -/
def State.ctxCommit (s : State) (old : Store) : State :=
  (List.range 16).foldl (fun s c =>
    if s.plan O.aqEnable c = 1 then
      if ctxTouched old s.active c then s.ctxStart c else s
    else if planVal old O.aqEnable c = 1 then
      (s.setCtx c { ended := (s.ctx c).ended, fill := (s.ctx c).fill, fillAt := (s.ctx c).fillAt, cfg := (s.ctx c).cfg }).setReg O.aqState 0 c
    else s) s

/-- After a commit's switch: units whose settings changed are cleared (R158); the next event of every unit is its first after
the commit. -/
def State.tuCommit (s : State) (old : Store) : State :=
  (List.range 16).foldl (fun s u =>
    let s := s.setTrig u { s.trig u with fresh := true }
    if plansDiffer old s.active tuRows u then
      let s := (s.setTrig u {}).setReg O.tuState 0 u
      (s.tuRestart u s.idx 4).tuPin u 0
    else s) s

end Sys2Proof.Machine
end

