-- ==== Sys2Proof/Machine/AwlBench.lean ====
section
/-! DEFINITION. Benches, positions and physical cores: memory, windows, frames, images and substitution (spec 09_awl.md). -/

namespace Sys2Proof.Machine

namespace H
/-- the image stored for a position is valid (R209), by 16 × bench + position -/
def awValid : Nat := 490
end H

/-- Number of a position in the device. -/
def posKey (p : Pos) : Nat := 16 * p.bench.val + p.pos.val

/-- A position. -/
def State.aw (s : State) (k : Nat) : Position := Map.get s.positions {} k
/-- Set it. -/
def State.setAw (s : State) (k : Nat) (q : Position) : State := { s with positions := Map.put s.positions {} k q }
/-- Set its core's registers. -/
def State.setCore (s : State) (k : Nat) (c : Core) : State := s.setAw k { s.aw k with core := c }

/-- Data of a core event (R216). -/
def awData (k kind value : Nat) : Nat := kind + 256 * (k % 16) + 65536 * (value % 65536)

/-- The event of the core that serves a position (R216). -/
def State.awEvent (s : State) (k kind value : Nat) : State :=
  s.raise (0x480 + 17 * (k / 16) + s.reg O.awPhys k) (awData k kind value)

/-! ### Memory (R196, R197) -/

/-- Region of a core address (Table 9.1): 0 X with the token area, 1 Y, 2 bench memory, 3 none. -/
def awRegion (a : Nat) : Nat := if a < 0x4000 then 0 else if a < 0x8000 then 1 else if a < 0x80000 then 3 else 2

/-- A byte of a core's address space; 0 where nothing is mapped. -/
def State.awByte (s : State) (k a : Nat) : Byte :=
  match awRegion a with
  | 0 => Map.get (s.aw k).x 0 a
  | 1 => Map.get (s.aw k).y 0 (a - 0x4000)
  | 2 => Map.get s.bench 0 (k / 16 * 2 ^ 20 + (a - 0x80000))
  | _ => 0

/-- `n` bytes of it. -/
def State.awBytes (s : State) (k a : Nat) : Nat → List Byte
  | 0 => []
  | n + 1 => s.awByte k a :: s.awBytes k (a + 1) n

/-- Store a byte; the token area and unmapped addresses take none. -/
def State.awPut (s : State) (k a : Nat) (b : Byte) : State :=
  match awRegion a with
  | 0 => if a < 0x80 then s else s.setAw k { s.aw k with x := Map.put (s.aw k).x 0 a b }
  | 1 => s.setAw k { s.aw k with y := Map.put (s.aw k).y 0 (a - 0x4000) b }
  | 2 => { s with bench := Map.put s.bench 0 (k / 16 * 2 ^ 20 + (a - 0x80000)) b }
  | _ => s

/-- Store bytes. -/
def State.awPuts (s : State) (k a : Nat) : List Byte → State
  | [] => s
  | b :: bs => (s.awPut k a b).awPuts k (a + 1) bs

/-- A memory fault (R196): MF, and kind 4 with the core address. -/
def State.awMemFault (s : State) (k a : Nat) : State :=
  (s.setCore k { (s.aw k).core with sr := srSet (s.aw k).core.sr SR.mf true }).awEvent k 4 (a / 16)

/-- A load of `n` bytes at an address taken as a multiple of `n` (R223): the value, 0 where nothing is mapped. -/
def State.awLoad (s : State) (k a n : Nat) : Nat × State :=
  let a := a - a % n
  if awRegion a = 3 then (0, s.awMemFault k a) else (ofLe (s.awBytes k a n), s)

/-- A store of `n` bytes likewise. -/
def State.awStore (s : State) (k a n v : Nat) : State :=
  let a := a - a % n
  if awRegion a = 3 then s.awMemFault k a else s.awPuts k a (leBytes v n)

/-! ### Flag lines (R204) -/

/-- A position's flag bits change: `BN_FLAGS` is the OR over the bench. R22 brings the flag lines to the event unit too and no
rule gives them an event there, so none is raised (DESIGN CHOICE, log entry 174). -/
def State.setAwFlags (s : State) (k f : Nat) : State :=
  let s := s.setAw k { s.aw k with flags := f }
  s.setReg O.bnFlags ((List.range 16).foldl (fun a i => a ||| (s.aw (16 * (k / 16) + i)).flags) 0) (k / 16)

/-! ### Frames (R200 to R203, R234) -/

/-- Bytes per bin of a detector (Table 6.1), or in pair form where it has one (R199). -/
def binBytes (det conv : Nat) : Nat :=
  match det with
  | 0 => 6
  | 3 => 2
  | 7 => if conv = 1 then 8 else 16
  | _ => 4

/-- Bytes of one half of a window. -/
def State.halfBytes (s : State) (b w : Nat) : Nat :=
  s.plan O.bnWBinCount b w * binBytes (s.plan O.bnWDet b w) (s.plan O.bnWConv b w)

/-- The token area (Table 9.2). -/
def State.tokenArea (s : State) (b w seq header missed : Nat) : List Byte :=
  leBytes header 64 ++ leBytes seq 4 ++ leBytes (0x80000 + s.plan O.bnWBase b w + seq % 2 * s.halfBytes b w) 4 ++
    leBytes (s.plan O.bnWBinCount b w) 4 ++ leBytes missed 4 ++ leBytes 0 48

/-- Where a core goes on at a token: at ENTRY with every register cleared, at OVR_ENTRY with loops and stack emptied, after
the last WAIT after an overrun, or where it stands (R201, R202, R234). -/
def Position.resume (q : Position) : Core :=
  if q.fresh then { pc := BitVec.ofNat 12 q.entry }
  else if q.overrun then
    if q.ovrEntry = 0xFFFF then { q.core with pc := q.afterWait.getD (BitVec.ofNat 12 q.entry) }
    else { q.core with pc := BitVec.ofNat 12 q.ovrEntry, loops := [], stack := [] }
  else q.core

/-- The core takes its pending token and starts the frame (R200). -/
def State.awTake (s : State) (k : Nat) : State :=
  let q := s.aw k
  match q.token with
  | none => s
  | some (seq, header) =>
    let w := s.plan O.awWindow k
    let s := s.setAw k { q with
      core := q.resume, x := Map.putBytes q.x 0 (s.tokenArea (k / 16) w seq header q.missed), running := true, cycles := 0,
      fresh := false, overrun := false, token := none, frame := seq, header := header, window := w,
      budget := s.plan O.awBudget k, recMax := s.plan O.awRecMax k, missed := 0, recBytes := 0,
      afterWait := if q.fresh then none else q.afterWait }
    s.setReg O.awState 2 k

/-- A frame of a window that a position does not process (R203). -/
def State.awMiss (s : State) (k : Nat) : State :=
  let q := s.aw k
  (s.setAw k { q with missed := satAdd 32 q.missed 1, recFlags := q.recFlags ||| 2 }).bumpSat O.awMissed k

/-- Token k reaches a position (R200, R203), for a record that left its engine at a moment: one from before the commit that the
position starts at is none of its frames (R210). -/
def State.awToken (s : State) (k seq header left : Nat) : State :=
  let q := s.aw k
  if left < q.startAt then s
  else if q.loading.isSome ∨ s.reg O.awState k = 0 ∨ s.reg O.awState k = 3 then s.awMiss k
  else
    let s := if q.token.isSome then s.awMiss k else s
    let s := s.setAw k { s.aw k with token := some (seq, header) }
    if q.running then s else s.awTake k

/-- A position begins anew (R201, R210): registers cleared, waiting for its first token. -/
def State.awFresh (s : State) (k : Nat) : State :=
  let q := s.aw k
  ((s.setAw k { q with core := {}, running := false, cycles := 0, fresh := true, overrun := false, afterWait := none,
                       restart := false, recFlags := q.recFlags ||| 1 }).setReg O.awCycMax 0 k).setReg O.awState 1 k

/-- A frame ends, at a WAIT or not, that a fitting core shadows (R214): one frame more without a difference, or the WAIT at which
the registers are copied. -/
def State.awShadowed (s : State) (k : Nat) (wait : Bool) : State :=
  { s with shadows := s.shadows.map (fun x =>
      if 16 * x.bench + x.pos = k then (if x.copied then { x with frames := x.frames + 1 } else { x with copied := wait }) else x) }

/-- The frame of a position has ended: it counts, a deferred restart applies, and a pending token is taken at once. -/
def State.awFrameEnd (s : State) (k : Nat) (wait : Bool) : State :=
  let q := s.aw k
  let s := (s.setAw k { q with running := false, core := { q.core with hazA1 := 0, hazA2 := 0, hazD1 := 0, hazD2 := 0, hazW1 := 0 }
                      }).bump O.awFrames k
  let s := (s.setReg O.awCycMax (max (s.reg O.awCycMax k) q.cycles) k).setReg O.awState 1 k
  let s := s.awShadowed k wait
  let s := if q.restart then s.awFresh k else s
  s.awTake k

/-- AW_BUDGET_OVERRUN (R202). -/
def execAwBudgetOverrun (p : Pos) (s : State) : Result :=
  let k := posKey p
  let q := s.aw k
  if q.running then
    let c := { q.core with sr := srSet q.core.sr SR.ovr true }
    let s := s.setAw k { q with core := c, cycles := q.budget, overrun := true, recFlags := q.recFlags ||| 4 }
    .next (((s.bumpSat O.awOverruns k).awEvent k 2 q.frame).awFrameEnd k false)
  else .next s

/-! ### Windows (R198, R199) -/

/-- A value in pair form (R199). -/
def pairOf (x : Rat) : Nat :=
  if x = 0 then 0x80000000 else
  let e := ilog2 (ratAbs x) + 1
  let m := rne (ratAbs x * 32768 / pow2 e)
  let r : Int × Int := if m = 32768 then (16384, e + 1) else (m, e)
  let r : Int × Int := if 32767 < r.2 then (32767, 32767) else if r.2 < -32767 then (16384, -32767) else r
  ofI 16 (if x < 0 then -r.1 else r.1) + 65536 * ofI 16 r.2

/-- Bytes cut into runs of `n`; `fuel` bounds the runs. -/
def chunks (n : Nat) : Nat → List Byte → List (List Byte)
  | 0, _ => []
  | f + 1, l => l.take n :: chunks n f (l.drop n)

/-- The bins of a record as a window holds them. -/
def windowBytes (det conv count : Nat) (raw : List Byte) : List Byte :=
  if conv = 0 ∨ det = 0 ∨ det = 3 then raw
  else if det = 7 then (chunks 8 (2 * count) raw).flatMap (fun c => leBytes (pairOf (f64 (ofLe c))) 4)
  else (chunks 4 count raw).flatMap (fun c => leBytes (pairOf (f32 (ofLe c))) 4)

/-- The record is of the window's source and detector. -/
def State.windowTakes (s : State) (b w header : Nat) : Bool :=
  s.plan O.bnWEnable b w == 1 && bits header 150 149 == s.plan O.bnWEngine b w && bits header 155 151 == s.plan O.bnWSrc b w &&
    bits header 160 157 == s.plan O.bnWDet b w

/-- Positions of a bench attached to a window. -/
def State.attached (s : State) (b w : Nat) : List Nat :=
  ((List.range 16).map (16 * b + ·)).filter (fun k => s.plan O.awEnable k == 1 && s.plan O.awWindow k == w)

/-- A position processes a frame of a half of a window (R203). -/
def State.halfHeld (s : State) (b w half : Nat) : Bool :=
  (List.range 16).any (fun i => let q := s.aw (16 * b + i); q.running && q.window == w && q.frame % 2 == half)

/-- A record leaves its engine: it is on its way to every window that takes it (R21, R198). -/
def State.benchHears (s : State) (r : DetOut) : State :=
  let h := s.specHeader r
  (List.range 64).foldl (fun s n =>
    if s.windowTakes (n / 4) (n % 4) h then
      let x := Map.get s.windows {} n
      { s with windows := Map.put s.windows {} n { x with queue := x.queue ++ [⟨h, r.bytes, s.up⟩] } }
    else s) s

/-- A record is in its window, or is not written because an attached position still processes that half (R198, R200, R203). -/
def State.windowRecord (s : State) (b w : Nat) (r : BusRec) (seq : Nat) : State :=
  if s.halfHeld b w (seq % 2) then (s.attached b w).foldl (fun s k => s.awMiss k) s
  else
    let det := s.plan O.bnWDet b w
    let count := s.plan O.bnWBinCount b w
    let e := binBytes det 0
    let raw := (r.bins.drop (s.plan O.bnWBinFirst b w * e)).take (count * e)
    let off := s.plan O.bnWBase b w + seq % 2 * s.halfBytes b w
    let s := { s with bench := Map.putBytes s.bench (b * 2 ^ 20 + off) (windowBytes det (s.plan O.bnWConv b w) count raw) }
    (s.attached b w).foldl (fun s k => s.awToken k seq r.header r.left) s

/-- BN_WINDOW_RECORD (R198, R200, R203): the oldest record on its way to a window arrives. -/
def execBnWindowRecord (b : Fin 16) (w : Fin 4) (s : State) : Result :=
  let n := 4 * b.val + w.val
  let x := Map.get s.windows {} n
  match x.queue with
  | [] => .next s
  | r :: rest =>
    .next ({ s with windows := Map.put s.windows {} n { seq := (x.seq + 1) % 2 ^ 32, queue := rest } }.windowRecord b.val w.val r x.seq)

/-! ### Images (R208, R209, R221) -/

/-- Bytes of an image's slot in the store. -/
def State.awSlot (s : State) (k : Nat) : Nat := s.plan O.awStoreBase + 65536 * k

/-- What an image puts into a core (R208). -/
def Position.loadImage (q : Position) (image : List Byte) : Position :=
  let len := fun i => ofLe ((image.drop i).take 4)
  let iLen := len 4
  let ws := imageWords ((image.drop 32).take iLen)
  { q with imem := (ws.zipIdx).foldl (fun m e => Map.put m 0 e.2 e.1) q.imem, ilen := iLen / 4,
           x := Map.putBytes q.x 0x80 ((image.drop (32 + iLen)).take (len 8)),
           y := Map.putBytes q.y 0 ((image.drop (32 + iLen + len 8)).take (len 12)),
           entry := ofLe ((image.drop 16).take 2), ovrEntry := ofLe ((image.drop 18).take 2) }

/-- A load of `AW_IMAGE` (R208, R221); the reserved bytes of its header are stored as 0 (R10). -/
def actAwImage (k : Nat) (image : List Byte) : Act := fun s =>
  let len := fun i n => ofLe ((image.drop i).take n)
  let iLen := len 4 4
  let words := iLen / 4
  let entry := len 16 2
  let ovr := len 18 2
  if image.length < 32 ∨ image.length ≠ 32 + iLen + len 8 4 + len 12 4 then .error Abort.type
  else if 49056 < image.length then .error (Abort.adm 0x0A)
  else if len 0 2 ≠ 0x5741 ∨ len 2 2 ≠ 1 ∨ iLen % 4 ≠ 0 ∨ iLen < 4 ∨ 16384 < iLen ∨ 16256 < len 8 4 ∨ 16384 < len 12 4 ∨
      words ≤ entry ∨ (words ≤ ovr ∧ ovr ≠ 0xFFFF) ∨ imageOk (imageWords ((image.drop 32).take iLen)) = false then
    .error Abort.range
  else if s.plan O.awStoreEn ≠ 1 then .error Abort.range
  else if s.anyPlan (fun p => planVal p O.awEnable k == 1) then .error Abort.busy
  else
    let image := image.take 20 ++ List.replicate 12 0 ++ image.drop 32
    let s := ((s.writeMem (s.awSlot k) image).portBytes 11 image.length).setHidden H.awValid 1 k
    .ok ((s.setAw k ((s.aw k).loadImage image)).setDom O.awImage image k)

/-- AW_IMAGE_LOAD (R208). -/
def execAwImageLoad (m : Master) (p : Pos) (image : List Byte) (s : State) : Result := s.load m (O.awImage.key (posKey p) 0) (actAwImage (posKey p) image)

/-- The image in a position's slot of the store, read through port SVC. -/
def State.awStored (s : State) (k : Nat) : List Byte × State :=
  let a := s.awSlot k
  let h := s.readMem a 32
  let n := 32 + ofLe ((h.drop 4).take 4) + ofLe ((h.drop 8).take 4) + ofLe ((h.drop 12).take 4)
  let r := s.readPort 11 a n
  (r.1, r.2.2)

/-! ### Substitution (R212, R213) -/

/-- The fitting shadows this position: it ends (R214). -/
def State.awUnshadow (s : State) (k : Nat) : State :=
  if s.shadows.any (fun x => 16 * x.bench + x.pos == k) then s.fitFail 3 3 else s

/-- A position stops at once; its flag bits clear (R204, R210). A spare that is being loaded for it comes to serve it stopped. -/
def State.awStop (s : State) (k : Nat) : State :=
  let s := (s.awUnshadow k).setAwFlags k 0
  (s.setAw k { s.aw k with running := false, token := none, restart := false }).setReg O.awState 0 k

/-- A bench has no position without a core: its fault ends. -/
def State.awCored (s : State) (b : Nat) : State :=
  if (List.range 16).any (fun i => s.reg O.awState (16 * b + i) == 3) then s else s.unfault (0x30 + b)

/-- A position is left without a core (R213). -/
def State.awNoCore (s : State) (k c : Nat) : State :=
  ((s.setReg O.awState 3 k).raise (0x591 + 2 * (k / 16)) (k % 16 + 16 * c)).fault (0x30 + k / 16) (k % 16)

/-- The spare of a bench is loaded for a position, in place of a core (R212 step 3). -/
def State.awLoadSpare (s : State) (k c : Nat) : State :=
  (s.setAw k { s.aw k with loading := some (s.reg O.bnSpare (k / 16), c) }).setReg O.bnSpare 0xFF (k / 16)

/-- The core that serves a position fails (R212, R213): the frame is abandoned, and a pending one is missed. -/
def State.awServingFails (s : State) (k c kind : Nat) : State :=
  let s := s.awEvent k 5 kind
  let s := if (s.aw k).token.isSome then s.awMiss k else s
  let none_ := s.reg O.bnSpare (k / 16) == 0xFF
  let s := ((s.awStop k).setReg O.bnPhysState 2 (k / 16) c).retire 3 (k / 16) c kind false (!none_)
  if none_ then s.awNoCore k c else s.awLoadSpare k c

/-- A spare core fails, in reserve or while it is being loaded for a position, which then has none (R212, R213). -/
def State.awSpareFails (s : State) (b c kind : Nat) : State :=
  let k := (List.range 16).find? (fun i => match (s.aw (16 * b + i)).loading with | some l => l.1 == c | none => false)
  let s := s.raise (0x480 + 17 * b + c) (awData (k.getD 0) 5 kind)
  let s := (s.setReg O.bnPhysState 2 b c).setReg O.bnSpare (if s.reg O.bnSpare b = c then 0xFF else s.reg O.bnSpare b) b
  let more := s.reg O.bnSpare b != 0xFF
  match k with
  | none => s.retire 3 b c kind false true
  | some i =>
    let s := (s.retire 3 b c kind false more).setAw (16 * b + i) { s.aw (16 * b + i) with loading := none }
    if more then s.awLoadSpare (16 * b + i) c
    else if s.plan O.awEnable (16 * b + i) = 1 then s.awNoCore (16 * b + i) c
    else s

/-- AW_CORE_FAIL (R212, R213). -/
def execAwCoreFail (b : Fin 16) (phys : Fin 17) (kind : Fin 3) (s : State) : Result :=
  let n := b.val
  let c := phys.val
  match s.reg O.bnPhysState n c with
  | 3 => if s.fitting = some (3, n, c) then .next (s.fitFail 4 2) else .next s
  | 1 => .next (s.awSpareFails n c (kind.val + 1))
  | 0 =>
    match (List.range 16).find? (fun i => s.reg O.awPhys (16 * n + i) == c) with
    | none => .next s
    | some i => .next (s.awServingFails (16 * n + i) c (kind.val + 1))
  | _ => .next s

/-- A core takes over a position with what the store holds of its image (R212 steps 3 and 4). -/
def State.awServe (s : State) (k c : Nat) : State :=
  let r := if s.hidden H.awValid k = 1 then s.awStored k else ([], s)
  let s := r.2
  let q := s.aw k
  let q := { q with x := [], y := [], imem := [], loading := none }
  let s := s.setAw k (if r.1.isEmpty then q else q.loadImage r.1)
  let s := (s.setReg O.awPhys c k).setReg O.bnPhysState 0 (k / 16) c
  if s.plan O.awEnable k = 1 then s.awFresh k else s.setReg O.awState 0 k

/-- AW_SPARE_LOADED (R212). -/
def execAwSpareLoaded (p : Pos) (s : State) : Result :=
  let k := posKey p
  match (s.aw k).loading with
  | none => .next s
  | some (sp, failed) =>
    .next ((((s.awServe k sp).awCored p.bench.val).bumpSat O.bnSwaps p.bench.val).raise (0x590 + 2 * p.bench.val)
      (p.pos.val + 16 * failed + 512 * sp))

/-- BENCH_MEM_DOUBLE_ERROR (R197, R212): a word of bench memory with a double error reads as 0; an error that the protection
corrects, in any memory of the core, is counted (log entry 191). -/
def execBenchMemDoubleError (p : Pos) (addr : BitVec 20) (double : Bool) (s : State) : Result :=
  let a := addr.toNat - addr.toNat % 4
  if !double then .next (s.bumpSat O.awMemErr (posKey p))
  else if awRegion a = 2 then
    let s := (s.awPuts (posKey p) a (leBytes 0 4)).awMemFault (posKey p) a
    .next (s.occurrence (0x30 + p.bench.val) p.pos.val)
  else .next s

/-! ### Spills (R207) -/

/-- SPILL_COMPLETE (R207): the oldest spill of a position. -/
def execSpillComplete (b : Fin 16) (pos : Fin 16) (s : State) : Result :=
  let k := 16 * b.val + pos.val
  match s.spills.find? (fun x => x.pos == k) with
  | none => .next s
  | some x =>
    let a := s.plan O.bnSpillBase b.val + x.off
    let m := b.val * 2 ^ 20 + x.bench
    let s := { s with spills := s.spills.erase x }
    let s := if x.out then (s.writeMem a (Map.getBytes s.bench m x.len)).portBytes 11 x.len
      else
        let r := s.readPort 11 a x.len
        { r.2.2 with bench := Map.putBytes r.2.2.bench m r.1 }
    let c := (s.aw k).core
    .next (s.setCore k { c with sr := srSet (srSet c.sr SR.spl true) SR.spb false })

/-! ### Commits (R210) -/

/-- A window's settings differ between two plans. -/
def windowDiffers (a b : Store) (n : Nat) : Bool :=
  [O.bnWEnable, O.bnWEngine, O.bnWSrc, O.bnWDet, O.bnWBase, O.bnWBinFirst, O.bnWBinCount, O.bnWConv].any
    (fun r => planVal a r (n / 4) (n % 4) != planVal b r (n / 4) (n % 4))

/-- A position's settings, or those of its window, differ between two plans. -/
def awDiffer (a b : Store) (k : Nat) : Bool :=
  [O.awWindow, O.awBudget, O.awRecMax].any (fun r => planVal a r k != planVal b r k) ||
    windowDiffers a b (k / 16 * 4 + planVal b O.awWindow k)

/-- A plan disables the image store or moves it. -/
def storeMoves (a b : Store) : Bool :=
  planVal a O.awStoreEn != planVal b O.awStoreEn || planVal a O.awStoreBase != planVal b O.awStoreBase

/-- Every stored image is invalid (R209). -/
def State.awInvalid (s : State) : State := (List.range 256).foldl (fun s k => s.setHidden H.awValid 0 k) s

/-- A core of the bench that works and serves no enabled position, for one whose own core is retired (R213). -/
def State.awFreeCore (s : State) (b : Nat) : Option Nat :=
  (List.range 16).find? (fun i => s.plan O.awEnable (16 * b + i) == 0 && s.reg O.bnPhysState b (s.reg O.awPhys (16 * b + i)) == 0)

/-- A position starts (R201, R210); one whose core is retired takes the spare, or a working core that serves no position in use. -/
def State.awStart (s : State) (k : Nat) : State :=
  let b := k / 16
  let s := s.setAw k { s.aw k with missed := 0, recFlags := 0, token := none, startAt := s.up }
  let c := s.reg O.awPhys k
  if (s.aw k).loading.isSome then s.setReg O.awState 0 k
  else if s.reg O.bnPhysState b c = 0 then s.awFresh k
  else if s.reg O.bnSpare b ≠ 0xFF then (s.awLoadSpare k c).setReg O.awState 0 k
  else
    match s.awFreeCore b with
    | none => s.awNoCore k c
    | some i =>
      let d := s.reg O.awPhys (16 * b + i)
      (s.setReg O.awPhys c (16 * b + i)).awServe k d

/-- Benches at a commit, once the new plan is active: stops, starts, restarts, windows and the store. -/
def State.awCommit (s : State) (old : Store) : State :=
  let s := if storeMoves old s.active then s.awInvalid else s
  let s := (List.range 64).foldl (fun s n =>
    if planVal old O.bnWEnable (n / 4) (n % 4) = 0 ∧ s.plan O.bnWEnable (n / 4) (n % 4) = 1 then
      { s with windows := Map.del s.windows n }
    else if windowDiffers old s.active n then
      { s with windows := Map.put s.windows {} n { Map.get s.windows {} n with queue := [] } }
    else s) s
  (List.range 256).foldl (fun s k =>
    let was := planVal old O.awEnable k
    let is_ := s.plan O.awEnable k
    if was = 1 ∧ is_ = 0 then (s.awStop k).awCored (k / 16)
    else if was = 0 ∧ is_ = 1 then s.awStart k
    else if was = 1 ∧ awDiffer old s.active k then
      let s := s.awUnshadow k
      let q := { s.aw k with startAt := s.up }
      if q.running then s.setAw k { q with restart := true, token := none }
      else if s.reg O.awState k = 1 then (s.setAw k { q with token := none }).awFresh k else s.setAw k q
    else s) s

end Sys2Proof.Machine
end

