-- ==== Sys2Proof/Machine/Density.lean ====
section
/-! DEFINITION. The density engine and the spectrogram generators (spec 08_density.md). -/

namespace Sys2Proof.Machine

namespace H
/-- lines that a generator has written since it started, by generator (R194, R394) -/
def sgWrote : Nat := 450
end H

/-! ### Columns and rows (R175 to R178) -/

/-- Columns of a plane. -/
def State.dnW (s : State) : Nat := if s.plan O.dnLayout = 0 then 2048 else 1024
/-- Planes in use. -/
def State.dnPlanes (s : State) : Nat := if s.plan O.dnLayout = 0 then 1 else 2
/-- Key of an entry. -/
def dnKey (p r x : Nat) : Nat := p * 2 ^ 21 + r * 2 ^ 11 + x

/-- Values of W columns from C bins: the extreme of the bins of a column, or the one bin it shows (R177). -/
def columns (f : Nat → Nat → Nat) (w : Nat) (vals : List Nat) : List Nat :=
  let c := vals.length
  (List.range w).map (fun x =>
    let a := x * c / w
    let b := if w ≤ c then (x + 1) * c / w else a + 1
    let v := (vals.drop a).take (b - a)
    v.foldl f (v.headD 0))

/-- Row of a level, and whether it was clamped (R177); the level of P = 0 lands in row 0. -/
def dnRow (top : Int) (step : Nat) (l : Int) : Nat × Bool :=
  let r : Int := 1023 - (top - l) / (step : Int)
  (if l = -32768 then 0 else (clampI 0 1023 r).toNat, decide (r < 0 ∨ 1023 < r))

/-- Rows of a column that gain hits (R178): `prev` is the row of the column before. -/
def dnRows (mode r : Nat) (prev : Option Nat) : List Nat :=
  match mode, prev with
  | 1, some p =>
    let a := min r (p + 1)
    let b := if p = 0 then r else max r (p - 1)
    (List.range (b + 1 - a)).map (· + a)
  | _, _ => [r]

/-! ### The table (R178, R182 to R184) -/

/-- An entry. -/
def State.dnGet (s : State) (k : Nat) : Nat := Map.get s.table s.density.age k
/-- Set it. -/
def State.dnPut (s : State) (k v : Nat) : State := { s with table := Map.put s.table s.density.age k v }

/-- A hit of a weight: the count saturates, the age becomes 0. -/
def State.dnHit (s : State) (plane k w : Nat) : State :=
  let c := s.dnGet k / 256
  if 16777215 < c + w then ((s.dnPut k (16777215 * 256)).bumpSat O.dnSatHits).raiseRare 0x406 plane
  else s.dnPut k ((c + w) * 256)

/-- Rows and columns of the hits of levels that lie in rows `r`, column 0 first (R178). -/
def dnPlaces (mode : Nat) (r : List Nat) : List (Nat × Nat) :=
  let prev : List (Option Nat) := none :: r.map some
  ((List.zip r prev).zipIdx).flatMap (fun q => (dnRows mode q.1.1 q.1.2).map (fun row => (row, q.2)))

/-- The hits of one group (R178, R180), kept for the region triggers (R181); a group that a change of the layout ended plots what
the new layout holds. -/
def State.dnPlot (s : State) (plane : Nat) (g : Group) : State :=
  let rows := g.cols.map (dnRow g.top g.step)
  let s := rows.foldl (fun s r => if r.2 then (s.bumpSat O.dnClamped).raiseRare 0x407 plane else s) s
  let places := (dnPlaces g.mode (rows.map (·.1))).filter (fun p => decide (plane < s.dnPlanes ∧ p.2 < s.dnW))
  let s := places.foldl (fun s p => s.dnHit plane (dnKey plane p.1 p.2) g.n) s
  { s with density := { s.density with plotted := Map.put s.density.plotted [] plane [⟨g.first, g.last, g.n, places⟩] } }

/-- The groups of a plane not yet written. -/
def State.dnGroups (s : State) (p : Nat) : List Group := Map.get s.groups [] p
/-- Set them. -/
def State.setDnGroups (s : State) (p : Nat) (l : List Group) : State := { s with groups := Map.put s.groups [] p l }

/-- The oldest group of a plane is plotted if it is complete. -/
def State.dnWrite (s : State) (plane : Fin 2) : State :=
  match s.dnGroups plane.val with
  | [] => s
  | g :: rest =>
    if g.full then
      let s := (s.setDnGroups plane.val rest).dnPlot plane.val g
      let d := s.density
      { s with density := { d with written := d.written.set plane.val ((d.written.get plane + 1) % 2 ^ 32),
                                   flags := d.flags ||| g.flags } }
    else s

/-- A plane takes the spectra of a source. -/
def State.dnTakes (s : State) (p e src : Nat) : Bool :=
  s.reg O.dnState == 1 && decide (p < s.dnPlanes) && s.plan O.dnPEngine 0 p == e && s.plan O.dnPSrc 0 p == src

/-- A spectrum reaches the planes that take its source (R177, R180). -/
def State.dnSpectrum (s : State) (e src index last flags : Nat) (bins : List (Int × Int)) : State :=
  (List.range 2).foldl (fun s p =>
    if s.dnTakes p e src then
      let cols := (columns max s.dnW (bins.map (fun b => toF32 (binPower b)))).map (fun v => (logPower v).1)
      let l := s.dnGroups p
      let fresh : Group := { top := toI 16 (s.plan O.dnPTop 0 p), step := s.plan O.dnPRowStep 0 p, mode := s.plan O.dnMode,
                              first := index }
      let (old, g) : List Group × Group := match l.getLast? with
        | some g => if g.full then (l, fresh) else (l.dropLast, g)
        | none => ([], fresh)
      let g := { g with n := g.n + 1, last := last, flags := g.flags ||| flags,
                        cols := if g.cols.isEmpty then cols else List.zipWith max g.cols cols }
      s.setDnGroups p (old ++ [{ g with full := decide (s.reg O.dnGroup ≤ g.n) }])
    else s) s

/-- A plane's group in progress ends early (R180). -/
def State.dnEndGroup (s : State) (p : Nat) : State := s.setDnGroups p ((s.dnGroups p).map (fun g => { g with full := true }))

/-- A plane's group ends early, and every group that it holds is plotted as its first spectrum found the settings (R180, R184). -/
def State.dnFlush (s : State) (p : Fin 2) : State :=
  (s.dnGroups p.val).foldl (fun s _ => s.dnWrite p) (s.dnEndGroup p.val)

/-- A source starts or restarts: the groups of its planes end early, and nothing of it is left to judge a region by (R158). -/
def State.dnRestart (s : State) (e src : Nat) : State :=
  (List.range 2).foldl (fun s p =>
    if s.dnTakes p e src then
      let s := s.dnEndGroup p
      { s with density := { s.density with plotted := Map.put s.density.plotted [] p [] } }
    else s) s

/-- An entry after a decay tick (R182). -/
def dnDecayed (mode amount shift persist v : Nat) : Nat :=
  let c := v / 256
  let age := min 255 (v % 256 + 1)
  let c := match mode with | 0 => c | 1 => c - amount | _ => c - c >>> shift
  let c := if persist ≤ age ∧ persist ≠ 255 then 0 else c
  c * 256 + age

/-- Every count and age is cleared (R184); the cause is Table 8.5's. -/
def State.dnClear (s : State) (cause : Nat) : State :=
  let s := { s with table := [], density := { s.density with age := 0, clearDue := false, written := Vector.replicate 2 0 } }
  (s.setReg O.dnClearT96 s.now).raise 0x403 cause

/-- `DN_CLEAR_CMD` (R184). -/
def actDnClear (v : Nat) : Act := onlyOne v <| reaching 30 fun s => .ok { s with density := { s.density with clearDue := true } }

/-- DN_CLEAR_CMD (R184). -/
def execDnClearCmd (m : Master) (value : Nat) (s : State) : Result := s.command m O.dnClearCmd value (actDnClear value)

/-! ### Snapshots (R189, R190) -/

/-- Slots of the snapshot area. -/
def State.dnSlots (s : State) : Nat := s.plan O.dnSnapSize / 8388672

/-- `DN_SNAP_CMD` (R189, R190); without a slot no snapshot can be taken (log entry 30). -/
def actDnSnap (v : Nat) : Act := onlyOne v <| reaching 30 fun s =>
  if s.density.copying.isSome then .error Abort.busy
  else if s.dnSlots = 0 then .error Abort.range
  else .ok { s with density := { s.density with snapDue := true } }

/-- DN_SNAP_CMD (R189). -/
def execDnSnapCmd (m : Master) (value : Nat) (s : State) : Result := s.command m O.dnSnapCmd value (actDnSnap value)

/-- A timed snapshot: none where one is being copied. -/
def State.dnSnapRequest (s : State) : Option State :=
  if s.density.copying.isSome ∨ s.dnSlots = 0 then none else some { s with density := { s.density with snapDue := true } }

/-- DN_SNAP_PERIOD_EXPIRE (R190). -/
def execDnSnapPeriodExpire (s : State) : Result :=
  if s.plan O.dnSnapPeriod = 0 ∨ s.dnSlots = 0 then .next s
  else if s.density.copying.isSome then
    let s := s.bumpSat O.dnSnapSkipped
    .next (s.raise 0x402 (s.reg O.dnSnapSkipped))
  else .next { s with density := { s.density with snapDue := true } }

/-- Table 8.2 as a bit pattern. -/
def State.snapHeader (s : State) : Nat :=
  let d := s.density
  s.reg O.dnSnapSeq * 2 ^ 480 + s.reg O.dnSnapT96 * 2 ^ 384 + d.written.get 0 * 2 ^ 352 +
    (if s.plan O.dnLayout = 0 then 0 else d.written.get 1) * 2 ^ 320 + s.reg O.planGen % 2 ^ 16 * 2 ^ 304 + d.flags * 2 ^ 288 +
    s.reg O.dnGroup * 2 ^ 280 + s.plan O.dnLayout * 2 ^ 278 + s.plan O.dnMode * 2 ^ 277 + b2n d.swapped * 2 ^ 276

/-- The table is frozen for copying (R183, R189). -/
def State.dnFreeze (s : State) : State :=
  let s := (s.bump O.dnSnapSeq).setReg O.dnSnapT96 s.now
  let d := s.density
  { s with density := { d with snapDue := false, copying := some (s.plan O.dnSnapBase + d.slot % s.dnSlots * 8388672),
                               frozen := s.table, frozenAge := d.age, header := s.snapHeader,
                               slot := (d.slot % s.dnSlots + 1) % s.dnSlots, flags := 0, swapped := false } }

/-- A snapshot that is due is taken. -/
def State.dnSnapNow (s : State) : State :=
  if s.density.snapDue ∧ s.density.copying = none ∧ s.dnSlots ≠ 0 then s.dnFreeze else s

/-- What is due at a tick before its decay and its hits: a snapshot, then a clear (R183). -/
def State.dnDue (s : State) : State :=
  let s := s.dnSnapNow
  if s.density.clearDue then s.dnClear 1 else s

/-- DN_SNAP_TAKE (R189). -/
def execDnSnapTake (s : State) : Result := .next s.dnSnapNow

/-- DN_CLEAR_APPLY (R184): a snapshot that is due at the same tick is taken first (R183). -/
def execDnClearApply (s : State) : Result := if s.density.clearDue then .next s.dnDue else .next s

/-- DN_DECAY_TICK (R182), after a snapshot and a clear that are due at the tick (R183). -/
def execDnDecayTick (s : State) : Result :=
  let s := s.dnDue
  if s.reg O.dnState = 1 then
    let f := dnDecayed (s.plan O.dnDecay) (s.plan O.dnDecayAmount) (s.plan O.dnDecayShift) (s.plan O.dnPersist)
    let base := min 255 (s.density.age + 1)
    .next { s with density := { s.density with age := base },
                   table := (s.table.map (fun e => (e.1, f e.2))).filter (fun e => e.2 != base) }
  else .next s

/-- DN_GROUP_WRITE (R181): the oldest group that is complete, after a snapshot and a clear that are due at the tick (R183). -/
def execDnGroupWrite (plane : Fin 2) (s : State) : Result := .next (s.dnDue.dnWrite plane)

/-- Bytes of a frozen table that are not 0, with their offsets after the header, ascending. -/
def snapBytes (w planes age : Nat) (t : Map Nat) : List (Nat × Byte) :=
  let one := fun (e : Nat × Nat) =>
    let p := e.1 / 2 ^ 21
    let off := ((p * 1024 + e.1 / 2 ^ 11 % 1024) * w + e.1 % 2 ^ 11) * 4
    ((leBytes e.2 4).zipIdx.filter (fun b => b.1 != 0)).map (fun b => (off + b.2, b.1))
  if age = 0 then t.flatMap one
  else
    (List.range planes).flatMap (fun p => (List.range 1024).flatMap (fun r => (List.range w).flatMap (fun x =>
      one (dnKey p r x, Map.get t age (dnKey p r x)))))

/-- The bytes of a list, addresses rising, that lie from `lo` up to `hi` and are not 0; a byte out of order is dropped, and a
table in the order of its keys has none. -/
def rising (hi : Nat) : Nat → List (Nat × Byte) → List (Nat × Byte)
  | _, [] => []
  | lo, e :: es => if lo ≤ e.1 ∧ e.1 < hi ∧ e.2 ≠ 0 then e :: rising hi (e.1 + 1) es else rising hi lo es

/-- Replace a range of memory, whole lines, by bytes given sparsely in rising order. -/
def State.putRegion (s : State) (a n : Nat) (b : List (Nat × Byte)) : State :=
  if s.hidden H.memOrder ≠ 0 then
    s.writeMem a ((List.range n).map (fun i => ((b.find? (fun e => e.1 == i)).map (·.2)).getD 0))
  else { s with
    mem := s.mem.filter (fun e => decide (e.1 < a)) ++ rising (a + n) a (b.map (fun e => (a + e.1, e.2))) ++
      s.mem.filter (fun e => decide (a + n ≤ e.1)),
    poison := s.poison.filter (fun e => decide (e.1 < a / 64 ∨ (a + n) / 64 ≤ e.1)) }

/-- DN_SNAP_DONE (R189): the copy is in its slot, in the layout of its header. -/
def execDnSnapDone (s : State) : Result :=
  let d := s.density
  match d.copying with
  | none => .next s
  | some base =>
    let two := decide (bits d.header 279 278 ≠ 0)
    let head := ((leBytes d.header 64).zipIdx.filter (fun b => b.1 != 0)).map (fun b => (b.2, b.1))
    let body := (snapBytes (if two then 1024 else 2048) (if two then 2 else 1) d.frozenAge d.frozen).map (fun b => (64 + b.1, b.2))
    let s := (s.putRegion base 8388672 (head ++ body)).portBytes 11 8388672
    let s := { s with density := { d with copying := none, frozen := [], frozenAge := 0 } }
    let seq := bits d.header 511 480
    .next ((s.streamRing 9 0 base 8388672 0 8388672 0 (bits d.header 479 384)).raise 0x401 seq)

/-! ### Spare banks (R191) -/

/-- Physical bank that serves a logical one. -/
def State.dnBank (s : State) (b : Nat) : Nat := let m := Map.get s.density.bankMap 0 b; if m = 0 then b else m - 1

/-- A free spare bank. -/
def State.dnFreeBank (s : State) : Option Nat :=
  (List.range 66).find? (fun p => !s.isRetired 5 0 p &&
    !((List.range 64).any (fun b => s.dnBank b == p)) && !(s.density.copies.any (fun c => c.2 == p)))

/-- A bank retires: a spare takes its place after a copy, or it stays in service. -/
def State.dnRetire (s : State) (b : Nat) (hard : Bool) : State :=
  let p := s.dnBank b
  if s.isRetired 5 0 p ∨ s.density.copies.any (fun c => c.1 == b) then s else
  match s.dnFreeBank with
  | some sp =>
    let s := { s with density := { s.density with copies := s.density.copies ++ [(b, sp)] } }
    (s.retire 5 0 p 0 hard true).setReg O.dnSpareBanks (s.reg O.dnSpareBanks - 1)
  | none =>
    let s := { s with density := { s.density with failing := s.density.failing ++ [b] } }
    ((s.retire 5 0 p 0 hard false).raise 0x405 p).fault 0x2C p

/-- DN_PARITY_ERROR (R191): the entry reads as 0. -/
def execDnParityError (plane : Fin 2) (row : Fin 1024) (col : Fin 2048) (hard : Bool) (s : State) : Result :=
  if s.dnPlanes ≤ plane.val ∨ s.dnW ≤ col.val then .next s else
  let b := (plane.val * 1024 + col.val) % 64
  let s := (s.dnPut (dnKey plane.val row.val col.val) 0).bumpSat O.dnParityErr
  let recent := (Map.get s.density.errs [] b).filter (fun t => decide (s.up < t + secondTc)) ++ [s.up]
  let s := { s with density := { s.density with errs := Map.put s.density.errs [] b recent } }
  .next (if hard || decide (16 ≤ recent.length) then s.dnRetire b hard else s)

/-- DN_BANK_COPY_DONE (R191). -/
def execDnBankCopyDone (s : State) : Result :=
  match s.density.copies with
  | [] => .next s
  | (b, sp) :: rest =>
    let old := s.dnBank b
    let d := s.density
    let s := { s with density := { d with copies := rest, bankMap := Map.put d.bankMap 0 b (if sp = b then 0 else sp + 1),
                                          swapped := true, failing := d.failing.filter (· != b),
                                          errs := Map.put d.errs [] b [] } }
    let s := if s.density.failing.isEmpty then s.unfault 0x2C else s
    .next (s.raise 0x404 (old + 256 * sp))

/-- A failing bank takes a spare that fitting has returned (Table 21.1). -/
def State.dnSpareBack (s : State) : State :=
  match s.density.failing, s.dnFreeBank with
  | b :: _, some sp =>
    let s := { s with density := { s.density with copies := s.density.copies ++ [(b, sp)] } }
    (s.setReg O.dnSpareBanks (s.reg O.dnSpareBanks - 1)).spareTaken 5
  | _, _ => s

/-! ### The palette (R185, R186) -/

/-- Entries of a palette without their reserved bits [31:24] (R10, R185). -/
def paletteClean : List Byte → List Byte
  | b :: g :: r :: _ :: l => b :: g :: r :: 0 :: paletteClean l
  | l => l

/-- A load of `DN_PALETTE`. -/
def actPalette (image : List Byte) : Act := fun s =>
  if image.length = 4096 then .ok (s.setDom O.dnPalette (paletteClean image)) else .error Abort.type

/-- DN_PALETTE_LOAD (R185). -/
def execDnPaletteLoad (m : Master) (image : List Byte) (s : State) : Result := s.load m (O.dnPalette.key 0 0) (actPalette image)

/-- The grey ramp. -/
def greyRamp : List Byte := (List.range 1024).flatMap (fun i => leBytes (i / 4 * 0x10101) 4)

/-- Whether `2 ^ (256 n) ≤ (c + 1) ^ scale`. -/
def palLe (c scale n : Nat) : Bool := decide (2 ^ (256 * n) ≤ (c + 1) ^ scale)

/-- Palette index of a count, none for a transparent pixel (R186). A scale of 262,144 or above reaches 1,023 at every count. -/
def palIndex (mode scale c : Nat) : Option Nat :=
  if c = 0 then none
  else if mode = 0 then some (min 1023 (c * scale / 65536))
  else if 262144 ≤ scale then some 1023
  else some ((List.range 10).foldl (fun n k => if palLe c scale (n + 2 ^ (9 - k)) then n + 2 ^ (9 - k) else n) 0)

/-- Colour of an index of a palette; without one, of the grey ramp. -/
def paletteAt (pal : List Byte) (i : Nat) : Nat := ofLe (((if pal.isEmpty then greyRamp else pal).drop (4 * i)).take 4) % 2 ^ 24

/-- Colour of an entry as layer L0 shows it under a palette. -/
def State.l0Pixel (s : State) (pal : List Byte) (k : Nat) : Option Nat :=
  (palIndex (s.plan O.dnPalMode) (s.plan O.dnPalScale) (s.dnGet k / 256)).map (paletteAt pal)

/-! ### Spectrogram generators (R187, R188) -/

/-- Lines of a generator not yet written. -/
def State.sgLines (s : State) (g : Nat) : List Line := Map.get s.lines [] g
/-- Set them. -/
def State.setSgLines (s : State) (g : Nat) (l : List Line) : State := { s with lines := Map.put s.lines [] g l }

/-- Values of a record's bins, binary32. -/
def words32u : List Byte → List Nat
  | a :: b :: c :: d :: r => ofLe [a, b, c, d] :: words32u r
  | _ => []

/-- A record reaches the generators that take it (R187). -/
def State.sgRecord (s : State) (r : DetOut) : State :=
  (List.range 2).foldl (fun s g =>
    if s.plan O.sgEnable g = 1 ∧ s.plan O.sgEngine g = r.eng ∧ s.plan O.sgSrc g = r.src ∧ s.plan O.sgDetector g = r.det then
      let v := words32u r.bytes
      let l := s.sgLines g
      let fresh : Line := { first := r.index, firstT := r.t96 }
      let (old, x) : List Line × Line := match l.getLast? with
        | some x => if x.full then (l, fresh) else (l.dropLast, x)
        | none => ([], fresh)
      let vals := match r.det with
        | 4 => if x.vals.isEmpty then v.map (fun a => toF64 (f32 a)) else List.zipWith (fun a b => toF64 (f64 a + f32 b)) x.vals v
        | 6 => combine min x.vals v
        | _ => combine max x.vals v
      let x := { x with n := x.n + 1, vals := vals, calSeq := r.calSeq, flags := x.flags ||| r.flags,
                        teFlags := x.teFlags ||| r.teFlags }
      s.setSgLines g (old ++ [{ x with full := decide (s.plan O.sgLineDiv g ≤ x.n) }])
    else s) s

/-- A source restarts: the lines that take it end early. -/
def State.sgRestart (s : State) (e src : Nat) : State :=
  (List.range 2).foldl (fun s g =>
    if s.plan O.sgEnable g = 1 ∧ s.plan O.sgEngine g = e ∧ s.plan O.sgSrc g = src then
      s.setSgLines g ((s.sgLines g).map (fun x => { x with full := true }))
    else s) s

/-- Palette index of a column's level (R187). -/
def sgIndex (top : Int) (range : Nat) (l : Int) : Nat := (clampI 0 1023 ((l - top + range) * 1024 / (range : Int))).toNat

/-- Bytes of a line (R188, Table 8.1). -/
def State.sgBytes (s : State) (g : Nat) (x : Line) : List Byte :=
  let w := s.plan O.sgWidth g
  let det := s.plan O.sgDetector g
  let vals := if det = 4 then x.vals.map (fun a => toF32 (f64 a / ((x.n : Nat) : Rat))) else x.vals
  let cols := columns (if det = 6 then min else max) w vals
  let h := x.first * 2 ^ 192 + x.firstT * 2 ^ 96 + x.calSeq * 2 ^ 80 + x.flags * 2 ^ 64 + x.teFlags * 2 ^ 48 + x.n * 2 ^ 32
  let b := leBytes h 32 ++ cols.flatMap (fun v =>
    leBytes (sgIndex (toI 16 (s.plan O.sgTop g)) (s.plan O.sgRange g) (logPower v).1) 2)
  b ++ List.replicate ((64 - b.length % 64) % 64) 0

/-- The oldest line of a generator is written if it is complete. -/
def State.sgWrite (s : State) (n : Nat) : State :=
  match s.sgLines n with
  | [] => s
  | x :: rest =>
    if x.full then
      let b := s.sgBytes n x
      let line := s.reg O.sgWriteLine n
      let s := ((s.setSgLines n rest).writeMem (s.plan O.sgRingBase n + line * b.length) b).portBytes 4 b.length
      let s := (s.setReg O.sgWriteLine ((line + 1) % s.plan O.sgRingLines n) n).bump O.sgLineSeq n
      let wrote := s.hidden H.sgWrote n
      let s := s.setHidden H.sgWrote (wrote + 1) n
      if wrote = 0 then s.raise (0x408 + n) x.first else s
    else s

/-- SG_LINE_WRITE (R188): the oldest line that is complete. -/
def execSgLineWrite (g : Fin 2) (s : State) : Result := .next (s.sgWrite g.val)

/-! ### Commits -/

/-- The density engine starts, or a commit changes what clears the table (R184): `g` is DN_GROUP, `rate` DN_RATE. -/
def State.dnStart (s : State) : State := ((s.setReg O.dnState 1).dnClear 2).raise 0x400 (s.reg O.dnGroup)

/-- The density engine stops: groups in progress end early, after what else is due at the tick; the table stays (R180,
R183, R184). -/
def State.dnStop (s : State) : State := (((s.dnDue.dnFlush 0).dnFlush 1).setReg O.dnState 0).setReg O.dnRate 0

/-- A generator starts, at the first line of its ring (DESIGN CHOICE, log entry 79). -/
def State.sgStart (s : State) (g : Nat) : State := ((s.setHidden H.sgWrote 0 g).setSgLines g []).setReg O.sgWriteLine 0 g
/-- A generator stops or changes: its line in progress ends, and every line taken is written under the old settings (R78). -/
def State.sgStop (s : State) (g : Nat) : State :=
  let l := s.sgLines g
  (l.foldl (fun s _ => s.sgWrite g) (s.setSgLines g (l.map (fun x => { x with full := true })))).setReg O.sgLineRate 0 g

end Sys2Proof.Machine
end

