-- ==== Sys2Proof/Machine/Display.lean ====
section
/-! DEFINITION. The display heads: link, flips, composition, clasp points, buffer retirement and hallmarks (spec
17_display.md). -/

namespace Sys2Proof.Machine

/-- A head. -/
def State.head (s : State) (h : Nat) : Head := Map.get s.heads {} h
/-- Set it. -/
def State.setHead (s : State) (h : Nat) (x : Head) : State := { s with heads := Map.put s.heads {} h x }
/-- Event k of a head (Table 17.5). -/
def dpEvent (h k : Nat) : Nat := 0x440 + 0x10 * h + k

/-! ### Settings in force (R398, R402) -/

/-- The PLAN values of a head, in the order of Table 17.4 from `DP_LANES` on; traces from number 19. -/
def dpPlan (p : Store) (h : Nat) : List Nat :=
  [O.dpLanes, O.dpLaneRate, O.dpPclkKhz, O.dpHActive, O.dpHFp, O.dpHSync, O.dpHBp, O.dpVActive, O.dpVFp, O.dpVSync,
   O.dpVBp, O.dpSyncPol, O.dpVClasp, O.dpL0Plane, O.dpL1Src, O.dpL3AreaBase, O.dpL3AreaSize, O.dpL3MaxW, O.dpL3MaxH].map
    (fun r => planVal p r h) ++ (List.range 8).map (fun t => planVal p O.dpTrSrc h t)

/-- One value of a list of them. -/
def cfgAt (c : List Nat) (k : Nat) : Nat := c.getD k 0

/-- Whether two settings differ in timing: pixel clock, lanes, rate, or a line or porch parameter. -/
def dpTimingDiffers (a b : List Nat) : Bool := (a.take 11) != (b.take 11)
/-- Whether they differ in lanes or rate. -/
def dpLinkDiffers (a b : List Nat) : Bool := (a.take 2) != (b.take 2)

/-- The shadow set (R397). -/
def State.dpShadow (s : State) (h : Nat) : DpSet :=
  { geom := Vector.ofFn (fun (n : Fin 4) => s.reg O.dpLGeom h n), ctrl := Vector.ofFn (fun (n : Fin 4) => s.reg O.dpLCtrl h n),
    addr := s.reg O.dpL3Addr h, stride := s.reg O.dpL3Stride h, bg := s.reg O.dpBg h, expect := s.reg O.dpHmExpect h,
    style := Vector.ofFn (fun (t : Fin 8) => s.reg O.dpTrStyle h t) }

/-- A layer is enabled in a set. -/
def DpSet.on (x : DpSet) (n : Nat) : Bool := (x.ctrl.toList.getD n 0).testBit 0
/-- x, y, w and h of a layer. -/
def DpSet.rect (x : DpSet) (n : Nat) : Nat × Nat × Nat × Nat :=
  let g := x.geom.toList.getD n 0
  (bits g 15 0, bits g 31 16, bits g 47 32, bits g 63 48)
/-- The set with layers of a mask disabled. -/
def DpSet.without (x : DpSet) (mask : Nat) : DpSet :=
  { x with ctrl := Vector.ofFn (fun (n : Fin 4) => if mask.testBit n then x.ctrl[n] - x.ctrl[n] % 2 else x.ctrl[n]) }
/-- The L3 buffer that a set shows. -/
def DpSet.buffer (x : DpSet) : Option Nat := if x.on 3 then some x.addr else none

/-- A layer lies within the active area. -/
def DpSet.fits (x : DpSet) (cfg : List Nat) (n : Nat) : Bool :=
  let r := x.rect n
  decide (r.1 + r.2.2.1 ≤ cfgAt cfg 3 ∧ r.2.1 + r.2.2.2 ≤ cfgAt cfg 7)

/-- Whether a set may be committed (R397). -/
def DpSet.ok (x : DpSet) (cfg : List Nat) : Bool :=
  (List.range 4).all (fun n => let r := x.rect n; !x.on n || (r.2.2.1 != 0 && r.2.2.2 != 0 && x.fits cfg n)) &&
  x.addr % 64 == 0 && x.stride % 64 == 0 &&
  (!x.on 3 || (let r := x.rect 3
    decide (r.2.2.1 ≤ cfgAt cfg 17 ∧ r.2.2.2 ≤ cfgAt cfg 18 ∧ 4 * r.2.2.1 ≤ x.stride ∧ cfgAt cfg 15 ≤ x.addr ∧
      x.addr + x.stride * (r.2.2.2 - 1) + 4 * r.2.2.1 ≤ cfgAt cfg 15 + cfgAt cfg 16)))

/-! ### Buffers (R400) -/

/-- A buffer is retired. -/
def State.dpRetire (s : State) (h addr : Nat) : State := (s.setReg O.dpRetiredAddr addr h).raise (dpEvent h 2) addr

/-- A pending set goes: a buffer that only it named is retired at once. -/
def State.dpDropPend (s : State) (h : Nat) (next : Option Nat) : State :=
  let x := s.head h
  match x.pend with
  | none => s
  | some p =>
    let s := s.setHead h { x with pend := none }
    match p.1.buffer with
    | some a => if x.live.buffer = some a ∨ next = some a ∨ x.retiring.any (fun q => q.1 == a) then s else s.dpRetire h a
    | none => s

/-- The set in force changes at a clasp point: a buffer replaced by it is retired at the flip of frame f + 2. -/
def Head.setLive (x : Head) (l : DpSet) : Head :=
  match x.live.buffer with
  | some a => { x with live := l, retiring := if l.buffer = some a then x.retiring else x.retiring ++ [(a, 2)] }
  | none => { x with live := l }

/-! ### Commits (R397) -/

/-- `DP_COMMIT` = 1. -/
def actDpCommit (h v : Nat) : Act := onlyOne v <| reaching 33 fun s =>
  let p := s.dpShadow h
  if s.plan O.dpEnable h ≠ 1 ∨ !p.ok (s.head h).cfg then .error Abort.range
  else
    let s := s.dpDropPend h p.buffer
    let x := s.head h
    let sending := s.reg O.dpState h == 2 || s.reg O.dpState h == 3
    .ok (s.setHead h { x with pend := some (p, sending && x.clasped) })

/-- DP_COMMIT (R397). -/
def execDpCommit (m : Master) (h : Fin 2) (value : Nat) (s : State) : Result :=
  s.command m O.dpCommit value (actDpCommit h.val value)

/-! ### The link (R390) -/

/-- No frame is sent in a state of `DP_STATE`, and no layer shown. -/
def State.dpQuiet (s : State) (h v : Nat) : State :=
  (s.setHead h { s.head h with retrain := false }).setReg O.dpState v h |>.setReg O.dpLayerState (s.reg O.dpLayerState h / 16 * 16) h

/-- The link is down. -/
def State.dpLost (s : State) (h cause : Nat) : State := ((s.dpQuiet h 4).setReg O.dpLink 0 h).raise (dpEvent h 6) cause

/-- DP_HPD_RISE (R390): an enabled head reads the sink's EDID and trains. -/
def execDpHpdRise (h : Fin 2) (edid : List Byte) (s : State) : Result :=
  let n := h.val
  let s := s.setHead n { s.head n with hpd := true, sink := edid }
  if s.plan O.dpEnable n = 1 then .next ((s.setDom O.dpEdid edid n).dpQuiet n 1) else .next s

/-- DP_HPD_FALL (R390). -/
def execDpHpdFall (h : Fin 2) (s : State) : Result :=
  let n := h.val
  let s := s.setHead n { s.head n with hpd := false }
  if s.plan O.dpEnable n = 1 then .next (s.dpLost n 1) else .next s

/-- DP_LINK_TRAINED (R390, R402): two blank frames follow; a failure takes the link down. -/
def execDpLinkTrained (h : Fin 2) (ok : Bool) (s : State) : Result :=
  let n := h.val
  if s.reg O.dpState n ≠ 1 ∧ (s.head n).retrain = false then .next s
  else if ok then
    let x := s.head n
    let v := cfgAt x.cfg 0 + 256 * cfgAt x.cfg 1
    let s := s.setHead n { x with blanks := 2, clasped := false, blank := true, retrain := false, marked := true }
    .next (((s.setReg O.dpLink v n).setReg O.dpState 2 n).raise (dpEvent n 5) v)
  else .next (s.dpLost n 2)

/-- DP_TRAIN_RETRY (R390): every 1 s while the link is down. -/
def execDpTrainRetry (h : Fin 2) (s : State) : Result :=
  if s.reg O.dpState h.val = 4 ∧ s.plan O.dpEnable h.val = 1 then .next (s.setReg O.dpState 1 h.val) else .next s

/-- A head sends frames. -/
def State.dpSends (s : State) (h : Nat) : Bool := s.reg O.dpState h == 2 || s.reg O.dpState h == 3

/-! ### The clasp point (R398, R399, R402) -/

/-- What the head latches for the next frame: the newest spectrogram line, and the newest record of each trace's source; a
trace whose source has none yet draws nothing (R394, R395). -/
def State.dpLatchNow (s : State) (h : Nat) : DpLatch :=
  let x := s.head h
  { lines := s.hidden H.sgWrote h, line := s.reg O.sgWriteLine h,
    traces := ((List.range 8).filter (fun t => bit (cfgAt x.cfg (19 + t)) 24)).filterMap (fun t =>
      let v := cfgAt x.cfg (19 + t)
      let det := bits v 19 16
      (s.newest.find? (fun p => p.1 == bits v 1 0 + 4 * bits v 12 8 + 128 * det)).map (fun p => (det * 256 + t, p.2))) }

/-- Layers disabled in the set in force and the shadow set. -/
def State.dpDisable (s : State) (h mask : Nat) : State :=
  let x := s.head h
  let s := s.setHead h (x.setLive (x.live.without mask))
  (List.range 4).foldl (fun s n =>
    if mask.testBit n then s.setReg O.dpLCtrl (s.reg O.dpLCtrl h n - s.reg O.dpLCtrl h n % 2) h n else s) s

/-- The plan settings apply (R398, R402): a timing change retrains the link or sends two blank frames. -/
def State.dpClaspPlan (s : State) (h : Nat) : State :=
  let x := s.head h
  let new := dpPlan s.active h
  if new = x.cfg then s
  else if dpTimingDiffers x.cfg new then
    s.setHead h { x with cfg := new, timing := true, blanks := 2, retrain := x.retrain || dpLinkDiffers x.cfg new }
  else s.setHead h { x with cfg := new }

/-- The safe plan disables the layers and discards the pending set (R399). -/
def State.dpClaspSafe (s : State) (h : Nat) : State :=
  if (s.head h).safe then
    let s := (s.dpDropPend h none).dpDisable h 15
    s.setHead h { s.head h with safe := false }
  else s

/-- The pending set applies (R398). -/
def State.dpClaspPend (s : State) (h : Nat) : State :=
  let x := s.head h
  match x.pend with
  | none => s
  | some (p, late) =>
    let s := s.setHead h { x.setLive p with pend := none }
    let s := (s.bump O.dpCommitSeq h).setReg O.dpLayerState (s.reg O.dpLayerState h % 16) h
    let s := if late then s.bumpSat O.dpLate h else s
    s.raise (dpEvent h 1) (s.reg O.dpCommitSeq h + 2 ^ 32 * b2n late)

/-- Layers that reach beyond a new active area are disabled (Table 17.2 step 4). -/
def State.dpMisfit (s : State) (h : Nat) : State :=
  let x := s.head h
  let mask := (List.range 4).foldl (fun m n => if x.live.on n && !x.live.fits x.cfg n then m + 2 ^ n else m) 0
  let s := s.setHead h { x with timing := false }
  if mask = 0 then s
  else ((s.dpDisable h mask).setReg O.dpLayerState (s.reg O.dpLayerState h ||| mask * 16) h).raise (dpEvent h 4) mask

/-- DP_CLASP (R398): once in each frame; during a timing change the pending set waits for the second blank frame. -/
def execDpClasp (h : Fin 2) (s : State) : Result :=
  let n := h.val
  let x := s.head n
  if !s.dpSends n || x.clasped then .next s
  else
    let s := s.setHead n { x with clasped := true }
    let was := x.timing
    let s := (s.dpClaspPlan n).dpClaspSafe n
    let y := s.head n
    let s :=
      if !y.timing then s.dpClaspPend n
      else if was && x.blank && y.blanks == 0 then (s.dpClaspPend n).dpMisfit n
      else s
    .next (s.setHead n { s.head n with latch := s.dpLatchNow n })

/-! ### Flips (R391, R400) -/

/-- Replaced buffers come one flip nearer to their retirement. -/
def State.dpAge (s : State) (h : Nat) : State :=
  let x := s.head h
  let l := x.retiring.map (fun p => (p.1, p.2 - 1))
  let s := s.setHead h { x with retiring := l.filter (fun p => p.2 != 0) }
  (l.filter (fun p => p.2 == 0)).foldl (fun s p => s.dpRetire h p.1) s

/-- DP_FLIP (R391): line 0 of a frame starts; where the link retrains instead, the frame before ends (Table 17.2). -/
def execDpFlip (h : Fin 2) (s : State) : Result :=
  let n := h.val
  if !s.dpSends n then .next s
  else if (s.head n).retrain then .next (s.dpQuiet n 1)
  else
    let x := s.head n
    let blank := decide (0 < x.blanks) || s.reg O.frSafe == 1
    let x := { x with blanks := x.blanks - 1, blank := blank, clasped := false, marked := false, shown := x.live, shownLatch := x.latch,
                      shownCfg := x.cfg, shownPal := s.dom O.dnPalette }
    let s := ((s.setHead n x).bump O.dpFrame n).setReg O.dpFlipT96 s.now n
    let on := (List.range 4).foldl (fun m k => if x.live.on k then m + 2 ^ k else m) 0
    let s := (s.setReg O.dpState (if blank then 2 else 3) n).setReg O.dpLayerState
      (s.reg O.dpLayerState n / 16 * 16 + (if blank then 0 else on)) n
    let s := (s.raise (dpEvent n 0) (s.reg O.dpFrame n)).emit (.flip n (s.reg O.dpFrame n))
    .next (s.dpAge n)

/-! ### Composition (R392 to R396) -/

/-- A component of a layer pixel over the pixel below (R392): alpha of the pixel, alpha of the layer. -/
def blendOne (alpha layer c d : Nat) : Nat :=
  let a := (alpha * layer + 127) / 255
  (a * c + (255 - a) * d + 127) / 255

/-- A pixel, ARGB, over an RGB pixel. -/
def blend (layer argb rgb : Nat) : Nat :=
  let f := fun hi lo => blendOne (bits argb 31 24) layer (bits argb hi lo) (bits rgb hi lo) * 2 ^ lo
  f 23 16 + f 15 8 + f 7 0

/-- L0 at a pixel of its rectangle (R393), under the palette that the frame started with (R185). -/
def State.l0At (s : State) (pal : List Byte) (cfg : List Nat) (w h px py : Nat) : Nat :=
  if s.reg O.dnState ≠ 1 then 0
  else match s.l0Pixel pal (dnKey (cfgAt cfg 13) (1023 - py * 1024 / h) (px * s.dnW / w)) with
  | some c => 0xFF000000 + c
  | none => 0

/-- The line of the ring of SGh that row `py` shows (R394): none beyond the oldest line. -/
def State.l1Line (s : State) (h : Nat) (l : DpLatch) (py : Nat) : Option Nat :=
  let n := s.plan O.sgRingLines h
  if py < min l.lines n then some (s.plan O.sgRingBase h + (l.line + n - 1 - py) % n * ((32 + 2 * s.plan O.sgWidth h + 63) / 64 * 64))
  else none

/-- Values of 16-bit bins, offset so that they compare as numbers. -/
def words16b : List Byte → List Nat
  | a :: b :: r => ((ofLe [a, b]) + 32768) % 65536 :: words16b r
  | _ => []

/-- Levels of the columns of a trace's record, by detector (R395). -/
def traceLevels (det w : Nat) (bytes : List Byte) : List Int :=
  match det with
  | 3 => (columns max w (words16b bytes)).map (fun (v : Nat) => (v : Int) - 32768)
  | 2 => (columns max w (words32u bytes)).map (fun v =>
      let x := f32 v * f32 v
      if x ≤ 0 then -32768 else clampI (-32767) 32767 (log2560 x))
  | 6 => (columns min w (words32u bytes)).map (fun v => (logPower v).1)
  | _ => (columns max w (words32u bytes)).map (fun v => (logPower v).1)

/-- Rows drawn in each column of a trace (R395, R178), from its style. -/
def traceRows (style h : Nat) (levels : List Int) : List (List Nat) :=
  let top := toI 16 (bits style 47 32)
  let range : Int := bits style 63 48
  let rows := levels.map (fun l => (clampI 0 ((h : Int) - 1) ((top - l) * h / range)).toNat)
  List.zipWith (fun r p => dnRows 1 r p) rows (none :: rows.map some)

/-- The word of L2 at a pixel: the highest trace that draws it. -/
def l2At (traces : List (Nat × List (List Nat))) (px py : Nat) : Nat :=
  traces.foldl (fun c t => if (t.2.getD px []).contains py then t.1 else c) 0

/-- One pixel of a frame, RGB: the layers over the background. -/
def State.dpPixel (s : State) (h : Nat) (x : DpSet) (cfg : List Nat) (l : DpLatch) (l1 l3 : List (List Byte))
    (traces : List (Nat × List (List Nat))) (px py : Nat) : Nat :=
  (List.range 4).foldl (fun rgb n =>
    let r := x.rect n
    if x.on n ∧ r.1 ≤ px ∧ px < r.1 + r.2.2.1 ∧ r.2.1 ≤ py ∧ py < r.2.1 + r.2.2.2 then
      let u := px - r.1
      let v := py - r.2.1
      let argb := match n with
        | 0 => s.l0At (s.head h).shownPal cfg r.2.2.1 r.2.2.2 u v
        | 1 =>
          if cfgAt cfg 14 = 0 ∨ (s.l1Line h l v).isNone then 0
          else
            let c := u * s.plan O.sgWidth h / r.2.2.1
            0xFF000000 + paletteAt (s.head h).shownPal (ofLe (((l1.getD v []).drop (32 + 2 * c)).take 2) % 1024)
        | 2 => l2At traces u v
        | _ => ofLe (((l3.getD v []).drop (4 * u)).take 4)
      blend (bits (x.ctrl.toList.getD n 0) 15 8) argb rgb
    else rgb) x.bg

/-- Read lines of some bytes through the head's port. -/
def State.dpRead (s : State) (h n : Nat) (addr : List (Option Nat)) : List (List Byte) × State :=
  addr.foldl (fun acc a =>
    match a with
    | none => (acc.1 ++ [[]], acc.2)
    | some a =>
      let r := acc.2.readPort (5 + h) a n
      (acc.1 ++ [r.1], r.2.2)) ([], s)

/-- The active pixels of the frame being sent, bytes R, G, B in scan order; black where it is blank. -/
def State.dpFrameBytes (s : State) (h : Nat) : List Byte × State :=
  let q := s.head h
  let x := q.shown
  let cfg := q.shownCfg
  let w := cfgAt cfg 3
  let v := cfgAt cfg 7
  if q.blank then (List.replicate (3 * w * v) 0, s)
  else
    let r3 := x.rect 3
    let b := s.dpRead h (4 * r3.2.2.1) (if x.on 3 then (List.range r3.2.2.2).map (fun y => some (x.addr + x.stride * y)) else [])
    let r1 := x.rect 1
    let a := b.2.dpRead h (32 + 2 * s.plan O.sgWidth h)
      (if x.on 1 ∧ cfgAt cfg 14 = 1 then (List.range r1.2.2.2).map (s.l1Line h q.shownLatch) else [])
    let r2 := x.rect 2
    let traces := if x.on 2 then ((List.range 8).filterMap (fun t =>
        (q.shownLatch.traces.find? (fun p => p.1 % 256 == t)).map (fun p =>
          let style := x.style.toList.getD t 0
          (style % 2 ^ 32, traceRows style r2.2.2.2 (traceLevels (p.1 / 256) r2.2.2.1 p.2))))) else []
    ((List.range v).flatMap (fun y => (List.range w).flatMap (fun u =>
        let c := s.dpPixel h x cfg q.shownLatch a.1 b.1 traces u y
        [BitVec.ofNat 8 (c / 65536), BitVec.ofNat 8 (c / 256), BitVec.ofNat 8 c])), a.2)

/-! ### Hallmarks (R403) -/

/-- DP_HALLMARK (R403): CRC-32 over the active pixels as they came back from the loopback; `errors` are the bytes that the path
changed, by position. -/
def execDpHallmark (h : Fin 2) (errors : List (Nat × Byte)) (s : State) : Result :=
  let n := h.val
  if !s.dpSends n ∨ (s.head n).marked then .next s
  else
    let r := (s.setHead n { s.head n with marked := true }).dpFrameBytes n
    let hm := crc32 (errors.foldl (fun l e => l.set e.1 e.2) r.1)
    let s := (r.2.setReg O.dpHmLast hm n).setReg O.dpHmFrame (s.reg O.dpFrame n) n
    let q := s.head n
    let e := q.shown.expect
    if !q.blank ∧ bit e 32 ∧ e % 2 ^ 32 ≠ hm then
      .next ((s.bumpSat O.dpHmMismatch n).raiseRare (dpEvent n 3) (s.reg O.dpFrame n + 2 ^ 32 * hm))
    else .next s

/-! ### Commits -/

/-- Lines per second of a head of a plan: pixel clock ÷ H total. -/
def dpLineRate (p : Store) (h : Nat) : Rat :=
  let t := planVal p O.dpHActive h + planVal p O.dpHFp h + planVal p O.dpHSync h + planVal p O.dpHBp h
  if t = 0 then 0 else ((planVal p O.dpPclkKhz h * 1000 : Nat) : Rat) / (t : Rat)

/-- DRAM load of a head of a plan (R404). -/
def dpLoad (p : Store) (h : Nat) : Rat :=
  let line := 4 * planVal p O.dpL3MaxW h +
    (if planVal p O.dpL1Src h = 1 then (32 + 2 * planVal p O.sgWidth h + 63) / 64 * 64 else 0)
  (line : Rat) * dpLineRate p h

/-- A head starts at a commit (R390). -/
def State.dpStart (s : State) (h : Nat) : State :=
  let x := s.head h
  let new := dpPlan s.active h
  let s := s.setHead h { x with cfg := new, clasped := false, blank := true, marked := true, retrain := false,
                                timing := !x.cfg.isEmpty && (x.timing || dpTimingDiffers x.cfg new) }
  ((s.setDom O.dpEdid x.sink h).setReg O.dpState 1 h).setReg O.dpPortLoad (toF64 (dpLoad s.active h)) h

/-- A head stops. -/
def State.dpStop (s : State) (h : Nat) : State :=
  ((s.dpQuiet h 0).setReg O.dpLink 0 h).setReg O.dpPortLoad 0 h

/-- A commit while a head runs: its settings change at the clasp point; a head that sends nothing takes them at once. -/
def State.dpCommitTick (s : State) (h : Nat) : State :=
  let s := s.setReg O.dpPortLoad (toF64 (dpLoad s.active h)) h
  if s.dpSends h then s else
    let x := s.head h
    let new := dpPlan s.active h
    s.setHead h { x with cfg := new, timing := x.timing || dpTimingDiffers x.cfg new }

/-- The safe plan reaches a head (R399). -/
def State.dpSafe (s : State) (h : Nat) : State :=
  if s.plan O.dpEnable h = 1 then s.setHead h { s.head h with safe := true } else s

end Sys2Proof.Machine
end

