-- ==== Sys2Proof/Machine/Rates.lean ====
section
/-! DEFINITION. The rates and latencies that a plan's settings give (spec R69, R110, R146, R159, R165, R179, R211, R385). Each
function takes a state whose active plan is the plan in question, so admission puts the plan it judges there. -/

namespace Sys2Proof.Machine

/-! ### Engines -/

/-- An engine runs a source. -/
def State.runs (t : State) (e src : Nat) : Bool := t.plan O.teEnable e == 1 && planTakes t.active e src

/-- Records per second of a detector of a source (R211). -/
def State.detRate (t : State) (e src det : Nat) : Rat :=
  let r := planSrcRate t.active t.froot e src / nat (t.teH e)
  if det < 4 then r else ratio r (nat (t.plan O.avgM e))

/-! ### Density (R179) -/

/-- Spectra per second of both planes. -/
def State.dnSpectra (t : State) : Rat :=
  total ((List.range t.dnPlanes).map (fun p =>
    let e := t.plan O.dnPEngine 0 p
    let src := t.plan O.dnPSrc 0 p
    if t.runs e src then t.detRate e src 1 else 0))

/-- Density capacity (Table 3.2). -/
def State.dnCapacity (t : State) : Rat := (if t.plan O.dnMode = 0 then 12000000 else 3000000) * t.scale

/-- The smallest grouping factor that fits; none up to 64. -/
def State.dnFit (t : State) : Option Nat :=
  ((List.range 64).map (· + 1)).find? (fun g => decide (t.dnSpectra / nat g ≤ t.dnCapacity))

/-- G of R179. -/
def State.dnG (t : State) : Nat := max (t.plan O.dnGroupMin) (t.dnFit.getD 64)

/-! ### Trigger paths (R159, R329) -/

/-- Source of a density region: the engine and source of its plane. -/
def State.regionPlane (t : State) (u : Nat) : Nat := bits (t.plan O.tuRegion u) 44 44

/-- Max latency from the ball, or from registration, to a PG pin, seconds. -/
def State.pathMax (t : State) (u : Nat) : Rat :=
  let sel := t.plan O.tuSel u
  match t.plan O.tuSrc u with
  | 1 => 96 / t.fF
  | 2 => t.sliceLatency (sel % 32) + 52 / t.fF
  | 3 => t.teLatency (sel % 4) (bits sel 12 8) + 48 / t.fF
  | 4 =>
    let p := t.regionPlane u
    t.teLatency (t.plan O.dnPEngine 0 p) (t.plan O.dnPSrc 0 p) + 54 / t.fF
  | 6 => 46 / t.fF + (if bit (t.plan O.laceVetoLines) (sel % 4) then ratio 1 (f64 (t.plan O.laceHz)) else 0)
  | 7 => 55 / t.fF
  | 9 => 58 / t.fF
  | _ => 46 / t.fF

/-- `TU_LAT_MAX` in ns: the longer of the paths to a pin and to a lacing line that the unit drives. -/
def State.latMax (t : State) (u : Nat) : Rat :=
  let a := t.pathMax u
  let b := if t.plan O.tuLaceDrive u = 0 then a else a - 27 / t.fF + ratio 1 (f64 (t.plan O.laceHz)) + 2 / 1000000000
  (if a < b then b else a) * 1000000000

/-- Samples before the trigger index that a context must still hold, as time (R165): the path, a spectrum's span with the spectra
between the first and the last of a density group (R181), and the 4 fF cycles by which a lacing line's registration time lies
before its registration (R157). -/
def State.unitMargin (t : State) (u : Nat) : Rat :=
  let sel := t.plan O.tuSel u
  let span := fun (e src : Nat) => nat (t.teL e - 1) / planSrcRate t.active t.froot e src
  t.pathMax u + (match t.plan O.tuSrc u with
    | 3 => span (sel % 4) (bits sel 12 8)
    | 4 =>
      let e := t.plan O.dnPEngine 0 (t.regionPlane u)
      let src := t.plan O.dnPSrc 0 (t.regionPlane u)
      span e src + nat ((t.dnG - 1) * t.teH e) / planSrcRate t.active t.froot e src
    | 6 => 4 / t.fF
    | _ => 0)

/-- Units that a plan's expression names. -/
def State.unitsNamed (t : State) (c : Nat) : List Nat :=
  ((List.range 4).map (fun i => bits (t.plan O.aqUnits c) (8 * i + 7) (8 * i))).filter (· < 16)

/-- Half-bytes per sample of a format of Table 7.6. -/
def halfBytesPer (fmt : Nat) : Nat := match fmt with | 0 => 3 | 1 => 4 | 2 => 8 | _ => 12

/-- `AQ_HIST_NEED` in bytes, rounded up (R165). -/
def State.histNeed (t : State) (c : Nat) : Nat :=
  let g := aqCfg t.active c
  let m := ((t.unitsNamed c).map (fun u => t.unitMargin u)).foldl (fun a b => if a < b then b else a) 0
  let margin := (m * t.aqRate g).ceil.toNat
  ((g.pre + margin) * halfBytesPer g.fmt + 1) / 2

/-! ### Spectrograms (R187, R188) -/

/-- Bytes of a spectrogram line (R188). -/
def State.sgLine (t : State) (g : Nat) : Nat := (32 + 2 * t.plan O.sgWidth g + 63) / 64 * 64

/-- Lines per second of a generator. -/
def State.sgRate (t : State) (g : Nat) : Rat :=
  let e := t.plan O.sgEngine g
  let src := t.plan O.sgSrc g
  if t.runs e src then ratio (t.detRate e src (t.plan O.sgDetector g)) (nat (t.plan O.sgLineDiv g)) else 0

/-! ### Benches (R211) -/

/-- Frames per second of a position's window. -/
def State.awRate (t : State) (k : Nat) : Rat :=
  let w := t.plan O.awWindow k
  let b := k / 16
  t.detRate (t.plan O.bnWEngine b w) (t.plan O.bnWSrc b w) (t.plan O.bnWDet b w)

/-- Enabled positions. -/
def State.awPositions (t : State) : List Nat := (List.range 256).filter (fun k => t.plan O.awEnable k == 1)

/-! ### Measurements -/

/-- Results per second of a slot (Table 12.6). -/
def State.msRate (t : State) (n : Nat) : Rat :=
  if t.plan O.msGateKind n = 0 then ratio 1000000000 (nat (t.plan O.msGateTime n)) else f64 (t.plan O.msDeclRate n)

/-! ### Streams (R385) -/

/-- Enabled streams. -/
def State.stOn (t : State) : List Nat := (List.range 32).filter (fun n => t.plan O.stEnable n == 1)

/-- A stream's source is live (Table 16.5). -/
def State.stLive (t : State) (n : Nat) : Bool := decide (t.plan O.stSrcKind n ≤ 3)

/-- Bytes per second of a stream's items. -/
def State.stItems (t : State) (n : Nat) : Rat :=
  let i := t.plan O.stSrc n
  match t.plan O.stSrcKind n with
  | 1 => t.froot / 65536 * nat (32 + aqSampleBytes (t.plan O.cvFormat i) 65536)
  | 2 =>
    let m := 2 ^ t.plan O.frameExp i
    t.froot / nat (2 ^ t.plan O.ddcK i) / nat m * nat (64 + aqSampleBytes (2 + t.plan O.outFormat i) m)
  | 3 =>
    let e := i % 4
    let det := bits i 19 16
    if t.runs e (bits i 12 8) then t.detRate e (bits i 12 8) det * nat (64 + t.teC e * binBytes det 0) else 0
  | 4 =>
    let g := aqCfg t.active i
    let n := g.pre + g.post
    (if g.cont then ratio (t.aqRate g) (nat g.post) else f64 (t.plan O.aqDeclRate i)) * nat (segBytes g 0 n)
  | 5 =>
    let g := aqCfg t.active i
    let n := g.pre + g.post
    (if g.cont then ratio (t.aqRate g) (nat g.post) else f64 (t.plan O.aqDeclRate i)) * nat (facetLen g 0 n)
  | 6 => 16 * f64 (t.plan O.ticDeclRate i)
  | 7 => 64 * total (((List.range 16).filter (fun n => t.plan O.msEnable n == 1)).map t.msRate)
  | 8 => total ((t.awPositions.filter (fun k => k / 16 == i)).map (fun k => nat (t.plan O.awRecMax k) * t.awRate k))
  | _ => ratio (8388672 * 1000) (nat (t.plan O.dnSnapPeriod))

/-- VDIF frames per second. -/
def State.vdifF (t : State) (n : Nat) : Rat := ratio (t.srcRate n) (nat (t.vdifP n))

/-- Records per second of a native stream, at the record size its settings allow. -/
def State.stRecords (t : State) (n : Nat) : Rat := ratio (t.stItems n) (nat (t.plan O.stRecMax n - 64))

/-- Bytes per second of a stream's records or items. -/
def State.stLoad (t : State) (n : Nat) : Rat :=
  match t.plan O.stFormat n with
  | 0 => t.stItems n + 64 * t.stRecords n
  | 1 => t.vdifF n * nat (32 + t.plan O.vdPayload n)
  | _ => t.stItems n

/-- Bytes that UDP, IP and Ethernet add to a datagram on the wire (R374). -/
def State.wireBytes (t : State) (n : Nat) : Nat := 8 + (if t.plan O.stUdpIpv6 n = 1 then 40 else 20) + 14 + 4 + 8 + 12

/-- Bytes per second on the wire, for a stream to UDP; else its load. -/
def State.stWire (t : State) (n : Nat) : Rat :=
  if t.plan O.stDest n = 2 then
    t.stLoad n + nat (t.wireBytes n) * (if t.plan O.stFormat n = 1 then t.vdifF n else t.stRecords n)
  else t.stLoad n

/-- A stream is staged (R366, Table 16.10). -/
def State.stStaged (t : State) (n : Nat) : Bool := t.stLive n || t.plan O.stDest n == 2

/-- Base and size of a ring source's ring. -/
def State.srcRange (t : State) (n : Nat) : Nat × Nat :=
  let i := t.plan O.stSrc n
  match t.plan O.stSrcKind n with
  | 4 => (t.plan O.aqRingBase i, t.plan O.aqRingSize i)
  | 5 => (t.plan O.aqFacetBase i, t.plan O.aqFacetSize i)
  | 6 => (t.plan O.ticRingBase i, t.plan O.ticRingSize i)
  | 7 => (t.plan O.msRingBase, t.plan O.msRingSize)
  | 8 => (t.plan O.bnRecBase i, t.plan O.bnRecSize i)
  | 9 => (t.plan O.dnSnapBase, t.plan O.dnSnapSize)
  | _ => (0, 0)

/-! ### DRAM ranges and loads (R69, R73) -/

/-- A claimed range of DRAM: the object that gives its base, base and size. -/
structure Range where
  /-- object key -/
  obj : Nat
  /-- first byte -/
  base : Nat
  /-- bytes -/
  size : Nat
deriving DecidableEq, Repr

/-- Bytes per second that one item moves on a scheduler port. -/
structure Load where
  /-- scheduler port -/
  port : Nat
  /-- object key that names it -/
  obj : Nat
  /-- bytes per second -/
  rate : Rat
  /-- range it touches: base and size -/
  at_ : Nat × Nat
deriving DecidableEq

/-- Ranges that a plan claims. -/
def State.ranges (t : State) : List Range :=
  let aq := ((List.range 16).filter (fun c => t.plan O.aqEnable c == 1)).flatMap (fun c =>
    [(⟨O.aqRingBase.key c 0, t.plan O.aqRingBase c, t.plan O.aqRingSize c⟩ : Range),
     ⟨O.aqFacetBase.key c 0, t.plan O.aqFacetBase c, t.plan O.aqFacetSize c⟩])
  let dn := [(⟨O.dnSnapBase.key 0 0, t.plan O.dnSnapBase, t.plan O.dnSnapSize⟩ : Range)]
  let sg := ((List.range 2).filter (fun g => t.plan O.sgEnable g == 1)).map (fun g =>
    (⟨O.sgRingBase.key g 0, t.plan O.sgRingBase g, t.plan O.sgRingLines g * t.sgLine g⟩ : Range))
  let dp := ((List.range 2).filter (fun h => t.plan O.dpEnable h == 1)).map (fun h =>
    (⟨O.dpL3AreaBase.key h 0, t.plan O.dpL3AreaBase h, t.plan O.dpL3AreaSize h⟩ : Range))
  let bn := ((List.range 16).filter (fun b => t.awPositions.any (fun k => k / 16 == b))).flatMap (fun b =>
    [(⟨O.bnRecBase.key b 0, t.plan O.bnRecBase b, t.plan O.bnRecSize b⟩ : Range),
     ⟨O.bnSpillBase.key b 0, t.plan O.bnSpillBase b, t.plan O.bnSpillSize b⟩])
  let store := if t.plan O.awStoreEn = 1 then [(⟨O.awStoreBase.key 0 0, t.plan O.awStoreBase, 16777216⟩ : Range)] else []
  let tic := ((List.range 8).filter (fun n => t.plan O.ticEnable n == 1)).map (fun n =>
    (⟨O.ticRingBase.key n 0, t.plan O.ticRingBase n, t.plan O.ticRingSize n⟩ : Range))
  let ms := if (List.range 16).any (fun n => t.plan O.msEnable n == 1) then
    [(⟨O.msRingBase.key 0 0, t.plan O.msRingBase, t.plan O.msRingSize⟩ : Range)] else []
  let dma := ((List.range 64).filter (fun c => t.plan O.dmaEnable c == 1)).map (fun c =>
    (⟨O.dmaWinBase.key c 0, t.plan O.dmaWinBase c, t.plan O.dmaWinSize c⟩ : Range))
  let st := (t.stOn.filter t.stStaged).map (fun n => (⟨O.stRingBase.key n 0, t.plan O.stRingBase n, t.plan O.stRingSize n⟩ : Range))
  let nv := if t.stOn.any (fun n => t.plan O.stDest n == 1) then
    [(⟨O.nvWorkBase.key 0 0, t.plan O.nvWorkBase, 16777216⟩ : Range)] else []
  (aq ++ dn ++ sg ++ dp ++ bn ++ store ++ tic ++ ms ++ dma ++ st ++ nv).filter (fun r => r.size != 0)

/-- Loads of a plan. -/
def State.loads (t : State) : List Load :=
  let aq := ((List.range 16).filter (fun c => t.plan O.aqEnable c == 1)).map (fun c =>
    let g := aqCfg t.active c
    (⟨c / 4, if g.cont then O.aqEnable.key c 0 else O.aqDeclRate.key c 0, t.aqReserve c g, (g.ringBase, g.ringSize)⟩ : Load))
  let dn := if t.plan O.dnSnapPeriod ≠ 0 then
    [(⟨11, O.dnSnapPeriod.key 0 0, 8388672 * 1000 / nat (t.plan O.dnSnapPeriod), (t.plan O.dnSnapBase, t.plan O.dnSnapSize)⟩ : Load)]
    else []
  let sg := ((List.range 2).filter (fun g => t.plan O.sgEnable g == 1)).map (fun g =>
    (⟨4, O.sgEnable.key g 0, t.sgRate g * nat (t.sgLine g), (t.plan O.sgRingBase g, t.plan O.sgRingLines g * t.sgLine g)⟩ : Load))
  let dp := ((List.range 2).filter (fun h => t.plan O.dpEnable h == 1)).map (fun h =>
    (⟨5 + h, O.dpL3MaxW.key h 0, dpLoad t.active h, (t.plan O.dpL3AreaBase h, t.plan O.dpL3AreaSize h)⟩ : Load))
  let aw := t.awPositions.map (fun k =>
    (⟨4, O.awRecMax.key k 0, nat (t.plan O.awRecMax k) * t.awRate k, (t.plan O.bnRecBase (k / 16), t.plan O.bnRecSize (k / 16))⟩ :
      Load))
  let spill := ((List.range 16).filter (fun b => t.awPositions.any (fun k => k / 16 == b))).map (fun b =>
    (⟨11, O.bnSpillRate.key b 0, f64 (t.plan O.bnSpillRate b), (t.plan O.bnSpillBase b, t.plan O.bnSpillSize b)⟩ : Load))
  let tic := ((List.range 8).filter (fun n => t.plan O.ticEnable n == 1 && t.plan O.ticRingSize n != 0)).map (fun n =>
    (⟨4, O.ticRingSize.key n 0, 16 * f64 (t.plan O.ticDeclRate n), (t.plan O.ticRingBase n, t.plan O.ticRingSize n)⟩ : Load))
  let ms := if t.plan O.msRingSize = 0 then [] else ((List.range 16).filter (fun n => t.plan O.msEnable n == 1)).map (fun n =>
    (⟨4, O.msRingSize.key 0 0, 64 * t.msRate n, (t.plan O.msRingBase, t.plan O.msRingSize)⟩ : Load))
  let st := t.stOn.flatMap (fun n =>
    let obj := O.stEnable.key n 0
    let ring := (t.plan O.stRingBase n, t.plan O.stRingSize n)
    let dest := 7 + t.plan O.stDest n
    let fill := if t.stStaged n then [(⟨t.stagePort n, obj, t.stLoad n, ring⟩ : Load), ⟨dest, obj, t.stLoad n, ring⟩] else []
    let src := if t.stLive n then [] else [(⟨dest, obj, t.stItems n, t.srcRange n⟩ : Load)]
    src ++ fill)
  aq ++ dn ++ sg ++ dp ++ aw ++ spill ++ tic ++ ms ++ st

/-- Reservation of a port (R349). -/
def State.portRes (t : State) (port : Nat) : Rat := total ((t.loads.filter (fun l => l.port == port)).map (·.rate))

end Sys2Proof.Machine
end

