-- ==== Sys2Proof/Machine/Clocks.lean ====
section
/-! DEFINITION. The crystal, PLL-C, PLL-A and phase steps (spec 13_clocks.md). What a restart of PLL-A does to the units
stands in Machine/Restart.lean. -/

namespace Sys2Proof.Machine

namespace H
/-- the reference is present and within its window (R286) -/
def refPresent : Nat := 320
/-- the qualified source is new, so it hands nothing over (R289) -/
def newSource : Nat := 321
/-- RELOCK ends with a hand-off (R289) -/
def handoff : Nat := 322
/-- PLL-A has locked since reset (R287) -/
def everLocked : Nat := 323
/-- `PLLC_PHASE_ERR` is the phase error at which the present lock gate began (R285) -/
def gateBase : Nat := 326
/-- the output under QUALIFY is the frozen offset of the state before it (Table 13.2) -/
def qualHeld : Nat := 327
/-- PPSIN's phase when the reference was lost, ps, two's complement of 64 bits, plus 2^64 where it was qualified then (R289) -/
def ppsHeld : Nat := 328
/-- correction of the crystal at which the present ramp began, ppb as binary64, and the elapsed time of its beginning (R283) -/
def xoFrom : Nat := 329
/-- as above -/
def xoAt : Nat := 330
end H

/-! ### The crystal (R283) -/

/-- Entry of `XO_TC_TABLE`, in 10^-12; the factory table is not stated and reads 0 (DESIGN CHOICE, log entry 9). -/
def State.xoEntry (s : State) (i : Nat) : Int := toI 32 (ofLe (((s.dom O.xoTcTable).drop (4 * i)).take 4))

/-- The table at a temperature, interpolated, its ends held. -/
def State.xoTc (s : State) (temp : Rat) : Rat :=
  let x := temp + 40
  if x ≤ 0 then (s.xoEntry 0 : Rat)
  else if 175 ≤ x then (s.xoEntry 175 : Rat)
  else
    let i := x.floor.toNat
    (s.xoEntry i : Rat) + (x - (i : Rat)) * ((s.xoEntry (i + 1) : Rat) - (s.xoEntry i : Rat))

/-- The correction in force, in ppb (R283): it ramps to the one last worked out, which the register holds, over 10 ms. That the
ramp is a straight line is DEDUCED (log entry 192). -/
def State.xoNow (s : State) : Rat :=
  let a := f64 (s.hidden H.xoFrom)
  let b := f64 (s.reg O.xoCorr)
  let t := s.up - s.hidden H.xoAt
  if secondTc ≤ 100 * t then b else a + (b - a) * ((100 * t : Nat) : Rat) / (secondTc : Rat)

/-- XO_COMP_UPDATE (R283): the next correction, towards which a ramp begins. -/
def execXoCompUpdate (temp : BitVec 32) (s : State) : Result :=
  let s := (s.setHidden H.xoFrom (toF64 s.xoNow)).setHidden H.xoAt s.up
  let s := s.setReg O.xoTemp temp.toNat
  let days : Rat := ((s.nowTicks : Int) - (T96.toTicks (s.reg O.xoAgeT0) : Nat) : Int) / (tickHz * 86400)
  let corr := -(s.xoTc (f32 temp.toNat) / 1000 + (toI 32 (s.reg O.xoAgeRate) : Rat) * days / 1000000)
  .next (s.setReg O.xoCorr (toF64 corr))

/-- `XO_AGE_RATE` (R283). -/
def actXoAgeRate (v : Nat) : Act := fun s => .ok ((s.setReg O.xoAgeRate v).setReg O.xoAgeT0 s.now)

/-- XO_AGE_RATE_WRITE (R283). -/
def execXoAgeRateWrite (m : Master) (value : Nat) (s : State) : Result :=
  s.command m O.xoAgeRate value (actXoAgeRate value)

/-! ### PLL-C (R284 to R290) -/

/-- A change of `PLLC_STATE` (Table 13.2). -/
def State.setPllc (s : State) (st : Nat) : State :=
  let old := s.reg O.pllcState
  if old = st then s else (s.setReg O.pllcState st).raise 0x040 (st + 16 * old)

/-- The nominal frequency of the selected source, in Hz (R284). -/
def State.refNominal (s : State) : Rat :=
  match s.plan O.pllcSrc with
  | 2 => if s.reg O.ethLink 0 = 1 then 156250000 else 161132812.5
  | 3 => if s.reg O.ethLink 1 = 1 then 156250000 else 161132812.5
  | _ => f64 (s.plan O.pllcRefHz)

/-- PPSIN is enabled and qualified (R290): its edges came 1 s ± 1 µs apart for `PLLC_QUAL_TIME`, and none is missing since. -/
def State.ppsQualified (s : State) : Bool :=
  let last := s.hidden H.ppsLast
  s.plan O.ppsinEn == 1 && last != 0 && decide (s.upTicks + 1 ≤ last + T96.second + 1000 * 65536 ∧
    s.plan O.pllcQualTime * 1000000 * 65536 ≤ last - s.hidden H.ppsSince)

/-- Δ of R289 in ps from the phase measured, which is known up to whole periods of the reference: the value nearest 0, or with
PPSIN qualified now and at the loss the one nearest PPSIN's own shift since then, itself wrapped to ±0.5 s (DEDUCED, log entry 192). -/
def State.resolveDelta (s : State) (measured : Int) : Int :=
  let p : Rat := 1000000000000 / s.refNominal
  let held := s.hidden H.ppsHeld
  let near : Int :=
    if s.ppsQualified && decide (2 ^ 64 ≤ held) then
      let d := toI 64 (s.hidden H.ppsPhase) - toI 64 (held % 2 ^ 64)
      d - 1000000000000 * rne ((d : Rat) / 1000000000000)
    else 0
  rne ((measured : Rat) + p * (rne (((near - measured : Int) : Rat) / p) : Rat))

/-- The output is a frozen offset: free, in HOLDOVER, and under QUALIFY entered from either (Table 13.2). -/
def State.outHeld (s : State) : Bool :=
  s.reg O.pllcState == 0 || s.reg O.pllcState == 3 || (s.reg O.pllcState == 4 && s.hidden H.qualHeld == 1)

/-- QUALIFY is entered: the output stays as before. -/
def State.qualify (s : State) : State := ((s.setHidden H.qualHeld (b2n s.outHeld)).setHidden H.gateBase 0).setPllc 4

/-- On entry to LOCKED from RELOCK of a returning reference: a step of −Δ is handed to the time counter (R289). -/
def State.pllcHandOff (s : State) (delta : Int) : State :=
  if s.hidden H.handoff = 1 then
    let s := ((s.setHidden H.handoff 0).setReg O.pllcHandoff (toF64 ((-delta : Int) : Rat))).raise 0x044 (ofI 64 (-delta))
    (s.stepRequest 4 (rneDiv (-delta * 65536) 1000) none).1
  else s

/-- PLLC_LOCK_GATE (R285, R287, R289): the phase error at the end of a gate in ps, the phase against the relation held at the loss,
and the reference as measured. A gate begins at the error at which the one before it ended; `start` gives it for a gate that
follows none, as after a return or under a new source. -/
def execPllcLockGate (start phase delta : Int) (refHz : BitVec 64) (s : State) : Result :=
  let st := s.reg O.pllcState
  if st = 0 ∨ st = 3 then .next s else
  let base : Rat := if s.hidden H.gateBase = 1 then f64 (s.reg O.pllcPhaseErr) else start
  let err : Rat := ((phase : Rat) - base) / (s.plan O.pllcLockGate : Rat)
  let s := ((s.setReg O.pllcFreqErr (toF64 err)).setReg O.pllcPhaseErr (toF64 phase)).setReg O.pllcRefFreq refHz.toNat
  let inWin := decide (ratAbs err ≤ f32 (s.plan O.pllcLockPpb))
  let was := s.reg O.pllcLocked
  let s := (s.setHidden H.gateBase 1).setReg O.pllcLocked (b2n inWin)
  let s := if was = b2n inWin then s else s.raise (if inWin then 0x041 else 0x042) (toF64 err)
  if !inWin then .next s
  else if st = 1 then .next (s.setPllc 2)
  else if st = 5 ∧ phase.natAbs < 50 then .next (s.setPllc 2)
  else if st = 6 then .next ((s.setPllc 2).pllcHandOff (s.resolveDelta delta))
  else .next s

/-- PLLC_REF_LOST (R286): the cause, and the average frequency offset that is frozen, in ppb. -/
def execPllcRefLost (cause : Fin 3) (average : BitVec 64) (s : State) : Result :=
  if s.plan O.pllcSrc = 0 ∨ s.hidden H.refPresent = 0 then .next s else
  let st := s.reg O.pllcState
  let s := ((s.setHidden H.refPresent 0).setHidden H.gateBase 0).raise 0x043 (cause.val + 1)
  let s := if st = 2 then s.setHidden H.ppsHeld (if s.ppsQualified then 2 ^ 64 + s.hidden H.ppsPhase else 0) else s
  if st = 2 ∨ st = 4 ∨ st = 5 ∨ st = 6 then
    .next ((((s.setHidden H.handoff 0).setReg O.pllcHoldT96 s.now).setReg O.pllcHoldRatio average.toNat).setPllc 3)
  else .next s

/-- PLLC_REF_RETURN (R287): the reference as measured; it is back where that lies within `PLLC_REF_WIN`. -/
def execPllcRefReturn (refHz : BitVec 64) (s : State) : Result :=
  if s.plan O.pllcSrc = 0 then .next s else
  let s := s.setReg O.pllcRefFreq refHz.toNat
  if ratAbs (f64 refHz.toNat - s.refNominal) * 1000000 ≤ f32 (s.plan O.pllcRefWin) * s.refNominal then
    let s := s.setHidden H.refPresent 1
    .next (if s.reg O.pllcState = 3 then s.qualify else s)
  else .next s

/-- PLLC_QUALIFIED (R289): the phase measured, in ps, positive when the output is ahead. -/
def execPllcQualified (measured : Int) (s : State) : Result :=
  if s.reg O.pllcState = 4 then
    let delta := s.resolveDelta measured
    let s := (s.setHidden H.refPresent 1).setHidden H.gateBase 1
    if s.hidden H.newSource = 1 then
      .next (((s.setHidden H.newSource 0).setReg O.pllcPhaseErr 0).setPllc 6)
    else if delta.natAbs ≤ s.plan O.pllcPhasePull then .next ((s.setReg O.pllcPhaseErr (toF64 delta)).setPllc 5)
    else .next (((s.setHidden H.handoff 1).setReg O.pllcPhaseErr 0).setPllc 6)
  else .next s

/-- The offset of the frequency in force, frozen as the loop becomes free (R287): the one that a held output has, else a value that
the spec does not state (log entry 7). -/
def State.pllcFreeze (s : State) : State :=
  if s.outHeld then s else
  let fr := s.drawFree
  fr.2.setReg O.pllcHoldRatio (fr.1 % 2 ^ 64)

/-- A commit changes `PLLC_SRC` (R287): to 0 the loop runs free, to an external source it qualifies it. The plan of a reset acquires
it; a loop free before PLL-A has first locked stays so until then. -/
def State.pllcCommit (s : State) (old : Nat) : State :=
  let src := s.plan O.pllcSrc
  if src = old then s
  else if src = 0 then (s.pllcFreeze.setHidden H.refPresent 0).setPllc 0
  else
    let s := ((s.setHidden H.newSource 1).setHidden H.handoff 0).setHidden H.refPresent 1
    if s.hidden H.everLocked = 1 ∨ s.reg O.pllcState ≠ 0 then s.qualify
    else if s.hidden H.boot = 5 then (s.setHidden H.gateBase 0).setPllc 1
    else s

/-- PPSIN_EDGE (R290): its time after the last tick in 2^-16 ns, and its phase against the PLL-C output in ps. Its spacing is judged on
elapsed time, which no step of device time moves. -/
def execPpsinEdge (after : Nat) (phase : Int) (s : State) : Result :=
  if s.plan O.ppsinEn = 0 then .next s else
  let r := (s.nowTicks + after) % T96.second
  let off : Int := if 2 * r < T96.second then r else (r : Int) - T96.second
  let e := s.upTicks + after + 1
  let last := s.hidden H.ppsLast
  let gap : Int := (e : Int) - last - T96.second
  let since := if last ≠ 0 ∧ gap.natAbs ≤ 1000 * 65536 then s.hidden H.ppsSince else e
  let s := ((s.setHidden H.ppsLast e).setHidden H.ppsSince since).setHidden H.ppsPhase (ofI 64 phase)
  let s := s.setReg O.ppsinPhase (toF64 ((off : Rat) * 1000 / 65536))
  .next (if s.ppsQualified && s.plan O.servoSrc == 1 && !s.timeUnset then s.servoOffset off else s)

/-! ### PLL-A (R291 to R295) -/

/-- N and F for a root frequency and mode (R291). -/
def pllaRatio (hz mode : Nat) : Nat × Nat :=
  if mode = 0 ∧ hz % 100000000 = 0 then (hz / 100000000, 0)
  else
    let x := (rneDiv ((hz * 2 ^ 32 : Nat) : Int) 100000000).toNat
    (x / 2 ^ 32, x % 2 ^ 32)

/-- PLLA_LOL_DETECT (R292): the sticky flag sets; nothing switches, and gates in progress close early at the next fT tick (R277). -/
def execPllaLolDetect (s : State) : Result :=
  if s.locked ∧ s.reg O.pllaLol = 0 then
    .next (((s.setReg O.pllaLol 1).setHidden H.gatesDue 1).raise 0x046 (s.now >>> 48))
  else .next s

/-- `PLLA_LOL_CLR` (R292): blocks in progress keep CLK_UNQUAL (R18). -/
def actLolClr (v : Nat) : Act := onlyOne v <| reaching 5 fun s => .ok ((if s.clkUnqual then s.markUntil 0x100 else s).setReg O.pllaLol 0)

/-- PLLA_LOL_CLR (R292). -/
def execPllaLolClr (m : Master) (value : Nat) (s : State) : Result := s.command m O.pllaLolClr value (actLolClr value)

/-- The root frequency that the active plan gives (R291), in Hz. -/
def State.plannedHz (s : State) : Rat :=
  let r := pllaRatio (s.plan O.frootHz) (s.plan O.pllaMode)
  100000000 * ((r.1 : Rat) + (r.2 : Rat) / (2 ^ 32 : Nat))

/-- The clocks' part of the release (R292, R293, R295): a new epoch at index 0 under the committed frequency. -/
def State.pllaRelease (s : State) : State :=
  let r := pllaRatio (s.plan O.frootHz) (s.plan O.pllaMode)
  let hz := s.plannedHz
  let old := s.hidden H.frootOld
  let again := s.reg O.frootActual ≠ 0
  let s := (((s.setReg O.pllaState 2).setReg O.pllaN r.1).setReg O.pllaFrac r.2).setReg O.frootActual (toF64 hz)
  let s := (((s.setReg O.pllaLol 0).setReg O.pllaLockT96 s.now).setReg O.phaseTotal 0).setHidden H.restarting 0
  let s := s.clkoutShow
  let s := { s with idx := 0, conv := s.conv.map (fun (e : Nat × Conv) => (e.1, { e.2 with suspectFrom := 0 })) }
  let inc := s.incBase.toNat
  let s := (s.setReg O.tcInc (inc / 2 ^ 32 % 2 ^ 40)).setReg O.tcIncExt (inc % 2 ^ 32)
  let s := { s with timeline := [⟨0, s.tc, s.inc⟩], holds := [] }
  let s := (List.range 4).foldl (fun s ch =>
    let s := (if s.hidden H.everLocked = 1 then s.bump O.idxEpoch ch else s).setReg O.idxEpochT96 s.now ch
    s.raise (0x107 + 16 * ch) (s.reg O.idxEpoch ch)) s
  let s := s.raise 0x045 (s.reg O.idxEpoch)
  let s := if !again ∨ toF64 hz = old then s else s.raise 0x049 (toF64 hz)
  let first := s.hidden H.everLocked == 0
  let s := s.setHidden H.everLocked 1
  if first && (s.reg O.pllcState == 1 || (s.reg O.pllcState == 0 && s.plan O.pllcSrc != 0)) then (s.setHidden H.newSource 1).qualify
  else s

/-! ### Phase steps (R296, R297) -/

/-- A request is taken: its count adds to the steps remaining; at exactly 0 the sequence is done. -/
def State.phaseTake (s : State) (n : Int) : State :=
  let sum := toI 32 (s.reg O.phaseRemain) + n
  let s := s.setReg O.phaseRemain (ofI 32 sum)
  if sum = 0 then s.raise 0x047 (s.reg O.phaseTotal % 2 ^ 32) else s

/-- Whether the sum would exceed ±65,535. -/
def State.phaseOver (s : State) (n : Int) : Bool := decide (65535 < (toI 32 (s.reg O.phaseRemain) + n).natAbs)

/-- `PHASE_STEP` (R297). -/
def actPhaseStep (v : Nat) : Act :=
  refuseIf (v == 0) Abort.range <| reaching 5 fun s =>
    if !s.locked then .error Abort.busy
    else if s.phaseOver (toI 32 v) then .error Abort.range
    else .ok (s.phaseTake (toI 32 v))

/-- PHASE_STEP (R297). -/
def execPhaseStep (m : Master) (value : Nat) (s : State) : Result := s.command m O.phaseStep value (actPhaseStep value)

/-- A phase-step entry falls due (R297): discarded while PLL-A is not locked, or beyond the limit (DEDUCED, log
entry 195). -/
def State.phaseEntry (s : State) (n : Int) : State :=
  if !s.locked ∨ s.phaseOver n then s.raise 0x048 (ofI 32 n) else s.phaseTake n

/-- PHASE_STEP_APPLY (R296): one step; the time counter adds the same fraction of a root period. -/
def execPhaseStepApply (s : State) : Result :=
  let left := toI 32 (s.reg O.phaseRemain)
  if !s.locked ∨ left = 0 then .next s else
  let d : Int := if 0 < left then 1 else -1
  let add := rne ((1000000000 * 2 ^ 64 : Nat) / (512 * s.froot)) * d
  let s := { s with tc := ((s.tc : Int) + add).toNat }.anchor
  let s := (s.setReg O.phaseRemain (ofI 32 (left - d))).setReg O.phaseTotal (ofI 64 (toI 64 (s.reg O.phaseTotal) + d))
  let s := s.markWithin
  .next (if left = d then s.raise 0x047 (s.reg O.phaseTotal % 2 ^ 32) else s)

end Sys2Proof.Machine
end

