-- ==== Sys2Proof/Machine/TimedActions.lean ====
section
/-! DEFINITION. The timed-action table (spec 14_time.md, R319 to R323). -/

namespace Sys2Proof.Machine

namespace H
/-- an entry fires late, by entry (R320 to R322) -/
def taLate : Nat := 360
/-- counter value before which a late pending plan may not commit (R64) -/
def pendFrom : Nat := 509
/-- counter value of the commit tick of an awaiting plan (R63) -/
def commitAt : Nat := 507
/-- cause of a safe plan that takes effect at the next tick (Table 3.7); 0 none -/
def safeDue : Nat := 508
end H

/-- An entry's state changes; `TA_FREE` follows. -/
def State.setTa (s : State) (e st : Nat) : State :=
  let old := s.reg O.taState e
  let s := s.setReg O.taState st e
  if old = 0 ∧ st ≠ 0 then s.setReg O.taFree (s.reg O.taFree - 1)
  else if old ≠ 0 ∧ st = 0 then s.setReg O.taFree (s.reg O.taFree + 1)
  else s

/-- Free an entry. -/
def State.taFreeEntry (s : State) (e : Nat) : State := ((s.setTa e 0).setReg O.taValid 0 e).setHidden H.taLate 0 e

/-- Due time as a count of 2^-16 ns. -/
def State.taDue (s : State) (e : Nat) : Nat := T96.toTicks (s.reg O.taTime e)

/-- Arm an entry: it is late where its time has already passed. -/
def State.taArm (s : State) (e : Nat) : State :=
  (s.setTa e 2).setHidden H.taLate (b2n (decide (s.taDue e < s.nowTicks))) e

/-- Whether kind, target and argument lie within Table 14.3. -/
def taFits (kind target : Nat) (arg : Int) : Bool :=
  match kind with
  | 2 => target == 0 && decide (1 ≤ arg.natAbs ∧ arg.natAbs ≤ 65535)
  | 3 => target == 0 && arg == 0
  | 4 => decide (target < 16) && arg == 0
  | 5 => (decide (target < 16) && arg == 0) || (decide (16 ≤ target ∧ target < 32) && (arg == 0 || arg == 1))
  | 6 => decide (target < 16) && arg == 0
  | 7 => decide (target < 16) && arg == 0
  | 8 => decide (target < 16) && decide (0 ≤ arg ∧ arg ≤ 2)
  | 9 => target == 0 && arg == 0
  | 10 => target == 0 && arg == 0
  | _ => false

/-- `TA_VALID` = 1 (R320, R323). -/
def actTaSet (e : Nat) : Act := fun s =>
  let flags := s.reg O.taFlags e
  let per := s.reg O.taPeriod e
  if s.reg O.taState e ≠ 0 then .error Abort.busy
  else if s.timeUnset then .error Abort.busy
  else if s.reg O.taKind e = 1 then .error Abort.range
  else if !taFits (s.reg O.taKind e) (s.reg O.taTarget e) (toI 64 (s.reg O.taArg e)) then .error Abort.range
  else if per ≠ 0 ∧ per < 10000 then .error Abort.range
  else if bit flags 1 then .ok ((s.setReg O.taValid 1 e).setTa e 1)
  else if !bit flags 0 && decide (s.taDue e < s.nowTicks + 10000 * 65536) then .error (Abort.adm 0x10)
  else .ok ((s.setReg O.taValid 1 e).taArm e)

/-- `TA_VALID` = 0 (R319). -/
def actTaClear (e : Nat) : Act := fun s =>
  match s.reg O.taState e with
  | 0 => .ok s
  | 1 => if s.adm.isSome then .error Abort.busy else .ok (s.taFreeEntry e)
  | 2 => if s.reg O.taKind e = 1 then .error Abort.range else .ok (s.taFreeEntry e)
  | _ => .error Abort.range

/-- TA_VALID_SET (R320). -/
def execTaValidSet (m : Master) (e : Fin 512) (s : State) : Result :=
  s.request m (fun s => s.judge m O.taValid 1 (actTaSet e.val))

/-- TA_VALID_CLEAR (R319). -/
def execTaValidClear (m : Master) (e : Fin 512) (s : State) : Result :=
  s.request m (fun s => s.judge m O.taValid 0 (actTaClear e.val))

/-! ### Firing (R321, R322) -/

/-- An entry is armed, due, and no restart of PLL-A holds it back. -/
def State.taReady (s : State) (e : Nat) : Bool :=
  s.reg O.taState e == 2 && decide (s.taDue e ≤ s.nowTicks) && s.hidden H.restarting == 0

/-- A plan-commit entry's tick has come (R64). -/
def State.pendDue (s : State) (e : Nat) : Bool := s.taReady e && decide (s.hidden H.pendFrom ≤ s.up)

/-- The awaiting plan's tick has come; a safe plan that is due abandons it (R63, R79, R438). -/
def State.commitDue (s : State) : Bool := s.awaiting.isSome && decide (s.hidden H.commitAt ≤ s.up) && s.hidden H.safeDue == 0

/-- A plan's commit is due, the pending one's, the awaiting one's or the safe plan's: it goes first (R277, R321). -/
def State.planDue (s : State) : Bool :=
  s.commitDue || s.hidden H.safeDue != 0 || (s.armed.isSome && (List.range 512).any (fun e => s.reg O.taKind e == 1 && s.pendDue e))

/-- Whether an entry is the first among those due: ascending kind, then ascending number. -/
def State.taFirst (s : State) (e : Nat) : Bool :=
  !s.planDue && (List.range 512).all (fun f =>
    !s.taReady f || decide (s.reg O.taKind e < s.reg O.taKind f ∨ (s.reg O.taKind e = s.reg O.taKind f ∧ e ≤ f)))

/-- After an entry has fired: `TA_LATE`, `TA_FIRED`; a one-shot entry is freed, a repeating one moves on by its period. -/
def State.taDone (s : State) (e : Nat) : State :=
  let due := s.taDue e
  let s := if s.hidden H.taLate e = 1 then s.raise 0x092 (e + 65536 * ((s.nowTicks - due) / 65536)) else s
  let s := if bit (s.reg O.taFlags e) 2 then s.raise 0x090 e else s
  let per := s.reg O.taPeriod e
  if per = 0 then s.taFreeEntry e
  else
    let next := due + per * 65536
    (s.setReg O.taTime (T96.ofTicks next) e).setHidden H.taLate (b2n (decide (next < s.nowTicks))) e

/-- An action that its target does not accept is counted (R322). -/
def State.taDrop (s : State) (e : Nat) : State :=
  (s.bumpSat O.taDroppedCount).raise 0x091 (e + 4096 * s.reg O.taKind e)

/-- An entry of a kind falls due. -/
def State.taFire (s : State) (e kind : Nat) (f : State → Option State) : Result :=
  if s.taReady e ∧ s.reg O.taKind e = kind ∧ s.taFirst e then
    match f s with
    | some s' => .next (s'.taDone e)
    | none => .next ((s.taDrop e).taDone e)
  else .next s

/-- TA_PHASE_STEP (R297). -/
def execTaPhaseStep (e : Fin 512) (s : State) : Result :=
  s.taFire e.val 2 (fun s => some (s.phaseEntry (toI 64 (s.reg O.taArg e.val))))

/-- TA_DECIMATOR_SYNC (R114). -/
def execTaDecimatorSync (e : Fin 512) (s : State) : Result := s.taFire e.val 3 (fun s => some (s.syncRequest 2))

/-- TA_CAPTURE_START (R163). -/
def execTaCaptureStart (e : Fin 512) (s : State) : Result :=
  s.taFire e.val 4 (fun s => s.ctxArmEntry (s.reg O.taTarget e.val) (s.taDue e.val))

/-- TA_ARM (R264): an arm entry arms a slot at T_a. -/
def execTaArm (e : Fin 512) (s : State) : Result :=
  if toI 64 (s.reg O.taArg e.val) = 1 then
    s.taFire e.val 5 (fun s => s.slotArmEntry (s.reg O.taTarget e.val % 16) s.nowTicks)
  else .next s

/-- TA_DISARM (R163, R264). -/
def execTaDisarm (e : Fin 512) (s : State) : Result :=
  if s.reg O.taArg e.val = 0 then
    s.taFire e.val 5 (fun s =>
      let t := s.reg O.taTarget e.val
      if t < 16 then s.ctxDisarm t else s.slotDisarm (t % 16))
  else .next s

/-- TA_TRIGGER (R320). -/
def execTaTrigger (e : Fin 512) (s : State) : Result :=
  s.taFire e.val 6 (fun s => s.tuTimed (s.reg O.taTarget e.val) (s.taDue e.val))

/-- TA_PULSE (R417): the leading edge falls at `TA_TIME`. -/
def execTaPulse (e : Fin 512) (s : State) : Result :=
  s.taFire e.val 7 (fun s => s.pgTimed (s.reg O.taTarget e.val) (s.taDue e.val))

/-- TA_NOISE_TOGGLE (R320, R416). -/
def execTaNoiseToggle (e : Fin 512) (s : State) : Result :=
  s.taFire e.val 8 (fun s => s.pgNoise (s.reg O.taTarget e.val) (s.reg O.taArg e.val))

/-- TA_DENSITY_SNAPSHOT (R189). -/
def execTaDensitySnapshot (e : Fin 512) (s : State) : Result := s.taFire e.val 9 (fun s => s.dnSnapRequest)

/-- TA_LACING_EPOCH (R325). -/
def execTaLacingEpoch (e : Fin 512) (s : State) : Result := s.taFire e.val 10 (fun s => s.laceSDrive)

/-! ### The table and the plans (R79, R319, R323) -/

/-- Apply a change to every entry in a state. -/
def State.taEach (s : State) (st : Nat) (f : State → Nat → State) : State :=
  (List.range 512).foldl (fun s e => if s.reg O.taState e = st then f s e else s) s

/-- Staged entries are freed with the staged plan. -/
def State.taFreeStaged (s : State) : State := s.taEach 1 State.taFreeEntry
/-- Staged entries are armed at the commit tick. -/
def State.taArmStaged (s : State) : State := s.taEach 1 State.taArm
/-- An ARM freezes them. -/
def State.taFreeze (s : State) : State := s.taEach 1 (fun s e => s.setTa e 3)
/-- Pending entries are armed at the timed commit's tick. -/
def State.taArmPending (s : State) : State := s.taEach 3 State.taArm
/-- Pending entries are freed with the pending plan. -/
def State.taFreePending (s : State) : State := s.taEach 3 State.taFreeEntry
/-- The safe plan frees entries of every kind but 2 and 7 (R79, R322). -/
def State.taSafe (s : State) : State :=
  s.taEach 2 (fun s e => if s.reg O.taKind e = 2 ∨ s.reg O.taKind e = 7 then s else s.taFreeEntry e)
/-- After a restart of PLL-A, entries that fell due meanwhile fire late (R322). -/
def State.taRestart (s : State) : State :=
  s.taEach 2 (fun s e => if s.taDue e ≤ s.nowTicks then s.setHidden H.taLate 1 e else s)

end Sys2Proof.Machine
end

