-- ==== Sys2Proof/Machine/Admission.lean ====
section
/-! DEFINITION. Admission (spec 03_plans.md, R68 to R77, and the admission tables of every chapter). A check takes a state whose
active plan is the plan being judged, and gives its failures. -/

namespace Sys2Proof.Machine

/-- A failed check: reason code, the objects it names, and demanded value and limit where the check compares two numbers. -/
structure AdmFail where
  /-- reason code of Table 3.4 -/
  code : Nat
  /-- object key -/
  obj : Nat
  /-- second object key of a claim conflict -/
  obj2 : Nat := 0
  /-- `ADM_VALUE` and `ADM_LIMIT` -/
  nums : Option (Rat × Rat) := none
deriving DecidableEq

/-- A failure where a condition holds. -/
def failIf (c : Bool) (code obj : Nat) (nums : Option (Rat × Rat) := none) : List AdmFail :=
  if c then [{ code := code, obj := obj, nums := nums }] else []

/-- A number above its limit. -/
def above (code obj : Nat) (value limit unit : Rat) : List AdmFail :=
  failIf (decide (limit < value)) code obj (some (value / unit, limit / unit))

/-- Two claims of one resource, the lower index first (R73). -/
def clash (c : Bool) (a b : Nat) : List AdmFail :=
  if c then [{ code := 0x0C, obj := min a b, obj2 := max a b }] else []

/-- An enabled unit's checks over a range of units. -/
def forUnits (n : Nat) (f : Nat → List AdmFail) : List AdmFail := (List.range n).flatMap f

/-- Insert an item by object. -/
def insObj (x : Nat × Rat) : List (Nat × Rat) → List (Nat × Rat)
  | [] => [x]
  | y :: ys => if x.1 < y.1 then x :: y :: ys else y :: insObj x ys

/-- The object that first carries a sum over the capacity. -/
def firstOver (cap : Rat) : Rat → List (Nat × Rat) → Nat
  | _, [] => 0
  | acc, x :: xs => if cap < acc + x.2 then x.1 else firstOver cap (acc + x.2) xs

/-- A summed capacity (R70): items by object; value and limit in a unit. -/
def sumCheck (code : Nat) (items : List (Nat × Rat)) (cap unit : Rat) : List AdmFail :=
  let l := items.foldr insObj []
  let v := total (l.map (·.2))
  if cap < v then [{ code := code, obj := firstOver cap 0 l, nums := some (v / unit, cap / unit) }] else []

/-- 10^9 -/
def giga : Rat := 1000000000

/-- A count of 2^-16 ns in seconds (log entry 185). -/
def seconds (ticks : Nat) : Rat := ((ticks : Nat) : Rat) / ((T96.second : Nat) : Rat)

/-! ### Units of the RF path (R72, R122, R150) -/

/-- Converters: a gap-free channel needs its spare (R99). -/
def State.admCv (t : State) : List AdmFail := forUnits 4 fun ch =>
  failIf (t.plan O.cvEnable ch == 1 && t.plan O.calMode ch == 1 && t.reg O.sparePresent ch == 0) 0x0D (O.calMode.key ch 0)

/-- Slices (R122). -/
def State.admSlice (t : State) : List AdmFail := forUnits 32 fun m =>
  if t.plan O.ddcEnable m = 1 then
    failIf (t.plan O.cvEnable (t.plan O.ddcInput m) == 0) 0x06 (O.ddcInput.key m 0) ++
    above 0x06 (O.firTaps.key m 0) (nat (t.plan O.firTaps m) * t.froot / nat (2 ^ t.plan O.ddcK m)) (48 * t.fF) giga
  else []

/-- Engines that run. -/
def State.engsOn (t : State) : List Nat := (List.range 4).filter (fun e => t.plan O.teEnable e == 1)

/-- Engines (R150, Table 6.6). -/
def State.admEngine (t : State) (e : Nat) : List AdmFail :=
  let l := t.teL e
  let kind := t.plan O.teSrcKind e
  let slices := t.plan O.teSlices e
  let srcs := t.engSources e
  let w := if kind = 0 then 1 else 2
  above 0x0B (O.teTaps.key e 0) (nat l) 131072 1 ++
  above 0x0B (O.spanCount.key e 0) (nat (t.plan O.spanStart e + max 1 (t.plan O.spanCount e))) (nat (t.teBins e)) 1 ++
  failIf (kind == 1 && (slices == 0 || decide (16 < popcount slices 32))) 0x0B (O.teSlices.key e 0)
    (some (nat (popcount slices 32), if slices = 0 then 1 else 16)) ++
  failIf (t.plan O.teWindow e == 7 && t.userEntries e != l) 0x0B (O.teWindow.key e 0) (some (nat l, nat (t.userEntries e))) ++
  failIf (bit (t.plan O.teDetMask e) 7 && t.plan O.avgM e == 1) 0x0B (O.avgM.key e 0) (some (1, 2)) ++
  ((t.engsOn.filter (fun d => decide (e < d) && t.plan O.teSrcKind d == 1 && kind == 1)).flatMap (fun d =>
    clash (slices &&& t.plan O.teSlices d != 0) (O.teSlices.key e 0) (O.teSlices.key d 0))) ++
  failIf (kind == 0 && t.plan O.cvEnable e == 0) 0x05 (O.teSrcKind.key e 0) ++
  failIf (kind == 1 && srcs.any (fun m => t.plan O.ddcEnable m == 0)) 0x05 (O.teSlices.key e 0) ++
  above 0x05 (O.teOverlap.key e 0) (planLoad t.active t.froot e).1 (nat (min 8 (9 - popcount (t.eng e).retired 9)) * t.fF) giga ++
  above 0x0A (O.teLog2n.key e 0) (nat (srcs.length * (l + t.teH e) * w)) 524288 1

/-! ### Trigger units and contexts (R172, Table 7.9) -/

/-- A TRGIN ball that a unit uses. -/
def State.trginUsed (t : State) (pin : Nat) : Option Nat :=
  (List.range 16).find? (fun u => t.plan O.tuEnable u == 1 && t.plan O.tuSrc u == 7 && t.plan O.tuSel u % 8 == pin)

/-- Trigger units. -/
def State.admTrig (t : State) : List AdmFail := forUnits 16 fun u =>
  let sel := t.plan O.tuSel u
  let src := t.plan O.tuSrc u
  let e := sel % 4
  if t.plan O.tuEnable u = 1 then
    failIf (src == 3 && decide ((t.dom O.tuMaskTable (t.plan O.tuMask u) 0 maskDefault).length / 4 ≠ t.teC e)) 0x0B
      (O.tuMask.key u 0) (some (nat (t.teC e), nat ((t.dom O.tuMaskTable (t.plan O.tuMask u) 0 maskDefault).length / 4))) ++
    failIf ((src == 1 && t.plan O.cvEnable (sel % 4) == 0) || (src == 3 && !t.runs e (bits sel 12 8))) 0x05 (O.tuSel.key u 0) ++
    failIf (src == 2 && t.plan O.ddcEnable (sel % 32) == 0) 0x06 (O.tuSel.key u 0) ++
    (if t.plan O.tuLatBound u = 0 then [] else above 0x0F (O.tuLatBound.key u 0) (t.latMax u) (nat (t.plan O.tuLatBound u)) 1)
  else []

/-- Contexts. -/
def State.admCtx (t : State) : List AdmFail := forUnits 16 fun c =>
  let g := aqCfg t.active c
  let units := t.unitsNamed c
  let n := g.pre + g.post
  if t.plan O.aqEnable c = 1 then
    failIf (!g.cont && (units.isEmpty || units.any (fun u => t.plan O.tuEnable u == 0) ||
      (t.plan O.aqExpr c == 2 && bits (t.plan O.aqUnits c) 31 16 != 0xFFFF))) 0x0B (O.aqUnits.key c 0) ++
    failIf (g.kind == 0 && t.plan O.cvEnable g.src == 0) 0x05 (O.aqSrc.key c 0) ++
    failIf (g.kind == 1 && t.plan O.ddcEnable g.src == 0) 0x06 (O.aqSrc.key c 0) ++
    above 0x0A (O.aqRingSize.key c 0) (nat (segBytes g 0 n)) (nat g.ringSize) 1 ++
    (if g.facetSize = 0 then [] else above 0x0A (O.aqFacetSize.key c 0) (nat (facetLen g 0 n)) (nat g.facetSize) 1) ++
    (if g.cont then [] else above 0x0A (O.aqPre.key c 0) (nat (t.histNeed c)) 2097152 1)
  else []

/-! ### Density engine (R192, Table 8.3) -/

/-- The density engine and the spectrogram generators. -/
def State.admDensity (t : State) : List AdmFail :=
  (if t.plan O.dnEnable = 1 then
    forUnits t.dnPlanes (fun p => failIf (!t.runs (t.plan O.dnPEngine 0 p) (t.plan O.dnPSrc 0 p)) 0x05 (O.dnPSrc.key 0 p)) ++
    failIf t.dnFit.isNone 0x08 (O.dnMode.key 0 0) (some (t.dnSpectra / 64 / 1000000, t.dnCapacity / 1000000))
  else []) ++
  failIf (t.plan O.dnSnapPeriod != 0 && decide (t.plan O.dnSnapSize < 8388672)) 0x0A (O.dnSnapSize.key 0 0)
    (some (8388672, nat (t.plan O.dnSnapSize))) ++
  forUnits 2 (fun g =>
    let e := t.plan O.sgEngine g
    let d := t.plan O.sgDetector g
    if t.plan O.sgEnable g = 1 then
      failIf (!t.runs e (t.plan O.sgSrc g)) 0x05 (O.sgSrc.key g 0) ++
      failIf (!([1, 4, 5, 6].contains d) || !bit (t.plan O.teDetMask e) d) 0x0B (O.sgDetector.key g 0) ++
      failIf (decide (t.plan O.sgWidth g < 64 ∨ 3840 < t.plan O.sgWidth g)) 0x0B (O.sgWidth.key g 0)
        (some (nat (t.plan O.sgWidth g), if t.plan O.sgWidth g < 64 then 64 else 3840)) ++
      above 0x0A (O.sgRingLines.key g 0) (nat (t.plan O.sgRingBase g + t.plan O.sgRingLines g * t.sgLine g)) (nat (t.reg O.drCapacity)) 1
    else [])

/-! ### Benches (R211, R213, Table 9.5) -/

/-- Windows in use. -/
def State.windowsOn (t : State) : List (Nat × Nat) :=
  (((List.range 64).map (fun n => (n / 4, n % 4)))).filter (fun q => t.plan O.bnWEnable q.1 q.2 == 1)

/-- Windows. -/
def State.admWindow (t : State) (b w : Nat) : List AdmFail :=
  let e := t.plan O.bnWEngine b w
  let size := 2 * t.halfBytes b w
  let base := t.plan O.bnWBase b w
  above 0x0B (O.bnWBinCount.key b w) (nat (t.plan O.bnWBinFirst b w + t.plan O.bnWBinCount b w)) (nat (t.teC e)) 1 ++
  ((t.windowsOn.filter (fun q => q.1 == b && decide (w < q.2))).flatMap (fun q =>
    let base2 := t.plan O.bnWBase b q.2
    clash (decide (base < base2 + 2 * t.halfBytes b q.2 ∧ base2 < base + size)) (O.bnWBase.key b w) (O.bnWBase.key b q.2))) ++
  failIf (decide (524288 < base + size) || base % 64 != 0) 0x0A (O.bnWBase.key b w) (some (nat (base + size), 524288)) ++
  failIf (!t.runs e (t.plan O.bnWSrc b w) || !bit (t.plan O.teDetMask e) (t.plan O.bnWDet b w)) 0x05 (O.bnWSrc.key b w)

/-- Working cores of a bench: those not retired and not under test. -/
def State.awWorking (t : State) (b : Nat) : Nat :=
  ((List.range 17).filter (fun c => decide (t.reg O.bnPhysState b c ≤ 1))).length

/-- Positions. -/
def State.admPosition (t : State) (k : Nat) : List AdmFail :=
  let b := k / 16
  let w := t.plan O.awWindow k
  let r := t.awRate k
  let budget := nat (t.plan O.awBudget k)
  let e := t.plan O.bnWEngine b w
  let before := (t.awPositions.filter (fun i => i / 16 == b && decide (i ≤ k))).length
  failIf (t.plan O.awStoreEn == 0 || t.hidden H.awValid k == 0) 0x0B (O.awImage.key k 0) ++
  failIf (t.plan O.bnWEnable b w == 0) 0x0B (O.awWindow.key k 0) ++
  failIf (decide (t.awWorking b < before)) 0x0D (O.awEnable.key k 0) (some (nat before, nat (t.awWorking b))) ++
  above 0x07 (O.awBudget.key k 0) (budget * r) (95 / 100 * t.fA) 1 ++
  above 0x0F (O.awBudget.key k 0) (budget / t.fA + t.teJ e + nat (t.plan O.bnWBinCount b w) / 8 / t.fF) (ratio 2 r) 1

/-! ### Counter channels and slots (R257, R279, Tables 11.8 and 12.6) -/

/-- Counter channels. -/
def State.admTic (t : State) : List AdmFail :=
  let on := (List.range 8).filter (fun n => t.plan O.ticEnable n == 1)
  on.flatMap (fun n =>
    let rate := f64 (t.plan O.ticDeclRate n)
    let need : Rat := if t.plan O.ticPolarity n = 2 then 8000000000 else 4000000000
    let reach := rate * nat (2 ^ t.plan O.ticKMax n)
    failIf (decide (toI 16 (t.plan O.tinUpper n) ≤ toI 16 (t.plan O.tinLower n))) 0x0B (O.tinUpper.key n 0)
      (some ((toI 16 (t.plan O.tinUpper n) : Rat), (toI 16 (t.plan O.tinLower n) : Rat))) ++
    failIf (decide (t.plan O.ticKMax n < t.plan O.ticKMin n)) 0x0B (O.ticKMin.key n 0)
      (some (nat (t.plan O.ticKMin n), nat (t.plan O.ticKMax n))) ++
    failIf (t.plan O.ticCalMode n == 1 && !(List.range 5).any (fun i => t.reg O.ipState n i == 1 || t.reg O.ipState n i == 2)) 0x0D
      (O.ticCalMode.key n 0) ++
    failIf (t.plan O.ticRingSize n != 0 && decide (t.plan O.ticRingSize n < 131072)) 0x0A (O.ticRingSize.key n 0)
      (some (nat (t.plan O.ticRingSize n), 131072)) ++
    above 0x09 (O.ticDeclRate.key n 0) rate (250000000 * t.scale) 1 ++
    failIf (decide (reach < need)) 0x09 (O.ticKMax.key n 0) (some (reach, need))) ++
  sumCheck 0x09 (on.map (fun n => (O.ticDeclRate.key n 0, f64 (t.plan O.ticDeclRate n)))) (giga * t.scale) 1

/-- Measurement slots. -/
def State.admMs (t : State) : List AdmFail :=
  forUnits 16 (fun n =>
    let f := t.plan O.msFunc n
    let a := t.plan O.msChanA n
    let b := t.plan O.msChanB n
    if t.plan O.msEnable n = 1 then
      failIf (t.plan O.ticEnable a == 0) 0x0B (O.msChanA.key n 0) ++
      failIf ((f == 3 || f == 4) && t.plan O.ticEnable b == 0) 0x0B (O.msChanB.key n 0) ++
      failIf ((f == 5 || (f == 3 && a == b)) && t.plan O.ticPolarity a != 2) 0x0B (O.msFunc.key n 0) ++
      failIf (t.plan O.msAdevTaus n != 0 && (decide (4 ≤ n) || f != 1 || t.plan O.msGateKind n != 0)) 0x0B (O.msAdevTaus.key n 0)
    else []) ++
  failIf ((List.range 16).any (fun n => t.plan O.msEnable n == 1) && t.plan O.msRingSize != 0 &&
    decide (t.plan O.msRingSize < 65536)) 0x0A (O.msRingSize.key 0 0) (some (nat (t.plan O.msRingSize), 65536))

/-! ### Time, network and DRAM (R314, R315, R337, R346) -/

/-- PTP, timed-action entries and DRAM: `s` holds the active plan. -/
def State.admTime (t s : State) (tick : Nat) : List AdmFail :=
  failIf (t.plan O.ptpMode == 0 && t.plan O.ptpRole 0 == 3 && t.plan O.ptpRole 1 == 3) 0x0B (O.ptpRole.key 1 0) ++
  failIf (t.plan O.ptpMode == 1 && (t.reg O.ethLink 0 == 0 || t.reg O.ethLink 0 != t.reg O.ethLink 1)) 0x0B (O.ptpMode.key 0 0) ++
  forUnits 512 (fun n =>
    failIf (t.reg O.taState n == 1 && t.reg O.taFlags n % 2 == 0 && decide (T96.toTicks (t.reg O.taTime n) < tick + 20000 * 65536))
      0x0F (O.taTime.key n 0) (some (seconds (T96.toTicks (t.reg O.taTime n)), seconds (tick + 20000 * 65536)))) ++
  failIf (t.plan O.drSpareDemand == 1 && (List.range 4).any (fun ch => !(List.range 3).any (fun p => t.reg O.drPosState ch p == DP.spare)))
    0x0D (O.drSpareDemand.key 0 0) ++
  (if t.plan O.drAddrOrder = s.plan O.drAddrOrder then [] else
    match s.ranges with
    | [] => []
    | r :: rs =>
      let low := rs.foldl (fun a b => if b.base < a.base then b else a) r
      [{ code := 0x0C, obj := O.drAddrOrder.key 0 0, obj2 := low.obj }])

/-! ### DMA, streams and drive sets (R371, R385, Table 16.10) -/

/-- Format and staging of a stream. -/
def State.admStream (t : State) (n : Nat) : List AdmFail :=
  let kind := t.plan O.stSrcKind n
  let src := t.plan O.stSrc n
  let fmt := t.plan O.stFormat n
  let dest := t.plan O.stDest n
  let live := t.stLive n
  let vdifSrc := (kind == 1 && t.plan O.cvFormat src == 1) || (kind == 2 && t.plan O.outFormat src == 0)
  let bad := (fmt == 1 && !vdifSrc) || (fmt == 2 && (live || dest == 2)) || (!live && dest == 1 && fmt != 2)
  let pay := t.plan O.vdPayload n
  let dgram := (if fmt = 1 then 32 + pay else t.plan O.stRecMax n) + 8 + (if t.plan O.stUdpIpv6 n = 1 then 40 else 20)
  let ring := t.plan O.stRingSize n
  let unitOn := match kind with
    | 4 => t.plan O.aqEnable src == 1
    | 5 => t.plan O.aqEnable src == 1
    | 6 => t.plan O.ticEnable src == 1
    | 7 => (List.range 16).any (fun i => t.plan O.msEnable i == 1)
    | 8 => t.awPositions.any (fun k => k / 16 == src)
    | _ => t.plan O.dnEnable == 1
  let two := if fmt = 1 then 2 * (32 + pay) else 2 * t.plan O.stRecMax n
  let behind := if t.stStaged n then ring else (t.srcRange n).2
  let time : Rat := (nat (t.plan O.stDrainUs n) + (if dest = 1 then 10000 else 0)) / 1000000
  failIf bad 0x0B (O.stFormat.key n 0) ++
  failIf (fmt == 1 && decide (pay < 1024 ∨ 131072 < pay)) 0x0B (O.vdPayload.key n 0)
    (some (nat pay, if pay < 1024 then 1024 else 131072)) ++
  failIf (fmt == 1 && (pay % 8 != 0 || (t.vdifF n).den != 1)) 0x0B (O.vdPayload.key n 0) ++
  failIf ((t.stStaged n && ring == 0) || (!t.stStaged n && ring != 0)) 0x0B (O.stRingSize.key n 0) ++
  (if dest = 2 then
    above 0x0B (if fmt = 1 then O.vdPayload.key n 0 else O.stRecMax.key n 0) (nat dgram) (nat (t.plan O.ethMtu (t.plan O.stUdpEth n))) 1
    else []) ++
  failIf ((kind == 1 && t.plan O.cvEnable src == 0) ||
    (kind == 3 && (!t.runs (src % 4) (bits src 12 8) || !bit (t.plan O.teDetMask (src % 4)) (bits src 19 16)))) 0x05 (O.stSrc.key n 0) ++
  failIf (kind == 2 && t.plan O.ddcEnable src == 0) 0x06 (O.stSrc.key n 0) ++
  failIf (!live && ((t.srcRange n).2 == 0 || !unitOn)) 0x0B (O.stSrc.key n 0) ++
  failIf (t.stStaged n && ring != 0 && fmt != 2 && decide (ring < two)) 0x0A (O.stRingSize.key n 0) (some (nat two, nat ring)) ++
  failIf (dest == 0 && fmt != 2 && decide (t.plan O.stHostSize n < two)) 0x0A (O.stHostSize.key n 0)
    (some (nat two, nat (t.plan O.stHostSize n))) ++
  above 0x0F (O.stDrainUs.key n 0) (t.stLoad n * time) (nat behind) 1

/-- Members of a set: controller, namespace, first LBA, LBAs. -/
def State.nvMember (t : State) (d i : Nat) : Nat × Nat × Nat × Nat :=
  (t.nvCtrl d i, bits (t.plan O.nvMNs d i) 31 0, t.plan O.nvMStart d i, t.plan O.nvMCount d i)

/-- Drive sets that streams use: set and stream. -/
def State.nvUsed (t : State) : List (Nat × Nat) :=
  (t.stOn.filter (fun n => t.plan O.stDest n == 1)).map (fun n => (t.plan O.stNvSet n, n))

/-- Streams whose sets have a member on a controller. -/
def State.nvStreamsOn (t : State) (c : Nat) : Nat :=
  (t.nvUsed.filter (fun q => (List.range (t.plan O.nvMembers q.1)).any (fun i => t.nvCtrl q.1 i == c))).length

/-- Whether two extents of one namespace overlap. -/
def extentsMeet (a b : Nat × Nat × Nat × Nat) : Bool :=
  a.1 == b.1 && a.2.1 == b.2.1 && decide (a.2.2.1 < b.2.2.1 + b.2.2.2 ∧ b.2.2.1 < a.2.2.1 + a.2.2.2)

/-- Drive sets. -/
def State.admNvme (t : State) : List AdmFail :=
  t.nvUsed.flatMap (fun q =>
    let d := q.1
    let ms := List.range (t.plan O.nvMembers d)
    let lba := 2 ^ t.nvShift d 0
    failIf (ms.any (fun i => t.reg O.nvCtrlState (t.nvCtrl d i) != 2) || ms.any (fun i => t.nvShift d i != t.nvShift d 0) ||
      t.plan O.nvStripe d % lba != 0 ||
      ms.any (fun i => decide (t.reg O.nvCtrlQueues (t.nvCtrl d i) < t.nvStreamsOn (t.nvCtrl d i)))) 0x0B (O.stNvSet.key q.2 0) ++
    above 0x03 (O.nvSetRate.key d 0) (t.stLoad q.2) (f64 (t.plan O.nvSetRate d)) giga ++
    (t.nvUsed.filter (fun r => decide (q.2 < r.2))).flatMap (fun r =>
      if r.1 = d then clash true (O.stNvSet.key q.2 0) (O.stNvSet.key r.2 0)
      else ms.flatMap (fun i => (List.range (t.plan O.nvMembers r.1)).flatMap (fun j =>
        clash (extentsMeet (t.nvMember d i) (t.nvMember r.1 j)) (O.nvMStart.key d i) (O.nvMStart.key r.1 j)))))

/-- Links: endpoint, root port and Ethernet (Table 3.2). -/
def State.admLinks (t : State) : List AdmFail :=
  let dma := ((List.range 64).filter (fun c => t.plan O.dmaEnable c == 1)).map (fun c =>
    (O.dmaHostRate.key c 0, f64 (t.plan O.dmaHostRate c)))
  let toDest := fun d => (t.stOn.filter (fun n => t.plan O.stDest n == d))
  let obj := fun n => (O.stDest.key n 0, t.stLoad n)
  sumCheck 0x02 (dma ++ (toDest 0).map obj) (f64 (t.reg O.pcieHostCap)) giga ++
  sumCheck 0x03 ((toDest 1).map obj) (f64 (t.reg O.nvRootCap)) giga ++
  forUnits 2 (fun p => sumCheck 0x04 (((toDest 2).filter (fun n => t.plan O.stUdpEth n == p)).map (fun n => (O.stUdpEth.key n 0, t.stWire n)))
    (match t.plan O.ethRate p with | 0 => 0 | 1 => 1200000000 | _ => 3000000000) giga)

/-! ### Display heads (R389, R404, Table 17.3) -/

/-- Lane rate of a code in bit/s. -/
def laneRate (c : Nat) : Rat :=
  match c with
  | 1 => 1620000000
  | 2 => 2700000000
  | 3 => 5400000000
  | _ => 8100000000

/-- Display heads. -/
def State.admHead (t : State) (h : Nat) : List AdmFail :=
  let p := fun (r : Row) => t.plan r h
  let hs := [p O.dpHFp, p O.dpHSync, p O.dpHBp]
  let vs := [p O.dpVFp, p O.dpVSync, p O.dpVBp]
  let blank := vs.foldl (· + ·) 0
  let small := fun (l : List Nat) => l.any (fun x => decide (x < 1 ∨ 4095 < x))
  let timing := decide (p O.dpHActive < 64 ∨ 7680 < p O.dpHActive ∨ p O.dpVActive < 64 ∨ 4320 < p O.dpVActive) || small hs || small vs ||
    decide (8192 < p O.dpHActive + hs.foldl (· + ·) 0) || decide (8192 < p O.dpVActive + blank) || decide (blank < 3)
  let timingNums : Option (Rat × Rat) :=
    (([(p O.dpHActive, 64, 7680), (p O.dpVActive, 64, 4320)] ++ (hs ++ vs).map (fun x => (x, 1, 4095)) ++
      [(p O.dpHActive + hs.foldl (· + ·) 0, 0, 8192), (p O.dpVActive + blank, 0, 8192), (blank, 3, 2 ^ 16)]).find?
        (fun (x : Nat × Nat × Nat) => decide (x.1 < x.2.1 ∨ x.2.2 < x.1))).map
      (fun (x : Nat × Nat × Nat) => (nat x.1, if x.1 < x.2.1 then nat x.2.1 else nat x.2.2))
  let clasp := p O.dpVClasp
  let load := dpLoad t.active h
  let area := 4 * p O.dpL3MaxW * p O.dpL3MaxH
  failIf timing 0x0B (O.dpVActive.key h 0) timingNums ++
  failIf (decide (clasp < 1 ∨ blank ≤ clasp)) 0x0B (O.dpVClasp.key h 0) (some (nat clasp, if clasp < 1 then 1 else nat blank - 1)) ++
  above 0x0B (O.dpLaneRate.key h 0) (nat (p O.dpPclkKhz) * 24000) (nat (p O.dpLanes) * laneRate (p O.dpLaneRate) * 776 / 1000) giga ++
  failIf (p O.dpL0Plane == 1 && t.plan O.dnLayout == 0) 0x0B (O.dpL0Plane.key h 0) ++
  failIf (p O.dpL1Src == 1 && t.plan O.sgEnable h == 0) 0x0B (O.dpL1Src.key h 0) ++
  forUnits 8 (fun i =>
    let v := t.plan O.dpTrSrc h i
    let det := bits v 19 16
    if bit v 24 then
      failIf (!([1, 2, 3, 4, 5, 6].contains det)) 0x0B (O.dpTrSrc.key h i) ++
      failIf (!t.runs (v % 4) (bits v 12 8) || !bit (t.plan O.teDetMask (v % 4)) det) 0x05 (O.dpTrSrc.key h i)
    else []) ++
  above 0x0A (O.dpL3AreaSize.key h 0) (nat area) (nat (p O.dpL3AreaSize)) 1 ++
  above 0x0F (O.dpL3MaxW.key h 0) (load * 20 / 1000000) 196608 1

/-! ### Housekeeping and pulse generators (R420, R421, Table 18.6) -/

/-- Periods of the general timers in ns. -/
def State.gtNs (t : State) (i : Nat) : Rat := nat (t.plan O.gtPeriod i) / 65536

/-- Timer that starts a housekeeping slot. -/
def State.hkTimer (t : State) (n : Nat) : Option Nat :=
  let v := t.plan O.hkSlotStart n
  if 1 ≤ v ∧ v ≤ 8 then some (v - 1) else none

/-- Housekeeping slots. -/
def State.admHk (t : State) (n : Nat) : List AdmFail :=
  let start := t.plan O.hkSlotStart n
  failIf (start != 0 && t.plan O.hkSlotInput n == 31 && decide (19 < t.plan O.hkSlotSel n)) 0x0B (O.hkSlotSel.key n 0)
    (some (nat (t.plan O.hkSlotSel n), 19)) ++
  (match t.hkTimer n with
  | none => []
  | some g =>
    let p := t.gtNs g
    if t.plan O.gtPeriod g = 0 then failIf true 0x0B (O.hkSlotStart.key n 0)
    else
      let burst := total ((List.range 32).map (fun j => match t.hkTimer j with
        | some k => if t.plan O.gtPeriod k = 0 then 0 else nat (t.plan O.hkSlotReps j) * ((p / t.gtNs k).ceil : Rat)
        | none => 0))
      let need := 500 * (1 + burst + 15 * ((p / 1000000).ceil : Rat)) + nat (t.plan O.hkSlotDelay n) * 4
      above 0x0F (O.hkSlotReps.key n 0) need p 1)

/-- Pulse generators. -/
def State.admPg (t : State) (g : Nat) : List AdmFail :=
  let mode := t.plan O.pgMode g
  let w := t.plan O.pgWidth g
  let timer := t.plan O.pgTimer g
  let ball := t.plan O.pgBall g
  let msGate := (List.range 16).find? (fun n => t.plan O.msEnable n == 1 && t.plan O.msGateSel n == 8 &&
    (t.plan O.msGateKind n == 1 || t.plan O.msArm n == 3))
  let others := (List.range 16).filter (fun i => decide (g < i) && t.plan O.pgMode i != 0)
  if mode = 0 then [] else
    failIf (mode == 4 && t.plan O.gtPeriod timer == 0) 0x0B (O.pgTimer.key g 0) ++
    failIf (mode == 3 && decide (t.plan O.pgSpacing g < w + 64)) 0x0B (O.pgWidth.key g 0)
      (some (nat (w + 64), nat (t.plan O.pgSpacing g))) ++
    failIf (mode == 4 && decide (t.gtNs timer ≤ nat w / 64 / t.fC * giga)) 0x0B (O.pgWidth.key g 0)
      (some (nat w / 64 / t.fC * giga, t.gtNs timer)) ++
    (others.flatMap (fun i => clash ((ball == 1 || ball == 2) && t.plan O.pgBall i == ball) (O.pgBall.key g 0) (O.pgBall.key i 0))) ++
    (others.flatMap (fun i => clash (mode == 4 && t.plan O.pgMode i == 4 && t.plan O.pgTimer i == timer) (O.pgTimer.key g 0)
      (O.pgTimer.key i 0))) ++
    (if mode = 4 then
      (match (List.range 32).find? (fun n => t.hkTimer n == some timer) with
      | some n => clash true (O.hkSlotStart.key n 0) (O.pgTimer.key g 0)
      | none => []) else []) ++
    clash (ball == 1 && t.plan O.syncPinEn == 1) (O.syncPinEn.key 0 0) (O.pgBall.key g 0) ++
    (match msGate with | some n => clash (ball == 2) (O.msGateSel.key n 0) (O.pgBall.key g 0) | none => []) ++
    (if 8 ≤ g ∧ ball = 0 then
      (match t.trginUsed (g - 8) with | some u => clash true (O.tuSel.key u 0) (O.pgBall.key g 0) | none => []) else [])

/-! ### DRAM ranges and bandwidth (R68, R73, R74, R338) -/

/-- A channel holds a spare, or a migration. -/
def State.drHolds (t : State) (ch : Nat) : Bool :=
  (List.range 3).any (fun p => let v := t.reg O.drPosState ch p; v == DP.spare || v == DP.from_ || v == DP.to_)

/-- Whether two ranges share a byte. -/
def Range.meets (a b : Range) : Bool := decide (a.base < b.base + b.size ∧ b.base < a.base + a.size)

/-- Every pair of ranges that overlap. -/
def rangeClashes : List Range → List AdmFail
  | [] => []
  | r :: rs => (rs.filter r.meets).flatMap (fun q => clash true r.obj q.obj) ++ rangeClashes rs

/-- Ranges and DRAM loads. -/
def State.admDram (t : State) : List AdmFail :=
  let cap := t.reg O.drCapacity
  let items := t.loads.map (fun l => (l.obj, l.rate))
  let quarter := cap / 4
  rangeClashes t.ranges ++
  t.ranges.flatMap (fun r => above 0x0A r.obj (nat (r.base + r.size)) (nat cap) 1) ++
  (if t.plan O.drAddrOrder = 3 then
    forUnits 4 (fun ch => sumCheck 0x01
      ((t.loads.filter (fun l => decide (l.at_.1 < (ch + 1) * quarter ∧ ch * quarter < l.at_.1 + l.at_.2))).map (fun l => (l.obj, l.rate)))
      (if t.drHolds ch then 38 * giga else 40 * giga) giga)
  else sumCheck 0x01 items (if (List.range 4).any t.drHolds then 152 * giga else 160 * giga) giga)

/-! ### Domains and power (R75, R77, R444, R452) -/

/-- A port carries full-rate work (Table 20.1). -/
def State.ethWork (t : State) (p : Nat) : Bool :=
  t.plan O.ethRate p != 0 && ((t.plan O.ptpRole p != 0 && t.plan O.ptpMode == 0) || t.plan O.ptpMode == 1 ||
    t.stOn.any (fun n => t.plan O.stDest n == 2 && t.plan O.stUdpEth n == p) ||
    t.plan O.pllcSrc == 2 + p || t.plan O.synceEsmc p == 1)

/-- A unit of PD01 to PD33, PD35, PD37 or PD38 is enabled (Table 20.1); PD05 and those outside are not asked here. -/
def State.unitUses (t : State) (d : Nat) : Bool :=
  let trips := fun (i : Nat) => (List.range 16).any (fun g => t.plan O.pgMode g != 0 && bit (t.plan O.pgTripMask g) i)
  if 1 ≤ d ∧ d ≤ 4 then t.plan O.cvEnable (d - 1) == 1 || trips (8 + (d - 1))
  else if 6 ≤ d ∧ d ≤ 9 then (List.range 8).any (fun i => t.plan O.ddcEnable (8 * (d - 6) + i) == 1)
  else if 10 ≤ d ∧ d ≤ 13 then t.plan O.teEnable (d - 10) == 1
  else if 14 ≤ d ∧ d ≤ 29 then t.awPositions.any (fun k => k / 16 == d - 14)
  else if d = 30 then t.plan O.dnEnable == 1 || t.plan O.sgEnable 0 == 1 || t.plan O.sgEnable 1 == 1
  else if d = 31 then (List.range 16).any (fun i => t.plan O.tuEnable i == 1 || t.plan O.aqEnable i == 1 || t.plan O.pgMode i != 0)
  else if d = 32 then (List.range 8).any (fun i => t.plan O.ticEnable i == 1 || trips i) ||
    (List.range 16).any (fun n => t.plan O.msEnable n == 1)
  else if d = 33 then t.plan O.dpEnable 0 == 1 || t.plan O.dpEnable 1 == 1
  else if d = 35 then t.stOn.any (fun n => t.plan O.stDest n == 1)
  else if d = 37 ∨ d = 38 then !t.ranges.isEmpty || t.loads.any (fun l => l.rate != 0)
  else false

/-- A domain is used by the plan (R444). -/
def State.uses (t : State) (d : Nat) : Bool :=
  if d = 0 then true
  else if d = 5 then (List.range 39).any (fun i => i != 5 && t.unitUses i)
  else if d = 34 then t.hidden H.linkUp == 1
  else if d = 36 then t.ethWork 0 || t.ethWork 1
  else t.unitUses d

/-- Idle power of a domain in W (Table 3.5); the DRAM controller's is on PD37. -/
def idlePower (d : Nat) : Rat :=
  if d = 0 then 11 / 10
  else if d ≤ 4 then 1 / 2
  else if d = 5 then 6 / 10
  else if d ≤ 9 then 1 / 10
  else if d ≤ 13 then 2 / 10
  else if d ≤ 29 then 5 / 100
  else if d = 30 ∨ d = 31 ∨ d = 33 then 2 / 10
  else if d = 32 ∨ d = 36 then 4 / 10
  else if d = 34 then 7 / 10
  else if d = 35 then 3 / 10
  else if d = 37 then 14 / 10
  else 0

/-- A domain counts in the estimate (R77). -/
def State.counts (t : State) (d : Nat) : Bool := t.uses d || (d == 36 && (t.plan O.ethRate 0 != 0 || t.plan O.ethRate 1 != 0))

/-- A group's utilisation, held to 0 to 1 (R77). -/
def util (load full : Rat) : Rat := max 0 (min 1 (load / full))

/-- Load power of the groups PD01 to PD33 at fROOT = 12.000 GHz (Table 3.5). -/
def State.powerRf (t : State) : Rat :=
  let on := fun (n : Nat) (r : Row) => nat ((List.range n).filter (fun i => t.plan r i == 1)).length
  96 / 10 * util (on 4 O.cvEnable) 4 + (if t.uses 5 then 12 / 10 else 0) + 32 / 10 * util (on 32 O.ddcEnable) 32 +
    6 * util (total (t.engsOn.map (fun e => (planLoad t.active t.froot e).1))) (96 * giga) +
    44 / 10 * util (total (t.awPositions.map (fun k => nat (t.plan O.awBudget k) * t.awRate k))) (256 * 95 / 100 * t.fA) +
    (if t.plan O.dnEnable = 1 then 8 / 10 * util (t.dnSpectra / nat t.dnG) t.dnCapacity else 0) + util (on 16 O.aqEnable) 16 +
    18 / 10 * util (total (((List.range 8).filter (fun n => t.plan O.ticEnable n == 1)).map (fun n => f64 (t.plan O.ticDeclRate n)))) giga +
    8 / 10 * util (total (((List.range 2).filter (fun h => t.plan O.dpEnable h == 1)).map (fun h => nat (t.plan O.dpPclkKhz h)))) 1200000

/-- The estimate of R77 in W: a group that is not used contributes nothing. -/
def State.powerEst (t : State) : Rat :=
  let idle := total (((List.range 39).filter t.counts).map idlePower)
  let dest := fun d f => total ((t.stOn.filter (fun n => t.plan O.stDest n == d)).map f)
  let host := dest 0 t.stLoad + total (((List.range 64).filter (fun c => t.plan O.dmaEnable c == 1)).map (fun c => f64 (t.plan O.dmaHostRate c)))
  idle + t.powerRf * t.scale + (if t.counts 34 then 18 / 10 * util host (54 * giga) else 0) +
    8 / 10 * util (dest 1 t.stLoad) (27 * giga) + (if t.counts 36 then 5 / 10 * util (dest 2 t.stWire) (6 * giga) else 0) +
    36 / 10 * util (total (t.loads.map (·.rate))) (160 * giga)

/-- The estimate plus the idle power of the domains that the plan leaves unused (R452). -/
def State.powerP0 (t : State) : Rat := t.powerEst + total (((List.range 39).filter (fun d => !t.counts d)).map idlePower)

/-- Domains and power: the safe state refuses COMMIT and ARM (R437); `p0` says that the latency floor is P0. -/
def State.admPower (t : State) (cmd : Nat) (p0 : Bool) : List AdmFail :=
  let off := t.plan O.pwrOffMask
  failIf ((List.range 39).any (fun d => bit off d && t.uses d)) 0x11 (O.pwrOffMask.key 0 0) ++
  failIf (cmd != 1 && t.reg O.frSafe == 1) 0x11 (O.frSafe.key 0 0) ++
  above 0x0E (O.powerCap.key 0 0) (if p0 then t.powerP0 else t.powerEst) (f32 (t.reg O.powerCap)) 1

/-! ### Transfers (R121) -/

/-- A segmented write of an object was open when the plan command was issued. -/
def State.writing (t : State) (r : Row) (i : Nat) : Bool := t.issued.contains (r.key i 0)

/-- Units that a plan enables whose image was being loaded when it was issued. -/
def State.admLoads (t : State) : List AdmFail :=
  let on := fun (n : Nat) (en img : Row) => forUnits n (fun i => clash (t.plan en i == 1 && t.writing img i) (en.key i 0) (img.key i 0))
  on 32 O.ddcEnable O.firCoef ++ on 4 O.teEnable O.teWindowTable ++ on 256 O.awEnable O.awImage ++
  forUnits 16 (fun u => clash (t.plan O.tuEnable u == 1 && t.plan O.tuSrc u == 3 && t.writing O.tuMaskTable (t.plan O.tuMask u))
    (O.tuEnable.key u 0) (O.tuMaskTable.key (t.plan O.tuMask u) 0))

/-! ### The judgement (R76) -/

/-- Reason codes in check order (Table 3.4). -/
def admOrder : List Nat := [0x0B, 0x0C, 0x0D, 0x11, 0x01, 0x02, 0x03, 0x04, 0x05, 0x06, 0x07, 0x08, 0x09, 0x0A, 0x0F, 0x0E, 0x10]

/-- Every failure of the plan that `t` holds as active; `s` holds the active plan itself, `tick` is the commit tick in 2^-16 ns. -/
def State.admFails (t s : State) (cmd tick : Nat) (p0 : Bool) : List AdmFail :=
  t.admCv ++ t.admSlice ++ t.engsOn.flatMap t.admEngine ++ t.admTrig ++ t.admCtx ++ t.admDensity ++
  t.windowsOn.flatMap (fun q => t.admWindow q.1 q.2) ++ t.awPositions.flatMap t.admPosition ++ t.admTic ++ t.admMs ++
  t.admTime s tick ++ t.stOn.flatMap t.admStream ++ t.admNvme ++ t.admLinks ++
  ((List.range 2).filter (fun h => t.plan O.dpEnable h == 1)).flatMap t.admHead ++ forUnits 32 t.admHk ++ forUnits 16 t.admPg ++
  t.admDram ++ t.admPower cmd p0 ++ (if cmd = 1 then [] else t.admLoads)

/-- The first failure in the order of Table 3.4, the lowest object first. -/
def admFirst (l : List AdmFail) : Option AdmFail :=
  match admOrder.find? (fun c => l.any (fun f => f.code == c)) with
  | none => none
  | some c =>
    match l.filter (fun f => f.code == c) with
    | [] => none
    | f :: fs => some (fs.foldl (fun a b => if b.obj < a.obj then b else a) f)

/-- `ADM_FAIL_MASK`. -/
def admMask (l : List AdmFail) : Nat := l.foldl (fun m f => m ||| 2 ^ f.code) 0

end Sys2Proof.Machine
end

