-- ==== Sys2Proof/Machine/Blocks.lean ====
section
/-! DEFINITION. Blocks, group resets and spectra, and what they restart in the units behind them (spec R94, R96, R115, R116,
R134, R158, R166, R370). -/

namespace Sys2Proof.Machine

/-- Records leave on the detector bus, which the spectrogram generators and the benches hear too. -/
def State.busOut (s : State) (l : List DetOut) : State := l.foldl (fun s r => ((s.detOut r).sgRecord r).benchHears r) s

/-- The framing of a source ends at an input index: records of the interval in progress, density, spectrograms, trigger units (R134, R158, R180). -/
def State.framingEnd (s : State) (e src i : Nat) : State :=
  let r := s.endSrc e src
  (((r.2.busOut r.1).dnRestart e src).sgRestart e src).tuTransform e src i

/-- An engine stops: its records leave, and the groups and lines of its sources end (R180, R187). -/
def State.engHalt (s : State) (e : Nat) : State :=
  let srcs := s.engSources e
  let r := s.engStop e
  srcs.foldl (fun s src => (s.dnRestart e src).sgRestart e src) (r.2.busOut r.1)

/-- A transform restart (R134): new framing begins at a source sample. -/
def State.framingRestart (s : State) (e src next cause : Nat) : State := (s.framingEnd e src (s.srcIndex e src next)).beginSrc e src next cause

/-- A decimator reset with what it does behind the slice (R113, R134, R158, R166); of a slice that does not run, a group reset
only counts (R114, R115). -/
def State.sliceRestart (s : State) (m n cause : Nat) : State :=
  if s.reg O.ddcState m = 0 ∧ cause = 1 then s.sliceCount m n cause else
  let s := s.ctxCutAll 1 m (s.slice m).q
  let s := ((s.sliceReset m n cause).tuSliceReset m n).ctxResumeAll 1 m 0
  (List.range 4).foldl (fun s e =>
    if s.reg O.teState e = 1 ∧ s.plan O.teSrcKind e = 1 ∧ bit (s.plan O.teSlices e) m then s.framingRestart e m 0 1 else s) s

/-- Slices that take an input. -/
def State.slicesOn (s : State) (ch : Nat) : List Nat :=
  (List.range 32).filter (fun m => s.reg O.ddcState m != 0 && s.plan O.ddcInput m == ch)

/-- A block of a channel carries GAP, its first sample at an index (R116, R134, R158, R166). -/
def State.chanGap (s : State) (ch n : Nat) : State :=
  let s := (s.ctxCutAll 0 ch n).tuGap ch n
  let s := (s.ctxResumeAll 0 ch n).vdifRestart 1 ch (s.sampleTime ch n)
  let s := if s.reg O.teState ch = 1 ∧ s.plan O.teSrcKind ch = 0 then s.framingRestart ch ch n 0 else s
  (s.slicesOn ch).foldl (fun s m => s.sliceRestart m n 4) s

/-- A block of a channel carries TSTEP: the VDIF streams of what it feeds restart from its time (R371). -/
def State.chanStep (s : State) (ch : Nat) : State :=
  let t := s.blockStamp ch ((s.cv ch).next / 65536)
  (s.slicesOn ch).foldl (fun s m => s.vdifRestart 2 m t) (s.vdifRestart 1 ch t)

/-- The block in progress leaves the corrector (R83, R84, R94). -/
def State.blockOut (s : State) (ch : Nat) (corrected : List Int) : State :=
  let r := corrected.map roundSample
  let ovr := r.any (·.2)
  let c := s.cv ch
  let flags := s.blockFlags ch ovr
  let h := leBytes (s.blockHeader ch flags) 32
  let item : Item := { bytes := h ++ sampleBytes c.fmt (r.map (·.1)), index := c.next, t96 := T96.ofTicks (s.blockStamp ch (c.next / 65536)) }
  let b := c.next / 65536
  let c' := { c with blocks := Map.ins b (flags + 65536 * s.reg O.calSeq ch) (Map.del c.blocks b),
                     next := c.next + 65536, marks := Map.del c.marks b, scIn := 31, scOut := 31, slot := 0, parity := false,
                     sent := c.gen, gen := s.reg O.planGen, fmt := s.plan O.cvFormat ch }
  let bad := flags &&& (BF.suspect ||| BF.clkUnqual ||| BF.timeUnset) != 0
  let time := fun j => s.sampleTime ch (c.next + j)
  let s := (((s.setCv ch c').emit (.record 0 h)).streamItem 1 ch item).vdifItem 1 ch 32 2 bad time item
  if ovr then (s.bumpSat O.ovrBlocks ch).raiseRare (cvEvent ch 6) c.next else s

/-- A channel that step 2 of the fault ladder takes out of service stops (R437). -/
def State.convLeave (s : State) (ch : Nat) : State :=
  let s := if s.sampling ch then (s.ctxHalt 0 ch (s.cv ch).next).convStop ch else s
  s.setCv ch { s.cv ch with isolated := true, leaving := false }

/-- An engine that it takes out of service stops. -/
def State.engLeave (s : State) (e : Nat) : State :=
  let s := if s.reg O.teState e = 1 then s.engHalt e else s
  s.setEng e { s.eng e with isolated := true, leaving := false }

/-- SAMPLE_BLOCK (R94): a block completes with its corrected samples. -/
def execSampleBlock (ch : Fin 4) (corrected : List Int) (s : State) : Result :=
  let n := ch.val
  if s.sampling n then
    let c := s.cv n
    let s := if c.now &&& BF.gap = 0 then s else s.chanGap n c.next
    let s := if c.now &&& BF.tstep = 0 then s else s.chanStep n
    let s := s.blockOut n corrected
    .next (if (s.cv n).leaving then s.convLeave n else s)
  else .next s

/-- SPECTRUM_RECORD (R130, R143): an engine completes a spectrum of a source; the span's codes of a full-rate input come with it. -/
def execSpectrumRecord (e : Fin 4) (src : Fin 32) (codes : List Int) (s : State) : Result :=
  let n := e.val
  let m := src.val
  if s.reg O.teState n = 1 ∧ planTakes s.view n m then
    match s.spanSamples n m codes with
    | none => .next s
    | some x =>
      let bins := s.scaledBins n m x
      let a := (s.engSrc n m).next
      let last := a + s.teL n - 1
      let flags := if s.plan O.teSrcKind n = 0 then (s.spanFlags n a last).1 else (s.sliceSpan m a last).1
      let r := s.spectrum n m bins
      let t := (r.2.busOut r.1).dnSpectrum n m (s.srcIndex n m a) (s.srcIndex n m last) flags bins
      .next (if (t.eng n).leaving then t.engLeave n else t)
  else .next s

end Sys2Proof.Machine
end

