-- ==== Sys2Proof/Machine/Restart.lean ====
section
/-! DEFINITION. A restart of PLL-A (spec 13_clocks.md, Table 13.5, R256), and the figures that the active plan gives. -/

namespace Sys2Proof.Machine

/-! ### Figures of the active plan -/

/-- `DR_PORT_RES`, `DR_LOAD`, `TU_LAT_MAX`, `AQ_HIST_NEED`, `DN_GROUP`, `DN_RATE`, `SG_LINE_RATE`, `ST_RATE`: what admission worked out. -/
def State.planFigures (s : State) : State :=
  let t := s.under s.active
  let s := (List.range 12).foldl (fun s p => s.setReg O.drPortRes (toF64 (t.portRes p)) p) s
  let s := s.setReg O.drLoad (toF64 (total (t.loads.map (·.rate))))
  let s := (List.range 16).foldl (fun s u =>
    s.setReg O.tuLatMax (if t.plan O.tuEnable u = 1 then toF64 (t.latMax u) else 0) u) s
  let s := (List.range 16).foldl (fun s c =>
    s.setReg O.aqHistNeed (if t.plan O.aqEnable c = 1 then min (t.histNeed c) (2 ^ 32 - 1) else 0) c) s
  let on := t.plan O.dnEnable == 1
  let s := (s.setReg O.dnGroup (if on then t.dnG else 1)).setReg O.dnRate (if on then toF64 (t.dnSpectra / nat t.dnG) else 0)
  let s := (List.range 2).foldl (fun s g => s.setReg O.sgLineRate (if t.plan O.sgEnable g = 1 then toF64 (t.sgRate g) else 0) g) s
  (List.range 32).foldl (fun s n => s.setReg O.stRate (if t.plan O.stEnable n = 1 then toF64 (t.stLoad n) else 0) n) s

/-! ### Stopping and starting (R295) -/

/-- Step 1 of Table 13.5: the data paths stop as at a gap, and gates in progress close early (R277). -/
def State.pathsStop (s : State) : State :=
  let s := (List.range 4).foldl (fun s ch =>
    if s.sampling ch then (s.ctxHalt 0 ch (s.cv ch).next).convStop ch else s) s
  let s := (List.range 32).foldl (fun s m =>
    if s.reg O.ddcState m = 0 then s else (s.ctxHalt 1 m (s.slice m).q).frameOut m true) s
  (List.range 16).foldl (fun s sl => s.gateShort sl) s

/-- A restart of PLL-A begins; it abandons a fitting (R465). -/
def State.pllaRestart (s : State) : State := (s.pathsStop.pllaStop false).fitFail 3 0

/-- A channel samples again in the new epoch; a rotation starts whatever the temperature where fROOT has changed (R100).
A channel that does not sample owes none when it is enabled later (DESIGN CHOICE, log entry 170). -/
def State.convRestart (s : State) (ch : Nat) (moved : Bool) : State :=
  if s.sampling ch then
    let s := s.convStart ch
    if moved ∧ s.plan O.calMode ch ≠ 0 ∧ (s.idle ch).isSome then s.setCv ch { s.cv ch with due := 4 } else s
  else s

/-- The root frequency is to be another (R256): tables are rescaled, and every channel that runs restarts and rotates. It happens at
the commit tick; a frequency that a release brings without a commit before it is taken then. -/
def State.ticFroot (s : State) (hz : Nat) : State :=
  let old := s.hidden H.loupeHz
  let s := s.setHidden H.loupeHz hz
  if old = 0 ∨ old = hz then s else
    (List.range 8).foldl (fun s n =>
      (if s.reg O.ticState n = 1 then s.chanBegin n else s).loupeMoves n (f64 old / f64 hz)) s

/-- A counter channel goes on under a new epoch: its queue drains from there, and where it runs it restarts (R86, R256). -/
def State.ticRestart (s : State) (n : Nat) : State :=
  let s := s.setChan n { s.chan n with drainFrom := s.idx, drained := 0 }
  if s.reg O.ticState n = 1 then s.chanBegin n else s

/-- Step 5 of Table 13.5: the units of the plan start under the new epoch. -/
def State.pathsStart (s : State) (old : Rat) : State :=
  let s := { s with slices := s.slices.map (fun (x : Nat × Slice) => (x.1, x.2.epoch)),
                    engSrcs := s.engSrcs.map (fun (x : Nat × EngSrc) => (x.1, { x.2 with nr := 0, ng := 0 })),
                    trigs := s.trigs.map (fun (x : Nat × Trig) => (x.1, { x.2 with events := [], states := [] })) }
  let s := (List.range 4).foldl (fun s ch => s.convRestart ch (decide (old ≠ s.froot))) s
  let s := (List.range 8).foldl State.ticRestart (s.ticFroot (s.reg O.frootActual))
  let s := (List.range 32).foldl (fun s m => if s.reg O.ddcState m = 0 then s else
    s.setReg O.outRate (toF64 (s.froot / ((2 ^ s.plan O.ddcK m : Nat) : Rat))) m) s
  let s := (List.range 4).foldl (fun s e =>
    let s := s.setTeCapacity e
    if s.reg O.teState e = 1 then s.engFigures e else s) s
  s.planFigures.taRestart.streamEpoch

/-- PLLA_LOCK (R292, R293, R295): `PLLA_LOCK_WAIT` has elapsed; a start-up calibration follows it (Table 22.3). -/
def execPllaLock (s : State) : Result :=
  if s.reg O.pllaState = 1 then
    let old := f64 (s.hidden H.frootOld)
    let s := s.pllaRelease.pathsStart old
    let s := if 6 ≤ s.hidden H.boot ∧ s.reg O.drState = 0 then s.setReg O.drState 1 else s
    .next (if s.hidden H.boot = 6 ∧ s.hidden H.calNeed ≠ 0 then s.setReg O.readyState 2 else s)
  else .next s

/-- `PLLA_RELOCK` (R295). -/
def actPllaRelock (v : Nat) : Act := onlyOne v <| reaching 5 fun s =>
  if s.reg O.pllaState = 1 then .error Abort.busy else .ok s.pllaRestart

/-- PLLA_RELOCK (R295). -/
def execPllaRelock (m : Master) (value : Nat) (s : State) : Result := s.command m O.pllaRelock value (actPllaRelock value)

end Sys2Proof.Machine
end

