-- ==== Sys2Proof/Machine/Ownership.lean ====
section
/-! DEFINITION. Ownership, sessions' ends and the host master's connection (spec 02_dictionary.md, R33, R55 to R58, R67). -/

namespace Sys2Proof.Machine

/-- `PLAN_STATE` (Table 3.6). -/
def State.setPlanState (s : State) : State :=
  s.setReg O.planState
    (if s.adm.isSome ∨ s.hidden H.planWait ≠ 0 then 1 else if s.awaiting.isSome then 3 else if s.armed.isSome then 2 else 0)

/-- The staged plan is reloaded from the active plan, and entries still staged are freed (R60, R323). -/
def State.reloadStaged (s : State) : State := { s.taFreeStaged with staged := s.active }

/-! ### Lease and window -/

/-- Milliseconds on the time counter. -/
def msTc (n : Nat) : Nat := n * (1000000 * 2 ^ 64)

/-- The lease starts at `LEASE_TIME`. -/
def State.leaseStart (s : State) : State := s.setHidden H.leaseEnd (s.up + msTc (s.reg O.leaseTime))

/-- `LEASE_LEFT`: whole milliseconds. -/
def State.leaseLeft (s : State) : Nat :=
  if s.reg O.ownerId = 0 then 0 else (s.hidden H.leaseEnd - s.up) / (1000000 * 2 ^ 64)

/-- A master takes ownership. -/
def State.takeOwner (s : State) (id : Nat) : State :=
  ((((s.setReg O.ownerId id).setReg O.ownerState 1).setReg O.successorId 0).setReg O.ownerSince s.now).leaseStart

/-- A master's open transfers and mailbox command that need ownership end with OWN_NOT_OWNER (R44, R58). -/
def State.dropTransfers (s : State) (id : Nat) : State :=
  let gone := s.xfers.filter (fun x => x.write && x.master == id)
  let s := { s with xfers := s.xfers.filter (fun x => !(x.write && x.master == id)),
                    ends := s.ends ++ gone.map (fun (x : Xfer) => (x.master, x.key, true, Abort.notOwner)) }
  match s.mbx with
  | some r => if id = 1 ∧ r.needsOwner then { s with mbx := some { r with abort := Abort.notOwner } } else s
  | none => s

/-- A running admission is abandoned (R67); so is a PLAN_CMD of any value that waits for a wake (DESIGN CHOICE, log entry 152). -/
def State.dropAdmission (s : State) : State :=
  if s.adm.isSome ∨ s.hidden H.planWait ≠ 0 then
    ({ s.setHidden H.planWait 0 with adm := none }.raise 0x021 Abort.notOwner).setPlanState
  else s

/-- Ownership ends by expiry, disconnect or release (R58). The entries still staged are freed though a COMMIT of them awaits its
tick (DESIGN CHOICE, log entry 136). -/
def State.endOwner (s : State) : State :=
  let s := s.dropTransfers (s.reg O.ownerId)
  let s := ((s.setReg O.ownerId 0).setReg O.ownerState 0).setReg O.successorId 0
  s.reloadStaged.dropAdmission

/-- The pending handover lapses. -/
def State.lapse (s : State) (cause : Nat) : State :=
  let id := s.reg O.successorId
  ((s.setReg O.ownerState 1).setReg O.successorId 0).raise 0x013 (id + 256 * cause)

/-! ### The election (R57) -/

/-- Whether a claim beats another: larger priority, then lower master ID. -/
def claimBeats (p id q jd : Nat) : Bool := decide (q < p ∨ (p = q ∧ id < jd))

/-- A rival claim of the same fP cycle that beats a claim. -/
def State.rivalBeats (s : State) (m : Master) (prio : Nat) (r : Master × Nat) : Bool :=
  s.connected r.1 && claimBeats r.2 r.1.id prio m.id

/-- CLAIM, with the other claims of its fP cycle; a tie is lost only against a claim that won at this moment. -/
def actClaim (m : Master) (prio : Nat) (rivals : List (Master × Nat)) : Act := fun s =>
  let o := s.reg O.ownerId
  if o = m.id then .ok s.leaseStart
  else if o = 0 then
    if rivals.any (s.rivalBeats m prio) then .error Abort.lostTie
    else .ok ((s.takeOwner m.id).raise 0x010 m.id)
  else if s.reg O.ownerSince = s.now ∧ rivals.any (fun r => r.1.id == o && s.rivalBeats m prio r) then .error Abort.lostTie
  else .error Abort.held

/-- RENEW. -/
def actRenew (m : Master) : Act := fun s => if s.owns m then .ok s.leaseStart else .error Abort.notOwner

/-- The master of an ID. -/
def masterOf (id : Nat) : Option Master :=
  if id = 0x01 then some .host
  else if h : id - 0x10 < 8 then (if 0x10 ≤ id then some (.eth ⟨id - 0x10, h⟩) else none)
  else if id = 0x20 then some .can
  else none

/-- Whether an ID names a connected master. -/
def State.idConnected (s : State) (id : Nat) : Bool := ((masterOf id).map s.connected).getD false

/-- HANDOVER. -/
def actHandover (m : Master) (successor : Nat) : Act := fun s =>
  if !s.owns m then .error Abort.notOwner
  else if successor = 0 then .ok (s.endOwner.raise 0x014 m.id)
  else if successor = m.id ∨ !s.idConnected successor then .error Abort.noSuccessor
  else .ok (((s.setReg O.ownerState 2).setReg O.successorId successor).setHidden H.windowEnd (s.up + secondTc))

/-- ACCEPT: the staged plan passes to the successor. -/
def actAccept (m : Master) : Act := fun s =>
  if s.reg O.ownerState = 2 ∧ s.reg O.successorId = m.id then
    let old := s.reg O.ownerId
    .ok (((s.dropTransfers old).takeOwner m.id).raise 0x012 (m.id + 256 * old))
  else .error Abort.noHandover

/-- PCIE_CLAIM (R57). -/
def execPcieClaim (priority : Nat) (rivals : List (Master × Nat)) (s : State) : Result :=
  s.command .host O.pcieClaim priority (actClaim .host priority rivals)

/-- PCIE_RENEW (R57). -/
def execPcieRenew (value : Nat) (s : State) : Result := s.command .host O.pcieRenew value (actRenew .host)

/-- PCIE_HANDOVER (R57). -/
def execPcieHandover (successor : Nat) (s : State) : Result :=
  s.command .host O.pcieHandover successor (actHandover .host successor)

/-- PCIE_ACCEPT (R57). -/
def execPcieAccept (value : Nat) (s : State) : Result := s.command .host O.pcieAccept value (actAccept .host)

/-- The lease runs out (R57, R58). -/
def State.leaseOut (s : State) : State :=
  let o := s.reg O.ownerId
  if o = 0 then s else s.endOwner.raise 0x011 (1 + 256 * o)

/-- The acceptance window runs out (R57). -/
def State.windowOut (s : State) : State := if s.reg O.ownerState = 2 then s.lapse 1 else s

/-- The timeouts of the election that have fallen due: applied before any request (R58; log entry 137). -/
def State.timeouts (s : State) : State :=
  let s := if s.hidden H.leaseEnd ≤ s.up then s.leaseOut else s
  if s.hidden H.windowEnd ≤ s.up then s.windowOut else s

/-- LEASE_EXPIRED (R57, R58). -/
def execLeaseExpired (s : State) : Result := .next s.leaseOut

/-- HANDOVER_WINDOW_EXPIRED (R57). -/
def execHandoverWindowExpired (s : State) : Result := .next s.windowOut

/-! ### Disconnections (R33, R50) -/

/-- The RW instances of a master return to their defaults. -/
def State.dropInstances (s : State) (id : Nat) : State :=
  { s with regs := s.regs.filter (fun e => e.1 / 2 ^ 24 != id) }

/-- What the election makes of a master that disconnects. -/
def State.masterGone (s : State) (id : Nat) : State :=
  if s.reg O.ownerId = id then s.endOwner.raise 0x011 (2 + 256 * id)
  else if s.reg O.ownerState = 2 ∧ s.reg O.successorId = id then s.lapse 2
  else s

/-- A session of ADP or CAN FD closes: its queue is lost, its transfers are discarded (R33, R50, R431). -/
def State.closeSession (s : State) (n : Nat) : State :=
  if (Map.get s.sess {} n).isOpen then
    let id := if n = 8 then 0x20 else 0x10 + n
    let s := { s with sess := Map.put s.sess {} n {}, xfers := s.xfers.filter (fun x => x.master != id),
                      ends := s.ends.filter (fun x => x.1 != id),
                      can := if n = 8 then none else s.can }
    let s := s.setReg O.sessOpen (setBit (s.reg O.sessOpen) n false)
    (s.dropInstances id).masterGone id
  else s

namespace H
/-- a vector's moderation interval runs (R430) -/
def modOn : Nat := 512
/-- a message waits for its end -/
def modPend : Nat := 513
/-- a vector of the MSI-X table is not masked (R429, R382) -/
def unmasked : Nat := 514
/-- its bit of the Pending Bit Array -/
def pba : Nat := 515
end H

/-- The MSI-X table, its pending bits and messages that wait go with the endpoint's connection. -/
def State.msixReset (s : State) : State :=
  { s with hid := s.hid.filter (fun e => decide (e.1 / 2 ^ 20 < H.modOn ∨ H.pba < e.1 / 2 ^ 20)) }

/-- The host master disconnects (R33, R382): its mailbox command reports no result; `MBX_STATUS` reads 0, `MBX_ABORT` and
`MBX_RESULT_LEN` keep their values (DESIGN CHOICE, log entry 138). -/
def State.hostGone (s : State) : State :=
  if s.hidden H.hostUp = 1 then
    let s := { s.setHidden H.hostUp 0 with xfers := s.xfers.filter (fun x => x.master != 1),
                                               ends := s.ends.filter (fun x => x.1 != 1), mbx := none, mbxData := [] }
    let s := ((s.setReg O.mbxStatus 0).dropInstances 1).masterGone 1
    (s.msixReset.dmaAbort 3 State.dmaOnHost).streamsHold
  else s

/-- PCIE_HOST_DISCONNECT (R33). -/
def execPcieHostDisconnect (s : State) : Result := .next s.hostGone

/-- PCIE_HOST_CONNECT (R55): a new host session opens. -/
def execPcieHostConnect (s : State) : Result :=
  .next ((s.setHidden H.linkUp 1).setHidden H.hostUp 1).streamsBack

end Sys2Proof.Machine
end

