-- ==== Sys2Proof/Machine/AdpWire.lean ====
section
/-! DEFINITION. ADP on the wire (spec 02_dictionary.md, R45 to R47, R53, R54): headers, tags, CAN FD fragments, and what the
device sends in a session. -/

namespace Sys2Proof.Machine

/-- The header of Table 2.5. -/
def adpHeader (type flags session key len seq txn : Nat) : List Byte :=
  beBytes 1 1 ++ beBytes type 1 ++ beBytes flags 2 ++ beBytes session 1 ++ beBytes key 1 ++ beBytes len 2 ++
    beBytes (seq % 2 ^ 32) 4 ++ beBytes txn 4

/-- The contents of a key slot. -/
def State.adpKeyOf (s : State) (k : Nat) : List Byte := s.dom O.adpKey 0 k (List.replicate 32 0#8)

/-- A key slot is enabled (R47). -/
def State.keyOn (s : State) (k : Nat) : Bool := decide (k < 8) && s.adpKeyOf k != List.replicate 32 0#8

/-- The authentication tag (R47). -/
def State.adpTag (s : State) (k nonce : Nat) (header payload : List Byte) : List Byte :=
  hmac (s.adpKeyOf k) (beBytes nonce 8 ++ header ++ payload)

/-- FD data lengths above 8. -/
def fdLengths : List Nat := [12, 16, 20, 24, 32, 48, 64]

/-- The smallest FD length that holds `n` bytes. -/
def fdLength (n : Nat) : Nat := if n ≤ 8 then n else (fdLengths.find? (n ≤ ·)).getD 64

/-- The frames of a message on CAN FD (R54): `fuel` bounds their number, `n` counts them. -/
def canFrames : Nat → Nat → List Byte → List (List Byte)
  | 0, _, _ => []
  | fuel + 1, n, m =>
    let frag := m.take 63
    let rest := m.drop 63
    let ctl := 128 * b2n (n == 0) + 64 * b2n rest.isEmpty + n % 64
    let body := BitVec.ofNat 8 ctl :: frag
    let frame := body ++ List.replicate (fdLength body.length - body.length) 0#8
    if rest.isEmpty then [frame] else frame :: canFrames fuel (n + 1) rest

/-- The identifier of frames from the device (R53). -/
def State.canIdent (s : State) : Nat := 0b0101 * 128 + s.reg O.canNode

/-- A message leaves: port 0 or 1 of Ethernet, from the address and port at which the request arrived (R45), or 2 for CAN FD. -/
def State.adpOut (s : State) (port : Nat) (peer : AdpPeer) (msg : List Byte) : State :=
  if port = 2 then (canFrames 64 0 msg).foldl (fun s f => s.emit (.can s.canIdent f)) s else s.emit (.adp port peer msg)

/-- A whole message. -/
def State.adpMsg (s : State) (type flags session key nonce seq txn : Nat) (payload : List Byte) : List Byte :=
  let h := adpHeader type flags session key payload.length seq txn
  h ++ payload ++ s.adpTag key nonce h payload

/-! ### Sessions -/

/-- A session. -/
def State.session (s : State) (n : Nat) : Session := Map.get s.sess {} n

/-- Set it. -/
def State.setSession (s : State) (n : Nat) (x : Session) : State := { s with sess := Map.put s.sess {} n x }

/-- The master ID of a session. -/
def sessionId (n : Nat) : Nat := if n = 8 then 0x20 else 0x10 + n

/-- A message of the device in a session, with its next SEQ (R46, R48). -/
def State.sessMsg (s : State) (n type flags txn : Nat) (payload : List Byte) : State × List Byte :=
  let x := s.session n
  let seq := (x.txSeq + 1) % 2 ^ 32
  let msg := s.adpMsg type flags n x.key x.nonce seq txn payload
  (s.setSession n { x with txSeq := seq }, msg)

/-- The instance that a master holds of an RW object (R33). -/
def State.regOf (s : State) (r : Row) (id : Nat) (i : Nat := 0) (j : Nat := 0) : Nat :=
  Map.get s.regs (r.default i j) (r.key i j + 2 ^ 24 * id)

/-- Set it. -/
def State.setRegOf (s : State) (r : Row) (id v : Nat) (i : Nat := 0) (j : Nat := 0) : State :=
  { s with regs := Map.put s.regs (r.default i j) (r.key i j + 2 ^ 24 * id) v }

/-! ### EVENT messages (R431) -/

/-- An entry of an EVENT payload (Table 2.6). -/
def evEntryBytes (e : EvEntry) : List Byte := beBytes e.event 2 ++ beBytes 0 2 ++ beBytes e.t96 12 ++ beBytes e.data 8

/-- The device sends an EVENT message with the oldest entries; one that opens with `EV_LOST` carries one queued entry less. -/
def State.sendEvents (s : State) (n : Nat) : State :=
  let x := s.session n
  let lost : List EvEntry := if x.dropped = 0 then [] else [⟨0x033, x.droppedAt, x.dropped⟩]
  let k := 58 - lost.length
  let es := lost ++ x.queue.take k
  if !x.isOpen || es.isEmpty then s else
  let s := s.setSession n { x with queue := x.queue.drop k, dropped := 0, droppedAt := 0 }
  let (s, msg) := s.sessMsg n 0x0A 0 0 (beBytes es.length 1 ++ es.flatMap evEntryBytes)
  s.adpOut x.port x.peer msg

/-- A raise reaches a session that subscribes to it. -/
def State.queueEvent (s : State) (n event t96 data : Nat) : State :=
  let x := s.session n
  if !x.isOpen || !x.subs.testBit event then s
  else if 256 ≤ x.queue.length then
    s.setSession n { x with dropped := satAdd 64 x.dropped 1, droppedAt := if x.dropped = 0 then t96 else x.droppedAt }
  else
    let s := s.setSession n { x with queue := x.queue ++ [⟨event, t96, data⟩] }
    if 58 ≤ x.queue.length + 1 then s.sendEvents n else s

end Sys2Proof.Machine
end

