-- ==== Sys2Proof/Machine/Links.lean ====
section
/-! DEFINITION. Links to the host, to drives, on Ethernet and on CAN FD (spec 16_streams.md, R382 to R384, R50). -/

namespace Sys2Proof.Machine

/-! ### PCI Express (R383) -/

/-- Transfers per second of a lane by its speed code, in 100 MT/s. -/
def laneSpeed (code : Nat) : Nat :=
  match code with
  | 1 => 25 | 2 => 50 | 3 => 80 | 4 => 160 | 5 => 320 | _ => 0

/-- A figure of Table 3.2 scaled by lanes times rate, never above the figure. -/
def linkCap (full maxLanes lanes speed : Nat) : Nat := toF64 ((full * (lanes * laneSpeed speed) : Nat) / (maxLanes * 320 : Nat) : Rat)

namespace H
/-- lanes × rate at which a link trained last: 0 the endpoint, 1 the root port -/
def trained : Nat := 423
end H

/-- A link trains (R383): whether it is lower than when it trained last, and what it is then. -/
def State.trains (s : State) (port lanes speed : Nat) : Bool × State :=
  let v := lanes * laneSpeed speed
  (decide (v ≠ 0 ∧ v < s.hidden H.trained port), if v = 0 then s else s.setHidden H.trained v port)

/-- PCIE_LINK (R383): 0 lanes when the link is down, which disconnects the host master (Table 2.8). -/
def execPcieLink (lanes : Fin 17) (speed : Fin 6) (s : State) : Result :=
  let l := lanes.val
  let v := speed.val
  let r := s.trains 0 l v
  let data := l + 256 * v
  let s := (r.2.setReg O.pcieWidth l).setReg O.pcieSpeed v
  let s := if l = 0 then s.hostGone else s.setReg O.pcieHostCap (linkCap 54000000000 16 l v)
  let s := s.setHidden H.linkUp (if l = 0 then 0 else 1)
  if r.1 ∧ s.reg O.planGen ≠ 0 then .next ((s.raise 0x7A0 data).occurrence 0x60 data) else .next s

/-- NV_ROOT_LINK (R383). -/
def execNvRootLink (lanes : Fin 9) (speed : Fin 6) (s : State) : Result :=
  let l := lanes.val
  let v := speed.val
  let r := s.trains 1 l v
  let data := l + 256 * v
  let s := (r.2.setReg O.nvRootWidth l).setReg O.nvRootSpeed v
  let s := if l = 0 then s else s.setReg O.nvRootCap (linkCap 27000000000 8 l v)
  if r.1 ∧ s.reg O.planGen ≠ 0 then .next ((s.raise 0x7A1 data).occurrence 0x61 data) else .next s

/-! ### Ethernet (R384) -/

/-- The sessions that were opened on a port close (R50). -/
def State.portDown (s : State) (p : Nat) : State :=
  (List.range 8).foldl (fun s n => if (Map.get s.sess {} n).port = p then s.closeSession n else s) s

/-- A port's link changes (R384, R50). -/
def State.ethTo (s : State) (p v : Nat) : State :=
  if s.reg O.ethLink p = v then s
  else
    let s := s.setReg O.ethLink v p
    (if v = 0 then s.portDown p else s).raise (0x7A4 + p) v

/-- ETH_LINK_CHANGE (R384, R50); a port that the active plan has off does not come up. -/
def execEthLinkChange (p : Fin 2) (link : Fin 3) (s : State) : Result :=
  if link.val ≠ 0 ∧ s.plan O.ethRate p.val = 0 then .next s else .next (s.ethTo p.val link.val)

/-- IPv6 address of a port. -/
def State.ipv6 (s : State) (p : Nat) : Nat := s.reg O.ethIpv6Hi p * 2 ^ 64 + s.reg O.ethIpv6Lo p

/-- ETH_NEIGHBOUR_REQUEST (R384): 0 ARP, 1 IPv6 neighbour solicitation, 2 ICMP echo. An address of 0 is none. -/
def execEthNeighbourRequest (p : Fin 2) (kind : Fin 3) (target : Nat) (s : State) : Result :=
  let n := p.val
  let v4 := target == s.reg O.ethIpv4 n
  let v6 := target == s.ipv6 n
  let own := match kind.val with
    | 0 => v4
    | 1 => v6
    | _ => v4 || v6
  if s.dictReady && s.reg O.ethLink n != 0 && target != 0 && own then .next (s.emit (.neighbour n kind.val target)) else .next s

/-! ### CAN FD (R384) -/

/-- The bit-timing objects. -/
def canRow (object : Nat) : Row :=
  match object with
  | 0 => O.canNomRate | 1 => O.canDataRate | 2 => O.canBrs | 3 => O.canSpNom | _ => O.canSpData

/-- A write of a bit-timing object closes session 8. -/
def actCanTiming (r : Row) (v : Nat) : Act := fun s => .ok ((s.setReg r v).closeSession 8)

/-- CAN_TIMING_WRITE (R384). -/
def execCanTimingWrite (m : Master) (object : Fin 5) (value : Nat) (s : State) : Result :=
  let r := canRow object.val
  s.command m r value (actCanTiming r value)

/-- CAN_BUS_OFF (R384, R50). -/
def execCanBusOff (s : State) : Result :=
  if s.reg O.canState = 2 then .next s else .next (((s.setReg O.canState 2).closeSession 8).raise 0x7A6 2)

/-- CAN_BUS_OFF_RECOVERY (R384). -/
def execCanBusOffRecovery (s : State) : Result :=
  if s.reg O.canState = 2 then .next ((s.setReg O.canState 0).raise 0x7A6 0) else .next s

end Sys2Proof.Machine
end

