-- ==== Sys2Proof/Machine/Ptp.lean ====
section
/-! DEFINITION. PTP on ETH0 and ETH1, SyncE and ESMC (spec 14_time.md, R310 to R316). The arithmetic of offsets and
delays, the port states and the comparison of data sets are those of IEEE 1588-2019, which the spec names without restating
it (PRESUMED, log entry 24). Times are counts of 2^-16 ns. -/

namespace Sys2Proof.Machine

/-- A port's state. -/
def State.ptpPort (s : State) (p : Nat) : PtpPort := Map.get s.ptp {} p
/-- Set it. -/
def State.setPtp (s : State) (p : Nat) (x : PtpPort) : State := { s with ptp := Map.put s.ptp {} p x }

/-- Event number k of a port (R332). -/
def ptpEvent (p k : Nat) : Nat := 0x070 + 0x10 * p + k

/-- A latency in ps as 2^-16 ns. -/
def psTicks (ps : Int) : Int := rneDiv (ps * 65536) 1000

/-- portState values of IEEE 1588-2019. -/
def PS.disabled : Nat := 3
/-- LISTENING -/
def PS.listening : Nat := 4
/-- MASTER -/
def PS.master : Nat := 6
/-- PASSIVE -/
def PS.passive : Nat := 7
/-- UNCALIBRATED -/
def PS.uncalibrated : Nat := 8
/-- SLAVE -/
def PS.slave : Nat := 9

/-- A port changes state (R314). -/
def State.setPortState (s : State) (p st : Nat) : State :=
  let old := s.reg O.ptpPortState p
  if old = st then s else (s.setReg O.ptpPortState st p).raise (ptpEvent p 0) (st + 16 * old)

/-- A port's parent changes (R314). -/
def State.setParent (s : State) (p id : Nat) : State :=
  if s.reg O.ptpParent p = id then s else (s.setReg O.ptpParent id p).raise (ptpEvent p 1) id

/-- Whether a port takes part in PTP: its role in native mode, the local port in transparent mode (R314, R315). -/
def State.ptpOn (s : State) (p : Nat) : Bool :=
  if s.plan O.ptpMode = 0 then s.plan O.ptpRole p != 0 else s.plan O.ptpTcLocal == p

/-- A commit sets a port's state from its role (R314, R315). -/
def State.ptpCommit (s : State) (p : Nat) : State :=
  let s := { s with ptp := Map.put s.ptp {} p {} }
  if s.plan O.ptpMode = 1 then s.setPortState p (if s.plan O.ptpTcLocal = p then PS.slave else PS.disabled)
  else match s.plan O.ptpRole p with
    | 0 => s.setPortState p PS.disabled
    | 1 => s.setPortState p PS.listening
    | 2 => s.setPortState p PS.master
    | _ => s.setPortState p PS.slave

/-- A message is dropped and counted. -/
def State.ptpDrop (s : State) (p : Nat) : State := s.bumpSat O.ptpDropCount p

/-- Take a message: another version or domain is dropped and counted (R310), a port without PTP takes no part; else it is
counted and handled. -/
def State.ptpTake (s : State) (p : Nat) (q : PtpMsg) (f : State → State) : Result :=
  if !s.ptpOn p then .next s
  else if q.version.val ≠ 2 ∨ q.domain.toNat ≠ s.plan O.ptpDomain then .next (s.ptpDrop p)
  else .next (f (s.bumpSat O.ptpRxCount p))

/-- Time of an arrival `n` × 2^-16 ns after the last tick, at the balls (R311). -/
def State.arrival (s : State) (p n : Nat) : Int := (s.nowTicks : Int) + n - psTicks (s.plan O.ptpRxLat p)

/-- Time of a departure, at the balls. -/
def State.departure (s : State) (p n : Nat) : Int := (s.nowTicks : Int) + n + psTicks (s.plan O.ptpTxLat p)

/-- An event frame that misses its fixed instant ends with a bad FCS (R312). -/
def State.txAbort (s : State) (p type : Nat) : State := ((s.emit (.badFrame p)).ptpDrop p).raise (ptpEvent p 2) type

/-- A port is in SLAVE or UNCALIBRATED. -/
def State.isSlave (s : State) (p : Nat) : Bool :=
  s.reg O.ptpPortState p == PS.slave || s.reg O.ptpPortState p == PS.uncalibrated

/-- A time as a T96 object shows it; a negative one as 0. -/
def t96Of (t : Int) : Nat := T96.ofTicks t.toNat

/-- A message leaves on a port: with a UDP checksum over IPv6, and over IPv4 unless the one received with what it answers was 0
(R310, R312). -/
def State.ptpHead (s : State) (p type seq : Nat) (noSum : Bool := false) : PtpHead :=
  let tr := s.plan O.ptpTransport p
  { port := p, transport := tr, checksum := tr == 2 || (tr == 1 && !noSum), domain := s.plan O.ptpDomain, type := type, seq := seq }

/-- A port measures its link by peer delay: in transparent mode by the device's setting (R315). -/
def State.ptpPeer (s : State) (p : Nat) : Bool :=
  if s.plan O.ptpMode = 1 then s.plan O.ptpTcDelay == 1 else s.plan O.ptpDelay p == 1

/-- `PTP_T1` to `PTP_T4`: the latest complete exchange (R313). -/
def State.ptpTimes (s : State) (p : Nat) (t1 t2 t3 t4 : Int) : State :=
  (((s.setReg O.ptpT (t96Of t1) p 0).setReg O.ptpT (t96Of t2) p 1).setReg O.ptpT (t96Of t3) p 2).setReg O.ptpT (t96Of t4) p 3

/-- With a Sync and a delay at hand, the offset is known: the status objects of a port change together, and the servo takes the
offset of a SLAVE port (R313, R318). The exchange of a peer-delay port is its Pdelay exchange. -/
def State.ptpStatus (s : State) (p : Nat) : State :=
  let x := s.ptpPort p
  if x.haveSync && x.haveDelay then
    let off2 := 2 * (x.t2 - x.t1 - psTicks (toI 32 (s.plan O.ptpAsym p))) - x.mpd2
    let s := if s.ptpPeer p then s else s.ptpTimes p x.t1 x.t2 x.t3 x.t4
    let s := (s.setReg O.ptpMpd (toF64 ((x.mpd2 : Rat) / (131072 : Nat))) p).setReg O.ptpOffset (toF64 ((off2 : Rat) / (131072 : Nat))) p
    let s := if s.reg O.ptpPortState p = PS.uncalibrated then s.setPortState p PS.slave else s
    if s.plan O.servoSrc = 0 ∧ s.isSlave p then s.servoOffset (rneDiv off2 2) else s
  else s

/-- A Sync is complete: t1 with its corrections, t2 (R313). -/
def State.syncDone (s : State) (p : Nat) (t1 t2 : Int) : State :=
  (s.setPtp p { s.ptpPort p with t1 := t1, t2 := t2, haveSync := true, sync := none }).ptpStatus p

/-- A timestamp field in 2^-16 ns. -/
def ptpTicks (q : PtpMsg) : Int := (T96.toTicks q.time : Nat)

/-- Whether a message comes from the port's parent, where it has one. -/
def State.fromParent (s : State) (p : Nat) (q : PtpMsg) : Bool :=
  s.reg O.ptpParent p == 0 || s.reg O.ptpParent p == q.source.toNat

/-- SYNC_RECEIVED (R313). -/
def execSyncReceived (p : Fin 2) (q : PtpMsg) (after : Nat) (s : State) : Result :=
  s.ptpTake p.val q fun s =>
    if s.isSlave p.val && s.fromParent p.val q then
      let t2 := s.arrival p.val after
      if q.twoStep then
        s.setPtp p.val { s.ptpPort p.val with sync := some { seq := q.seq.toNat, t := t2, corr := q.correction } }
      else s.syncDone p.val (ptpTicks q + q.correction) t2
    else s

/-- FOLLOW_UP_RECEIVED (R313). -/
def execFollowUpReceived (p : Fin 2) (q : PtpMsg) (s : State) : Result :=
  s.ptpTake p.val q fun s =>
    match (s.ptpPort p.val).sync with
    | some e => if e.seq = q.seq.toNat then s.syncDone p.val (ptpTicks q + q.correction + e.corr) e.t else s
    | none => s

/-- FOLLOW_UP_TIMEOUT (R313). -/
def execFollowUpTimeout (p : Fin 2) (s : State) : Result :=
  .next (s.setPtp p.val { s.ptpPort p.val with sync := none })

/-- A time split into whole nanoseconds as T96 and the fraction for the correction field (R311). -/
def splitTime (t : Int) : Nat × Int := (t96Of (t / 65536 * 65536), t % 65536)

/-- DELAY_REQ_RECEIVED (R313). -/
def execDelayReqReceived (p : Fin 2) (q : PtpMsg) (after : Nat) (s : State) : Result :=
  s.ptpTake p.val q fun s =>
    if s.reg O.ptpPortState p.val = PS.master ∧ !s.ptpPeer p.val then
      let t4 := splitTime (s.arrival p.val after)
      s.emit (.ptp (s.ptpHead p.val 0x9 q.seq.toNat q.noChecksum) (q.correction - t4.2) t4.1 q.source.toNat q.sourcePort.toNat)
    else s

/-- Whether a response is for this port: clock identity and port number (numbered from 1). -/
def State.forUs (s : State) (p : Nat) (q : PtpMsg) : Bool :=
  q.requester.toNat == s.reg O.ptpClockId && q.requesterPort.toNat == p + 1

/-- DELAY_RESP_RECEIVED (R313). -/
def execDelayRespReceived (p : Fin 2) (q : PtpMsg) (s : State) : Result :=
  s.ptpTake p.val q fun s =>
    let x := s.ptpPort p.val
    match x.delay with
    | some e =>
      if e.seq = q.seq.toNat ∧ s.forUs p.val q then
        let t4 := ptpTicks q - q.correction
        if x.haveSync then
          (s.setPtp p.val { x with delay := none, t3 := e.t, t4 := t4, haveDelay := true, mpd2 := (x.t2 - x.t1) + (t4 - e.t) }).ptpStatus p.val
        else s.setPtp p.val { x with delay := none }
      else s
    | none => s

/-- PDELAY_REQ_RECEIVED (R313, R315): answered by a one-step Pdelay_Resp. -/
def execPdelayReqReceived (p : Fin 2) (q : PtpMsg) (after depart : Nat) (sfdOk : Bool) (s : State) : Result :=
  let tc := s.plan O.ptpMode == 1 && s.plan O.ptpTcDelay == 1
  let native := s.plan O.ptpMode == 0 && s.plan O.ptpDelay p.val == 1 && s.reg O.ptpPortState p.val != PS.disabled &&
    s.reg O.ptpPortState p.val != 2 && s.plan O.ptpRole p.val != 0
  if !tc && !native then .next s
  else if q.version.val ≠ 2 ∨ q.domain.toNat ≠ s.plan O.ptpDomain then .next (s.ptpDrop p.val)
  else
    let s := s.bumpSat O.ptpRxCount p.val
    let turn := s.departure p.val depart - s.arrival p.val after
    .next (if sfdOk then s.emit (.ptp (s.ptpHead p.val 0x3 q.seq.toNat q.noChecksum) (q.correction + turn) 0 q.source.toNat q.sourcePort.toNat)
      else s.txAbort p.val 0x3)

/-- A peer exchange is complete: the link delay, times two. -/
def State.pdelayDone (s : State) (p : Nat) (t1 t2 t3 t4 : Int) : State :=
  let x := s.ptpPort p
  let mpd2 := (t4 - t1) - (t3 - t2)
  let s := (s.setPtp p { x with pdelay := none, t3 := t3, t4 := t4, haveDelay := true, mpd2 := mpd2 }).ptpTimes p t1 t2 t3 t4
  (s.setReg O.ptpMpd (toF64 ((mpd2 : Rat) / (131072 : Nat))) p).ptpStatus p

/-- PDELAY_RESP_RECEIVED (R313). -/
def execPdelayRespReceived (p : Fin 2) (q : PtpMsg) (after : Nat) (s : State) : Result :=
  let x := s.ptpPort p.val
  match x.pdelay with
  | some e =>
    if q.version.val ≠ 2 ∨ q.domain.toNat ≠ s.plan O.ptpDomain then .next (s.ptpDrop p.val)
    else if e.seq = q.seq.toNat ∧ s.forUs p.val q then
      let s := s.bumpSat O.ptpRxCount p.val
      let t4 := s.arrival p.val after
      if q.twoStep then
        .next (s.setPtp p.val { x with pdelay := some { e with t2 := ptpTicks q, t4 := t4, corr := q.correction, waits := true } })
      else .next (s.pdelayDone p.val e.t 0 q.correction t4)
    else .next s
  | none => .next s

/-- PDELAY_RESP_FOLLOW_UP_RECEIVED (R313). -/
def execPdelayRespFollowUpReceived (p : Fin 2) (q : PtpMsg) (s : State) : Result :=
  match (s.ptpPort p.val).pdelay with
  | some e =>
    if q.version.val ≠ 2 ∨ q.domain.toNat ≠ s.plan O.ptpDomain then .next (s.ptpDrop p.val)
    else if e.waits ∧ e.seq = q.seq.toNat ∧ s.forUs p.val q then
      let s := s.bumpSat O.ptpRxCount p.val
      .next (s.pdelayDone p.val e.t e.t2 (ptpTicks q + q.correction + e.corr) e.t4)
    else .next s
  | none => .next s

/-- The device's own data set D0 as a list in the order of comparison (R314). -/
def State.dataSet0 (s : State) : List Nat :=
  [s.plan O.ptpPriority1, s.plan O.ptpClockClass, 0xFE, 0xFFFF, s.plan O.ptpPriority2, s.reg O.ptpClockId, 0]

/-- The data set of an Announce, its sender last. -/
def ptpDataSet (q : PtpMsg) : List Nat :=
  [q.announce.priority1.toNat, q.announce.clockClass.toNat, q.announce.accuracy.toNat, q.announce.variance.toNat,
   q.announce.priority2.toNat, q.announce.identity.toNat, q.announce.steps.toNat, q.source.toNat]

/-- Lexicographic order of data sets: better first. -/
def better : List Nat → List Nat → Bool
  | a :: as, b :: bs => if a < b then true else if b < a then false else better as bs
  | _, _ => false

/-- The best data set that any port with the BMCA or slave role holds, with its port. -/
def State.bestForeign (s : State) : Option (Nat × List Nat) :=
  match (s.ptpPort 0).foreign, (s.ptpPort 1).foreign with
  | some a, some b => if better b a then some (1, b) else some (0, a)
  | some a, none => some (0, a)
  | none, some b => some (1, b)
  | none, none => none

/-- The state decision of a BMCA port (R314). -/
def State.bmcaPort (s : State) (p : Nat) : State :=
  if s.plan O.ptpMode = 0 ∧ s.plan O.ptpRole p = 1 then
    let d0 := s.dataSet0
    if s.plan O.ptpClockClass < 128 then
      match (s.ptpPort p).foreign with
      | some e => s.setPortState p (if better e d0 then PS.passive else PS.master)
      | none => s.setPortState p PS.master
    else match s.bestForeign with
      | none => s.setPortState p PS.master
      | some (q, e) =>
        if !better e d0 then s.setPortState p PS.master
        else if q = p then
          let s := s.setParent p (e.getD 7 0)
          if s.isSlave p then s else s.setPortState p PS.uncalibrated
        else match (s.ptpPort p).foreign with
          | some f => s.setPortState p (if f.getD 5 0 = e.getD 5 0 then PS.passive else PS.master)
          | none => s.setPortState p PS.master
  else s

/-- The state decision of both ports. -/
def State.bmca (s : State) : State := (s.bmcaPort 0).bmcaPort 1

/-- ANNOUNCE_RECEIVED (R314). -/
def execAnnounceReceived (p : Fin 2) (q : PtpMsg) (s : State) : Result :=
  s.ptpTake p.val q fun s =>
    let x := s.ptpPort p.val
    let mine := match x.foreign with
      | some f => if f.getD 7 0 = q.source.toNat then true else better (ptpDataSet q) f
      | none => true
    let s := if mine then s.setPtp p.val { x with foreign := some (ptpDataSet q) } else s
    if s.plan O.ptpMode = 1 ∨ s.plan O.ptpRole p.val = 3 then
      s.setParent p.val (((s.ptpPort p.val).foreign.map (fun (f : List Nat) => f.getD 7 0)).getD 0)
    else s.bmca

/-- ANNOUNCE_RECEIPT_TIMEOUT (R314). -/
def execAnnounceReceiptTimeout (p : Fin 2) (s : State) : Result :=
  if s.ptpOn p.val then .next (s.setPtp p.val { s.ptpPort p.val with foreign := none }).bmca else .next s

/-- SIGNALING_RECEIVED (R313): dropped and counted. -/
def execSignalingReceived (p : Fin 2) (s : State) : Result :=
  .next (if s.ptpOn p.val then s.ptpDrop p.val else s)

/-- MANAGEMENT_RECEIVED (R313): dropped and counted. -/
def execManagementReceived (p : Fin 2) (s : State) : Result :=
  .next (if s.ptpOn p.val then s.ptpDrop p.val else s)

/-- The next sequenceId of a kind of message: 0 Sync, 1 Delay_Req, 2 Pdelay_Req, 3 Announce. -/
def State.nextSeq (s : State) (p : Nat) (k : Fin 4) : Nat × State :=
  let x := s.ptpPort p
  (x.seqs[k], s.setPtp p { x with seqs := x.seqs.set k ((x.seqs[k] + 1) % 65536) })

/-- SYNC_TX (R312, R313). -/
def execSyncTx (p : Fin 2) (depart : Nat) (sfdOk : Bool) (s : State) : Result :=
  if s.ptpOn p.val ∧ s.reg O.ptpPortState p.val = PS.master then
    let q := s.nextSeq p.val 0
    let t := splitTime (s.departure p.val depart)
    .next (if sfdOk then q.2.emit (.ptp (s.ptpHead p.val 0x0 q.1) t.2 t.1 0 0) else q.2.txAbort p.val 0x0)
  else .next s

/-- DELAY_REQ_TX (R312, R313): t3 is held. -/
def execDelayReqTx (p : Fin 2) (depart : Nat) (sfdOk : Bool) (s : State) : Result :=
  if s.ptpOn p.val ∧ s.isSlave p.val ∧ !s.ptpPeer p.val then
    let q := s.nextSeq p.val 1
    if sfdOk then
      let s := q.2.setPtp p.val { q.2.ptpPort p.val with delay := some { seq := q.1, t := s.departure p.val depart } }
      .next (s.emit (.ptp (s.ptpHead p.val 0x1 q.1) 0 0 0 0))
    else .next (q.2.txAbort p.val 0x1)
  else .next s

/-- PDELAY_REQ_TX (R312, R313): t1 is held. -/
def execPdelayReqTx (p : Fin 2) (depart : Nat) (sfdOk : Bool) (s : State) : Result :=
  if s.ptpPeer p.val ∧ (s.plan O.ptpMode = 1 ∨ s.ptpOn p.val) then
    let q := s.nextSeq p.val 2
    if sfdOk then
      let s := q.2.setPtp p.val { q.2.ptpPort p.val with pdelay := some { seq := q.1, t := s.departure p.val depart } }
      .next (s.emit (.ptp (s.ptpHead p.val 0x2 q.1) 0 0 0 0))
    else .next (q.2.txAbort p.val 0x2)
  else .next s

/-- The data set that an Announce carries: the one behind the other port's parent, one step further, or the device's own (R314). -/
def State.announced (s : State) (p : Nat) : List Nat :=
  match s.isSlave (1 - p), (s.ptpPort (1 - p)).foreign with
  | true, some f => f.take 6 ++ [f.getD 6 0 + 1]
  | _, _ => s.dataSet0

/-- ANNOUNCE_TX (R310, R313). -/
def execAnnounceTx (p : Fin 2) (s : State) : Result :=
  if s.ptpOn p.val ∧ s.reg O.ptpPortState p.val = PS.master then
    let q := s.nextSeq p.val 3
    .next (q.2.emit (.announce (s.ptpHead p.val 0xB q.1) (toI 16 (s.plan O.ptpUtcOffset)) (s.announced p.val)))
  else .next s

/-- PTP_TC_FORWARD (R315): the residence time enters the message's own correction field. -/
def execPtpTcForward (p : Fin 2) (q : PtpMsg) (ingress egress : Nat) (sfdOk : Bool) (s : State) : Result :=
  let peer := decide (q.type.val = 2 ∨ q.type.val = 3 ∨ q.type.val = 0xA)
  if s.plan O.ptpMode = 1 ∧ !(peer && s.plan O.ptpTcDelay == 1) then
    let out := 1 - p.val
    let head : PtpHead := { port := out, transport := q.transport.val, checksum := q.transport.val == 2 || (q.transport.val == 1 && !q.noChecksum),
                            domain := q.domain.toNat, type := q.type.val, seq := q.seq.toNat }
    if q.type.val < 4 then
      let stay := s.departure out egress - s.arrival p.val ingress
      let link := if s.plan O.ptpTcDelay = 1 ∧ q.type.val = 0 then rneDiv (s.ptpPort p.val).mpd2 2 else 0
      .next (if sfdOk then
          s.emit (.ptp head (q.correction + stay + link) q.time q.requester.toNat q.requesterPort.toNat)
        else s.txAbort out q.type.val)
    else .next (s.emit (.ptp head q.correction q.time q.requester.toNat q.requesterPort.toNat))
  else .next s

/-- ESMC_TX (R316). -/
def execEsmcTx (p : Fin 2) (s : State) : Result :=
  .next (if s.plan O.synceEsmc p.val = 1 then s.emit (.esmc p.val (s.plan O.synceTxQl p.val % 16)) else s)

/-- ESMC_RECEIVED (R316). -/
def execEsmcReceived (p : Fin 2) (ql : Fin 16) (s : State) : Result :=
  let old := s.reg O.synceRxQl p.val
  if s.plan O.synceEsmc p.val = 1 ∧ old ≠ ql.val then
    .next ((s.setReg O.synceRxQl ql.val p.val).raise (ptpEvent p.val 3) (ql.val + 16 * (old % 16)))
  else .next s

end Sys2Proof.Machine
end

