-- ==== Sys2Proof/Machine/Power.lean ====
section
/-! DEFINITION. Power states, domains and clock crossings (spec 20_power.md, R444 to R458). -/

namespace Sys2Proof.Machine

namespace H
/-- a domain is being switched off with work in flight (R454), by domain -/
def quiesce : Nat := 504
/-- a pulse waits at a crossing whose destination is off (R455, R457), by domain -/
def xcPend : Nat := 505
/-- a domain is on for an access to its memories alone (R446), by domain -/
def visit : Nat := 540
/-- the DRAM of a controller half is in self-refresh (R354), by domain -/
def selfRefresh : Nat := 541
end H

/-! ### Floors (R449) -/

/-- The plans that exist: active, awaiting its tick, pending. -/
def State.plans (s : State) : List Store := s.active :: (s.awaiting.toList ++ s.armed.toList)

/-- A domain is used (R444). -/
def State.used (s : State) (d : Nat) : Bool := s.plans.any (fun p => (s.under p).uses d)

/-- Domains whose use keeps the device in P2. -/
def floorTwo (d : Nat) : Bool := decide (1 ≤ d ∧ d ≤ 33) || d == 35 || d == 37 || d == 38

/-- The plan floor F. -/
def State.floorPlan (s : State) : Nat :=
  if (List.range 39).any (fun d => floorTwo d && s.used d) || (List.range 512).any (fun e => s.reg O.taState e == 2 && s.reg O.taKind e != 1)
  then 2
  else if s.used 34 || s.used 36 then 3
  else 4

/-- Exit latency of a state in ns (Table 20.2, `PWR_EXIT_NS`). -/
def State.exitNs (s : State) (st : Nat) : Nat := if st = 3 then 1800000 + 1000 * s.plan O.pllaLockWait else s.reg O.pwrExitNs 0 st

/-- The smallest tolerance among the classes, 0xFFFF_FFFF with every class inactive; `f` gives a class's tolerance. -/
def smallestLtol (f : Nat → Nat) : Nat := (List.range 8).foldl (fun a c => min a (f c)) 0xFFFFFFFF

/-- The deepest state that a tolerance admits. -/
def State.deepest (s : State) (tol : Nat) : Nat :=
  if tol = 0xFFFFFFFF then 4
  else ((List.range 5).reverse.find? (fun st => st == 0 || decide (s.exitNs st ≤ tol))).getD 0

/-- The latency floor L. -/
def State.floorLat (s : State) : Nat := s.deepest (smallestLtol (fun c => s.reg O.pwrLtol 0 c))

/-- The floors as the device finds them now. -/
def State.pwrFloors (s : State) : State := (s.setReg O.pwrFloorPlan s.floorPlan).setReg O.pwrFloorLat s.floorLat

/-- The state that the device is in or on its way to. -/
def State.pwrGoal (s : State) : Nat := if s.hidden H.pwrNext = 0 then s.reg O.pwrState else s.hidden H.pwrNext - 1

/-- The state choice (R449, R450): shallower at once, deeper when no dwell runs, and not before the device is ready. -/
def State.pwrEval (s : State) (cause : Nat) : State :=
  let s := s.pwrFloors
  let t := min (s.reg O.pwrFloorPlan) (s.reg O.pwrFloorLat)
  if t < s.pwrGoal then (s.setHidden H.dwelling 1).pwrTo t cause
  else if s.pwrGoal < t ∧ s.hidden H.dwelling = 0 ∧ s.hidden H.boot = 7 then s.pwrTo t cause
  else s

/-! ### Work in flight (R453, R454) -/

/-- Streams whose work a domain carries: those with records or items waiting. -/
def State.streamsIn (s : State) (d : Nat) : List Nat :=
  (List.range 32).filter (fun n =>
    (s.reg O.stState n != 0 && (d == 37 || d == 38 || (decide (34 ≤ d) && s.plan O.stDest n + 34 == d))) ||
      s.drains.any (fun e => e.stream == n && (d == 37 || d == 38 || (decide (34 ≤ d) && planVal e.plan O.stDest n + 34 == d))))

/-- Records and items that a stream has waiting, what a commit left included. -/
def State.streamHolds (s : State) (n : Nat) : Nat :=
  (s.stream n).ready.length + (s.stream n).items.length +
    ((s.drains.filter (fun d => d.stream == n)).map (·.left.ready.length)).foldl (· + ·) 0

/-- Contexts with a segment open. -/
def State.ctxsOpen (s : State) (d : Nat) : List Nat :=
  if d = 31 ∨ d = 37 ∨ d = 38 then (List.range 16).filter (fun c => s.reg O.aqState c == 4) else []

/-- DMA channels with a descriptor in flight in a domain. -/
def dmaIn (d : Nat) (s : State) (c : Nat) : Bool := d == 37 || d == 38 || (d == 34 && s.dmaOnHost c)

/-- A domain has a transfer in flight, or data of an earlier plan draining, so the state choice does not gate it (R453). -/
def State.busyIn (s : State) (d : Nat) : Bool :=
  s.drains.any (fun e => d == 37 || d == 38 || (decide (34 ≤ d) && planVal e.plan O.stDest e.stream + 34 == d)) ||
    (List.range 64).any (fun c => s.reg O.dmaState c == 1 && dmaIn d s c) || (d == 35 && !s.nvCmds.isEmpty) ||
    ((d == 30 || d == 37 || d == 38) && s.density.copying.isSome) ||
    ((d == 37 || d == 38) && (s.migrating.isSome || (s.reg O.drState == 2 && decide (s.zeroPtr < s.reg O.drCapacity))))

/-! ### Domains (R445, R447, R453) -/

/-- An unused domain is on in a state (Table 20.2); standby counts as on. -/
def idleOn (st d : Nat) : Bool :=
  match st with
  | 0 => true
  | 1 => !(decide (6 ≤ d ∧ d ≤ 33) || d == 35)
  | 2 => !(decide (6 ≤ d ∧ d ≤ 33) || d == 35)
  | 3 => d == 34 || d == 36
  | _ => false

/-- Domain of the unit under test. -/
def fitDomain (pool group : Nat) : Nat :=
  match pool with
  | 1 => 1 + group
  | 2 => 10 + group
  | 3 => 14 + group
  | 4 => 32
  | 5 => 30
  | _ => 37 + group / 2

/-- A fitting holds its unit's domain on (R465). -/
def State.fitsIn (s : State) (d : Nat) : Bool := match s.fitting with | some (pool, group, _) => fitDomain pool group == d | none => false

/-- A domain is on: always-on, still quiescing, accessed or under a fitting test; or not held off, and used, busy or left on by the
state. -/
def State.domainOn (s : State) (d : Nat) : Bool :=
  d == 0 || s.hidden H.quiesce d == 1 || s.hidden H.visit d == 1 || s.fitsIn d ||
    (!bit (s.reg O.pwrHeldOff) d && (s.used d || s.busyIn d || idleOn (s.reg O.pwrState) d))

/-- PD32 is powered up: every comparator starts deasserted and undecided (R238). -/
def State.comparatorsUp (s : State) : State :=
  (List.range 8).foldl (fun s n => ((s.setReg O.ticUndecided 1 n).setHidden H.comp 0 n).wmSet n false) s

/-- `PWR_DOMAIN_ON` follows; each domain that changes raises `PWR_DOMAIN`, with bit 9 for those of a command or a mask. -/
def State.setDomains (s : State) (byCommand : Nat) : State :=
  let old := s.reg O.pwrDomainOn
  let new := (List.range 39).foldl (fun m d => if s.domainOn d then m + 2 ^ d else m) 0
  (List.range 39).foldl (fun s d =>
    if bit old d = bit new d then s
    else
      let s := if bit new d then s.setHidden H.xcPend 0 d else s
      let s := if d = 32 ∧ bit new d then s.comparatorsUp else s
      let s := if d = 37 ∨ d = 38 then s.setHidden H.selfRefresh (b2n (!bit new d)) d else s
      s.raise 0x03A (d + 256 * b2n (bit new d) + 512 * b2n (bit byCommand d))) (s.setReg O.pwrDomainOn new)

/-- A domain stops accepting work (R454); a fitting in it is abandoned (R465). -/
def State.quiesceStart (s : State) (d : Nat) : State :=
  let s := match s.fitting with
    | some (pool, group, _) => if fitDomain pool group = d then s.fitFail 3 0 else s
    | none => s
  if bit (s.reg O.pwrDomainOn) d then s.setHidden H.quiesce 1 d else s

/-- A domain's quiesce ends: it switches off, and where a request has asked for it meanwhile it comes on after that (R454). -/
def State.quiesceEnd (s : State) (d : Nat) : State :=
  let on := s.reg O.pwrDomainOn
  let s := s.setHidden H.quiesce 0 d
  let s := if bit on d then (s.setReg O.pwrDomainOn (setBit on d false)).raise 0x03A (d + 512) else s
  s.setDomains (2 ^ d)

/-- `PWR_OFF_MASK` of a committed plan (R453): newly demanded domains quiesce, and those no longer demanded, or used, come on. -/
def State.offMaskCommit (s : State) (old : Nat) : State :=
  let new := s.plan O.pwrOffMask
  let held := s.reg O.pwrHeldOff
  let mask := (List.range 39).foldl (fun m d =>
    if bit new d || (bit held d && !bit old d && !s.used d) then m + 2 ^ d else m) 0
  let s := s.setReg O.pwrHeldOff mask
  let s := (List.range 39).foldl (fun s d => if bit new d && !bit held d then s.quiesceStart d else s) s
  s.setDomains (new ||| old)

/-! ### Commands -/

/-- PWR_FLOOR_CHANGE (R449). -/
def execPwrFloorChange (s : State) : Result :=
  .next ((s.pwrEval (if s.floorPlan = s.reg O.pwrFloorPlan then 2 else 1)).setDomains 0)

/-- PWR_DWELL_EXPIRE (R450). -/
def execPwrDwellExpire (s : State) : Result := .next ((s.setHidden H.dwelling 0).pwrEval 4)

/-- PWR_WAKE (R450): cause 5 of Table 20.6 for PERST_N or the link, 3 for the others. -/
def execPwrWake (link : Bool) (s : State) : Result := .next (s.wake (if link then 5 else 3))

/-- `PWR_LTOL` (R450, R452). -/
def actLtol (c v : Nat) : Act := fun s =>
  let t := s.setReg O.pwrLtol v 0 c
  if t.floorLat = 0 ∧ f32 (s.reg O.powerCap) < f32 (s.reg O.pwrP0Est) then .error (Abort.adm 0x0E)
  else if t.floorLat < s.reg O.pwrState then .ok (t.wake 3).pwrFloors
  else .ok (t.pwrEval 2)

/-- PWR_LTOL_WRITE (R452). -/
def execPwrLtolWrite (m : Master) (c : Fin 8) (value : Nat) (s : State) : Result :=
  s.command m O.pwrLtol value (actLtol c.val value)

/-- `POWER_CAP` (R452). -/
def actPowerCap (v : Nat) : Act := fun s =>
  if f32 v < f32 (s.reg O.activePowerEst) ∨ (s.floorLat = 0 ∧ f32 v < f32 (s.reg O.pwrP0Est)) then .error (Abort.adm 0x0E)
  else .ok (s.setReg O.powerCap v)

/-- POWER_CAP_WRITE (R452). -/
def execPowerCapWrite (m : Master) (value : Nat) (s : State) : Result := s.command m O.powerCap value (actPowerCap value)

/-- A command arrives through the domain it names (R453). -/
def State.arrivesBy (s : State) (m : Master) (d : Nat) : Bool :=
  match m with
  | .host => d == 34
  | .eth _ => d == 36 && decide (s.reg O.pwrState ≤ 3)
  | .can => false

/-- `PWR_DOMAIN_CMD` (R453). -/
def actDomain (m : Master) (v : Nat) : Act := fun s =>
  let d := bits v 5 0
  if d = 0 ∨ 38 < d then .error Abort.range
  else if bit v 8 then
    .ok ((s.setReg O.pwrHeldOff (setBit (s.reg O.pwrHeldOff) d false)).setDomains (2 ^ d))
  else if s.arrivesBy m d then .error Abort.range
  else if s.used d then .error (Abort.adm 0x11)
  else .ok ((s.setReg O.pwrHeldOff (setBit (s.reg O.pwrHeldOff) d true)).quiesceStart d)

/-- PWR_DOMAIN_ON (R453). -/
def execPwrDomainOn (m : Master) (dom : Fin 64) (s : State) : Result :=
  s.command m O.pwrDomainCmd (dom.val + 256) (actDomain m (dom.val + 256))

/-- PWR_DOMAIN_OFF (R453). -/
def execPwrDomainOff (m : Master) (dom : Fin 64) (s : State) : Result :=
  s.command m O.pwrDomainCmd dom.val (actDomain m dom.val)

/-- QUIESCE_DONE (R454). -/
def execQuiesceDone (dom : Fin 64) (s : State) : Result :=
  if s.hidden H.quiesce dom.val = 1 then .next (s.quiesceEnd dom.val) else .next s

/-! ### Work abandoned (R454) -/

/-- A stream's records and items are lost and counted. -/
def State.streamLoss (s : State) (n : Nat) : State :=
  (s.bumpSat O.stLost n 0 (s.streamHolds n)).streamKill n

/-- Whatever remains of a domain's work is abandoned: the number of units, and the state. -/
def State.abandon (s : State) (d : Nat) : Nat × State :=
  let dma := ((List.range 64).filter (fun c => s.reg O.dmaState c == 1 && dmaIn d s c)).length
  let s := s.dmaAbort 5 (dmaIn d)
  let st := s.streamsIn d
  let lost := (st.map s.streamHolds).foldl (· + ·) 0
  let s := st.foldl State.streamLoss s
  let cmds := if d = 35 then s.nvCmds else []
  let s := cmds.foldl State.nvFail s
  let cs := s.ctxsOpen d
  let s := cs.foldl (fun s c => s.ctxCut c (s.aqTaken (s.ctx c).cfg)) s
  let snap := (d == 30 || d == 37 || d == 38) && s.density.copying.isSome
  let s := if snap then { s with density := { s.density with copying := none } } else s
  (dma + lost + cmds.length + cs.length + b2n snap, s)

/-- QUIESCE_TIMEOUT (R454). -/
def execQuiesceTimeout (dom : Fin 64) (s : State) : Result :=
  let d := dom.val
  if s.hidden H.quiesce d = 1 then
    let r := s.abandon d
    .next ((r.2.raise 0x039 (d + 2 ^ 32 * r.1)).quiesceEnd d)
  else .next s

/-! ### Crossings (R446, R455 to R458) -/

/-- The domains on for an access return to their state, at the next fT tick (R446). -/
def State.visitsEnd (s : State) : State :=
  if (List.range 39).all (fun d => s.hidden H.visit d == 0) then s
  else ((List.range 39).foldl (fun s d => s.setHidden H.visit 0 d) s).setDomains 0

/-- GATED_DOMAIN_ACCESS (R446): the domain comes on for the transfer alone, until the next tick; the power state does not change. -/
def execGatedDomainAccess (dom : Fin 64) (s : State) : Result :=
  let d := dom.val
  if bit (s.reg O.pwrDomainOn) d ∨ 38 < d then .next s
  else .next ((s.setHidden H.visit 1 d).setDomains 0)

/-- XC_WAKE_REQUEST (R457): within a powered domain the clock starts; a gated domain wakes the device. A further pulse while
one waits merges and sets the group's overrun bit (R455, R456). -/
def execXcWakeRequest (dom : Fin 64) (s : State) : Result :=
  let d := dom.val
  if bit (s.reg O.pwrDomainOn) d ∨ 38 < d then .next s
  else if s.hidden H.xcPend d = 1 then
    let was := bit (s.reg O.xcOverrun) d
    let s := s.setReg O.xcOverrun (setBit (s.reg O.xcOverrun) d true)
    .next (if was then s else s.raiseRare 0x03B d)
  else .next ((s.setHidden H.xcPend 1 d).wake 3)

/-- `XC_OVERRUN_CLR` (R456). -/
def actXcClear (v : Nat) : Act := fun s => .ok (s.setReg O.xcOverrun (s.reg O.xcOverrun - (s.reg O.xcOverrun &&& v)))

/-- PCIE_LINK_L23 (R449, R450). -/
def execPcieLinkL23 (enter : Bool) (s : State) : Result :=
  if enter then .next (((s.setHidden H.linkUp 0).pwrEval 5).setDomains 0)
  else .next ((((s.setHidden H.linkUp 1).wake 5).pwrFloors).setDomains 0)

end Sys2Proof.Machine
end

