-- ==== Sys2Proof/Machine/Commit.lean ====
section
/-! DEFINITION. What a commit does to the units (spec 03_plans.md, R17, R63, R78, R79, and the commit rules of every chapter). -/

namespace Sys2Proof.Machine

namespace H
/-- a unit that step 2 of the fault ladder stopped and that has no state of its own for it, by fault source (R437) -/
def isolated : Nat := 506
end H

/-! ### Settings, unit by unit -/

/-- The transform settings of an engine, which all its sources share (R125): a change of one restarts every source (R134). -/
def engRows : List Row :=
  [O.teLog2n, O.teTaps, O.teOverlap, O.teWindow, O.teDetMask, O.avgM, O.spanStart, O.spanCount]

/-- What says which sources an engine has; with the settings, the values that it takes at its boundary (R17, R134). -/
def engSrcRows : List Row := [O.teSrcKind, O.teSlices]

/-- A plan changes the sources of an engine: `TE_SLICES` counts where the kind is 1 (R125). -/
def srcMoves (old new : Store) (e : Nat) : Bool :=
  planVal old O.teSrcKind e != planVal new O.teSrcKind e ||
    (planVal new O.teSrcKind e == 1 && planVal old O.teSlices e != planVal new O.teSlices e)

/-- Slice settings whose change resets the slice (R116). -/
def resetRows : List Row := [O.ddcInput, O.ddcK, O.firTaps, O.outFormat, O.frameExp, O.ncoPhase]

/-- Channel settings of Table 11.9 marked PLAN (R256). -/
def ticRows : List Row :=
  [O.ticSrc, O.tinMode, O.tinTerm, O.ticPolarity, O.ticDeclRate, O.ticKMin, O.ticKMax, O.ticDecHold, O.ticRingBase, O.ticRingSize,
   O.ticCalMode]

/-- Slot settings. -/
def msRows : List Row :=
  [O.msEnable, O.msFunc, O.msChanA, O.msChanB, O.msMethod, O.msTiMode, O.msArm, O.msArmSel, O.msGateKind, O.msGateSel, O.msGateTime,
   O.msGates, O.msDeclRate, O.msStatN, O.msFnom, O.msAdevTaus, O.msAdevX]

/-- Stream settings. -/
def stRows : List Row :=
  [O.stEnable, O.stSrcKind, O.stSrc, O.stFormat, O.stDest, O.stRingBase, O.stRingSize, O.stDrainUs, O.stRecMax, O.stFlushUs, O.stCrc,
   O.stEvtBytes, O.stHostBase, O.stHostSize, O.stHostWpAddr, O.stHostRpAddr, O.stHostMode, O.stNvSet, O.stUdpEth, O.stUdpIpv6,
   O.stUdpDstMac, O.stUdpDstIpHi, O.stUdpDstIpLo, O.stUdpPorts, O.stUdpDscp, O.vdPayload, O.vdRefEpoch, O.vdThread, O.vdStation]

/-- Settings of a drive set that its recording keeps. -/
def nvRows : List Row := [O.nvMembers, O.nvStripe, O.nvMode]

/-- A plan moves a stream: its own settings, or those of the set that it fills, differ. -/
def streamMoves (old new : Store) (n : Nat) : Bool :=
  let d := planVal new O.stNvSet n
  plansDiffer old new stRows n || (planVal new O.stDest n == 1 && (plansDiffer old new nvRows d ||
    (List.range 8).any (fun i => [O.nvMNs, O.nvMStart, O.nvMCount].any (fun r => planVal old r d i != planVal new r d i))))

/-- Generator settings of a spectrogram. -/
def sgRows : List Row := [O.sgEnable, O.sgEngine, O.sgSrc, O.sgDetector, O.sgLineDiv, O.sgWidth, O.sgRingBase, O.sgRingLines]

/-- PTP settings of the device, and of a port. -/
def ptpRows : List Row := [O.ptpMode, O.ptpDomain, O.ptpTcLocal]
/-- as `ptpRows` -/
def ptpPortRows : List Row := [O.ptpRole, O.ptpTransport, O.ptpDelay]

/-- An enable object's value in a plan. -/
def onIn (p : Store) (r : Row) (i : Nat := 0) : Bool := planVal p r i == 1

/-- A unit that runs on under a new plan with other settings. -/
def moved (old new : Store) (en : Row) (rows : List Row) (i : Nat) : Bool := onIn old en i && onIn new en i && plansDiffer old new rows i

/-- The fault of a source has been handled: it is not the latched one (R437). -/
def State.handled (s : State) (src : Nat) : Bool := !(bit (s.reg O.frFirst) 15 && s.reg O.frFirst % 256 == src)

/-- Apply a change to a range of units. -/
def State.each (s : State) (n : Nat) (f : State → Nat → State) : State := (List.range n).foldl f s

/-! ### Before the switch -/

/-- Density planes whose source a plan changes. -/
def dnPlaneMoves (old new : Store) (p : Nat) : Bool :=
  planVal old O.dnPEngine 0 p != planVal new O.dnPEngine 0 p || planVal old O.dnPSrc 0 p != planVal new O.dnPSrc 0 p

/-- A slot reads a channel that a plan restarts or stops. -/
def slotLoses (old new : Store) (n : Nat) : Bool :=
  let lost := fun c => onIn old O.ticEnable c && (!onIn new O.ticEnable c || plansDiffer old new ticRows c)
  (List.range 8).any (fun c => readsChan old n c && lost c)

/-- What ends at the tick under the old settings: data taken already drains (R78). -/
def State.beforeSwitch (s : State) (new : Store) : State :=
  let old := s.active
  let s := s.ctxCutCommit new
  let s := s.each 8 (fun s n =>
    let s := s.drainTags n
    if plansDiffer old new [O.ticRingBase, O.ticRingSize] n then s.ringMoves n else s)
  let s := s.each 16 (fun s n =>
    if onIn old O.msEnable n then
      if !onIn new O.msEnable n || plansDiffer old new msRows n then s.slotStop n
      else if slotLoses old new n then s.slotBreak n else s
    else s)
  let s := s.each 32 (fun s n => if onIn old O.stEnable n && streamMoves old new n then s.streamStop n else s)
  let s := s.each 4 (fun s e => if onIn old O.teEnable e && !onIn new O.teEnable e && s.reg O.teState e == 1 then
    let s := s.engHalt e
    if (s.eng e).leaving then s.setEng e { s.eng e with isolated := true, leaving := false } else s
    else s)
  let s := s.each 32 (fun s m =>
    if onIn old O.ddcEnable m && !onIn new O.ddcEnable m then s.sliceStop m
    else if moved old new O.ddcEnable resetRows m then s.frameOut m true else s)
  let s := s.dnDue
  let s := if onIn old O.dnEnable then
      if !onIn new O.dnEnable then s.dnStop
      else s.each 2 (fun s p =>
        if plansDiffer old new [O.dnLayout, O.dnMode] 0 || dnPlaneMoves old new p then s.dnEndGroup p else s)
    else s
  let s := s.each 2 (fun s g => if onIn old O.sgEnable g && plansDiffer old new sgRows g then s.sgStop g else s)
  s.each 4 (fun s ch => if onIn old O.cvEnable ch && !onIn new O.cvEnable ch then
    let s := (s.convStop ch).unfault (0x24 + ch)
    let s := if (s.cv ch).leaving then s.setCv ch { s.cv ch with isolated := true, leaving := false } else s
    match s.fitting with
    | some (1, g, _) => if g = ch then s.fitFail 3 0 else s
    | _ => s
    else s)

/-- The entries of `lag` that are an engine's. -/
def isEngLag (e k : Nat) : Bool := (engRows ++ engSrcRows).any (fun r => r.key e 0 == k)

/-- Values that a running engine keeps until its boundary (R17, R133): those of its settings and sources that the plan changes. -/
def engLag (old new : Store) (lag : Map Nat) (e : Nat) : Map Nat :=
  if onIn old O.teEnable e && onIn new O.teEnable e then
    if plansDiffer old new engRows e || srcMoves old new e then
      (engRows ++ engSrcRows).foldl (fun m r =>
        let k := r.key e 0
        if planVal old r e = planVal new r e ∨ (Map.get m (2 ^ 80) k ≠ 2 ^ 80) then m else Map.ins k (planVal old r e) m) lag
    else lag
  else if onIn new O.teEnable e then lag
  else lag.filter (fun x => !isEngLag e x.1)

/-- The new plan becomes active. -/
def State.switchPlan (s : State) (new : Store) : State :=
  { s with active := new, lag := (List.range 4).foldl (engLag s.active new) s.lag }

/-! ### After the switch -/

/-- Converters: start, mode, and the plan that the next block is made under (R17, R27, R88, R94). -/
def State.convCommit (s : State) (old : Store) : State :=
  let s := s.each 4 (fun s ch =>
    if onIn s.active O.cvEnable ch then
      let fine := s.handled (0x20 + ch) && s.handled (0x24 + ch)
      let back := (s.cv ch).isolated && fine
      let s := if fine && ((s.cv ch).isolated || (s.cv ch).leaving) then s.setCv ch { s.cv ch with isolated := false, leaving := false } else s
      let s := if (!onIn old O.cvEnable ch || back) && s.locked then s.convStart ch else s
      let s := if planVal old O.calMode ch = s.plan O.calMode ch || !s.locked then s else s.convMode ch
      let c := s.cv ch
      if s.idx ≤ c.next then s.setCv ch { c with gen := s.reg O.planGen, fmt := s.plan O.cvFormat ch } else s
    else s)
  s.markBlocks 4

/-- Slices: starts and resets, retunes and gain changes (R116 to R119). -/
def State.sliceCommit (s : State) (old : Store) : State :=
  s.each 32 (fun s m =>
    if onIn s.active O.ddcEnable m then
      if !onIn old O.ddcEnable m then (s.sliceSettings m).sliceRestart m s.idx 2
      else
        let gain := plansDiffer old s.active [O.gainShift, O.gainFine] m
        if plansDiffer old s.active resetRows m then
          let gain := gain || (s.slice m).gain
          let s := s.sliceSettings m
          (if gain then s.gainApply m s.idx else s).sliceRestart m s.idx 3
        else
          let s := if planVal old O.ncoFtw m = s.plan O.ncoFtw m then s else s.ncoRetune m s.idx
          if gain then s.gainApply m s.idx else s
    else s.setReg O.groupDelay (s.sliceD m) m)

/-- The values that an engine still works under are its old ones. -/
def State.engLags (s : State) (e : Nat) : Bool := s.lag.any (fun x => isEngLag e x.1)

/-- Engines: starts; retired lanes that still serve leave service at a commit (R149); an engine that keeps old settings until its
boundary keeps their `PLAN_GEN` (R143). -/
def State.engCommit (s : State) (old : Store) : State :=
  s.each 4 (fun s e =>
    let s := s.engLanes e
    if onIn s.active O.teEnable e then
      let back := (s.eng e).isolated && s.handled (0x28 + e)
      let s := if s.handled (0x28 + e) then s.setEng e { s.eng e with leaving := false } else s
      let s := if s.engLags e then s else s.setEng e { s.eng e with gen := s.reg O.planGen }
      if !onIn old O.teEnable e || back then s.engStart e
      else if s.reg O.teState e = 1 then s.engFigures e else s.engWindow e
    else s.engWindow e)

/-- Density engine and spectrogram generators (R184, R187). Groups that the commit ended are plotted after its clear (R183). -/
def State.densityCommit (s : State) (old : Store) : State :=
  let moved := plansDiffer old s.active [O.dnLayout, O.dnMode] 0 || dnPlaneMoves old s.active 0 || dnPlaneMoves old s.active 1
  let s :=
    if onIn s.active O.dnEnable then
      let back := s.density.isolated && s.handled 0x2C
      let s := if back then { s with density := { s.density with isolated := false } } else s
      if !onIn old O.dnEnable || back then (s.setReg O.dnGroup (s.under s.active).dnG).dnStart
      else if moved then [(0 : Fin 2), 1].foldl (fun s p =>
        if plansDiffer old s.active [O.dnLayout, O.dnMode] 0 || dnPlaneMoves old s.active p.val then s.dnFlush p else s) (s.dnClear 2)
      else s
    else if moved && !onIn old O.dnEnable then s.dnClear 2
    else s
  s.each 2 (fun s g => if onIn s.active O.sgEnable g && plansDiffer old s.active sgRows g then s.sgStart g else s)

/-- `TIC_CAL_MODE` of a channel that runs has changed (R254, R255): mode 0 ends a rotation. -/
def State.ticMode (s : State) (n : Nat) : State :=
  let s := if s.plan O.ticCalMode n = 1 then s else s.unfault (0x48 + n)
  if s.plan O.ticCalMode n = 0 then
    let s := match s.idleIp n with | some i => if s.reg O.ipState n i = 2 then s.setReg O.ipState 1 n i else s | none => s
    s.setChan n { s.chan n with run := 0, again := false, swap := none, due := false }
  else s

/-- Counter channels and measurement slots (R238, R256, R264). -/
def State.counterCommit (s : State) (old : Store) : State :=
  let s := s.each 8 (fun s n =>
    if onIn s.active O.ticEnable n then
      let back := s.hidden H.isolated (0x48 + n) == 1 && s.handled (0x48 + n)
      let s := if back then s.setHidden H.isolated 0 (0x48 + n) else s
      let s := if planVal old O.ticCalMode n = s.plan O.ticCalMode n then s else s.ticMode n
      let s := if s.hidden H.isolated (0x48 + n) = 0 ∧ (!onIn old O.ticEnable n || back || plansDiffer old s.active ticRows n) then s.chanBegin n else s
      s.showTicCal n
    else if onIn old O.ticEnable n then s.chanStop n
    else s)
  s.each 16 (fun s n =>
    if plansDiffer old s.active msRows n then
      let s := s.adevClear n
      if onIn s.active O.msEnable n then s.slotStart n else s
    else s)

/-- Streams and DMA channels (R357, R366, R371). -/
def State.streamCommit (s : State) (old : Store) : State :=
  let s := if planVal old O.ptpUtcOffset = s.plan O.ptpUtcOffset then s else s.vdifRestartAll
  let s := s.each 32 (fun s n =>
    if onIn s.active O.stEnable n then
      let src := 0x68 + s.plan O.stNvSet n
      let back := s.plan O.stDest n == 1 && s.hidden H.isolated src == 1 && s.handled src
      let s := if back then s.setHidden H.isolated 0 src else s
      if streamMoves old s.active n || (back && s.reg O.stState n != 1 && s.reg O.stState n != 2) then s.streamStart n else s
    else s)
  s.each 64 State.dmaCommit

/-- Clocks, time and network (R287, R314, R315, R317, R330). -/
def State.timeCommit (s : State) (old : Store) : State :=
  let s := ((s.pllcCommit (planVal old O.pllcSrc)).laceCommit (planVal old O.laceEn)).clkoutShow
  let s := s.each 2 (fun s p => if s.plan O.ethRate p = 0 then s.ethTo p 0 else s)
  let s := s.each 2 (fun s p =>
    if plansDiffer old s.active ptpRows 0 || plansDiffer old s.active ptpPortRows p then s.ptpCommit p else s)
  if plansDiffer old s.active [O.tcServo, O.servoSrc] 0 then
    (s.setHidden H.servoGood 0).setServo (if s.plan O.tcServo = 1 then 0 else if s.timeUnset then 1 else 2)
  else s

/-- Display heads (R390, R402). -/
def State.headCommit (s : State) (old : Store) : State :=
  s.each 2 (fun s h =>
    if onIn s.active O.dpEnable h then (if onIn old O.dpEnable h then s.dpCommitTick h else s.dpStart h)
    else if onIn old O.dpEnable h then s.dpStop h
    else s)

/-- A committed change of `FROOT_HZ` or `PLLA_MODE` restarts PLL-A (R295). -/
def State.frootCommit (s : State) (old : Store) : State :=
  if plansDiffer old s.active [O.frootHz, O.pllaMode] 0 ∧ s.reg O.pllaState = 2 then (s.ticFroot (toF64 s.plannedHz)).pllaRestart else s

/-- Another order of addresses leaves the contents of DRAM undefined (R337). -/
def State.orderCommit (s : State) (old : Store) : State :=
  if planVal old O.drAddrOrder = s.plan O.drAddrOrder then s else s.setHidden H.memOrder (s.hidden H.memOrder + 1)

/-- Every unit under the new plan. -/
def State.afterSwitch (s : State) (old : Store) : State :=
  let s := s.orderCommit old
  let s := ((s.convCommit old).sliceCommit old).engCommit old
  let s := ((s.densityCommit old).ctxCommit old).tuCommit old
  let s := ((s.awCommit old).counterCommit old).streamCommit old
  let s := ((s.timeCommit old).headCommit old).pulseCommit old
  (s.planFigures.frootCommit old).offMaskCommit (planVal old O.pwrOffMask)

/-- `ACTIVE_POWER_EST`, `PWR_P0_EST`, `PWR_EXIT_NS` and the floors under the active plan (R77, R449, R452). They are worked out at a
commit alone: a link that comes up or goes down later changes none of them (DESIGN CHOICE, log entry 175). -/
def State.powerFigures (s : State) : State :=
  let t := s.under s.active
  let s := (s.setReg O.activePowerEst (toF32 t.powerEst)).setReg O.pwrP0Est (toF32 t.powerP0)
  (s.setReg O.pwrExitNs (s.exitNs 3) 0 3).pwrEval 1

/-- A plan becomes active at a tick: the units, `PLAN_GEN`, `COMMIT_TIME`, and the staged plan reloaded (R60, R63). -/
def State.activate (s : State) (new : Store) : State :=
  let old := s.active
  let s := s.beforeSwitch new
  let s := (s.bump O.planGen).setReg O.commitTime s.now
  let s := { (s.switchPlan new).afterSwitch old with active := new, staged := new }
  s.powerFigures

/-! ### The safe plan (R79) -/

/-- Set an object of every unit in a plan. -/
def clearRow (r : Row) (n : Nat) (p : Store) : Store := (List.range n).foldl (fun p i => Map.put p (r.default i 0) (r.key i 0) 0) p

/-- The safe plan that an active plan gives: what R79 keeps stays, every other unit is stopped. -/
def safeOf (p : Store) : Store :=
  let p := [(O.aqEnable, 16), (O.tuEnable, 16), (O.ddcEnable, 32), (O.teEnable, 4), (O.dnEnable, 1), (O.sgEnable, 2), (O.awEnable, 256),
    (O.ticEnable, 8), (O.msEnable, 16), (O.stEnable, 32), (O.dmaEnable, 64), (O.hkSlotStart, 32)].foldl (fun p q => clearRow q.1 q.2 p) p
  let p := (List.range 64).foldl (fun p n =>
    Map.put p (O.bnWEnable.default (n / 4) (n % 4)) (O.bnWEnable.key (n / 4) (n % 4)) 0) p
  (List.range 16).foldl (fun q g =>
    if planVal p O.pgMode g = 5 then q else Map.put q (O.pgMode.default g 0) (O.pgMode.key g 0) 0) p

/-- The safe plan takes effect, with its cause (Table 3.7): the awaiting and the pending plan are discarded. -/
def State.enterSafe (s : State) (cause : Nat) : State :=
  let s := { s with awaiting := none, armed := none }
  let s := ((s.taSafe.taFreePending).taFreeStaged).fitFail 3 3
  let s := s.activate (safeOf s.active)
  let s := s.each 2 State.dpSafe
  (s.raise 0x024 cause).setPlanState

end Sys2Proof.Machine
end

