-- ==== Sys2Proof/Machine/Plans.lean ====
section
/-! DEFINITION. Plan commands, admission, commit ticks and power transitions (spec 03_plans.md, R59 to R67, R76, R79; 20_power.md,
R447, R451). -/

namespace Sys2Proof.Machine

namespace H
/-- the pending plan was too close when it was armed (R64) -/
def pendLate : Nat := 510
end H

/-! ### The pending plan (R64, R319) -/

/-- The plan-commit entry of the pending plan. -/
def State.commitEntry (s : State) : Option Nat :=
  (List.range 512).find? (fun e => s.reg O.taState e == 2 && s.reg O.taKind e == 1)

/-- The pending plan is discarded with its entries. -/
def State.dropPending (s : State) : State :=
  let s := match s.commitEntry with | some e => s.taFreeEntry e | none => s
  ({ s.taFreePending with armed := none }.setHidden H.pendLate 0).setPlanState

/-- The lowest free entry of the table. -/
def State.freeEntry (s : State) : Option Nat := (List.range 512).find? (fun e => s.reg O.taState e == 0)

/-- The first fT tick at least 20 µs ahead, as elapsed time (R63). -/
def State.tick20 (s : State) : Nat :=
  let step := max s.inc 1
  s.up + (20000 * 2 ^ 64 + step - 1) / step * step

/-- `PENDING_TIME` lies less than 20 µs ahead. -/
def State.tooClose (s : State) : Bool := decide (T96.toTicks (s.reg O.pendingTime) < s.nowTicks + 20000 * 65536)

/-- An ARM freezes the staged plan and places its entry. -/
def State.armPlan (s : State) (e : Nat) : State :=
  let late := s.tooClose
  let s := ({ s with armed := some s.staged }.setReg O.taTime (s.reg O.pendingTime) e).setReg O.taKind 1 e
  let s := ((s.setReg O.taTarget 0 e).setReg O.taArg 0 e).setReg O.taPeriod 0 e
  let s := ((s.setReg O.taFlags (s.reg O.pendingLateOk) e).taFreeze).setReg O.taValid 1 e
  ((s.taArm e).setHidden H.pendFrom (if late then s.tick20 else 0)).setHidden H.pendLate (b2n late)

/-! ### Commands (R61) -/

/-- A plan command executes: what it changes. -/
def State.planRun (s : State) (v : Nat) : State :=
  match v with
  | 4 => s.reloadStaged
  | 5 => s.setHidden H.safeDue 1
  | 6 => s.dropPending
  | _ => { s with adm := some { cmd := v } }.setPlanState

/-- `PLAN_CMD` (R61 to R64, R451, R486). -/
def actPlanCmd (v : Nat) : Act := fun s =>
  if v = 0 ∨ 6 < v then .error Abort.range
  else if s.adm.isSome ∨ s.hidden H.planWait ≠ 0 then .error Abort.busy
  else if s.awaiting.isSome ∧ v ≤ 4 then .error Abort.busy
  else if s.hidden H.boot ≠ 7 ∧ (v = 2 ∨ v = 3 ∨ v = 5) then .error Abort.busy
  else if v = 3 ∧ (s.armed.isSome ∨ s.timeUnset) then .error Abort.busy
  else if v = 6 ∧ s.armed.isNone then .error Abort.range
  else
    let s := { s with issued := (s.xfers.filter Xfer.write).map Xfer.key }
    if 3 ≤ s.reg O.pwrState then .ok ((s.setHidden H.planWait v).wake 3).setPlanState else .ok ((s.wake 3).planRun v)

/-- A write of `PLAN_CMD`. -/
def planWrite (m : Master) (v : Nat) (s : State) : Result := s.command m O.planCmd v (actPlanCmd v)

/-- PLAN_ADMIT (R61). -/
def execPlanAdmit (m : Master) (s : State) : Result := planWrite m 1 s
/-- PLAN_COMMIT (R61, R63). -/
def execPlanCommit (m : Master) (s : State) : Result := planWrite m 2 s
/-- PLAN_ARM (R61, R64). -/
def execPlanArm (m : Master) (s : State) : Result := planWrite m 3 s
/-- PLAN_DISCARD (R60, R61). -/
def execPlanDiscard (m : Master) (s : State) : Result := planWrite m 4 s
/-- PLAN_SAFE (R61, R79). -/
def execPlanSafe (m : Master) (s : State) : Result := planWrite m 5 s
/-- PLAN_DISARM (R61). -/
def execPlanDisarm (m : Master) (s : State) : Result := planWrite m 6 s

/-! ### Admission (R62, R64, R70, R76) -/

/-- The machine under a plan that is judged: fROOT is the plan's own (R8, R291), and a store that the plan moves holds no image
(R209). -/
def State.judged (s : State) (p : Store) : State :=
  let t := if storeMoves s.active p then (s.under p).awInvalid else s.under p
  let r := pllaRatio (t.plan O.frootHz) (t.plan O.pllaMode)
  t.setReg O.frootActual (toF64 (100000000 * ((r.1 : Rat) + (r.2 : Rat) / (2 ^ 32 : Nat))))

/-- The commit tick that R323 judges staged entries by, a count of 2^-16 ns. -/
def State.judgeTick (s : State) (cmd : Nat) : Nat :=
  if cmd = 3 ∧ !s.tooClose then T96.toTicks (s.reg O.pendingTime) else (s.tc + (s.tick20 - s.up)) / 2 ^ 48

/-- What ARM is judged by beside the plan: a free entry, and lateness (R64). -/
def State.armFails (s : State) : List AdmFail :=
  clash s.freeEntry.isNone (O.pendingTime.key 0 0) (O.taFree.key 0 0) ++
  failIf (s.tooClose && s.reg O.pendingLateOk == 0) 0x10 (O.pendingTime.key 0 0)
    (some (seconds (T96.toTicks (s.reg O.pendingTime)), seconds (s.nowTicks + 20000 * 65536)))

/-- The failures of the staged plan. -/
def State.judge1 (s : State) (cmd : Nat) : List AdmFail :=
  (s.judged s.staged).admFails s cmd (s.judgeTick cmd) (s.floorLat == 0) ++ (if cmd = 3 then s.armFails else [])

/-- `ADM_VALUE` or `ADM_LIMIT` where the check compares no two numbers: a free value (log entry 7). -/
def State.admFree (s : State) : Nat × Nat × State :=
  let a := s.drawFree
  let b := a.2.drawFree
  (a.1 % 2 ^ 64, b.1 % 2 ^ 64, b.2)

/-- The result objects of the admission. -/
def State.admReport (s : State) (fails : List AdmFail) : State :=
  let s := (s.setReg O.admFailMask (admMask fails)).setReg O.admPowerEst (toF32 (s.judged s.staged).powerEst)
  match admFirst fails with
  | none => ((((s.setReg O.admResult 0).setReg O.admObject 0).setReg O.admObject2 0).setReg O.admValue 0).setReg O.admLimit 0
  | some f =>
    let s := ((s.setReg O.admResult f.code).setReg O.admObject (f.obj * 256)).setReg O.admObject2 (f.obj2 * 256)
    match f.nums with
    | some (v, l) => (s.setReg O.admValue (toF64 v)).setReg O.admLimit (toF64 l)
    | none =>
      let x := s.admFree
      (x.2.2.setReg O.admValue x.1).setReg O.admLimit x.2.1

/-- A plan is accepted: COMMIT awaits its tick, ARM becomes pending; an admission that step 3 overtook does neither (R438). -/
def State.admAccept (s : State) (a : Admission) : State :=
  if a.bare then s
  else match a.cmd with
  | 2 => (({ s with awaiting := some s.staged }.setHidden H.commitAt s.tick20).pwrFloors).setDomains 0
  | 3 => match s.freeEntry with
    | some e => ((s.armPlan e).pwrFloors).setDomains 0
    | none => s
  | _ => s

/-- ADMISSION_END (R62). -/
def execAdmissionEnd (s : State) : Result :=
  match s.adm with
  | none => .next s
  | some a =>
    let fails := s.judge1 a.cmd
    let s := { s with adm := none }.admReport fails
    let s := if fails.isEmpty then (s.raise 0x020 (256 * a.cmd)).admAccept a else s.raise 0x021 (s.reg O.admResult)
    .next s.setPlanState

/-! ### Ticks -/

/-- The awaiting plan commits (R63). -/
def State.commitNow (s : State) : State :=
  match s.awaiting with
  | none => s
  | some p =>
    let s := ({ s with awaiting := none }.taArmStaged).activate p
    (s.raise 0x022 (s.reg O.planGen)).setPlanState

/-- COMMIT_TICK (R63); a commit that reaches the steward in a state that cannot be distributed (`lost`) calls for the safe plan
(R79). -/
def execCommitTick (lost : Bool) (s : State) : Result :=
  if s.commitDue then .next (if lost then s.setHidden H.safeDue 3 else s.commitNow) else .next s

/-- The recheck of R65: spares that the plan demands, and engines that lanes lost since admission leave overloaded. -/
def State.spareLost (s : State) (p : Store) : Bool :=
  let t := s.judged p
  let spare := fun (l : List AdmFail) => l.any (fun f => f.code == 0x0D)
  spare t.admCv || spare t.admTic || spare (t.awPositions.flatMap t.admPosition) || spare (t.admTime s 0) ||
    (t.engsOn.flatMap t.admEngine).any (fun f => f.code == 5 && (List.range 4).any (fun e => f.obj == O.teOverlap.key e 0))

/-- The timed commit takes place: the entry fires, the pending entries are armed, entries still staged are freed (R323). -/
def State.timedCommit (s : State) (e : Nat) (p : Store) : State :=
  let late := (s.nowTicks - s.taDue e) / 65536
  let wasLate := s.hidden H.pendLate
  let s := s.taDone e
  let s := { s.taArmPending.taFreeStaged with armed := none }
  let s := s.activate p
  let s := if wasLate = 1 then (s.setHidden H.pendLate 0).raise 0x025 late else s
  (s.raise 0x022 (s.reg O.planGen)).setPlanState

/-- The timed commit that is due: its entry and its plan; step 3 of the ladder overrides it (R64, R438). -/
def State.timedDue (s : State) : Option (Nat × Store) :=
  match s.armed, s.commitEntry with
  | some p, some e => if s.pendDue e ∧ s.hidden H.safeDue < 2 then some (e, p) else none
  | _, _ => none

/-- The timed commit that is due takes place, or fails its recheck (R64, R65). -/
def State.timedNow (s : State) : State :=
  match s.timedDue with
  | some (e, p) => if s.spareLost p then s.dropPending.raise 0x023 0x0D else s.timedCommit e p
  | none => s

/-- TA_PLAN_COMMIT (R64, R65, R321); `lost` as in `execCommitTick` (R79). -/
def execTaPlanCommit (lost : Bool) (s : State) : Result :=
  if s.timedDue.isSome then .next (if lost then s.setHidden H.safeDue 3 else s.timedNow) else .next s

/-- An admission that step 3 of the ladder overtakes (R438). -/
def Admission.overtaken (a : Admission) : Admission := { a with bare := true }

/-- The safe plan that is due takes effect (R79): a running admission commits and arms nothing (R438). -/
def State.safeNow (s : State) : State :=
  let cause := s.hidden H.safeDue
  if cause = 0 then s else { s.setHidden H.safeDue 0 with adm := s.adm.map Admission.overtaken }.enterSafe cause

/-- SAFE_PLAN_TICK (R79). -/
def execSafePlanTick (s : State) : Result := .next s.safeNow

/-! ### Group resets (R114, R115, R117) -/

/-- The plan commits that are due at the present tick take place. -/
def State.commitsDue (s : State) : State :=
  let s := s.timedNow.safeNow
  if s.commitDue then s.commitNow else s

/-- The group resets once, for every cause that calls for it: every member, running or not (R114, R115). -/
def State.groupReset (s : State) : State :=
  let due := s.hidden H.syncDue
  let s := (((s.setHidden H.syncDue 0).bump O.groupSyncSeq).setReg O.groupLastT96 s.now).setReg O.groupLastCause due
  s.syncMembers.foldl (fun s m => s.sliceRestart m s.idx 1) s

/-- GROUP_RESET (R114, R115): a commit that falls on the same tick applies first (R117). -/
def execGroupReset (s : State) : Result := .next (if s.hidden H.syncDue = 0 then s else s.commitsDue.groupReset)

/-! ### Boundaries (R17) -/

/-- The engine takes its new settings at the boundary (R17, R134). A changed setting restarts every source that stays (cause 2), a
source newly taken begins (cause 3), one no longer taken ends; with the settings unchanged, a source that stays goes on. -/
def State.engBoundary (s : State) (e : Nat) : State :=
  if s.engLags e then
    let t := { s with lag := s.lag.filter (fun x => !isEngLag e x.1) }
    let sameKind := s.plan O.teSrcKind e == t.plan O.teSrcKind e
    let moved := plansDiffer s.view t.view engRows e
    let had := s.engSources e
    let has := t.engSources e
    let stays := fun src => sameKind && had.contains src && has.contains src
    let s1 := (had.filter (fun src => !stays src || moved)).foldl (fun u src => u.framingEnd e src (u.srcIndex e src (u.engSrc e src).next)) s
    let s2 := { s1 with lag := t.lag }
    let s3 := (had.filter (fun src => !stays src)).foldl (fun u src => u.setEngSrc e src {}) s2
    let s4 := has.foldl (fun u src =>
      if !stays src then u.beginSrc e src (t.framingStart e src) 3
      else if moved then u.beginSrc e src (t.framingStart e src) 2 else u) s3
    (s4.setEng e { s4.eng e with gen := s4.reg O.planGen }).engFigures e
  else s

/-- UNIT_BOUNDARY_APPLY (R17): a unit reaches its own boundary. Slices and streams apply at the commit tick; a context's and a
position's boundaries are those of R166 and R210, a head's is its clasp point. -/
def execUnitBoundaryApply (u : BoundaryUnit) (s : State) : Result :=
  match u with
  | .converter ch =>
    let c := s.cv ch.val
    if s.sampling ch.val ∧ s.idx ≤ c.next then
      .next (s.setCv ch.val { c with gen := s.reg O.planGen, fmt := s.plan O.cvFormat ch.val })
    else .next s
  | .engine e => .next (s.engBoundary e.val)
  | .head h => if s.dpSends h.val ∧ !(s.head h.val).clasped then .next (s.dpClaspPlan h.val) else .next s
  | .position p =>
    let k := posKey p
    let q := s.aw k
    if q.restart ∧ !q.running ∧ s.reg O.awState k = 1 then .next ((s.setAw k { q with restart := false }).awFresh k) else .next s
  | .slice _ => .next s
  | .context _ => .next s
  | .stream _ => .next s

/-! ### Power transitions (R447, R451) -/

/-- What entering a state does beside the domains: below P2 the root is off, in P4 the host is gone and PTP stops (R448). -/
def State.enterPwr (s : State) (st : Nat) : State :=
  let s := if 3 ≤ st ∧ s.reg O.pllaState ≠ 0 then (s.pathsStop.pllaStop true).setHidden H.restarting 0 else s
  if st = 4 then (s.hostGone).each 2 (fun s p => s.setPortState p PS.disabled)
  else s

/-- PWR_TRANSITION_DONE (R447, R451): a state that needs the root is reached once PLL-A has locked. -/
def execPwrTransitionDone (s : State) : Result :=
  let next := s.hidden H.pwrNext
  if next = 0 then .next s
  else
    let st := next - 1
    let old := s.reg O.pwrState
    if st ≤ 2 ∧ s.reg O.pllaState = 1 then .next s
    else
      let s := (s.enterPwr st).setHidden H.pwrNext 0
      let s := (s.setReg O.pwrState st).setDomains 0
      let s := if old = 4 ∧ st < 4 then s.each 2 State.ptpCommit else s
      let s := if old = st then s else s.raise 0x038 (st + 16 * old + 256 * s.hidden H.pwrCause)
      let v := s.hidden H.planWait
      if v ≠ 0 ∧ st ≤ 2 then .next ((s.setHidden H.planWait 0).planRun v).setPlanState else .next s

end Sys2Proof.Machine
end

