-- ==== Sys2Proof/Machine/Events.lean ====
section
/-! DEFINITION. The event unit: taking raises and delivering them on their routes, and moderation (spec 19_events_faults.md,
R425 to R432). -/

namespace Sys2Proof.Machine

namespace H
/-- offset of the next entry in the host event ring (R428) -/
def ringOff : Nat := 511
end H

/-! ### MSI-X (R429, R430) -/

/-- A message on a vector: none while the host is not connected, the PBA bit alone while it is masked. -/
def State.msixSend (s : State) (v : Nat) : State :=
  if s.hidden H.hostUp = 0 then s
  else if s.hidden H.unmasked v = 0 then s.setHidden H.pba 1 v
  else
    let s := s.emit (.msix v)
    if s.reg O.evModUs (v / 32) (v % 32) = 0 then s else s.setHidden H.modOn 1 v

/-- A raise is signalled on a vector. -/
def State.msixRaise (s : State) (v : Nat) : State :=
  if s.hidden H.modOn v = 1 then (if s.hidden H.hostUp = 1 then s.setHidden H.modPend 1 v else s) else s.msixSend v

/-! ### The ring (R428) -/

/-- An entry (Table 19.1). -/
def ringEntry (data seq t96 merged event : Nat) : Nat :=
  data * 2 ^ 192 + seq * 2 ^ 160 + t96 * 2 ^ 64 + merged * 65536 + event

/-- A raise on the ring route: entry, write pointer and `RING_SEQ`. -/
def State.ringWrite (s : State) (event t96 merged data : Nat) : State :=
  let size := s.reg O.evRingSize
  if size = 0 then s else
  let seq := s.reg O.evRingSeq
  let s := s.bump O.evRingSeq
  if s.hidden H.hostUp = 0 then s else
  let off := s.hidden H.ringOff
  let next := (off + 32) % size
  let s := s.emit (.hostWrite (s.reg O.evRingBase + off) (leBytes (ringEntry data seq t96 merged event) 32))
  (s.emit (.hostWrite (s.reg O.evRingWpAddr) (leBytes next 8))).setHidden H.ringOff next

/-! ### Delivery (R426, R427) -/

/-- The routes of an enabled source. -/
def State.deliver (s : State) (e t96 merged data : Nat) : State :=
  let route := s.reg O.evRoute (e / 32) (e % 32)
  let s := if bit route 11 then (s.ringWrite e t96 merged data).msixRaise (bits route 10 0) else s
  let s := if bit route 16 then s.pgFireNow (bits route 15 12) else s
  (List.range 9).foldl (fun s n => s.queueEvent n e t96 data) s

/-- The event unit takes a raise. -/
def State.takeRaise (s : State) (r : Raise) : State :=
  let b := r.event / 32
  let i := r.event % 32
  let s := s.setReg O.evPending (setBit (s.reg O.evPending b) i true) b
  if bit (s.reg O.evEnable b) i then s.deliver r.event s.now r.merged r.data else s

/-- EVENT_RAISE (R425, R426). -/
def execEventRaise (s : State) : Result :=
  match s.raises with
  | r :: rs => .next ({ s with raises := rs }.takeRaise r)
  | [] => .next s

/-- EV_MOD_EXPIRE (R430). -/
def execEvModExpire (v : Fin 2048) (s : State) : Result :=
  let pend := s.hidden H.modPend v.val
  let s := (s.setHidden H.modOn 0 v.val).setHidden H.modPend 0 v.val
  .next (if pend = 1 then s.msixSend v.val else s)

/-- EV_ADP_MOD_EXPIRE (R431). -/
def execEvAdpModExpire (n : Fin 9) (s : State) : Result := .next (s.sendEvents n.val)

/-- MSIX_UNMASK (R429). -/
def execMsixUnmask (v : Fin 2048) (s : State) : Result :=
  if s.hidden H.hostUp = 0 then .next s else
  let held := s.hidden H.pba v.val
  let s := (s.setHidden H.unmasked 1 v.val).setHidden H.pba 0 v.val
  .next (if held = 1 then s.msixRaise v.val else s)

/-! ### Objects (R426, R432) -/

/-- `EV_CLEAR`. -/
def actEvClear (word v : Nat) : Act := fun s =>
  .ok (s.setReg O.evPending (s.reg O.evPending word - (s.reg O.evPending word &&& v)) word)

/-- EV_CLEAR (R426). -/
def execEvClear (m : Master) (word : Fin 64) (value : Nat) (s : State) : Result :=
  s.command m O.evClear value (actEvClear word.val value)

/-- `EV_RING_BASE` and `EV_RING_SIZE`: a change restarts the ring. -/
def actEvRing (r : Row) (v : Nat) : Act := fun s =>
  if s.reg r = v then .ok s else .ok ((s.setReg r v).setHidden H.ringOff 0)

/-- EV_RING_CONFIG_WRITE (R432). -/
def execEvRingConfigWrite (m : Master) (size : Bool) (value : Nat) (s : State) : Result :=
  let r := if size then O.evRingSize else O.evRingBase
  s.command m r value (actEvRing r value)

end Sys2Proof.Machine
end

