-- ==== Sys2Proof/Machine/Faults.lean ====
section
/-! DEFINITION. Fault collection and the reaction ladder (spec 19_events_faults.md, R433 to R441). -/

namespace Sys2Proof.Machine

namespace H
/-- repair rows used, by macro group (R462) -/
def repairRows : Nat := 516
end H

/-! ### Classes (Table 19.4) -/

/-- Class of a source: 0 correctable, 1 recoverable, 2 fatal; none for a reserved source. -/
def faultClass (src : Nat) : Option Nat :=
  if [0x00, 0x01, 0x12, 0x58].contains src then some 2
  else if 0x80 ≤ src ∧ src ≤ 0xBF then some 0
  else if (0x08 ≤ src ∧ src ≤ 0x11) ∨ (0x20 ≤ src ∧ src ≤ 0x2C) ∨ (0x30 ≤ src ∧ src ≤ 0x41) ∨ (0x48 ≤ src ∧ src ≤ 0x57) ∨
      src = 0x60 ∨ src = 0x61 ∨ (0x68 ≤ src ∧ src ≤ 0x6F) then some 1
  else none

/-- A bit of `FR_RAW`, `FR_WIRE` or `FR_MASK`. -/
def State.frBit (s : State) (r : Row) (src : Nat) : Bool := (s.reg r 0 (src / 64)).testBit (src % 64)

/-- Set it. -/
def State.setFrBit (s : State) (r : Row) (src : Nat) (b : Bool) : State :=
  s.setReg r (setBit (s.reg r 0 (src / 64)) (src % 64) b) 0 (src / 64)

/-- The class that a source's fault has: with a wire fault at least recoverable (R433). -/
def State.effClass (s : State) (src : Nat) : Nat :=
  let c := (faultClass src).getD 0
  if s.frBit O.frWire src then max c 1 else c

/-- A source is masked. -/
def State.masked (s : State) (src : Nat) : Bool := s.frBit O.frMask src

/-- A fault is latched. -/
def State.latched (s : State) : Option Nat :=
  if bit (s.reg O.frFirst) 15 then some (s.reg O.frFirst % 256) else none

/-! ### Step 2: isolation (R437, Table 19.4) -/

/-- A converter channel stops at its next block boundary. -/
def State.isolateConv (s : State) (ch : Nat) : State :=
  let s := if s.sampling ch ∧ (s.cv ch).next < s.idx then s.setCv ch { s.cv ch with leaving := true } else s.convLeave ch
  match s.fitting with
  | some (1, g, _) => if g = ch then s.fitFail 3 0 else s
  | _ => s

/-- A transform engine stops at its next spectrum. -/
def State.isolateEng (s : State) (e : Nat) : State :=
  if s.reg O.teState e = 1 then s.setEng e { s.eng e with leaving := true } else s.setEng e { s.eng e with isolated := true }

/-- The density engine stops. -/
def State.isolateDensity (s : State) : State :=
  let s := if s.reg O.dnState = 0 then s else s.dnStop
  { s with density := { s.density with isolated := true } }

/-- A counter channel stops; gates that read it close early. -/
def State.isolateChan (s : State) (n : Nat) : State :=
  let s := s.each 16 (fun s sl => if readsChan s.active sl n then s.gateShort sl else s)
  (s.chanStop n).setHidden H.isolated 1 (0x48 + n)

/-- The streams to a drive set stop. -/
def State.isolateSet (s : State) (d : Nat) : State :=
  (s.each 32 (fun s n => if s.plan O.stDest n = 1 ∧ s.plan O.stNvSet n = d then s.streamKill n else s)).setHidden H.isolated 1 (0x68 + d)

/-- A repair row of a macro replaces the failing row; none once all eight are used (R462). Which macro of the group it is in, the
fault's data do not say: the record's DATA is a free value (log entry 7). -/
def State.repairRow (s : State) (g : Nat) : State :=
  let used := s.hidden H.repairRows g
  if 8 ≤ used then s else
  let s := (s.setHidden H.repairRows (used + 1) g).bumpSat O.poolRetired 0 6
  let s := s.setReg O.poolSpares (min (s.reg O.poolSpares 0 6) (7 - used)) 0 6
  let r := s.drawFree
  let s := r.2.happen { type := 5, pool := 7, group := g, unit := used, data := r.1 % 256 }
  if used = 7 then s.raise 0x7FA g else s

/-- The step-2 action of a source's row. -/
def State.isolate (s : State) (src : Nat) : State :=
  if 0x20 ≤ src ∧ src ≤ 0x27 then s.isolateConv (src % 4)
  else if 0x28 ≤ src ∧ src ≤ 0x2B then s.isolateEng (src - 0x28)
  else if src = 0x2C then s.isolateDensity
  else if 0x48 ≤ src ∧ src ≤ 0x4F then s.isolateChan (src - 0x48)
  else if 0x68 ≤ src ∧ src ≤ 0x6F then s.isolateSet (src - 0x68)
  else if 0x80 ≤ src ∧ src ≤ 0xBF then s.repairRow (src - 0x80)
  else s

/-! ### Steps 3 and 4 -/

/-- Step 3: the safe plan is committed at the next tick; a running admission commits and arms nothing (R438). -/
def State.safeStep (s : State) : State := { s.setHidden H.safeDue 2 with adm := s.adm.map Admission.overtaken }

/-- PPSOUT, the lacing drivers and CLKOUT are parked. -/
def State.park (s : State) : State :=
  ([16, 17, 18, 19, 20, 21, 22].foldl (fun s b => s.emit (.ball b false)) s.laceIdle).clkoutShow

/-- Step 4 (Table 19.3). -/
def State.safeState (s : State) (src : Nat) : State :=
  let s := ((s.setReg O.frSafe 1).pgTripAll).park
  let s := s.dmaAbort 4 (fun _ _ => true)
  let s := (s.each 32 State.streamKill).fitFail 3 3
  s.raise 0x032 src

/-- A step of the ladder. -/
def State.frStep (s : State) (step src : Nat) : State :=
  match step with
  | 2 => s.isolate src
  | 3 => s.safeStep
  | 4 => s.safeState src
  | _ => s

/-! ### The latch (R435, R436) -/

/-- A source is latched: its record, its class's starting step, and `FR_LATCHED`. -/
def State.latch (s : State) (src : Nat) (same : Bool) : State :=
  let w := b2n (s.frBit O.frWire src)
  let c := s.effClass src
  let s := s.setReg O.frFirst (src + 256 * w + 512 * c + 0x8000)
  let s := (s.setReg O.frFirstT96 s.now).setReg O.frFirstData (s.hidden H.driveData src)
  let step := if c = 2 then 3 else 1
  let s := (s.setReg O.frState step).raise 0x030 (src + 256 * w + 1024 * c + 4096 * b2n same)
  s.frStep step src

/-- Sources that may latch, in order of number. -/
def State.candidates (s : State) : List Nat :=
  (List.range 256).filter (fun n => s.faultRaw n && !s.masked n && s.hidden H.acked n == 0)

/-- The source of the highest class, the lowest number among equals. -/
def State.highest (s : State) (l : List Nat) : Option Nat :=
  [2, 1, 0].findSome? (fun c => l.find? (fun n => s.effClass n == c))

/-- No fault is latched: the collector latches what still shows a fault. -/
def State.relatch (s : State) : State :=
  match s.highest s.candidates with
  | some src => s.latch src false
  | none => s

/-- The latched fault is handled: by its acknowledgement, or by the device for a correctable one. An occurrence is released
(R441), and the source may latch again only when it has counted anew. -/
def State.frFree (s : State) (src : Nat) : State :=
  let s := (s.setReg O.frFirst (s.reg O.frFirst % 0x8000)).setReg O.frState 0
  let s := if s.faultRaw src then s.setHidden H.acked 1 src else s
  (s.setHidden H.held 0 src).relatch

/-! ### Rails (R433, R435) -/

/-- Occurrence sources that no unit of the model drives: a second change to fault is a further occurrence (R441). -/
def outsideOccurrence (src : Nat) : Bool := src == 0x01 || (0x80 ≤ src && src ≤ 0xBF)

/-- A unit of the model drives a source's rails, and what they show is no wire fault: then they are what the unit drives. That the
steward's watchdog has service again only its rails say. -/
def State.railWrong (s : State) (c : RailChange) : Bool :=
  !outsideOccurrence c.src.val && c.p != c.n && (c.src.val != 0 || c.p) &&
    c.p != (s.hidden H.drive c.src.val == 1 || s.hidden H.held c.src.val == 1)

/-- The counted state of one source changes: whether it counted a fault. A change that is none of what its unit drives does not
happen. -/
def State.railCount (s : State) (c : RailChange) : State × Bool :=
  let src := c.src.val
  if (faultClass src).isNone ∨ s.railWrong c then (s, false) else
  let shows := c.p || !c.n
  let s := if src = 0 ∧ !shows then s.unfault 0 else s
  let old := s.faultRaw src
  let s := (s.setFrBit O.frRaw src shows).setFrBit O.frWire src (c.p == c.n)
  if !shows then (s.setHidden H.acked 0 src, false)
  else if old then (if outsideOccurrence src then s.bumpSat O.frCount 0 src else s, false)
  else
    let own := s.hidden H.drive src = 1 ∨ s.hidden H.held src = 1
    let s := if own then s else s.setHidden H.driveData c.data.toNat src
    (s.bumpSat O.frCount 0 src, true)

/-- The changes of one fP cycle: sources that counted a fault, in order. -/
def State.railCounts (s : State) : List RailChange → State × List Nat
  | [] => (s, [])
  | c :: cs =>
    let a := s.railCount c
    let b := a.1.railCounts cs
    (b.1, if a.2 then c.src.val :: b.2 else b.2)

/-- FAULT_RAIL_CHANGE (R433, R435): the changes that count in one fP cycle. -/
def execFaultRailChange (changes : List RailChange) (s : State) : Result :=
  let (s, counted) := s.railCounts changes
  let fresh := counted.filter (fun n => !s.masked n)
  match s.latched with
  | some l => .next (if fresh.any (· != l) then s.setReg O.frOverflow 1 else s)
  | none =>
    if fresh.isEmpty then .next s else
    match s.highest s.candidates with
    | none => .next s
    | some src =>
      let same := fresh.any (· != src)
      let s := if same then s.setReg O.frOverflow 1 else s
      .next (s.latch src same)

/-- FAULT_MASKED_DROP (R441): a masked occurrence source drops its state. -/
def execFaultMaskedDrop (src : Fin 256) (s : State) : Result :=
  .next (if s.masked src.val then s.setHidden H.held 0 src.val else s)

/-- STEWARD_WATCHDOG (R440). -/
def execStewardWatchdog (s : State) : Result := .next (s.fault 0x00 0)

/-- FR_TIMER_EXPIRE (R436): the reaction advances one step; a correctable fault's latch is freed after step 2. -/
def execFrTimerExpire (s : State) : Result :=
  match s.latched with
  | none => .next s
  | some src =>
    let step := s.reg O.frState + 1
    if 4 < step then .next s
    else
      let s := ((s.setReg O.frState step).frStep step src).raise 0x031 (step + 256 * src)
      .next (if bits (s.reg O.frFirst) 10 9 = 0 then s.frFree src else s)

/-! ### Commands (R434, R438, R439) -/

/-- `FR_ACK`. -/
def actFrAck (v : Nat) : Act := fun s =>
  match s.latched with
  | none => .error Abort.range
  | some src => if v = src then .ok ((s.setReg O.frOverflow 0).frFree src) else .error Abort.range

/-- FR_ACK (R438). -/
def execFrAck (m : Master) (value : Nat) (s : State) : Result := s.command m O.frAck value (actFrAck value)

/-- Fatal sources of a word of `FR_MASK`. -/
def fatalBits (word : Nat) : Nat := if word = 0 then 2 ^ 0x00 + 2 ^ 0x01 + 2 ^ 0x12 else if word = 1 then 2 ^ (0x58 - 0x40) else 0

/-- `FR_MASK`: a fatal source is not masked; an unmasked source that shows a fault latches where none is latched. -/
def actFrMask (word v : Nat) : Act := fun s =>
  if v &&& fatalBits word ≠ 0 then .error Abort.range
  else
    let s := s.setReg O.frMask v 0 word
    .ok (if s.latched.isSome then s else s.relatch)

/-- `FR_RELEASE`. -/
def actFrRelease (v : Nat) : Act := onlyOne v fun s =>
  if s.reg O.frSafe = 0 then .error Abort.range
  else if (List.range 256).any (fun n => s.faultRaw n && faultClass n == some 2) then .error Abort.busy
  else
    .ok ((s.setReg O.frSafe 0).pgReleaseAll.clkoutShow.raise 0x034)

/-- FR_RELEASE (R439). -/
def execFrRelease (m : Master) (value : Nat) (s : State) : Result := s.command m O.frRelease value (actFrRelease value)

end Sys2Proof.Machine
end

