-- ==== Sys2Proof/Machine/Live.lean ====
section
/-! DEFINITION. Writes of LIVE objects (spec 02_dictionary.md R35; 03_plans.md R63, R66; 05_slices.md R118, R119). -/

namespace Sys2Proof.Machine

/-- An object's value replaced in a plan. -/
def putVal (r : Row) (i j v : Nat) (p : Store) : Store := Map.put p (r.default i j) (r.key i j) v

/-- Reason that a write breaks a plan with: the first check in the order of Table 3.4 that the plan passed and no longer passes. -/
def State.liveBreaks (s : State) (r : Row) (i j v : Nat) (p : Store) : Option Nat :=
  let before := (s.judged p).admFails s 1 0 false
  let after := (s.judged (putVal r i j v p)).admFails s 1 0 false
  (admFirst (after.filter (fun f => !before.any (fun g => g.code == f.code && g.obj == f.obj)))).map (·.code)

/-- The value in the active, staged, awaiting and pending plans. -/
def State.livePut (s : State) (r : Row) (i j v : Nat) : State :=
  let f := putVal r i j v
  { s with active := f s.active, staged := f s.staged, awaiting := s.awaiting.map f, armed := s.armed.map f }

/-- A LIVE write (R35, R66): it is checked against every plan that exists. -/
def actLive (r : Row) (i j v : Nat) : Act := fun s =>
  match s.plans.filterMap (s.liveBreaks r i j v) with
  | c :: _ => .error (Abort.adm c)
  | [] => .ok (s.livePut r i j v)

/-- `PTP_UTC_OFFSET`: a change restarts VDIF framing (R371). -/
def actUtcOffset (v : Nat) : Act := fun s =>
  (actLive O.ptpUtcOffset 0 0 v s).map (fun t => if s.plan O.ptpUtcOffset = v then t else t.vdifRestartAll)

/-- `NCO_FTW` (R118): the retune takes place at the next tick. -/
def actNcoFtw (m v : Nat) : Act := fun s =>
  (actLive O.ncoFtw m 0 v s).map (fun t => t.setSlice m { t.slice m with retune := true })

/-- `GAIN_SHIFT` and `GAIN_FINE` (R119). -/
def actSliceGain (m : Nat) (fine : Bool) (v : Nat) : Act := fun s =>
  (actLive (if fine then O.gainFine else O.gainShift) m 0 v s).map (fun t => t.setSlice m { t.slice m with gain := true })

/-- NCO_FTW_WRITE (R118). -/
def execNcoFtwWrite (m : Master) (sl : Fin 32) (value : Nat) (s : State) : Result :=
  s.command m O.ncoFtw value (actNcoFtw sl.val (value &&& O.ncoFtw.mask))

/-- SLICE_GAIN_WRITE (R119). -/
def execSliceGainWrite (m : Master) (sl : Fin 32) (fine : Bool) (value : Nat) (s : State) : Result :=
  s.command m (if fine then O.gainFine else O.gainShift) value (actSliceGain sl.val fine value)

end Sys2Proof.Machine
end

