-- ==== Sys2Proof/Machine/Service.lean ====
section
/-! DEFINITION. Fitting, the wear ledger and the flash stores (spec 21_service.md, R463 to R475; 02_dictionary.md, R38). -/

namespace Sys2Proof.Machine

namespace H
/-- the parameter store is being written: its slot plus one (R38) -/
def paramRun : Nat := 517
/-- elapsed time of the calibration store's last completed write since power-up, plus one; 0 none -/
def calWritten : Nat := 547
end H

/-! ### Fitting (R463 to R466) -/

/-- A unit of Table 21.1 that can be fitted. -/
def fitUnit (pool group unit : Nat) : Bool :=
  match pool with
  | 1 => decide (group < 4 ∧ unit < 17)
  | 2 => decide (group < 4 ∧ unit < 9)
  | 3 => decide (group < 16 ∧ unit < 17)
  | 4 => decide (group < 8 ∧ unit < 5)
  | 5 => decide (group = 0 ∧ unit < 66)
  | 6 => decide (group < 4 ∧ unit < 3)
  | _ => false

/-- A density bank serves, or is being copied into service. -/
def State.bankServes (s : State) (p : Nat) : Bool :=
  (List.range 64).any (fun b => s.dnBank b == p) || s.density.copies.any (fun c => c.2 == p)

/-- A precondition of a fitting does not hold (R464, Table 21.1). -/
def State.fitBlocked (s : State) (pool group unit : Nat) : Bool :=
  match pool with
  | 1 => !s.sampling group
  | 2 => bit (s.reg O.teLaneMap group) unit
  | 3 => s.plan O.awEnable (16 * group + s.reg O.bnFitPos group) == 0
  | 5 => s.bankServes unit
  | 6 => s.migrating.isSome || !s.migQueue.isEmpty
  | _ => false

/-- The unit's own status reads fitting. -/
def State.unitFitting (s : State) (pool group unit : Nat) : State :=
  match pool with
  | 1 => s.setReg O.scState 4 group unit
  | 3 => { s.setReg O.bnPhysState 3 group unit with shadows := [{ bench := group, phys := unit, pos := s.reg O.bnFitPos group,
                                                                      copied := !(s.aw (16 * group + s.reg O.bnFitPos group)).running, frames := 0 }] }
  | 4 => s.setReg O.ipState 4 group unit
  | 6 => s.setReg O.drPosState 4 group unit
  | _ => s

/-- A fitting starts. -/
def State.fitStart (s : State) (pool group unit : Nat) : State :=
  let t := fitLayout pool group unit
  let s := ((s.setReg O.fitState 1).setReg O.fitTarget t).setReg O.fitProgress 0
  let s := ((s.setHidden H.fitFrom s.up).setHidden H.fitIdx s.idx).setHidden H.fitAgain 0
  ((s.unitFitting pool group unit).setDomains 0).raise 0x7F0 t

/-- `FIT_CMD`. -/
def actFit (w : Nat) : Act := fun s =>
  let v := w &&& O.fitCmd.mask
  let pool := bits v 7 0
  let group := bits v 15 8
  let unit := bits v 23 16
  if pool = 0 then (if s.reg O.fitState = 1 then .ok ((s.fitFail 3 0).setDomains 0) else .error Abort.range)
  else if !fitUnit pool group unit || !s.isRetired pool group unit then .error Abort.range
  else if s.reg O.fitState = 1 ∨ s.fitBlocked pool group unit then .error Abort.busy
  else .ok (s.fitStart pool group unit)

/-- FIT_CMD (R463, R464). -/
def execFitCmd (m : Master) (value : Nat) (s : State) : Result := s.command m O.fitCmd value (actFit value)

/-- FIT_ABANDON (R465): `FIT_CMD` with pool code 0. -/
def execFitAbandon (m : Master) (s : State) : Result := s.command m O.fitCmd 0 (actFit 0)

/-- A sub-converter becomes the idle one. -/
def State.scBack (s : State) (ch sc : Nat) (m : CalMeas) : State :=
  let s := (((s.scCorrect ch sc m).setReg O.scState 1 ch sc).setReg O.idleSc sc ch).setReg O.sparePresent 1 ch
  let s := s.setCv ch (let c := s.cv ch; if s.sampling ch ∧ c.next < s.idx then c.mark (c.next / 65536) BF.noSpare else c)
  (s.setReg O.calState (if s.plan O.calMode ch = 0 then 2 else 0) ch).unfault (0x24 + ch)

/-- A lane becomes the spare; a retired lane still in service is replaced at the next spectrum boundary. -/
def State.laneBack (s : State) (e lane : Nat) : State :=
  let x := s.eng e
  let serving := (List.range 9).find? (fun l => bit x.serving l)
  let x := { x with retired := setBit x.retired lane false, failing := if x.failing.isSome then x.failing else serving }
  ((s.setEng e x).setReg O.teSpareLane lane e).setTeCapacity e

/-- A core becomes the bench's spare; a position without a core is loaded into it (R212). -/
def State.coreBack (s : State) (b c : Nat) : State :=
  let pos := (s.shadows.head?.map (·.pos)).getD 0
  let s := { s with shadows := [] }.raise (0x480 + 17 * b + c) (7 + 256 * pos)
  match (List.range 16).find? (fun i => s.reg O.awState (16 * b + i) == 3 && (s.aw (16 * b + i)).loading.isNone) with
  | some i =>
    let k := 16 * b + i
    ((s.setAw k { s.aw k with loading := some (c, s.reg O.awPhys k) }).setReg O.bnPhysState 1 b c).spareTaken 3
  | none => (s.setReg O.bnPhysState 1 b c).setReg O.bnSpare c b

/-- An interpolator becomes the idle one, or joins a turn of fewer than four. -/
def State.ipBack (s : State) (n ip : Nat) (hits : List Nat) : State :=
  let s := s.setDom O.loupeTable ((loupeTable s.fcPeriod hits).flatMap (fun v => leBytes v 4)) (16 * n + ip)
  let c := s.chan n
  let c := { c with age := Map.put c.age 0 ip (c.ageLast + 1), ageLast := c.ageLast + 1 }
  if c.turn.length < 4 then
    (((s.setChan n { c with turn := c.turn ++ [ip] }).setReg O.ipState 0 n ip).setSpacing n).spareTaken 4
  else
    let s := (s.setChan n c).setReg O.ipState 1 n ip
    (s.setReg O.ticCalState (if s.plan O.ticCalMode n = 0 then 2 else 0) n).unfault (0x48 + n)

/-- A rank position becomes a spare; a rank left in service without one starts its retirement. -/
def State.rankBack (s : State) (ch pos : Nat) : State :=
  let s := ((s.setReg O.drPosState DP.spare ch pos).setDrBw).raise 0x7CA (ch + 4 * pos + 256)
  let bad := s.hidden H.driveData (0x50 + ch)
  if s.hidden H.drive (0x50 + ch) = 1 then (s.unfault (0x50 + ch)).drRetire ch bad else s

/-- The pools' effects of a pass (Table 21.1). -/
def State.unitBack (s : State) (pool group unit : Nat) (r : FitResult) : State :=
  match pool, r with
  | 1, .conv m => s.scBack group unit m
  | 2, _ => s.laneBack group unit
  | 3, _ => s.coreBack group unit
  | 4, .loupe hits _ => s.ipBack group unit hits
  | 5, _ => (s.bump O.dnSpareBanks).dnSpareBack
  | 6, _ => s.rankBack group unit
  | _, _ => s

/-- A result passes; none where it is not one of the pool's. -/
def State.fitPasses (s : State) (pool : Nat) (r : FitResult) : Option Bool :=
  match pool, r with
  | 1, .conv m => some (calReason m == 0)
  | 4, .loupe hits hard => some (loupeReason hits hard == 0)
  | 1, .test _ => none
  | 4, .test _ => none
  | 3, .test p => some (p && decide (256 ≤ (s.shadows.head?.map (·.frames)).getD 0))
  | _, .test p => some p
  | _, _ => none

/-- A fitting passes (R466): `FIT_PASSED` follows the record. -/
def State.fitPass (s : State) (pool group unit : Nat) (r : FitResult) : State :=
  let s := (s.setReg O.fitState 2).setReg O.fitProgress 1000
  let s := (s.setHidden H.retired 0 (unitKey pool group unit)).setReg O.poolRetired (s.reg O.poolRetired 0 (pool - 1) - 1) 0 (pool - 1)
  let s := s.bump O.poolSpares 0 (pool - 1)
  (s.unitBack pool group unit r).happen { type := 2, pool := pool, group := group, unit := unit }

/-- The reason of Table 21.3 that a failed run gives. -/
def fitReason (pool : Nat) (r : FitResult) : Nat :=
  match pool, r with
  | 3, _ => 2
  | 4, .loupe hits hard => if loupeReason hits hard = 4 then 4 else 1
  | _, _ => 1

/-- A run fails: the first one of a sub-converter or an interpolator is repeated (Table 21.1), and of the others none. -/
def State.fitRunFails (s : State) (pool : Nat) (r : FitResult) : State :=
  if (pool = 1 ∨ pool = 4) ∧ s.hidden H.fitAgain = 0 then (s.setHidden H.fitAgain 1).setHidden H.fitIdx s.idx
  else s.fitFail (fitReason pool r) (if pool = 3 then 1 else 0)

/-- FIT_END (R466): a core whose shadow run has shown no difference for fewer than 256 frames has not passed. -/
def execFitEnd (r : FitResult) (s : State) : Result :=
  match s.fitting with
  | none => .next s
  | some (pool, group, unit) =>
    match s.fitPasses pool r with
    | none => .next s
    | some true => .next (s.fitPass pool group unit r)
    | some false => .next (s.fitRunFails pool r)

/-! ### The wear ledger (R467 to R470) -/

/-- The active half. -/
def State.half (s : State) : LedgerHalf := s.flash.halves.get s.flash.active

/-- Positions of a half. -/
def ledgerRoom : Nat := 1022

/-- `LEDGER_GEN` and `LEDGER_FREE`. -/
def State.ledgerShow (s : State) : State :=
  (s.setReg O.ledgerGen s.half.gen).setReg O.ledgerFree (ledgerRoom - s.half.recs.length)

/-- A record goes to the next free position. -/
def State.ledgerPut (s : State) (r : LedgerRec) : State :=
  let h := { s.half with recs := s.half.recs ++ [r] }
  { s with flash := { s.flash with halves := s.flash.halves.set s.flash.active h } }.ledgerShow

/-- What follows a record: `LEDGER_RETIRED`, `FIT_PASSED` or `FIT_FAILED` (R469). -/
def State.ledgerEvent (s : State) (r : LedgerRec) : State :=
  let t := fitLayout r.pool r.group r.unit
  match r.type with
  | 1 => s.raise 0x7F3 (t + 2 ^ 32 * (r.data % 256))
  | 2 => (s.setDomains 0).raise 0x7F1 t
  | 3 => (s.setDomains 0).raise 0x7F2 (t + 2 ^ 32 * (r.data % 256))
  | _ => s

/-- LEDGER_RECORD_WRITE (R469): the oldest happening. One whose verification fails leaves a position with a bad CRC, type 255
here with free contents (log entry 7), and stays to be written. -/
def execLedgerRecordWrite (verified : Bool) (s : State) : Result :=
  match s.ledgerDue with
  | [] => .next s
  | r :: rest =>
    if ledgerRoom ≤ s.half.recs.length then .next s
    else if verified then
      let r := { r with seq := s.flash.seq }
      let s := { s with ledgerDue := rest, flash := { s.flash with seq := (s.flash.seq + 1) % 2 ^ 32 } }
      .next ((s.ledgerPut r).ledgerEvent r)
    else
      let (v, s) := s.drawFree
      .next (((s.ledgerPut { type := 255, data := v }).bumpSat O.ledgerBad).raise 0x7FB 2)

/-- DATA of an hours record. -/
def State.hoursData (s : State) : Nat :=
  s.reg O.hoursPowered % 2 ^ 24 + 2 ^ 24 * (s.reg O.hoursActive % 2 ^ 24) + 2 ^ 48 * s.reg O.thermalCycles

/-- LEDGER_HOURS (R468): a whole powered hour. -/
def execLedgerHours (s : State) : Result :=
  let s := s.bumpSat O.hoursPowered
  .next (s.happen { type := 4, data := s.hoursData })

/-- A retirement record that no later return of its unit takes back. -/
def stillRetired (rest : List LedgerRec) (r : LedgerRec) : Bool :=
  r.type == 1 && !rest.any (fun q => (q.type == 1 || q.type == 2) && q.pool == r.pool && q.group == r.group && q.unit == r.unit)

/-- The retirement records that stand, oldest first. -/
def retiredRecs : List LedgerRec → List LedgerRec
  | [] => []
  | r :: rest => if stillRetired rest r then r :: retiredRecs rest else retiredRecs rest

/-- The records of a compacted half, without their SEQ. -/
def State.compacted (s : State) : List LedgerRec :=
  retiredRecs s.half.recs ++
    (List.range 4).map (fun ch => { type := 6, group := ch, t96 := s.now, data := s.reg O.drRankMap ch }) ++
    (List.range 64).filterMap (fun g => s.half.recs.reverse.find? (fun r => r.type == 5 && r.group == g)) ++
    [{ type := 4, t96 := s.now, data := s.hoursData }]

/-- The other half is written and becomes active (R470). -/
def State.compact (s : State) : State :=
  let other := 1 - s.flash.active
  let gen := s.half.gen + 1
  let recs := s.compacted.zipIdx.map (fun p => { p.1 with seq := (s.flash.seq + p.2) % 2 ^ 32 })
  let f := { s.flash with halves := s.flash.halves.set other { header := 1, gen := gen, recs := recs }, active := other,
                          seq := (s.flash.seq + recs.length) % 2 ^ 32 }
  { s with flash := f }.ledgerShow.raise 0x7F4 gen

/-- LEDGER_COMPACT (R470): when the active half has no free position. -/
def execLedgerCompact (s : State) : Result :=
  if s.half.recs.length < ledgerRoom ∨ !s.dictReady then .next s else .next s.compact

/-! ### Calibration store (R475) -/

/-- CAL_STORE_CMD (R475). -/
def actCalStore (v : Nat) : Act := onlyOne v fun s => .ok s.calTrigger

/-- CAL_STORE_CMD (R475). -/
def execCalStoreCmd (m : Master) (value : Nat) (s : State) : Result := s.command m O.calStoreCmd value (actCalStore value)

/-- An hour has passed since the store's last completed write; none known since power-up counts as that long ago (DESIGN CHOICE, log
entry 180). -/
def State.calHour (s : State) : Bool :=
  s.hidden H.calWritten == 0 || decide (s.hidden H.calWritten + 3600 * secondTc ≤ s.up + 1)

/-- CAL_STORE_STALE_WRITE (R475): a stale store is written once an hour has passed since its last write. -/
def execCalStoreStaleWrite (s : State) : Result :=
  .next (if s.dictReady && s.hidden H.calStale == 1 && s.reg O.calStoreState != 1 && s.calHour then s.calBegin else s)

/-- A slot index from a hidden value. -/
def slotOf (n : Nat) : Fin 2 := if n = 1 then 1 else 0

/-- The calibration store's write ends. -/
def State.calDone (s : State) (verified : Bool) : State :=
  let i := slotOf (s.hidden H.calSlot)
  let again := s.hidden H.calAgain == 1
  let s :=
    if verified then
      let s := { s with flash := { s.flash with cal := storeCommit s.flash.cal i } }
      let g := (s.flash.cal.get i).gen
      let s := s.setHidden H.calWritten (s.up + 1)
      (((s.setReg O.calStoreGen g).setReg O.calStoreT96 s.now).setReg O.calStoreState 0).raise 0x7F6 g
    else
      let s := (s.setHidden H.calStale 1).raise 0x7FB 1
      s.setReg O.calStoreState (if (newestSlot s.flash.cal).isSome then 0 else 2)
  if again then s.calBegin else s

/-! ### Parameter store (R38, R473, R475) -/

/-- Length of the default contents of a persistent DOMAIN object. -/
def domDefaultLen (r : Row) : Nat :=
  if r = O.adpKey then 32 else if r = O.firCoef then 4 else if r = O.teWindowTable then 524288
  else if r = O.tuMaskTable then 4 else if r = O.dnPalette then 4096 else 0

/-- Bytes that an instance takes in the parameter body. -/
def State.entryLen (s : State) (r : Row) (i j : Nat) : Nat :=
  let n := if r.ty = .domain then (match s.doms.find? (fun e => e.1 == r.key i j) with | some e => e.2.length | none => domDefaultLen r)
    else r.ty.size
  8 + (n + 7) / 8 * 8

/-- Bytes of the parameter body. -/
def State.paramLen (s : State) : Nat :=
  (dict.filter (·.pers)).foldl (fun a r =>
    if r.ty = .domain then
      (List.range r.icnt).foldl (fun a i => (List.range r.scnt).foldl (fun a j => a + s.entryLen r i j) a) a
    else a + r.icnt * r.scnt * s.entryLen r 0 0) 0

/-- A key names a persistent object, of the plan or not. -/
def persistent (plan : Bool) (k : Nat) : Bool :=
  match lookup (k / 256) (k % 256) with
  | some (r, _, _) => r.pers && ((r.cls == .plan || r.cls == .live) == plan)
  | none => false

/-- Merge two stores whose keys differ. -/
def joinStores (a b : Store) : Store := b.foldl (fun m e => Map.ins e.1 e.2 m) a

/-- A write of the parameter store begins: the current values, the staged ones of plan objects. -/
def State.paramBegin (s : State) : State :=
  let vals := joinStores (s.regs.filter (fun e => decide (e.1 < 2 ^ 24) && persistent false e.1)) (s.staged.filter (fun e => persistent true e.1))
  let doms := s.doms.filter (fun e => persistent false e.1)
  let b := storeBegin s.flash.param vals doms
  { s with flash := { s.flash with param := b.1 } }.setHidden H.paramRun (b.2.val + 1)

/-- `PARAM_STORE` (R38). -/
def actParamStore (v : Nat) : Act := fun s =>
  if v ≠ 1 ∧ v ≠ 2 then .error Abort.range
  else if v = 1 ∧ 4194304 < 64 + s.paramLen + 8 then .error (Abort.adm 0x0A)
  else if s.hidden H.paramRun ≠ 0 then .error Abort.busy
  else if v = 1 then .ok s.paramBegin
  else .ok ({ s with flash := { s.flash with param := Vector.replicate 2 {} } }.setReg O.paramStoreGen 0)

/-- PARAM_STORE_SAVE (R38). -/
def execParamStoreSave (m : Master) (s : State) : Result := s.command m O.paramStore 1 (actParamStore 1)

/-- PARAM_STORE_ERASE (R38). -/
def execParamStoreErase (m : Master) (s : State) : Result := s.command m O.paramStore 2 (actParamStore 2)

/-- The parameter store's write ends. -/
def State.paramDone (s : State) (verified : Bool) : State :=
  let i := slotOf (s.hidden H.paramRun - 1)
  let s := s.setHidden H.paramRun 0
  if verified then
    let s := { s with flash := { s.flash with param := storeCommit s.flash.param i } }
    let g := (s.flash.param.get i).gen
    (s.setReg O.paramStoreGen g).raise 0x018 g
  else s.raise 0x7FB 3

/-- PARAM_STORE_DONE (R473). -/
def execParamStoreDone (verified : Bool) (s : State) : Result :=
  .next (if s.hidden H.paramRun = 0 then s else s.paramDone verified)

/-- STORE_WRITE_DONE (R473): 0 the calibration store, 1 the parameter store. -/
def execStoreWriteDone (store : Fin 2) (verified : Bool) (s : State) : Result :=
  if store = 0 then .next (if s.reg O.calStoreState = 1 then s.calDone verified else s)
  else .next (if s.hidden H.paramRun = 0 then s else s.paramDone verified)

end Sys2Proof.Machine
end

