-- ==== Sys2Proof/Machine/Startup.lean ====
section
/-! DEFINITION. Resets, boot, recovery and the start-up plan (spec 22_startup.md, R478 to R489; 21_service.md, R471, R474;
02_dictionary.md, R36). -/

namespace Sys2Proof.Machine

namespace H
/-- slot whose image is being verified: 0 A, 1 B, 2 the aperture (R481, R484) -/
def bootTry : Nat := 521
/-- nonces given so far (R48, R50) -/
def nonces : Nat := 522
/-- counter value at the start of the last reset (`READY_MS`) -/
def bootStart : Nat := 523
/-- reason code of a refused start-up plan (R487) -/
def planRefused : Nat := 524
/-- a start-up calibration ran (Table 22.6) -/
def calRan : Nat := 525
/-- verification of the aperture image runs (R484) -/
def recovering : Nat := 526
end H

/-! ### What a reset keeps (R478, R488) -/

/-- What a drive holds of a set. -/
def NvSet.onDrive (x : NvSet) : NvSet :=
  { slot := x.slot, gen := x.gen, cut := x.cut || (match x.cat with | some q => q.put | none => false) }

/-- After a cold reset: the fuses, flash, the drives, and the model's own counters of nonces and free values. -/
def State.coldBase (s : State) : State :=
  { regs := s.regs.filter (fun e => decide (e.1 < 2 ^ 24) && O.svnMin.has e.1), flash := s.flash, nvSets := s.nvSets.map (fun e => (e.1, e.2.onDrive)), out := s.out, pending := s.pending,
    hid := s.hid.filter (fun e => e.1 / 2 ^ 20 == H.free || e.1 / 2 ^ 20 == H.nonces) }

/-- Objects that a warm reset keeps (Table 22.5): PLL-C and crystal, time, `BOOT_SEL`, calibration, and the number
of the index epoch, whose restart counts on. -/
def warmKey (k : Nat) : Bool :=
  k / 256 == 0x801 || O.xoTemp.has k || O.xoCorr.has k || O.tcValid.has k || O.tcInc.has k || O.tcIncExt.has k || O.bootSel.has k ||
    O.svnMin.has k || calKey k || O.calLastT96.has k || O.ticCalTref.has k || O.idxEpoch.has k

/-- Hidden values that it keeps. -/
def warmHid (k : Nat) : Bool :=
  let n := k / 2 ^ 20
  n == H.free || n == H.nonces || calHid k || (H.refPresent ≤ n && n ≤ H.everLocked) || n == H.calNeed || n == H.calWritten ||
    n == H.busLat || n == H.tagLat || n == H.gateLat || n == H.loupeHz || n == H.memOrder || (H.ppsLast ≤ n && n ≤ H.ppsPhase) ||
    (H.gateBase ≤ n && n ≤ H.xoAt)

/-- After a warm reset. -/
def State.warmBase (s : State) : State :=
  let t := s.coldBase
  let t := { t with regs := s.regs.filter (fun e => decide (e.1 < 2 ^ 24) && warmKey e.1), hid := s.hid.filter (fun e => warmHid e.1),
                    doms := s.doms.filter (fun e => O.loupeTable.has e.1), tc := s.tc, up := s.up, mem := s.mem, poison := s.poison,
                    active := s.active.filter (fun e => e.1 / 256 == 0x800) }
  (t.setHidden H.drWarm 1).setReg O.resetCause 2

/-- Boot begins with the slot that `BOOT_SEL` names (Table 22.1). -/
def State.bootBegin (s : State) : State :=
  let s := s.setHidden H.bootStart s.up
  match s.reg O.bootSel with
  | 0 => (s.setHidden H.boot 1).setHidden H.bootTry 0
  | 1 => (s.setHidden H.boot 1).setHidden H.bootTry 1
  | 2 => (s.setHidden H.boot 3).setReg O.fwVersion 0
  | _ => s.setHidden H.boot 4

/-- Timing outputs and lacing drivers in their reset state (Table 23.3). -/
def State.ballsReset (s : State) : State := ((List.range 23).foldl (fun s b => s.emit (.ball b false)) s).emit (.clkout 0)

/-- PORST_ASSERT (R478, R489, R495). -/
def execPorstAssert (s : State) : Result := .next s.ballsReset.coldBase

/-- PORST_RELEASE (R478, R479): nothing that came while the device was held has had an effect. -/
def execPorstRelease (bootSel : Fin 4) (s : State) : Result :=
  if s.hidden H.boot = 0 then .next ((s.coldBase.setReg O.bootSel bootSel.val).bootBegin) else .next s

/-! ### Images (R480, R481) -/

/-- A field of an image. -/
def imgField (img : List Byte) (off n : Nat) : Nat := ofLe ((img.drop off).take n)

/-- The header of an image is valid: MAGIC, VERSION, BODY_LEN and reserved bytes. -/
def imgHeader (img : List Byte) : Bool :=
  let len := imgField img 12 4
  decide (512 ≤ img.length) && imgField img 0 4 == 0x51424F54 && imgField img 4 2 == 1 && decide (1 ≤ len ∧ len ≤ 8388096) &&
    decide (512 + len ≤ img.length) && ((img.drop 16).take 8).all (· == 0) && ((img.drop 216).take 296).all (· == 0)

/-- Result of a verification: 1 passed, 2 header invalid, 3 key, SVN or signature failed. Whether the key's hash is the fuses' and
the signature is valid comes with the step. -/
def State.imgVerdict (s : State) (img : List Byte) (signed : Bool) : Nat :=
  if !imgHeader img then 2
  else if !signed || decide (imgField img 6 2 < s.reg O.svnMin) then 3
  else 1

/-- `BOOT_STATUS` with the result of a slot. -/
def State.bootResult (s : State) (slot code : Nat) : State :=
  let v := s.reg O.bootStatus
  s.setReg O.bootStatus (v - bits v (2 * slot + 1) (2 * slot) * 4 ^ slot + code * 4 ^ slot)

/-- Key of the model's own for the image in the recovery aperture. -/
def apertureKey : Nat := 2 ^ 40

/-- The image of a slot. -/
def State.slotImage (s : State) (slot : Nat) : List Byte :=
  match slot with
  | 0 => (s.flash.images.get 0).image
  | 1 => (s.flash.images.get 1).image
  | _ => Map.get s.doms [] apertureKey

/-- An image runs. -/
def State.imgRun (s : State) (slot : Nat) : State :=
  let s := (s.setReg O.fwVersion (imgField (s.slotImage slot) 8 4)).setReg O.bootSlot slot
  { (s.setHidden H.boot 2).setHidden H.recovering 0 with doms := Map.del s.doms apertureKey }

/-- BOOT_VERIFY_DONE (R481, R484): the image runs, the other slot is tried, or recovery is entered. -/
def execBootVerifyDone (ok : Bool) (s : State) : Result :=
  let slot := s.hidden H.bootTry
  if s.hidden H.boot = 1 then
    let code := s.imgVerdict (s.slotImage slot) ok
    let s := s.bootResult slot code
    if code = 1 then .next (s.imgRun slot)
    else if bits (s.reg O.bootStatus) (2 * (1 - slot) + 1) (2 * (1 - slot)) = 0 then .next (s.setHidden H.bootTry (1 - slot))
    else .next ((s.setHidden H.boot 3).setReg O.fwVersion 0)
  else if s.hidden H.boot = 3 ∧ s.hidden H.recovering = 1 then
    let code := s.imgVerdict (s.slotImage 2) ok
    let s := s.bootResult 2 code
    .next (if code = 1 then s.imgRun 2 else s.setHidden H.recovering 0)
  else .next s

/-- RECOVERY_CMD (R483, R484): the host, in recovery only; `aperture` is what BAR2 holds. -/
def execRecoveryCmd (m : Master) (value : Nat) (aperture : List Byte) (s : State) : Result :=
  if s.hidden H.boot = 3 then
    if m = .host ∧ value = 1 ∧ s.hidden H.recovering = 0 then
      .next { s.setHidden H.recovering 1 with doms := Map.ins apertureKey (aperture.take 8388608) (Map.del s.doms apertureKey) }
    else .next s
  else s.request m (fun _ => .error Abort.notFound)

/-! ### Loads of an image slot (R482) -/

/-- A slot's object. -/
def imgKey (slotB : Bool) : Nat := if slotB then O.fwImageB.key 0 0 else O.fwImageA.key 0 0

/-- A load of `FW_IMAGE_A` or `FW_IMAGE_B`: checked before anything is erased. -/
def actFwImage (slotB : Bool) (image : List Byte) (signed readBack : Bool) : Act := fun s =>
  if image.length < 513 ∨ 8388608 < image.length then .error Abort.type
  else if s.imgVerdict image signed ≠ 1 then .error Abort.range
  else if s.xfers.any (fun x => x.write && x.key == imgKey (!slotB)) then .error Abort.busy
  else
    let i : Fin 2 := if slotB then 1 else 0
    if readBack then .ok { s with flash := { s.flash with images := s.flash.images.set i { image := image } } }
    else
      let (v, s) := s.drawFree
      .ok ({ s with flash := { s.flash with images := s.flash.images.set i { image := leBytes v 512 } } }.raise 0x7FB 4)

/-- FW_IMAGE_WRITE (R482). -/
def execFwImageWrite (m : Master) (slotB : Bool) (image : List Byte) (signed readBack : Bool) (s : State) : Result :=
  s.load m ((if slotB then O.fwImageB else O.fwImageA).key 0 0) (actFwImage slotB image signed readBack)

/-! ### The ledger applied (R471) -/

/-- A record as the steward reads it at reset. -/
def State.readRec (s : State) (r : LedgerRec) : State :=
  match r.type with
  | 1 => s.setHidden H.retired 1 (unitKey r.pool r.group r.unit)
  | 2 => s.setHidden H.retired 0 (unitKey r.pool r.group r.unit)
  | 4 => ((s.setReg O.hoursPowered (bits r.data 23 0)).setReg O.hoursActive (bits r.data 47 24)).setReg O.thermalCycles (bits r.data 63 48)
  | 5 => s.setHidden H.repairRows (max (s.hidden H.repairRows r.group) (r.unit + 1)) r.group
  | 6 => s.setReg O.drRankMap r.data r.group
  | 255 => s.bumpSat O.ledgerBad
  | _ => s

/-- The half that is active, and whether the ledger must be formatted, and whether the other half shows a cut compaction. -/
def ledgerChoice (v : Vector LedgerHalf 2) : Fin 2 × Bool × Bool :=
  let a := v.get 0
  let b := v.get 1
  if a.header = 1 ∧ b.header = 1 then (if a.gen < b.gen then 1 else 0, false, false)
  else if a.header = 1 then (0, false, b.header == 2)
  else if b.header = 1 then (1, false, a.header == 2)
  else (0, true, false)

/-- The steward reads the ledger. -/
def State.ledgerRead (s : State) : State :=
  let c := ledgerChoice s.flash.halves
  if c.2.1 then
    let f := { s.flash with halves := (s.flash.halves.set 0 { header := 1, gen := 1 }).set 1 {}, active := 0, seq := 0 }
    { s with flash := f }.ledgerShow.raise 0x7F5 2
  else
    let s := { s with flash := { s.flash with active := c.1 } }
    let s := (s.half.recs.foldl State.readRec s).ledgerShow
    if c.2.2 then (s.raise 0x7F5 (1 + 65536 * s.reg O.ledgerBad)).compact else s

/-! ### Units from ledger and store -/

/-- Sub-converters of a channel that are not retired, in order. -/
def State.scWorking (s : State) (ch : Nat) : List Nat := (List.range 17).filter (fun k => !s.isRetired 1 ch k)

/-- The slot map of a channel with the ledger over it: one that names a retired sub-converter is made anew, and the channel is
calibrated at start-up (R471). -/
def State.scApply (s : State) (ch : Nat) : State :=
  let w := s.scWorking ch
  let bad := (List.range 16).any (fun slot => s.isRetired 1 ch (s.reg O.slotSc ch slot))
  let s := if bad then
      ((List.range 16).foldl (fun s slot => s.setReg O.slotSc (w.getD slot (s.reg O.slotSc ch slot)) ch slot) s).setHidden H.calNeed
        (setBit (s.hidden H.calNeed) ch true)
    else s
  let used := (List.range 16).map (fun slot => s.reg O.slotSc ch slot)
  let idle := w.find? (fun k => !used.contains k)
  let s := (List.range 17).foldl (fun s k =>
    s.setReg O.scState (if s.isRetired 1 ch k then 3 else if used.contains k then 0 else 1) ch k) s
  match idle with
  | some k => (s.setReg O.idleSc k ch).setReg O.sparePresent 1 ch
  | none => ((s.setReg O.idleSc 0xFF ch).setReg O.sparePresent 0 ch).setReg O.calState 3 ch

/-- Lanes of an engine: the first eight that are not retired serve, the ninth is the spare. -/
def State.laneApply (s : State) (e : Nat) : State :=
  let w := (List.range 9).filter (fun l => !s.isRetired 2 e l)
  let map := (w.take 8).foldl (fun m l => setBit m l true) 0
  let retired := (List.range 9).foldl (fun m l => if s.isRetired 2 e l then setBit m l true else m) 0
  let s := s.setEng e { s.eng e with retired := retired }
  ((s.setReg O.teLaneMap map e).setReg O.teSpareLane (w.getD 8 0xFF) e).setTeCapacity e

/-- Cores of a bench: a retired one's position takes the spare. -/
def State.coreApply (s : State) (b : Nat) : State :=
  let s := if s.isRetired 3 b 16 then (s.setReg O.bnPhysState 2 b 16).setReg O.bnSpare 0xFF b else s
  (List.range 16).foldl (fun s c =>
    if s.isRetired 3 b c then
      let s := s.setReg O.bnPhysState 2 b c
      let sp := s.reg O.bnSpare b
      if sp = 0xFF then s
      else ((s.setReg O.awPhys sp (16 * b + c)).setReg O.bnPhysState 0 b sp).setReg O.bnSpare 0xFF b
    else s) s

/-- Interpolators of a channel: the first four that are not retired take turns, the fifth is idle. -/
def State.ipApply (s : State) (n : Nat) : State :=
  let w := (List.range 5).filter (fun i => !s.isRetired 4 n i)
  let s := (s.setChan n { s.chan n with turn := w.take 4 }).setSpacing n
  let s := (List.range 5).foldl (fun s i =>
    s.setReg O.ipState (if s.isRetired 4 n i then 3 else if w.getD 4 5 = i then 1 else 0) n i) s
  if 5 ≤ w.length then s else s.setReg O.ticCalState 3 n

/-- Density banks: a retired one's place is taken by a spare. -/
def State.bankApply (s : State) : State :=
  (List.range 66).foldl (fun s p =>
    if !s.isRetired 5 0 p then s
    else
      let s := s.setReg O.dnSpareBanks (s.reg O.dnSpareBanks - 1)
      if 64 ≤ p then s
      else match s.dnFreeBank with
        | some sp => { s with density := { s.density with bankMap := Map.put s.density.bankMap 0 p (sp + 1) } }
        | none => { s with density := { s.density with failing := s.density.failing ++ [p] } }) s

/-- Retired units of a pool. -/
def State.retiredIn (s : State) (pool : Nat) : Nat :=
  ((List.range 16).flatMap (fun g => (List.range 66).filter (fun u => s.isRetired pool g u))).length

/-- `POOL_SPARES` and `POOL_RETIRED` (Table 21.7). -/
def State.poolShow (s : State) : State :=
  let count := fun (n : Nat) (f : Nat → Bool) => ((List.range n).filter f).length
  let spares : List Nat :=
    [count 4 (fun ch => s.reg O.idleSc ch != 0xFF), count 4 (fun e => s.reg O.teSpareLane e != 0xFF),
     count 16 (fun b => s.reg O.bnSpare b != 0xFF), count 8 (fun n => (s.idleIp n).isSome), s.reg O.dnSpareBanks]
  let s := (List.range 5).foldl (fun s k => s.setReg O.poolSpares (spares.getD k 0) 0 k) s
  let s := (List.range 6).foldl (fun s k => s.setReg O.poolRetired (s.retiredIn (k + 1)) 0 k) s
  let used := (List.range 64).map (fun g => s.hidden H.repairRows g)
  (s.setReg O.poolRetired (used.foldl (· + ·) 0) 0 6).setReg O.poolSpares (8 - used.foldl max 0) 0 6

/-- Every unit as the ledger has it. -/
def State.unitsApply (s : State) : State :=
  let s := ((s.each 4 State.scApply).each 4 State.laneApply).each 16 State.coreApply
  ((s.each 8 State.ipApply).bankApply).poolShow

/-! ### The stores (R36, R474) -/

/-- Values of a slot taken over. -/
def State.takeVals (s : State) (vals : Store) : State :=
  vals.foldl (fun s e => if 2 ^ 60 ≤ e.1 then { s with hid := Map.ins (e.1 - 2 ^ 60) e.2 (Map.del s.hid (e.1 - 2 ^ 60)) }
    else { s with regs := Map.ins e.1 e.2 (Map.del s.regs e.1) }) s

/-- DOMAIN contents of a slot taken over. -/
def State.takeDoms (s : State) (doms : Map (List Byte)) : State :=
  { s with doms := doms.foldl (fun m e => Map.ins e.1 e.2 (Map.del m e.1)) s.doms }

/-- A store write was cut short in the slot beside the one in use. -/
def storeCut (v : Vector StoreSlot 2) (i : Fin 2) : Bool := (v.get (1 - i)).state == 2

/-- The calibration store is loaded; empty, the device calibrates at start-up. After a warm reset the corrections are those held in
retention. -/
def State.calLoad (s : State) (warm : Bool) : State :=
  match newestSlot s.flash.cal with
  | none =>
    let s := (s.setReg O.calStoreState 2).raise 0x7F8 0
    if warm then s else s.setHidden H.calNeed 0x1F
  | some i =>
    let x := s.flash.cal.get i
    let s := s.setReg O.calStoreGen x.gen
    let s := if storeCut s.flash.cal i then s.raise 0x7F7 x.gen else s
    if warm then s else (s.takeVals x.vals).takeDoms x.doms

/-- A stored value satisfies the checks of its object. -/
def goodValue (e : Nat × Nat) : Bool :=
  match lookup (e.1 / 256) (e.1 % 256) with
  | some (r, _, _) => r.pers && r.checks e.2 && decide (e.2 < 2 ^ r.width)
  | none => false

/-- An act takes an image on an idle machine: nothing but the image's own form and entries can refuse it. -/
def takesImage (f : Act) : Bool := match f State.reset with | .ok _ => true | .error _ => false

/-- A stored DOMAIN value satisfies the checks of its object (R31, R36). -/
def goodImage (e : Nat × List Byte) : Bool :=
  match lookup (e.1 / 256) (e.1 % 256) with
  | some (r, i, _) =>
    r.pers && (if r = O.adpKey then e.2.length == 32 else if r = O.xoTcTable then e.2.length == 704
      else if r = O.firCoef then takesImage (actFirCoef i e.2) else if r = O.teWindowTable then takesImage (actWindowTable i e.2)
      else if r = O.tuMaskTable then takesImage (actMaskTable i e.2) else if r = O.dnPalette then takesImage (actPalette e.2) else false)
  | none => false

/-- The first persistent object. -/
def firstPersistent : Nat := (dict.filter (·.pers)).foldl (fun a r => min a (r.key 0 0)) (2 ^ 24)

/-- Objects whose stored value is missing or fails its checks (R36). -/
def StoreSlot.bad (x : StoreSlot) : List Nat :=
  ((x.vals.filter (fun e => decide (e.1 < 2 ^ 24) && !goodValue e)).map (·.1)) ++ ((x.doms.filter (fun e => !goodImage e)).map (·.1)) ++ x.lacks

/-- A key is a LIVE object. -/
def liveKey (k : Nat) : Bool := match lookup (k / 256) (k % 256) with | some (r, _, _) => r.cls == .live | none => false

/-- The parameter store is loaded (R36, R487): persistent PLAN values into the staged plan only, LIVE values into the active plan
too; what is missing or fails its checks takes its default, and the first such object is reported. -/
def State.paramLoad (s : State) : State :=
  match newestSlot s.flash.param with
  | none => s.raise 0x017 (firstPersistent * 256)
  | some i =>
    let x := s.flash.param.get i
    let s := s.setReg O.paramStoreGen x.gen
    let s := if storeCut s.flash.param i then s.raise 0x7F9 x.gen else s
    let s := match x.bad with
      | k :: ks => s.raise 0x017 (ks.foldl min k * 256)
      | [] => s
    let good := x.vals.filter goodValue
    let s := (s.takeVals (good.filter (fun e => persistent false e.1))).takeDoms (x.doms.filter goodImage)
    let plan := good.filter (fun e => persistent true e.1)
    { s with staged := plan, active := plan.filter (fun e => liveKey e.1) }

/-- DICTIONARY_READY (R471, R474, R36, R485). -/
def execDictionaryReady (s : State) : Result :=
  if s.hidden H.boot = 2 then
    let warm := s.reg O.resetCause == 2
    let s := ((s.calLoad warm).ledgerRead).unitsApply
    let s := (s.paramLoad.setHidden H.boot 5).setReg O.readyState 1
    let tried := bits (s.reg O.bootStatus) 1 0 ≠ 0 ∧ bits (s.reg O.bootStatus) 3 2 ≠ 0 ∧ s.reg O.bootSlot ≠ 2
    .next (if tried then s.raise 0x001 (s.reg O.bootStatus) else s)
  else .next s

/-! ### The start-up plan (R487) -/

/-- Objects that the start-up plan takes from the parameter store. -/
def startKey (k : Nat) : Bool :=
  let i := k / 256
  let j := k % 256
  (i == 0x800 && 1 ≤ j && j ≤ 0xC) || (i == 0x803 && 1 ≤ j && j ≤ 3) || (i == 0x810 && (j == 0xA || j == 0xB)) || i == 0x820 ||
    i == 0x830 || i == 0x831 || (i == 0x840 && (j == 1 || j == 2)) || (i == 0x3000 && (j == 1 || j == 2)) || i == 0x3310 || i == 0x3311

/-- STARTUP_PLAN_COMMIT (R487): `PLAN_GEN` 1, no plan event; the staged plan keeps every persistent value. Then PLL-A starts. -/
def execStartupPlanCommit (s : State) : Result :=
  if s.hidden H.boot = 5 then
    let staged := s.staged
    let live := staged.filter (fun e => liveKey e.1)
    let full := staged.filter (fun e => liveKey e.1 || startKey e.1)
    let fails := (s.judged full).admFails s 1 0 (s.floorLat == 0)
    let code := ((admFirst fails).map (·.code)).getD 0
    let s := (s.setHidden H.planRefused code).activate (if code = 0 then full else live)
    .next ({ s with staged := staged }.setHidden H.boot 6).pllaRestart
  else .next s

/-- A channel's sub-converters are calibrated at start-up; one that fails its limits retires, and the map is made anew (R97). -/
def State.scStartup (s : State) (convs : List CalMeas) (ch : Nat) : State :=
  if !bit (s.hidden H.calNeed) ch then s else
  let s := (s.scWorking ch).foldl (fun s k =>
    match convs[17 * ch + k]? with
    | none => s
    | some m => if calReason m = 0 then s.scCorrect ch k m else s.scRetire ch k (calReason m)) s
  let s := s.scApply ch
  (s.setReg O.calTref (s.reg O.dieTemp ch) ch).setReg O.calLastT96 s.now ch

/-- A counter channel's interpolators likewise. -/
def State.ipStartup (s : State) (hits : List (List Nat)) (n : Nat) : State :=
  let s := ((List.range 5).filter (fun i => !s.isRetired 4 n i)).foldl (fun s i =>
    match hits[5 * n + i]? with
    | none => s
    | some h =>
      if loupeReason h false = 0 then s.setDom O.loupeTable ((loupeTable s.fcPeriod h).flatMap (fun v => leBytes v 4)) (16 * n + i)
      else s.ipRetire n i (loupeReason h false) true) s
  (s.ipApply n).setReg O.ticCalTref (s.ticTemp n) n

/-- The path latencies that training measured are stored (R15, R24, R242, R263): 4 sample buses, 5 sources of each of 8 counter
channels, 9 gates (log entry 119). -/
def State.latStore (s : State) (links : List Nat) : State :=
  let s := s.each 4 (fun s ch => s.setHidden H.busLat (links.getD ch 0) ch)
  let s := s.each 8 (fun s n => s.each 5 (fun s k => s.setHidden H.tagLat (links.getD (4 + 5 * n + k) 0) (8 * n + k)))
  s.each 9 (fun s g => s.setHidden H.gateLat (links.getD (44 + g) 0) g)

/-- STARTUP_CALIBRATION_DONE (R15, R101, R471, R485): what training and the runs measured. -/
def execStartupCalibrationDone (convs : List CalMeas) (hits : List (List Nat)) (links : List Nat) (s : State) : Result :=
  if s.hidden H.boot = 6 ∧ s.locked then
    let s := s.latStore links
    if s.hidden H.calNeed = 0 then .next s else
    let s := s.each 4 (fun s ch => s.scStartup convs ch)
    let s := if bit (s.hidden H.calNeed) 4 then s.each 8 (fun s n => s.ipStartup hits n) else s
    .next (((s.setHidden H.calNeed 0).setHidden H.calRan 1).setHidden H.calStale 1)
  else .next s

/-- DEV_READY (R485, R491): PLL-A locked, the DRAM trained or found without capacity, no calibration outstanding. -/
def execDevReady (s : State) : Result :=
  let dr := s.reg O.drState
  if s.hidden H.boot = 6 ∧ s.locked ∧ (dr = 2 ∨ dr = 3) ∧ s.hidden H.calNeed = 0 then
    let ms := (s.up - s.hidden H.bootStart) / msTc 1
    let code := s.hidden H.planRefused
    let back := bits (s.reg O.bootStatus) 1 0 ≠ 0 ∧ bits (s.reg O.bootStatus) 3 2 ≠ 0 ∧ s.reg O.bootSlot ≠ 2
    let s := (((s.setHidden H.boot 7).setHidden H.dwelling 1).setReg O.readyState 3).setReg O.readyMs (min ms (2 ^ 32 - 1))
    .next (s.raise 0x000 (s.reg O.resetCause + 256 * s.hidden H.calRan + 512 * b2n (dr == 3) + 1024 * b2n (decide back) +
      2048 * b2n (code != 0) + 65536 * min ms 65535 + 2 ^ 32 * code))
  else .next s

/-! ### Warm reset and PERST_N (R486, R488, R489) -/

/-- `RESET_CMD`. -/
def actReset (v : Nat) : Act := refuseIf (v != 0x57525354) Abort.range fun s => .ok s.ballsReset.warmBase.bootBegin

/-- RESET_CMD (R488). -/
def execResetCmd (m : Master) (value : Nat) (s : State) : Result := s.command m O.resetCmd value (actReset value)

/-- PERST_ASSERT (R489): the endpoint alone; the host master disconnects. -/
def execPerstAssert (s : State) : Result :=
  let s := s.hostGone.setHidden H.linkUp 0
  .next ((s.setReg O.pcieWidth 0).setReg O.pcieSpeed 0)

/-- PERST_RELEASE (R450, R486): the link may train, and the device wakes to P0. -/
def execPerstRelease (s : State) : Result := .next (if s.dictReady then s.wake 5 else s)

end Sys2Proof.Machine
end

