-- ==== Sys2Proof/Machine/Dictionary.lean ====
section
/-! DEFINITION. The dictionary server: reads and writes of every object, BAR0, the mailbox and segmented transfers (spec
02_dictionary.md, R30 to R44, R508). A value travels here as its bytes in little-endian order (R13). -/

namespace Sys2Proof.Machine

/-! ### Contents of DOMAIN objects -/

/-- A ledger record's 32 bytes (Table 21.2); a position whose write failed holds free contents. -/
def recBytes (r : LedgerRec) : List Byte :=
  if r.type = 255 then leBytes r.data 32 else
  let b := leBytes r.type 1 ++ leBytes r.pool 1 ++ leBytes r.group 1 ++ leBytes r.unit 1 ++ leBytes r.t96 12 ++ leBytes r.data 8 ++
    leBytes r.seq 4
  b ++ leBytes (crc32 b) 4

/-- `LEDGER_IMAGE`: the active half (R467). -/
def State.ledgerBytes (s : State) : List Byte :=
  let h := s.half
  let head := leBytes 0x514C4447 4 ++ leBytes 0 4 ++ leBytes h.gen 8 ++ leBytes 0 44
  let used := if h.header = 1 then head ++ leBytes (crc32 head) 4 ++ h.recs.flatMap recBytes else []
  used ++ List.replicate (32768 - used.length) 0xFF#8

/-- The bytes that a DOMAIN object holds. -/
def State.domBytes (s : State) (r : Row) (i j : Nat) : List Byte :=
  if r = O.adpKey then List.replicate 32 0#8
  else if r = O.xoTcTable then s.dom r i j (List.replicate 704 0#8)
  else if r = O.firCoef then s.dom r i j (leBytes 65536 4)
  else if r = O.teWindowTable then s.dom r i j ((List.replicate 131072 (leBytes 65536 4)).flatten)
  else if r = O.tuMaskTable then s.dom r i j maskDefault
  else if r = O.dnPalette then s.dom r i j greyRamp
  else if r = O.loupeTable then s.dom r i j (List.replicate 16384 0#8)
  else if r = O.dpEdid then s.dom r i j (List.replicate 128 0#8)
  else if r = O.ledgerImage then s.ledgerBytes
  else if r = O.fwImageA then s.slotImage 0
  else if r = O.fwImageB then s.slotImage 1
  else s.dom r i j

/-! ### Reads (R32, R37) -/

/-- Objects whose value is worked out when they are read. -/
def State.computed (s : State) (r : Row) (i : Nat) : Option Nat :=
  if r = O.tcNow then some s.now
  else if r = O.leaseLeft then some s.leaseLeft
  else if r = O.xoCorr then some (toF64 s.xoNow)
  else if r = O.pwrFloorPlan then some s.floorPlan
  else if r = O.pwrFloorLat then some s.floorLat
  else if r = O.drMigPtr then some s.migPtr
  else if r = O.drZeroPtr then some s.zeroPtr
  else if r = O.nvCapacity then some (s.nvCap i)
  else if r = O.aqFifoFill then some (min 100 (s.aqFill i * 100 / aqFifo))
  else if r = O.hkMean then some (s.hkMean i)
  else if r = O.fitProgress then some s.fitPart
  else none

/-- The value of a scalar or T96 object for a master, in a view. -/
def State.readVal (s : State) (m : Master) (r : Row) (i j view : Nat) : Nat :=
  if r = O.myId then m.id
  else if r = O.mbxData then ofLe (Map.getBytes s.mbxData (8 * j) 8)
  else match s.computed r i with
  | some v => v
  | none =>
    match r.cls with
    | .rw => s.regOf r m.id i j
    | .plan => if view = 1 then planVal s.staged r i j else planVal s.active r i j
    | .live => planVal s.active r i j
    | _ => s.reg r i j

/-- The object at an index and subindex that the manual defines for a master (R30, R33, R484). -/
def objectFor (m : Master) (index sub : Nat) : Option (Row × Nat × Nat) :=
  match lookup index sub with
  | some (r, i, j) => if (r.host && m != .host) || r == O.recoveryCmd then none else some (r, i, j)
  | none => none

/-- Judge a read (R508): the object, or the code it is refused with; the form (`formBad`) refuses before the view. -/
def State.judgeRead (_ : State) (m : Master) (index sub view : Nat) (formBad : Row → Bool := fun _ => false) :
    Except Nat (Row × Nat × Nat) :=
  match objectFor m index sub with
  | none => .error Abort.notFound
  | some (r, i, j) =>
    if r.cls = .wo then .error Abort.writeOnly
    else if formBad r then .error Abort.type
    else if r.cls = .plan ∧ 1 < view then .error Abort.range
    else .ok (r, i, j)

/-- The bytes of an object. -/
def State.objBytes (s : State) (m : Master) (r : Row) (i j view : Nat) : List Byte :=
  if r.ty = .domain then s.domBytes r i j else leBytes (s.readVal m r i j view) r.ty.size

/-! ### Writes: what each object does with a value -/

/-- An act's end: the state, and the code that it is refused with, 0 when it was executed. -/
def runAct (a : Act) (s : State) : State × Nat :=
  match a s with
  | .ok t => (t, 0)
  | .error c => (s, c)

/-- A write of an OWN object without a rule of its own. -/
def actOwn (r : Row) (i j v : Nat) : Act := fun s => .ok (s.setReg r v i j)

/-- A value that its table holds against another object's: `AQ_LAD_HIGH` lies above `AQ_LAD_LOW` (Table 7.11; log entry 187). -/
def State.planBad (s : State) (r : Row) (i v : Nat) : Bool := r = O.aqLadHigh && decide (v ≤ planVal s.staged O.aqLadLow i)

/-- A PLAN write goes into the staged plan, which is fixed while a plan command runs or its commit waits (R62, R63). -/
def actPlan (r : Row) (i j v : Nat) : Act := fun s =>
  if s.planBad r i v then .error Abort.range
  else if s.adm.isSome ∨ s.hidden H.planWait ≠ 0 ∨ s.awaiting.isSome then .error Abort.busy
  else .ok { s with staged := putVal r i j v s.staged }

/-- A field of a timed-action entry that is not free (R319). -/
def actTaField (r : Row) (e v : Nat) : Act := fun s =>
  if s.reg O.taState e ≠ 0 then .error Abort.busy else .ok (s.setReg r v e)

/-- `TA_VALID`. -/
def actTaValid (e v : Nat) : Act := if v = 1 then actTaSet e else actTaClear e

/-- `MBX_CMD` (R43): the command runs until `MBX_COMMAND_COMPLETE`. -/
def actMbx (v : Nat) : Act := fun s =>
  if s.mbx.isSome then .error Abort.busy
  else
    let t := s.regOf O.mbxTarget 1
    let own := match lookup (bits t 31 16) (bits t 15 8) with | some (r, _, _) => r.cls == .rw || r.host | none => false
    .ok ({ s with mbx := some { cmd := v, key := t / 256, abort := 0, needsOwner := (v == 2 || v == 4 || v == 5) && !own } }.setReg
      O.mbxStatus (2 ^ 31))

/-- A write of an RW object by a master; the mailbox's own wait while a command runs. -/
def actRw (m : Master) (r : Row) (i j v : Nat) : Act := fun s =>
  if r.host && s.mbx.isSome then .error Abort.busy
  else if r = O.mbxData then .ok { s with mbxData := Map.putBytes s.mbxData (8 * j) (leBytes v 8) }
  else .ok (s.setRegOf r m.id v i j)

/-- Command objects and OWN objects with a rule of their own, by row; the act takes the two instance numbers and the value. -/
def systemActs (m : Master) : List (Row × (Nat → Nat → Nat → Act)) :=
  [(O.resetCmd, fun _ _ v => actReset v), (O.pcieClaim, fun _ _ v => actClaim .host v []), (O.pcieRenew, fun _ _ _ => actRenew .host),
   (O.pcieHandover, fun _ _ v => actHandover .host v), (O.pcieAccept, fun _ _ _ => actAccept .host), (O.mbxCmd, fun _ _ v => actMbx v),
   (O.planCmd, fun _ _ v => actPlanCmd v), (O.powerCap, fun _ _ v => actPowerCap v), (O.pwrDomainCmd, fun _ _ v => actDomain m v),
   (O.pwrLtol, fun _ j v => actLtol j v), (O.xcOverrunClr, fun _ _ v => actXcClear v), (O.evClear, fun i _ v => actEvClear i v),
   (O.evRingBase, fun _ _ v => actEvRing O.evRingBase v), (O.evRingSize, fun _ _ v => actEvRing O.evRingSize v),
   (O.frAck, fun _ _ v => actFrAck v), (O.frRelease, fun _ _ v => actFrRelease v), (O.frMask, fun _ j v => actFrMask j v),
   (O.fitCmd, fun _ _ v => actFit v), (O.calStoreCmd, fun _ _ v => actCalStore v), (O.paramStore, fun _ _ v => actParamStore v)]

/-- As `systemActs`: clocks, time, timed actions and the lacing bus. -/
def timeActs : List (Row × (Nat → Nat → Nat → Act)) :=
  [(O.xoAgeRate, fun _ _ v => actXoAgeRate v), (O.phaseStep, fun _ _ v => actPhaseStep v), (O.pllaLolClr, fun _ _ v => actLolClr v),
   (O.pllaRelock, fun _ _ v => actPllaRelock v), (O.tcStepAccept, fun _ _ v => actStepAccept v), (O.tcSlew, fun _ _ v => actSlew v),
   (O.tcFreqAdj, fun _ _ v => actFreqAdj v), (O.laceSCmd, fun _ _ v => actLaceS v), (O.ptpUtcOffset, fun _ _ v => actUtcOffset v),
   (O.taTime, fun i _ v => actTaField O.taTime i v),
   (O.taKind, fun i _ v => actTaField O.taKind i v), (O.taTarget, fun i _ v => actTaField O.taTarget i v),
   (O.taArg, fun i _ v => actTaField O.taArg i v), (O.taPeriod, fun i _ v => actTaField O.taPeriod i v),
   (O.taFlags, fun i _ v => actTaField O.taFlags i v), (O.taValid, fun i _ v => actTaValid i v)]

/-- As `systemActs`: the data paths. -/
def pathActs : List (Row × (Nat → Nat → Nat → Act)) :=
  [(O.calCmd, fun i _ v => actCalCmd i v), (O.ncoFtw, fun i _ v => actNcoFtw i v), (O.gainShift, fun i _ v => actSliceGain i false v),
   (O.gainFine, fun i _ v => actSliceGain i true v), (O.syncCmd, fun _ _ v => actSyncCmd v), (O.dnSnapCmd, fun _ _ v => actDnSnap v),
   (O.dnClearCmd, fun _ _ v => actDnClear v), (O.ticCalCmd, fun i _ v => actTicCal i v), (O.msAdevReset, fun i _ v => actAdevReset i v),
   (O.dmaStart, fun i _ v => actDmaStart i v), (O.dmaNudge, fun i _ v => actDmaNudge i v), (O.dmaStop, fun i _ v => actDmaStop i v),
   (O.nvTrimCmd, fun i _ v => actNvTrim i v), (O.dpCommit, fun i _ v => actDpCommit i v), (O.hkSnapCmd, fun _ _ v => actHkSnap v),
   (O.hkCalCmd, fun _ _ v => actHkCal v), (O.pgFire, fun i _ v => actPgFire i v), (O.pgTripClr, fun i _ v => actPgTripClr i v),
   (O.canNomRate, fun _ _ v => actCanTiming O.canNomRate v), (O.canDataRate, fun _ _ v => actCanTiming O.canDataRate v),
   (O.canBrs, fun _ _ v => actCanTiming O.canBrs v), (O.canSpNom, fun _ _ v => actCanTiming O.canSpNom v),
   (O.canSpData, fun _ _ v => actCanTiming O.canSpData v)]

/-- What a write of a scalar or T96 object does. -/
def scalarAct (m : Master) (r : Row) (i j v : Nat) (s : State) : State × Nat :=
  if r = O.tcSet then tcSetAct v s
  else if r = O.tcStep then tcStepAct v s
  else match (systemActs m ++ timeActs ++ pathActs).find? (fun e => e.1 == r) with
  | some e => runAct (e.2 i j v) s
  | none =>
    match r.cls with
    | .rw => runAct (actRw m r i j v) s
    | .plan => runAct (actPlan r i j v) s
    | .live => runAct (actLive r i j v) s
    | _ => runAct (actOwn r i j v) s

/-- `ADP_KEY` (R50, R51): the sessions bound to the slot close. -/
def actAdpKey (slot : Nat) (key : List Byte) : Act := fun s =>
  if key.length ≠ 32 then .error Abort.type
  else .ok ((s.setDom O.adpKey key 0 slot).each 9 (fun s n =>
    if (s.session n).isOpen ∧ (s.session n).key = slot then s.closeSession n else s))

/-- `XO_TC_TABLE` (R283). -/
def actXoTable (image : List Byte) : Act := fun s =>
  if image.length ≠ 704 then .error Abort.type else .ok (s.setDom O.xoTcTable image)

/-- The object's rule fixes the length of its image, or a set of lengths, and this image has another (R31). -/
def domForm (r : Row) (b : List Byte) : Bool :=
  if b.isEmpty then true
  else if r = O.adpKey then b.length != 32
  else if r = O.xoTcTable then b.length != 704
  else if r = O.dnPalette then b.length != 4096
  else if r = O.firCoef ∨ r = O.teWindowTable ∨ r = O.tuMaskTable then b.length % 4 != 0
  else if r = O.awImage then decide (b.length < 32) || b.length != 32 + ofLe ((b.drop 4).take 4) + ofLe ((b.drop 8).take 4) + ofLe ((b.drop 12).take 4)
  else if r = O.fwImageA ∨ r = O.fwImageB then decide (b.length < 513 ∨ 8388608 < b.length)
  else false

/-- What a write of a whole DOMAIN object does. Whether an image's key and signature are good, and its read-back, are free here (log
entry 7); `FW_IMAGE_WRITE` brings them. -/
def domainAct (r : Row) (i j : Nat) (b : List Byte) (s : State) : State × Nat :=
  if r = O.adpKey then runAct (actAdpKey j b) s
  else if r = O.xoTcTable then runAct (actXoTable b) s
  else if r = O.firCoef then runAct (actFirCoef i b) s
  else if r = O.teWindowTable then runAct (actWindowTable i b) s
  else if r = O.tuMaskTable then runAct (actMaskTable i b) s
  else if r = O.dnPalette then runAct (actPalette b) s
  else if r = O.awImage then runAct (actAwImage i b) s
  else if r = O.fwImageA ∨ r = O.fwImageB then
    let (v, s) := s.drawFree
    runAct (actFwImage (r == O.fwImageB) b (v.testBit 0) (v.testBit 1)) s
  else (s.setDom r b i j, 0)

/-! ### Judging a write (R508) -/

/-- Existence, direction and ownership: the object, or the code. -/
def State.judgeWrite (s : State) (m : Master) (index sub : Nat) : Except Nat (Row × Nat × Nat) :=
  match objectFor m index sub with
  | none => .error Abort.notFound
  | some (r, i, j) =>
    if r.cls = .ro ∨ r = O.myId then .error Abort.readOnly
    else if r.cls ≠ .rw ∧ !r.host ∧ !s.owns m then .error Abort.notOwner
    else .ok (r, i, j)

/-- Form and value, and then what the object does. -/
def State.applyWrite (s : State) (m : Master) (r : Row) (i j : Nat) (b : List Byte) : State × Nat :=
  if r.ty = .domain then
    let t := domainAct r i j b s
    if t.2 = 0 then (t.1.breakReads (r.key i j), 0) else t
  else if b.length ≠ r.ty.size then (s, Abort.type)
  else
    let v := ofLe b &&& r.mask
    if !r.checks v then (s, Abort.range) else scalarAct m r i j v s

/-- A whole write, with a form check of its path. -/
def State.writeObject (s : State) (m : Master) (index sub : Nat) (b : List Byte) (form : Row → Nat) : State × Nat :=
  match s.judgeWrite m index sub with
  | .error c => (s, c)
  | .ok (r, i, j) => if form r ≠ 0 then (s, form r) else s.applyWrite m r i j b

/-- The end of a request that stands alone. -/
def answered (m : Master) (t : State × Nat) : Result := .next (t.1.answer m t.2)

/-- OBJECT_WRITE (R30 to R36, R508): the value as its bytes in little-endian order. -/
def execObjectWrite (m : Master) (index subindex : Nat) (value : List Byte) (s : State) : Result :=
  if s.dictReady && s.connected m then answered m (s.writeObject m index subindex value (fun _ => 0)) else .next s

/-- ADP_KEY_WRITE (R51). -/
def execAdpKeyWrite (m : Master) (slot : Fin 8) (key : List Byte) (s : State) : Result := s.load m (O.adpKey.key 0 slot.val) (actAdpKey slot.val key)

/-! ### BAR0 (R39 to R41) -/

/-- An access of a permitted form: naturally aligned, 1, 2, 4 or 8 bytes. -/
def bar0Form (offset width : Nat) : Bool :=
  (width == 1 || width == 2 || width == 4 || width == 8) && offset % width == 0 && decide (offset < 2 ^ 27)

/-- Form of a BAR0 write: a non-scalar object goes through the mailbox, and the write covers the object. -/
def bar0WriteForm (offset width : Nat) (r : Row) : Nat :=
  if !r.ty.scalar then Abort.useMailbox
  else if offset % 8 ≠ 0 ∨ width < r.ty.size then Abort.type
  else 0

/-- The master's read view (R37). -/
def State.readView (s : State) (m : Master) : Nat := s.regOf O.readView m.id

/-- A well-formed BAR0 read (R37, R39): the bytes that it returns, of a slot that holds the value in its low bytes and 0 in the
rest, in the view that `READ_VIEW` selects; or the code it is refused with (R508). -/
def State.bar0Read (s : State) (offset width : Nat) : Except Nat Nat :=
  let index := offset / 2048
  let sub := offset % 2048 / 8
  match s.judgeRead .host index sub (s.readView .host) with
  | .error c => .error c
  | .ok (r, i, j) =>
    if !r.ty.scalar then .error Abort.useMailbox
    else .ok (s.readVal .host r i j (s.readView .host) / 2 ^ (8 * (offset % 8)) % 2 ^ (8 * width))

/-- The answer to a BAR0 read (R39, R41): the data, or zero data and the abort code of a refusal. -/
def State.bar0Data (s : State) (d : Except Nat Nat) : State :=
  match d with
  | .ok v => s.emit (.readData v)
  | .error c => (s.setReg O.pcieLastAbort c).emit (.readData 0)

/-- The object's size at a slot, 0 where there is none. -/
def slotSize (index sub : Nat) : Nat := match objectFor .host index sub with | some (r, _, _) => r.ty.size | none => 0

/-- A malformed BAR0 access (R40): a write is refused; a read completes with zero data. -/
def State.bar0Bad (s : State) (isWrite : Bool) (offset : Nat) : State :=
  let index := offset / 2048 % 65536
  let sub := offset % 2048 / 8
  if isWrite then
    s.answer .host (match s.judgeWrite .host index sub with | .error c => c | .ok _ => Abort.type)
  else
    s.bar0Data (.error (match s.judgeRead .host index sub (s.readView .host) with | .error c => c | .ok _ => Abort.type))

/-- A BAR0 write, well formed or not (R40, R41). -/
def State.bar0Store (s : State) (offset width value : Nat) : State :=
  if bar0Form offset width then
    let index := offset / 2048
    let sub := offset % 2048 / 8
    let t := s.writeObject .host index sub (leBytes (value % 2 ^ (8 * width)) (slotSize index sub)) (bar0WriteForm offset width)
    t.1.answer .host t.2
  else s.bar0Bad true offset

/-- BAR0_WRITE (R40, R41). -/
def execBar0Write (offset width value : Nat) (s : State) : Result :=
  if s.dictReady && s.connected .host then .next (s.bar0Store offset width value) else .next s

/-- What a BAR0 read returns in recovery (R483): the objects of Table 22.4 are served, and every other slot reads as zero, `FW_VERSION`
among them. -/
def State.recoveryRead (s : State) (offset width : Nat) : Nat :=
  if !bar0Form offset width then 0 else
  match objectFor .host (offset / 2048) (offset % 2048 / 8) with
  | some (r, i, j) =>
    if r.idx = 0x100 ∧ 0x10 ≤ r.sub ∧ r.cls ≠ .wo then s.readVal .host r i j 0 / 2 ^ (8 * (offset % 8)) % 2 ^ (8 * width) else 0
  | none => 0

/-- BAR0_MALFORMED_ACCESS (R40, R41). The table has no row for a well-formed read: one that arrives here is served as one (log
entry 183). -/
def execBar0MalformedAccess (isWrite : Bool) (offset width value : Nat) (s : State) : Result :=
  if s.dictReady && s.connected .host then
    if isWrite then .next (s.bar0Store offset width value)
    else if bar0Form offset width then .next (s.bar0Data (s.bar0Read offset width))
    else .next (s.bar0Bad false offset)
  else if s.hidden H.boot = 3 ∧ !isWrite then .next (s.emit (.readData (s.recoveryRead offset width)))
  else .next s

/-! ### Segmented transfers (R44) -/

/-- The open transfer of a master on an object. -/
def State.xfer (s : State) (id key : Nat) (write : Bool) : Option Xfer :=
  s.xfers.find? (fun x => x.master == id && x.key == key && x.write == write)

/-- It ends. -/
def State.dropXfer (s : State) (id key : Nat) (write : Bool) : State :=
  { s with xfers := s.xfers.filter (fun x => !(x.master == id && x.key == key && x.write == write)) }

/-- It is there, with new contents. -/
def State.putXfer (s : State) (x : Xfer) : State :=
  { s.dropXfer x.master x.key x.write with xfers := (s.dropXfer x.master x.key x.write).xfers ++ [x] }

/-- A new transfer: what became of the one before it is forgotten. -/
def State.forgetEnd (s : State) (id key : Nat) (write : Bool) : State :=
  { s with ends := s.ends.filter (fun e => !(e.1 == id && e.2.1 == key && e.2.2.1 == write)) }

/-- A segment without an open transfer: the code of one that was discarded meanwhile, else SEG_ORDER. -/
def State.noXfer (s : State) (id key : Nat) (write : Bool) : State × Nat :=
  match s.ends.find? (fun e => e.1 == id && e.2.1 == key && e.2.2.1 == write) with
  | some e => (s.forgetEnd id key write, e.2.2.2)
  | none => (s, Abort.segOrder)

/-- A segment joins its transfer; the last one applies the whole object. -/
def State.segTake (s : State) (m : Master) (r : Row) (i j : Nat) (x : Xfer) (b : List Byte) (last : Bool) : State × Nat :=
  let x := { x with data := x.data ++ b }
  if !last then (s.putXfer x, 0)
  else
    let s := s.dropXfer x.master x.key true
    if x.data.length ≠ x.total then (s, Abort.segTotal) else s.applyWrite m r i j x.data

/-- A segment of a write (R44). -/
def State.xferWrite (s : State) (m : Master) (index sub offset total : Nat) (b : List Byte) (last : Bool) : State × Nat :=
  match s.judgeWrite m index sub with
  | .error c => (s, c)
  | .ok (r, i, j) =>
    let key := r.key i j
    if r.ty ≠ .domain then (s, Abort.type)
    else if offset = 0 then
      if s.xfers.any (fun x => x.write && x.key == key) then (s, Abort.busy)
      else
        let s := s.forgetEnd m.id key true
        s.segTake m r i j { master := m.id, key := key, write := true, total := total, data := [] } b last
    else match s.xfer m.id key true with
    | none => if s.xfers.any (fun x => x.write && x.key == key) then (s, Abort.busy) else s.noXfer m.id key true
    | some x => if offset ≠ x.data.length then (s.dropXfer m.id key true, Abort.segOrder) else s.segTake m r i j x b last

/-- A segment served from the snapshot: the state, the bytes, the total length, and whether it is the last. -/
def State.segServe (s : State) (x : Xfer) (len : Nat) : State × List Byte × Nat × Bool :=
  let b := (x.data.drop x.next).take len
  let x := { x with next := x.next + b.length }
  let last := decide (x.total ≤ x.next)
  (if last then s.dropXfer x.master x.key false else s.putXfer x, b, x.total, last)

/-- A segment of a read: what it serves, or the code; with the state either way. -/
def State.xferRead (s : State) (m : Master) (index sub view offset len : Nat) : State × Except Nat (List Byte × Nat × Bool) :=
  match s.judgeRead m index sub view (fun r => r.ty != .domain) with
  | .error c => (s, .error c)
  | .ok (r, i, j) =>
    let key := r.key i j
    if offset = 0 then
      let b := s.domBytes r i j
      let s := s.forgetEnd m.id key false
      let t := s.segServe { master := m.id, key := key, write := false, total := b.length, data := b } len
      (t.1, .ok t.2)
    else match s.xfer m.id key false with
    | none => let t := s.noXfer m.id key false; (t.1, .error t.2)
    | some x =>
      if x.broken then (s.dropXfer m.id key false, .error Abort.busy)
      else if offset ≠ x.next then (s.dropXfer m.id key false, .error Abort.segOrder)
      else let t := s.segServe x len; (t.1, .ok t.2)

/-- A master's transfers on an object are discarded, and a later segment hears of it. -/
def State.abandonXfer (s : State) (id key : Nat) : State :=
  let gone := s.xfers.filter (fun x => x.master == id && x.key == key)
  { s with xfers := s.xfers.filter (fun x => !(x.master == id && x.key == key)),
           ends := s.ends ++ gone.map (fun x => (x.master, x.key, x.write, Abort.segAbandoned)) }

/-- SEG_TRANSFER_SILENCE (R44): no segment for 1 s. -/
def execSegTransferSilence (m : Master) (index subindex : Nat) (s : State) : Result :=
  .next (s.abandonXfer m.id (index * 256 + subindex))

/-! ### The mailbox (R43) -/

/-- The bytes of a read go into the data window. -/
def State.mbxPut (s : State) (b : List Byte) : State :=
  { s with mbxData := Map.putBytes s.mbxData 0 b }.setReg O.mbxResultLen b.length

/-- A whole value is read into the window. -/
def State.mbxReadRun (s : State) (index sub view offset : Nat) : State × Nat :=
  match s.judgeRead .host index sub view with
  | .error c => (s, c)
  | .ok (r, i, j) =>
    let b := s.objBytes .host r i j view
    if 2048 < b.length then (s, Abort.type)
    else if offset ≠ 0 then (s, Abort.range)
    else (s.mbxPut b, 0)

/-- A whole value is written from the window; the form is judged before the offset. -/
def State.mbxWriteRun (s : State) (index sub offset len : Nat) : State × Nat :=
  let b := Map.getBytes s.mbxData 0 len
  let form := fun (r : Row) =>
    if (if r.ty = .domain then domForm r b else len != r.ty.size) then Abort.type else if offset ≠ 0 then Abort.range else 0
  s.writeObject .host index sub b form

/-- A segment is read into the window. -/
def State.mbxSegReadRun (s : State) (index sub view offset len : Nat) : State × Nat :=
  match s.judgeRead .host index sub view (fun r => r.ty != .domain) with
  | .ok (r, _, _) =>
    if r.ty = .domain ∧ len = 0 then (s, Abort.range)
    else
      let t := s.xferRead .host index sub view offset len
      match t.2 with
      | .error c => (t.1, c)
      | .ok (b, _, _) => (t.1.mbxPut b, 0)
  | .error c => (s, c)

/-- A segment is written from the window. -/
def State.mbxSegWriteRun (s : State) (index sub offset len total : Nat) (last : Bool) : State × Nat :=
  match s.judgeWrite .host index sub with
  | .ok (r, _, _) =>
    if r.ty = .domain ∧ len = 0 then (s, Abort.range)
    else s.xferWrite .host index sub offset total (Map.getBytes s.mbxData 0 len) last
  | .error c => (s, c)

/-- The host's transfers on the target are discarded; where it has none open, nothing is, and the command is done (DESIGN
CHOICE, log entry 135). -/
def State.mbxAbortRun (s : State) (index sub : Nat) : State × Nat :=
  match objectFor .host index sub with
  | none => (s, Abort.notFound)
  | some (r, i, j) => (s.abandonXfer 1 (r.key i j), 0)

/-- A mailbox command executes. -/
def State.mbxRun (s : State) (cmd : Nat) : State × Nat :=
  let t := s.regOf O.mbxTarget 1
  let index := bits t 31 16
  let sub := bits t 15 8
  let offset := s.regOf O.mbxOffset 1
  let len := s.regOf O.mbxLength 1
  match cmd with
  | 1 => s.mbxReadRun index sub (t % 2) offset
  | 2 => s.mbxWriteRun index sub offset len
  | 3 => s.mbxSegReadRun index sub (t % 2) offset len
  | 4 => s.mbxSegWriteRun index sub offset len (s.regOf O.mbxTotal 1) false
  | 5 => s.mbxSegWriteRun index sub offset len (s.regOf O.mbxTotal 1) true
  | _ => s.mbxAbortRun index sub

/-- The result of a mailbox command: no longer busy, done or refused. -/
def State.mbxResult (s : State) (code : Nat) : State :=
  let s := { s with mbx := none }
  let s := if code = 0 then s.setReg O.mbxStatus (2 ^ 30) else (s.setReg O.mbxStatus (2 ^ 29)).setReg O.mbxAbort code
  s.raise 0x016 (s.reg O.mbxStatus + 2 ^ 32 * s.reg O.mbxAbort)

/-- MBX_COMMAND_COMPLETE (R43): the command executes, still busy, and ends; one that ownership's end caught applies nothing
(R58), and one whose own effect ends the host's session reports nothing (R33). -/
def execMbxCommandComplete (s : State) : Result :=
  match s.mbx with
  | none => .next s
  | some c =>
    let t := if c.abort = 0 then s.mbxRun c.cmd else (s, c.abort)
    .next (if t.1.hidden H.hostUp = 0 ∨ t.1.mbx = none then { t.1 with mbx := none } else t.1.mbxResult t.2)

/-- MBX_READ (R43). -/
def execMbxRead (s : State) : Result := s.command .host O.mbxCmd 1 (actMbx 1)
/-- MBX_WRITE (R43). -/
def execMbxWrite (s : State) : Result := s.command .host O.mbxCmd 2 (actMbx 2)
/-- MBX_SEG_READ (R44). -/
def execMbxSegRead (s : State) : Result := s.command .host O.mbxCmd 3 (actMbx 3)
/-- MBX_SEG_WRITE (R44). -/
def execMbxSegWrite (s : State) : Result := s.command .host O.mbxCmd 4 (actMbx 4)
/-- MBX_SEG_WRITE_LAST (R44). -/
def execMbxSegWriteLast (s : State) : Result := s.command .host O.mbxCmd 5 (actMbx 5)
/-- MBX_ABORT_TRANSFER (R44). -/
def execMbxAbortTransfer (s : State) : Result := s.command .host O.mbxCmd 6 (actMbx 6)

end Sys2Proof.Machine
end

