-- ==== Sys2Proof/Machine/Adp.lean ====
section
/-! DEFINITION. Messages of the Alonund dictionary protocol as the device receives and answers them, on Ethernet and on CAN FD
(spec 02_dictionary.md, R44 to R54). -/

namespace Sys2Proof.Machine

/-- A field of a payload: `n` bytes at offset `o`, most significant byte first (R45). -/
def fieldAt (p : List Byte) (o n : Nat) : Nat := ofBe ((p.drop o).take n)

/-- The message types that a master sends (Table 2.6). -/
def adpTypes : List Nat := [1, 2, 3, 4, 5, 6, 7, 8, 9, 11]

/-- Whether a payload has the length that its type's fields add up to. -/
def adpLength (type : Nat) (p : List Byte) : Bool :=
  match type with
  | 1 => p.length == 4
  | 2 => decide (6 ≤ p.length) && p.length == 6 + fieldAt p 4 2
  | 3 => p.length == 10
  | 4 => decide (14 ≤ p.length) && p.length == 14 + fieldAt p 12 2
  | 5 => p.length == 1
  | 6 => p.length == 0
  | 7 => p.length == 1
  | 8 => p.length == 0
  | 9 => p.length == 5
  | _ => p.length == 8

/-- INDEX and SUB of a request, as its ABORT names them; 0 where the type has none. -/
def adpObject (type : Nat) (p : List Byte) : Nat × Nat :=
  if type = 0x0B then (fieldAt p 4 2, fieldAt p 6 1)
  else if 1 ≤ type ∧ type ≤ 4 then (fieldAt p 0 2, fieldAt p 2 1)
  else (0, 0)

/-- The master of a session. -/
def sessMaster (n : Nat) : Master := if h : n < 8 then .eth ⟨n, h⟩ else .can

/-- What a request comes to: the state, the abort code or 0, and the payload of its own reply. -/
abbrev AdpDone := State × Nat × List Byte

/-- A value between wire order and little-endian order: a DOMAIN image stays as it is (R45). -/
def wireOrder (r : Row) (b : List Byte) : List Byte := if r.ty = .domain then b else b.reverse

/-- READ (R37, R44, R46). -/
def State.adpRead (s : State) (m : Master) (p : List Byte) : AdpDone :=
  match s.judgeRead m (fieldAt p 0 2) (fieldAt p 2 1) (fieldAt p 3 1) with
  | .error c => (s, c, [])
  | .ok (r, i, j) =>
    let b := s.objBytes m r i j (fieldAt p 3 1)
    if 1394 < b.length then (s, Abort.type, [])
    else (s, 0, p.take 3 ++ beBytes r.ty.code 1 ++ beBytes b.length 2 ++ wireOrder r b)

/-- WRITE (R44, R46). -/
def State.adpWrite (s : State) (m : Master) (p : List Byte) : AdpDone :=
  let index := fieldAt p 0 2
  let sub := fieldAt p 2 1
  let b := p.drop 6
  let v := match objectFor m index sub with | some (r, _, _) => wireOrder r b | none => b
  let t := s.writeObject m index sub v (fun r => if r.ty = .domain ∧ 1394 < b.length then Abort.type else 0)
  (t.1, t.2, p.take 3)

/-- SEG_READ (R44, R46). -/
def State.adpSegRead (s : State) (m : Master) (p : List Byte) : AdpDone :=
  let max := fieldAt p 8 2
  if max = 0 ∨ 1024 < max then (s, Abort.protoLength, [])
  else
    let t := s.xferRead m (fieldAt p 0 2) (fieldAt p 2 1) (fieldAt p 3 1) (fieldAt p 4 4) max
    match t.2 with
    | .error c => (t.1, c, [])
    | .ok (b, total, last) =>
      (t.1, 0, p.take 3 ++ beBytes (b2n last) 1 ++ (p.drop 4).take 4 ++ beBytes total 4 ++ beBytes b.length 2 ++ b)

/-- SEG_WRITE (R44, R46): LAST is 0 or 1. -/
def State.adpSegWrite (s : State) (m : Master) (p : List Byte) : AdpDone :=
  let index := fieldAt p 0 2
  let sub := fieldAt p 2 1
  if 1024 < fieldAt p 12 2 then (s, Abort.protoLength, [])
  else match s.judgeWrite m index sub with
  | .error c => (s, c, [])
  | .ok (r, _, _) =>
    if r.ty = .domain ∧ 1 < fieldAt p 3 1 then (s, Abort.range, [])
    else
      let t := s.xferWrite m index sub (fieldAt p 4 4) (fieldAt p 8 4) (p.drop 14) (fieldAt p 3 1 == 1)
      (t.1, t.2, p.take 3 ++ (p.drop 4).take 4)

/-- An election request, with the payload that its reply reads from the state after it. -/
def State.adpElect (s : State) (a : Act) (reply : State → List Byte) : AdpDone :=
  let t := runAct a s
  (t.1, t.2, reply t.1)

/-- OWNER_ID and LEASE_MS. -/
def State.ownerReply (s : State) : List Byte := beBytes (s.reg O.ownerId) 1 ++ beBytes s.leaseLeft 4

/-- SUBSCRIBE (R46). -/
def State.adpSubscribe (s : State) (n : Nat) (p : List Byte) : AdpDone :=
  let first := fieldAt p 0 2
  let count := fieldAt p 2 2
  let on := fieldAt p 4 1
  if count = 0 ∨ 2048 < first + count ∨ 1 < on then (s, Abort.range, [])
  else
    let x := s.session n
    let range := (2 ^ count - 1) * 2 ^ first
    let subs := if on = 1 then x.subs ||| range else x.subs ^^^ (x.subs &&& range)
    (s.setSession n { x with subs := subs }, 0, p)

/-- ABORT of a master: with SESS_CLOSE it closes its session, else it discards its transfers on an object (R44, R46, R50). The
reply is an ABORT with its own CODE, INDEX and SUB (DESIGN CHOICE, log entry 36), also where it has no transfer open (DESIGN
CHOICE, log entry 135). -/
def State.adpAbort (s : State) (n : Nat) (p : List Byte) : AdpDone :=
  let reply := p.take 7 ++ [0#8]
  if fieldAt p 0 4 = Abort.sessClose then (s.closeSession n, 0, reply)
  else match objectFor (sessMaster n) (fieldAt p 4 2) (fieldAt p 6 1) with
  | none => (s, Abort.notFound, [])
  | some (r, i, j) => (s.abandonXfer (sessionId n) (r.key i j), 0, reply)

/-- A request of a session is executed. -/
def State.adpExecute (s : State) (n type : Nat) (q : AdpMsg) (rivals : List (Master × Nat)) : AdpDone :=
  let p := q.payload
  let m := sessMaster n
  if q.payloadLen.toNat ≠ p.length ∨ 1400 < p.length then (s, Abort.protoLength, [])
  else if !adpTypes.contains type then (s, Abort.protoType, [])
  else if !adpLength type p then (s, Abort.protoLength, [])
  else match type with
  | 1 => s.adpRead m p
  | 2 => s.adpWrite m p
  | 3 => s.adpSegRead m p
  | 4 => s.adpSegWrite m p
  | 5 => s.adpElect (actClaim m (fieldAt p 0 1) rivals) State.ownerReply
  | 6 => s.adpElect (actRenew m) (fun t => beBytes t.leaseLeft 4)
  | 7 => s.adpElect (actHandover m (fieldAt p 0 1)) (fun _ => p)
  | 8 => s.adpElect (actAccept m) State.ownerReply
  | 9 => s.adpSubscribe n p
  | _ => s.adpAbort n p

/-! ### Replies -/

/-- RESPONSE (Table 2.5). -/
def flagResponse : Nat := 0x8000

/-- The payload of an ABORT. -/
def abortPayload (code index sub : Nat) : List Byte := beBytes code 4 ++ beBytes index 2 ++ beBytes sub 1 ++ beBytes 0 1

/-- An ABORT outside every session: authenticated with the zero nonce, SEQ 0 (R48, R50). -/
def State.bareAbort (s : State) (q : AdpMsg) (session : Nat) (payload : List Byte) : State :=
  s.adpOut q.port.val q.peer (s.adpMsg 0x0B flagResponse session q.keyId.toNat 0 0 q.txn.toNat payload)

/-- The reply to a request: `s` is the state in which it was taken, `t` the state after it. A request that closed its own session
is answered in that session as it was; a device that has gone into reset answers nothing. -/
def State.adpReply (s t : State) (n type : Nat) (q : AdpMsg) (payload : List Byte) : State :=
  if !t.dictReady then t
  else if (t.session n).isOpen then
    let u := t.sessMsg n type flagResponse q.txn.toNat payload
    (u.1.setSession n { u.1.session n with reply := u.2 }).adpOut q.port.val q.peer u.2
  else t.adpOut q.port.val q.peer (s.sessMsg n type flagResponse q.txn.toNat payload).2

/-! ### Receiving -/

/-- A message fails authentication (R47): counted, and told at most once per second. -/
def State.authFail (s : State) : State :=
  let s := s.bumpSat O.adpAuthFail
  let last := s.hidden H.rare 0x015
  if last = 0 ∨ last + secondTc ≤ s.up + 1 then (s.setHidden H.rare (s.up + 1) 0x015).raise 0x015 (s.reg O.adpAuthFail) else s

/-- The tag of a message verifies under a key and a nonce. -/
def State.tagOk (s : State) (type : Nat) (q : AdpMsg) (nonce : Nat) : Bool :=
  s.keyOn q.keyId.toNat &&
    q.tag == s.adpTag q.keyId.toNat nonce
      (adpHeader type q.flags.toNat q.session.toNat q.keyId.toNat q.payloadLen.toNat q.seq.toNat q.txn.toNat) q.payload

/-- The lowest free session of a port. -/
def State.freeSession (s : State) (port : Nat) : Option Nat :=
  (if port = 2 then [8] else List.range 8).find? (fun n => !(s.session n).isOpen)

/-- An opening request (R48). The SESS_FULL reply keeps SESSION 0xFF; INDEX and SUB of both replies are 0 (DESIGN CHOICE, log entry
36). -/
def State.adpOpen (s : State) (type : Nat) (q : AdpMsg) : State :=
  if !s.tagOk type q 0 then s.authFail
  else if q.seq ≠ 0 then s
  else match s.freeSession q.port.val with
  | none => s.bareAbort q 0xFF (abortPayload Abort.sessFull 0 0)
  | some n =>
    let k := s.hidden H.nonces
    let nonce := (Config.nonce k).toNat
    let s := s.setHidden H.nonces (k + 1)
    let s := s.setSession n { isOpen := true, key := q.keyId.toNat, nonce := nonce, port := q.port.val, peer := q.peer }
    let s := s.setReg O.sessOpen (setBit (s.reg O.sessOpen) n true)
    s.bareAbort q n (abortPayload Abort.sessNew 0 0 ++ beBytes nonce 8)

/-- A message of an open session (R47, R49). -/
def State.adpInSession (s : State) (n type : Nat) (q : AdpMsg) (rivals : List (Master × Nat)) : State :=
  let x := s.session n
  let seq := q.seq.toNat
  if q.keyId.toNat ≠ x.key ∨ !s.tagOk type q x.nonce then s.authFail
  else if seq = x.rxSeq then (if x.reply.isEmpty then s else s.adpOut q.port.val q.peer x.reply)
  else if seq < x.rxSeq then s
  else
    let s := s.setSession n { x with rxSeq := seq, reply := [], port := q.port.val, peer := q.peer }
    let t := s.adpExecute n type q rivals
    let o := adpObject type q.payload
    if t.2.1 = 0 then s.adpReply t.1 n type q t.2.2
    else s.adpReply t.1 n 0x0B q (abortPayload t.2.1 o.1 o.2)

/-- A session that a port can reach: 0 to 7 on Ethernet, 8 on CAN FD. -/
def portSession (port n : Nat) : Bool := if port = 2 then n == 8 else decide (n < 8)

/-- The port serves ADP: it is up, in P4 in the low-rate mode (R45, R448), and the dictionary server runs. -/
def State.portServes (s : State) (port : Nat) : Bool :=
  s.dictReady && (if port = 2 then s.reg O.canState != 2
    else s.plan O.ethRate port != 0 && (s.reg O.ethLink port != 0 || s.reg O.pwrState == 4))

/-- A message arrives. -/
def State.adpReceive (s : State) (type : Nat) (q : AdpMsg) (rivals : List (Master × Nat)) : State :=
  let n := q.session.toNat
  if !s.portServes q.port.val || (q.port != 2 && q.peer.localPort != 47120) || q.version != 1 then s
  else if n = 0xFF then s.adpOpen type q
  else if portSession q.port.val n && (s.session n).isOpen then s.adpInSession n type q rivals
  else if s.keyOn q.keyId.toNat then s.bareAbort q n (abortPayload Abort.sessUnknown 0 0)
  else s.authFail

/-! ### Rows -/

/-- ADP_SESSION_OPEN (R48). -/
def execAdpSessionOpen (type : Byte) (q : AdpMsg) (s : State) : Result :=
  if q.session = 0xFF then .next (s.adpReceive type.toNat q []) else .next s
/-- ADP_READ (R46). -/
def execAdpRead (q : AdpMsg) (s : State) : Result := .next (s.adpReceive 1 q [])
/-- ADP_WRITE (R46). -/
def execAdpWrite (q : AdpMsg) (s : State) : Result := .next (s.adpReceive 2 q [])
/-- ADP_SEG_READ (R44). -/
def execAdpSegRead (q : AdpMsg) (s : State) : Result := .next (s.adpReceive 3 q [])
/-- ADP_SEG_WRITE (R44). -/
def execAdpSegWrite (q : AdpMsg) (s : State) : Result := .next (s.adpReceive 4 q [])
/-- ADP_CLAIM (R57), with the other claims of its fP cycle. -/
def execAdpClaim (q : AdpMsg) (rivals : List (Master × Nat)) (s : State) : Result := .next (s.adpReceive 5 q rivals)
/-- ADP_RENEW (R57). -/
def execAdpRenew (q : AdpMsg) (s : State) : Result := .next (s.adpReceive 6 q [])
/-- ADP_HANDOVER (R57). -/
def execAdpHandover (q : AdpMsg) (s : State) : Result := .next (s.adpReceive 7 q [])
/-- ADP_ACCEPT (R57). -/
def execAdpAccept (q : AdpMsg) (s : State) : Result := .next (s.adpReceive 8 q [])
/-- ADP_SUBSCRIBE (R46). -/
def execAdpSubscribe (q : AdpMsg) (s : State) : Result := .next (s.adpReceive 9 q [])
/-- ADP_ABORT_TRANSFER (R46): an ABORT with a code other than SESS_CLOSE. -/
def execAdpAbortTransfer (q : AdpMsg) (s : State) : Result :=
  if fieldAt q.payload 0 4 = Abort.sessClose then .next s else .next (s.adpReceive 0x0B q [])
/-- SESS_CLOSE (R50): an ABORT with SESS_CLOSE. -/
def execSessClose (q : AdpMsg) (s : State) : Result :=
  if fieldAt q.payload 0 4 = Abort.sessClose then .next (s.adpReceive 0x0B q []) else .next s
/-- ADP_UNKNOWN_TYPE (R52). -/
def execAdpUnknownType (type : Byte) (q : AdpMsg) (s : State) : Result :=
  if adpTypes.contains type.toNat then .next s else .next (s.adpReceive type.toNat q [])

/-- ADP_IDLE_TIMEOUT (R50): no authenticated request has arrived in session `n` for `ADP_IDLE`. -/
def execAdpIdleTimeout (n : Fin 9) (s : State) : Result := .next (s.closeSession n.val)

/-! ### CAN FD (R53, R54) -/

/-- A whole message on CAN FD: padding is removed using PAYLOAD_LEN; what is shorter than that says cannot be verified, and goes. -/
def State.canMessage (s : State) (b : List Byte) (rivals : List (Master × Nat)) : State :=
  let len := fieldAt b 6 2
  let tail := b.drop 16
  if b.length < 48 + len then s else
  s.adpReceive (fieldAt b 1 1)
    { port := 2, version := BitVec.ofNat 8 (fieldAt b 0 1), flags := BitVec.ofNat 16 (fieldAt b 2 2),
      session := BitVec.ofNat 8 (fieldAt b 4 1), keyId := BitVec.ofNat 8 (fieldAt b 5 1), payloadLen := BitVec.ofNat 16 len,
      seq := BitVec.ofNat 32 (fieldAt b 8 4), txn := BitVec.ofNat 32 (fieldAt b 12 4), payload := tail.take len,
      tag := (tail.drop len).take 32 } rivals

/-- A fragment joins the message being received; the last one completes it. -/
def State.canJoin (s : State) (a : CanAsm) (frag : List Byte) (last : Bool) (rivals : List (Master × Nat)) : State :=
  let b := a.data ++ frag
  if last then { s with can := none }.canMessage b rivals else { s with can := some ⟨b, (a.next + 1) % 64⟩ }

/-- A counter out of sequence: the message is discarded and counted. -/
def State.canDiscard (s : State) : State := { s with can := none }.bumpSat O.canFragErr

/-- A frame addressed to the device. -/
def State.canFrame (s : State) (ctl : Nat) (frag : List Byte) (rivals : List (Master × Nat)) : State :=
  let count := ctl % 64
  let last := ctl.testBit 6
  if ctl.testBit 7 then
    if count = 0 then s.canJoin ⟨[], 0⟩ frag last rivals else s.canDiscard
  else match s.can with
  | none => s
  | some a => if count = a.next then s.canJoin a frag last rivals else s.canDiscard

/-- CAN_FRAME_RECEIVED (R53, R54), with the other claims of its fP cycle (R57): frames with another function or node number are
ignored. -/
def execCanFrameReceived (ident : BitVec 11) (data : List Byte) (rivals : List (Master × Nat)) (s : State) : Result :=
  match data with
  | [] => .next s
  | c :: frag =>
    if s.portServes 2 && ident.toNat == 0b0110 * 128 + s.reg O.canNode then .next (s.canFrame c.toNat frag rivals) else .next s

end Sys2Proof.Machine
end

