-- ==== Sys2Proof/Machine/AwlCore.lean ====
section
/-! DEFINITION. What the awl instructions share (spec 10_awl_isa.md): operand forms, address arithmetic, register codes, stalls
and surcharges, the loop end check, and the retiring of an instruction. -/

namespace Sys2Proof.Machine

/-! ### Operand forms -/

/-- The value of a second operand. -/
def Core.op2 (c : Core) (o : Op2) : BitVec 16 :=
  match o with
  | .reg t => c.d.get t
  | .imm v => v

/-- Write a data register. -/
def Core.setD (c : Core) (n : Fin 8) (v : BitVec 16) : Core := { c with d := c.d.set n v }

/-- Write an accumulator. -/
def Core.setW (c : Core) (n : Fin 2) (v : BitVec 40) : Core := { c with w := c.w.set n v }

/-- `step` of R225, on the base and length of one address unit. -/
def awStep (jb jl p : BitVec 20) (a : Int) : BitVec 20 :=
  if jl.toNat = 0 then BitVec.ofInt 20 ((p.toNat : Int) + a)
  else BitVec.ofInt 20 ((jb.toNat : Int) + ((p.toNat : Int) - (jb.toNat : Int) + a) % (jl.toNat : Int))

/-- A step of unit n from where its address register stands. -/
def Core.stepJ (c : Core) (n : Fin 8) (a : Int) : BitVec 20 := awStep (c.jb.get n) (c.jl.get n) (c.j.get n) a

/-- The address of a mode of format L (Table 10.6). -/
def Core.addr (c : Core) (jp : Fin 8) (m : AMode) : BitVec 20 :=
  match m with
  | .offset i => c.stepJ jp i.toInt
  | .postInc _ => c.j.get jp
  | .postMod _ => c.j.get jp
  | .indexed k => c.stepJ jp (c.jm.get k).toInt

/-- The address register after it (Table 10.6). -/
def Core.after (c : Core) (jp : Fin 8) (m : AMode) : Core :=
  match m with
  | .offset _ => c
  | .postInc i => { c with j := c.j.set jp (c.stepJ jp i.toInt) }
  | .postMod k => { c with j := c.j.set jp (c.stepJ jp (c.jm.get k).toInt) }
  | .indexed _ => c

/-- Unit of an X load, J0 to J3. -/
def xUnit (x : XLoad) : Fin 8 := ⟨x.unit.val, by omega⟩
/-- Unit of a Y load, J4 to J7. -/
def yUnit (y : XLoad) : Fin 8 := ⟨4 + y.unit.val, by omega⟩

/-- The post-modification of a load of format X (R219): select 0 leaves the register as it is, 1 two bytes, 2 and 3 the modifiers of the side. -/
def Core.xmod (c : Core) (md : Fin 4) (lo hi : Fin 4) : Int :=
  match md.val with
  | 0 => 0
  | 1 => 2
  | 2 => (c.jm.get lo).toInt
  | _ => (c.jm.get hi).toInt

/-! ### Register codes (R220, Table 10.4) -/

/-- The value of a register code. -/
def Core.readCode (c : Core) (code : Nat) : Nat :=
  if code < 0x08 then (c.d[code]?.getD 0).toNat
  else if code < 0x10 then (c.j[code - 0x08]?.getD 0).toNat
  else if code < 0x18 then (c.jb[code - 0x10]?.getD 0).toNat
  else if code < 0x20 then (c.jl[code - 0x18]?.getD 0).toNat
  else if code < 0x24 then (c.jm[code - 0x20]?.getD 0).toNat
  else if code < 0x27 then (c.k[code - 0x24]?.getD 0).toNat
  else if code = 0x27 then c.sr.toNat
  else
    let w := c.w[(code - 0x28) / 3]?.getD 0
    match (code - 0x28) % 3 with
    | 0 => w.toNat % 65536
    | 1 => w.toNat / 65536 % 65536
    | _ => ofI 16 (toI 8 (w.toNat / 2 ^ 32))

/-- One part of an accumulator replaced. -/
def setPart (w : BitVec 40) (part : Nat) (v : Nat) : BitVec 40 :=
  let n := w.toNat
  match part with
  | 0 => BitVec.ofNat 40 (n / 65536 * 65536 + v % 65536)
  | 1 => BitVec.ofNat 40 (n / 2 ^ 32 * 2 ^ 32 + v % 65536 * 65536 + n % 65536)
  | _ => BitVec.ofNat 40 (v % 256 * 2 ^ 32 + n % 2 ^ 32)

/-- Write a value to a register code: its low-order bits (R220), SR by R218. -/
def Core.writeCode (c : Core) (code v : Nat) : Core :=
  if code < 0x08 then { c with d := c.d.setIfInBounds code (BitVec.ofNat 16 v) }
  else if code < 0x10 then { c with j := c.j.setIfInBounds (code - 0x08) (BitVec.ofNat 20 v) }
  else if code < 0x18 then { c with jb := c.jb.setIfInBounds (code - 0x10) (BitVec.ofNat 20 v) }
  else if code < 0x20 then { c with jl := c.jl.setIfInBounds (code - 0x18) (BitVec.ofNat 20 v) }
  else if code < 0x24 then { c with jm := c.jm.setIfInBounds (code - 0x20) (BitVec.ofNat 20 v) }
  else if code < 0x27 then { c with k := c.k.setIfInBounds (code - 0x24) (BitVec.ofNat 16 v) }
  else if code = 0x27 then { c with sr := srWrite c.sr (BitVec.ofNat 16 v) }
  else
    let n := (code - 0x28) / 3
    { c with w := c.w.setIfInBounds n (setPart (c.w[n]?.getD 0) ((code - 0x28) % 3) v) }

/-- Bits that a read of a register code yields. -/
def readWidth (code : Nat) : Nat := if 0x08 ≤ code ∧ code < 0x24 then 20 else 16

/-- The value that a MOV writes (R220): sign-extended into JM0 to JM3 from a narrower register, else as it is. -/
def movValue (rd rs v : Nat) : Nat :=
  if 0x20 ≤ rd ∧ rd < 0x24 ∧ readWidth rs = 16 then ofI 20 (toI 16 v) else v

/-! ### Stalls (R235, Table 10.8) -/

/-- Stall after a write to an address register that an access uses. -/
def Core.stallA (c : Core) (mask : Nat) : Nat :=
  if c.hazA1 &&& mask ≠ 0 then 2 else if c.hazA2 &&& mask ≠ 0 then 1 else 0

/-- Stall after a data register that becomes a count, a length or an offset. -/
def Core.stallD (c : Core) (mask : Nat) : Nat :=
  if c.hazD1 &&& mask ≠ 0 then 2 else if c.hazD2 &&& mask ≠ 0 then 1 else 0

/-- Stall after an accumulator that the arithmetic reads. -/
def Core.stallW (c : Core) (mask : Nat) : Nat := if c.hazW1 &&& mask ≠ 0 then 1 else 0

/-- Address registers of unit n: Jn, JBn, JLn. -/
def unitMask (n : Nat) : Nat := 2 ^ n + 2 ^ (8 + n) + 2 ^ (16 + n)

/-- Address registers that a mode uses. -/
def modeMask (jp : Fin 8) (m : AMode) : Nat :=
  unitMask jp.val + (match m with
    | .offset _ => 0
    | .postInc _ => 0
    | .postMod k => 2 ^ (24 + k.val)
    | .indexed k => 2 ^ (24 + k.val))

/-- Address registers that a load of format X uses: its unit, and its side's modifier. -/
def xMask (unit : Fin 8) (md lo : Nat) : Nat := unitMask unit.val + (if md < 2 then 0 else 2 ^ (24 + lo + md - 2))

/-- What an instruction writes, as Table 10.8 groups it: address registers, data registers, accumulators. -/
structure Writes where
  /-- as `hazA1` -/
  a : Nat := 0
  /-- as `hazD1` -/
  d : Nat := 0
  /-- as `hazW1` -/
  w : Nat := 0
deriving DecidableEq, Repr

/-! ### Surcharges (R197, R223) -/

/-- Enabled positions of a bench. -/
def State.awPeers (s : State) (b : Nat) : Nat := ((List.range 16).filter (fun i => s.plan O.awEnable (16 * b + i) == 1)).length

/-- Surcharge of the accesses at some addresses: a cycle for each to bench memory, with the round-robin wait, at most n − 1 each;
a cycle for a second access to the same bank. -/
def State.surcharge (s : State) (b waits : Nat) (as : List Nat) : Nat :=
  let m := (as.filter (fun a => awRegion a == 2)).length
  let x := (as.filter (fun a => awRegion a == 0)).length
  let y := (as.filter (fun a => awRegion a == 1)).length
  m + min waits (m * (s.awPeers b - 1)) + (x - 1) + (y - 1)

/-! ### Fetching and retiring (R222, R231, R234) -/

/-- The waits that a command brings. -/
def awWaits (i : Instr) : Nat :=
  match i with
  | .emit _ _ _ _ n => n
  | .ld _ _ _ _ n => n
  | .st _ _ _ _ n => n
  | .ldw _ _ _ _ n => n
  | .stw _ _ _ _ _ n => n
  | .ld2 _ _ _ n => n
  | .macx _ _ _ _ _ _ _ _ n => n
  | _ => 0

/-- The instruction at a position's PC; beyond the image it is WAIT (R222). -/
def State.awFetch (s : State) (p : Pos) (waits : Nat) : Option Instr :=
  let q := s.aw (posKey p)
  if q.core.pc.toNat < q.ilen then awDecode p waits (Map.get q.imem 0 q.core.pc.toNat) else some (.wait p)

/-- The position's core runs a frame and is at this instruction. -/
def State.awReady (s : State) (p : Pos) (i : Instr) : Bool :=
  (s.aw (posKey p)).running && s.awFetch p (awWaits i) == some i

/-- The loop end check at an instruction that retires at `pc` (R231): counters, levels that stay, and where a level loops to. -/
def loopCheck (pc : BitVec 12) (k : Vector (BitVec 16) 3) :
    List (Fin 3 × BitVec 12 × BitVec 12) → Vector (BitVec 16) 3 × List (Fin 3 × BitVec 12 × BitVec 12) × Option (BitVec 12)
  | [] => (k, [], none)
  | l :: ls =>
    if l.2.2 = pc then
      if 1 < (k.get l.1).toNat then (k.set l.1 (k.get l.1 - 1), l :: ls, some l.2.1)
      else loopCheck pc (k.set l.1 0) ls
    else
      let r := loopCheck pc k ls
      (r.1, l :: r.2.1, r.2.2)

/-- The core goes on after an instruction that is no transfer of control. -/
def Core.advance (c : Core) : Core :=
  let r := loopCheck c.pc c.k c.loops
  { c with k := r.1, loops := r.2.1, pc := r.2.2.getD (c.pc + 1) }

/-- What was written moves one instruction back (Table 10.8). -/
def Core.shift (c : Core) (x : Writes) : Core := { c with hazA1 := x.a, hazA2 := c.hazA1, hazD1 := x.d, hazD2 := c.hazD1, hazW1 := x.w }

/-- An instruction retires whole or not at all (R234): when the core is at it and its cycles stay within the budget. -/
def State.awIssue (s : State) (p : Pos) (i : Instr) (cost : Nat) (x : Writes) (f : State → State) : Result :=
  let k := posKey p
  let q := s.aw k
  if s.awReady p i then
    if q.cycles + cost ≤ q.budget then
      let s := f s
      let q' := s.aw k
      .next (s.setAw k { q' with cycles := q.cycles + cost, core := q'.core.shift x })
    else .next s
  else .next s

/-- An instruction that acts on the core's registers alone and goes on to the next. -/
def State.awRegs (s : State) (p : Pos) (i : Instr) (cost : Nat) (x : Writes) (f : Core → Core) : Result :=
  s.awIssue p i cost x (fun s => s.setCore (posKey p) (f (s.aw (posKey p)).core).advance)

/-- An instruction that acts beyond the registers and goes on to the next. -/
def State.awActs (s : State) (p : Pos) (i : Instr) (cost : Nat) (x : Writes) (f : State → State) : Result :=
  s.awIssue p i cost x (fun s => let s := f s; s.setCore (posKey p) (s.aw (posKey p)).core.advance)

/-- The core of a position. -/
def State.core (s : State) (p : Pos) : Core := (s.aw (posKey p)).core

end Sys2Proof.Machine
end

