-- ==== Sys2Proof/Machine/AwlArith.lean ====
section
/-! DEFINITION. Awl instructions of format R: arithmetic on the data registers (spec 10_awl_isa.md, R229). -/

namespace Sys2Proof.Machine

/-! ### Results and flags -/

/-- A signed result saturated to 16 bits. -/
def sat16 (v : Int) : BitVec 16 := BitVec.ofInt 16 (clampI (-32768) 32767 v)

/-- A signed result outside 16 bits. -/
def over16 (v : Int) : Bool := decide (v < -32768 ∨ 32767 < v)

/-- A sum: result, carry out, overflow. -/
def sum16 (a b : BitVec 16) : BitVec 16 × Bool × Bool := (a + b, decide (65536 ≤ a.toNat + b.toNat), over16 (a.toInt + b.toInt))

/-- A difference: result, no borrow, overflow. -/
def diff16 (a b : BitVec 16) : BitVec 16 × Bool × Bool := (a - b, decide (b.toNat ≤ a.toNat), over16 (a.toInt - b.toInt))

/-- A result with Z, N, C, V and VS. -/
def Core.putZNCV (c : Core) (dd : Fin 8) (r : BitVec 16 × Bool × Bool) : Core :=
  { c.setD dd r.1 with sr := srZNCV c.sr r.1 r.2.1 r.2.2 }

/-- A saturated result with Z, N, C, V, SAT and VS: C and V are those of the sum or difference itself. -/
def Core.putSat (c : Core) (dd : Fin 8) (r : BitVec 16 × Bool × Bool) (v : Int) : Core :=
  { c.setD dd (sat16 v) with sr := srStick (srZNCV c.sr (sat16 v) r.2.1 r.2.2) SR.sat r.2.2 }

/-- A result with Z and N, C and V cleared. -/
def Core.putLogic (c : Core) (dd : Fin 8) (r : BitVec 16) : Core :=
  { c.setD dd r with sr := srSet (srSet (srZN c.sr r) SR.c false) SR.v false }

/-- A result with Z and N. -/
def Core.putZN (c : Core) (dd : Fin 8) (r : BitVec 16) : Core := { c.setD dd r with sr := srZN c.sr r }

/-- A shifted result with Z, N and C. -/
def Core.putShift (c : Core) (dd : Fin 8) (r : BitVec 16 × Bool) : Core :=
  { c.setD dd r.1 with sr := srSet (srZN c.sr r.1) SR.c r.2 }

/-- A shift count: above 16 acts as 16. -/
def shiftCount (v : BitVec 16) : Nat := min 16 v.toNat

/-- SHL: result and the last bit moved out. -/
def shl16 (a : BitVec 16) (n : Nat) : BitVec 16 × Bool := (a <<< n, decide (0 < n) && a.getLsbD (16 - n))
/-- SHR likewise. -/
def shr16 (a : BitVec 16) (n : Nat) : BitVec 16 × Bool := (a >>> n, decide (0 < n) && a.getLsbD (n - 1))
/-- SRA likewise. -/
def sra16 (a : BitVec 16) (n : Nat) : BitVec 16 × Bool := (a.sshiftRight n, decide (0 < n) && a.getLsbD (n - 1))

/-! ### Instructions -/

/-- ADD -/
def execAdd (p : Pos) (dd ds : Fin 8) (o : Op2) (s : State) : Result :=
  s.awRegs p (.add p dd ds o) 1 { d := 2 ^ dd.val } (fun c => c.putZNCV dd (sum16 (c.d.get ds) (c.op2 o)))
/-- ADDS -/
def execAdds (p : Pos) (dd ds : Fin 8) (o : Op2) (s : State) : Result :=
  s.awRegs p (.adds p dd ds o) 1 { d := 2 ^ dd.val }
    (fun c => c.putSat dd (sum16 (c.d.get ds) (c.op2 o)) ((c.d.get ds).toInt + (c.op2 o).toInt))
/-- SUB -/
def execSub (p : Pos) (dd ds : Fin 8) (o : Op2) (s : State) : Result :=
  s.awRegs p (.sub p dd ds o) 1 { d := 2 ^ dd.val } (fun c => c.putZNCV dd (diff16 (c.d.get ds) (c.op2 o)))
/-- SUBS -/
def execSubs (p : Pos) (dd ds : Fin 8) (o : Op2) (s : State) : Result :=
  s.awRegs p (.subs p dd ds o) 1 { d := 2 ^ dd.val }
    (fun c => c.putSat dd (diff16 (c.d.get ds) (c.op2 o)) ((c.d.get ds).toInt - (c.op2 o).toInt))
/-- AND -/
def execAnd (p : Pos) (dd ds : Fin 8) (o : Op2) (s : State) : Result :=
  s.awRegs p (.and p dd ds o) 1 { d := 2 ^ dd.val } (fun c => c.putLogic dd (c.d.get ds &&& c.op2 o))
/-- OR -/
def execOr (p : Pos) (dd ds : Fin 8) (o : Op2) (s : State) : Result :=
  s.awRegs p (.or p dd ds o) 1 { d := 2 ^ dd.val } (fun c => c.putLogic dd (c.d.get ds ||| c.op2 o))
/-- XOR -/
def execXor (p : Pos) (dd ds : Fin 8) (o : Op2) (s : State) : Result :=
  s.awRegs p (.xor p dd ds o) 1 { d := 2 ^ dd.val } (fun c => c.putLogic dd (c.d.get ds ^^^ c.op2 o))
/-- CMP -/
def execCmp (p : Pos) (ds : Fin 8) (o : Op2) (s : State) : Result :=
  s.awRegs p (.cmp p ds o) 1 {} (fun c =>
    let r := diff16 (c.d.get ds) (c.op2 o)
    { c with sr := srZNCV c.sr r.1 r.2.1 r.2.2 })
/-- MIN -/
def execMin (p : Pos) (dd ds : Fin 8) (o : Op2) (s : State) : Result :=
  s.awRegs p (.min p dd ds o) 1 { d := 2 ^ dd.val }
    (fun c => c.putZN dd (if (c.op2 o).toInt < (c.d.get ds).toInt then c.op2 o else c.d.get ds))
/-- MAX -/
def execMax (p : Pos) (dd ds : Fin 8) (o : Op2) (s : State) : Result :=
  s.awRegs p (.max p dd ds o) 1 { d := 2 ^ dd.val }
    (fun c => c.putZN dd (if (c.d.get ds).toInt < (c.op2 o).toInt then c.op2 o else c.d.get ds))
/-- ABS -/
def execAbs (p : Pos) (dd ds : Fin 8) (s : State) : Result :=
  s.awRegs p (.abs p dd ds) 1 { d := 2 ^ dd.val } (fun c =>
    let v : Int := ((c.d.get ds).toInt.natAbs : Int)
    let c := c.putZN dd (sat16 v)
    { c with sr := srStick c.sr SR.sat (over16 v) })
/-- NEG -/
def execNeg (p : Pos) (dd ds : Fin 8) (s : State) : Result :=
  s.awRegs p (.neg p dd ds) 1 { d := 2 ^ dd.val } (fun c =>
    let v := over16 (-(c.d.get ds).toInt)
    let c := c.putZN dd (-(c.d.get ds))
    { c with sr := srStick (srSet c.sr SR.v v) SR.vs v })
/-- SHL -/
def execShl (p : Pos) (dd ds : Fin 8) (o : Op2) (s : State) : Result :=
  s.awRegs p (.shl p dd ds o) 1 { d := 2 ^ dd.val } (fun c => c.putShift dd (shl16 (c.d.get ds) (shiftCount (c.op2 o))))
/-- SHR -/
def execShr (p : Pos) (dd ds : Fin 8) (o : Op2) (s : State) : Result :=
  s.awRegs p (.shr p dd ds o) 1 { d := 2 ^ dd.val } (fun c => c.putShift dd (shr16 (c.d.get ds) (shiftCount (c.op2 o))))
/-- SRA -/
def execSra (p : Pos) (dd ds : Fin 8) (o : Op2) (s : State) : Result :=
  s.awRegs p (.sra p dd ds o) 1 { d := 2 ^ dd.val } (fun c => c.putShift dd (sra16 (c.d.get ds) (shiftCount (c.op2 o))))

end Sys2Proof.Machine
end

