-- ==== Sys2Proof/Machine/AwlMove.lean ====
section
/-! DEFINITION. Awl instructions of formats M, L and X: moves, loads and stores (spec 10_awl_isa.md, R219, R220, R223 to R227). -/

namespace Sys2Proof.Machine

/-- Address registers that a write to a register code changes, as a mask of Table 10.8. -/
def codeMask (code : Nat) : Nat := if 0x08 ≤ code ∧ code < 0x24 then 2 ^ (code - 0x08) else 0

/-- The accumulator that a part's code reads, as a mask. -/
def partMask (code : Nat) : Nat := if 0x28 ≤ code then 2 ^ ((code - 0x28) / 3) else 0

/-- MOV (R220). -/
def execMov (p : Pos) (rd rs : Fin 64) (s : State) : Result :=
  s.awRegs p (.mov p rd rs) (1 + (s.core p).stallW (partMask rs.val)) { a := codeMask rd.val }
    (fun c => c.writeCode rd.val (movValue rd.val rs.val (c.readCode rs.val)))

/-- MOVI (R220). -/
def execMovi (p : Pos) (rd : Fin 64) (imm : BitVec 20) (s : State) : Result :=
  s.awRegs p (.movi p rd imm) 1 { a := codeMask rd.val } (fun c => c.writeCode rd.val imm.toNat)

/-- Cycles of an access of format L. -/
def State.costL (s : State) (p : Pos) (jp : Fin 8) (a : AMode) (waits w : Nat) : Nat :=
  let c := s.core p
  1 + s.surcharge p.bench.val waits [(c.addr jp a).toNat] + max (c.stallA (modeMask jp a)) (c.stallW w)

/-- The core's registers change. -/
def State.onCore (s : State) (p : Pos) (f : Core → Core) : State := s.setCore (posKey p) (f (s.core p))

/-- LD (R224). -/
def execLd (p : Pos) (dd jp : Fin 8) (a : AMode) (waits : Nat) (s : State) : Result :=
  s.awActs p (.ld p dd jp a waits) (s.costL p jp a waits 0) { d := 2 ^ dd.val } (fun s =>
    let r := s.awLoad (posKey p) ((s.core p).addr jp a).toNat 2
    r.2.onCore p (fun c => (c.after jp a).setD dd (BitVec.ofNat 16 r.1)))

/-- ST (R224). -/
def execSt (p : Pos) (dd jp : Fin 8) (a : AMode) (waits : Nat) (s : State) : Result :=
  s.awActs p (.st p dd jp a waits) (s.costL p jp a waits 0) {} (fun s =>
    let c := s.core p
    (s.awStore (posKey p) (c.addr jp a).toNat 2 (c.d.get dd).toNat).onCore p (fun c => c.after jp a))

/-- LDW (R224). -/
def execLdw (p : Pos) (wn : Fin 2) (jp : Fin 8) (a : AMode) (waits : Nat) (s : State) : Result :=
  s.awActs p (.ldw p wn jp a waits) (s.costL p jp a waits 0) {} (fun s =>
    let r := s.awLoad (posKey p) ((s.core p).addr jp a).toNat 4
    r.2.onCore p (fun c => (c.after jp a).setW wn (BitVec.ofInt 40 (toI 32 r.1))))

/-- An accumulator value saturated to 32 bits, and whether it was (R227). -/
def sat32 (v : Int) : Int × Bool :=
  if v < -(2 ^ 31) then (-(2 ^ 31), true) else if 2 ^ 31 - 1 < v then (2 ^ 31 - 1, true) else (v, false)

/-- STW (R227). -/
def execStw (p : Pos) (wn : Fin 2) (jp : Fin 8) (a : AMode) (sat : Bool) (waits : Nat) (s : State) : Result :=
  s.awActs p (.stw p wn jp a sat waits) (s.costL p jp a waits (2 ^ wn.val)) {} (fun s =>
    let c := s.core p
    let v := if sat then sat32 (c.w.get wn).toInt else ((c.w.get wn).toInt, false)
    (s.awStore (posKey p) (c.addr jp a).toNat 4 (ofI 32 v.1)).onCore p
      (fun c => { c.after jp a with sr := srStick c.sr SR.sat v.2 }))

/-- MODJ (R224). -/
def execModj (p : Pos) (jp : Fin 8) (a : AMode) (s : State) : Result :=
  s.awRegs p (.modj p jp a) (1 + (s.core p).stallA (modeMask jp a)) {} (fun c => c.after jp a)

/-! ### Format X -/

/-- One load of format X: the data register is written and the address register post-modified. -/
def State.xLoad (s : State) (p : Pos) (x : XLoad) (u : Fin 8) (lo hi : Fin 4) : State :=
  if x.skip then s
  else
    let r := s.awLoad (posKey p) ((s.core p).j.get u).toNat 2
    r.2.onCore p (fun c =>
      { c.setD x.dst (BitVec.ofNat 16 r.1) with
        j := if x.md = 0 then c.j else c.j.set u (c.stepJ u (c.xmod x.md lo hi)) })

/-- Both loads, X before Y. -/
def State.xLoads (s : State) (p : Pos) (x y : XLoad) : State := (s.xLoad p x (xUnit x) 0 1).xLoad p y (yUnit y) 2 3

/-- Cycles of format X. -/
def State.costX (s : State) (p : Pos) (x y : XLoad) (waits : Nat) : Nat :=
  let c := s.core p
  let as := (if x.skip then [] else [(c.j.get (xUnit x)).toNat]) ++ (if y.skip then [] else [(c.j.get (yUnit y)).toNat])
  let mask := (if x.skip then 0 else xMask (xUnit x) x.md.val 0) ||| (if y.skip then 0 else xMask (yUnit y) y.md.val 2)
  1 + s.surcharge p.bench.val waits as + c.stallA mask

/-- Data registers that the loads write, as a mask. -/
def xDsts (x y : XLoad) : Nat := (if x.skip then 0 else 2 ^ x.dst.val) ||| (if y.skip then 0 else 2 ^ y.dst.val)

/-- LD2 (R219). -/
def execLd2 (p : Pos) (x y : XLoad) (waits : Nat) (s : State) : Result :=
  s.awActs p (.ld2 p x y waits) (s.costX p x y waits) { d := xDsts x y } (fun s => s.xLoads p x y)

end Sys2Proof.Machine
end

