-- ==== Sys2Proof/Machine/AwlAcc.lean ====
section
/-! DEFINITION. Awl instructions of format A, and MACX: the accumulators (spec 10_awl_isa.md, R226 to R229). -/

namespace Sys2Proof.Machine

/-- The product of two data registers (R226). -/
def product (m : MMode) (a b : BitVec 16) : Int :=
  match m with
  | .ss => a.toInt * b.toInt
  | .uu => (a.toNat : Int) * (b.toNat : Int)
  | .su => a.toInt * (b.toNat : Int)
  | .fr => a.toInt * b.toInt * 2

/-- An exact result outside 40 bits. -/
def over40 (v : Int) : Bool := decide (v < -(2 ^ 39) ∨ 2 ^ 39 - 1 < v)

/-- An accumulator takes an exact result with its flags (R226). -/
def Core.putAcc (c : Core) (wn : Fin 2) (v : Int) : Core :=
  { c.setW wn (BitVec.ofInt 40 v) with sr := srAcc c.sr (BitVec.ofInt 40 v) (over40 v) }

/-- MUL (R226). -/
def execMul (p : Pos) (wn : Fin 2) (dx dy : Fin 8) (mode : MMode) (s : State) : Result :=
  s.awRegs p (.mul p wn dx dy mode) 1 { w := 2 ^ wn.val } (fun c => c.putAcc wn (product mode (c.d.get dx) (c.d.get dy)))

/-- MAC (R226). -/
def execMac (p : Pos) (wn : Fin 2) (dx dy : Fin 8) (mode : MMode) (s : State) : Result :=
  s.awRegs p (.mac p wn dx dy mode) 1 { w := 2 ^ wn.val }
    (fun c => c.putAcc wn ((c.w.get wn).toInt + product mode (c.d.get dx) (c.d.get dy)))

/-- MSU (R226). -/
def execMsu (p : Pos) (wn : Fin 2) (dx dy : Fin 8) (mode : MMode) (s : State) : Result :=
  s.awRegs p (.msu p wn dx dy mode) 1 { w := 2 ^ wn.val }
    (fun c => c.putAcc wn ((c.w.get wn).toInt - product mode (c.d.get dx) (c.d.get dy)))

/-- MACX (R226, R229): the operands are read before the loads write. -/
def execMacx (p : Pos) (wn : Fin 2) (dx dy : Fin 8) (mode : MMode) (subtract : Bool) (x y : XLoad) (waits : Nat)
    (s : State) : Result :=
  s.awActs p (.macx p wn dx dy mode subtract x y waits) (s.costX p x y waits) { d := xDsts x y, w := 2 ^ wn.val } (fun s =>
    let c := s.core p
    let v := product mode (c.d.get dx) (c.d.get dy)
    (s.onCore p (fun c => c.putAcc wn (if subtract then (c.w.get wn).toInt - v else (c.w.get wn).toInt + v))).xLoads p x y)

/-- CLRW -/
def execClrw (p : Pos) (wn : Fin 2) (s : State) : Result := s.awRegs p (.clrw p wn) 1 {} (fun c => c.setW wn 0)

/-- A part of an accumulator as RDW reads it, and whether it saturated (R227). -/
def readPart (w : BitVec 40) (part : Fin 3) (rnd sat : Bool) : BitVec 16 × Bool :=
  match part.val with
  | 0 => (BitVec.ofNat 16 w.toNat, false)
  | 1 =>
    let v := if rnd then rneDiv w.toInt 65536 * 65536 else w.toInt
    if sat ∧ v < -(2 ^ 31) then (0x8000, true)
    else if sat ∧ 2 ^ 31 - 1 < v then (0x7FFF, true)
    else (BitVec.ofInt 16 (v / 65536), false)
  | _ => (BitVec.ofInt 16 (toI 8 (w.toNat / 2 ^ 32)), false)

/-- RDW (R227). -/
def execRdw (p : Pos) (dd : Fin 8) (wn : Fin 2) (part : Fin 3) (rnd sat : Bool) (s : State) : Result :=
  s.awRegs p (.rdw p dd wn part rnd sat) (1 + (s.core p).stallW (2 ^ wn.val)) { d := 2 ^ dd.val } (fun c =>
    let r := readPart (c.w.get wn) part rnd sat
    { c.setD dd r.1 with sr := srStick c.sr SR.sat r.2 })

/-- MOVDW -/
def execMovdw (p : Pos) (wn : Fin 2) (ds : Fin 8) (s : State) : Result :=
  s.awRegs p (.movdw p wn ds) 1 { w := 2 ^ wn.val } (fun c => c.setW wn (BitVec.ofInt 40 ((c.d.get ds).toInt * 65536)))

/-- ADDW -/
def execAddw (p : Pos) (wn : Fin 2) (s : State) : Result :=
  s.awRegs p (.addw p wn) (1 + (s.core p).stallW 3) { w := 2 ^ wn.val }
    (fun c => c.putAcc wn ((c.w.get 0).toInt + (c.w.get 1).toInt))

/-- SUBW -/
def execSubw (p : Pos) (wn : Fin 2) (s : State) : Result :=
  s.awRegs p (.subw p wn) (1 + (s.core p).stallW 3) { w := 2 ^ wn.val }
    (fun c => c.putAcc wn ((c.w.get wn).toInt - (c.w.get (1 - wn)).toInt))

/-- CMPW: C says that the subtraction does not borrow. -/
def execCmpw (p : Pos) (s : State) : Result :=
  s.awRegs p (.cmpw p) (1 + (s.core p).stallW 3) {} (fun c =>
    let v := (c.w.get 0).toInt - (c.w.get 1).toInt
    { c with sr := srSet (srAcc c.sr (BitVec.ofInt 40 v) (over40 v)) SR.c (decide ((c.w.get 1).toNat ≤ (c.w.get 0).toNat)) })

/-- A value shifted by a signed count, exactly; bits shifted out on the right are lost (R228). -/
def ashift (v n : Int) : Int := if 0 ≤ n then v * 2 ^ n.toNat else v / 2 ^ (-n).toNat

/-- The count of ASH. -/
def Core.ashCount (c : Core) (n : AshCount) : Int :=
  match n with
  | .imm v => v.toInt
  | .reg r => toI 8 (c.d.get r).toNat

/-- ASH (R228). -/
def execAsh (p : Pos) (wn : Fin 2) (count : AshCount) (s : State) : Result :=
  s.awRegs p (.ash p wn count) (1 + (s.core p).stallW (2 ^ wn.val)) { w := 2 ^ wn.val }
    (fun c => c.putAcc wn (ashift (c.w.get wn).toInt (c.ashCount count)))

/-- NEGW -/
def execNegw (p : Pos) (wn : Fin 2) (s : State) : Result :=
  s.awRegs p (.negw p wn) (1 + (s.core p).stallW (2 ^ wn.val)) { w := 2 ^ wn.val } (fun c => c.putAcc wn (-(c.w.get wn).toInt))

/-- ABSW: −2^39 gives 2^39 − 1, and sets V. -/
def execAbsw (p : Pos) (wn : Fin 2) (s : State) : Result :=
  s.awRegs p (.absw p wn) (1 + (s.core p).stallW (2 ^ wn.val)) { w := 2 ^ wn.val } (fun c =>
    let v : Int := ((c.w.get wn).toInt.natAbs : Int)
    let r := BitVec.ofInt 40 (min v (2 ^ 39 - 1))
    { c.setW wn r with sr := srAcc c.sr r (over40 v) })

/-- The normalising count of an accumulator value (R228). -/
def normCount (v : Int) : Int :=
  let u := if v < 0 then -v - 1 else v
  if u = 0 then 31 else 30 - (u.toNat.log2 : Int)

/-- NORM (R228). -/
def execNorm (p : Pos) (dd : Fin 8) (wn : Fin 2) (s : State) : Result :=
  s.awRegs p (.norm p dd wn) (1 + (s.core p).stallW (2 ^ wn.val)) { d := 2 ^ dd.val }
    (fun c => c.putZN dd (BitVec.ofInt 16 (normCount (c.w.get wn).toInt)))

end Sys2Proof.Machine
end

