-- ==== Sys2Proof/Machine/AwlControl.lean ====
section
/-! DEFINITION. Awl instructions of formats C and S: control flow and the device's instructions (spec 10_awl_isa.md, R201, R204 to
R207, R230 to R233). -/

namespace Sys2Proof.Machine

/-- NOP -/
def execNop (p : Pos) (s : State) : Result := s.awRegs p (.nop p) 1 {} id

/-- WAIT (R201): the frame ends, the core sleeps and goes on after the WAIT. -/
def execWait (p : Pos) (s : State) : Result :=
  let k := posKey p
  let q := s.aw k
  if s.awReady p (.wait p) then
    if q.cycles + 1 ≤ q.budget then
      let c := q.core.advance
      let s := s.setAw k { q with cycles := q.cycles + 1, core := c, afterWait := some c.pc }
      .next (s.awFrameEnd k true)
    else .next s
  else .next s

/-- A taken branch ends the levels whose body its target leaves (R231). -/
def Core.branch (c : Core) (target : BitVec 12) : Core :=
  { c with pc := target, loops := c.loops.filter (fun l => decide (l.2.1.toNat ≤ target.toNat ∧ target.toNat ≤ l.2.2.toNat)) }

/-- BR (R230). -/
def execBr (p : Pos) (cond : BitVec 4) (target : BitVec 12) (s : State) : Result :=
  if condHolds (s.core p).sr cond then
    s.awIssue p (.br p cond target) 3 {} (fun s => s.setCore (posKey p) ((s.core p).branch target))
  else s.awRegs p (.br p cond target) 1 {} id

/-- The core calls (R232): a ninth entry discards the oldest and sets STK. -/
def Core.call (c : Core) (target : BitVec 12) : Core :=
  { c with stack := ((c.pc + 1) :: c.stack).take 8, pc := target, sr := srStick c.sr SR.stk (decide (8 ≤ c.stack.length)) }

/-- CALL (R232). -/
def execCall (p : Pos) (target : BitVec 12) (s : State) : Result :=
  s.awIssue p (.call p target) 3 {} (fun s => s.setCore (posKey p) ((s.core p).call target))

/-- The core returns (R232): an empty stack goes on at the next index and sets STK. -/
def Core.ret (c : Core) : Core :=
  match c.stack with
  | [] => { c with pc := c.pc + 1, sr := srSet c.sr SR.stk true }
  | t :: r => { c with pc := t, stack := r }

/-- RET (R232). -/
def execRet (p : Pos) (s : State) : Result :=
  s.awIssue p (.ret p) 3 {} (fun s => s.setCore (posKey p) (s.core p).ret)

/-- The count of a REP. -/
def Core.repCount (c : Core) (n : RepCount) : BitVec 16 :=
  match n with
  | .reg r => c.d.get r
  | .imm v => v.setWidth 16

/-- The core starts a loop level, or passes over the body when the count is 0 (R231). -/
def Core.rep (c : Core) (level : Fin 3) (count : BitVec 16) (last : BitVec 12) : Core :=
  let rest := c.loops.filter (fun l => l.1 != level)
  if count.toNat = 0 then { c with loops := rest, pc := last + 1 }
  else { c with k := c.k.set level count, loops := (level, c.pc + 1, last) :: rest, pc := c.pc + 1 }

/-- REP (R231). -/
def execRep (p : Pos) (level : Fin 3) (count : RepCount) (last : BitVec 12) (s : State) : Result :=
  let mask := match count with | .reg r => 2 ^ r.val | .imm _ => 0
  s.awIssue p (.rep p level count last) (1 + (s.core p).stallD mask) {}
    (fun s => s.setCore (posKey p) ((s.core p).rep level ((s.core p).repCount count) last))

/-- EVT (R206). -/
def execEvt (p : Pos) (v : Op2) (s : State) : Result :=
  s.awActs p (.evt p v) 1 {} (fun s => s.awEvent (posKey p) 1 ((s.core p).op2 v).toNat)

/-- SETFLAG (R204). -/
def execSetflag (p : Pos) (line : Fin 4) (s : State) : Result :=
  s.awActs p (.setflag p line) 1 {} (fun s => s.setAwFlags (posKey p) (setBit (s.aw (posKey p)).flags line.val true))

/-- CLRFLAG (R204). -/
def execClrflag (p : Pos) (line : Fin 4) (s : State) : Result :=
  s.awActs p (.clrflag p line) 1 {} (fun s => s.setAwFlags (posKey p) (setBit (s.aw (posKey p)).flags line.val false))

/-! ### EMIT (R205, R233) -/

/-- The record header of Table 9.3 as a bit pattern. -/
def State.awHeader (s : State) (k tag len : Nat) : Nat :=
  let q := s.aw k
  q.header / 2 ^ 288 * 2 ^ 288 + s.reg O.planGen % 65536 * 2 ^ 272 + bits q.header 271 256 * 2 ^ 256 + q.frame * 2 ^ 224 +
    q.recFlags * 2 ^ 208 + tag * 2 ^ 192 + len * 2 ^ 176 + k / 16 * 2 ^ 172 + k % 16 * 2 ^ 168 + s.reg O.awPhys k * 2 ^ 163 +
    q.window * 2 ^ 161

/-- Ring bytes of a record with `n` payload bytes. -/
def recordBytes (n : Nat) : Nat := 64 + (n + 63) / 64 * 64

/-- An EMIT is refused (R205, R233). -/
def State.awRefused (s : State) (k : Nat) : State :=
  let q := s.aw k
  let s := s.setAw k { q with core := { q.core with sr := srSet q.core.sr SR.ref true }, recFlags := q.recFlags ||| 8 }
  (s.bumpSat O.awRecRefused k).awEvent k 3 q.frame

/-- The payload lies wholly in one region (R233). -/
def payloadOk (a n : Nat) : Bool := awRegion a != 3 && decide (a + n ≤ 2 ^ 20) && awRegion a == awRegion (a + n - 1)

/-- A record enters the bench's ring and the streams that read it. -/
def State.awRecord (s : State) (k a n tag : Nat) : State :=
  let b := k / 16
  let q := s.aw k
  let size := s.plan O.bnRecSize b
  let base := s.plan O.bnRecBase b
  let m := recordBytes n
  let off := ringStart (s.reg O.bnRecWritePtr b) m size
  let h := s.awHeader k tag n
  let bytes := leBytes h 64 ++ s.awBytes k a n ++ List.replicate (m - 64 - n) 0
  let s := s.setAw k { q with recBytes := q.recBytes + m, recFlags := 0 }
  let s := ((s.writeMem (base + off) bytes).portBytes 4 m).setReg O.bnRecWritePtr ((off + m) % size) b
  (s.emit (.record 6 (leBytes h 64))).streamRing 8 b base size off m (bits h 511 448) (bits h 447 352)

/-- The effect of EMIT: `n` payload bytes from `a`. -/
def State.awEmit (s : State) (k a n tag : Nat) : State :=
  let q := s.aw k
  if n < 1 ∨ 4096 < n then s.awRefused k
  else if !payloadOk a n then s.awMemFault k a
  else if q.recMax < q.recBytes + recordBytes n ∨ s.plan O.bnRecSize (k / 16) < recordBytes n then s.awRefused k
  else s.awRecord k a n tag

/-- EMIT (R233): each beat of 32 bytes from bench memory is one access. -/
def execEmit (p : Pos) (jp dl : Fin 8) (tag : BitVec 16) (waits : Nat) (s : State) : Result :=
  let c := s.core p
  let a := (c.j.get jp).toNat
  let n := (c.d.get dl).toNat
  let beats := (n + 31) / 32
  let cost := 2 + beats + s.surcharge p.bench.val waits (if awRegion a = 2 then List.replicate beats a else []) +
    max (c.stallA (2 ^ jp.val)) (c.stallD (2 ^ dl.val))
  s.awActs p (.emit p jp dl tag waits) cost {} (fun s => s.awEmit (posKey p) a n tag.toNat)

/-! ### SPILL (R207, R233) -/

/-- The effect of SPILL. -/
def State.awSpill (s : State) (k a off len : Nat) (back : Bool) : State :=
  let c := (s.aw k).core
  let n := 64 * len
  if len = 0 ∨ 1024 < len ∨ awRegion a ≠ 2 ∨ a % 64 ≠ 0 ∨ 2 ^ 20 < a + n ∨ s.plan O.bnSpillSize (k / 16) < 64 * off + n ∨
      srBit c.sr SR.spb then s.awMemFault k a
  else
    let s := { s with spills := s.spills ++ [({ pos := k, out := !back, bench := a - 0x80000, off := 64 * off, len := n } : Spill)] }
    s.setCore k { c with sr := srSet (srSet c.sr SR.spl false) SR.spb true }

/-- SPILL (R233). -/
def execSpill (p : Pos) (jp dOff dLen : Fin 8) (back : Bool) (s : State) : Result :=
  let c := s.core p
  let cost := 2 + max (c.stallA (2 ^ jp.val)) (c.stallD (2 ^ dOff.val ||| 2 ^ dLen.val))
  s.awActs p (.spill p jp dOff dLen back) cost {}
    (fun s => s.awSpill (posKey p) (c.j.get jp).toNat (c.d.get dOff).toNat (c.d.get dLen).toNat back)

end Sys2Proof.Machine
end

