-- ==== Sys2Proof/Machine/Dispatch.lean ====
section
/-! DEFINITION. The dispatch: one arm per row of the table of operations and events. -/

namespace Sys2Proof.Machine

/-- The effect of a command on everything but the queue. -/
def exec (i : Instr) (s : State) : Host.Outcome State Fault Refusal :=
  match i with
  | .objectWrite m index subindex value => Sys2Proof.Machine.execObjectWrite m index subindex value s
  | .bar0Write offset width value => Sys2Proof.Machine.execBar0Write offset width value s
  | .bar0MalformedAccess isWrite offset width value => Sys2Proof.Machine.execBar0MalformedAccess isWrite offset width value s
  | .mbxRead => Sys2Proof.Machine.execMbxRead s
  | .mbxWrite => Sys2Proof.Machine.execMbxWrite s
  | .mbxSegRead => Sys2Proof.Machine.execMbxSegRead s
  | .mbxSegWrite => Sys2Proof.Machine.execMbxSegWrite s
  | .mbxSegWriteLast => Sys2Proof.Machine.execMbxSegWriteLast s
  | .mbxAbortTransfer => Sys2Proof.Machine.execMbxAbortTransfer s
  | .mbxCommandComplete => Sys2Proof.Machine.execMbxCommandComplete s
  | .segTransferSilence m index subindex => Sys2Proof.Machine.execSegTransferSilence m index subindex s
  | .adpSessionOpen type q => Sys2Proof.Machine.execAdpSessionOpen type q s
  | .adpRead q => Sys2Proof.Machine.execAdpRead q s
  | .adpWrite q => Sys2Proof.Machine.execAdpWrite q s
  | .adpSegRead q => Sys2Proof.Machine.execAdpSegRead q s
  | .adpSegWrite q => Sys2Proof.Machine.execAdpSegWrite q s
  | .adpClaim q rivals => Sys2Proof.Machine.execAdpClaim q rivals s
  | .adpRenew q => Sys2Proof.Machine.execAdpRenew q s
  | .adpHandover q => Sys2Proof.Machine.execAdpHandover q s
  | .adpAccept q => Sys2Proof.Machine.execAdpAccept q s
  | .adpSubscribe q => Sys2Proof.Machine.execAdpSubscribe q s
  | .adpAbortTransfer q => Sys2Proof.Machine.execAdpAbortTransfer q s
  | .sessClose q => Sys2Proof.Machine.execSessClose q s
  | .adpIdleTimeout n => Sys2Proof.Machine.execAdpIdleTimeout n s
  | .adpKeyWrite m slot key => Sys2Proof.Machine.execAdpKeyWrite m slot key s
  | .canFrameReceived ident data rivals => Sys2Proof.Machine.execCanFrameReceived ident data rivals s
  | .pcieClaim priority rivals => Sys2Proof.Machine.execPcieClaim priority rivals s
  | .pcieRenew value => Sys2Proof.Machine.execPcieRenew value s
  | .pcieHandover successor => Sys2Proof.Machine.execPcieHandover successor s
  | .pcieAccept value => Sys2Proof.Machine.execPcieAccept value s
  | .leaseExpired => Sys2Proof.Machine.execLeaseExpired s
  | .handoverWindowExpired => Sys2Proof.Machine.execHandoverWindowExpired s
  | .pcieHostDisconnect => Sys2Proof.Machine.execPcieHostDisconnect s
  | .paramStoreSave m => Sys2Proof.Machine.execParamStoreSave m s
  | .paramStoreErase m => Sys2Proof.Machine.execParamStoreErase m s
  | .paramStoreDone verified => Sys2Proof.Machine.execParamStoreDone verified s
  | .planAdmit m => Sys2Proof.Machine.execPlanAdmit m s
  | .planCommit m => Sys2Proof.Machine.execPlanCommit m s
  | .planArm m => Sys2Proof.Machine.execPlanArm m s
  | .planDiscard m => Sys2Proof.Machine.execPlanDiscard m s
  | .planSafe m => Sys2Proof.Machine.execPlanSafe m s
  | .planDisarm m => Sys2Proof.Machine.execPlanDisarm m s
  | .admissionEnd => Sys2Proof.Machine.execAdmissionEnd s
  | .commitTick lost => Sys2Proof.Machine.execCommitTick lost s
  | .unitBoundaryApply u => Sys2Proof.Machine.execUnitBoundaryApply u s
  | .safePlanTick => Sys2Proof.Machine.execSafePlanTick s
  | .sampleBlock ch corrected => Sys2Proof.Machine.execSampleBlock ch corrected s
  | .sampleBusParityFail ch => Sys2Proof.Machine.execSampleBusParityFail ch s
  | .tagBusParityFail ch => Sys2Proof.Machine.execTagBusParityFail ch s
  | .calEvaluate ch => Sys2Proof.Machine.execCalEvaluate ch s
  | .calCmd m ch value => Sys2Proof.Machine.execCalCmd m ch value s
  | .calRotStart ch => Sys2Proof.Machine.execCalRotStart ch s
  | .calRunEnd ch meas => Sys2Proof.Machine.execCalRunEnd ch meas s
  | .calOverlapEnd ch rmsDiff rmsSignal => Sys2Proof.Machine.execCalOverlapEnd ch rmsDiff rmsSignal s
  | .scHardFailure ch sc => Sys2Proof.Machine.execScHardFailure ch sc s
  | .scForcedSwap ch => Sys2Proof.Machine.execScForcedSwap ch s
  | .syncCmd m value => Sys2Proof.Machine.execSyncCmd m value s
  | .ddcSyncFall => Sys2Proof.Machine.execDdcSyncFall s
  | .groupReset => Sys2Proof.Machine.execGroupReset s
  | .ncoFtwWrite m sl value => Sys2Proof.Machine.execNcoFtwWrite m sl value s
  | .ncoRetune sl => Sys2Proof.Machine.execNcoRetune sl s
  | .sliceGainWrite m sl fine value => Sys2Proof.Machine.execSliceGainWrite m sl fine value s
  | .sliceGainApply sl => Sys2Proof.Machine.execSliceGainApply sl s
  | .sliceFrame sl codes => Sys2Proof.Machine.execSliceFrame sl codes s
  | .firCoefLoad m sl image => Sys2Proof.Machine.execFirCoefLoad m sl image s
  | .spectrumRecord e src codes => Sys2Proof.Machine.execSpectrumRecord e src codes s
  | .laneCheckFail e lane => Sys2Proof.Machine.execLaneCheckFail e lane s
  | .laneSwap e => Sys2Proof.Machine.execLaneSwap e s
  | .windowTableLoad m e image => Sys2Proof.Machine.execWindowTableLoad m e image s
  | .tuEvent u o => Sys2Proof.Machine.execTuEvent u o s
  | .trginEdge pin level cycle => Sys2Proof.Machine.execTrginEdge pin level cycle s
  | .tuStretchExpire u => Sys2Proof.Machine.execTuStretchExpire u s
  | .aqHistoryFull c => Sys2Proof.Machine.execAqHistoryFull c s
  | .segmentEnd c samples => Sys2Proof.Machine.execSegmentEnd c samples s
  | .maskTableLoad m mask image => Sys2Proof.Machine.execMaskTableLoad m mask image s
  | .dnGroupWrite plane => Sys2Proof.Machine.execDnGroupWrite plane s
  | .dnDecayTick => Sys2Proof.Machine.execDnDecayTick s
  | .dnClearCmd m value => Sys2Proof.Machine.execDnClearCmd m value s
  | .dnClearApply => Sys2Proof.Machine.execDnClearApply s
  | .dnSnapCmd m value => Sys2Proof.Machine.execDnSnapCmd m value s
  | .dnSnapPeriodExpire => Sys2Proof.Machine.execDnSnapPeriodExpire s
  | .dnSnapTake => Sys2Proof.Machine.execDnSnapTake s
  | .dnSnapDone => Sys2Proof.Machine.execDnSnapDone s
  | .dnParityError plane row col hard => Sys2Proof.Machine.execDnParityError plane row col hard s
  | .dnBankCopyDone => Sys2Proof.Machine.execDnBankCopyDone s
  | .dnPaletteLoad m image => Sys2Proof.Machine.execDnPaletteLoad m image s
  | .sgLineWrite g => Sys2Proof.Machine.execSgLineWrite g s
  | .bnWindowRecord b w => Sys2Proof.Machine.execBnWindowRecord b w s
  | .awBudgetOverrun p => Sys2Proof.Machine.execAwBudgetOverrun p s
  | .awImageLoad m p image => Sys2Proof.Machine.execAwImageLoad m p image s
  | .awCoreFail b phys kind => Sys2Proof.Machine.execAwCoreFail b phys kind s
  | .awSpareLoaded p => Sys2Proof.Machine.execAwSpareLoaded p s
  | .benchMemDoubleError p addr double => Sys2Proof.Machine.execBenchMemDoubleError p addr double s
  | .spillComplete b pos => Sys2Proof.Machine.execSpillComplete b pos s
  | .nop p => Sys2Proof.Machine.execNop p s
  | .wait p => Sys2Proof.Machine.execWait p s
  | .br p cond target => Sys2Proof.Machine.execBr p cond target s
  | .call p target => Sys2Proof.Machine.execCall p target s
  | .ret p => Sys2Proof.Machine.execRet p s
  | .rep p level count last => Sys2Proof.Machine.execRep p level count last s
  | .evt p v => Sys2Proof.Machine.execEvt p v s
  | .setflag p line => Sys2Proof.Machine.execSetflag p line s
  | .clrflag p line => Sys2Proof.Machine.execClrflag p line s
  | .emit p jp dl tag waits => Sys2Proof.Machine.execEmit p jp dl tag waits s
  | .spill p jp dOff dLen back => Sys2Proof.Machine.execSpill p jp dOff dLen back s
  | .mov p rd rs => Sys2Proof.Machine.execMov p rd rs s
  | .movi p rd imm => Sys2Proof.Machine.execMovi p rd imm s
  | .ld p dd jp a waits => Sys2Proof.Machine.execLd p dd jp a waits s
  | .st p dd jp a waits => Sys2Proof.Machine.execSt p dd jp a waits s
  | .ldw p wn jp a waits => Sys2Proof.Machine.execLdw p wn jp a waits s
  | .stw p wn jp a sat waits => Sys2Proof.Machine.execStw p wn jp a sat waits s
  | .modj p jp a => Sys2Proof.Machine.execModj p jp a s
  | .ld2 p x y waits => Sys2Proof.Machine.execLd2 p x y waits s
  | .add p dd ds o => Sys2Proof.Machine.execAdd p dd ds o s
  | .adds p dd ds o => Sys2Proof.Machine.execAdds p dd ds o s
  | .sub p dd ds o => Sys2Proof.Machine.execSub p dd ds o s
  | .subs p dd ds o => Sys2Proof.Machine.execSubs p dd ds o s
  | .and p dd ds o => Sys2Proof.Machine.execAnd p dd ds o s
  | .or p dd ds o => Sys2Proof.Machine.execOr p dd ds o s
  | .xor p dd ds o => Sys2Proof.Machine.execXor p dd ds o s
  | .cmp p ds o => Sys2Proof.Machine.execCmp p ds o s
  | .min p dd ds o => Sys2Proof.Machine.execMin p dd ds o s
  | .max p dd ds o => Sys2Proof.Machine.execMax p dd ds o s
  | .abs p dd ds => Sys2Proof.Machine.execAbs p dd ds s
  | .neg p dd ds => Sys2Proof.Machine.execNeg p dd ds s
  | .shl p dd ds o => Sys2Proof.Machine.execShl p dd ds o s
  | .shr p dd ds o => Sys2Proof.Machine.execShr p dd ds o s
  | .sra p dd ds o => Sys2Proof.Machine.execSra p dd ds o s
  | .mul p wn dx dy mode => Sys2Proof.Machine.execMul p wn dx dy mode s
  | .mac p wn dx dy mode => Sys2Proof.Machine.execMac p wn dx dy mode s
  | .msu p wn dx dy mode => Sys2Proof.Machine.execMsu p wn dx dy mode s
  | .macx p wn dx dy mode subtract x y waits => Sys2Proof.Machine.execMacx p wn dx dy mode subtract x y waits s
  | .clrw p wn => Sys2Proof.Machine.execClrw p wn s
  | .rdw p dd wn part rnd sat => Sys2Proof.Machine.execRdw p dd wn part rnd sat s
  | .movdw p wn ds => Sys2Proof.Machine.execMovdw p wn ds s
  | .addw p wn => Sys2Proof.Machine.execAddw p wn s
  | .subw p wn => Sys2Proof.Machine.execSubw p wn s
  | .cmpw p => Sys2Proof.Machine.execCmpw p s
  | .ash p wn count => Sys2Proof.Machine.execAsh p wn count s
  | .negw p wn => Sys2Proof.Machine.execNegw p wn s
  | .absw p wn => Sys2Proof.Machine.execAbsw p wn s
  | .norm p dd wn => Sys2Proof.Machine.execNorm p dd wn s
  | .tinEdge ch tap up stop code => Sys2Proof.Machine.execTinEdge ch tap up stop code s
  | .ticDecisionWindow ch => Sys2Proof.Machine.execTicDecisionWindow ch s
  | .ticCalEvaluate ch => Sys2Proof.Machine.execTicCalEvaluate ch s
  | .ticCalCmd m ch value => Sys2Proof.Machine.execTicCalCmd m ch value s
  | .loupeRunEnd ch hits hard => Sys2Proof.Machine.execLoupeRunEnd ch hits hard s
  | .loupeStep ch => Sys2Proof.Machine.execLoupeStep ch s
  | .ipHardFailure ch ip held => Sys2Proof.Machine.execIpHardFailure ch ip held s
  | .msTimeGateBoundary sl => Sys2Proof.Machine.execMsTimeGateBoundary sl s
  | .msExtGateChange gate asserted cycle => Sys2Proof.Machine.execMsExtGateChange gate asserted cycle s
  | .msResult sl => Sys2Proof.Machine.execMsResult sl s
  | .msAdevReset m sl value => Sys2Proof.Machine.execMsAdevReset m sl value s
  | .xoCompUpdate temp => Sys2Proof.Machine.execXoCompUpdate temp s
  | .xoAgeRateWrite m value => Sys2Proof.Machine.execXoAgeRateWrite m value s
  | .pllcLockGate start phase delta refHz => Sys2Proof.Machine.execPllcLockGate start phase delta refHz s
  | .pllcRefLost cause average => Sys2Proof.Machine.execPllcRefLost cause average s
  | .pllcRefReturn refHz => Sys2Proof.Machine.execPllcRefReturn refHz s
  | .pllcQualified measured => Sys2Proof.Machine.execPllcQualified measured s
  | .ppsinEdge after phase => Sys2Proof.Machine.execPpsinEdge after phase s
  | .pllaLock => Sys2Proof.Machine.execPllaLock s
  | .pllaLolDetect => Sys2Proof.Machine.execPllaLolDetect s
  | .pllaLolClr m value => Sys2Proof.Machine.execPllaLolClr m value s
  | .pllaRelock m value => Sys2Proof.Machine.execPllaRelock m value s
  | .phaseStep m value => Sys2Proof.Machine.execPhaseStep m value s
  | .phaseStepApply => Sys2Proof.Machine.execPhaseStepApply s
  | .tcSet m value => Sys2Proof.Machine.execTcSet m value s
  | .tcStep m value => Sys2Proof.Machine.execTcStep m value s
  | .tcStepAccept m value => Sys2Proof.Machine.execTcStepAccept m value s
  | .tcStepApply => Sys2Proof.Machine.execTcStepApply s
  | .tcSlew m value => Sys2Proof.Machine.execTcSlew m value s
  | .tcSlewDone => Sys2Proof.Machine.execTcSlewDone s
  | .tcFreqAdjWrite m value => Sys2Proof.Machine.execTcFreqAdjWrite m value s
  | .ppsoutPulse => Sys2Proof.Machine.execPpsoutPulse s
  | .syncReceived p q after => Sys2Proof.Machine.execSyncReceived p q after s
  | .delayReqReceived p q after => Sys2Proof.Machine.execDelayReqReceived p q after s
  | .pdelayReqReceived p q after depart sfdOk => Sys2Proof.Machine.execPdelayReqReceived p q after depart sfdOk s
  | .pdelayRespReceived p q after => Sys2Proof.Machine.execPdelayRespReceived p q after s
  | .followUpReceived p q => Sys2Proof.Machine.execFollowUpReceived p q s
  | .delayRespReceived p q => Sys2Proof.Machine.execDelayRespReceived p q s
  | .pdelayRespFollowUpReceived p q => Sys2Proof.Machine.execPdelayRespFollowUpReceived p q s
  | .announceReceived p q => Sys2Proof.Machine.execAnnounceReceived p q s
  | .signalingReceived p => Sys2Proof.Machine.execSignalingReceived p s
  | .managementReceived p => Sys2Proof.Machine.execManagementReceived p s
  | .syncTx p depart sfdOk => Sys2Proof.Machine.execSyncTx p depart sfdOk s
  | .delayReqTx p depart sfdOk => Sys2Proof.Machine.execDelayReqTx p depart sfdOk s
  | .pdelayReqTx p depart sfdOk => Sys2Proof.Machine.execPdelayReqTx p depart sfdOk s
  | .announceTx p => Sys2Proof.Machine.execAnnounceTx p s
  | .announceReceiptTimeout p => Sys2Proof.Machine.execAnnounceReceiptTimeout p s
  | .followUpTimeout p => Sys2Proof.Machine.execFollowUpTimeout p s
  | .ptpTcForward p q ingress egress sfdOk => Sys2Proof.Machine.execPtpTcForward p q ingress egress sfdOk s
  | .servoHoldoverTimeout => Sys2Proof.Machine.execServoHoldoverTimeout s
  | .esmcTx p => Sys2Proof.Machine.execEsmcTx p s
  | .esmcReceived p ql => Sys2Proof.Machine.execEsmcReceived p ql s
  | .taValidSet m e => Sys2Proof.Machine.execTaValidSet m e s
  | .taValidClear m e => Sys2Proof.Machine.execTaValidClear m e s
  | .taPlanCommit lost => Sys2Proof.Machine.execTaPlanCommit lost s
  | .taPhaseStep e => Sys2Proof.Machine.execTaPhaseStep e s
  | .taDecimatorSync e => Sys2Proof.Machine.execTaDecimatorSync e s
  | .taCaptureStart e => Sys2Proof.Machine.execTaCaptureStart e s
  | .taArm e => Sys2Proof.Machine.execTaArm e s
  | .taDisarm e => Sys2Proof.Machine.execTaDisarm e s
  | .taTrigger e => Sys2Proof.Machine.execTaTrigger e s
  | .taPulse e => Sys2Proof.Machine.execTaPulse e s
  | .taNoiseToggle e => Sys2Proof.Machine.execTaNoiseToggle e s
  | .taDensitySnapshot e => Sys2Proof.Machine.execTaDensitySnapshot e s
  | .taLacingEpoch e => Sys2Proof.Machine.execTaLacingEpoch e s
  | .laceSCmd m value => Sys2Proof.Machine.execLaceSCmd m value s
  | .laceEpoch cycle => Sys2Proof.Machine.execLaceEpoch cycle s
  | .laceLaunch => Sys2Proof.Machine.execLaceLaunch s
  | .laceCandidate lines cycle => Sys2Proof.Machine.execLaceCandidate lines cycle s
  | .laceVetoDecision vetoed => Sys2Proof.Machine.execLaceVetoDecision vetoed s
  | .laceClkLost cause => Sys2Proof.Machine.execLaceClkLost cause s
  | .laceClkOk period => Sys2Proof.Machine.execLaceClkOk period s
  | .drCorrectedError ch pos => Sys2Proof.Machine.execDrCorrectedError ch pos s
  | .drUe port line => Sys2Proof.Machine.execDrUe port line s
  | .drCommandError line write => Sys2Proof.Machine.execDrCommandError line write s
  | .drPoisonRead port line => Sys2Proof.Machine.execDrPoisonRead port line s
  | .drPatrolScrub found => Sys2Proof.Machine.execDrPatrolScrub found s
  | .drMigStart => Sys2Proof.Machine.execDrMigStart s
  | .drMigDone => Sys2Proof.Machine.execDrMigDone s
  | .drMigAbort lost => Sys2Proof.Machine.execDrMigAbort lost s
  | .drRefresh ch => Sys2Proof.Machine.execDrRefresh ch s
  | .drRefreshWindow => Sys2Proof.Machine.execDrRefreshWindow s
  | .drRowActivate sub pos bank row => Sys2Proof.Machine.execDrRowActivate sub pos bank row s
  | .drHot ch temp => Sys2Proof.Machine.execDrHot ch temp s
  | .drPanicLong port => Sys2Proof.Machine.execDrPanicLong port s
  | .drTrainingDone found => Sys2Proof.Machine.execDrTrainingDone found s
  | .drZeroDone => Sys2Proof.Machine.execDrZeroDone s
  | .dmaStart m ch value => Sys2Proof.Machine.execDmaStart m ch value s
  | .dmaNudge m ch value => Sys2Proof.Machine.execDmaNudge m ch value s
  | .dmaStop m ch value => Sys2Proof.Machine.execDmaStop m ch value s
  | .dmaDescFetch ch bytes => Sys2Proof.Machine.execDmaDescFetch ch bytes s
  | .dmaDescEnd ch moved data => Sys2Proof.Machine.execDmaDescEnd ch moved data s
  | .dmaHostError ch data => Sys2Proof.Machine.execDmaHostError ch data s
  | .stRecordClose st => Sys2Proof.Machine.execStRecordClose st s
  | .stFlushTimeout st => Sys2Proof.Machine.execStFlushTimeout st s
  | .stVdifFrame st => Sys2Proof.Machine.execStVdifFrame st s
  | .stHostRpPoll st consumer => Sys2Proof.Machine.execStHostRpPoll st consumer s
  | .stUdpSend st => Sys2Proof.Machine.execStUdpSend st s
  | .nvEnumerate found => Sys2Proof.Machine.execNvEnumerate found s
  | .nvCmdComplete ctrl ok => Sys2Proof.Machine.execNvCmdComplete ctrl ok s
  | .nvCmdTimeout ctrl => Sys2Proof.Machine.execNvCmdTimeout ctrl s
  | .nvCatalogueWrite d => Sys2Proof.Machine.execNvCatalogueWrite d s
  | .nvTrimCmd m d value => Sys2Proof.Machine.execNvTrimCmd m d value s
  | .nvSmartPoll ctrl temp warn => Sys2Proof.Machine.execNvSmartPoll ctrl temp warn s
  | .pcieLink lanes speed => Sys2Proof.Machine.execPcieLink lanes speed s
  | .nvRootLink lanes speed => Sys2Proof.Machine.execNvRootLink lanes speed s
  | .ethLinkChange p link => Sys2Proof.Machine.execEthLinkChange p link s
  | .ethNeighbourRequest p kind target => Sys2Proof.Machine.execEthNeighbourRequest p kind target s
  | .canTimingWrite m object value => Sys2Proof.Machine.execCanTimingWrite m object value s
  | .canBusOffRecovery => Sys2Proof.Machine.execCanBusOffRecovery s
  | .dpHpdRise h edid => Sys2Proof.Machine.execDpHpdRise h edid s
  | .dpHpdFall h => Sys2Proof.Machine.execDpHpdFall h s
  | .dpLinkTrained h ok => Sys2Proof.Machine.execDpLinkTrained h ok s
  | .dpTrainRetry h => Sys2Proof.Machine.execDpTrainRetry h s
  | .dpCommit m h value => Sys2Proof.Machine.execDpCommit m h value s
  | .dpClasp h => Sys2Proof.Machine.execDpClasp h s
  | .dpFlip h => Sys2Proof.Machine.execDpFlip h s
  | .dpHallmark h errors => Sys2Proof.Machine.execDpHallmark h errors s
  | .gtDue t => Sys2Proof.Machine.execGtDue t s
  | .hkSlotDelayExpire n => Sys2Proof.Machine.execHkSlotDelayExpire n s
  | .hkConversion code => Sys2Proof.Machine.execHkConversion code s
  | .hkStewardConvert codes => Sys2Proof.Machine.execHkStewardConvert codes s
  | .hkSnapshot m => Sys2Proof.Machine.execHkSnapshot m s
  | .hkSnapshotClear m => Sys2Proof.Machine.execHkSnapshotClear m s
  | .hkCalZero m input => Sys2Proof.Machine.execHkCalZero m input s
  | .hkCalFullScale m input => Sys2Proof.Machine.execHkCalFullScale m input s
  | .hkCalApply m input => Sys2Proof.Machine.execHkCalApply m input s
  | .hkCalDone codes => Sys2Proof.Machine.execHkCalDone codes s
  | .hkThresholdTrim codes => Sys2Proof.Machine.execHkThresholdTrim codes s
  | .wmChange mon asserted => Sys2Proof.Machine.execWmChange mon asserted s
  | .pgFire m g value => Sys2Proof.Machine.execPgFire m g value s
  | .pgPulseEdge g => Sys2Proof.Machine.execPgPulseEdge g s
  | .pgPpsEdge g => Sys2Proof.Machine.execPgPpsEdge g s
  | .pgTripClr m g value => Sys2Proof.Machine.execPgTripClr m g value s
  | .pgTripRelease g => Sys2Proof.Machine.execPgTripRelease g s
  | .eventRaise => Sys2Proof.Machine.execEventRaise s
  | .evModExpire v => Sys2Proof.Machine.execEvModExpire v s
  | .evAdpModExpire n => Sys2Proof.Machine.execEvAdpModExpire n s
  | .msixUnmask v => Sys2Proof.Machine.execMsixUnmask v s
  | .evClear m word value => Sys2Proof.Machine.execEvClear m word value s
  | .evRingConfigWrite m size value => Sys2Proof.Machine.execEvRingConfigWrite m size value s
  | .faultRailChange changes => Sys2Proof.Machine.execFaultRailChange changes s
  | .faultMaskedDrop src => Sys2Proof.Machine.execFaultMaskedDrop src s
  | .stewardWatchdog => Sys2Proof.Machine.execStewardWatchdog s
  | .frTimerExpire => Sys2Proof.Machine.execFrTimerExpire s
  | .frAck m value => Sys2Proof.Machine.execFrAck m value s
  | .frRelease m value => Sys2Proof.Machine.execFrRelease m value s
  | .pwrFloorChange => Sys2Proof.Machine.execPwrFloorChange s
  | .pwrDwellExpire => Sys2Proof.Machine.execPwrDwellExpire s
  | .pwrWake link => Sys2Proof.Machine.execPwrWake link s
  | .pwrTransitionDone => Sys2Proof.Machine.execPwrTransitionDone s
  | .pwrLtolWrite m c value => Sys2Proof.Machine.execPwrLtolWrite m c value s
  | .powerCapWrite m value => Sys2Proof.Machine.execPowerCapWrite m value s
  | .pwrDomainOn m dom => Sys2Proof.Machine.execPwrDomainOn m dom s
  | .pwrDomainOff m dom => Sys2Proof.Machine.execPwrDomainOff m dom s
  | .quiesceDone dom => Sys2Proof.Machine.execQuiesceDone dom s
  | .quiesceTimeout dom => Sys2Proof.Machine.execQuiesceTimeout dom s
  | .gatedDomainAccess dom => Sys2Proof.Machine.execGatedDomainAccess dom s
  | .xcWakeRequest dom => Sys2Proof.Machine.execXcWakeRequest dom s
  | .pcieLinkL23 enter => Sys2Proof.Machine.execPcieLinkL23 enter s
  | .fitCmd m value => Sys2Proof.Machine.execFitCmd m value s
  | .fitAbandon m => Sys2Proof.Machine.execFitAbandon m s
  | .fitEnd r => Sys2Proof.Machine.execFitEnd r s
  | .ledgerHours => Sys2Proof.Machine.execLedgerHours s
  | .ledgerRecordWrite verified => Sys2Proof.Machine.execLedgerRecordWrite verified s
  | .ledgerCompact => Sys2Proof.Machine.execLedgerCompact s
  | .calStoreCmd m value => Sys2Proof.Machine.execCalStoreCmd m value s
  | .calStoreStaleWrite => Sys2Proof.Machine.execCalStoreStaleWrite s
  | .storeWriteDone store verified => Sys2Proof.Machine.execStoreWriteDone store verified s
  | .porstAssert => Sys2Proof.Machine.execPorstAssert s
  | .porstRelease bootSel => Sys2Proof.Machine.execPorstRelease bootSel s
  | .bootVerifyDone ok => Sys2Proof.Machine.execBootVerifyDone ok s
  | .dictionaryReady => Sys2Proof.Machine.execDictionaryReady s
  | .startupPlanCommit => Sys2Proof.Machine.execStartupPlanCommit s
  | .startupCalibrationDone convs hits links => Sys2Proof.Machine.execStartupCalibrationDone convs hits links s
  | .devReady => Sys2Proof.Machine.execDevReady s
  | .fwImageWrite m slotB image signed readBack => Sys2Proof.Machine.execFwImageWrite m slotB image signed readBack s
  | .recoveryCmd m value aperture => Sys2Proof.Machine.execRecoveryCmd m value aperture s
  | .resetCmd m value => Sys2Proof.Machine.execResetCmd m value s
  | .perstAssert => Sys2Proof.Machine.execPerstAssert s
  | .perstRelease => Sys2Proof.Machine.execPerstRelease s
  | .pcieHostConnect => Sys2Proof.Machine.execPcieHostConnect s
  | .adpUnknownType type q => Sys2Proof.Machine.execAdpUnknownType type q s
  | .canBusOff => Sys2Proof.Machine.execCanBusOff s
  | .dqsOscillatorTrack => Sys2Proof.Machine.execDqsOscillatorTrack s
  | .drTempReport ch pos temp => Sys2Proof.Machine.execDrTempReport ch pos temp s

end Sys2Proof.Machine
end

