-- ==== Sys2Proof/Machine/Step.lean ====
section
/-! DEFINITION. One step of the block: the command at the front of the queue takes effect; with no command waiting the
block runs to the next tick of fT, where queues of tags drain, domains on for an access go off again and timeouts of the election
fall due (log entries 1, 102, 137 and 151). -/

namespace Sys2Proof.Machine

/-- The state with the waiting commands replaced. -/
def State.withQueue (s : State) (q : List Instr) : State := { s with pending := q }

/-- One step. -/
def step (s : State) : Host.Outcome State Fault Refusal :=
  match s.pending with
  | c :: rest => exec c (s.withQueue rest)
  | [] => .next (tick s).chansTick.visitsEnd.timeouts

/-- The command that a table word spells put at the front of the queue; no row gives bits, so the state itself. -/
def State.withFetchWord (s : State) (nbits w : Nat) : State :=
  match decodeTableWord nbits w with
  | some c => s.withQueue (c :: s.pending)
  | none => s

end Sys2Proof.Machine
end

