-- ==== Sys2Proof/Safety.lean ====
section
/-! DEFINITION. The terms in which statements speak: which commands are the owner's to give, what a command tells the event
unit, what it leaves alone, and the invariant that every step keeps. -/

namespace Sys2Proof.Machine

/-- A raise reaching the queue of waiting raises: merged into one of its source that came within the span, or placed (R425). -/
def pushRaise (span now event data : Nat) (l : List Raise) : List Raise :=
  match mergeRaise span now event data l with
  | some l' => l'
  | none => insRaise ⟨now, event, data, 0⟩ l

/-- The queue of raises after events, each with its data, were raised one after another by a machine: they merge within two of its
fP cycles of elapsed time. -/
def told (s : State) (l : List Raise) (evs : List (Nat × Nat)) : List Raise :=
  evs.foldl (fun l e => pushRaise (2 * s.cycleP) s.up e.1 e.2 l) l

/-- Two stores of objects agree but for the keys named. -/
def Agree (a b : Store) (keys : List Nat) : Prop := ∀ k d, k ∉ keys → Map.get a d k = Map.get b d k

/-- The key of `EV_MERGED`, which a merged raise counts in. -/
def mergedKey : Nat := O.evMerged.key 0 0

/-- What a command did to the rest of the machine: it raised these events and no other, wrote no object but those of `keys`
(and `EV_MERGED`, where it raised an event), no hidden scalar but those of `hids`, and nothing else: every memory, every unit
and the queue are as before. -/
def Effect (s t : State) (evs : List (Nat × Nat)) (keys hids : List Nat) : Prop :=
  t = { s with regs := t.regs, hid := t.hid, raises := t.raises } ∧
  t.raises = told s s.raises evs ∧
  Agree t.regs s.regs (if evs = [] then keys else mergedKey :: keys) ∧
  Agree t.hid s.hid hids

/-- The key of a hidden scalar. -/
def hkey (n : Nat) (i : Nat := 0) : Nat := n * 2 ^ 20 + i

/-- The dictionary serves this master, and it is the owner (R31, R508). -/
abbrev Owner (s : State) (m : Master) : Prop := s.dictReady = true ∧ s.connected m = true ∧ s.owns m = true

/-- The dictionary serves this master (Table 2.8, R485). -/
abbrev Served (s : State) (m : Master) : Prop := s.dictReady = true ∧ s.connected m = true

/-- What leaves the device when a request that stands alone succeeds: nothing to the host, a completion to any other master. -/
def replied (s : State) (m : Master) : List Out :=
  match m with
  | .host => s.out
  | _ => .answer m.id 0 :: s.out

/-- An ADP request of session `n` is taken: its port serves ADP, the session is open, key, tag and sequence pass, and its
length is its type's (R45 to R49). -/
abbrev Accepts (s : State) (n type : Nat) (q : AdpMsg) : Prop :=
  s.portServes q.port.val = true ∧ q.version = 1 ∧ q.session.toNat = n ∧ portSession q.port.val n = true ∧
  (s.session n).isOpen = true ∧ q.keyId.toNat = (s.session n).key ∧ s.tagOk type q (s.session n).nonce = true ∧
  (s.session n).rxSeq < q.seq.toNat ∧ q.payloadLen.toNat = q.payload.length ∧ q.payload.length ≤ 1400 ∧
  adpLength type q.payload = true

/-- The reply in a session, with the session's next sequence number (R46 to R48). -/
def sessionReply (s : State) (n type : Nat) (q : AdpMsg) (payload : List Byte) : List Byte :=
  s.adpMsg type 0x8000 n (s.session n).key (s.session n).nonce (((s.session n).txSeq + 1) % 2 ^ 32) q.txn.toNat payload

/-- The session after a request was answered. -/
def answeredSession (s : State) (n : Nat) (q : AdpMsg) (msg : List Byte) : Session :=
  { s.session n with rxSeq := q.seq.toNat, txSeq := ((s.session n).txSeq + 1) % 2 ^ 32, reply := msg }

/-- No stream takes the items of a source (R366). -/
def State.streamsFree (s : State) (kind src : Nat) : Bool := (List.range 32).all (fun n => !s.takesFrom n kind src)

/-- No unit of a range is in a state other than 0. -/
def State.idleAll (s : State) (r : Row) (n : Nat) : Bool := (List.range n).all (fun i => s.reg r i == 0)

/-- What a command that comes next brings about, where it answers a next state: for effects that a command calls for and a later
one of the table carries out (a mailbox command and its completion, a request and its tick). -/
def State.thenDoes {α : Type} (t : State) (i : Instr) (f : State → α) : Option α :=
  match exec i t with
  | .next u => some (f u)
  | _ => none

/-! ### Awl instructions -/

/-- The registers of a core that a program sees: all but the memory of Table 10.8's stalls. -/
def Core.regs (c : Core) : Core := { c with hazA1 := 0, hazA2 := 0, hazD1 := 0, hazD2 := 0, hazW1 := 0 }

/-- SR `b` holds the named bits as given, and every other bit as `a` held it. -/
abbrev SrSets (a b : BitVec 16) (l : List (Nat × Bool)) : Prop :=
  (List.range 16).all (fun i => b.getLsbD i == (l.lookup i).getD (a.getLsbD i)) = true

/-- The core of a position runs a frame, is at the instruction, and its cycles fit the budget (R234). -/
abbrev AtInstr (s : State) (p : Pos) (i : Instr) (cost : Nat) : Prop :=
  s.awReady p i = true ∧ (s.aw (posKey p)).cycles + cost ≤ (s.aw (posKey p)).budget

/-- The instruction retired with the cost given and left the registers `c` with a new SR: no other position and nothing else
changed, nor anything of the position but its cycles. -/
def Retires (s t : State) (p : Pos) (cost : Nat) (c : Core) : Prop :=
  t = { s with positions := t.positions } ∧ (∀ k, k ≠ posKey p → t.aw k = s.aw k) ∧
  t.aw (posKey p) = { s.aw (posKey p) with cycles := (s.aw (posKey p)).cycles + cost, core := t.core p } ∧
  (t.core p).regs = { c.regs with sr := (t.core p).sr }

/-- The instruction retired likewise and stored `n` bytes at core address `a`: no other byte of the core's addresses, and no
byte of another bench, changed (R196, R223). -/
def Stores (s t : State) (p : Pos) (cost a n : Nat) (v : List Byte) (c : Core) : Prop :=
  t = { s with positions := t.positions, bench := t.bench } ∧ (∀ k, k ≠ posKey p → t.aw k = s.aw k) ∧
  t.aw (posKey p) = { s.aw (posKey p) with cycles := (s.aw (posKey p)).cycles + cost, core := t.core p,
                                           x := (t.aw (posKey p)).x, y := (t.aw (posKey p)).y } ∧
  (t.core p).regs = { c.regs with sr := (t.core p).sr } ∧
  (∀ b, b < a ∨ a + n ≤ b → b < 2 ^ 20 → t.awByte (posKey p) b = s.awByte (posKey p) b) ∧
  (0x80 ≤ a → t.awBytes (posKey p) a n = v) ∧
  (∀ j, j / 2 ^ 20 ≠ p.bench.val → Map.get t.bench 0 j = Map.get s.bench 0 j)

/-- A core after one load of format X from the memory of its position (R219, R223). -/
def xLoaded (s : State) (p : Pos) (x : XLoad) (u : Fin 8) (lo hi : Fin 4) (c : Core) : Core :=
  if x.skip then c
  else
    let a := (c.j.get u).toNat - (c.j.get u).toNat % 2
    { c with d := c.d.set x.dst (BitVec.ofNat 16 (ofLe (s.awBytes (posKey p) a 2))), j := c.j.set u (c.stepJ u (c.xmod x.md lo hi)) }

/-- The invariant: the DRAM contents are in canonical form. -/
abbrev Inv (s : State) : Prop := Memory.wf s.mem = true

end Sys2Proof.Machine
end

