-- ==== Sys2Proof/WellFormed.lean ====
section
/-! DEFINITION. Which commands are well formed: operands that stand for values of a stated width lie in it, and lists have the
length that their rule gives. A command that is not well formed is no occurrence that the spec describes. -/

namespace Sys2Proof

/-- An index and a subindex (R30). -/
def wfObject (index subindex : Nat) : Bool := decide (index < 2 ^ 16) && decide (subindex < 256)

/-- A value written to a scalar or T96 object: 12 bytes hold the widest (Table 2.2). -/
def wfValue (v : Nat) : Bool := decide (v < 2 ^ 96)

/-- A DOMAIN image (Table 2.2). -/
def wfImage (b : List Byte) : Bool := decide (0 < b.length) && decide (b.length < 2 ^ 32)

/-- A BAR0 access of a permitted form: 1, 2, 4 or 8 bytes, naturally aligned, in the BAR (R39, R40). -/
def wfBar0 (offset width : Nat) : Bool :=
  [1, 2, 4, 8].contains width && offset % width == 0 && decide (offset < 2 ^ 27)

/-- An ADP message: the tag has 32 bytes, and a datagram holds the payload (R45). -/
def wfAdp (q : AdpMsg) : Bool := q.tag.length == 32 && decide (q.payload.length < 2 ^ 16)

/-- Rival claims: each of a master with a priority of one byte (Table 2.6). -/
def wfRivals (r : List (Master × Nat)) : Bool := r.all (fun x => decide (x.2 < 256))

/-- A TYPE that a master may send (Table 2.6). -/
def wfKnownType (type : Byte) : Bool := [1, 2, 3, 4, 5, 6, 7, 8, 9, 11].contains type.toNat

/-- The CODE of an ABORT is SESS_CLOSE (Table 2.7). -/
def wfCloses (q : AdpMsg) : Bool := ofBe (q.payload.take 4) == 0x00050004

/-- Data lengths of a CAN FD frame (R54). -/
def wfFdLength (n : Nat) : Bool := decide (n ≤ 8) || [12, 16, 20, 24, 32, 48, 64].contains n

/-- A signed value of a width. -/
def wfInt (w : Nat) (x : Int) : Bool := decide (-(2 ^ (w - 1)) ≤ x ∧ x < 2 ^ (w - 1))

/-- Samples of 16 bits. -/
def wfSamples (l : List Int) : Bool := l.all (wfInt 16)

/-- Codes of a full-rate input: 12 bits. -/
def wfCodes (l : List Int) : Bool := l.all (wfInt 12)

/-- Complex samples of a width. -/
def wfComplex (w : Nat) (l : List (Int × Int)) : Bool := l.all (fun p => wfInt w p.1 && wfInt w p.2)

/-- A count of 2^-16 ns below one tick of fT's second. -/
def wfTicks (n : Nat) : Bool := decide (n < 2 ^ 64)

/-- A PTP message: its time is a T96 pattern, its correction a 64-bit field (R310). -/
def wfPtp (q : PtpMsg) : Bool := decide (q.time < 2 ^ 96) && wfInt 64 q.correction

/-- A trigger observation: its time is a T96 pattern. -/
def wfObs (o : TrigObs) : Bool := decide (o.index < 2 ^ 64)

/-- A DRAM line number (R339). -/
def wfLine (n : Nat) : Bool := decide (n < 2 ^ 58)

/-- A register code of MOV and MOVI (Table 10.4). -/
def wfCode (c : Fin 64) : Bool := decide (c.val < 0x2E)

/-- Bits of the register that a code names (Table 10.4). -/
def regWidth (c : Nat) : Nat :=
  if c < 0x08 then 16 else if c < 0x24 then 20 else if c = 0x2A ∨ c = 0x2D then 8 else if c < 0x2E then 16 else 0

/-- A shift count: an immediate is at most 16 (R225). -/
def wfShift (o : Op2) : Bool := match o with | .imm v => decide (v.toNat ≤ 16) | .reg _ => true

/-- A load of format X: the fields of a suppressed load are 0 (R219). -/
def wfXLoad (x : XLoad) : Bool := !x.skip || (x.dst == 0 && x.unit == 0 && x.md == 0)

/-- Two loads of format X: two that both load have two destinations (R221). -/
def wfPair (x y : XLoad) : Bool := wfXLoad x && wfXLoad y && (x.skip || y.skip || x.dst != y.dst)

/-- An addressing mode that MODJ may use (Table 10.6). -/
def wfModify (a : AMode) : Bool := match a with | .postInc _ => true | .postMod _ => true | _ => false

/-- What a fitting found: hit counts fit 32 bits. -/
def wfFit (r : FitResult) : Bool := match r with | .loupe h _ => h.all (fun n => decide (n < 2 ^ 32)) | _ => true

/-- Whether a command is well formed. -/
def Instr.wf (i : Instr) : Bool :=
  match i with
  | .objectWrite _ index subindex value => wfObject index subindex && decide (value.length < 2 ^ 32)
  | .bar0Write offset width value => wfBar0 offset width && decide (value < 2 ^ (8 * width))
  | .bar0MalformedAccess isWrite offset width value =>
    !(isWrite && wfBar0 offset width && decide (value < 2 ^ (8 * width))) && decide (offset < 2 ^ 27)
  | .mbxRead => true
  | .mbxWrite => true
  | .mbxSegRead => true
  | .mbxSegWrite => true
  | .mbxSegWriteLast => true
  | .mbxAbortTransfer => true
  | .mbxCommandComplete => true
  | .segTransferSilence _ index subindex => wfObject index subindex
  | .adpSessionOpen _ q => wfAdp q && q.session == 0xFF
  | .adpRead q => wfAdp q
  | .adpWrite q => wfAdp q
  | .adpSegRead q => wfAdp q
  | .adpSegWrite q => wfAdp q
  | .adpClaim q rivals => wfAdp q && wfRivals rivals
  | .adpRenew q => wfAdp q
  | .adpHandover q => wfAdp q
  | .adpAccept q => wfAdp q
  | .adpSubscribe q => wfAdp q
  | .adpAbortTransfer q => wfAdp q && !wfCloses q
  | .sessClose q => wfAdp q && wfCloses q
  | .adpIdleTimeout _ => true
  | .adpKeyWrite _ _ key => wfImage key
  | .canFrameReceived _ data rivals => wfFdLength data.length && wfRivals rivals
  | .pcieClaim priority rivals => wfValue priority && wfRivals rivals
  | .pcieRenew value => wfValue value
  | .pcieHandover successor => wfValue successor
  | .pcieAccept value => wfValue value
  | .leaseExpired => true
  | .handoverWindowExpired => true
  | .pcieHostDisconnect => true
  | .paramStoreSave _ => true
  | .paramStoreErase _ => true
  | .paramStoreDone _ => true
  | .planAdmit _ => true
  | .planCommit _ => true
  | .planArm _ => true
  | .planDiscard _ => true
  | .planSafe _ => true
  | .planDisarm _ => true
  | .admissionEnd => true
  | .commitTick _ => true
  | .unitBoundaryApply _ => true
  | .safePlanTick => true
  | .sampleBlock _ corrected => wfSamples corrected
  | .sampleBusParityFail _ => true
  | .tagBusParityFail _ => true
  | .calEvaluate _ => true
  | .calCmd _ _ value => wfValue value
  | .calRotStart _ => true
  | .calRunEnd _ _ => true
  | .calOverlapEnd _ rmsDiff rmsSignal => decide (rmsDiff < 2 ^ 64) && decide (rmsSignal < 2 ^ 64)
  | .scHardFailure _ _ => true
  | .scForcedSwap _ => true
  | .syncCmd _ value => wfValue value
  | .ddcSyncFall => true
  | .groupReset => true
  | .ncoFtwWrite _ _ value => wfValue value
  | .ncoRetune _ => true
  | .sliceGainWrite _ _ _ value => wfValue value
  | .sliceGainApply _ => true
  | .sliceFrame _ codes => wfCodes codes
  | .firCoefLoad _ _ image => wfImage image
  | .spectrumRecord _ _ codes => wfCodes codes
  | .laneCheckFail _ _ => true
  | .laneSwap _ => true
  | .windowTableLoad _ _ image => wfImage image
  | .tuEvent _ o => wfObs o
  | .trginEdge _ _ _ => true
  | .tuStretchExpire _ => true
  | .aqHistoryFull _ => true
  | .segmentEnd _ samples => wfComplex 32 samples
  | .maskTableLoad _ _ image => wfImage image
  | .dnGroupWrite _ => true
  | .dnDecayTick => true
  | .dnClearCmd _ value => wfValue value
  | .dnClearApply => true
  | .dnSnapCmd _ value => wfValue value
  | .dnSnapPeriodExpire => true
  | .dnSnapTake => true
  | .dnSnapDone => true
  | .dnParityError _ _ _ _ => true
  | .dnBankCopyDone => true
  | .dnPaletteLoad _ image => wfImage image
  | .sgLineWrite _ => true
  | .bnWindowRecord _ _ => true
  | .awBudgetOverrun _ => true
  | .awImageLoad _ _ image => wfImage image
  | .awCoreFail _ _ _ => true
  | .awSpareLoaded _ => true
  | .benchMemDoubleError _ _ _ => true
  | .spillComplete _ _ => true
  | .nop _ => true
  | .wait _ => true
  | .br _ _ _ => true
  | .call _ _ => true
  | .ret _ => true
  | .rep _ _ _ _ => true
  | .evt _ _ => true
  | .setflag _ _ => true
  | .clrflag _ _ => true
  | .emit _ _ _ _ waits => decide (waits < 2 ^ 16)
  | .spill _ _ _ _ _ => true
  | .mov _ rd rs => wfCode rd && wfCode rs
  | .movi _ rd imm => wfCode rd && decide (imm.toNat < 2 ^ regWidth rd.val)
  | .ld _ _ _ _ waits => decide (waits < 2 ^ 16)
  | .st _ _ _ _ waits => decide (waits < 2 ^ 16)
  | .ldw _ _ _ _ waits => decide (waits < 2 ^ 16)
  | .stw _ _ _ _ _ waits => decide (waits < 2 ^ 16)
  | .modj _ _ a => wfModify a
  | .ld2 _ x y waits => wfPair x y && decide (waits < 2 ^ 16)
  | .add _ _ _ _ => true
  | .adds _ _ _ _ => true
  | .sub _ _ _ _ => true
  | .subs _ _ _ _ => true
  | .and _ _ _ _ => true
  | .or _ _ _ _ => true
  | .xor _ _ _ _ => true
  | .cmp _ _ _ => true
  | .min _ _ _ _ => true
  | .max _ _ _ _ => true
  | .abs _ _ _ => true
  | .neg _ _ _ => true
  | .shl _ _ _ o => wfShift o
  | .shr _ _ _ o => wfShift o
  | .sra _ _ _ o => wfShift o
  | .mul _ _ _ _ _ => true
  | .mac _ _ _ _ _ => true
  | .msu _ _ _ _ _ => true
  | .macx _ _ _ _ _ _ x y waits => wfPair x y && decide (waits < 2 ^ 16)
  | .clrw _ _ => true
  | .rdw _ _ _ part rnd sat => part == 1 || (!rnd && !sat)
  | .movdw _ _ _ => true
  | .addw _ _ => true
  | .subw _ _ => true
  | .cmpw _ => true
  | .ash _ _ _ => true
  | .negw _ _ => true
  | .absw _ _ => true
  | .norm _ _ _ => true
  | .tinEdge _ _ _ _ _ => true
  | .ticDecisionWindow _ => true
  | .ticCalEvaluate _ => true
  | .ticCalCmd _ _ value => wfValue value
  | .loupeRunEnd _ hits _ => hits.all (fun n => decide (n < 2 ^ 32))
  | .loupeStep _ => true
  | .ipHardFailure _ _ _ => true
  | .msTimeGateBoundary _ => true
  | .msExtGateChange _ _ _ => true
  | .msResult _ => true
  | .msAdevReset _ _ value => wfValue value
  | .xoCompUpdate _ => true
  | .xoAgeRateWrite _ value => wfValue value
  | .pllcLockGate start phase delta _ => wfInt 64 start && wfInt 64 phase && wfInt 64 delta
  | .pllcRefLost _ _ => true
  | .pllcRefReturn _ => true
  | .pllcQualified measured => wfInt 64 measured
  | .ppsinEdge after phase => wfTicks after && wfInt 64 phase
  | .pllaLock => true
  | .pllaLolDetect => true
  | .pllaLolClr _ value => wfValue value
  | .pllaRelock _ value => wfValue value
  | .phaseStep _ value => wfValue value
  | .phaseStepApply => true
  | .tcSet _ value => wfValue value
  | .tcStep _ value => wfValue value
  | .tcStepAccept _ value => wfValue value
  | .tcStepApply => true
  | .tcSlew _ value => wfValue value
  | .tcSlewDone => true
  | .tcFreqAdjWrite _ value => wfValue value
  | .ppsoutPulse => true
  | .syncReceived _ q after => wfPtp q && wfTicks after
  | .delayReqReceived _ q after => wfPtp q && wfTicks after
  | .pdelayReqReceived _ q after depart _ => wfPtp q && wfTicks after && wfTicks depart
  | .pdelayRespReceived _ q after => wfPtp q && wfTicks after
  | .followUpReceived _ q => wfPtp q
  | .delayRespReceived _ q => wfPtp q
  | .pdelayRespFollowUpReceived _ q => wfPtp q
  | .announceReceived _ q => wfPtp q
  | .signalingReceived _ => true
  | .managementReceived _ => true
  | .syncTx _ depart _ => wfTicks depart
  | .delayReqTx _ depart _ => wfTicks depart
  | .pdelayReqTx _ depart _ => wfTicks depart
  | .announceTx _ => true
  | .announceReceiptTimeout _ => true
  | .followUpTimeout _ => true
  | .ptpTcForward _ q ingress egress _ => wfPtp q && wfTicks ingress && wfTicks egress
  | .servoHoldoverTimeout => true
  | .esmcTx _ => true
  | .esmcReceived _ _ => true
  | .taValidSet _ _ => true
  | .taValidClear _ _ => true
  | .taPlanCommit _ => true
  | .taPhaseStep _ => true
  | .taDecimatorSync _ => true
  | .taCaptureStart _ => true
  | .taArm _ => true
  | .taDisarm _ => true
  | .taTrigger _ => true
  | .taPulse _ => true
  | .taNoiseToggle _ => true
  | .taDensitySnapshot _ => true
  | .taLacingEpoch _ => true
  | .laceSCmd _ value => wfValue value
  | .laceEpoch _ => true
  | .laceLaunch => true
  | .laceCandidate _ _ => true
  | .laceVetoDecision _ => true
  | .laceClkLost _ => true
  | .laceClkOk _ => true
  | .drCorrectedError _ _ => true
  | .drUe _ line => wfLine line
  | .drCommandError line _ => wfLine line
  | .drPoisonRead _ line => wfLine line
  | .drPatrolScrub found => decide (found.length < 2 ^ 32)
  | .drMigStart => true
  | .drMigDone => true
  | .drMigAbort lost => lost.all wfLine
  | .drRefresh _ => true
  | .drRefreshWindow => true
  | .drRowActivate _ _ _ row => decide (row < 2 ^ 20)
  | .drHot _ _ => true
  | .drPanicLong _ => true
  | .drTrainingDone found => found.length == 12
  | .drZeroDone => true
  | .dmaStart _ _ value => wfValue value
  | .dmaNudge _ _ value => wfValue value
  | .dmaStop _ _ value => wfValue value
  | .dmaDescFetch _ bytes => bytes.length == 32
  | .dmaDescEnd _ moved data => decide (moved < 2 ^ 32) && decide (data.length < 2 ^ 32)
  | .dmaHostError _ data => decide (data.length < 2 ^ 32)
  | .stRecordClose _ => true
  | .stFlushTimeout _ => true
  | .stVdifFrame _ => true
  | .stHostRpPoll _ consumer => decide (consumer < 2 ^ 64)
  | .stUdpSend _ => true
  | .nvEnumerate found => decide (found.length ≤ 8)
  | .nvCmdComplete _ _ => true
  | .nvCmdTimeout _ => true
  | .nvCatalogueWrite _ => true
  | .nvTrimCmd _ _ value => wfValue value
  | .nvSmartPoll _ _ _ => true
  | .pcieLink _ _ => true
  | .nvRootLink _ _ => true
  | .ethLinkChange _ _ => true
  | .ethNeighbourRequest _ _ target => decide (target < 2 ^ 128)
  | .canTimingWrite _ _ value => wfValue value
  | .canBusOffRecovery => true
  | .dpHpdRise _ edid => edid.length % 128 == 0
  | .dpHpdFall _ => true
  | .dpLinkTrained _ _ => true
  | .dpTrainRetry _ => true
  | .dpCommit _ _ value => wfValue value
  | .dpClasp _ => true
  | .dpFlip _ => true
  | .dpHallmark _ errors => errors.all (fun e => decide (e.1 < 2 ^ 32))
  | .gtDue _ => true
  | .hkSlotDelayExpire _ => true
  | .hkConversion _ => true
  | .hkStewardConvert codes => codes.length == 15
  | .hkSnapshot _ => true
  | .hkSnapshotClear _ => true
  | .hkCalZero _ _ => true
  | .hkCalFullScale _ _ => true
  | .hkCalApply _ _ => true
  | .hkCalDone codes => codes.length == 4096
  | .hkThresholdTrim codes => decide (codes.length ≤ 20)
  | .wmChange _ _ => true
  | .pgFire _ _ value => wfValue value
  | .pgPulseEdge _ => true
  | .pgPpsEdge _ => true
  | .pgTripClr _ _ value => wfValue value
  | .pgTripRelease _ => true
  | .eventRaise => true
  | .evModExpire _ => true
  | .evAdpModExpire _ => true
  | .msixUnmask _ => true
  | .evClear _ _ value => wfValue value
  | .evRingConfigWrite _ _ value => wfValue value
  | .faultRailChange changes => changes.all (fun c => (changes.filter (fun d => d.src == c.src)).length == 1)
  | .faultMaskedDrop _ => true
  | .stewardWatchdog => true
  | .frTimerExpire => true
  | .frAck _ value => wfValue value
  | .frRelease _ value => wfValue value
  | .pwrFloorChange => true
  | .pwrDwellExpire => true
  | .pwrWake _ => true
  | .pwrTransitionDone => true
  | .pwrLtolWrite _ _ value => wfValue value
  | .powerCapWrite _ value => wfValue value
  | .pwrDomainOn _ _ => true
  | .pwrDomainOff _ _ => true
  | .quiesceDone _ => true
  | .quiesceTimeout _ => true
  | .gatedDomainAccess _ => true
  | .xcWakeRequest _ => true
  | .pcieLinkL23 _ => true
  | .fitCmd _ value => wfValue value
  | .fitAbandon _ => true
  | .fitEnd r => wfFit r
  | .ledgerHours => true
  | .ledgerRecordWrite _ => true
  | .ledgerCompact => true
  | .calStoreCmd _ value => wfValue value
  | .calStoreStaleWrite => true
  | .storeWriteDone _ _ => true
  | .porstAssert => true
  | .porstRelease _ => true
  | .bootVerifyDone _ => true
  | .dictionaryReady => true
  | .startupPlanCommit => true
  | .startupCalibrationDone convs hits links => convs.length == 68 && hits.length == 40 && links.length == 53
  | .devReady => true
  | .fwImageWrite _ _ image _ _ => wfImage image
  | .recoveryCmd _ value aperture => wfValue value && decide (aperture.length < 2 ^ 32)
  | .resetCmd _ value => wfValue value
  | .perstAssert => true
  | .perstRelease => true
  | .pcieHostConnect => true
  | .adpUnknownType type q => wfAdp q && !wfKnownType type
  | .canBusOff => true
  | .dqsOscillatorTrack => true
  | .drTempReport _ _ _ => true

end Sys2Proof
end

