-- ==== Sys2Proof/Certificates/Slice0/Obligations.lean ====
section
/-! DEFINITION. The statements for the provers. Each is about every state that meets its hypotheses: the effect
that the spec's rules give the command, the next state that it answers, and what it leaves alone. -/

open Sys2Proof Sys2Proof.Machine

/-- The host master claims, renews, hands over and accepts ownership as the election rules. (R57, R55) It rests on the model's own choices of log entries 4, 11, 31, 137. -/
def Obligations.ElectionCommands : Prop :=
  (∀ (s : State) (p : Nat) (rivals : List (Master × Nat)), Served s .host → p < 256 → s.reg O.ownerId = 0 → ((∀ r ∈ rivals, s.connected r.1 = true → r.2 ≤ p)) →
    ∃ t, exec (.pcieClaim p rivals) s = .next t ∧
      t.reg O.ownerId = 1 ∧
      t.reg O.ownerState = 1 ∧
      t.reg O.successorId = 0 ∧
      t.reg O.ownerSince = s.now ∧
      t.hidden H.leaseEnd = s.up + s.reg O.leaseTime * (1000000 * 2 ^ 64) ∧
      Effect s t [(0x010, 1)] [O.ownerId.key 0 0, O.ownerState.key 0 0, O.successorId.key 0 0, O.ownerSince.key 0 0] [hkey H.leaseEnd]) ∧
  (∀ (s : State) (p : Nat) (rivals : List (Master × Nat)), Owner s .host → p < 256 →
    ∃ t, exec (.pcieClaim p rivals) s = .next t ∧
      t.hidden H.leaseEnd = s.up + s.reg O.leaseTime * (1000000 * 2 ^ 64) ∧
      Effect s t [] [] [hkey H.leaseEnd]) ∧
  (∀ (s : State), Owner s .host →
    ∃ t, exec (.pcieRenew 1) s = .next t ∧
      t.hidden H.leaseEnd = s.up + s.reg O.leaseTime * (1000000 * 2 ^ 64) ∧
      Effect s t [] [] [hkey H.leaseEnd]) ∧
  (∀ (s : State) (n : Nat), Owner s .host → n ≠ 0 → n ≠ 1 → n < 256 → s.idConnected n = true →
    ∃ t, exec (.pcieHandover n) s = .next t ∧
      t.reg O.ownerState = 2 ∧
      t.reg O.successorId = n ∧
      t.hidden H.windowEnd = s.up + 1000000000 * 2 ^ 64 ∧
      Effect s t [] [O.ownerState.key 0 0, O.successorId.key 0 0] [hkey H.windowEnd]) ∧
  (∀ (s : State), Served s .host → s.reg O.ownerState = 2 → s.reg O.successorId = 1 →
    ∃ t, exec (.pcieAccept 1) s = .next t ∧
      t.reg O.ownerId = 1 ∧
      t.reg O.ownerState = 1 ∧
      t.reg O.successorId = 0 ∧
      t.reg O.ownerSince = s.now ∧
      t.hidden H.leaseEnd = s.up + s.reg O.leaseTime * (1000000 * 2 ^ 64) ∧
      t.xfers = s.xfers.filter (fun x => !(x.write && x.master == s.reg O.ownerId)) ∧
      Effect s { t with xfers := s.xfers, mbx := s.mbx } [(0x012, 1 + 256 * s.reg O.ownerId)] [O.ownerId.key 0 0, O.ownerState.key 0 0, O.successorId.key 0 0, O.ownerSince.key 0 0] [hkey H.leaseEnd])

/-- Ownership and a pending handover end by expiry, and the host master connects and disconnects. (R57, R58, R33, R60) It rests on the model's own choices of log entries 3, 11, 32, 45, 136, 137, 138, 152. -/
def Obligations.OwnershipEnds : Prop :=
  (∀ (s : State), s.reg O.ownerId ≠ 0 → s.adm = none → s.hidden H.planWait = 0 →
    ∃ t, exec (.leaseExpired) s = .next t ∧
      t.reg O.ownerId = 0 ∧
      t.reg O.ownerState = 0 ∧
      t.reg O.successorId = 0 ∧
      t.staged = s.active ∧
      t.raises = told s s.raises [(0x011, 1 + 256 * s.reg O.ownerId)] ∧
      t.xfers = s.xfers.filter (fun x => !(x.write && x.master == s.reg O.ownerId)) ∧
      ({ t with regs := s.regs, hid := s.hid, raises := s.raises, staged := s.staged, xfers := s.xfers, mbx := s.mbx } : State) = s) ∧
  (∀ (s : State), s.reg O.ownerState = 2 →
    ∃ t, exec (.handoverWindowExpired) s = .next t ∧
      t.reg O.ownerState = 1 ∧
      t.reg O.successorId = 0 ∧
      Effect s t [(0x013, s.reg O.successorId + 256)] [O.ownerState.key 0 0, O.successorId.key 0 0] []) ∧
  (∀ (s : State), s.hidden H.hostUp = 1 → s.reg O.ownerId ≠ 1 → s.reg O.ownerState ≠ 2 →
    ∃ t, exec (.pcieHostDisconnect) s = .next t ∧
      t.hidden H.hostUp = 0 ∧
      t.mbx = none ∧
      t.mbxData = [] ∧
      t.xfers = s.xfers.filter (fun x => x.master != 1) ∧
      t.staged = s.staged ∧
      t.mem = s.mem) ∧
  (∀ (s : State),
    ∃ t, exec (.pcieHostConnect) s = .next t ∧
      t.hidden H.hostUp = 1 ∧
      t.hidden H.linkUp = 1) ∧
  (∀ (s : State), (List.range 32).all (fun n => (s.drainOf n 0).isNone && !(s.plan O.stDest n == 0 && s.reg O.stState n == 2)) = true →
    ∃ t, exec (.pcieHostConnect) s = .next t ∧
      t.hidden H.hostUp = 1 ∧
      t.hidden H.linkUp = 1 ∧
      Effect s t [] [] [hkey H.linkUp, hkey H.hostUp])

/-- The event unit takes raises, delivers them on their routes, moderates vectors, and its objects read and clear. (R425, R426, R428, R429, R430, R432) It rests on the model's own choices of log entries 104, 140, 141. -/
def Obligations.EventDelivery : Prop :=
  (∀ (s : State) (r : Raise) (l : List Raise), s.raises = r :: l → bit (s.reg O.evEnable (r.event / 32)) (r.event % 32) = false →
    ∃ t, exec (.eventRaise) s = .next t ∧
      t.raises = l ∧
      t.reg O.evPending (r.event / 32) = setBit (s.reg O.evPending (r.event / 32)) (r.event % 32) true ∧
      Effect s { t with raises := s.raises } [] [O.evPending.key ((r.event / 32)) 0] []) ∧
  (∀ (s : State) (r : Raise) (l : List Raise) (v : Nat), s.raises = r :: l → bit (s.reg O.evEnable (r.event / 32)) (r.event % 32) = true → v < 2048 → s.reg O.evRoute (r.event / 32) (r.event % 32) = 2048 + v → s.hidden H.hostUp = 1 → s.hidden H.modOn v = 0 → s.hidden H.unmasked v = 1 → s.reg O.evModUs (v / 32) (v % 32) = 0 → 0 < s.reg O.evRingSize → s.sess = [] →
    ∃ t, exec (.eventRaise) s = .next t ∧
      t.out = [.msix v, .hostWrite (s.reg O.evRingWpAddr) (leBytes ((s.hidden H.ringOff + 32) % s.reg O.evRingSize) 8), .hostWrite (s.reg O.evRingBase + s.hidden H.ringOff) (leBytes (r.data * 2 ^ 192 + s.reg O.evRingSeq * 2 ^ 160 + s.now * 2 ^ 64 + r.merged * 65536 + r.event) 32)] ++ s.out ∧
      t.raises = l ∧
      t.hidden H.ringOff = (s.hidden H.ringOff + 32) % s.reg O.evRingSize ∧
      t.reg O.evRingSeq = (s.reg O.evRingSeq + 1) % 2 ^ 32 ∧
      Effect s { t with raises := s.raises, out := s.out } [] [O.evPending.key ((r.event / 32)) 0, O.evRingSeq.key 0 0] [hkey H.ringOff]) ∧
  (∀ (s : State) (v : Fin 2048), s.hidden H.modPend v.val = 0 →
    ∃ t, exec (.evModExpire v) s = .next t ∧
      t.hidden H.modOn v.val = 0 ∧
      Effect s t [] [] [hkey H.modOn v.val, hkey H.modPend v.val]) ∧
  (∀ (s : State) (v : Fin 2048), s.hidden H.modPend v.val = 1 → s.hidden H.hostUp = 1 → s.hidden H.unmasked v.val = 1 → s.reg O.evModUs (v.val / 32) (v.val % 32) ≠ 0 →
    ∃ t, exec (.evModExpire v) s = .next t ∧
      t.out = .msix v.val :: s.out ∧
      t.hidden H.modOn v.val = 1 ∧
      t.hidden H.modPend v.val = 0 ∧
      Effect s { t with out := s.out } [] [] [hkey H.modOn v.val, hkey H.modPend v.val]) ∧
  (∀ (s : State) (v : Fin 2048), s.hidden H.hostUp = 1 → s.hidden H.pba v.val = 0 →
    ∃ t, exec (.msixUnmask v) s = .next t ∧
      t.hidden H.unmasked v.val = 1 ∧
      Effect s t [] [] [hkey H.unmasked v.val, hkey H.pba v.val]) ∧
  (∀ (s : State) (v : Fin 2048), s.hidden H.hostUp = 1 → s.hidden H.pba v.val = 1 → s.hidden H.modOn v.val = 0 → s.reg O.evModUs (v.val / 32) (v.val % 32) = 0 →
    ∃ t, exec (.msixUnmask v) s = .next t ∧
      t.hidden H.unmasked v.val = 1 ∧
      t.hidden H.pba v.val = 0 ∧
      t.out = .msix v.val :: s.out ∧
      Effect s { t with out := s.out } [] [] [hkey H.unmasked v.val, hkey H.pba v.val]) ∧
  (∀ (s : State) (m : Master) (w : Fin 64) (v : Nat), Owner s m → v < 2 ^ 32 →
    ∃ t, exec (.evClear m w v) s = .next t ∧
      t.out = replied s m ∧
      t.reg O.evPending w.val = s.reg O.evPending w.val - (s.reg O.evPending w.val &&& v) ∧
      Effect s { t with out := s.out } [] [O.evPending.key w.val 0] []) ∧
  (∀ (s : State) (m : Master) (v : Nat), Owner s m → v < 2 ^ 64 → O.evRingBase.checks (v &&& O.evRingBase.mask) = true → s.reg O.evRingBase ≠ v →
    ∃ t, exec (.evRingConfigWrite m false v) s = .next t ∧
      t.out = replied s m ∧
      t.reg O.evRingBase = v ∧
      t.hidden H.ringOff = 0 ∧
      Effect s { t with out := s.out } [] [O.evRingBase.key 0 0] [hkey H.ringOff]) ∧
  (∀ (s : State) (m : Master) (v : Nat), Owner s m → v < 2 ^ 32 → O.evRingSize.checks (v &&& O.evRingSize.mask) = true → s.reg O.evRingSize ≠ v →
    ∃ t, exec (.evRingConfigWrite m true v) s = .next t ∧
      t.out = replied s m ∧
      t.reg O.evRingSize = v ∧
      t.hidden H.ringOff = 0 ∧
      Effect s { t with out := s.out } [] [O.evRingSize.key 0 0] [hkey H.ringOff])

/-- A write of an object takes effect by its access class, directly, through BAR0, and as a key load. (R31, R33, R39, R51, R508) It rests on the model's own choices of log entries 4, 42, 44, 183, 187. -/
def Obligations.ObjectWrites : Prop :=
  (∀ (s : State) (m : Master) (index sub : Nat) (b : List Byte) (r : Row) (i j : Nat), Owner s m → objectFor m index sub = some (r, i, j) → r.cls = .plan → r.ty ≠ .domain → b.length = r.ty.size → r.checks (ofLe b &&& r.mask) = true → s.adm = none → s.hidden H.planWait = 0 → s.awaiting = none →
    ∃ t, exec (.objectWrite m index sub b) s = .next t ∧
      t.out = replied s m ∧
      t.staged = putVal r i j (ofLe b &&& r.mask) s.staged ∧
      Effect s { t with out := s.out, staged := s.staged } [] [] []) ∧
  (∀ (s : State) (m : Master) (index sub : Nat) (b : List Byte) (r : Row) (i j : Nat), Owner s m → objectFor m index sub = some (r, i, j) → r.cls = .own → r.ty ≠ .domain → b.length = r.ty.size → r.checks (ofLe b &&& r.mask) = true → (systemActs m ++ timeActs ++ pathActs).all (fun e => e.1 != r) = true → r ≠ O.tcSet → r ≠ O.tcStep →
    ∃ t, exec (.objectWrite m index sub b) s = .next t ∧
      t.out = replied s m ∧
      t.reg r i j = (ofLe b &&& r.mask) ∧
      Effect s { t with out := s.out } [] [r.key i j] []) ∧
  (∀ (s : State) (m : Master) (index sub : Nat) (b : List Byte) (r : Row) (i j : Nat), Served s m → objectFor m index sub = some (r, i, j) → r.cls = .rw → r.host = false ∨ s.mbx = none → r ≠ O.myId → r ≠ O.mbxData → r.ty ≠ .domain → b.length = r.ty.size → r.checks (ofLe b &&& r.mask) = true → (systemActs m ++ timeActs ++ pathActs).all (fun e => e.1 != r) = true → r ≠ O.tcSet → r ≠ O.tcStep →
    ∃ t, exec (.objectWrite m index sub b) s = .next t ∧
      t.regOf r m.id i j = (ofLe b &&& r.mask) ∧
      t.out = replied s m ∧
      Effect s { t with out := s.out } [] [r.key i j + 2 ^ 24 * m.id] []) ∧
  (∀ (s : State) (m : Master) (index sub : Nat) (b : List Byte) (r : Row) (i j : Nat), Served s m → objectFor m index sub = some (r, i, j) → r.cls = .ro →
    ∃ t, exec (.objectWrite m index sub b) s = .next t ∧
      t.out = (s.answer m Abort.readOnly).out ∧
      t.raises = (s.answer m Abort.readOnly).raises ∧
      Effect s { t with out := s.out } (if m = .host then [(0x019, Abort.readOnly)] else []) [O.pcieLastAbort.key 0 0] []) ∧
  (∀ (s : State) (m : Master) (index sub : Nat) (b : List Byte) (r : Row) (i j : Nat), Served s m → s.owns m = false → objectFor m index sub = some (r, i, j) → r.cls = .own ∨ r.cls = .plan ∨ r.cls = .live ∨ (r.cls = .wo ∧ r.host = false) →
    ∃ t, exec (.objectWrite m index sub b) s = .next t ∧
      t.out = (s.answer m Abort.notOwner).out ∧
      Effect s { t with out := s.out } (if m = .host then [(0x019, Abort.notOwner)] else []) [O.pcieLastAbort.key 0 0] []) ∧
  (∀ (s : State) (off w v : Nat) (r : Row) (i j : Nat), Owner s .host → bar0Form off w = true → off % 8 = 0 → objectFor .host (off / 2048) (off % 2048 / 8) = some (r, i, j) → r.cls = .own → r.ty.scalar = true → r.ty.size ≤ w → r.checks (v % 2 ^ (8 * r.ty.size) &&& r.mask) = true → (systemActs .host ++ timeActs ++ pathActs).all (fun e => e.1 != r) = true →
    ∃ t, exec (.bar0Write off w v) s = .next t ∧
      t.reg r i j = v % 2 ^ (8 * r.ty.size) &&& r.mask ∧
      Effect s t [] [r.key i j] []) ∧
  (∀ (s : State) (off w v : Nat), Served s .host → bar0Form off w = false → objectFor .host (off / 2048 % 65536) (off % 2048 / 8) = none →
    ∃ t, exec (.bar0MalformedAccess false off w v) s = .next t ∧
      t.reg O.pcieLastAbort = Abort.notFound ∧
      t.out = .readData 0 :: s.out ∧
      Effect s { t with out := s.out } [] [O.pcieLastAbort.key 0 0] []) ∧
  (∀ (s : State) (off w v : Nat), Served s .host → bar0Form off w = false → (s.judgeRead .host (off / 2048 % 65536) (off % 2048 / 8) 0).toOption.isSome = true →
    ∃ t, exec (.bar0MalformedAccess false off w v) s = .next t ∧
      t.reg O.pcieLastAbort = Abort.type ∧
      t.out = .readData 0 :: s.out ∧
      Effect s { t with out := s.out } [] [O.pcieLastAbort.key 0 0] []) ∧
  (∀ (s : State) (m : Master) (slot : Fin 8) (key : List Byte), Owner s m → key.length = 32 → s.sess = [] →
    ∃ t, exec (.adpKeyWrite m slot key) s = .next t ∧
      t.out = replied s m ∧
      t.adpKeyOf slot.val = key ∧
      t.xfers = (s.breakReads (O.adpKey.key 0 slot.val)).xfers ∧
      Effect s { t with out := s.out, doms := s.doms, xfers := s.xfers } [] [] [])

/-- The mailbox takes one command at a time, and the command executes and ends with its status and its event. (R43, R44) It rests on the model's own choices of log entries 3, 40, 41, 135. -/
def Obligations.MailboxCommands : Prop :=
  (∀ (s : State), Served s .host → s.mbx = none →
    ∃ t, exec (.mbxRead) s = .next t ∧
      t.reg O.mbxStatus = 2 ^ 31 ∧
      t.mbx.map (fun r => (r.cmd, r.key, r.abort)) = some (1, s.regOf O.mbxTarget 1 / 256, 0) ∧
      Effect s { t with mbx := s.mbx } [] [O.mbxStatus.key 0 0] []) ∧
  (∀ (s : State), Served s .host → s.mbx = none →
    ∃ t, exec (.mbxWrite) s = .next t ∧
      t.reg O.mbxStatus = 2 ^ 31 ∧
      t.mbx.map (fun r => (r.cmd, r.key, r.abort)) = some (2, s.regOf O.mbxTarget 1 / 256, 0) ∧
      Effect s { t with mbx := s.mbx } [] [O.mbxStatus.key 0 0] []) ∧
  (∀ (s : State), Served s .host → s.mbx = none →
    ∃ t, exec (.mbxSegRead) s = .next t ∧
      t.reg O.mbxStatus = 2 ^ 31 ∧
      t.mbx.map (fun r => (r.cmd, r.key, r.abort)) = some (3, s.regOf O.mbxTarget 1 / 256, 0) ∧
      Effect s { t with mbx := s.mbx } [] [O.mbxStatus.key 0 0] []) ∧
  (∀ (s : State), Served s .host → s.mbx = none →
    ∃ t, exec (.mbxSegWrite) s = .next t ∧
      t.reg O.mbxStatus = 2 ^ 31 ∧
      t.mbx.map (fun r => (r.cmd, r.key, r.abort)) = some (4, s.regOf O.mbxTarget 1 / 256, 0) ∧
      Effect s { t with mbx := s.mbx } [] [O.mbxStatus.key 0 0] []) ∧
  (∀ (s : State), Served s .host → s.mbx = none →
    ∃ t, exec (.mbxSegWriteLast) s = .next t ∧
      t.reg O.mbxStatus = 2 ^ 31 ∧
      t.mbx.map (fun r => (r.cmd, r.key, r.abort)) = some (5, s.regOf O.mbxTarget 1 / 256, 0) ∧
      Effect s { t with mbx := s.mbx } [] [O.mbxStatus.key 0 0] []) ∧
  (∀ (s : State), Served s .host → s.mbx = none →
    ∃ t, exec (.mbxAbortTransfer) s = .next t ∧
      t.reg O.mbxStatus = 2 ^ 31 ∧
      t.mbx.map (fun r => (r.cmd, r.key, r.abort)) = some (6, s.regOf O.mbxTarget 1 / 256, 0) ∧
      Effect s { t with mbx := s.mbx } [] [O.mbxStatus.key 0 0] []) ∧
  (∀ (s : State) (r : Row) (i j : Nat), Served s .host → s.mbx = none → (s.judgeRead .host (bits (s.regOf O.mbxTarget 1) 31 16) (bits (s.regOf O.mbxTarget 1) 15 8) (s.regOf O.mbxTarget 1 % 2)).toOption = some (r, i, j) → r.ty ≠ .domain → s.regOf O.mbxOffset 1 = 0 →
    ∃ t, exec (.mbxRead) s = .next t ∧
      t.thenDoes .mbxCommandComplete (fun u => (u.reg O.mbxStatus, u.reg O.mbxResultLen, u.mbxData)) = some (2 ^ 30, r.ty.size, Map.putBytes s.mbxData 0 (t.objBytes .host r i j (s.regOf O.mbxTarget 1 % 2))) ∧
      ({ t with mbx := s.mbx, regs := s.regs } : State) = s) ∧
  (∀ (s : State) (r : Row) (i j : Nat), Owner s .host → s.mbx = none → objectFor .host (bits (s.regOf O.mbxTarget 1) 31 16) (bits (s.regOf O.mbxTarget 1) 15 8) = some (r, i, j) → r.cls = .own → r.ty ≠ .domain → (s.regOf O.mbxLength 1) = r.ty.size → s.regOf O.mbxOffset 1 = 0 → r.checks (ofLe (Map.getBytes s.mbxData 0 (s.regOf O.mbxLength 1)) &&& r.mask) = true → (systemActs .host ++ timeActs ++ pathActs).all (fun e => e.1 != r) = true → r ≠ O.tcSet → r ≠ O.tcStep →
    ∃ t, exec (.mbxWrite) s = .next t ∧
      t.thenDoes .mbxCommandComplete (fun u => (u.reg O.mbxStatus, u.reg r i j)) = some (2 ^ 30, ofLe (Map.getBytes s.mbxData 0 (s.regOf O.mbxLength 1)) &&& r.mask) ∧
      ({ t with mbx := s.mbx, regs := s.regs } : State) = s) ∧
  (∀ (s : State) (r : Row) (i j : Nat), Served s .host → s.mbx = none → (s.judgeRead .host (bits (s.regOf O.mbxTarget 1) 31 16) (bits (s.regOf O.mbxTarget 1) 15 8) (s.regOf O.mbxTarget 1 % 2)).toOption = some (r, i, j) → r.ty = .domain → s.regOf O.mbxOffset 1 = 0 → 0 < (s.regOf O.mbxLength 1) → (s.regOf O.mbxLength 1) < (s.domBytes r i j).length → s.xfers = [] →
    ∃ t, exec (.mbxSegRead) s = .next t ∧
      t.thenDoes .mbxCommandComplete (fun u => (u.reg O.mbxStatus, u.reg O.mbxResultLen, u.mbxData, u.xfers)) = some (2 ^ 30, (s.regOf O.mbxLength 1), Map.putBytes s.mbxData 0 ((s.domBytes r i j).take (s.regOf O.mbxLength 1)), [{ master := 1, key := r.key i j, write := false, total := (s.domBytes r i j).length, data := s.domBytes r i j, next := (s.regOf O.mbxLength 1) }]) ∧
      ({ t with mbx := s.mbx, regs := s.regs } : State) = s) ∧
  (∀ (s : State) (r : Row) (i j : Nat), Owner s .host → s.mbx = none → objectFor .host (bits (s.regOf O.mbxTarget 1) 31 16) (bits (s.regOf O.mbxTarget 1) 15 8) = some (r, i, j) → r.ty = .domain → r.cls = .own → s.regOf O.mbxOffset 1 = 0 → 0 < (s.regOf O.mbxLength 1) → s.xfers = [] →
    ∃ t, exec (.mbxSegWrite) s = .next t ∧
      t.thenDoes .mbxCommandComplete (fun u => (u.reg O.mbxStatus, u.xfers)) = some (2 ^ 30, [{ master := 1, key := r.key i j, write := true, total := (s.regOf O.mbxTotal 1), data := (Map.getBytes s.mbxData 0 (s.regOf O.mbxLength 1)) }]) ∧
      ({ t with mbx := s.mbx, regs := s.regs } : State) = s) ∧
  (∀ (s : State) (sl : Fin 32), Owner s .host → s.mbx = none → objectFor .host (bits (s.regOf O.mbxTarget 1) 31 16) (bits (s.regOf O.mbxTarget 1) 15 8) = some (O.firCoef, sl.val, 0) → s.regOf O.mbxOffset 1 = 0 → 0 < (s.regOf O.mbxLength 1) → (s.regOf O.mbxLength 1) = (s.regOf O.mbxTotal 1) → s.xfers = [] → (s.regOf O.mbxLength 1) % 4 = 0 → (s.regOf O.mbxLength 1) ≤ 384 → ((∀ c ∈ words32 (Map.getBytes s.mbxData 0 (s.regOf O.mbxLength 1)), -131072 ≤ c ∧ c ≤ 131071)) → s.anyPlan (fun p => planVal p O.ddcEnable sl.val == 1) = false →
    ∃ t, exec (.mbxSegWriteLast) s = .next t ∧
      t.thenDoes .mbxCommandComplete (fun u => (u.reg O.mbxStatus, u.dom O.firCoef sl.val, u.xfers)) = some (2 ^ 30, (Map.getBytes s.mbxData 0 (s.regOf O.mbxLength 1)), []) ∧
      ({ t with mbx := s.mbx, regs := s.regs } : State) = s) ∧
  (∀ (s : State) (x : Xfer), Owner s .host → s.mbx = none → objectFor .host (bits (s.regOf O.mbxTarget 1) 31 16) (bits (s.regOf O.mbxTarget 1) 15 8) = some (O.xoTcTable, 0, 0) → s.xfers = [x] → x.master = 1 → x.key = O.xoTcTable.key 0 0 → x.write = true → s.regOf O.mbxOffset 1 = x.data.length → x.data ≠ [] → x.data.length + (s.regOf O.mbxLength 1) = 704 → x.total = 704 → 0 < (s.regOf O.mbxLength 1) →
    ∃ t, exec (.mbxSegWriteLast) s = .next t ∧
      t.thenDoes .mbxCommandComplete (fun u => (u.reg O.mbxStatus, u.dom O.xoTcTable, u.xfers)) = some (2 ^ 30, x.data ++ (Map.getBytes s.mbxData 0 (s.regOf O.mbxLength 1)), []) ∧
      ({ t with mbx := s.mbx, regs := s.regs } : State) = s) ∧
  (∀ (s : State) (r : Row) (i j : Nat), Served s .host → s.mbx = none → objectFor .host (bits (s.regOf O.mbxTarget 1) 31 16) (bits (s.regOf O.mbxTarget 1) 15 8) = some (r, i, j) →
    ∃ t, exec (.mbxAbortTransfer) s = .next t ∧
      t.thenDoes .mbxCommandComplete (fun u => (u.reg O.mbxStatus, u.xfers)) = some (2 ^ 30, s.xfers.filter (fun x => !(x.master == 1 && x.key == r.key i j))) ∧
      ({ t with mbx := s.mbx, regs := s.regs } : State) = s) ∧
  (∀ (s : State) (c : MbxRun) (r : Row) (i j : Nat), s.mbx = some c → c.cmd = 1 → c.abort = 0 → s.hidden H.hostUp = 1 → s.regOf O.mbxOffset 1 = 0 → (s.judgeRead .host (bits (s.regOf O.mbxTarget 1) 31 16) (bits (s.regOf O.mbxTarget 1) 15 8) (s.regOf O.mbxTarget 1 % 2)).toOption = some (r, i, j) → (({ s with mbx := none } : State).objBytes .host r i j (s.regOf O.mbxTarget 1 % 2)).length ≤ 2048 →
    ∃ t, exec (.mbxCommandComplete) s = .next t ∧
      t.mbx = none ∧
      t.mbxData = Map.putBytes s.mbxData 0 (({ s with mbx := none } : State).objBytes .host r i j (s.regOf O.mbxTarget 1 % 2)) ∧
      t.reg O.mbxResultLen = (({ s with mbx := none } : State).objBytes .host r i j (s.regOf O.mbxTarget 1 % 2)).length ∧
      t.reg O.mbxStatus = 2 ^ 30 ∧
      Effect s { t with mbx := s.mbx, mbxData := s.mbxData } [(0x016, 2 ^ 30 + 2 ^ 32 * s.reg O.mbxAbort)] [O.mbxResultLen.key 0 0, O.mbxStatus.key 0 0] []) ∧
  (∀ (s : State) (c : MbxRun), s.mbx = some c → c.abort ≠ 0 → s.hidden H.hostUp = 1 →
    ∃ t, exec (.mbxCommandComplete) s = .next t ∧
      t.mbx = none ∧
      t.reg O.mbxStatus = 2 ^ 29 ∧
      t.reg O.mbxAbort = c.abort ∧
      Effect s { t with mbx := s.mbx } [(0x016, 2 ^ 29 + 2 ^ 32 * c.abort)] [O.mbxStatus.key 0 0, O.mbxAbort.key 0 0] []) ∧
  (∀ (s : State) (m : Master) (index sub : Nat),
    ∃ t, exec (.segTransferSilence m index sub) s = .next t ∧
      t.xfers = s.xfers.filter (fun x => !(x.master == m.id && x.key == index * 256 + sub)) ∧
      t.ends = s.ends ++ (s.xfers.filter (fun x => x.master == m.id && x.key == index * 256 + sub)).map (fun x => (x.master, x.key, x.write, Abort.segAbandoned)) ∧
      Effect s { t with xfers := s.xfers, ends := s.ends } [] [] [])

/-- A request of an ADP session that passes authentication takes effect and is answered in the session. (R44, R46, R47, R48, R49) It rests on the model's own choices of log entries 27, 34, 36, 44, 135. -/
def Obligations.SessionRequests : Prop :=
  (∀ (s : State) (n : Nat) (q : AdpMsg) (r : Row) (i j : Nat), Accepts s n 1 q → (s.judgeRead (sessMaster n) (fieldAt q.payload 0 2) (fieldAt q.payload 2 1) (fieldAt q.payload 3 1)).toOption = some (r, i, j) → r.ty ≠ .domain → r ≠ O.sessOpen →
    ∃ t, exec (.adpRead q) s = .next t ∧
      t.session n = answeredSession s n q (sessionReply s n 1 q (q.payload.take 3 ++ beBytes r.ty.code 1 ++ beBytes r.ty.size 2 ++ (leBytes (s.readVal (sessMaster n) r i j (fieldAt q.payload 3 1)) r.ty.size).reverse)) ∧
      t.out = (s.adpOut q.port.val q.peer (sessionReply s n 1 q (q.payload.take 3 ++ beBytes r.ty.code 1 ++ beBytes r.ty.size 2 ++ (leBytes (s.readVal (sessMaster n) r i j (fieldAt q.payload 3 1)) r.ty.size).reverse))).out ∧
      (∀ k, k ≠ n → t.session k = s.session k) ∧
      Effect s { t with out := s.out, sess := s.sess } [] [] []) ∧
  (∀ (s : State) (n : Nat) (q : AdpMsg) (r : Row) (i j : Nat), Accepts s n 2 q → s.owns (sessMaster n) = true → objectFor (sessMaster n) (fieldAt q.payload 0 2) (fieldAt q.payload 2 1) = some (r, i, j) → r.cls = .own → r.ty ≠ .domain → q.payload.length = 6 + r.ty.size → r.checks (ofBe (q.payload.drop 6) &&& r.mask) = true → (systemActs (sessMaster n) ++ timeActs ++ pathActs).all (fun e => e.1 != r) = true → r ≠ O.tcSet → r ≠ O.tcStep →
    ∃ t, exec (.adpWrite q) s = .next t ∧
      t.reg r i j = ofBe (q.payload.drop 6) &&& r.mask ∧
      t.session n = answeredSession s n q (sessionReply s n 2 q (q.payload.take 3)) ∧
      t.out = (s.adpOut q.port.val q.peer (sessionReply s n 2 q (q.payload.take 3))).out ∧
      (∀ k, k ≠ n → t.session k = s.session k) ∧
      Effect s { t with out := s.out, sess := s.sess } [] [r.key i j] []) ∧
  (∀ (s : State) (n : Nat) (q : AdpMsg) (r : Row) (i j : Nat), Accepts s n 3 q → (s.judgeRead (sessMaster n) (fieldAt q.payload 0 2) (fieldAt q.payload 2 1) (fieldAt q.payload 3 1)).toOption = some (r, i, j) → r.ty = .domain → fieldAt q.payload 4 4 = 0 → 0 < fieldAt q.payload 8 2 → fieldAt q.payload 8 2 ≤ 1024 → fieldAt q.payload 8 2 < (s.domBytes r i j).length → s.xfers = [] →
    ∃ t, exec (.adpSegRead q) s = .next t ∧
      t.xfers = [{ master := (sessMaster n).id, key := r.key i j, write := false, total := (s.domBytes r i j).length, data := s.domBytes r i j, next := fieldAt q.payload 8 2 }] ∧
      t.ends = s.ends.filter (fun e => !(e.1 == (sessMaster n).id && e.2.1 == r.key i j && e.2.2.1 == false)) ∧
      t.session n = answeredSession s n q (sessionReply s n 3 q (q.payload.take 3 ++ [0] ++ beBytes 0 4 ++ beBytes (s.domBytes r i j).length 4 ++ beBytes (fieldAt q.payload 8 2) 2 ++ (s.domBytes r i j).take (fieldAt q.payload 8 2))) ∧
      t.out = (s.adpOut q.port.val q.peer (sessionReply s n 3 q (q.payload.take 3 ++ [0] ++ beBytes 0 4 ++ beBytes (s.domBytes r i j).length 4 ++ beBytes (fieldAt q.payload 8 2) 2 ++ (s.domBytes r i j).take (fieldAt q.payload 8 2)))).out ∧
      (∀ k, k ≠ n → t.session k = s.session k) ∧
      Effect s { t with out := s.out, sess := s.sess, xfers := s.xfers, ends := s.ends } [] [] []) ∧
  (∀ (s : State) (n : Nat) (q : AdpMsg) (r : Row) (i j : Nat), Accepts s n 4 q → s.owns (sessMaster n) = true → objectFor (sessMaster n) (fieldAt q.payload 0 2) (fieldAt q.payload 2 1) = some (r, i, j) → r.ty = .domain → r.cls = .own → fieldAt q.payload 4 4 = 0 → fieldAt q.payload 3 1 = 0 → fieldAt q.payload 12 2 ≤ 1024 → s.xfers = [] →
    ∃ t, exec (.adpSegWrite q) s = .next t ∧
      t.xfers = [{ master := (sessMaster n).id, key := r.key i j, write := true, total := fieldAt q.payload 8 4, data := q.payload.drop 14 }] ∧
      t.ends = s.ends.filter (fun e => !(e.1 == (sessMaster n).id && e.2.1 == r.key i j && e.2.2.1 == true)) ∧
      t.session n = answeredSession s n q (sessionReply s n 4 q (q.payload.take 3 ++ beBytes 0 4)) ∧
      t.out = (s.adpOut q.port.val q.peer (sessionReply s n 4 q (q.payload.take 3 ++ beBytes 0 4))).out ∧
      (∀ k, k ≠ n → t.session k = s.session k) ∧
      Effect s { t with out := s.out, sess := s.sess, xfers := s.xfers, ends := s.ends } [] [] []) ∧
  (∀ (s : State) (n : Nat) (q : AdpMsg) , Accepts s n 6 q → s.owns (sessMaster n) = true → s.reg O.ownerId ≠ 0 →
    ∃ t, exec (.adpRenew q) s = .next t ∧
      t.hidden H.leaseEnd = s.up + s.reg O.leaseTime * (1000000 * 2 ^ 64) ∧
      t.session n = answeredSession s n q (sessionReply s n 6 q (beBytes (s.reg O.leaseTime) 4)) ∧
      t.out = (s.adpOut q.port.val q.peer (sessionReply s n 6 q (beBytes (s.reg O.leaseTime) 4))).out ∧
      (∀ k, k ≠ n → t.session k = s.session k) ∧
      Effect s { t with out := s.out, sess := s.sess } [] [] [hkey H.leaseEnd]) ∧
  (∀ (s : State) (n : Nat) (q : AdpMsg) (l : List (Master × Nat)), Accepts s n 5 q → s.reg O.ownerId = 0 → ((∀ x ∈ l, s.connected x.1 = false)) →
    ∃ t, exec (.adpClaim q l) s = .next t ∧
      t.reg O.ownerId = (sessMaster n).id ∧
      t.reg O.ownerState = 1 ∧
      t.reg O.successorId = 0 ∧
      t.hidden H.leaseEnd = s.up + s.reg O.leaseTime * (1000000 * 2 ^ 64) ∧
      t.session n = answeredSession s n q (sessionReply s n 5 q (beBytes (sessMaster n).id 1 ++ beBytes (s.reg O.leaseTime) 4)) ∧
      t.out = (s.adpOut q.port.val q.peer (sessionReply s n 5 q (beBytes (sessMaster n).id 1 ++ beBytes (s.reg O.leaseTime) 4))).out ∧
      (∀ k, k ≠ n → t.session k = s.session k) ∧
      Effect s { t with out := s.out, sess := s.sess } [(0x010, (sessMaster n).id)] [O.ownerId.key 0 0, O.ownerState.key 0 0, O.successorId.key 0 0, O.ownerSince.key 0 0] [hkey H.leaseEnd]) ∧
  (∀ (s : State) (n : Nat) (q : AdpMsg) , Accepts s n 7 q → s.owns (sessMaster n) = true → fieldAt q.payload 0 1 ≠ 0 → fieldAt q.payload 0 1 ≠ (sessMaster n).id → s.idConnected (fieldAt q.payload 0 1) = true →
    ∃ t, exec (.adpHandover q) s = .next t ∧
      t.reg O.ownerState = 2 ∧
      t.reg O.successorId = fieldAt q.payload 0 1 ∧
      t.hidden H.windowEnd = s.up + 1000000000 * 2 ^ 64 ∧
      t.session n = answeredSession s n q (sessionReply s n 7 q (q.payload)) ∧
      t.out = (s.adpOut q.port.val q.peer (sessionReply s n 7 q (q.payload))).out ∧
      (∀ k, k ≠ n → t.session k = s.session k) ∧
      Effect s { t with out := s.out, sess := s.sess } [] [O.ownerState.key 0 0, O.successorId.key 0 0] [hkey H.windowEnd]) ∧
  (∀ (s : State) (n : Nat) (q : AdpMsg) , Accepts s n 8 q → s.reg O.ownerState = 2 → s.reg O.successorId = (sessMaster n).id →
    ∃ t, exec (.adpAccept q) s = .next t ∧
      t.reg O.ownerId = (sessMaster n).id ∧
      t.reg O.ownerState = 1 ∧
      t.reg O.successorId = 0 ∧
      t.xfers = s.xfers.filter (fun x => !(x.write && x.master == s.reg O.ownerId)) ∧
      t.session n = answeredSession s n q (sessionReply s n 8 q (beBytes (sessMaster n).id 1 ++ beBytes (s.reg O.leaseTime) 4)) ∧
      t.out = (s.adpOut q.port.val q.peer (sessionReply s n 8 q (beBytes (sessMaster n).id 1 ++ beBytes (s.reg O.leaseTime) 4))).out ∧
      (∀ k, k ≠ n → t.session k = s.session k) ∧
      Effect s { t with out := s.out, sess := s.sess, xfers := s.xfers, mbx := s.mbx } [(0x012, (sessMaster n).id + 256 * s.reg O.ownerId)] [O.ownerId.key 0 0, O.ownerState.key 0 0, O.successorId.key 0 0, O.ownerSince.key 0 0] [hkey H.leaseEnd]) ∧
  (∀ (s : State) (n : Nat) (q : AdpMsg) , Accepts s n 9 q → 0 < fieldAt q.payload 2 2 → fieldAt q.payload 0 2 + fieldAt q.payload 2 2 ≤ 2048 → fieldAt q.payload 4 1 = 1 →
    ∃ t, exec (.adpSubscribe q) s = .next t ∧
      t.session n = { answeredSession s n q (sessionReply s n 9 q q.payload) with subs := (s.session n).subs ||| (2 ^ fieldAt q.payload 2 2 - 1) * 2 ^ fieldAt q.payload 0 2 } ∧
      t.out = (s.adpOut q.port.val q.peer (sessionReply s n 9 q (q.payload))).out ∧
      (∀ k, k ≠ n → t.session k = s.session k) ∧
      Effect s { t with out := s.out, sess := s.sess } [] [] [])

/-- Sessions open, end, time out and refuse; CAN FD messages are reassembled; queued events leave. (R46, R48, R50, R52, R53, R54, R431) It rests on the model's own choices of log entries 5, 27, 33, 35, 36, 37, 39, 134. -/
def Obligations.SessionLife : Prop :=
  (∀ (s : State) (ty : Byte) (q : AdpMsg) (n : Nat), q.session = 0xFF → s.portServes q.port.val = true → q.version = 1 → s.tagOk ty.toNat q 0 = true → q.seq = 0 → s.freeSession q.port.val = some n →
    ∃ t, exec (.adpSessionOpen ty q) s = .next t ∧
      t.session n = { isOpen := true, key := q.keyId.toNat, nonce := (Config.nonce (s.hidden H.nonces)).toNat, port := q.port.val } ∧
      t.reg O.sessOpen = setBit (s.reg O.sessOpen) n true ∧
      t.hidden H.nonces = s.hidden H.nonces + 1 ∧
      t.out = (s.adpOut q.port.val q.peer (s.adpMsg 0x0B 0x8000 n q.keyId.toNat 0 0 q.txn.toNat (abortPayload Abort.sessNew 0 0 ++ beBytes (Config.nonce (s.hidden H.nonces)).toNat 8))).out ∧
      (∀ k, k ≠ n → t.session k = s.session k) ∧
      Effect s { t with out := s.out, sess := s.sess } [] [O.sessOpen.key 0 0] [hkey H.nonces]) ∧
  (∀ (s : State) (n : Nat) (q : AdpMsg) (ty : Byte), s.portServes q.port.val = true → q.version = 1 → q.session.toNat = n → portSession q.port.val n = true → (s.session n).isOpen = true → q.keyId.toNat = (s.session n).key → s.tagOk ty.toNat q (s.session n).nonce = true → (s.session n).rxSeq < q.seq.toNat → q.payloadLen.toNat = q.payload.length → q.payload.length ≤ 1400 → adpTypes.contains ty.toNat = false →
    ∃ t, exec (.adpUnknownType ty q) s = .next t ∧
      t.session n = answeredSession s n q (sessionReply s n 0x0B q (abortPayload Abort.protoType 0 0)) ∧
      t.out = (s.adpOut q.port.val q.peer (sessionReply s n 0x0B q (abortPayload Abort.protoType 0 0))).out ∧
      (∀ k, k ≠ n → t.session k = s.session k) ∧
      Effect s { t with out := s.out, sess := s.sess } [] [] []) ∧
  (∀ (s : State) (n : Nat) (q : AdpMsg) (r : Row) (i j : Nat), Accepts s n 11 q → fieldAt q.payload 0 4 ≠ Abort.sessClose → objectFor (sessMaster n) (fieldAt q.payload 4 2) (fieldAt q.payload 6 1) = some (r, i, j) →
    ∃ t, exec (.adpAbortTransfer q) s = .next t ∧
      t.xfers = s.xfers.filter (fun x => !(x.master == sessionId n && x.key == r.key i j)) ∧
      t.session n = answeredSession s n q (sessionReply s n 11 q (q.payload)) ∧
      t.out = (s.adpOut q.port.val q.peer (sessionReply s n 11 q (q.payload))).out ∧
      (∀ k, k ≠ n → t.session k = s.session k) ∧
      Effect s { t with out := s.out, sess := s.sess, xfers := s.xfers, ends := s.ends } [] [] []) ∧
  (∀ (s : State) (n : Nat) (q : AdpMsg), Accepts s n 11 q → fieldAt q.payload 0 4 = Abort.sessClose → s.reg O.ownerId ≠ sessionId n → s.reg O.ownerState ≠ 2 →
    ∃ t, exec (.sessClose q) s = .next t ∧
      (t.session n).isOpen = false ∧
      t.reg O.sessOpen = setBit (s.reg O.sessOpen) n false ∧
      t.xfers = s.xfers.filter (fun x => x.master != sessionId n) ∧
      ({ t with regs := s.regs, sess := s.sess, xfers := s.xfers, ends := s.ends, can := s.can, out := s.out } : State) = s) ∧
  (∀ (s : State) (k : Fin 9), (s.session k.val).isOpen = true → s.reg O.ownerId ≠ sessionId k.val → s.reg O.ownerState ≠ 2 →
    ∃ t, exec (.adpIdleTimeout k) s = .next t ∧
      (t.session k.val).isOpen = false ∧
      t.reg O.sessOpen = setBit (s.reg O.sessOpen) k.val false ∧
      t.xfers = s.xfers.filter (fun x => x.master != sessionId k.val) ∧
      ({ t with regs := s.regs, sess := s.sess, xfers := s.xfers, ends := s.ends, can := s.can } : State) = s) ∧
  (∀ (s : State) (ident : BitVec 11) (data frag : List Byte) (c : Byte), data = c :: frag → s.portServes 2 = true → ident.toNat = 0b0110 * 128 + s.reg O.canNode → c = 0x80 →
    ∃ t, exec (.canFrameReceived ident data []) s = .next t ∧
      t.can = some ⟨frag, 1⟩ ∧
      Effect s { t with can := s.can } [] [] []) ∧
  (∀ (s : State) (ident : BitVec 11) (data frag : List Byte) (c : Byte) (rivals : List (Master × Nat)) (x : CanAsm) (n : Nat) (q : AdpMsg), data = c :: frag → ident.toNat = 0b0110 * 128 + s.reg O.canNode → s.can = some x → x.next < 64 → c.toNat = 64 + x.next → q.port = 2 → q.peer = {} → q.tag.length = 32 → x.data ++ frag = adpHeader 6 q.flags.toNat q.session.toNat q.keyId.toNat q.payload.length q.seq.toNat q.txn.toNat ++ q.payload ++ q.tag → Accepts s n 6 q → s.owns (sessMaster n) = true → s.reg O.ownerId ≠ 0 →
    ∃ t, exec (.canFrameReceived ident data rivals) s = .next t ∧
      t.can = none ∧
      t.hidden H.leaseEnd = s.up + s.reg O.leaseTime * (1000000 * 2 ^ 64) ∧
      t.session n = answeredSession s n q (sessionReply s n 6 q (beBytes (s.reg O.leaseTime) 4)) ∧
      Effect s { t with can := s.can, out := s.out, sess := s.sess } [] [] [hkey H.leaseEnd]) ∧
  (∀ (s : State) (k : Fin 9), (s.session k.val).isOpen = true → (s.session k.val).queue ≠ [] → (s.session k.val).dropped = 0 →
    ∃ t, exec (.evAdpModExpire k) s = .next t ∧
      (t.session k.val).queue = (s.session k.val).queue.drop 58 ∧
      (t.session k.val).txSeq = ((s.session k.val).txSeq + 1) % 2 ^ 32 ∧
      t.out = (s.adpOut (s.session k.val).port (s.session k.val).peer (s.adpMsg 0x0A 0 k.val (s.session k.val).key (s.session k.val).nonce (((s.session k.val).txSeq + 1) % 2 ^ 32) 0 (beBytes ((s.session k.val).queue.take 58).length 1 ++ ((s.session k.val).queue.take 58).flatMap evEntryBytes))).out ∧
      Effect s { t with out := s.out, sess := s.sess } [] [] [])

/-- The plan commands start an admission, reload or drop a plan, and bring the device to where it can run. (R59, R60, R61, R62, R64, R450) It rests on the model's own choices of log entries 59, 60, 152. -/
def Obligations.PlanCommands : Prop :=
  (∀ (s : State) (m : Master) , Owner s m → s.hidden H.boot = 7 → s.adm = none → s.hidden H.planWait = 0 → s.awaiting = none → s.reg O.pwrState < 3 → s.reg O.pllaState ≠ 0 →
    ∃ t, exec (.planAdmit m) s = .next t ∧
      t.out = replied s m ∧
      t.adm = some { cmd := 1 } ∧
      t.reg O.planState = 1 ∧
      t.hidden H.dwelling = 1 ∧
      (t.judge1 1 = [] → t.thenDoes .admissionEnd (fun u => (u.adm, u.reg O.admResult)) = some (none, 0)) ∧
      Effect s { t with out := s.out, adm := s.adm } [] [O.planState.key 0 0, O.pwrWakes.key 0 0] [hkey H.dwelling, hkey H.pwrNext, hkey H.pwrCause]) ∧
  (∀ (s : State) (m : Master) , Owner s m → s.hidden H.boot = 7 → s.adm = none → s.hidden H.planWait = 0 → s.awaiting = none → s.reg O.pwrState < 3 → s.reg O.pllaState ≠ 0 →
    ∃ t, exec (.planCommit m) s = .next t ∧
      t.out = replied s m ∧
      t.adm = some { cmd := 2 } ∧
      t.reg O.planState = 1 ∧
      t.hidden H.dwelling = 1 ∧
      (t.judge1 2 = [] → t.thenDoes .admissionEnd (fun u => (u.adm, u.reg O.admResult, u.awaiting)) = some (none, 0, some t.staged)) ∧
      Effect s { t with out := s.out, adm := s.adm } [] [O.planState.key 0 0, O.pwrWakes.key 0 0] [hkey H.dwelling, hkey H.pwrNext, hkey H.pwrCause]) ∧
  (∀ (s : State) (m : Master) , Owner s m → s.hidden H.boot = 7 → s.adm = none → s.hidden H.planWait = 0 → s.awaiting = none → s.reg O.pwrState < 3 → s.reg O.pllaState ≠ 0 → s.armed = none → s.timeUnset = false →
    ∃ t, exec (.planArm m) s = .next t ∧
      t.out = replied s m ∧
      t.adm = some { cmd := 3 } ∧
      t.reg O.planState = 1 ∧
      t.hidden H.dwelling = 1 ∧
      (t.judge1 3 = [] → t.thenDoes .admissionEnd (fun u => (u.adm, u.reg O.admResult, u.armed.isSome)) = some (none, 0, true)) ∧
      Effect s { t with out := s.out, adm := s.adm } [] [O.planState.key 0 0, O.pwrWakes.key 0 0] [hkey H.dwelling, hkey H.pwrNext, hkey H.pwrCause]) ∧
  (∀ (s : State) (m : Master) , Owner s m → s.hidden H.boot = 7 → s.adm = none → s.hidden H.planWait = 0 → s.awaiting = none → s.reg O.pwrState < 3 → s.reg O.pllaState ≠ 0 →
    ∃ t, exec (.planDiscard m) s = .next t ∧
      t.out = replied s m ∧
      t.staged = s.active ∧
      t.hidden H.dwelling = 1 ∧
      Effect s { t with out := s.out, staged := s.staged } [] ((List.range 512).flatMap (fun e => [O.taState.key e 0, O.taValid.key e 0]) ++ [O.taFree.key 0 0, O.planState.key 0 0, O.pwrWakes.key 0 0]) ((List.range 512).map (fun e => hkey H.taLate e) ++ [hkey H.dwelling, hkey H.pwrNext, hkey H.pwrCause, hkey H.pendLate, hkey H.safeDue])) ∧
  (∀ (s : State) (m : Master) , Owner s m → s.hidden H.boot = 7 → s.adm = none → s.hidden H.planWait = 0 → s.awaiting = none → s.reg O.pwrState < 3 → s.reg O.pllaState ≠ 0 →
    ∃ t, exec (.planSafe m) s = .next t ∧
      t.out = replied s m ∧
      t.hidden H.safeDue = 1 ∧
      t.hidden H.dwelling = 1 ∧
      t.thenDoes .safePlanTick (fun u => (u.active, u.staged)) = some (safeOf s.active, safeOf s.active) ∧
      Effect s { t with out := s.out } [] [O.pwrWakes.key 0 0] [hkey H.dwelling, hkey H.pwrNext, hkey H.pwrCause, hkey H.safeDue]) ∧
  (∀ (s : State) (m : Master) , Owner s m → s.hidden H.boot = 7 → s.adm = none → s.hidden H.planWait = 0 → s.awaiting = none → s.reg O.pwrState < 3 → s.reg O.pllaState ≠ 0 → s.armed.isSome = true →
    ∃ t, exec (.planDisarm m) s = .next t ∧
      t.out = replied s m ∧
      t.armed = none ∧
      t.reg O.planState = 0 ∧
      Effect s { t with out := s.out, armed := s.armed } [] ((List.range 512).flatMap (fun e => [O.taState.key e 0, O.taValid.key e 0]) ++ [O.taFree.key 0 0, O.planState.key 0 0, O.pwrWakes.key 0 0]) ((List.range 512).map (fun e => hkey H.taLate e) ++ [hkey H.dwelling, hkey H.pwrNext, hkey H.pwrCause, hkey H.pendLate, hkey H.safeDue]))

/-- Admission ends with its result; a commit makes the plan the active plan at its tick; the safe plan does the same; a unit takes its values at its own boundary. (R17, R62, R63, R64, R65, R79, R321) It rests on the model's own choices of log entries 3, 51, 52, 58, 61, 62, 175. -/
def Obligations.PlansTakeEffect : Prop :=
  (∀ (s : State) (a : Admission), s.adm = some a → s.judge1 a.cmd = [] → a.cmd = 1 ∨ a.bare = true →
    ∃ t, exec (.admissionEnd) s = .next t ∧
      t.adm = none ∧
      t.reg O.admResult = 0 ∧
      t.reg O.admObject = 0 ∧
      t.reg O.admFailMask = admMask [] ∧
      Effect s { t with adm := s.adm } [(0x020, 256 * a.cmd)] [O.admFailMask.key 0 0, O.admPowerEst.key 0 0, O.admResult.key 0 0, O.admObject.key 0 0, O.admObject2.key 0 0, O.admValue.key 0 0, O.admLimit.key 0 0, O.planState.key 0 0] []) ∧
  (∀ (s : State), s.adm = some { cmd := 2 } → s.judge1 2 = [] →
    ∃ t, exec (.admissionEnd) s = .next t ∧
      t.adm = none ∧
      t.awaiting = some s.staged ∧
      t.hidden H.commitAt = s.tick20 ∧
      (s.hidden H.planWait = 0 → t.reg O.planState = 3) ∧
      ({ t with regs := s.regs, hid := s.hid, raises := s.raises, adm := s.adm, awaiting := s.awaiting } : State) = s) ∧
  (∀ (s : State) (a : Admission) (f : AdmFail), s.adm = some a → admFirst (s.judge1 a.cmd) = some f →
    ∃ t, exec (.admissionEnd) s = .next t ∧
      t.adm = none ∧
      t.reg O.admResult = f.code ∧
      t.reg O.admObject = f.obj * 256 ∧
      t.reg O.admFailMask = admMask (s.judge1 a.cmd) ∧
      Effect s { t with adm := s.adm } [(0x021, f.code)] [O.admFailMask.key 0 0, O.admPowerEst.key 0 0, O.admResult.key 0 0, O.admObject.key 0 0, O.admObject2.key 0 0, O.admValue.key 0 0, O.admLimit.key 0 0, O.planState.key 0 0] [hkey H.free]) ∧
  (∀ (s : State) (p : Store), s.awaiting = some p → s.commitDue = true →
    ∃ t, exec (.commitTick false) s = .next t ∧
      t.active = p ∧
      t.staged = p ∧
      t.raises.any (fun r => r.event == 0x022) = true) ∧
  (∀ (s : State) (p : Store) (e : Nat), s.armed = some p → s.commitEntry = some e → s.pendDue e = true → s.hidden H.safeDue < 2 → s.spareLost p = false →
    ∃ t, exec (.taPlanCommit false) s = .next t ∧
      t.active = p ∧
      t.staged = p ∧
      t.raises.any (fun r => r.event == 0x022) = true) ∧
  (∀ (s : State), s.commitDue = true →
    ∃ t, exec (.commitTick true) s = .next t ∧
      t.thenDoes .safePlanTick (fun u => u.active) = some (safeOf s.active) ∧
      Effect s t [] [] [hkey H.safeDue]) ∧
  (∀ (s : State), s.timedDue.isSome = true →
    ∃ t, exec (.taPlanCommit true) s = .next t ∧
      t.thenDoes .safePlanTick (fun u => u.active) = some (safeOf s.active) ∧
      Effect s t [] [] [hkey H.safeDue]) ∧
  (∀ (s : State), s.hidden H.safeDue ≠ 0 →
    ∃ t, exec (.safePlanTick) s = .next t ∧
      t.active = safeOf s.active ∧
      t.staged = safeOf s.active ∧
      t.raises.any (fun r => r.event == 0x024 && r.data == s.hidden H.safeDue) = true) ∧
  (∀ (s : State) (ch : Fin 4), s.sampling ch.val = true → s.idx ≤ (s.cv ch.val).next →
    ∃ t, exec (.unitBoundaryApply (.converter ch)) s = .next t ∧
      t.cv ch.val = { s.cv ch.val with gen := s.reg O.planGen, fmt := s.plan O.cvFormat ch.val } ∧
      ({ t with conv := s.conv } : State) = s) ∧
  (∀ (s : State) (e : Fin 4), s.engLags e.val = true →
    ∃ t, exec (.unitBoundaryApply (.engine e)) s = .next t ∧
      t.lag = s.lag.filter (fun x => !engRows.any (fun r => r.key e.val 0 == x.1)) ∧
      ({ t with lag := s.lag, engSrcs := s.engSrcs, engs := s.engs, regs := s.regs, hid := s.hid, raises := s.raises, out := s.out, newest := s.newest, mem := s.mem, groups := s.groups, table := s.table, density := s.density, lines := s.lines, ctxs := s.ctxs, trigs := s.trigs } : State) = s)

/-- The power state follows the floors, wakes at once, and is entered with its event. (R447, R449, R450, R451, R452) It rests on the model's own choices of log entries 3, 150, 152, 155, 178. -/
def Obligations.PowerStates : Prop :=
  (∀ (s : State), s.reg O.pllaState ≠ 0 →
    ∃ t, exec (.pwrFloorChange) s = .next t ∧
      t.reg O.pwrFloorPlan = s.floorPlan ∧
      t.reg O.pwrFloorLat = s.floorLat ∧
      ((min s.floorPlan s.floorLat) < s.pwrGoal → t.hidden H.pwrNext = (min s.floorPlan s.floorLat) + 1 ∧ t.hidden H.dwelling = 1) ∧
      (List.range 39).all (fun d => bit (t.reg O.pwrDomainOn) d == t.domainOn d) = true ∧
      ({ t with regs := s.regs, hid := s.hid, raises := s.raises } : State) = s) ∧
  (∀ (s : State), s.reg O.pllaState ≠ 0 → s.hidden H.boot = 7 →
    ∃ t, exec (.pwrDwellExpire) s = .next t ∧
      t.reg O.pwrFloorPlan = s.floorPlan ∧
      t.reg O.pwrFloorLat = s.floorLat ∧
      (s.pwrGoal < (min s.floorPlan s.floorLat) → t.hidden H.pwrNext = (min s.floorPlan s.floorLat) + 1 ∧ t.hidden H.dwelling = 0) ∧
      Effect s t [] [O.pwrFloorPlan.key 0 0, O.pwrFloorLat.key 0 0] [hkey H.dwelling, hkey H.pwrNext, hkey H.pwrCause]) ∧
  (∀ (s : State) (link : Bool), s.reg O.pllaState ≠ 0 → s.pwrGoal ≠ 0 →
    ∃ t, exec (.pwrWake link) s = .next t ∧
      t.reg O.pwrWakes = satAdd 32 (s.reg O.pwrWakes) 1 ∧
      t.hidden H.pwrNext = 1 ∧
      t.hidden H.dwelling = 1 ∧
      t.hidden H.pwrCause = (if link then 5 else 3) ∧
      Effect s t [] [O.pwrWakes.key 0 0] [hkey H.dwelling, hkey H.pwrNext, hkey H.pwrCause]) ∧
  (∀ (s : State) (st : Nat), s.hidden H.pwrNext = st + 1 → st ≤ 2 → s.reg O.pllaState = 2 → s.hidden H.planWait = 0 → s.reg O.pwrState ≠ 4 → s.reg O.pwrState ≠ st →
    ∃ t, exec (.pwrTransitionDone) s = .next t ∧
      t.reg O.pwrState = st ∧
      t.hidden H.pwrNext = 0 ∧
      t.raises.any (fun r => r.event == 0x038) = true ∧
      ({ t with regs := s.regs, hid := s.hid, raises := s.raises } : State) = s) ∧
  (∀ (s : State) (m : Master) (c : Fin 8) (v : Nat), Owner s m → s.reg O.pllaState ≠ 0 → v < 2 ^ 32 → ¬ ((s.setReg O.pwrLtol v 0 c.val).floorLat = 0 ∧ f32 (s.reg O.powerCap) < f32 (s.reg O.pwrP0Est)) →
    ∃ t, exec (.pwrLtolWrite m c v) s = .next t ∧
      t.out = replied s m ∧
      t.reg O.pwrLtol 0 c.val = v ∧
      t.reg O.pwrFloorLat = (s.setReg O.pwrLtol v 0 c.val).floorLat ∧
      Effect s { t with out := s.out } [] [O.pwrFloorPlan.key 0 0, O.pwrFloorLat.key 0 0, O.pwrLtol.key 0 c.val, O.pwrWakes.key 0 0] [hkey H.dwelling, hkey H.pwrNext, hkey H.pwrCause]) ∧
  (∀ (s : State) (m : Master) (v : Nat), Owner s m → v < 2 ^ 32 → O.powerCap.checks (v &&& O.powerCap.mask) = true → f32 (s.reg O.activePowerEst) ≤ f32 v → (s.floorLat = 0 → f32 (s.reg O.pwrP0Est) ≤ f32 v) →
    ∃ t, exec (.powerCapWrite m v) s = .next t ∧
      t.out = replied s m ∧
      t.reg O.powerCap = v ∧
      Effect s { t with out := s.out } [] [O.powerCap.key 0 0] []) ∧
  (∀ (s : State), s.reg O.pllaState ≠ 0 →
    ∃ t, exec (.pcieLinkL23 true) s = .next t ∧
      t.hidden H.linkUp = 0 ∧
      t.reg O.pwrFloorPlan = (s.setHidden H.linkUp 0).floorPlan ∧
      (List.range 39).all (fun d => bit (t.reg O.pwrDomainOn) d == t.domainOn d) = true ∧
      ({ t with regs := s.regs, hid := s.hid, raises := s.raises } : State) = s) ∧
  (∀ (s : State), s.reg O.pllaState ≠ 0 →
    ∃ t, exec (.pcieLinkL23 false) s = .next t ∧
      t.hidden H.linkUp = 1 ∧
      t.hidden H.dwelling = 1 ∧
      (List.range 39).all (fun d => bit (t.reg O.pwrDomainOn) d == t.domainOn d) = true ∧
      ({ t with regs := s.regs, hid := s.hid, raises := s.raises } : State) = s)

/-- Domains are held on or off, quiesce, and are woken or opened for one transfer. (R446, R453, R454, R455, R456, R457) It rests on the model's own choices of log entries 151, 153, 154. -/
def Obligations.PowerDomains : Prop :=
  (∀ (s : State) (m : Master) (dom : Fin 64), Owner s m → 1 ≤ dom.val → dom.val ≤ 38 →
    ∃ t, exec (.pwrDomainOn m dom) s = .next t ∧
      t.out = replied s m ∧
      t.reg O.pwrHeldOff = setBit (s.reg O.pwrHeldOff) dom.val false ∧
      (List.range 39).all (fun d => bit (t.reg O.pwrDomainOn) d == t.domainOn d) = true ∧
      ({ t with out := s.out, regs := s.regs, hid := s.hid, raises := s.raises } : State) = s) ∧
  (∀ (s : State) (m : Master) (dom : Fin 64), Owner s m → 1 ≤ dom.val → dom.val ≤ 38 → s.arrivesBy m dom.val = false → s.used dom.val = false → s.fitting = none → s.hidden H.visit dom.val = 0 → bit (s.reg O.pwrDomainOn) dom.val = true →
    ∃ t, exec (.pwrDomainOff m dom) s = .next t ∧
      t.out = replied s m ∧
      t.reg O.pwrHeldOff = setBit (s.reg O.pwrHeldOff) dom.val true ∧
      t.hidden H.quiesce dom.val = 1 ∧
      t.thenDoes (.quiesceDone dom) (fun u => bit (u.reg O.pwrDomainOn) dom.val) = some false ∧
      Effect s { t with out := s.out } [] [O.pwrHeldOff.key 0 0] [hkey H.quiesce dom.val]) ∧
  (∀ (s : State) (dom : Fin 64), s.hidden H.quiesce dom.val = 1 →
    ∃ t, exec (.quiesceDone dom) s = .next t ∧
      t.hidden H.quiesce dom.val = 0 ∧
      ({ t with regs := s.regs, hid := s.hid, raises := s.raises } : State) = s) ∧
  (∀ (s : State) (dom : Fin 64), 1 ≤ dom.val → dom.val ≤ 38 → s.hidden H.quiesce dom.val = 1 → s.used dom.val = false → s.fitting = none → s.hidden H.visit dom.val = 0 → bit (s.reg O.pwrHeldOff) dom.val = true →
    ∃ t, exec (.quiesceDone dom) s = .next t ∧
      bit (t.reg O.pwrDomainOn) dom.val = false ∧
      ({ t with regs := s.regs, hid := s.hid, raises := s.raises } : State) = s) ∧
  (∀ (s : State) (dom : Fin 64), s.hidden H.quiesce dom.val = 1 →
    ∃ t, exec (.quiesceTimeout dom) s = .next t ∧
      t.hidden H.quiesce dom.val = 0 ∧
      t.raises.any (fun r => r.event == 0x039) = true) ∧
  (∀ (s : State) (dom : Fin 64), bit (s.reg O.pwrDomainOn) dom.val = false → dom.val ≤ 38 →
    ∃ t, exec (.gatedDomainAccess dom) s = .next t ∧
      bit (t.reg O.pwrDomainOn) dom.val = true ∧
      t.raises.any (fun r => r.event == 0x03A) = true ∧
      bit (t.visitsEnd.reg O.pwrDomainOn) dom.val = (t.setHidden H.visit 0 dom.val).domainOn dom.val ∧
      ({ t with regs := s.regs, hid := s.hid, raises := s.raises } : State) = s) ∧
  (∀ (s : State) (dom : Fin 64), bit (s.reg O.pwrDomainOn) dom.val = false → dom.val ≤ 38 → s.hidden H.xcPend dom.val ≠ 1 → s.reg O.pllaState ≠ 0 →
    ∃ t, exec (.xcWakeRequest dom) s = .next t ∧
      t.hidden H.xcPend dom.val = 1 ∧
      t.hidden H.dwelling = 1 ∧
      Effect s t [] [O.pwrWakes.key 0 0] [hkey H.dwelling, hkey H.pwrNext, hkey H.pwrCause, hkey H.xcPend dom.val]) ∧
  (∀ (s : State) (dom : Fin 64), bit (s.reg O.pwrDomainOn) dom.val = false → dom.val ≤ 38 → s.hidden H.xcPend dom.val = 1 → bit (s.reg O.xcOverrun) dom.val = false → s.hidden H.rare 0x03B = 0 →
    ∃ t, exec (.xcWakeRequest dom) s = .next t ∧
      t.reg O.xcOverrun = setBit (s.reg O.xcOverrun) dom.val true ∧
      Effect s t [(0x03B, dom.val)] [O.xcOverrun.key 0 0] [hkey H.rare 0x03B])

/-- Fitting a retired unit back starts, passes, fails and is abandoned; the wear ledger takes its records. (R463, R464, R465, R466, R467, R468, R469, R470) It rests on the model's own choices of log entries 120, 160, 161, 162, 179, 194. -/
def Obligations.ServiceAndLedger : Prop :=
  (∀ (s : State) (m : Master) (v : Nat), Owner s m → v < 2 ^ 24 → bits v 7 0 ≠ 0 → fitUnit (bits v 7 0) (bits v 15 8) (bits v 23 16) = true → s.isRetired (bits v 7 0) (bits v 15 8) (bits v 23 16) = true → s.reg O.fitState ≠ 1 → s.fitBlocked (bits v 7 0) (bits v 15 8) (bits v 23 16) = false →
    ∃ t, exec (.fitCmd m v) s = .next t ∧
      t.out = replied s m ∧
      t.reg O.fitState = 1 ∧
      t.reg O.fitTarget = fitLayout (bits v 7 0) (bits v 15 8) (bits v 23 16) ∧
      t.reg O.fitProgress = 0 ∧
      t.raises.any (fun r => r.event == 0x7F0 && r.data == (fitLayout (bits v 7 0) (bits v 15 8) (bits v 23 16))) = true ∧
      ({ t with out := s.out, regs := s.regs, hid := s.hid, raises := s.raises, shadows := s.shadows } : State) = s) ∧
  (∀ (s : State) (m : Master) (u : Nat × Nat × Nat), Owner s m → s.fitting = some u →
    ∃ t, exec (.fitAbandon m) s = .next t ∧
      t.out = replied s m ∧
      t.reg O.fitState = 3 ∧
      t.ledgerDue = s.ledgerDue ++ [{ type := 3, pool := u.1, group := u.2.1, unit := u.2.2, t96 := s.now, data := 3 }] ∧
      ({ t with out := s.out, regs := s.regs, hid := s.hid, raises := s.raises, shadows := s.shadows, ledgerDue := s.ledgerDue } : State) = s) ∧
  (∀ (s : State) (r : FitResult) (pool group unit : Nat), s.fitting = some (pool, group, unit) → s.fitPasses pool r = some true →
    ∃ t, exec (.fitEnd r) s = .next t ∧
      t.ledgerDue.getLast? = some { type := 2, pool := pool, group := group, unit := unit, t96 := t.now }) ∧
  (∀ (s : State) (e lane : Nat), s.fitting = some (2, e, lane) →
    ∃ t, exec (.fitEnd (.test true)) s = .next t ∧
      t.reg O.fitState = 2 ∧
      t.reg O.fitProgress = 1000 ∧
      t.isRetired 2 e lane = false ∧
      t.reg O.teSpareLane e = lane ∧
      t.reg O.poolSpares 0 1 = (s.reg O.poolSpares 0 1 + 1) % 2 ^ O.poolSpares.width ∧
      t.ledgerDue = s.ledgerDue ++ [{ type := 2, pool := 2, group := e, unit := lane, t96 := s.now }] ∧
      ({ t with regs := s.regs, hid := s.hid, engs := s.engs, ledgerDue := s.ledgerDue } : State) = s) ∧
  (∀ (s : State) (r : FitResult) (pool group unit : Nat), s.fitting = some (pool, group, unit) → s.fitPasses pool r = some false → pool ≠ 1 ∧ pool ≠ 4 ∨ s.hidden H.fitAgain ≠ 0 →
    ∃ t, exec (.fitEnd r) s = .next t ∧
      t.reg O.fitState = 3 ∧
      t.ledgerDue = s.ledgerDue ++ [{ type := 3, pool := pool, group := group, unit := unit, t96 := s.now, data := fitReason pool r }] ∧
      ({ t with regs := s.regs, raises := s.raises, shadows := s.shadows, ledgerDue := s.ledgerDue } : State) = s) ∧
  (∀ (s : State) (r : FitResult) (pool group unit : Nat), s.fitting = some (pool, group, unit) → s.fitPasses pool r = some false → pool = 1 ∨ pool = 4 → s.hidden H.fitAgain = 0 →
    ∃ t, exec (.fitEnd r) s = .next t ∧
      t.hidden H.fitAgain = 1 ∧
      t.fitting = s.fitting ∧
      Effect s t [] [] [hkey H.fitAgain, hkey H.fitIdx]) ∧
  (∀ (s : State),
    ∃ t, exec (.ledgerHours) s = .next t ∧
      t.reg O.hoursPowered = satAdd O.hoursPowered.width (s.reg O.hoursPowered) 1 ∧
      t.ledgerDue = s.ledgerDue ++ [{ type := 4, t96 := s.now, data := t.hoursData }] ∧
      Effect s { t with ledgerDue := s.ledgerDue } [] [O.hoursPowered.key 0 0] []) ∧
  (∀ (s : State) (r : LedgerRec) (l : List LedgerRec), s.ledgerDue = r :: l → s.half.recs.length < ledgerRoom →
    ∃ t, exec (.ledgerRecordWrite true) s = .next t ∧
      t.ledgerDue = l ∧
      t.half.recs = s.half.recs ++ [{ r with seq := s.flash.seq }] ∧
      t.half.gen = s.half.gen ∧
      t.flash.seq = (s.flash.seq + 1) % 2 ^ 32 ∧
      ({ t with regs := s.regs, hid := s.hid, raises := s.raises, ledgerDue := s.ledgerDue, flash := s.flash } : State) = s) ∧
  (∀ (s : State) (r : LedgerRec) (l : List LedgerRec), s.ledgerDue = r :: l → s.half.recs.length < ledgerRoom →
    ∃ t, exec (.ledgerRecordWrite false) s = .next t ∧
      t.half.recs = s.half.recs ++ [{ type := 255, data := Config.freeValue (s.hidden H.free) }] ∧
      t.reg O.ledgerBad = satAdd O.ledgerBad.width (s.reg O.ledgerBad) 1 ∧
      Effect s { t with flash := s.flash } [(0x7FB, 2)] [O.ledgerGen.key 0 0, O.ledgerFree.key 0 0, O.ledgerBad.key 0 0] [hkey H.free]) ∧
  (∀ (s : State), s.half.recs.length = ledgerRoom → s.dictReady = true →
    ∃ t, exec (.ledgerCompact) s = .next t ∧
      t.flash.active = 1 - s.flash.active ∧
      t.half.gen = s.half.gen + 1 ∧
      t.half.recs.length = s.compacted.length ∧
      t.ledgerDue = s.ledgerDue ∧
      Effect s { t with flash := s.flash } [(0x7F4, s.half.gen + 1)] [O.ledgerGen.key 0 0, O.ledgerFree.key 0 0] [])

/-- The parameter store and the calibration store are written slot by slot and committed. (R38, R473, R475) It rests on the model's own choices of log entries 163, 194. -/
def Obligations.FlashStores : Prop :=
  (∀ (s : State) (m : Master) , Owner s m → s.hidden H.paramRun = 0 → 64 + s.paramLen + 8 ≤ 4194304 →
    ∃ t, exec (.paramStoreSave m) s = .next t ∧
      t.out = replied s m ∧
      t.hidden H.paramRun = (nextSlot s.flash.param).1.val + 1 ∧
      (t.flash.param.get (nextSlot s.flash.param).1).state = 2 ∧
      (t.flash.param.get (nextSlot s.flash.param).1).gen = (nextSlot s.flash.param).2 ∧
      t.thenDoes (.paramStoreDone true) (fun u => ((u.flash.param.get (nextSlot s.flash.param).1).state, u.reg O.paramStoreGen)) = some (1, (nextSlot s.flash.param).2) ∧
      Effect s { t with out := s.out, flash := s.flash } [] [] [hkey H.paramRun]) ∧
  (∀ (s : State) (m : Master) , Owner s m → s.hidden H.paramRun = 0 →
    ∃ t, exec (.paramStoreErase m) s = .next t ∧
      t.out = replied s m ∧
      t.flash = { s.flash with param := Vector.replicate 2 {} } ∧
      t.reg O.paramStoreGen = 0 ∧
      Effect s { t with out := s.out, flash := s.flash } [] [O.paramStoreGen.key 0 0] []) ∧
  (∀ (s : State) (i : Fin 2), s.hidden H.paramRun = i.val + 1 →
    ∃ t, exec (.paramStoreDone true) s = .next t ∧
      t.flash = { s.flash with param := storeCommit s.flash.param i } ∧
      t.reg O.paramStoreGen = (s.flash.param.get i).gen ∧
      t.hidden H.paramRun = 0 ∧
      Effect s { t with flash := s.flash } [(0x018, (s.flash.param.get i).gen)] [O.paramStoreGen.key 0 0] [hkey H.paramRun]) ∧
  (∀ (s : State) (i : Fin 2), s.hidden H.paramRun = i.val + 1 →
    ∃ t, exec (.storeWriteDone 1 true) s = .next t ∧
      t.flash = { s.flash with param := storeCommit s.flash.param i } ∧
      t.reg O.paramStoreGen = (s.flash.param.get i).gen ∧
      t.hidden H.paramRun = 0 ∧
      Effect s { t with flash := s.flash } [(0x018, (s.flash.param.get i).gen)] [O.paramStoreGen.key 0 0] [hkey H.paramRun]) ∧
  (∀ (s : State), s.hidden H.paramRun ≠ 0 →
    ∃ t, exec (.paramStoreDone false) s = .next t ∧
      t.hidden H.paramRun = 0 ∧
      Effect s t [(0x7FB, 3)] [] [hkey H.paramRun]) ∧
  (∀ (s : State) (i : Fin 2), s.reg O.calStoreState = 1 → s.hidden H.calSlot = i.val → s.hidden H.calAgain = 0 →
    ∃ t, exec (.storeWriteDone 0 true) s = .next t ∧
      t.flash = { s.flash with cal := storeCommit s.flash.cal i } ∧
      t.reg O.calStoreGen = (s.flash.cal.get i).gen ∧
      t.reg O.calStoreT96 = s.now ∧
      t.reg O.calStoreState = 0 ∧
      Effect s { t with flash := s.flash } [(0x7F6, (s.flash.cal.get i).gen)] [O.calStoreGen.key 0 0, O.calStoreT96.key 0 0, O.calStoreState.key 0 0] [hkey H.calWritten]) ∧
  (∀ (s : State) (m : Master) , Owner s m → s.reg O.calStoreState ≠ 1 →
    ∃ t, exec (.calStoreCmd m 1) s = .next t ∧
      t.out = replied s m ∧
      t.reg O.calStoreState = 1 ∧
      t.hidden H.calSlot = (nextSlot s.flash.cal).1.val ∧
      (t.flash.cal.get (nextSlot s.flash.cal).1).state = 2 ∧
      (t.flash.cal.get (nextSlot s.flash.cal).1).gen = (nextSlot s.flash.cal).2 ∧
      t.thenDoes (.storeWriteDone 0 true) (fun u => ((u.flash.cal.get (nextSlot s.flash.cal).1).state, u.reg O.calStoreGen)) = some (1, (nextSlot s.flash.cal).2) ∧
      Effect s { t with out := s.out, flash := s.flash } [] [O.calStoreState.key 0 0] [hkey H.calSlot, hkey H.calStale, hkey H.calAgain]) ∧
  (∀ (s : State), s.dictReady = true → s.hidden H.calStale = 1 → s.reg O.calStoreState ≠ 1 → s.calHour = true →
    ∃ t, exec (.calStoreStaleWrite) s = .next t ∧
      t.reg O.calStoreState = 1 ∧
      t.hidden H.calSlot = (nextSlot s.flash.cal).1.val ∧
      (t.flash.cal.get (nextSlot s.flash.cal).1).state = 2 ∧
      (t.flash.cal.get (nextSlot s.flash.cal).1).gen = (nextSlot s.flash.cal).2 ∧
      t.thenDoes (.storeWriteDone 0 true) (fun u => ((u.flash.cal.get (nextSlot s.flash.cal).1).state, u.reg O.calStoreGen)) = some (1, (nextSlot s.flash.cal).2) ∧
      Effect s { t with flash := s.flash } [] [O.calStoreState.key 0 0] [hkey H.calSlot, hkey H.calStale, hkey H.calAgain])

/-- A sampling channel delivers its blocks, one after another. (R83, R84, R86, R94, R16) It rests on the model's own choices of log entries 2, 50, 119, 139. -/
def Obligations.ConverterBlocks : Prop :=
  (∀ (s : State) (ch : Fin 4) (l : List Int), s.sampling ch.val = true → (s.cv ch.val).now &&& BF.gap = 0 → (s.cv ch.val).now &&& BF.tstep = 0 → (s.cv ch.val).leaving = false →
    ∃ t, exec (.sampleBlock ch l) s = .next t ∧
      t.cv ch.val = { s.cv ch.val with next := (s.cv ch.val).next + 65536, blocks := Map.ins ((s.cv ch.val).next / 65536) (s.blockFlags ch.val ((l.map roundSample).any (·.2)) + 65536 * s.reg O.calSeq ch.val) (Map.del (s.cv ch.val).blocks ((s.cv ch.val).next / 65536)), marks := Map.del (s.cv ch.val).marks ((s.cv ch.val).next / 65536), scIn := 31, scOut := 31, slot := 0, parity := false, sent := (s.cv ch.val).gen, gen := s.reg O.planGen, fmt := s.plan O.cvFormat ch.val } ∧
      t.idx = s.idx ∧
      t.tc = s.tc ∧
      t.active = s.active) ∧
  (∀ (s : State) (ch : Fin 4) (l : List Int), s.sampling ch.val = true → (s.cv ch.val).now &&& BF.gap = 0 → (s.cv ch.val).now &&& BF.tstep = 0 → (s.cv ch.val).leaving = false → s.streamsFree 1 ch.val = true →
    ∃ t, exec (.sampleBlock ch l) s = .next t ∧
      t.cv ch.val = { s.cv ch.val with next := (s.cv ch.val).next + 65536, blocks := Map.ins ((s.cv ch.val).next / 65536) (s.blockFlags ch.val ((l.map roundSample).any (·.2)) + 65536 * s.reg O.calSeq ch.val) (Map.del (s.cv ch.val).blocks ((s.cv ch.val).next / 65536)), marks := Map.del (s.cv ch.val).marks ((s.cv ch.val).next / 65536), scIn := 31, scOut := 31, slot := 0, parity := false, sent := (s.cv ch.val).gen, gen := s.reg O.planGen, fmt := s.plan O.cvFormat ch.val } ∧
      t.out = .record 0 (leBytes (s.blockHeader ch.val (s.blockFlags ch.val ((l.map roundSample).any (·.2)))) 32) :: s.out ∧
      t.reg O.ovrBlocks ch.val = (if (l.map roundSample).any (·.2) then satAdd O.ovrBlocks.width (s.reg O.ovrBlocks ch.val) 1 else s.reg O.ovrBlocks ch.val) ∧
      ({ t with conv := s.conv, out := s.out, regs := s.regs, hid := s.hid, raises := s.raises } : State) = s) ∧
  (∀ (s : State) (ch : Fin 4), s.sampling ch.val = true → s.faultRaw (0x20 + ch.val) = false →
    ∃ t, exec (.sampleBusParityFail ch) s = .next t ∧
      t.cv ch.val = { s.cv ch.val with parity := true } ∧
      t.hidden H.held (0x20 + ch.val) = 1 ∧
      t.hidden H.driveData (0x20 + ch.val) = (s.cv ch.val).next ∧
      Effect s { t with conv := s.conv } [] [] [hkey H.held (0x20 + ch.val), hkey H.driveData (0x20 + ch.val)]) ∧
  (∀ (s : State) (ch : Fin 4), s.sampling ch.val = true → s.faultRaw (0x20 + ch.val) = true →
    ∃ t, exec (.sampleBusParityFail ch) s = .next t ∧
      t.cv ch.val = { s.cv ch.val with parity := true } ∧
      t.reg O.frCount 0 (0x20 + ch.val) = satAdd O.frCount.width (s.reg O.frCount 0 (0x20 + ch.val)) 1 ∧
      Effect s { t with conv := s.conv } [] [O.frCount.key 0 (0x20 + ch.val)] []) ∧
  (∀ (s : State) (ch : Fin 8), s.reg O.ticState ch.val = 1 → s.faultRaw (0x40 + ch.val / 4) = false →
    ∃ t, exec (.tagBusParityFail ch) s = .next t ∧
      t.chan ch.val = { s.chan ch.val with marks := (s.chan ch.val).marks ||| TG.queueOvf } ∧
      t.hidden H.held (0x40 + ch.val / 4) = 1 ∧
      Effect s { t with chans := s.chans } [] [] [hkey H.held (0x40 + ch.val / 4), hkey H.driveData (0x40 + ch.val / 4)])

/-- A rotation falls due, starts, ends its runs and steps, and a failing sub-converter is swapped out. (R89, R90, R91, R92, R93, R97, R98, R100) It rests on the model's own choices of log entries 2, 3, 170. -/
def Obligations.BackgroundCalibration : Prop :=
  (∀ (s : State) (ch : Fin 4), s.sampling ch.val = true → s.plan O.calMode ch.val ≠ 0 → (s.idle ch.val).isSome = true → s.calFar ch.val = true → (s.cv ch.val).run = 0 → (s.cv ch.val).due = 0 →
    ∃ t, exec (.calEvaluate ch) s = .next t ∧
      t.cv ch.val = { (s.cv ch.val) with due := 1 } ∧
      t.thenDoes (.calRotStart ch) (fun u => ((u.cv ch.val).run, (u.cv ch.val).due)) = some (1, 0) ∧
      ({ t with conv := s.conv } : State) = s) ∧
  (∀ (s : State) (m : Master) (ch : Fin 4), Owner s m → s.sampling ch.val = true → s.plan O.calMode ch.val ≠ 0 → (s.idle ch.val).isSome = true → (s.cv ch.val).run = 0 → (s.cv ch.val).due = 0 → bit (s.reg O.pwrDomainOn) (1 + ch.val) = true →
    ∃ t, exec (.calCmd m ch 1) s = .next t ∧
      t.out = replied s m ∧
      t.cv ch.val = { (s.cv ch.val) with due := 3 } ∧
      t.thenDoes (.calRotStart ch) (fun u => ((u.cv ch.val).run, (u.cv ch.val).due)) = some (1, 0) ∧
      ({ t with out := s.out, conv := s.conv } : State) = s) ∧
  (∀ (s : State) (ch : Fin 4) (i : Nat), s.sampling ch.val = true → s.plan O.calMode ch.val ≠ 0 → s.idle ch.val = some i → (s.cv ch.val).run = 0 → (s.cv ch.val).due ≠ 0 →
    ∃ t, exec (.calRotStart ch) s = .next t ∧
      t.cv ch.val = { (s.cv ch.val) with run := 1, overlap := false, again := false, due := 0, tStart := s.reg O.dieTemp ch.val } ∧
      t.reg O.scState ch.val i = 2 ∧
      t.reg O.calState ch.val = 1 ∧
      Effect s { t with conv := s.conv } [(cvEvent ch.val 0, (s.cv ch.val).due)] [O.scState.key ch.val i, O.calState.key ch.val 0] []) ∧
  (∀ (s : State) (ch : Fin 4) (c : CalMeas) (i : Nat), s.idle ch.val = some i → (s.cv ch.val).run ≠ 0 → (s.cv ch.val).run < 17 → (s.cv ch.val).overlap = false → calReason c = 0 →
    ∃ t, exec (.calRunEnd ch c) s = .next t ∧
      t.cv ch.val = { (s.cv ch.val) with overlap := true, age := Map.put (s.cv ch.val).age 0 i ((s.cv ch.val).ageLast + 1), ageLast := (s.cv ch.val).ageLast + 1 } ∧
      t.hidden H.scOffset (17 * ch.val + i) = ofI 64 c.offset ∧
      t.hidden H.scGain (17 * ch.val + i) = ofI 64 c.gain ∧
      t.hidden H.scSkew (17 * ch.val + i) = ofI 64 c.skew ∧
      t.hidden H.scBandwidth (17 * ch.val + i) = ofI 64 c.bandwidth ∧
      Effect s { t with conv := s.conv } [] [] [hkey H.scOffset (17 * ch.val + i), hkey H.scGain (17 * ch.val + i), hkey H.scSkew (17 * ch.val + i), hkey H.scBandwidth (17 * ch.val + i)]) ∧
  (∀ (s : State) (ch : Fin 4) (c : CalMeas) (i : Nat), s.idle ch.val = some i → (s.cv ch.val).run = 17 → (s.cv ch.val).overlap = false → calReason c = 0 → ratAbs (f32 (s.reg O.dieTemp ch.val) - f32 (s.cv ch.val).tStart) ≤ f32 (s.plan O.calDt ch.val) →
    ∃ t, exec (.calRunEnd ch c) s = .next t ∧
      (t.cv ch.val).run = 0 ∧
      t.reg O.scState ch.val i = 1 ∧
      t.reg O.calTref ch.val = s.reg O.dieTemp ch.val ∧
      t.reg O.calLastT96 ch.val = s.now ∧
      t.hidden H.calStale = 1 ∧
      Effect s { t with conv := s.conv } [(cvEvent ch.val 2, s.reg O.dieTemp ch.val)] [O.scState.key ch.val i, O.calTref.key ch.val 0, O.calLastT96.key ch.val 0, O.calState.key ch.val 0] [hkey H.scOffset (17 * ch.val + i), hkey H.scGain (17 * ch.val + i), hkey H.scSkew (17 * ch.val + i), hkey H.scBandwidth (17 * ch.val + i), hkey H.calStale]) ∧
  (∀ (s : State) (ch : Fin 4) (c : CalMeas), (s.idle ch.val).isSome = true → (s.cv ch.val).run ≠ 0 → (s.cv ch.val).overlap = false → calReason c ≠ 0 → (s.cv ch.val).again = false →
    ∃ t, exec (.calRunEnd ch c) s = .next t ∧
      t.cv ch.val = { (s.cv ch.val) with again := true, overlap := false } ∧
      ({ t with conv := s.conv } : State) = s) ∧
  (∀ (s : State) (ch : Fin 4) (d g i : Nat), s.idle ch.val = some i → i < 17 → s.reg O.slotSc ch.val (s.oldestSlot ch.val) < 17 → i ≠ s.reg O.slotSc ch.val (s.oldestSlot ch.val) → (s.cv ch.val).run ≠ 0 → (s.cv ch.val).overlap = true → 100 * d ≤ 800 * 65536 + g →
    ∃ t, exec (.calOverlapEnd ch d g) s = .next t ∧
      t.cv ch.val = { (s.cv ch.val).mark ((s.cv ch.val).next / 65536) BF.cal with run := (s.cv ch.val).run + 1, overlap := false, again := false, scIn := i, scOut := s.reg O.slotSc ch.val (s.oldestSlot ch.val), slot := (s.oldestSlot ch.val) } ∧
      t.reg O.slotSc ch.val (s.oldestSlot ch.val) = i ∧
      t.reg O.scState ch.val i = 0 ∧
      t.reg O.scState ch.val (s.reg O.slotSc ch.val (s.oldestSlot ch.val)) = 2 ∧
      t.reg O.idleSc ch.val = s.reg O.slotSc ch.val (s.oldestSlot ch.val) ∧
      t.reg O.calSeq ch.val = (s.reg O.calSeq ch.val + 1) % 2 ^ O.calSeq.width ∧
      Effect s { t with conv := s.conv } [(cvEvent ch.val 1, (s.reg O.calSeq ch.val + 1) % 2 ^ O.calSeq.width + 2 ^ 16 * (s.oldestSlot ch.val) + 2 ^ 20 * i + 2 ^ 25 * s.reg O.slotSc ch.val (s.oldestSlot ch.val))] [O.slotSc.key ch.val (s.oldestSlot ch.val), O.scState.key ch.val i, O.scState.key ch.val (s.reg O.slotSc ch.val (s.oldestSlot ch.val)), O.idleSc.key ch.val 0, O.calSeq.key ch.val 0] []) ∧
  (∀ (s : State) (ch : Fin 4) (sc : Fin 17), s.reg O.scState ch.val sc.val = 0 → (s.idle ch.val).isSome = true → (s.cv ch.val).failed = none → (s.cv ch.val).more = [] →
    ∃ t, exec (.scHardFailure ch sc) s = .next t ∧
      t.cv ch.val = { (s.cv ch.val) with failed := some sc.val, suspectFrom := if s.idx ≤ (s.cv ch.val).next then (s.cv ch.val).next else (s.cv ch.val).next + 65536 } ∧
      ({ t with conv := s.conv } : State) = s) ∧
  (∀ (s : State) (ch : Fin 4) (sc : Fin 17), s.reg O.scState ch.val sc.val = 0 → s.idle ch.val = none → (s.cv ch.val).failed = none → (s.cv ch.val).more = [] →
    ∃ t, exec (.scHardFailure ch sc) s = .next t ∧
      (t.cv ch.val).failed = some sc.val ∧
      t.hidden H.drive (0x20 + ch.val) = 1 ∧
      t.hidden H.driveData (0x20 + ch.val) = (s.cv ch.val).next ∧
      Effect s { t with conv := s.conv } [] [] [hkey H.drive (0x20 + ch.val), hkey H.driveData (0x20 + ch.val)]) ∧
  (∀ (s : State) (ch : Fin 4) (sc : Fin 17) (f : Nat), s.reg O.scState ch.val sc.val = 0 → (s.cv ch.val).failed = some f → f ≠ sc.val → (s.cv ch.val).more = [] →
    ∃ t, exec (.scHardFailure ch sc) s = .next t ∧
      t.cv ch.val = { (s.cv ch.val) with more := [sc.val] } ∧
      t.hidden H.drive (0x20 + ch.val) = 1 ∧
      Effect s { t with conv := s.conv } [] [] [hkey H.drive (0x20 + ch.val), hkey H.driveData (0x20 + ch.val)]) ∧
  (∀ (s : State) (ch : Fin 4) (f i slot : Nat), (s.cv ch.val).failed = some f → (s.cv ch.val).more = [] → s.idle ch.val = some i → i < 17 → f < 17 → i ≠ f → slot < 16 → (List.range 16).find? (fun k => s.reg O.slotSc ch.val k == f) = some slot → s.plan O.calMode ch.val ≠ 1 →
    ∃ t, exec (.scForcedSwap ch) s = .next t ∧
      (t.cv ch.val).failed = none ∧
      t.reg O.slotSc ch.val slot = i ∧
      t.reg O.scState ch.val i = 0 ∧
      t.reg O.scState ch.val f = 3 ∧
      t.reg O.idleSc ch.val = 0xFF ∧
      t.reg O.sparePresent ch.val = 0 ∧
      t.isRetired 1 ch.val f = true ∧
      t.hidden H.drive (0x20 + ch.val) = 0 ∧
      t.ledgerDue = s.ledgerDue ++ [{ type := 1, pool := 1, group := ch.val, unit := f, t96 := s.now, data := 7 + 256 }] ∧
      ({ t with conv := s.conv, regs := s.regs, hid := s.hid, raises := s.raises, ledgerDue := s.ledgerDue } : State) = s)

/-- Slices take group resets, retunes, gains, coefficients and samples. (R35, R66, R112, R114, R115, R118, R119, R121) It rests on the model's own choices of log entries 2, 63, 71, 72, 171. -/
def Obligations.SlicesAndGroups : Prop :=
  (∀ (s : State) (m : Master) , Owner s m → s.timedDue = none → s.hidden H.safeDue = 0 → s.commitDue = false → s.syncMembers ≠ [] → s.syncMembers.all (fun m => bit (s.reg O.pwrDomainOn) (6 + m / 8)) = true →
    ∃ t, exec (.syncCmd m 1) s = .next t ∧
      t.out = replied s m ∧
      t.hidden H.syncDue = s.hidden H.syncDue ||| 2 ∧
      t.thenDoes .groupReset (fun u => (u.reg O.groupSyncSeq, u.reg O.groupLastCause)) = some ((s.reg O.groupSyncSeq + 1) % 2 ^ O.groupSyncSeq.width, s.hidden H.syncDue ||| 2) ∧
      Effect s { t with out := s.out } [] [] [hkey H.syncDue]) ∧
  (∀ (s : State), s.timedDue = none → s.hidden H.safeDue = 0 → s.commitDue = false → s.plan O.syncPinEn = 1 →
    ∃ t, exec (.ddcSyncFall) s = .next t ∧
      t.hidden H.syncDue = s.hidden H.syncDue ||| 1 ∧
      t.thenDoes .groupReset (fun u => (u.reg O.groupSyncSeq, u.reg O.groupLastCause)) = some ((s.reg O.groupSyncSeq + 1) % 2 ^ O.groupSyncSeq.width, s.hidden H.syncDue ||| 1) ∧
      Effect s t [] [] [hkey H.syncDue]) ∧
  (∀ (s : State), s.timedDue = none → s.hidden H.safeDue = 0 → s.commitDue = false → s.hidden H.syncDue ≠ 0 →
    ∃ t, exec (.groupReset) s = .next t ∧
      t.hidden H.syncDue = 0 ∧
      t.reg O.groupSyncSeq = (s.reg O.groupSyncSeq + 1) % 2 ^ O.groupSyncSeq.width ∧
      t.reg O.groupLastT96 = s.now ∧
      t.reg O.groupLastCause = s.hidden H.syncDue ∧
      s.syncMembers.all (fun m => t.reg O.syncSeq m == (s.reg O.syncSeq m + 1) % 2 ^ O.syncSeq.width && t.reg O.lastSyncIndex m == s.idx) = true ∧
      (s.syncMembers.filter (fun m => s.reg O.ddcState m != 0)).all (fun m => (t.slice m).nSync == s.idx && (t.slice m).q == 0 && t.reg O.ddcState m == 1 && (t.slice m).tunes == [⟨s.idx, s.plan O.ncoPhase m * 2 ^ 32, s.plan O.ncoFtw m % 2 ^ 48⟩]) = true) ∧
  (∀ (s : State), s.timedDue = none → s.hidden H.safeDue = 0 → s.commitDue = false → s.hidden H.syncDue ≠ 0 → ((∀ m ∈ s.syncMembers, s.reg O.ddcState m = 0)) →
    ∃ t, exec (.groupReset) s = .next t ∧
      t.hidden H.syncDue = 0 ∧
      ({ t with regs := s.regs, hid := s.hid, raises := s.raises } : State) = s) ∧
  (∀ (s : State) (m : Master) (sl : Fin 32) (v : Nat), Owner s m → v < 2 ^ 64 → O.ncoFtw.checks (v &&& O.ncoFtw.mask) = true → s.plans.filterMap (s.liveBreaks O.ncoFtw sl.val 0 (v &&& O.ncoFtw.mask)) = [] →
    ∃ t, exec (.ncoFtwWrite m sl v) s = .next t ∧
      t.out = replied s m ∧
      t.active = putVal O.ncoFtw sl.val 0 (v &&& O.ncoFtw.mask) s.active ∧
      t.staged = putVal O.ncoFtw sl.val 0 (v &&& O.ncoFtw.mask) s.staged ∧
      t.awaiting = s.awaiting.map (putVal O.ncoFtw sl.val 0 (v &&& O.ncoFtw.mask)) ∧
      t.armed = s.armed.map (putVal O.ncoFtw sl.val 0 (v &&& O.ncoFtw.mask)) ∧
      t.slice sl.val = { s.slice sl.val with retune := true } ∧
      (s.reg O.ddcState sl.val ≠ 0 → t.thenDoes (.ncoRetune sl) (fun u => ((tuneAt u.idx (u.slice sl.val).tunes).word, u.reg O.retuneIndex sl.val)) = some (t.plan O.ncoFtw sl.val % 2 ^ 48, s.idx)) ∧
      ({ t with out := s.out, active := s.active, staged := s.staged, awaiting := s.awaiting, armed := s.armed, slices := s.slices } : State) = s) ∧
  (∀ (s : State) (m : Master) (sl : Fin 32) (v : Nat), Owner s m → v < 2 ^ O.gainFine.width → O.gainFine.checks (v &&& O.gainFine.mask) = true → s.plans.filterMap (s.liveBreaks O.gainFine sl.val 0 (v &&& O.gainFine.mask)) = [] →
    ∃ t, exec (.sliceGainWrite m sl true v) s = .next t ∧
      t.out = replied s m ∧
      t.active = putVal O.gainFine sl.val 0 (v &&& O.gainFine.mask) s.active ∧
      t.staged = putVal O.gainFine sl.val 0 (v &&& O.gainFine.mask) s.staged ∧
      t.awaiting = s.awaiting.map (putVal O.gainFine sl.val 0 (v &&& O.gainFine.mask)) ∧
      t.armed = s.armed.map (putVal O.gainFine sl.val 0 (v &&& O.gainFine.mask)) ∧
      t.slice sl.val = { s.slice sl.val with gain := true } ∧
      (s.reg O.ddcState sl.val ≠ 0 → t.thenDoes (.sliceGainApply sl) (fun u => (u.slice sl.val).gains.head?) = some (some ⟨s.idx, t.plan O.gainShift sl.val, t.plan O.gainFine sl.val⟩)) ∧
      ({ t with out := s.out, active := s.active, staged := s.staged, awaiting := s.awaiting, armed := s.armed, slices := s.slices } : State) = s) ∧
  (∀ (s : State) (m : Master) (sl : Fin 32) (v : Nat), Owner s m → v < 2 ^ O.gainShift.width → O.gainShift.checks (v &&& O.gainShift.mask) = true → s.plans.filterMap (s.liveBreaks O.gainShift sl.val 0 (v &&& O.gainShift.mask)) = [] →
    ∃ t, exec (.sliceGainWrite m sl false v) s = .next t ∧
      t.out = replied s m ∧
      t.active = putVal O.gainShift sl.val 0 (v &&& O.gainShift.mask) s.active ∧
      t.staged = putVal O.gainShift sl.val 0 (v &&& O.gainShift.mask) s.staged ∧
      t.awaiting = s.awaiting.map (putVal O.gainShift sl.val 0 (v &&& O.gainShift.mask)) ∧
      t.armed = s.armed.map (putVal O.gainShift sl.val 0 (v &&& O.gainShift.mask)) ∧
      t.slice sl.val = { s.slice sl.val with gain := true } ∧
      (s.reg O.ddcState sl.val ≠ 0 → t.thenDoes (.sliceGainApply sl) (fun u => (u.slice sl.val).gains.head?) = some (some ⟨s.idx, t.plan O.gainShift sl.val, t.plan O.gainFine sl.val⟩)) ∧
      ({ t with out := s.out, active := s.active, staged := s.staged, awaiting := s.awaiting, armed := s.armed, slices := s.slices } : State) = s) ∧
  (∀ (s : State) (sl : Fin 32), (s.slice sl.val).retune = true → s.reg O.ddcState sl.val ≠ 0 →
    ∃ t, exec (.ncoRetune sl) s = .next t ∧
      t.slice sl.val = { (s.slice sl.val) with tunes := ⟨s.idx, (tuneAt s.idx (s.slice sl.val).tunes).phaseAt s.idx, s.plan O.ncoFtw sl.val % 2 ^ 48⟩ :: (s.slice sl.val).tunes, nrs := (s.slice sl.val).nrs ++ [s.idx], retunes := s.idx :: (s.slice sl.val).retunes, retune := false } ∧
      t.reg O.retuneIndex sl.val = s.idx ∧
      Effect s { t with slices := s.slices } [(ddcEvent sl.val 2, s.idx)] [O.retuneIndex.key sl.val 0] []) ∧
  (∀ (s : State) (sl : Fin 32), (s.slice sl.val).gain = true → s.reg O.ddcState sl.val ≠ 0 →
    ∃ t, exec (.sliceGainApply sl) s = .next t ∧
      t.slice sl.val = { (s.slice sl.val) with gain := false, gains := ⟨s.idx, s.plan O.gainShift sl.val, s.plan O.gainFine sl.val⟩ :: (s.slice sl.val).gains, ngs := (s.slice sl.val).ngs ++ [s.idx], gainIdxs := s.idx :: (s.slice sl.val).gainIdxs } ∧
      ({ t with slices := s.slices } : State) = s) ∧
  (∀ (s : State) (sl : Fin 32) (c : Int), s.reg O.ddcState sl.val = 2 → (cascade (s.plan O.firTaps sl.val) (s.slice sl.val).stages (((s.slice sl.val).inAt : Int) - (s.slice sl.val).nSync) (mixOne c (ncoAt ((tuneAt (s.slice sl.val).inAt (s.slice sl.val).tunes).phaseAt (s.slice sl.val).inAt)))).2.isNone = true →
    ∃ t, exec (.sliceFrame sl [c]) s = .next t ∧
      t.slice sl.val = { (s.slice sl.val) with inAt := (s.slice sl.val).inAt + 1, stages := (cascade (s.plan O.firTaps sl.val) (s.slice sl.val).stages (((s.slice sl.val).inAt : Int) - (s.slice sl.val).nSync) (mixOne c (ncoAt ((tuneAt (s.slice sl.val).inAt (s.slice sl.val).tunes).phaseAt (s.slice sl.val).inAt)))).1 } ∧
      ({ t with slices := s.slices } : State) = s) ∧
  (∀ (s : State) (sl : Fin 32) (c : Int), s.reg O.ddcState sl.val = 2 → ((cascade (s.plan O.firTaps sl.val) (s.slice sl.val).stages (((s.slice sl.val).inAt : Int) - (s.slice sl.val).nSync) (mixOne c (ncoAt ((tuneAt (s.slice sl.val).inAt (s.slice sl.val).tunes).phaseAt (s.slice sl.val).inAt)))).2.map (fun y => decide (0 ≤ y.1))) = some true → (s.slice sl.val).part.length + 1 < 2 ^ s.plan O.frameExp sl.val →
    ∃ t, exec (.sliceFrame sl [c]) s = .next t ∧
      (t.slice sl.val).inAt = (s.slice sl.val).inAt + 1 ∧
      (t.slice sl.val).stages = (cascade (s.plan O.firTaps sl.val) (s.slice sl.val).stages (((s.slice sl.val).inAt : Int) - (s.slice sl.val).nSync) (mixOne c (ncoAt ((tuneAt (s.slice sl.val).inAt (s.slice sl.val).tunes).phaseAt (s.slice sl.val).inAt)))).1 ∧
      (t.slice sl.val).q = (s.slice sl.val).q + 1 ∧
      (t.slice sl.val).hist = (((cascade (s.plan O.firTaps sl.val) (s.slice sl.val).stages (((s.slice sl.val).inAt : Int) - (s.slice sl.val).nSync) (mixOne c (ncoAt ((tuneAt (s.slice sl.val).inAt (s.slice sl.val).tunes).phaseAt (s.slice sl.val).inAt)))).2.getD (0, 0, 0)).2 :: (s.slice sl.val).hist).take (s.plan O.firTaps sl.val) ∧
      (t.slice sl.val).part.length = (s.slice sl.val).part.length + 1 ∧
      (t.slice sl.val).nSync = (s.slice sl.val).nSync ∧
      (t.slice sl.val).outs.head? = some (firGain ((List.range (s.plan O.firTaps sl.val)).map (s.firCoef sl.val)) (s.plan O.outFormat sl.val) (toI 16 (gainAt (s.sliceIndex sl.val (s.slice sl.val).q) (s.slice sl.val).gains).shift) (gainAt (s.sliceIndex sl.val (s.slice sl.val).q) (s.slice sl.val).gains).fine (((cascade (s.plan O.firTaps sl.val) (s.slice sl.val).stages (((s.slice sl.val).inAt : Int) - (s.slice sl.val).nSync) (mixOne c (ncoAt ((tuneAt (s.slice sl.val).inAt (s.slice sl.val).tunes).phaseAt (s.slice sl.val).inAt)))).2.getD (0, 0, 0)).2 :: (s.slice sl.val).hist |>.take (s.plan O.firTaps sl.val))).1 ∧
      ({ t with slices := s.slices } : State) = s) ∧
  (∀ (s : State) (sl : Fin 32) (c : Int), s.reg O.ddcState sl.val = 2 → ((cascade (s.plan O.firTaps sl.val) (s.slice sl.val).stages (((s.slice sl.val).inAt : Int) - (s.slice sl.val).nSync) (mixOne c (ncoAt ((tuneAt (s.slice sl.val).inAt (s.slice sl.val).tunes).phaseAt (s.slice sl.val).inAt)))).2.map (fun y => decide (0 ≤ y.1))) = some true → (s.slice sl.val).part.length + 1 = 2 ^ s.plan O.frameExp sl.val → s.streamsFree 2 sl.val = true →
    ∃ t, exec (.sliceFrame sl [c]) s = .next t ∧
      (t.slice sl.val).part = [] ∧
      (t.slice sl.val).q = (s.slice sl.val).q + 1 ∧
      (t.slice sl.val).frames.length = (s.slice sl.val).frames.length + 1 ∧
      t.out.length = s.out.length + 1 ∧
      ({ t with slices := s.slices, regs := s.regs, hid := s.hid, raises := s.raises, out := s.out } : State) = s) ∧
  (∀ (s : State) (m : Master) (sl : Fin 32) (l : List Byte), Owner s m → l.length % 4 = 0 → l ≠ [] → l.length ≤ 384 → ((∀ c ∈ words32 l, -131072 ≤ c ∧ c ≤ 131071)) → s.anyPlan (fun p => planVal p O.ddcEnable sl.val == 1) = false →
    ∃ t, exec (.firCoefLoad m sl l) s = .next t ∧
      t.out = replied s m ∧
      t.dom O.firCoef sl.val = l ∧
      (∀ r i j d, r.key i j ≠ O.firCoef.key sl.val 0 → t.dom r i j d = s.dom r i j d) ∧
      t.xfers = (s.breakReads (O.firCoef.key sl.val 0)).xfers ∧
      ({ t with out := s.out, doms := s.doms, xfers := s.xfers } : State) = s)

/-- An engine completes spectra, replaces a failed lane and loads a window table. (R132, R137, R143, R148, R149) It rests on the model's own choices of log entries 2, 6, 73, 139, 172. -/
def Obligations.TransformEngines : Prop :=
  (∀ (s : State) (e : Fin 4) (src : Fin 32) (l : List Int) (x : List (Int × Int)), s.reg O.teState e.val = 1 → planTakes s.view e.val src.val = true → s.spanSamples e.val src.val l = some x → (s.eng e.val).leaving = false →
    ∃ t, exec (.spectrumRecord e src l) s = .next t ∧
      (t.engSrc e.val src.val).seq = ((s.engSrc e.val src.val).seq + 1) % 2 ^ 32 ∧
      (t.engSrc e.val src.val).next = (s.engSrc e.val src.val).next + s.teH e.val ∧
      (t.engSrc e.val src.val).restart = false ∧
      (t.engSrc e.val src.val).bins = s.scaledBins e.val src.val x ∧
      (t.eng e.val).suspect = false ∧
      (t.eng e.val).swapMark = false) ∧
  (∀ (s : State) (e : Fin 4) (lane : Fin 9), s.reg O.teState e.val = 1 → bit (s.reg O.teLaneMap e.val) lane.val = true → (s.eng e.val).failing = none → bit (s.eng e.val).retired lane.val = false → s.reg O.teSpareLane e.val ≠ 0xFF →
    ∃ t, exec (.laneCheckFail e lane) s = .next t ∧
      t.eng e.val = { (s.eng e.val) with suspect := true, retired := setBit (s.eng e.val).retired lane.val true, failing := some lane.val } ∧
      t.isRetired 2 e.val lane.val = true ∧
      t.ledgerDue = s.ledgerDue ++ [{ type := 1, pool := 2, group := e.val, unit := lane.val, t96 := s.now, data := 0 }] ∧
      t.reg O.poolRetired 0 1 = satAdd O.poolRetired.width (s.reg O.poolRetired 0 1) 1 ∧
      t.reg O.poolSpares 0 1 = s.reg O.poolSpares 0 1 - 1 ∧
      Effect s { t with engs := s.engs, ledgerDue := s.ledgerDue } [] [O.poolRetired.key 0 1, O.poolSpares.key 0 1, O.teCapacity.key e.val 0] [hkey H.retired (unitKey 2 e.val lane.val)]) ∧
  (∀ (s : State) (e : Fin 4) (l : Nat), (s.eng e.val).failing = some l → s.reg O.teSpareLane e.val ≠ 0xFF →
    ∃ t, exec (.laneSwap e) s = .next t ∧
      t.eng e.val = { (s.eng e.val) with failing := none, serving := setBit (s.eng e.val).serving l false, swapMark := true } ∧
      t.reg O.teLaneMap e.val = setBit (setBit (s.reg O.teLaneMap e.val) l false) (s.reg O.teSpareLane e.val) true ∧
      t.reg O.poolSpares 0 1 = (if bit (s.eng e.val).serving l then s.reg O.poolSpares 0 1 - 1 else s.reg O.poolSpares 0 1) ∧
      t.reg O.teSpareLane e.val = 0xFF ∧
      t.reg O.teLaneSwaps e.val = satAdd O.teLaneSwaps.width (s.reg O.teLaneSwaps e.val) 1 ∧
      Effect s { t with engs := s.engs } [(teEvent e.val 1, l + 16 * s.reg O.teSpareLane e.val)] [O.teLaneMap.key e.val 0, O.poolSpares.key 0 1, O.teSpareLane.key e.val 0, O.teLaneSwaps.key e.val 0] [hkey H.drive (0x28 + e.val)]) ∧
  (∀ (s : State) (m : Master) (e : Fin 4) (l : List Byte), Owner s m → l.length % 4 = 0 → l ≠ [] → l.length ≤ 524288 → ((∀ c ∈ words32 l, -131072 ≤ c ∧ c ≤ 131071)) → 0 < (words32 l).foldl (· + ·) 0 → s.anyPlan (fun p => planVal p O.teEnable e.val == 1) = false →
    ∃ t, exec (.windowTableLoad m e l) s = .next t ∧
      t.out = replied s m ∧
      t.dom O.teWindowTable e.val = l ∧
      t.reg O.teEnbw e.val = t.windowEnbw e.val ∧
      t.xfers = (s.breakReads (O.teWindowTable.key e.val 0)).xfers ∧
      ({ t with out := s.out, doms := s.doms, regs := s.regs, xfers := s.xfers } : State) = s)

/-- Trigger units judge their sources, contexts arm and write their segments. (R153, R154, R156, R157, R163, R164, R168, R171) It rests on the model's own choices of log entries 74, 75, 76, 77, 78, 188, 190. -/
def Obligations.TriggersAndSegments : Prop :=
  (∀ (s : State) (u : Fin 16) (o : TrigObs), s.plan O.tuEnable u.val = 1 → s.plan O.tuSrc u.val = 5 → s.reg O.tuState u.val = 0 → f64 (s.reg O.msResult (s.plan O.tuSel u.val % 16)) < f64 (s.plan O.tuWinLo u.val) ∨ f64 (s.plan O.tuWinHi u.val) < f64 (s.reg O.msResult (s.plan O.tuSel u.val % 16)) → s.plan O.tuLaceDrive u.val % 16 = 0 → (List.range 16).all (fun c => s.plan O.aqEnable c != 1) = true → (List.range 16).all (fun g => s.plan O.pgMode g == 0) = true →
    ∃ t, exec (.tuEvent u o) s = .next t ∧
      t.reg O.tuState u.val = 1 ∧
      t.reg O.tuFires u.val = satAdd O.tuFires.width (s.reg O.tuFires u.val) 1 ∧
      t.reg O.tuLastIndex u.val = s.indexAt (s.after 4 o.cycle.val) ∧
      t.reg O.tuLastT96 u.val = s.reg O.msResultT96 (s.plan O.tuSel u.val % 16) ∧
      t.trig u.val = { s.trig u.val with fresh := false, events := ⟨s.indexAt (s.after 4 o.cycle.val), s.reg O.msResultT96 (s.plan O.tuSel u.val % 16), 1, 0, 0⟩ :: (s.trig u.val).events, states := (s.indexAt (s.after 4 o.cycle.val), true) :: (s.trig u.val).states } ∧
      t.raises = told s s.raises (if (s.trig u.val).fresh then [(tuEvt u.val 0, s.indexAt (s.after 4 o.cycle.val))] else []) ∧
      ({ t with regs := s.regs, raises := s.raises, trigs := s.trigs } : State) = s) ∧
  (∀ (s : State) (u : Fin 16) (o : TrigObs), s.plan O.tuEnable u.val = 1 → s.plan O.tuSrc u.val = 9 → s.flagLine (s.plan O.tuSel u.val % 64) = false →
    ∃ t, exec (.tuEvent u o) s = .next t ∧
      t.reg O.tuState u.val = 0 ∧
      t.trig u.val = { s.trig u.val with states := (s.indexAt (s.after 4 o.cycle.val), false) :: (s.trig u.val).states } ∧
      Effect s { t with trigs := s.trigs } [] [O.tuState.key u.val 0] []) ∧
  (∀ (s : State) (pin : Fin 8) (level : Bool) (cyc : Fin 8), s.hidden H.trgin pin.val ≠ b2n level → (List.range 16).all (fun u => s.plan O.tuEnable u != 1) = true →
    ∃ t, exec (.trginEdge pin level cyc) s = .next t ∧
      t.hidden H.trgin pin.val = b2n level ∧
      Effect s t [] [] [hkey H.trgin pin.val]) ∧
  (∀ (s : State) (pin : Fin 8) (u : Fin 16) (cyc : Fin 8), s.hidden H.trgin pin.val ≠ 1 → s.plan O.tuEnable u.val = 1 → s.plan O.tuSrc u.val = 7 → s.plan O.tuSel u.val % 8 = pin.val → s.plan O.tuMode u.val = 0 → s.reg O.tuState u.val = 0 → s.plan O.tuLaceDrive u.val % 16 = 0 → (List.range 16).all (fun v => v == u.val || s.plan O.tuEnable v != 1) = true → (List.range 16).all (fun c => s.plan O.aqEnable c != 1) = true → (List.range 16).all (fun g => s.plan O.pgMode g == 0) = true →
    ∃ t, exec (.trginEdge pin true cyc) s = .next t ∧
      t.hidden H.trgin pin.val = 1 ∧
      t.reg O.tuState u.val = 1 ∧
      t.reg O.tuFires u.val = satAdd O.tuFires.width (s.reg O.tuFires u.val) 1 ∧
      t.reg O.tuLastIndex u.val = s.indexAt (s.after 4 cyc.val - (s.after 4 4 - s.after 4 0)) ∧
      t.reg O.tuLastT96 u.val = T96.ofTicks (s.after 4 cyc.val - (s.after 4 4 - s.after 4 0)) ∧
      t.raises = told s s.raises (if (s.trig u.val).fresh then [(tuEvt u.val 0, s.indexAt (s.after 4 cyc.val - (s.after 4 4 - s.after 4 0)))] else []) ∧
      ({ t with regs := s.regs, hid := s.hid, raises := s.raises, trigs := s.trigs } : State) = s) ∧
  (∀ (s : State) (u : Fin 16), s.plan O.tuSrc u.val = 8 →
    ∃ t, exec (.tuStretchExpire u) s = .next t ∧
      t.reg O.tuState u.val = 0 ∧
      Effect s t [] [O.tuState.key u.val 0] []) ∧
  (∀ (s : State) (c : Fin 16), s.reg O.aqState c.val = 2 →
    ∃ t, exec (.aqHistoryFull c) s = .next t ∧
      t.reg O.aqState c.val = 3 ∧
      t.ctx c.val = { s.ctx c.val with armedOnce := true } ∧
      Effect s { t with ctxs := s.ctxs } (if (s.ctx c.val).armedOnce then [] else [(aqEvt c.val 0, (s.ctx c.val).armIndex)]) [O.aqState.key c.val 0] []) ∧
  (∀ (s : State) (c : Fin 16) (l : List (Int × Int)) (g : Seg) (rest : List Seg), (s.ctx c.val).ended = g :: rest → l.length = g.count → g.cfg.fmt < 4 → s.streamsFree 4 c.val = true → s.streamsFree 5 c.val = true →
    ∃ t, exec (.segmentEnd c l) s = .next t ∧
      t.ctx c.val = { s.ctx c.val with ended := rest } ∧
      (∀ a, (a < g.cfg.ringBase + g.at_ ∨ g.cfg.ringBase + g.at_ + segBytes g.cfg g.level g.count ≤ a) → (a < g.cfg.facetBase + g.facetAt ∨ g.cfg.facetBase + g.facetAt + facetLen g.cfg g.level g.count ≤ a) → t.readByte a = s.readByte a) ∧
      ({ t with ctxs := s.ctxs, mem := s.mem, poison := s.poison, regs := s.regs } : State) = s) ∧
  (∀ (s : State) (c : Fin 16) (l : List (Int × Int)), (s.ctx c.val).ended = [] → s.reg O.aqState c.val = 4 → (s.ctx c.val).cut = false → (s.ctx c.val).skipping = false → l.length = (s.ctx c.val).cfg.pre + (s.ctx c.val).cfg.post → (s.ctx c.val).cfg.pre ≤ (s.ctx c.val).qt →
    ∃ t, exec (.segmentEnd c l) s = .next t ∧
      (t.ctx c.val).ended = [] ∧
      t.reg O.aqSegSeq c.val = (s.reg O.aqSegSeq c.val + 1) % 2 ^ O.aqSegSeq.width ∧
      t.reg O.aqWritePtr c.val = (if ringStart (s.reg O.aqWritePtr c.val) (segBytes (s.ctx c.val).cfg (s.ctx c.val).level l.length) (s.ctx c.val).cfg.ringSize + segBytes (s.ctx c.val).cfg (s.ctx c.val).level l.length = (s.ctx c.val).cfg.ringSize then 0 else ringStart (s.reg O.aqWritePtr c.val) (segBytes (s.ctx c.val).cfg (s.ctx c.val).level l.length) (s.ctx c.val).cfg.ringSize + segBytes (s.ctx c.val).cfg (s.ctx c.val).level l.length) ∧
      (t.ctx c.val).segs = (s.ctx c.val).segs + 1) ∧
  (∀ (s : State) (m : Master) (k : Fin 4) (l : List Byte), Owner s m → l.length % 4 = 0 → l ≠ [] → l.length ≤ 262144 → s.anyPlan (fun p => (List.range 16).any (fun u => planVal p O.tuEnable u == 1 && planVal p O.tuSrc u == 3 && planVal p O.tuMask u == k.val)) = false →
    ∃ t, exec (.maskTableLoad m k l) s = .next t ∧
      t.out = replied s m ∧
      t.dom O.tuMaskTable k.val = l ∧
      t.xfers = (s.breakReads (O.tuMaskTable.key k.val 0)).xfers ∧
      ({ t with out := s.out, doms := s.doms, xfers := s.xfers } : State) = s)

/-- The density table takes groups, decays and clears; snapshots, banks and spectrogram lines. (R178, R180, R182, R183, R184, R185, R188, R189, R190, R191) It rests on the model's own choices of log entries 30, 79, 80. -/
def Obligations.DensityAndSpectrograms : Prop :=
  (∀ (s : State) (p : Fin 2) (g : Group) (rest : List Group), s.density.snapDue = false → s.density.clearDue = false → p.val < s.dnPlanes → s.dnGroups p.val = g :: rest → g.full = true → g.mode = 0 →
    ∃ t, exec (.dnGroupWrite p) s = .next t ∧
      t.dnGroups p.val = rest ∧
      t.density = { s.density with written := s.density.written.set p.val ((s.density.written.get p + 1) % 2 ^ 32), flags := s.density.flags ||| g.flags, plotted := Map.put s.density.plotted [] p.val [⟨g.first, g.last, g.n, (dnPlaces 0 ((g.cols.map (dnRow g.top g.step)).map (·.1))).filter (fun q => decide (q.2 < s.dnW))⟩] } ∧
      (∀ x l, x < s.dnW → g.cols[x]? = some l → t.dnGet (dnKey p.val (dnRow g.top g.step l).1 x) = min 16777215 (s.dnGet (dnKey p.val (dnRow g.top g.step l).1 x) / 256 + g.n) * 256) ∧
      ({ t with groups := s.groups, density := s.density, table := s.table, regs := s.regs, hid := s.hid, raises := s.raises } : State) = s) ∧
  (∀ (s : State), s.density.snapDue = false → s.density.clearDue = false → s.reg O.dnState = 1 →
    ∃ t, exec (.dnDecayTick) s = .next t ∧
      t.density = { s.density with age := min 255 (s.density.age + 1) } ∧
      t.table = (s.table.map (fun e => (e.1, dnDecayed (s.plan O.dnDecay) (s.plan O.dnDecayAmount) (s.plan O.dnDecayShift) (s.plan O.dnPersist) e.2))).filter (fun e => e.2 != min 255 (s.density.age + 1)) ∧
      ({ t with density := s.density, table := s.table } : State) = s) ∧
  (∀ (s : State) (m : Master) , Owner s m → bit (s.reg O.pwrDomainOn) 30 = true →
    ∃ t, exec (.dnClearCmd m 1) s = .next t ∧
      t.out = replied s m ∧
      t.density = { s.density with clearDue := true } ∧
      t.thenDoes .dnClearApply (fun u => (u.table, u.density.clearDue, u.reg O.dnClearT96)) = some ([], false, s.now) ∧
      ({ t with out := s.out, density := s.density } : State) = s) ∧
  (∀ (s : State), s.density.clearDue = true → s.density.snapDue = false →
    ∃ t, exec (.dnClearApply) s = .next t ∧
      t.table = [] ∧
      t.density = { s.density with age := 0, clearDue := false, written := Vector.replicate 2 0 } ∧
      t.reg O.dnClearT96 = s.now ∧
      Effect s { t with table := s.table, density := s.density } [(0x403, 1)] [O.dnClearT96.key 0 0] []) ∧
  (∀ (s : State) (m : Master) , Owner s m → bit (s.reg O.pwrDomainOn) 30 = true → s.density.copying = none → s.dnSlots ≠ 0 →
    ∃ t, exec (.dnSnapCmd m 1) s = .next t ∧
      t.out = replied s m ∧
      t.density = { s.density with snapDue := true } ∧
      t.thenDoes .dnSnapTake (fun u => (u.density.frozen, u.density.copying, u.reg O.dnSnapSeq)) = some (s.table, some (s.plan O.dnSnapBase + s.density.slot % s.dnSlots * 8388672), (s.reg O.dnSnapSeq + 1) % 2 ^ O.dnSnapSeq.width) ∧
      ({ t with out := s.out, density := s.density } : State) = s) ∧
  (∀ (s : State), s.plan O.dnSnapPeriod ≠ 0 → s.dnSlots ≠ 0 → s.density.copying = none →
    ∃ t, exec (.dnSnapPeriodExpire) s = .next t ∧
      t.density = { s.density with snapDue := true } ∧
      t.thenDoes .dnSnapTake (fun u => (u.density.frozen, u.density.copying, u.reg O.dnSnapSeq)) = some (s.table, some (s.plan O.dnSnapBase + s.density.slot % s.dnSlots * 8388672), (s.reg O.dnSnapSeq + 1) % 2 ^ O.dnSnapSeq.width) ∧
      ({ t with density := s.density } : State) = s) ∧
  (∀ (s : State), s.plan O.dnSnapPeriod ≠ 0 → s.dnSlots ≠ 0 → s.density.copying ≠ none →
    ∃ t, exec (.dnSnapPeriodExpire) s = .next t ∧
      t.reg O.dnSnapSkipped = satAdd O.dnSnapSkipped.width (s.reg O.dnSnapSkipped) 1 ∧
      Effect s t [(0x402, satAdd O.dnSnapSkipped.width (s.reg O.dnSnapSkipped) 1)] [O.dnSnapSkipped.key 0 0] []) ∧
  (∀ (s : State), s.density.snapDue = true → s.density.copying = none → s.dnSlots ≠ 0 →
    ∃ t, exec (.dnSnapTake) s = .next t ∧
      t.reg O.dnSnapSeq = (s.reg O.dnSnapSeq + 1) % 2 ^ O.dnSnapSeq.width ∧
      t.reg O.dnSnapT96 = s.now ∧
      t.density.snapDue = false ∧
      t.density.copying = some (s.plan O.dnSnapBase + s.density.slot % s.dnSlots * 8388672) ∧
      t.density.frozen = s.table ∧
      t.density.frozenAge = s.density.age ∧
      t.density.slot = (s.density.slot % s.dnSlots + 1) % s.dnSlots ∧
      t.table = s.table ∧
      Effect s { t with density := s.density } [] [O.dnSnapSeq.key 0 0, O.dnSnapT96.key 0 0] []) ∧
  (∀ (s : State) (base : Nat), s.density.copying = some base → base % 64 = 0 → s.streamsFree 9 0 = true →
    ∃ t, exec (.dnSnapDone) s = .next t ∧
      t.density = { s.density with copying := none, frozen := [], frozenAge := 0 } ∧
      (∀ a, (a < base ∨ base + 8388672 ≤ a) → t.readByte a = s.readByte a) ∧
      Effect s { t with density := s.density, mem := s.mem, poison := s.poison } [(0x401, bits s.density.header 511 480)] [O.drPortBytes.key 11 0] []) ∧
  (∀ (s : State) (p : Fin 2) (row : Fin 1024) (col : Fin 2048), p.val < s.dnPlanes → col.val < s.dnW → (Map.get s.density.errs [] ((p.val * 1024 + col.val) % 64)).length < 15 →
    ∃ t, exec (.dnParityError p row col false) s = .next t ∧
      t.dnGet (dnKey p.val row.val col.val) = 0 ∧
      t.reg O.dnParityErr = satAdd O.dnParityErr.width (s.reg O.dnParityErr) 1 ∧
      ({ t.density with errs := s.density.errs } : Density) = s.density ∧
      Effect s { t with table := s.table, density := s.density } [] [O.dnParityErr.key 0 0] []) ∧
  (∀ (s : State) (b sp : Nat) (rest : List (Nat × Nat)), s.density.copies = (b, sp) :: rest →
    ∃ t, exec (.dnBankCopyDone) s = .next t ∧
      t.density.copies = rest ∧
      t.dnBank b = sp ∧
      t.density.swapped = true ∧
      Effect s { t with density := s.density } [(0x404, s.dnBank b + 256 * sp)] [] [hkey H.drive 0x2C]) ∧
  (∀ (s : State) (m : Master) (l : List Byte), Owner s m → l.length = 4096 →
    ∃ t, exec (.dnPaletteLoad m l) s = .next t ∧
      t.out = replied s m ∧
      t.dom O.dnPalette = paletteClean l ∧
      t.xfers = (s.breakReads (O.dnPalette.key 0 0)).xfers ∧
      ({ t with out := s.out, doms := s.doms, xfers := s.xfers } : State) = s) ∧
  (∀ (s : State) (g : Fin 2) (x : Line) (rest : List Line), s.sgLines g.val = x :: rest → x.full = true →
    ∃ t, exec (.sgLineWrite g) s = .next t ∧
      t.sgLines g.val = rest ∧
      t.reg O.sgWriteLine g.val = (s.reg O.sgWriteLine g.val + 1) % s.plan O.sgRingLines g.val ∧
      t.reg O.sgLineSeq g.val = (s.reg O.sgLineSeq g.val + 1) % 2 ^ O.sgLineSeq.width ∧
      (∀ a, (a < s.plan O.sgRingBase g.val + s.reg O.sgWriteLine g.val * (s.sgBytes g.val x).length ∨ s.plan O.sgRingBase g.val + s.reg O.sgWriteLine g.val * (s.sgBytes g.val x).length + (s.sgBytes g.val x).length ≤ a) → t.readByte a = s.readByte a) ∧
      Effect s { t with lines := s.lines, mem := s.mem, poison := s.poison } (if s.hidden H.sgWrote g.val = 0 then [(0x408 + g.val, x.first)] else []) [O.sgWriteLine.key g.val 0, O.sgLineSeq.key g.val 0, O.drPortBytes.key 4 0] [hkey H.sgWrote g.val])

/-- NOP, WAIT, BR, CALL, RET and REP move the core as the awl instruction set says. (R201, R222, R230, R231, R232, R234) It rests on the model's own choices of log entries 90, 92. -/
def Obligations.AwlControl : Prop :=
  (∀ (s : State) (p : Pos) , AtInstr s p (.nop p) (1) →
    ∃ t, exec (.nop p) s = .next t ∧
      Retires s t p (1) (((s.core p)).advance) ∧
      SrSets (s.core p).sr (t.core p).sr []) ∧
  (∀ (s : State) (p : Pos) , AtInstr s p (.wait p) (1) → (s.aw (posKey p)).restart = false → (s.aw (posKey p)).token = none → s.shadows = [] →
    ∃ t, exec (.wait p) s = .next t ∧
      t.reg O.awState (posKey p) = 1 ∧
      t.reg O.awFrames (posKey p) = (s.reg O.awFrames (posKey p) + 1) % 2 ^ O.awFrames.width ∧
      t.reg O.awCycMax (posKey p) = max (s.reg O.awCycMax (posKey p)) ((s.aw (posKey p)).cycles + 1) ∧
      (t.aw (posKey p)).running = false ∧
      (t.aw (posKey p)).afterWait = some (s.core p).advance.pc ∧
      (t.core p).regs = (s.core p).advance.regs ∧
      (∀ k, k ≠ posKey p → t.aw k = s.aw k) ∧
      Effect s { t with positions := s.positions } [] [O.awState.key (posKey p) 0, O.awFrames.key (posKey p) 0, O.awCycMax.key (posKey p) 0] []) ∧
  (∀ (s : State) (p : Pos) (cond : BitVec 4) (target : BitVec 12), AtInstr s p (.br p cond target) (3) → condHolds (s.core p).sr cond = true →
    ∃ t, exec (.br p cond target) s = .next t ∧
      (Retires s t p (3) ({ (s.core p) with pc := target, loops := (s.core p).loops.filter (fun l => decide (l.2.1.toNat ≤ target.toNat ∧ target.toNat ≤ l.2.2.toNat)) })) ∧
      SrSets (s.core p).sr (t.core p).sr []) ∧
  (∀ (s : State) (p : Pos) (cond : BitVec 4) (target : BitVec 12), AtInstr s p (.br p cond target) (1) → condHolds (s.core p).sr cond = false →
    ∃ t, exec (.br p cond target) s = .next t ∧
      Retires s t p (1) (((s.core p)).advance) ∧
      SrSets (s.core p).sr (t.core p).sr []) ∧
  (∀ (s : State) (p : Pos) (target : BitVec 12), AtInstr s p (.call p target) (3) →
    ∃ t, exec (.call p target) s = .next t ∧
      Retires s t p (3) ({ (s.core p) with stack := (((s.core p).pc + 1) :: (s.core p).stack).take 8, pc := target }) ∧
      SrSets (s.core p).sr (t.core p).sr [(SR.stk, srBit (s.core p).sr SR.stk || decide (8 ≤ (s.core p).stack.length))]) ∧
  (∀ (s : State) (p : Pos) (a : BitVec 12) (l : List (BitVec 12)), AtInstr s p (.ret p) (3) → (s.core p).stack = a :: l →
    ∃ t, exec (.ret p) s = .next t ∧
      Retires s t p (3) ({ (s.core p) with pc := a, stack := l }) ∧
      SrSets (s.core p).sr (t.core p).sr []) ∧
  (∀ (s : State) (p : Pos) , AtInstr s p (.ret p) (3) → (s.core p).stack = [] →
    ∃ t, exec (.ret p) s = .next t ∧
      Retires s t p (3) ({ (s.core p) with pc := (s.core p).pc + 1 }) ∧
      SrSets (s.core p).sr (t.core p).sr [(SR.stk, true)]) ∧
  (∀ (s : State) (p : Pos) (lv : Fin 3) (n : RepCount) (last : BitVec 12), AtInstr s p (.rep p lv n last) (1 + (s.core p).stallD (match n with | .reg r => 2 ^ r.val | .imm _ => 0)) →
    ∃ t, exec (.rep p lv n last) s = .next t ∧
      Retires s t p (1 + (s.core p).stallD (match n with | .reg r => 2 ^ r.val | .imm _ => 0)) (if ((s.core p).repCount n).toNat = 0 then { (s.core p) with loops := (s.core p).loops.filter (fun l => l.1 != lv), pc := last + 1 } else { (s.core p) with k := (s.core p).k.set lv ((s.core p).repCount n), loops := (lv, (s.core p).pc + 1, last) :: (s.core p).loops.filter (fun l => l.1 != lv), pc := (s.core p).pc + 1 }) ∧
      SrSets (s.core p).sr (t.core p).sr [])

/-- EVT, SETFLAG, CLRFLAG, EMIT and SPILL act on the device. (R204, R205, R206, R207, R216, R233) It rests on the model's own choices of log entries 90, 93, 98. -/
def Obligations.AwlDevice : Prop :=
  (∀ (s : State) (p : Pos) (v : Op2), AtInstr s p (.evt p v) (1) →
    ∃ t, exec (.evt p v) s = .next t ∧
      SrSets (s.core p).sr (t.core p).sr [] ∧
      Retires s { t with regs := s.regs, raises := s.raises } p 1 ((s.core p)).advance ∧
      Effect s { t with positions := s.positions } [(0x480 + 17 * p.bench.val + s.reg O.awPhys (posKey p), 1 + 256 * p.pos.val + 65536 * ((s.core p).op2 v).toNat)] [] []) ∧
  (∀ (s : State) (p : Pos) (ln : Fin 4), AtInstr s p (.setflag p ln) (1) →
    ∃ t, exec (.setflag p ln) s = .next t ∧
      SrSets (s.core p).sr (t.core p).sr [] ∧
      (t.aw (posKey p)).flags = setBit (s.aw (posKey p)).flags ln.val true ∧
      t.reg O.bnFlags p.bench.val = (List.range 16).foldl (fun a i => a ||| (t.aw (16 * p.bench.val + i)).flags) 0 ∧
      (t.core p).regs = (s.core p).advance.regs ∧
      (∀ k, k ≠ posKey p → t.aw k = s.aw k) ∧
      Effect s { t with positions := s.positions } [] [O.bnFlags.key p.bench.val 0] []) ∧
  (∀ (s : State) (p : Pos) (ln : Fin 4), AtInstr s p (.clrflag p ln) (1) →
    ∃ t, exec (.clrflag p ln) s = .next t ∧
      SrSets (s.core p).sr (t.core p).sr [] ∧
      (t.aw (posKey p)).flags = setBit (s.aw (posKey p)).flags ln.val false ∧
      t.reg O.bnFlags p.bench.val = (List.range 16).foldl (fun a i => a ||| (t.aw (16 * p.bench.val + i)).flags) 0 ∧
      (t.core p).regs = (s.core p).advance.regs ∧
      (∀ k, k ≠ posKey p → t.aw k = s.aw k) ∧
      Effect s { t with positions := s.positions } [] [O.bnFlags.key p.bench.val 0] []) ∧
  (∀ (s : State) (p : Pos) (jp dl : Fin 8) (tag : BitVec 16) (waits : Nat), AtInstr s p (.emit p jp dl tag waits) (2 + (((s.core p).d.get dl).toNat + 31) / 32 + s.surcharge p.bench.val waits (if awRegion ((s.core p).j.get jp).toNat = 2 then List.replicate ((((s.core p).d.get dl).toNat + 31) / 32) ((s.core p).j.get jp).toNat else []) + max ((s.core p).stallA (2 ^ jp.val)) ((s.core p).stallD (2 ^ dl.val))) → 1 ≤ ((s.core p).d.get dl).toNat → ((s.core p).d.get dl).toNat ≤ 4096 → payloadOk ((s.core p).j.get jp).toNat ((s.core p).d.get dl).toNat = true → (s.aw (posKey p)).recBytes + recordBytes ((s.core p).d.get dl).toNat ≤ (s.aw (posKey p)).recMax → recordBytes ((s.core p).d.get dl).toNat ≤ s.plan O.bnRecSize p.bench.val → s.streamsFree 8 p.bench.val = true →
    ∃ t, exec (.emit p jp dl tag waits) s = .next t ∧
      SrSets (s.core p).sr (t.core p).sr [] ∧
      t.reg O.bnRecWritePtr p.bench.val = (ringStart (s.reg O.bnRecWritePtr p.bench.val) (recordBytes ((s.core p).d.get dl).toNat) (s.plan O.bnRecSize p.bench.val) + recordBytes ((s.core p).d.get dl).toNat) % s.plan O.bnRecSize p.bench.val ∧
      (t.aw (posKey p)).recBytes = (s.aw (posKey p)).recBytes + recordBytes ((s.core p).d.get dl).toNat ∧
      (t.aw (posKey p)).recFlags = 0 ∧
      (t.core p).regs = (s.core p).advance.regs ∧
      t.bench = s.bench ∧
      (∀ a, a < s.plan O.bnRecBase p.bench.val + ringStart (s.reg O.bnRecWritePtr p.bench.val) (recordBytes ((s.core p).d.get dl).toNat) (s.plan O.bnRecSize p.bench.val) ∨ s.plan O.bnRecBase p.bench.val + ringStart (s.reg O.bnRecWritePtr p.bench.val) (recordBytes ((s.core p).d.get dl).toNat) (s.plan O.bnRecSize p.bench.val) + recordBytes ((s.core p).d.get dl).toNat ≤ a → t.readByte a = s.readByte a)) ∧
  (∀ (s : State) (p : Pos) (jp dl : Fin 8) (tag : BitVec 16) (waits : Nat), AtInstr s p (.emit p jp dl tag waits) (2 + (((s.core p).d.get dl).toNat + 31) / 32 + s.surcharge p.bench.val waits (if awRegion ((s.core p).j.get jp).toNat = 2 then List.replicate ((((s.core p).d.get dl).toNat + 31) / 32) ((s.core p).j.get jp).toNat else []) + max ((s.core p).stallA (2 ^ jp.val)) ((s.core p).stallD (2 ^ dl.val))) → ((s.core p).d.get dl).toNat = 0 ∨ 4096 < ((s.core p).d.get dl).toNat →
    ∃ t, exec (.emit p jp dl tag waits) s = .next t ∧
      SrSets (s.core p).sr (t.core p).sr [(SR.ref, true)] ∧
      t.reg O.awRecRefused (posKey p) = satAdd O.awRecRefused.width (s.reg O.awRecRefused (posKey p)) 1 ∧
      Effect s { t with positions := s.positions } [(0x480 + 17 * p.bench.val + s.reg O.awPhys (posKey p), awData (posKey p) 3 (s.aw (posKey p)).frame)] [O.awRecRefused.key (posKey p) 0] []) ∧
  (∀ (s : State) (p : Pos) (jp dof dl : Fin 8) (back : Bool), AtInstr s p (.spill p jp dof dl back) (2 + max ((s.core p).stallA (2 ^ jp.val)) ((s.core p).stallD (2 ^ dof.val ||| 2 ^ dl.val))) → 1 ≤ ((s.core p).d.get dl).toNat → ((s.core p).d.get dl).toNat ≤ 1024 → awRegion ((s.core p).j.get jp).toNat = 2 → ((s.core p).j.get jp).toNat % 64 = 0 → ((s.core p).j.get jp).toNat + 64 * ((s.core p).d.get dl).toNat ≤ 2 ^ 20 → 64 * ((s.core p).d.get dof).toNat + 64 * ((s.core p).d.get dl).toNat ≤ s.plan O.bnSpillSize p.bench.val → srBit (s.core p).sr SR.spb = false →
    ∃ t, exec (.spill p jp dof dl back) s = .next t ∧
      SrSets (s.core p).sr (t.core p).sr [(SR.spl, false), (SR.spb, true)] ∧
      t.spills = s.spills ++ [{ pos := posKey p, out := !back, bench := ((s.core p).j.get jp).toNat - 0x80000, off := 64 * ((s.core p).d.get dof).toNat, len := 64 * ((s.core p).d.get dl).toNat }] ∧
      (t.core p).regs = { (s.core p).advance.regs with sr := (t.core p).sr } ∧
      (∀ k, k ≠ posKey p → t.aw k = s.aw k) ∧
      ({ t with positions := s.positions, spills := s.spills } : State) = s)

/-- MOV, MOVI, MODJ, the loads and the stores read and write what the awl instruction set says. (R218, R219, R220, R223, R224, R225, R227) It rests on the model's own choices of log entry 90. -/
def Obligations.AwlMoves : Prop :=
  (∀ (s : State) (p : Pos) (rd rs : Fin 64), AtInstr s p (.mov p rd rs) (1 + (s.core p).stallW (partMask rs.val)) →
    ∃ t, exec (.mov p rd rs) s = .next t ∧
      Retires s t p (1 + (s.core p).stallW (partMask rs.val)) (((s.core p).writeCode rd.val (movValue rd.val rs.val ((s.core p).readCode rs.val))).advance) ∧
      (t.core p).sr = ((s.core p).writeCode rd.val (movValue rd.val rs.val ((s.core p).readCode rs.val))).sr) ∧
  (∀ (s : State) (p : Pos) (rd rs : Fin 64), AtInstr s p (.mov p rd rs) (1 + (s.core p).stallW 0) → 0x20 ≤ rd.val → rd.val < 0x24 → rs.val < 8 →
    ∃ t, exec (.mov p rd rs) s = .next t ∧
      Retires s t p (1 + (s.core p).stallW 0) (({ (s.core p) with jm := (s.core p).jm.setIfInBounds (rd.val - 0x20) (((s.core p).d[rs.val]?.getD 0).signExtend 20) }).advance) ∧
      SrSets (s.core p).sr (t.core p).sr []) ∧
  (∀ (s : State) (p : Pos) (rd : Fin 64) (imm : BitVec 20), AtInstr s p (.movi p rd imm) (1) →
    ∃ t, exec (.movi p rd imm) s = .next t ∧
      Retires s t p (1) (((s.core p).writeCode rd.val imm.toNat).advance) ∧
      (t.core p).sr = ((s.core p).writeCode rd.val imm.toNat).sr) ∧
  (∀ (s : State) (p : Pos) (jp : Fin 8) (a : AMode), AtInstr s p (.modj p jp a) (1 + (s.core p).stallA (modeMask jp a)) →
    ∃ t, exec (.modj p jp a) s = .next t ∧
      Retires s t p (1 + (s.core p).stallA (modeMask jp a)) (((s.core p).after jp a).advance) ∧
      SrSets (s.core p).sr (t.core p).sr []) ∧
  (∀ (s : State) (p : Pos) (dd jp : Fin 8) (a : AMode) (waits : Nat), AtInstr s p (.ld p dd jp a waits) (s.costL p jp a waits 0) → awRegion (((s.core p).addr jp a).toNat - ((s.core p).addr jp a).toNat % 2) ≠ 3 →
    ∃ t, exec (.ld p dd jp a waits) s = .next t ∧
      Retires s t p (s.costL p jp a waits 0) (({ (s.core p).after jp a with d := (s.core p).d.set dd (BitVec.ofNat 16 (ofLe (s.awBytes (posKey p) (((s.core p).addr jp a).toNat - ((s.core p).addr jp a).toNat % 2) 2))) }).advance) ∧
      SrSets (s.core p).sr (t.core p).sr []) ∧
  (∀ (s : State) (p : Pos) (dd jp : Fin 8) (a : AMode) (waits : Nat), AtInstr s p (.ld p dd jp a waits) (s.costL p jp a waits 0) → awRegion (((s.core p).addr jp a).toNat - ((s.core p).addr jp a).toNat % 2) = 3 →
    ∃ t, exec (.ld p dd jp a waits) s = .next t ∧
      SrSets (s.core p).sr (t.core p).sr [(SR.mf, true)] ∧
      (t.core p).regs = { ({ (s.core p).after jp a with d := (s.core p).d.set dd 0 }).advance.regs with sr := (t.core p).sr } ∧
      Effect s { t with positions := s.positions } [(0x480 + 17 * p.bench.val + s.reg O.awPhys (posKey p), awData (posKey p) 4 ((((s.core p).addr jp a).toNat - ((s.core p).addr jp a).toNat % 2) / 16))] [] []) ∧
  (∀ (s : State) (p : Pos) (wn : Fin 2) (jp : Fin 8) (a : AMode) (waits : Nat), AtInstr s p (.ldw p wn jp a waits) (s.costL p jp a waits 0) → awRegion (((s.core p).addr jp a).toNat - ((s.core p).addr jp a).toNat % 4) ≠ 3 →
    ∃ t, exec (.ldw p wn jp a waits) s = .next t ∧
      Retires s t p (s.costL p jp a waits 0) (({ (s.core p).after jp a with w := (s.core p).w.set wn ((BitVec.ofNat 32 (ofLe (s.awBytes (posKey p) (((s.core p).addr jp a).toNat - ((s.core p).addr jp a).toNat % 4) 4))).signExtend 40) }).advance) ∧
      SrSets (s.core p).sr (t.core p).sr []) ∧
  (∀ (s : State) (p : Pos) (dd jp : Fin 8) (a : AMode) (waits : Nat), AtInstr s p (.st p dd jp a waits) (s.costL p jp a waits 0) → awRegion (((s.core p).addr jp a).toNat - ((s.core p).addr jp a).toNat % 2) ≠ 3 →
    ∃ t, exec (.st p dd jp a waits) s = .next t ∧
      SrSets (s.core p).sr (t.core p).sr [] ∧
      Stores s t p (s.costL p jp a waits 0) (((s.core p).addr jp a).toNat - ((s.core p).addr jp a).toNat % 2) 2 (leBytes ((s.core p).d.get dd).toNat 2) ((s.core p).after jp a).advance) ∧
  (∀ (s : State) (p : Pos) (wn : Fin 2) (jp : Fin 8) (a : AMode) (waits : Nat), AtInstr s p (.stw p wn jp a false waits) (s.costL p jp a waits (2 ^ wn.val)) → awRegion (((s.core p).addr jp a).toNat - ((s.core p).addr jp a).toNat % 4) ≠ 3 →
    ∃ t, exec (.stw p wn jp a false waits) s = .next t ∧
      SrSets (s.core p).sr (t.core p).sr [] ∧
      Stores s t p (s.costL p jp a waits (2 ^ wn.val)) (((s.core p).addr jp a).toNat - ((s.core p).addr jp a).toNat % 4) 4 (leBytes (((s.core p).w.get wn).toNat % 2 ^ 32) 4) ((s.core p).after jp a).advance) ∧
  (∀ (s : State) (p : Pos) (wn : Fin 2) (jp : Fin 8) (a : AMode) (waits : Nat), AtInstr s p (.stw p wn jp a true waits) (s.costL p jp a waits (2 ^ wn.val)) → awRegion (((s.core p).addr jp a).toNat - ((s.core p).addr jp a).toNat % 4) ≠ 3 →
    ∃ t, exec (.stw p wn jp a true waits) s = .next t ∧
      (SrSets (s.core p).sr (t.core p).sr [(SR.sat, srBit (s.core p).sr SR.sat || decide (((s.core p).w.get wn).toInt < -(2 ^ 31) ∨ 2 ^ 31 ≤ ((s.core p).w.get wn).toInt))]) ∧
      Stores s t p (s.costL p jp a waits (2 ^ wn.val)) (((s.core p).addr jp a).toNat - ((s.core p).addr jp a).toNat % 4) 4 (leBytes (ofI 32 (max (-(2 ^ 31)) (min (2 ^ 31 - 1) ((s.core p).w.get wn).toInt))) 4) ((s.core p).after jp a).advance) ∧
  (∀ (s : State) (p : Pos) (x y : XLoad) (waits : Nat), AtInstr s p (.ld2 p x y waits) (s.costX p x y waits) → x.skip = true ∨ awRegion (((s.core p).j.get (xUnit x)).toNat - ((s.core p).j.get (xUnit x)).toNat % 2) ≠ 3 → y.skip = true ∨ awRegion (((s.core p).j.get (yUnit y)).toNat - ((s.core p).j.get (yUnit y)).toNat % 2) ≠ 3 →
    ∃ t, exec (.ld2 p x y waits) s = .next t ∧
      Retires s t p (s.costX p x y waits) ((xLoaded s p y (yUnit y) 2 3 (xLoaded s p x (xUnit x) 0 1 ((s.core p)))).advance) ∧
      SrSets (s.core p).sr (t.core p).sr [])

/-- ADD, ADDS, SUB, SUBS, CMP, NEG, ABS, MIN and MAX give their results and flags. (R218, R229) It rests on the model's own choices of log entry 91. -/
def Obligations.AwlSums : Prop :=
  (∀ (s : State) (p : Pos) (dd ds : Fin 8) (o : Op2), AtInstr s p (.add p dd ds o) (1) →
    ∃ t, exec (.add p dd ds o) s = .next t ∧
      Retires s t p (1) (({ (s.core p) with d := (s.core p).d.set dd (((s.core p).d.get ds) + ((s.core p).op2 o)) }).advance) ∧
      (SrSets (s.core p).sr (t.core p).sr [(SR.z, (((s.core p).d.get ds) + ((s.core p).op2 o)) == 0), (SR.n, (((s.core p).d.get ds) + ((s.core p).op2 o)).msb), (SR.c, decide (2 ^ 16 ≤ ((s.core p).d.get ds).toNat + ((s.core p).op2 o).toNat)), (SR.v, decide ((((s.core p).d.get ds).toInt + ((s.core p).op2 o).toInt) < -(2 ^ 15) ∨ 2 ^ 15 ≤ (((s.core p).d.get ds).toInt + ((s.core p).op2 o).toInt))), (SR.vs, srBit (s.core p).sr SR.vs || decide ((((s.core p).d.get ds).toInt + ((s.core p).op2 o).toInt) < -(2 ^ 15) ∨ 2 ^ 15 ≤ (((s.core p).d.get ds).toInt + ((s.core p).op2 o).toInt)))])) ∧
  (∀ (s : State) (p : Pos) (dd ds : Fin 8) (o : Op2), AtInstr s p (.sub p dd ds o) (1) →
    ∃ t, exec (.sub p dd ds o) s = .next t ∧
      Retires s t p (1) (({ (s.core p) with d := (s.core p).d.set dd (((s.core p).d.get ds) - ((s.core p).op2 o)) }).advance) ∧
      (SrSets (s.core p).sr (t.core p).sr [(SR.z, (((s.core p).d.get ds) - ((s.core p).op2 o)) == 0), (SR.n, (((s.core p).d.get ds) - ((s.core p).op2 o)).msb), (SR.c, decide (((s.core p).op2 o).toNat ≤ ((s.core p).d.get ds).toNat)), (SR.v, decide ((((s.core p).d.get ds).toInt - ((s.core p).op2 o).toInt) < -(2 ^ 15) ∨ 2 ^ 15 ≤ (((s.core p).d.get ds).toInt - ((s.core p).op2 o).toInt))), (SR.vs, srBit (s.core p).sr SR.vs || decide ((((s.core p).d.get ds).toInt - ((s.core p).op2 o).toInt) < -(2 ^ 15) ∨ 2 ^ 15 ≤ (((s.core p).d.get ds).toInt - ((s.core p).op2 o).toInt)))])) ∧
  (∀ (s : State) (p : Pos) (dd ds : Fin 8) (o : Op2), AtInstr s p (.adds p dd ds o) (1) →
    ∃ t, exec (.adds p dd ds o) s = .next t ∧
      Retires s t p (1) (({ (s.core p) with d := (s.core p).d.set dd (BitVec.ofInt 16 (max (-(2 ^ 15)) (min (2 ^ 15 - 1) (((s.core p).d.get ds).toInt + ((s.core p).op2 o).toInt)))) }).advance) ∧
      (SrSets (s.core p).sr (t.core p).sr [(SR.z, (BitVec.ofInt 16 (max (-(2 ^ 15)) (min (2 ^ 15 - 1) (((s.core p).d.get ds).toInt + ((s.core p).op2 o).toInt)))) == 0), (SR.n, (BitVec.ofInt 16 (max (-(2 ^ 15)) (min (2 ^ 15 - 1) (((s.core p).d.get ds).toInt + ((s.core p).op2 o).toInt)))).msb), (SR.c, decide (2 ^ 16 ≤ ((s.core p).d.get ds).toNat + ((s.core p).op2 o).toNat)), (SR.v, decide ((((s.core p).d.get ds).toInt + ((s.core p).op2 o).toInt) < -(2 ^ 15) ∨ 2 ^ 15 ≤ (((s.core p).d.get ds).toInt + ((s.core p).op2 o).toInt))), (SR.vs, srBit (s.core p).sr SR.vs || decide ((((s.core p).d.get ds).toInt + ((s.core p).op2 o).toInt) < -(2 ^ 15) ∨ 2 ^ 15 ≤ (((s.core p).d.get ds).toInt + ((s.core p).op2 o).toInt))), (SR.sat, srBit (s.core p).sr SR.sat || decide ((((s.core p).d.get ds).toInt + ((s.core p).op2 o).toInt) < -(2 ^ 15) ∨ 2 ^ 15 ≤ (((s.core p).d.get ds).toInt + ((s.core p).op2 o).toInt)))])) ∧
  (∀ (s : State) (p : Pos) (dd ds : Fin 8) (o : Op2), AtInstr s p (.subs p dd ds o) (1) →
    ∃ t, exec (.subs p dd ds o) s = .next t ∧
      Retires s t p (1) (({ (s.core p) with d := (s.core p).d.set dd (BitVec.ofInt 16 (max (-(2 ^ 15)) (min (2 ^ 15 - 1) (((s.core p).d.get ds).toInt - ((s.core p).op2 o).toInt)))) }).advance) ∧
      (SrSets (s.core p).sr (t.core p).sr [(SR.z, (BitVec.ofInt 16 (max (-(2 ^ 15)) (min (2 ^ 15 - 1) (((s.core p).d.get ds).toInt - ((s.core p).op2 o).toInt)))) == 0), (SR.n, (BitVec.ofInt 16 (max (-(2 ^ 15)) (min (2 ^ 15 - 1) (((s.core p).d.get ds).toInt - ((s.core p).op2 o).toInt)))).msb), (SR.c, decide (((s.core p).op2 o).toNat ≤ ((s.core p).d.get ds).toNat)), (SR.v, decide ((((s.core p).d.get ds).toInt - ((s.core p).op2 o).toInt) < -(2 ^ 15) ∨ 2 ^ 15 ≤ (((s.core p).d.get ds).toInt - ((s.core p).op2 o).toInt))), (SR.vs, srBit (s.core p).sr SR.vs || decide ((((s.core p).d.get ds).toInt - ((s.core p).op2 o).toInt) < -(2 ^ 15) ∨ 2 ^ 15 ≤ (((s.core p).d.get ds).toInt - ((s.core p).op2 o).toInt))), (SR.sat, srBit (s.core p).sr SR.sat || decide ((((s.core p).d.get ds).toInt - ((s.core p).op2 o).toInt) < -(2 ^ 15) ∨ 2 ^ 15 ≤ (((s.core p).d.get ds).toInt - ((s.core p).op2 o).toInt)))])) ∧
  (∀ (s : State) (p : Pos) (ds : Fin 8) (o : Op2), AtInstr s p (.cmp p ds o) (1) →
    ∃ t, exec (.cmp p ds o) s = .next t ∧
      Retires s t p (1) (((s.core p)).advance) ∧
      (SrSets (s.core p).sr (t.core p).sr [(SR.z, (((s.core p).d.get ds) - ((s.core p).op2 o)) == 0), (SR.n, (((s.core p).d.get ds) - ((s.core p).op2 o)).msb), (SR.c, decide (((s.core p).op2 o).toNat ≤ ((s.core p).d.get ds).toNat)), (SR.v, decide ((((s.core p).d.get ds).toInt - ((s.core p).op2 o).toInt) < -(2 ^ 15) ∨ 2 ^ 15 ≤ (((s.core p).d.get ds).toInt - ((s.core p).op2 o).toInt))), (SR.vs, srBit (s.core p).sr SR.vs || decide ((((s.core p).d.get ds).toInt - ((s.core p).op2 o).toInt) < -(2 ^ 15) ∨ 2 ^ 15 ≤ (((s.core p).d.get ds).toInt - ((s.core p).op2 o).toInt)))])) ∧
  (∀ (s : State) (p : Pos) (dd ds : Fin 8), AtInstr s p (.neg p dd ds) (1) →
    ∃ t, exec (.neg p dd ds) s = .next t ∧
      Retires s t p (1) (({ (s.core p) with d := (s.core p).d.set dd (-((s.core p).d.get ds)) }).advance) ∧
      SrSets (s.core p).sr (t.core p).sr [(SR.z, (-((s.core p).d.get ds)) == 0), (SR.n, (-((s.core p).d.get ds)).msb), (SR.v, ((s.core p).d.get ds) == 0x8000), (SR.vs, srBit (s.core p).sr SR.vs || ((s.core p).d.get ds) == 0x8000)]) ∧
  (∀ (s : State) (p : Pos) (dd ds : Fin 8), AtInstr s p (.abs p dd ds) (1) →
    ∃ t, exec (.abs p dd ds) s = .next t ∧
      Retires s t p (1) (({ (s.core p) with d := (s.core p).d.set dd (if ((s.core p).d.get ds) = 0x8000 then 0x7FFF else if ((s.core p).d.get ds).msb then -((s.core p).d.get ds) else ((s.core p).d.get ds)) }).advance) ∧
      SrSets (s.core p).sr (t.core p).sr [(SR.z, (if ((s.core p).d.get ds) = 0x8000 then 0x7FFF else if ((s.core p).d.get ds).msb then -((s.core p).d.get ds) else ((s.core p).d.get ds)) == 0), (SR.n, (if ((s.core p).d.get ds) = 0x8000 then 0x7FFF else if ((s.core p).d.get ds).msb then -((s.core p).d.get ds) else ((s.core p).d.get ds)).msb), (SR.sat, srBit (s.core p).sr SR.sat || ((s.core p).d.get ds) == 0x8000)]) ∧
  (∀ (s : State) (p : Pos) (dd ds : Fin 8) (o : Op2), AtInstr s p (.min p dd ds o) (1) →
    ∃ t, exec (.min p dd ds o) s = .next t ∧
      Retires s t p (1) (({ (s.core p) with d := (s.core p).d.set dd (if ((s.core p).op2 o).toInt < ((s.core p).d.get ds).toInt then ((s.core p).op2 o) else ((s.core p).d.get ds)) }).advance) ∧
      SrSets (s.core p).sr (t.core p).sr [(SR.z, (if ((s.core p).op2 o).toInt < ((s.core p).d.get ds).toInt then ((s.core p).op2 o) else ((s.core p).d.get ds)) == 0), (SR.n, (if ((s.core p).op2 o).toInt < ((s.core p).d.get ds).toInt then ((s.core p).op2 o) else ((s.core p).d.get ds)).msb)]) ∧
  (∀ (s : State) (p : Pos) (dd ds : Fin 8) (o : Op2), AtInstr s p (.max p dd ds o) (1) →
    ∃ t, exec (.max p dd ds o) s = .next t ∧
      Retires s t p (1) (({ (s.core p) with d := (s.core p).d.set dd (if ((s.core p).d.get ds).toInt < ((s.core p).op2 o).toInt then ((s.core p).op2 o) else ((s.core p).d.get ds)) }).advance) ∧
      SrSets (s.core p).sr (t.core p).sr [(SR.z, (if ((s.core p).d.get ds).toInt < ((s.core p).op2 o).toInt then ((s.core p).op2 o) else ((s.core p).d.get ds)) == 0), (SR.n, (if ((s.core p).d.get ds).toInt < ((s.core p).op2 o).toInt then ((s.core p).op2 o) else ((s.core p).d.get ds)).msb)])

/-- AND, OR, XOR and the shifts give their results and flags. (R218, R229) It rests on the model's own choices of log entry 91. -/
def Obligations.AwlLogic : Prop :=
  (∀ (s : State) (p : Pos) (dd ds : Fin 8) (o : Op2), AtInstr s p (.and p dd ds o) (1) →
    ∃ t, exec (.and p dd ds o) s = .next t ∧
      Retires s t p (1) (({ (s.core p) with d := (s.core p).d.set dd (((s.core p).d.get ds) &&& ((s.core p).op2 o)) }).advance) ∧
      SrSets (s.core p).sr (t.core p).sr [(SR.z, (((s.core p).d.get ds) &&& ((s.core p).op2 o)) == 0), (SR.n, (((s.core p).d.get ds) &&& ((s.core p).op2 o)).msb), (SR.c, false), (SR.v, false)]) ∧
  (∀ (s : State) (p : Pos) (dd ds : Fin 8) (o : Op2), AtInstr s p (.or p dd ds o) (1) →
    ∃ t, exec (.or p dd ds o) s = .next t ∧
      Retires s t p (1) (({ (s.core p) with d := (s.core p).d.set dd (((s.core p).d.get ds) ||| ((s.core p).op2 o)) }).advance) ∧
      SrSets (s.core p).sr (t.core p).sr [(SR.z, (((s.core p).d.get ds) ||| ((s.core p).op2 o)) == 0), (SR.n, (((s.core p).d.get ds) ||| ((s.core p).op2 o)).msb), (SR.c, false), (SR.v, false)]) ∧
  (∀ (s : State) (p : Pos) (dd ds : Fin 8) (o : Op2), AtInstr s p (.xor p dd ds o) (1) →
    ∃ t, exec (.xor p dd ds o) s = .next t ∧
      Retires s t p (1) (({ (s.core p) with d := (s.core p).d.set dd (((s.core p).d.get ds) ^^^ ((s.core p).op2 o)) }).advance) ∧
      SrSets (s.core p).sr (t.core p).sr [(SR.z, (((s.core p).d.get ds) ^^^ ((s.core p).op2 o)) == 0), (SR.n, (((s.core p).d.get ds) ^^^ ((s.core p).op2 o)).msb), (SR.c, false), (SR.v, false)]) ∧
  (∀ (s : State) (p : Pos) (dd ds : Fin 8) (o : Op2), AtInstr s p (.shl p dd ds o) (1) →
    ∃ t, exec (.shl p dd ds o) s = .next t ∧
      Retires s t p (1) (({ (s.core p) with d := (s.core p).d.set dd (((s.core p).d.get ds) <<< (min 16 ((s.core p).op2 o).toNat)) }).advance) ∧
      SrSets (s.core p).sr (t.core p).sr [(SR.z, (((s.core p).d.get ds) <<< (min 16 ((s.core p).op2 o).toNat)) == 0), (SR.n, (((s.core p).d.get ds) <<< (min 16 ((s.core p).op2 o).toNat)).msb), (SR.c, decide (0 < (min 16 ((s.core p).op2 o).toNat)) && ((s.core p).d.get ds).getLsbD (16 - (min 16 ((s.core p).op2 o).toNat)))]) ∧
  (∀ (s : State) (p : Pos) (dd ds : Fin 8) (o : Op2), AtInstr s p (.shr p dd ds o) (1) →
    ∃ t, exec (.shr p dd ds o) s = .next t ∧
      Retires s t p (1) (({ (s.core p) with d := (s.core p).d.set dd (((s.core p).d.get ds) >>> (min 16 ((s.core p).op2 o).toNat)) }).advance) ∧
      SrSets (s.core p).sr (t.core p).sr [(SR.z, (((s.core p).d.get ds) >>> (min 16 ((s.core p).op2 o).toNat)) == 0), (SR.n, (((s.core p).d.get ds) >>> (min 16 ((s.core p).op2 o).toNat)).msb), (SR.c, decide (0 < (min 16 ((s.core p).op2 o).toNat)) && ((s.core p).d.get ds).getLsbD ((min 16 ((s.core p).op2 o).toNat) - 1))]) ∧
  (∀ (s : State) (p : Pos) (dd ds : Fin 8) (o : Op2), AtInstr s p (.sra p dd ds o) (1) →
    ∃ t, exec (.sra p dd ds o) s = .next t ∧
      Retires s t p (1) (({ (s.core p) with d := (s.core p).d.set dd (((s.core p).d.get ds).sshiftRight (min 16 ((s.core p).op2 o).toNat)) }).advance) ∧
      SrSets (s.core p).sr (t.core p).sr [(SR.z, (((s.core p).d.get ds).sshiftRight (min 16 ((s.core p).op2 o).toNat)) == 0), (SR.n, (((s.core p).d.get ds).sshiftRight (min 16 ((s.core p).op2 o).toNat)).msb), (SR.c, decide (0 < (min 16 ((s.core p).op2 o).toNat)) && ((s.core p).d.get ds).getLsbD ((min 16 ((s.core p).op2 o).toNat) - 1))])

/-- The products, CLRW, MOVDW and RDW work on the accumulators. (R218, R226, R227) -/
def Obligations.AwlProducts : Prop :=
  (∀ (s : State) (p : Pos) (wn : Fin 2) (dx dy : Fin 8) (mode : MMode), AtInstr s p (.mul p wn dx dy mode) (1) →
    ∃ t, exec (.mul p wn dx dy mode) s = .next t ∧
      Retires s t p (1) (({ (s.core p) with w := (s.core p).w.set wn (BitVec.ofInt 40 (product mode ((s.core p).d.get dx) ((s.core p).d.get dy))) }).advance) ∧
      (SrSets (s.core p).sr (t.core p).sr [(SR.z, BitVec.ofInt 40 (product mode ((s.core p).d.get dx) ((s.core p).d.get dy)) == 0), (SR.n, (BitVec.ofInt 40 (product mode ((s.core p).d.get dx) ((s.core p).d.get dy))).msb), (SR.c, false), (SR.v, decide ((product mode ((s.core p).d.get dx) ((s.core p).d.get dy)) < -(2 ^ 39) ∨ 2 ^ 39 ≤ (product mode ((s.core p).d.get dx) ((s.core p).d.get dy)))), (SR.wv, decide ((BitVec.ofInt 40 (product mode ((s.core p).d.get dx) ((s.core p).d.get dy))).toInt < -(2 ^ 31) ∨ 2 ^ 31 ≤ (BitVec.ofInt 40 (product mode ((s.core p).d.get dx) ((s.core p).d.get dy))).toInt)), (SR.vs, srBit (s.core p).sr SR.vs || decide ((product mode ((s.core p).d.get dx) ((s.core p).d.get dy)) < -(2 ^ 39) ∨ 2 ^ 39 ≤ (product mode ((s.core p).d.get dx) ((s.core p).d.get dy))))])) ∧
  (∀ (s : State) (p : Pos) (wn : Fin 2) (dx dy : Fin 8) (mode : MMode), AtInstr s p (.mac p wn dx dy mode) (1) →
    ∃ t, exec (.mac p wn dx dy mode) s = .next t ∧
      Retires s t p (1) (({ (s.core p) with w := (s.core p).w.set wn (BitVec.ofInt 40 (((s.core p).w.get wn).toInt + product mode ((s.core p).d.get dx) ((s.core p).d.get dy))) }).advance) ∧
      (SrSets (s.core p).sr (t.core p).sr [(SR.z, BitVec.ofInt 40 (((s.core p).w.get wn).toInt + product mode ((s.core p).d.get dx) ((s.core p).d.get dy)) == 0), (SR.n, (BitVec.ofInt 40 (((s.core p).w.get wn).toInt + product mode ((s.core p).d.get dx) ((s.core p).d.get dy))).msb), (SR.c, false), (SR.v, decide ((((s.core p).w.get wn).toInt + product mode ((s.core p).d.get dx) ((s.core p).d.get dy)) < -(2 ^ 39) ∨ 2 ^ 39 ≤ (((s.core p).w.get wn).toInt + product mode ((s.core p).d.get dx) ((s.core p).d.get dy)))), (SR.wv, decide ((BitVec.ofInt 40 (((s.core p).w.get wn).toInt + product mode ((s.core p).d.get dx) ((s.core p).d.get dy))).toInt < -(2 ^ 31) ∨ 2 ^ 31 ≤ (BitVec.ofInt 40 (((s.core p).w.get wn).toInt + product mode ((s.core p).d.get dx) ((s.core p).d.get dy))).toInt)), (SR.vs, srBit (s.core p).sr SR.vs || decide ((((s.core p).w.get wn).toInt + product mode ((s.core p).d.get dx) ((s.core p).d.get dy)) < -(2 ^ 39) ∨ 2 ^ 39 ≤ (((s.core p).w.get wn).toInt + product mode ((s.core p).d.get dx) ((s.core p).d.get dy))))])) ∧
  (∀ (s : State) (p : Pos) (wn : Fin 2) (dx dy : Fin 8) (mode : MMode), AtInstr s p (.msu p wn dx dy mode) (1) →
    ∃ t, exec (.msu p wn dx dy mode) s = .next t ∧
      Retires s t p (1) (({ (s.core p) with w := (s.core p).w.set wn (BitVec.ofInt 40 (((s.core p).w.get wn).toInt - product mode ((s.core p).d.get dx) ((s.core p).d.get dy))) }).advance) ∧
      (SrSets (s.core p).sr (t.core p).sr [(SR.z, BitVec.ofInt 40 (((s.core p).w.get wn).toInt - product mode ((s.core p).d.get dx) ((s.core p).d.get dy)) == 0), (SR.n, (BitVec.ofInt 40 (((s.core p).w.get wn).toInt - product mode ((s.core p).d.get dx) ((s.core p).d.get dy))).msb), (SR.c, false), (SR.v, decide ((((s.core p).w.get wn).toInt - product mode ((s.core p).d.get dx) ((s.core p).d.get dy)) < -(2 ^ 39) ∨ 2 ^ 39 ≤ (((s.core p).w.get wn).toInt - product mode ((s.core p).d.get dx) ((s.core p).d.get dy)))), (SR.wv, decide ((BitVec.ofInt 40 (((s.core p).w.get wn).toInt - product mode ((s.core p).d.get dx) ((s.core p).d.get dy))).toInt < -(2 ^ 31) ∨ 2 ^ 31 ≤ (BitVec.ofInt 40 (((s.core p).w.get wn).toInt - product mode ((s.core p).d.get dx) ((s.core p).d.get dy))).toInt)), (SR.vs, srBit (s.core p).sr SR.vs || decide ((((s.core p).w.get wn).toInt - product mode ((s.core p).d.get dx) ((s.core p).d.get dy)) < -(2 ^ 39) ∨ 2 ^ 39 ≤ (((s.core p).w.get wn).toInt - product mode ((s.core p).d.get dx) ((s.core p).d.get dy))))])) ∧
  (∀ (s : State) (p : Pos) (wn : Fin 2) (dx dy : Fin 8) (mode : MMode) (x y : XLoad) (waits : Nat), AtInstr s p (.macx p wn dx dy mode false x y waits) (s.costX p x y waits) → x.skip = true ∨ awRegion (((s.core p).j.get (xUnit x)).toNat - ((s.core p).j.get (xUnit x)).toNat % 2) ≠ 3 → y.skip = true ∨ awRegion (((s.core p).j.get (yUnit y)).toNat - ((s.core p).j.get (yUnit y)).toNat % 2) ≠ 3 →
    ∃ t, exec (.macx p wn dx dy mode false x y waits) s = .next t ∧
      Retires s t p (s.costX p x y waits) ((xLoaded s p y (yUnit y) 2 3 (xLoaded s p x (xUnit x) 0 1 ({ (s.core p) with w := (s.core p).w.set wn (BitVec.ofInt 40 (((s.core p).w.get wn).toInt + product mode ((s.core p).d.get dx) ((s.core p).d.get dy))) }))).advance) ∧
      (SrSets (s.core p).sr (t.core p).sr [(SR.z, BitVec.ofInt 40 (((s.core p).w.get wn).toInt + product mode ((s.core p).d.get dx) ((s.core p).d.get dy)) == 0), (SR.n, (BitVec.ofInt 40 (((s.core p).w.get wn).toInt + product mode ((s.core p).d.get dx) ((s.core p).d.get dy))).msb), (SR.c, false), (SR.v, decide ((((s.core p).w.get wn).toInt + product mode ((s.core p).d.get dx) ((s.core p).d.get dy)) < -(2 ^ 39) ∨ 2 ^ 39 ≤ (((s.core p).w.get wn).toInt + product mode ((s.core p).d.get dx) ((s.core p).d.get dy)))), (SR.wv, decide ((BitVec.ofInt 40 (((s.core p).w.get wn).toInt + product mode ((s.core p).d.get dx) ((s.core p).d.get dy))).toInt < -(2 ^ 31) ∨ 2 ^ 31 ≤ (BitVec.ofInt 40 (((s.core p).w.get wn).toInt + product mode ((s.core p).d.get dx) ((s.core p).d.get dy))).toInt)), (SR.vs, srBit (s.core p).sr SR.vs || decide ((((s.core p).w.get wn).toInt + product mode ((s.core p).d.get dx) ((s.core p).d.get dy)) < -(2 ^ 39) ∨ 2 ^ 39 ≤ (((s.core p).w.get wn).toInt + product mode ((s.core p).d.get dx) ((s.core p).d.get dy))))])) ∧
  (∀ (s : State) (p : Pos) (wn : Fin 2) (dx dy : Fin 8) (mode : MMode) (x y : XLoad) (waits : Nat), AtInstr s p (.macx p wn dx dy mode true x y waits) (s.costX p x y waits) → x.skip = true ∨ awRegion (((s.core p).j.get (xUnit x)).toNat - ((s.core p).j.get (xUnit x)).toNat % 2) ≠ 3 → y.skip = true ∨ awRegion (((s.core p).j.get (yUnit y)).toNat - ((s.core p).j.get (yUnit y)).toNat % 2) ≠ 3 →
    ∃ t, exec (.macx p wn dx dy mode true x y waits) s = .next t ∧
      Retires s t p (s.costX p x y waits) ((xLoaded s p y (yUnit y) 2 3 (xLoaded s p x (xUnit x) 0 1 ({ (s.core p) with w := (s.core p).w.set wn (BitVec.ofInt 40 (((s.core p).w.get wn).toInt - product mode ((s.core p).d.get dx) ((s.core p).d.get dy))) }))).advance) ∧
      (SrSets (s.core p).sr (t.core p).sr [(SR.z, BitVec.ofInt 40 (((s.core p).w.get wn).toInt - product mode ((s.core p).d.get dx) ((s.core p).d.get dy)) == 0), (SR.n, (BitVec.ofInt 40 (((s.core p).w.get wn).toInt - product mode ((s.core p).d.get dx) ((s.core p).d.get dy))).msb), (SR.c, false), (SR.v, decide ((((s.core p).w.get wn).toInt - product mode ((s.core p).d.get dx) ((s.core p).d.get dy)) < -(2 ^ 39) ∨ 2 ^ 39 ≤ (((s.core p).w.get wn).toInt - product mode ((s.core p).d.get dx) ((s.core p).d.get dy)))), (SR.wv, decide ((BitVec.ofInt 40 (((s.core p).w.get wn).toInt - product mode ((s.core p).d.get dx) ((s.core p).d.get dy))).toInt < -(2 ^ 31) ∨ 2 ^ 31 ≤ (BitVec.ofInt 40 (((s.core p).w.get wn).toInt - product mode ((s.core p).d.get dx) ((s.core p).d.get dy))).toInt)), (SR.vs, srBit (s.core p).sr SR.vs || decide ((((s.core p).w.get wn).toInt - product mode ((s.core p).d.get dx) ((s.core p).d.get dy)) < -(2 ^ 39) ∨ 2 ^ 39 ≤ (((s.core p).w.get wn).toInt - product mode ((s.core p).d.get dx) ((s.core p).d.get dy))))])) ∧
  (∀ (s : State) (p : Pos) (wn : Fin 2), AtInstr s p (.clrw p wn) (1) →
    ∃ t, exec (.clrw p wn) s = .next t ∧
      Retires s t p (1) (({ (s.core p) with w := (s.core p).w.set wn (0) }).advance) ∧
      SrSets (s.core p).sr (t.core p).sr []) ∧
  (∀ (s : State) (p : Pos) (wn : Fin 2) (ds : Fin 8), AtInstr s p (.movdw p wn ds) (1) →
    ∃ t, exec (.movdw p wn ds) s = .next t ∧
      Retires s t p (1) (({ (s.core p) with w := (s.core p).w.set wn (BitVec.ofInt 40 (((s.core p).d.get ds).toInt * 65536)) }).advance) ∧
      SrSets (s.core p).sr (t.core p).sr []) ∧
  (∀ (s : State) (p : Pos) (dd : Fin 8) (wn : Fin 2), AtInstr s p (.rdw p dd wn 0 false false) (1 + (s.core p).stallW (2 ^ wn.val)) →
    ∃ t, exec (.rdw p dd wn 0 false false) s = .next t ∧
      Retires s t p (1 + (s.core p).stallW (2 ^ wn.val)) (({ (s.core p) with d := (s.core p).d.set dd (((s.core p).w.get wn).extractLsb' 0 16) }).advance) ∧
      SrSets (s.core p).sr (t.core p).sr []) ∧
  (∀ (s : State) (p : Pos) (dd : Fin 8) (wn : Fin 2), AtInstr s p (.rdw p dd wn 2 false false) (1 + (s.core p).stallW (2 ^ wn.val)) →
    ∃ t, exec (.rdw p dd wn 2 false false) s = .next t ∧
      Retires s t p (1 + (s.core p).stallW (2 ^ wn.val)) (({ (s.core p) with d := (s.core p).d.set dd ((((s.core p).w.get wn).extractLsb' 32 8).signExtend 16) }).advance) ∧
      SrSets (s.core p).sr (t.core p).sr []) ∧
  (∀ (s : State) (p : Pos) (dd : Fin 8) (wn : Fin 2), AtInstr s p (.rdw p dd wn 1 false false) (1 + (s.core p).stallW (2 ^ wn.val)) →
    ∃ t, exec (.rdw p dd wn 1 false false) s = .next t ∧
      Retires s t p (1 + (s.core p).stallW (2 ^ wn.val)) (({ (s.core p) with d := (s.core p).d.set dd (((s.core p).w.get wn).extractLsb' 16 16) }).advance) ∧
      SrSets (s.core p).sr (t.core p).sr []) ∧
  (∀ (s : State) (p : Pos) (dd : Fin 8) (wn : Fin 2), AtInstr s p (.rdw p dd wn 1 true false) (1 + (s.core p).stallW (2 ^ wn.val)) →
    ∃ t, exec (.rdw p dd wn 1 true false) s = .next t ∧
      Retires s t p (1 + (s.core p).stallW (2 ^ wn.val)) (({ (s.core p) with d := (s.core p).d.set dd (BitVec.ofInt 16 (rneDiv ((s.core p).w.get wn).toInt 65536)) }).advance) ∧
      SrSets (s.core p).sr (t.core p).sr []) ∧
  (∀ (s : State) (p : Pos) (dd : Fin 8) (wn : Fin 2), AtInstr s p (.rdw p dd wn 1 true true) (1 + (s.core p).stallW (2 ^ wn.val)) →
    ∃ t, exec (.rdw p dd wn 1 true true) s = .next t ∧
      Retires s t p (1 + (s.core p).stallW (2 ^ wn.val)) (({ (s.core p) with d := (s.core p).d.set dd (BitVec.ofInt 16 (max (-(2 ^ 15)) (min (2 ^ 15 - 1) (rneDiv ((s.core p).w.get wn).toInt 65536)))) }).advance) ∧
      (SrSets (s.core p).sr (t.core p).sr [(SR.sat, srBit (s.core p).sr SR.sat || decide ((rneDiv ((s.core p).w.get wn).toInt 65536) < -(2 ^ 15) ∨ 2 ^ 15 ≤ (rneDiv ((s.core p).w.get wn).toInt 65536)))])) ∧
  (∀ (s : State) (p : Pos) (dd : Fin 8) (wn : Fin 2), AtInstr s p (.rdw p dd wn 1 false true) (1 + (s.core p).stallW (2 ^ wn.val)) →
    ∃ t, exec (.rdw p dd wn 1 false true) s = .next t ∧
      Retires s t p (1 + (s.core p).stallW (2 ^ wn.val)) (({ (s.core p) with d := (s.core p).d.set dd (BitVec.ofInt 16 (max (-(2 ^ 15)) (min (2 ^ 15 - 1) (((s.core p).w.get wn).toInt / 65536)))) }).advance) ∧
      (SrSets (s.core p).sr (t.core p).sr [(SR.sat, srBit (s.core p).sr SR.sat || decide ((((s.core p).w.get wn).toInt / 65536) < -(2 ^ 15) ∨ 2 ^ 15 ≤ (((s.core p).w.get wn).toInt / 65536)))]))

/-- ADDW, SUBW, CMPW, ASH, NEGW, ABSW and NORM work on the accumulators. (R218, R226, R228) It rests on the model's own choices of log entry 91. -/
def Obligations.AwlAccumulators : Prop :=
  (∀ (s : State) (p : Pos) (wn : Fin 2), AtInstr s p (.addw p wn) (1 + (s.core p).stallW 3) →
    ∃ t, exec (.addw p wn) s = .next t ∧
      Retires s t p (1 + (s.core p).stallW 3) (({ (s.core p) with w := (s.core p).w.set wn (BitVec.ofInt 40 (((s.core p).w.get 0).toInt + ((s.core p).w.get 1).toInt)) }).advance) ∧
      (SrSets (s.core p).sr (t.core p).sr [(SR.z, BitVec.ofInt 40 (((s.core p).w.get 0).toInt + ((s.core p).w.get 1).toInt) == 0), (SR.n, (BitVec.ofInt 40 (((s.core p).w.get 0).toInt + ((s.core p).w.get 1).toInt)).msb), (SR.c, false), (SR.v, decide ((((s.core p).w.get 0).toInt + ((s.core p).w.get 1).toInt) < -(2 ^ 39) ∨ 2 ^ 39 ≤ (((s.core p).w.get 0).toInt + ((s.core p).w.get 1).toInt))), (SR.wv, decide ((BitVec.ofInt 40 (((s.core p).w.get 0).toInt + ((s.core p).w.get 1).toInt)).toInt < -(2 ^ 31) ∨ 2 ^ 31 ≤ (BitVec.ofInt 40 (((s.core p).w.get 0).toInt + ((s.core p).w.get 1).toInt)).toInt)), (SR.vs, srBit (s.core p).sr SR.vs || decide ((((s.core p).w.get 0).toInt + ((s.core p).w.get 1).toInt) < -(2 ^ 39) ∨ 2 ^ 39 ≤ (((s.core p).w.get 0).toInt + ((s.core p).w.get 1).toInt)))])) ∧
  (∀ (s : State) (p : Pos) (wn : Fin 2), AtInstr s p (.subw p wn) (1 + (s.core p).stallW 3) →
    ∃ t, exec (.subw p wn) s = .next t ∧
      Retires s t p (1 + (s.core p).stallW 3) (({ (s.core p) with w := (s.core p).w.set wn (BitVec.ofInt 40 (((s.core p).w.get wn).toInt - ((s.core p).w.get (1 - wn)).toInt)) }).advance) ∧
      (SrSets (s.core p).sr (t.core p).sr [(SR.z, BitVec.ofInt 40 (((s.core p).w.get wn).toInt - ((s.core p).w.get (1 - wn)).toInt) == 0), (SR.n, (BitVec.ofInt 40 (((s.core p).w.get wn).toInt - ((s.core p).w.get (1 - wn)).toInt)).msb), (SR.c, false), (SR.v, decide ((((s.core p).w.get wn).toInt - ((s.core p).w.get (1 - wn)).toInt) < -(2 ^ 39) ∨ 2 ^ 39 ≤ (((s.core p).w.get wn).toInt - ((s.core p).w.get (1 - wn)).toInt))), (SR.wv, decide ((BitVec.ofInt 40 (((s.core p).w.get wn).toInt - ((s.core p).w.get (1 - wn)).toInt)).toInt < -(2 ^ 31) ∨ 2 ^ 31 ≤ (BitVec.ofInt 40 (((s.core p).w.get wn).toInt - ((s.core p).w.get (1 - wn)).toInt)).toInt)), (SR.vs, srBit (s.core p).sr SR.vs || decide ((((s.core p).w.get wn).toInt - ((s.core p).w.get (1 - wn)).toInt) < -(2 ^ 39) ∨ 2 ^ 39 ≤ (((s.core p).w.get wn).toInt - ((s.core p).w.get (1 - wn)).toInt)))])) ∧
  (∀ (s : State) (p : Pos) , AtInstr s p (.cmpw p) (1 + (s.core p).stallW 3) →
    ∃ t, exec (.cmpw p) s = .next t ∧
      Retires s t p (1 + (s.core p).stallW 3) (((s.core p)).advance) ∧
      (SrSets (s.core p).sr (t.core p).sr [(SR.z, BitVec.ofInt 40 (((s.core p).w.get 0).toInt - ((s.core p).w.get 1).toInt) == 0), (SR.n, (BitVec.ofInt 40 (((s.core p).w.get 0).toInt - ((s.core p).w.get 1).toInt)).msb), (SR.c, decide (((s.core p).w.get 1).toNat ≤ ((s.core p).w.get 0).toNat)), (SR.v, decide ((((s.core p).w.get 0).toInt - ((s.core p).w.get 1).toInt) < -(2 ^ 39) ∨ 2 ^ 39 ≤ (((s.core p).w.get 0).toInt - ((s.core p).w.get 1).toInt))), (SR.wv, decide ((BitVec.ofInt 40 (((s.core p).w.get 0).toInt - ((s.core p).w.get 1).toInt)).toInt < -(2 ^ 31) ∨ 2 ^ 31 ≤ (BitVec.ofInt 40 (((s.core p).w.get 0).toInt - ((s.core p).w.get 1).toInt)).toInt)), (SR.vs, srBit (s.core p).sr SR.vs || decide ((((s.core p).w.get 0).toInt - ((s.core p).w.get 1).toInt) < -(2 ^ 39) ∨ 2 ^ 39 ≤ (((s.core p).w.get 0).toInt - ((s.core p).w.get 1).toInt)))])) ∧
  (∀ (s : State) (p : Pos) (wn : Fin 2) (n : AshCount), AtInstr s p (.ash p wn n) (1 + (s.core p).stallW (2 ^ wn.val)) →
    ∃ t, exec (.ash p wn n) s = .next t ∧
      Retires s t p (1 + (s.core p).stallW (2 ^ wn.val)) (({ (s.core p) with w := (s.core p).w.set wn (BitVec.ofInt 40 (ashift ((s.core p).w.get wn).toInt ((s.core p).ashCount n))) }).advance) ∧
      (SrSets (s.core p).sr (t.core p).sr [(SR.z, BitVec.ofInt 40 (ashift ((s.core p).w.get wn).toInt ((s.core p).ashCount n)) == 0), (SR.n, (BitVec.ofInt 40 (ashift ((s.core p).w.get wn).toInt ((s.core p).ashCount n))).msb), (SR.c, false), (SR.v, decide ((ashift ((s.core p).w.get wn).toInt ((s.core p).ashCount n)) < -(2 ^ 39) ∨ 2 ^ 39 ≤ (ashift ((s.core p).w.get wn).toInt ((s.core p).ashCount n)))), (SR.wv, decide ((BitVec.ofInt 40 (ashift ((s.core p).w.get wn).toInt ((s.core p).ashCount n))).toInt < -(2 ^ 31) ∨ 2 ^ 31 ≤ (BitVec.ofInt 40 (ashift ((s.core p).w.get wn).toInt ((s.core p).ashCount n))).toInt)), (SR.vs, srBit (s.core p).sr SR.vs || decide ((ashift ((s.core p).w.get wn).toInt ((s.core p).ashCount n)) < -(2 ^ 39) ∨ 2 ^ 39 ≤ (ashift ((s.core p).w.get wn).toInt ((s.core p).ashCount n))))])) ∧
  (∀ (s : State) (p : Pos) (wn : Fin 2), AtInstr s p (.negw p wn) (1 + (s.core p).stallW (2 ^ wn.val)) →
    ∃ t, exec (.negw p wn) s = .next t ∧
      Retires s t p (1 + (s.core p).stallW (2 ^ wn.val)) (({ (s.core p) with w := (s.core p).w.set wn (BitVec.ofInt 40 (-((s.core p).w.get wn).toInt)) }).advance) ∧
      (SrSets (s.core p).sr (t.core p).sr [(SR.z, BitVec.ofInt 40 (-((s.core p).w.get wn).toInt) == 0), (SR.n, (BitVec.ofInt 40 (-((s.core p).w.get wn).toInt)).msb), (SR.c, false), (SR.v, decide ((-((s.core p).w.get wn).toInt) < -(2 ^ 39) ∨ 2 ^ 39 ≤ (-((s.core p).w.get wn).toInt))), (SR.wv, decide ((BitVec.ofInt 40 (-((s.core p).w.get wn).toInt)).toInt < -(2 ^ 31) ∨ 2 ^ 31 ≤ (BitVec.ofInt 40 (-((s.core p).w.get wn).toInt)).toInt)), (SR.vs, srBit (s.core p).sr SR.vs || decide ((-((s.core p).w.get wn).toInt) < -(2 ^ 39) ∨ 2 ^ 39 ≤ (-((s.core p).w.get wn).toInt)))])) ∧
  (∀ (s : State) (p : Pos) (wn : Fin 2), AtInstr s p (.absw p wn) (1 + (s.core p).stallW (2 ^ wn.val)) →
    ∃ t, exec (.absw p wn) s = .next t ∧
      Retires s t p (1 + (s.core p).stallW (2 ^ wn.val)) (({ (s.core p) with w := (s.core p).w.set wn (BitVec.ofInt 40 (min (((s.core p).w.get wn).toInt.natAbs : Int) (2 ^ 39 - 1))) }).advance) ∧
      (SrSets (s.core p).sr (t.core p).sr [(SR.z, BitVec.ofInt 40 (min (((s.core p).w.get wn).toInt.natAbs : Int) (2 ^ 39 - 1)) == 0), (SR.n, false), (SR.c, false), (SR.v, decide (((s.core p).w.get wn).toInt = -(2 ^ 39))), (SR.wv, decide ((BitVec.ofInt 40 (min (((s.core p).w.get wn).toInt.natAbs : Int) (2 ^ 39 - 1))).toInt < -(2 ^ 31) ∨ 2 ^ 31 ≤ (BitVec.ofInt 40 (min (((s.core p).w.get wn).toInt.natAbs : Int) (2 ^ 39 - 1))).toInt)), (SR.vs, srBit (s.core p).sr SR.vs || decide (((s.core p).w.get wn).toInt = -(2 ^ 39)))])) ∧
  (∀ (s : State) (p : Pos) (dd : Fin 8) (wn : Fin 2), AtInstr s p (.norm p dd wn) (1 + (s.core p).stallW (2 ^ wn.val)) →
    ∃ t, exec (.norm p dd wn) s = .next t ∧
      Retires s t p (1 + (s.core p).stallW (2 ^ wn.val)) (({ (s.core p) with d := (s.core p).d.set dd (BitVec.ofInt 16 (normCount ((s.core p).w.get wn).toInt)) }).advance) ∧
      SrSets (s.core p).sr (t.core p).sr [(SR.z, (BitVec.ofInt 16 (normCount ((s.core p).w.get wn).toInt)) == 0), (SR.n, (BitVec.ofInt 16 (normCount ((s.core p).w.get wn).toInt)).msb)])

/-- Windows, budgets, images, cores and spills of the awl benches. (R198, R200, R202, R203, R207, R208, R212, R213) It rests on the model's own choices of log entries 94, 95, 97, 174, 191. -/
def Obligations.Benches : Prop :=
  (∀ (s : State) (b : Fin 16) (w : Fin 4) (r : BusRec) (rest : List BusRec), (Map.get s.windows {} (4 * b.val + w.val)).queue = r :: rest → s.halfHeld b.val w.val ((Map.get s.windows {} (4 * b.val + w.val)).seq % 2) = false →
    ∃ t, exec (.bnWindowRecord b w) s = .next t ∧
      t.windows = Map.put s.windows {} (4 * b.val + w.val) { seq := ((Map.get s.windows {} (4 * b.val + w.val)).seq + 1) % 2 ^ 32, queue := rest } ∧
      (∀ i v, (windowBytes (s.plan O.bnWDet b.val w.val) (s.plan O.bnWConv b.val w.val) (s.plan O.bnWBinCount b.val w.val) ((r.bins.drop (s.plan O.bnWBinFirst b.val w.val * binBytes (s.plan O.bnWDet b.val w.val) 0)).take (s.plan O.bnWBinCount b.val w.val * binBytes (s.plan O.bnWDet b.val w.val) 0)))[i]? = some v → Map.get t.bench 0 ((b.val * 2 ^ 20 + (s.plan O.bnWBase b.val w.val + (Map.get s.windows {} (4 * b.val + w.val)).seq % 2 * s.halfBytes b.val w.val)) + i) = v) ∧
      (∀ j, j < (b.val * 2 ^ 20 + (s.plan O.bnWBase b.val w.val + (Map.get s.windows {} (4 * b.val + w.val)).seq % 2 * s.halfBytes b.val w.val)) ∨ (b.val * 2 ^ 20 + (s.plan O.bnWBase b.val w.val + (Map.get s.windows {} (4 * b.val + w.val)).seq % 2 * s.halfBytes b.val w.val)) + (windowBytes (s.plan O.bnWDet b.val w.val) (s.plan O.bnWConv b.val w.val) (s.plan O.bnWBinCount b.val w.val) ((r.bins.drop (s.plan O.bnWBinFirst b.val w.val * binBytes (s.plan O.bnWDet b.val w.val) 0)).take (s.plan O.bnWBinCount b.val w.val * binBytes (s.plan O.bnWDet b.val w.val) 0))).length ≤ j → Map.get t.bench 0 j = Map.get s.bench 0 j) ∧
      t.mem = s.mem ∧
      ({ t with windows := s.windows, bench := s.bench, positions := s.positions, regs := s.regs, hid := s.hid, raises := s.raises } : State) = s) ∧
  (∀ (s : State) (b : Fin 16) (w : Fin 4) (r : BusRec) (rest : List BusRec), (Map.get s.windows {} (4 * b.val + w.val)).queue = r :: rest → s.halfHeld b.val w.val ((Map.get s.windows {} (4 * b.val + w.val)).seq % 2) = true → s.attached b.val w.val = [] →
    ∃ t, exec (.bnWindowRecord b w) s = .next t ∧
      t.windows = Map.put s.windows {} (4 * b.val + w.val) { seq := ((Map.get s.windows {} (4 * b.val + w.val)).seq + 1) % 2 ^ 32, queue := rest } ∧
      ({ t with windows := s.windows } : State) = s) ∧
  (∀ (s : State) (p : Pos), (s.aw (posKey p)).running = true → (s.aw (posKey p)).restart = false → (s.aw (posKey p)).token = none → s.shadows = [] →
    ∃ t, exec (.awBudgetOverrun p) s = .next t ∧
      t.reg O.awOverruns (posKey p) = satAdd O.awOverruns.width (s.reg O.awOverruns (posKey p)) 1 ∧
      t.reg O.awFrames (posKey p) = (s.reg O.awFrames (posKey p) + 1) % 2 ^ O.awFrames.width ∧
      t.reg O.awState (posKey p) = 1 ∧
      (t.aw (posKey p)).running = false ∧
      (t.aw (posKey p)).overrun = true ∧
      SrSets (s.core p).sr (t.core p).sr [(SR.ovr, true)] ∧
      (t.core p).regs = { (s.core p).regs with sr := (t.core p).sr } ∧
      (∀ k, k ≠ posKey p → t.aw k = s.aw k) ∧
      Effect s { t with positions := s.positions } [(0x480 + 17 * p.bench.val + s.reg O.awPhys (posKey p), awData (posKey p) 2 (s.aw (posKey p)).frame)] [O.awOverruns.key (posKey p) 0, O.awFrames.key (posKey p) 0, O.awState.key (posKey p) 0, O.awCycMax.key (posKey p) 0] []) ∧
  (∀ (s : State) (m : Master) (p : Pos) (l : List Byte), Owner s m → 32 ≤ l.length → l.length = 32 + ofLe ((l.drop 4).take 4) + ofLe ((l.drop 8).take 4) + ofLe ((l.drop 12).take 4) → l.length ≤ 49056 → ofLe ((l.drop 0).take 2) = 0x5741 → ofLe ((l.drop 2).take 2) = 1 → ofLe ((l.drop 4).take 4) % 4 = 0 → 4 ≤ ofLe ((l.drop 4).take 4) → ofLe ((l.drop 4).take 4) ≤ 16384 → ofLe ((l.drop 8).take 4) ≤ 16256 → ofLe ((l.drop 12).take 4) ≤ 16384 → ofLe ((l.drop 16).take 2) < ofLe ((l.drop 4).take 4) / 4 → ofLe ((l.drop 18).take 2) < ofLe ((l.drop 4).take 4) / 4 ∨ ofLe ((l.drop 18).take 2) = 0xFFFF → imageOk (imageWords ((l.drop 32).take (ofLe ((l.drop 4).take 4)))) = true → s.plan O.awStoreEn = 1 → s.anyPlan (fun q => planVal q O.awEnable (posKey p) == 1) = false →
    ∃ t, exec (.awImageLoad m p l) s = .next t ∧
      t.out = replied s m ∧
      t.dom O.awImage (posKey p) = (l.take 20 ++ List.replicate 12 0 ++ l.drop 32) ∧
      t.xfers = (s.breakReads (O.awImage.key (posKey p) 0)).xfers ∧
      t.hidden H.awValid (posKey p) = 1 ∧
      (t.aw (posKey p)).ilen = ofLe ((l.drop 4).take 4) / 4 ∧
      (t.aw (posKey p)).entry = ofLe ((l.drop 16).take 2) ∧
      (t.aw (posKey p)).ovrEntry = ofLe ((l.drop 18).take 2) ∧
      (∀ a, a < s.awSlot (posKey p) ∨ s.awSlot (posKey p) + l.length ≤ a → t.readByte a = s.readByte a) ∧
      (!s.poison = [] → ∀ i v, (l.take 20 ++ List.replicate 12 0 ++ l.drop 32)[i]? = some v → t.readByte (s.awSlot (posKey p) + i) = v) ∧
      Effect s { t with out := s.out, mem := s.mem, poison := s.poison, positions := s.positions, doms := s.doms, xfers := s.xfers } [] [O.drPortBytes.key 11 0] [hkey H.awValid (posKey p)]) ∧
  (∀ (s : State) (b : Fin 16) (c : Fin 17) (kind : Fin 3), s.reg O.bnPhysState b.val c.val = 1 → s.reg O.bnSpare b.val = c.val → (List.range 16).all (fun i => (s.aw (16 * b.val + i)).loading.isNone) = true →
    ∃ t, exec (.awCoreFail b c kind) s = .next t ∧
      t.reg O.bnPhysState b.val c.val = 2 ∧
      t.reg O.bnSpare b.val = 0xFF ∧
      t.isRetired 3 b.val c.val = true ∧
      t.ledgerDue = s.ledgerDue ++ [{ type := 1, pool := 3, group := b.val, unit := c.val, t96 := s.now, data := kind.val + 1 }] ∧
      t.reg O.poolRetired 0 2 = satAdd O.poolRetired.width (s.reg O.poolRetired 0 2) 1 ∧
      t.reg O.poolSpares 0 2 = s.reg O.poolSpares 0 2 - 1 ∧
      Effect s { t with ledgerDue := s.ledgerDue } [(0x480 + 17 * b.val + c.val, 5 + 65536 * (kind.val + 1))] [O.bnPhysState.key b.val c.val, O.bnSpare.key b.val 0, O.poolRetired.key 0 2, O.poolSpares.key 0 2] [hkey H.retired (unitKey 3 b.val c.val)]) ∧
  (∀ (s : State) (b : Fin 16) (c : Fin 17) (kind : Fin 3) (i : Nat), s.reg O.bnPhysState b.val c.val = 0 → i < 16 → (List.range 16).find? (fun i => s.reg O.awPhys (16 * b.val + i) == c.val) = some i → s.reg O.bnSpare b.val ≠ 0xFF → s.shadows = [] → s.fitting = none →
    ∃ t, exec (.awCoreFail b c kind) s = .next t ∧
      t.reg O.bnPhysState b.val c.val = 2 ∧
      t.reg O.bnSpare b.val = 0xFF ∧
      (t.aw (16 * b.val + i)).loading = some (s.reg O.bnSpare b.val, c.val) ∧
      (t.aw (16 * b.val + i)).running = false ∧
      t.reg O.awState (16 * b.val + i) = 0 ∧
      t.isRetired 3 b.val c.val = true ∧
      Effect s { t with ledgerDue := s.ledgerDue, positions := s.positions } [(0x480 + 17 * b.val + c.val, awData (16 * b.val + i) 5 (kind.val + 1))] [O.bnPhysState.key b.val c.val, O.bnSpare.key b.val 0, O.bnFlags.key b.val 0, O.awState.key (16 * b.val + i) 0, O.poolRetired.key 0 2, O.poolSpares.key 0 2] [hkey H.retired (unitKey 3 b.val c.val)]) ∧
  (∀ (s : State) (p : Pos) (sp failed : Nat), (s.aw (posKey p)).loading = some (sp, failed) → s.hidden H.awValid (posKey p) = 0 →
    ∃ t, exec (.awSpareLoaded p) s = .next t ∧
      t.reg O.awPhys (posKey p) = sp ∧
      t.reg O.bnPhysState p.bench.val sp = 0 ∧
      t.reg O.bnSwaps p.bench.val = satAdd O.bnSwaps.width (s.reg O.bnSwaps p.bench.val) 1 ∧
      t.reg O.awState (posKey p) = (if s.plan O.awEnable (posKey p) = 1 then 1 else 0) ∧
      (t.aw (posKey p)).loading = none ∧
      (t.aw (posKey p)).imem = [] ∧
      Effect s { t with positions := s.positions } [(0x590 + 2 * p.bench.val, p.pos.val + 16 * failed + 512 * sp)] [O.awPhys.key (posKey p) 0, O.bnPhysState.key p.bench.val sp, O.bnSwaps.key p.bench.val 0, O.awState.key (posKey p) 0] [hkey H.drive (0x30 + p.bench.val)]) ∧
  (∀ (s : State) (p : Pos) (addr : BitVec 20),
    ∃ t, exec (.benchMemDoubleError p addr false) s = .next t ∧
      t.reg O.awMemErr (posKey p) = satAdd O.awMemErr.width (s.reg O.awMemErr (posKey p)) 1 ∧
      Effect s t [] [O.awMemErr.key (posKey p) 0] []) ∧
  (∀ (s : State) (p : Pos) (addr : BitVec 20), awRegion (addr.toNat - addr.toNat % 4) = 2 → s.faultRaw (0x30 + p.bench.val) = false →
    ∃ t, exec (.benchMemDoubleError p addr true) s = .next t ∧
      t.awBytes (posKey p) (addr.toNat - addr.toNat % 4) 4 = [0, 0, 0, 0] ∧
      SrSets (s.core p).sr (t.core p).sr [(SR.mf, true)] ∧
      t.hidden H.held (0x30 + p.bench.val) = 1 ∧
      (∀ j, j < p.bench.val * 2 ^ 20 + ((addr.toNat - addr.toNat % 4) - 0x80000) ∨ p.bench.val * 2 ^ 20 + ((addr.toNat - addr.toNat % 4) - 0x80000) + 4 ≤ j → Map.get t.bench 0 j = Map.get s.bench 0 j) ∧
      Effect s { t with bench := s.bench, positions := s.positions } [(0x480 + 17 * p.bench.val + s.reg O.awPhys (posKey p), awData (posKey p) 4 ((addr.toNat - addr.toNat % 4) / 16))] [] [hkey H.held (0x30 + p.bench.val), hkey H.driveData (0x30 + p.bench.val)]) ∧
  (∀ (s : State) (b i : Fin 16) (x : Spill), s.spills.find? (fun y => y.pos == 16 * b.val + i.val) = some x → x.out = true →
    ∃ t, exec (.spillComplete b i) s = .next t ∧
      t.spills = s.spills.erase x ∧
      SrSets (s.aw (16 * b.val + i.val)).core.sr (t.aw (16 * b.val + i.val)).core.sr [(SR.spl, true), (SR.spb, false)] ∧
      t.reg O.drPortBytes 11 = (s.reg O.drPortBytes 11 + x.len) % 2 ^ O.drPortBytes.width ∧
      (∀ a, a < (s.plan O.bnSpillBase b.val + x.off) ∨ (s.plan O.bnSpillBase b.val + x.off) + x.len ≤ a → t.readByte a = s.readByte a) ∧
      (!s.poison = [] → ∀ j, j < x.len → t.readByte ((s.plan O.bnSpillBase b.val + x.off) + j) = Map.get s.bench 0 ((b.val * 2 ^ 20 + x.bench) + j)) ∧
      Effect s { t with spills := s.spills, mem := s.mem, poison := s.poison, positions := s.positions } [] [O.drPortBytes.key 11 0] []) ∧
  (∀ (s : State) (b i : Fin 16) (x : Spill), s.spills.find? (fun y => y.pos == 16 * b.val + i.val) = some x → x.out = false →
    ∃ t, exec (.spillComplete b i) s = .next t ∧
      t.spills = s.spills.erase x ∧
      SrSets (s.aw (16 * b.val + i.val)).core.sr (t.aw (16 * b.val + i.val)).core.sr [(SR.spl, true), (SR.spb, false)] ∧
      t.mem = s.mem ∧
      (∀ j, j < (b.val * 2 ^ 20 + x.bench) ∨ (b.val * 2 ^ 20 + x.bench) + x.len ≤ j → Map.get t.bench 0 j = Map.get s.bench 0 j) ∧
      (∀ j, j < x.len → Map.get t.bench 0 ((b.val * 2 ^ 20 + x.bench) + j) = s.readByte ((s.plan O.bnSpillBase b.val + x.off) + j)) ∧
      ({ t with spills := s.spills, bench := s.bench, positions := s.positions, regs := s.regs, hid := s.hid, raises := s.raises } : State) = s)

/-- Edges of a counter channel are counted, decimated and tagged; the decision window sets the exponent. (R237, R239, R240, R242, R243, R245, R246, R251) It rests on the model's own choices of log entries 100, 102, 119, 147. -/
def Obligations.TaggedEdges : Prop :=
  (∀ (s : State) (ch : Fin 8) (up : Bool) (stop : Fin 4) (code : BitVec 12), bit (s.reg O.pwrDomainOn) 32 = true → s.reg O.ticUndecided ch.val = 0 → s.hidden H.comp ch.val ≠ b2n up → s.plan O.ticSrc ch.val ≠ 0 ∨ s.reg O.ticState ch.val ≠ 1 → (List.range 16).all (fun g => s.plan O.pgMode g == 0) = true →
    ∃ t, exec (.tinEdge ch false up stop code) s = .next t ∧
      t.hidden H.comp ch.val = b2n up ∧
      t.reg O.wmState = setBit (s.reg O.wmState) ch.val up ∧
      ({ t with regs := s.regs, hid := s.hid, raises := s.raises } : State) = s) ∧
  (∀ (s : State) (ch : Fin 8) (up : Bool) (stop : Fin 4) (code : BitVec 12), bit (s.reg O.pwrDomainOn) 32 = true → s.plan O.ticSrc ch.val ≠ 0 → s.reg O.ticState ch.val = 1 → countsEdge (s.plan O.ticPolarity ch.val) up = true → (s.chan ch.val).pendK = none → (s.reg O.ticCount ch.val + 1) % 2 ^ O.ticCount.width % 2 ^ s.reg O.ticK ch.val ≠ 0 →
    ∃ t, exec (.tinEdge ch true up stop code) s = .next t ∧
      t.reg O.ticCount ch.val = (s.reg O.ticCount ch.val + 1) % 2 ^ O.ticCount.width ∧
      t.chan ch.val = { (s.chan ch.val) with inWindow := (s.chan ch.val).inWindow + 1, lastStop := s.idx / 8 + stop.val + 1 } ∧
      Effect s { t with chans := s.chans } [] [O.ticCount.key ch.val 0] []) ∧
  (∀ (s : State) (ch : Fin 8) (up : Bool) (stop : Fin 4) (code : BitVec 12) (ip : Nat) (l : List Nat), bit (s.reg O.pwrDomainOn) 32 = true → s.plan O.ticSrc ch.val ≠ 0 → s.reg O.ticState ch.val = 1 → countsEdge (s.plan O.ticPolarity ch.val) up = true → (s.chan ch.val).pendK = none → (s.reg O.ticCount ch.val + 1) % 2 ^ O.ticCount.width % 2 ^ s.reg O.ticK ch.val = 0 → (s.chan ch.val).turn = ip :: l → taggable (s.chan ch.val) (s.edgePos ch.val ip stop.val code.toNat) = true → (s.chan ch.val).queue = [] → (s.chan ch.val).marks &&& TG.pairMerge = 0 →
    ∃ t, exec (.tinEdge ch true up stop code) s = .next t ∧
      t.reg O.ticCount ch.val = (s.reg O.ticCount ch.val + 1) % 2 ^ O.ticCount.width ∧
      t.chan ch.val = { (s.chan ch.val) with inWindow := (s.chan ch.val).inWindow + 1, lastStop := s.idx / 8 + stop.val + 1, turn := l ++ [ip], lastTag := s.edgePos ch.val ip stop.val code.toNat + 1, marks := 0, drainFrom := s.idx, drained := 0, ringNext := if s.plan O.ticRingSize ch.val = 0 then 0 else ((s.chan ch.val).ringNext + 16) % s.plan O.ticRingSize ch.val, queue := [{ rate := s.plan O.ticDeclRate ch.val, base := s.plan O.ticRingBase ch.val, size := s.plan O.ticRingSize ch.val, off := (s.chan ch.val).ringNext, run := (s.chan ch.val).ringRun, tag := tagRecord (s.tagTime ch.val ip stop.val code.toNat) ch.val up (s.reg O.ticK ch.val) ((s.chan ch.val).marks ||| flagIf s.clkUnqual TG.clkUnqual ||| flagIf s.timeUnset TG.timeUnset) ((s.reg O.ticCount ch.val + 1) % 2 ^ O.ticCount.width) }] } ∧
      t.reg O.ticQueueFill ch.val = 1 ∧
      t.reg O.ticRecords ch.val = (s.reg O.ticRecords ch.val + 1) % 2 ^ O.ticRecords.width ∧
      Effect s { t with chans := s.chans } [] [O.ticCount.key ch.val 0, O.ticQueueFill.key ch.val 0, O.ticRecords.key ch.val 0] []) ∧
  (∀ (s : State) (ch : Fin 8) (up : Bool) (stop : Fin 4) (code : BitVec 12) (ip : Nat) (l : List Nat), bit (s.reg O.pwrDomainOn) 32 = true → s.plan O.ticSrc ch.val ≠ 0 → s.reg O.ticState ch.val = 1 → countsEdge (s.plan O.ticPolarity ch.val) up = true → (s.chan ch.val).pendK = none → (s.reg O.ticCount ch.val + 1) % 2 ^ O.ticCount.width % 2 ^ s.reg O.ticK ch.val = 0 → (s.chan ch.val).turn = ip :: l → taggable (s.chan ch.val) (s.edgePos ch.val ip stop.val code.toNat) = false →
    ∃ t, exec (.tinEdge ch true up stop code) s = .next t ∧
      t.reg O.ticCount ch.val = (s.reg O.ticCount ch.val + 1) % 2 ^ O.ticCount.width ∧
      t.chan ch.val = { (s.chan ch.val) with inWindow := (s.chan ch.val).inWindow + 1, lastStop := s.idx / 8 + stop.val + 1, marks := (s.chan ch.val).marks ||| TG.pairMerge } ∧
      t.reg O.ticMerged ch.val = satAdd O.ticMerged.width (s.reg O.ticMerged ch.val) 1 ∧
      Effect s { t with chans := s.chans } [] [O.ticCount.key ch.val 0, O.ticMerged.key ch.val 0] []) ∧
  (∀ (s : State) (ch : Fin 8), s.reg O.ticState ch.val = 1 → (s.chan ch.val).queue = [] → s.reg O.ticK ch.val < (ktFrom (s.chan ch.val).inWindow (f64 (s.plan O.ticDeclRate ch.val) * 4096 * 8 / s.froot) (s.plan O.ticKMax ch.val - s.plan O.ticKMin ch.val) (s.plan O.ticKMin ch.val)) →
    ∃ t, exec (.ticDecisionWindow ch) s = .next t ∧
      t.chan ch.val = { (s.chan ch.val) with inWindow := 0, pendK := some (ktFrom (s.chan ch.val).inWindow (f64 (s.plan O.ticDeclRate ch.val) * 4096 * 8 / s.froot) (s.plan O.ticKMax ch.val - s.plan O.ticKMin ch.val) (s.plan O.ticKMin ch.val)) } ∧
      ({ t with chans := s.chans } : State) = s)

/-- A counter channel calibrates its interpolators in rotation and replaces a failed one. (R253, R254, R255) It rests on the model's own choices of log entries 21, 101, 103, 148. -/
def Obligations.LoupeCalibration : Prop :=
  (∀ (s : State) (ch : Fin 8) (i : Nat), s.reg O.ticState ch.val = 1 → s.plan O.ticCalMode ch.val ≠ 0 → (s.chan ch.val).run = 0 → s.idleIp ch.val = some i → (s.chan ch.val).due = true →
    ∃ t, exec (.ticCalEvaluate ch) s = .next t ∧
      t.chan ch.val = { (s.chan ch.val) with run := 1, again := false, due := false } ∧
      t.reg O.ipState ch.val i = 2 ∧
      t.reg O.ticCalState ch.val = 1 ∧
      Effect s { t with chans := s.chans } [] [O.ipState.key ch.val i, O.ticCalState.key ch.val 0] []) ∧
  (∀ (s : State) (m : Master) (ch : Fin 8) (i : Nat), Owner s m → bit (s.reg O.pwrDomainOn) 32 = true → s.reg O.ticState ch.val = 1 → s.plan O.ticCalMode ch.val ≠ 0 → (s.chan ch.val).run = 0 → s.idleIp ch.val = some i →
    ∃ t, exec (.ticCalCmd m ch 1) s = .next t ∧
      t.out = replied s m ∧
      t.chan ch.val = { (s.chan ch.val) with run := 1, again := false, due := false } ∧
      t.reg O.ipState ch.val i = 2 ∧
      t.reg O.ticCalState ch.val = 1 ∧
      Effect s { t with out := s.out, chans := s.chans } [] [O.ipState.key ch.val i, O.ticCalState.key ch.val 0] []) ∧
  (∀ (s : State) (ch : Fin 8) (i : Nat) (l : List Nat), s.idleIp ch.val = some i → (s.chan ch.val).run ≠ 0 → (s.chan ch.val).run < 5 → (s.chan ch.val).swap = none → loupeReason l false = 0 →
    ∃ t, exec (.loupeRunEnd ch l false) s = .next t ∧
      t.chan ch.val = { (s.chan ch.val) with age := Map.put (s.chan ch.val).age 0 i ((s.chan ch.val).ageLast + 1), ageLast := (s.chan ch.val).ageLast + 1, again := false, swap := some (i, oldestIp { (s.chan ch.val) with age := Map.put (s.chan ch.val).age 0 i ((s.chan ch.val).ageLast + 1), ageLast := (s.chan ch.val).ageLast + 1, again := false }) } ∧
      t.dom O.loupeTable (16 * ch.val + i) = (loupeTable s.fcPeriod l).flatMap (fun v => leBytes v 4) ∧
      ({ t with chans := s.chans, doms := s.doms } : State) = s) ∧
  (∀ (s : State) (ch : Fin 8) (i : Nat) (l : List Nat), s.idleIp ch.val = some i → (s.chan ch.val).run = 5 → (s.chan ch.val).swap = none → loupeReason l false = 0 →
    ∃ t, exec (.loupeRunEnd ch l false) s = .next t ∧
      t.chan ch.val = { (s.chan ch.val) with age := Map.put (s.chan ch.val).age 0 i ((s.chan ch.val).ageLast + 1), ageLast := (s.chan ch.val).ageLast + 1, again := false, run := 0 } ∧
      t.reg O.ipState ch.val i = 1 ∧
      t.reg O.ticCalTref ch.val = s.ticTemp ch.val ∧
      t.hidden H.calStale = 1 ∧
      t.dom O.loupeTable (16 * ch.val + i) = (loupeTable s.fcPeriod l).flatMap (fun v => leBytes v 4) ∧
      Effect s { t with chans := s.chans, doms := s.doms } [(ticEvent ch.val 7, s.ticTemp ch.val)] [O.ipState.key ch.val i, O.ticCalTref.key ch.val 0, O.ticCalState.key ch.val 0] [hkey H.calStale]) ∧
  (∀ (s : State) (ch : Fin 8) (l : List Nat) (hard : Bool), (s.idleIp ch.val).isSome = true → (s.chan ch.val).run ≠ 0 → (s.chan ch.val).swap = none → loupeReason l hard ≠ 0 → (s.chan ch.val).again = false →
    ∃ t, exec (.loupeRunEnd ch l hard) s = .next t ∧
      t.chan ch.val = { (s.chan ch.val) with again := true } ∧
      ({ t with chans := s.chans } : State) = s) ∧
  (∀ (s : State) (ch : Fin 8) (i j : Nat), (s.chan ch.val).swap = some (i, j) → i < 5 → j < 5 → i ≠ j →
    ∃ t, exec (.loupeStep ch) s = .next t ∧
      t.chan ch.val = { (s.chan ch.val) with swap := none, run := (s.chan ch.val).run + 1, turn := (s.chan ch.val).turn.map (fun x => if x = j then i else x), marks := (s.chan ch.val).marks ||| TG.loupeStep } ∧
      t.reg O.ipState ch.val i = 0 ∧
      t.reg O.ipState ch.val j = 2 ∧
      t.reg O.ticCalSeq ch.val = (s.reg O.ticCalSeq ch.val + 1) % 2 ^ O.ticCalSeq.width ∧
      Effect s { t with chans := s.chans } [(ticEvent ch.val 3, (s.reg O.ticCalSeq ch.val + 1) % 2 ^ O.ticCalSeq.width + 65536 * i + 1048576 * j)] [O.ipState.key ch.val i, O.ipState.key ch.val j, O.ticCalSeq.key ch.val 0] []) ∧
  (∀ (s : State) (ch : Fin 8) (ip : Fin 5) (i : Nat), s.reg O.ipState ch.val ip.val = 0 → s.idleIp ch.val = some i → s.plan O.ticCalMode ch.val ≠ 1 →
    ∃ t, exec (.ipHardFailure ch ip none) s = .next t ∧
      t.chan ch.val = { (s.chan ch.val) with turn := (s.chan ch.val).turn.filter (· != ip.val), join := some i, run := 0, again := false, swap := none } ∧
      t.reg O.ipState ch.val ip.val = 3 ∧
      t.reg O.ipState ch.val i = 0 ∧
      t.reg O.ticCalState ch.val = 3 ∧
      t.isRetired 4 ch.val ip.val = true ∧
      t.ledgerDue = s.ledgerDue ++ [{ type := 1, pool := 4, group := ch.val, unit := ip.val, t96 := s.now, data := 4 + 256 }] ∧
      Effect s { t with chans := s.chans, ledgerDue := s.ledgerDue } [(ticEvent ch.val 4, ip.val + 256 * 4), (ticEvent ch.val 5, s.plan O.ticCalMode ch.val)] [O.ipState.key ch.val ip.val, O.ipState.key ch.val i, O.ticCalState.key ch.val 0, O.ticMinSpacing.key ch.val 0, O.poolRetired.key 0 3, O.poolSpares.key 0 3] [hkey H.retired (unitKey 4 ch.val ip.val)])

/-- Gates open and close, and each closed gate gives its result. (R261, R262, R263, R264, R271, R273, R275) It rests on the model's own choices of log entries 22, 105, 106, 119, 149. -/
def Obligations.MeasurementSlots : Prop :=
  (∀ (s : State) (sl : Fin 16) (a : Nat), s.reg O.msState sl.val = 2 → s.plan O.msGateKind sl.val = 0 → ((s.slot sl.val).armT + ((s.slot sl.val).gate + 1) * s.gateTime sl.val) ≤ s.nowTicks → (s.slot sl.val).openT = some a → (s.slot sl.val).stopping = false → s.plan O.msGates sl.val = 0 ∨ (s.slot sl.val).done + 1 < s.plan O.msGates sl.val →
    ∃ t, exec (.msTimeGateBoundary sl) s = .next t ∧
      t.slot sl.val = { (s.slot sl.val) with closed := (s.slot sl.val).closed ++ [⟨a, ((s.slot sl.val).armT + ((s.slot sl.val).gate + 1) * s.gateTime sl.val), (s.reg O.ticCount (s.plan O.msChanA sl.val) + 2 ^ 64 - (s.slot sl.val).openCount) % 2 ^ 64, false, (s.slot sl.val).gate != 0, (s.slot sl.val).gate⟩], openT := some ((s.slot sl.val).armT + ((s.slot sl.val).gate + 1) * s.gateTime sl.val), gate := (s.slot sl.val).gate + 1, openCount := s.reg O.ticCount (s.plan O.msChanA sl.val), done := (s.slot sl.val).done + 1 } ∧
      t.reg O.msState sl.val = 2 ∧
      ({ t with slots := s.slots, regs := s.regs } : State) = s) ∧
  (∀ (s : State) (sl : Fin 16) (a : Nat), s.reg O.msState sl.val = 2 → s.plan O.msGateKind sl.val = 0 → ((s.slot sl.val).armT + ((s.slot sl.val).gate + 1) * s.gateTime sl.val) ≤ s.nowTicks → (s.slot sl.val).openT = some a → (s.slot sl.val).stopping = false → s.plan O.msGates sl.val ≠ 0 → s.plan O.msGates sl.val ≤ (s.slot sl.val).done + 1 →
    ∃ t, exec (.msTimeGateBoundary sl) s = .next t ∧
      t.slot sl.val = { (s.slot sl.val) with closed := (s.slot sl.val).closed ++ [⟨a, ((s.slot sl.val).armT + ((s.slot sl.val).gate + 1) * s.gateTime sl.val), (s.reg O.ticCount (s.plan O.msChanA sl.val) + 2 ^ 64 - (s.slot sl.val).openCount) % 2 ^ 64, false, (s.slot sl.val).gate != 0, (s.slot sl.val).gate⟩], openT := none, openCount := s.reg O.ticCount (s.plan O.msChanA sl.val), done := (s.slot sl.val).done + 1 } ∧
      t.reg O.msState sl.val = 4 ∧
      Effect s { t with slots := s.slots } [] [O.msState.key sl.val 0] []) ∧
  (∀ (s : State) (gate : Fin 9) (asserted : Bool) (cyc : Fin 4), s.hidden H.gateSrc gate.val ≠ b2n asserted →
    ∃ t, exec (.msExtGateChange gate asserted cyc) s = .next t ∧
      t.hidden H.gateSrc gate.val = b2n asserted ∧
      (∀ sl, sl < 16 → asserted = true → s.plan O.msEnable sl = 1 → s.plan O.msGateSel sl = gate.val → s.reg O.msState sl = 3 → s.plan O.msGateKind sl = 1 → (t.slot sl).openT = some (s.after 8 cyc.val - s.hidden H.gateLat gate.val) ∧ t.reg O.msState sl = 2) ∧
      ({ t with slots := s.slots, regs := s.regs, raises := s.raises, hid := s.hid } : State) = s) ∧
  (∀ (s : State) (sl : Fin 16) (g : Gate) (rest : List Gate), (s.slot sl.val).closed = g :: rest → s.plan O.msFunc sl.val = 6 → (s.chan (s.plan O.msChanA sl.val)).queue = [] → (s.chan (s.plan O.msChanB sl.val)).queue = [] → s.plan O.msRingSize = 0 →
    ∃ t, exec (.msResult sl) s = .next t ∧
      t.reg O.msResult sl.val = toF64 (g.edges : Rat) ∧
      t.reg O.msResultSeq sl.val = (s.slot sl.val).seq ∧
      t.reg O.msEdges sl.val = g.edges ∧
      (t.slot sl.val).closed = rest ∧
      (t.slot sl.val).seq = ((s.slot sl.val).seq + 1) % 2 ^ 32 ∧
      ({ t with slots := s.slots, regs := s.regs, hid := s.hid, raises := s.raises, out := s.out, chans := s.chans } : State) = s) ∧
  (∀ (s : State) (sl : Fin 16) (g : Gate) (rest : List Gate), (s.slot sl.val).closed = g :: rest → s.plan O.msFunc sl.val = 6 → (s.chan (s.plan O.msChanA sl.val)).queue = [] → (s.chan (s.plan O.msChanB sl.val)).queue = [] → s.streamsFree 7 0 = true → s.plan O.msGateKind sl.val = 0 → s.reg O.msRingWritePtr + 64 ≤ s.plan O.msRingSize →
    ∃ t, exec (.msResult sl) s = .next t ∧
      t.reg O.msResult sl.val = toF64 (g.edges : Rat) ∧
      t.reg O.msResultSeq sl.val = (s.slot sl.val).seq ∧
      t.reg O.msEdges sl.val = g.edges ∧
      (t.slot sl.val).closed = rest ∧
      (t.slot sl.val).seq = ((s.slot sl.val).seq + 1) % 2 ^ 32 ∧
      t.reg O.msRingWritePtr = (s.reg O.msRingWritePtr + 64) % s.plan O.msRingSize ∧
      (∀ a, a < s.plan O.msRingBase + s.reg O.msRingWritePtr ∨ s.plan O.msRingBase + s.reg O.msRingWritePtr + 64 ≤ a → t.readByte a = s.readByte a) ∧
      ({ t with slots := s.slots, regs := s.regs, hid := s.hid, raises := s.raises, out := s.out, chans := s.chans, mem := s.mem, poison := s.poison } : State) = s) ∧
  (∀ (s : State) (m : Master) (sl : Fin 16), Owner s m → bit (s.reg O.pwrDomainOn) 32 = true → sl.val < 4 →
    ∃ t, exec (.msAdevReset m sl 1) s = .next t ∧
      t.out = replied s m ∧
      t.slot sl.val = { s.slot sl.val with sums := List.replicate 32 0 } ∧
      (List.range 32).all (fun j => t.reg O.adSigma sl.val j == 0 && t.reg O.adTerms sl.val j == 0) = true ∧
      Effect s { t with out := s.out, slots := s.slots } [] ((List.range 32).flatMap (fun j => [O.adSigma.key sl.val j, O.adTerms.key sl.val j])) [])

/-- The crystal correction, the steward loop PLL-C, the root loop PLL-A and phase steps. (R283, R285, R286, R287, R289, R290, R292, R295, R296, R297) It rests on the model's own choices of log entries 112, 114, 116, 192, 195. -/
def Obligations.Clocks : Prop :=
  (∀ (s : State) (temp : BitVec 32),
    ∃ t, exec (.xoCompUpdate temp) s = .next t ∧
      t.reg O.xoTemp = temp.toNat ∧
      t.hidden H.xoAt = s.up ∧
      t.hidden H.xoFrom = toF64 s.xoNow ∧
      t.reg O.xoCorr = toF64 (-(s.xoTc (f32 temp.toNat) / 1000 + (toI 32 (s.reg O.xoAgeRate) : Rat) * (((s.nowTicks : Int) - (T96.toTicks (s.reg O.xoAgeT0) : Nat) : Int) / (tickHz * 86400)) / 1000000)) ∧
      Effect s t [] [O.xoTemp.key 0 0, O.xoCorr.key 0 0] [hkey H.xoFrom, hkey H.xoAt]) ∧
  (∀ (s : State) (m : Master) (v : Nat), Owner s m → v < 2 ^ 32 →
    ∃ t, exec (.xoAgeRateWrite m v) s = .next t ∧
      t.out = replied s m ∧
      t.reg O.xoAgeRate = v ∧
      t.reg O.xoAgeT0 = s.now ∧
      Effect s { t with out := s.out } [] [O.xoAgeRate.key 0 0, O.xoAgeT0.key 0 0] []) ∧
  (∀ (s : State) (start phase delta : Int) (refHz : BitVec 64), s.reg O.pllcState = 4 →
    ∃ t, exec (.pllcLockGate start phase delta refHz) s = .next t ∧
      t.reg O.pllcFreqErr = toF64 (((phase : Rat) - (if s.hidden H.gateBase = 1 then f64 (s.reg O.pllcPhaseErr) else (start : Rat))) / (s.plan O.pllcLockGate : Rat)) ∧
      t.reg O.pllcPhaseErr = toF64 phase ∧
      t.reg O.pllcRefFreq = refHz.toNat ∧
      t.reg O.pllcLocked = b2n (decide (ratAbs (((phase : Rat) - (if s.hidden H.gateBase = 1 then f64 (s.reg O.pllcPhaseErr) else (start : Rat))) / (s.plan O.pllcLockGate : Rat)) ≤ f32 (s.plan O.pllcLockPpb))) ∧
      Effect s t (if s.reg O.pllcLocked = b2n (decide (ratAbs (((phase : Rat) - (if s.hidden H.gateBase = 1 then f64 (s.reg O.pllcPhaseErr) else (start : Rat))) / (s.plan O.pllcLockGate : Rat)) ≤ f32 (s.plan O.pllcLockPpb))) then [] else [(if ratAbs (((phase : Rat) - (if s.hidden H.gateBase = 1 then f64 (s.reg O.pllcPhaseErr) else (start : Rat))) / (s.plan O.pllcLockGate : Rat)) ≤ f32 (s.plan O.pllcLockPpb) then 0x041 else 0x042, toF64 (((phase : Rat) - (if s.hidden H.gateBase = 1 then f64 (s.reg O.pllcPhaseErr) else (start : Rat))) / (s.plan O.pllcLockGate : Rat)))]) [O.pllcFreqErr.key 0 0, O.pllcPhaseErr.key 0 0, O.pllcRefFreq.key 0 0, O.pllcLocked.key 0 0] [hkey H.gateBase]) ∧
  (∀ (s : State) (start phase delta : Int) (refHz : BitVec 64), s.reg O.pllcState = 1 → ratAbs (((phase : Rat) - (if s.hidden H.gateBase = 1 then f64 (s.reg O.pllcPhaseErr) else (start : Rat))) / (s.plan O.pllcLockGate : Rat)) ≤ f32 (s.plan O.pllcLockPpb) →
    ∃ t, exec (.pllcLockGate start phase delta refHz) s = .next t ∧
      t.reg O.pllcFreqErr = toF64 (((phase : Rat) - (if s.hidden H.gateBase = 1 then f64 (s.reg O.pllcPhaseErr) else (start : Rat))) / (s.plan O.pllcLockGate : Rat)) ∧
      t.reg O.pllcPhaseErr = toF64 phase ∧
      t.reg O.pllcRefFreq = refHz.toNat ∧
      t.reg O.pllcLocked = 1 ∧
      t.reg O.pllcState = 2 ∧
      Effect s t ((if s.reg O.pllcLocked = 1 then [] else [(0x041, toF64 (((phase : Rat) - (if s.hidden H.gateBase = 1 then f64 (s.reg O.pllcPhaseErr) else (start : Rat))) / (s.plan O.pllcLockGate : Rat)))]) ++ [(0x040, 2 + 16 * 1)]) [O.pllcFreqErr.key 0 0, O.pllcPhaseErr.key 0 0, O.pllcRefFreq.key 0 0, O.pllcLocked.key 0 0, O.pllcState.key 0 0] [hkey H.gateBase]) ∧
  (∀ (s : State) (cause : Fin 3) (average : BitVec 64), s.plan O.pllcSrc ≠ 0 → s.hidden H.refPresent ≠ 0 → s.reg O.pllcState = 2 →
    ∃ t, exec (.pllcRefLost cause average) s = .next t ∧
      t.reg O.pllcState = 3 ∧
      t.reg O.pllcHoldRatio = average.toNat ∧
      t.reg O.pllcHoldT96 = s.now ∧
      t.hidden H.refPresent = 0 ∧
      Effect s t [(0x043, cause.val + 1), (0x040, 3 + 16 * 2)] [O.pllcState.key 0 0, O.pllcHoldRatio.key 0 0, O.pllcHoldT96.key 0 0] [hkey H.refPresent, hkey H.handoff, hkey H.gateBase, hkey H.ppsHeld]) ∧
  (∀ (s : State) (refHz : BitVec 64), s.plan O.pllcSrc ≠ 0 → s.reg O.pllcState = 3 → ratAbs (f64 refHz.toNat - s.refNominal) * 1000000 ≤ f32 (s.plan O.pllcRefWin) * s.refNominal →
    ∃ t, exec (.pllcRefReturn refHz) s = .next t ∧
      t.reg O.pllcState = 4 ∧
      t.reg O.pllcRefFreq = refHz.toNat ∧
      t.hidden H.refPresent = 1 ∧
      t.hidden H.qualHeld = 1 ∧
      t.hidden H.gateBase = 0 ∧
      Effect s t [(0x040, 4 + 16 * 3)] [O.pllcState.key 0 0, O.pllcRefFreq.key 0 0] [hkey H.refPresent, hkey H.qualHeld, hkey H.gateBase]) ∧
  (∀ (s : State) (measured : Int), s.reg O.pllcState = 4 → s.hidden H.newSource ≠ 1 → (s.resolveDelta measured).natAbs ≤ s.plan O.pllcPhasePull →
    ∃ t, exec (.pllcQualified measured) s = .next t ∧
      t.reg O.pllcState = 5 ∧
      t.reg O.pllcPhaseErr = toF64 (s.resolveDelta measured) ∧
      Effect s t [(0x040, 5 + 16 * 4)] [O.pllcState.key 0 0, O.pllcPhaseErr.key 0 0] [hkey H.refPresent, hkey H.gateBase]) ∧
  (∀ (s : State) (measured : Int), s.reg O.pllcState = 4 → s.hidden H.newSource ≠ 1 → s.plan O.pllcPhasePull < (s.resolveDelta measured).natAbs →
    ∃ t, exec (.pllcQualified measured) s = .next t ∧
      t.reg O.pllcState = 6 ∧
      t.hidden H.handoff = 1 ∧
      t.reg O.pllcPhaseErr = 0 ∧
      Effect s t [(0x040, 6 + 16 * 4)] [O.pllcState.key 0 0, O.pllcPhaseErr.key 0 0] [hkey H.refPresent, hkey H.gateBase, hkey H.handoff]) ∧
  (∀ (s : State) (after : Nat) (phase : Int), s.plan O.ppsinEn ≠ 0 → s.plan O.servoSrc ≠ 1 →
    ∃ t, exec (.ppsinEdge after phase) s = .next t ∧
      t.reg O.ppsinPhase = toF64 (((if 2 * ((s.nowTicks + after) % T96.second) < T96.second then (((s.nowTicks + after) % T96.second : Nat) : Int) else (((s.nowTicks + after) % T96.second : Nat) : Int) - (T96.second : Int)) : Rat) * 1000 / 65536) ∧
      t.hidden H.ppsLast = s.upTicks + after + 1 ∧
      t.hidden H.ppsPhase = ofI 64 phase ∧
      Effect s t [] [O.ppsinPhase.key 0 0] [hkey H.ppsLast, hkey H.ppsSince, hkey H.ppsPhase]) ∧
  (∀ (s : State), s.reg O.pllaState = 1 →
    ∃ t, exec (.pllaLock) s = .next t ∧
      t.reg O.pllaState = 2 ∧
      t.reg O.pllaLol = 0 ∧
      t.reg O.phaseTotal = 0 ∧
      t.reg O.pllaLockT96 = s.now ∧
      t.idx = 0 ∧
      t.hidden H.restarting = 0 ∧
      t.reg O.pllaN = (pllaRatio (s.plan O.frootHz) (s.plan O.pllaMode)).1 ∧
      t.reg O.pllaFrac = (pllaRatio (s.plan O.frootHz) (s.plan O.pllaMode)).2) ∧
  (∀ (s : State) (m : Master), Owner s m → bit (s.reg O.pwrDomainOn) 5 = true → s.reg O.pllaState ≠ 1 →
    ∃ t, exec (.pllaRelock m 1) s = .next t ∧
      (m ≠ .host → t.out.head? = some (.answer m.id 0)) ∧
      t.reg O.pllaState = 1 ∧
      t.reg O.phaseRemain = 0 ∧
      t.hidden H.restarting = 1 ∧
      t.hidden H.frootOld = s.reg O.frootActual) ∧
  (∀ (s : State), s.reg O.pllaState = 2 → s.reg O.pllaLol = 0 →
    ∃ t, exec (.pllaLolDetect) s = .next t ∧
      t.reg O.pllaLol = 1 ∧
      t.reg O.pllaState = 2 ∧
      t.raises.any (fun r => r.event == 0x046 && r.data == (s.now >>> 48)) = true) ∧
  (∀ (s : State) (m : Master) , Owner s m → bit (s.reg O.pwrDomainOn) 5 = true →
    ∃ t, exec (.pllaLolClr m 1) s = .next t ∧
      t.out = replied s m ∧
      t.reg O.pllaLol = 0 ∧
      Effect s { t with out := s.out, conv := s.conv } [] [O.pllaLol.key 0 0] []) ∧
  (∀ (s : State) (m : Master) (v : Nat), Owner s m → bit (s.reg O.pwrDomainOn) 5 = true → v < 2 ^ 32 → O.phaseStep.checks (v &&& O.phaseStep.mask) = true → v ≠ 0 → s.reg O.pllaState = 2 → (toI 32 (s.reg O.phaseRemain) + toI 32 v).natAbs ≤ 65535 →
    ∃ t, exec (.phaseStep m v) s = .next t ∧
      t.out = replied s m ∧
      t.reg O.phaseRemain = ofI 32 (toI 32 (s.reg O.phaseRemain) + toI 32 v) ∧
      Effect s { t with out := s.out } (if toI 32 (s.reg O.phaseRemain) + toI 32 v = 0 then [(0x047, s.reg O.phaseTotal % 2 ^ 32)] else []) [O.phaseRemain.key 0 0] []) ∧
  (∀ (s : State) (m : Master) (v : Nat), Owner s m → bit (s.reg O.pwrDomainOn) 5 = true → v < 2 ^ 32 → O.phaseStep.checks (v &&& O.phaseStep.mask) = true → v ≠ 0 → s.reg O.pllaState = 2 → (toI 32 (s.reg O.phaseRemain) + toI 32 v).natAbs ≤ 65535 → toI 32 (s.reg O.phaseRemain) + toI 32 v ≠ 0 →
    ∃ t, exec (.phaseStep m v) s = .next t ∧
      t.out = replied s m ∧
      t.thenDoes .phaseStepApply (fun u => (u.reg O.phaseTotal, u.reg O.phaseRemain)) = some (ofI 64 (toI 64 (s.reg O.phaseTotal) + (if 0 < toI 32 (s.reg O.phaseRemain) + toI 32 v then 1 else -1)), ofI 32 (toI 32 (s.reg O.phaseRemain) + toI 32 v - (if 0 < toI 32 (s.reg O.phaseRemain) + toI 32 v then 1 else -1))) ∧
      ({ t with out := s.out, regs := s.regs, hid := s.hid, raises := s.raises } : State) = s) ∧
  (∀ (s : State), s.reg O.pllaState = 2 → toI 32 (s.reg O.phaseRemain) ≠ 0 →
    ∃ t, exec (.phaseStepApply) s = .next t ∧
      t.reg O.phaseRemain = ofI 32 (toI 32 (s.reg O.phaseRemain) - (if 0 < toI 32 (s.reg O.phaseRemain) then 1 else -1)) ∧
      t.reg O.phaseTotal = ofI 64 (toI 64 (s.reg O.phaseTotal) + (if 0 < toI 32 (s.reg O.phaseRemain) then 1 else -1)) ∧
      t.tc = ((s.tc : Int) + rne ((1000000000 * 2 ^ 64 : Nat) / (512 * s.froot)) * (if 0 < toI 32 (s.reg O.phaseRemain) then 1 else -1)).toNat ∧
      ({ t with tc := s.tc, regs := s.regs, raises := s.raises, conv := s.conv, timeline := s.timeline } : State) = s)

/-- Setting, stepping, slewing and trimming device time, and the servo. (R302, R303, R304, R305, R306, R308, R317) It rests on the model's own choices of log entries 7, 23, 115, 177. -/
def Obligations.TimeSteps : Prop :=
  (∀ (s : State) (m : Master) (v : Nat), Owner s m → v < 2 ^ 96 → T96.ok v = true → s.reg O.tcValid = 0 →
    ∃ t, exec (.tcSet m v) s = .next t ∧
      t.out = replied s m ∧
      t.tc = T96.toTicks v * 2 ^ 48 ∧
      t.reg O.tcValid = 1 ∧
      t.raises.any (fun r => r.event == 0x060) = true ∧
      t.up = s.up ∧
      t.idx = s.idx ∧
      ({ t with out := s.out, tc := s.tc, regs := s.regs, hid := s.hid, raises := s.raises, conv := s.conv, timeline := s.timeline, holds := s.holds, pgs := s.pgs } : State) = s) ∧
  (∀ (s : State) (m : Master) (v : Nat), Owner s m → v < 2 ^ 96 → T96.ok v = true → s.reg O.tcValid ≠ 0 → s.reg O.jumpMax ≠ 0 → (((T96.toTicks v : Nat) : Int) - (s.nowTicks : Nat)).natAbs ≤ s.reg O.jumpMax * 65536 → (T96.toTicks v : Int) < timeTop →
    ∃ t, exec (.tcSet m v) s = .next t ∧
      t.out = replied s m ∧
      t.steps = s.steps ++ [(true, (T96.toTicks v : Int))] ∧
      Effect s { t with out := s.out, steps := s.steps } [] [] []) ∧
  (∀ (s : State) (m : Master) (v : Nat), Owner s m → v < 2 ^ 96 → T96.ok v = true → s.reg O.tcValid ≠ 0 → s.reg O.jumpMax ≠ 0 → s.steps = [] → (((T96.toTicks v : Nat) : Int) - (s.nowTicks : Nat)).natAbs ≤ s.reg O.jumpMax * 65536 → (T96.toTicks v : Int) < timeTop →
    ∃ t, exec (.tcSet m v) s = .next t ∧
      t.out = replied s m ∧
      t.thenDoes .tcStepApply (fun u => (u.steps, u.tc)) = some ([], ((s.tc : Int) + (((T96.toTicks v : Nat) : Int) - (s.nowTicks : Nat)) * 2 ^ 48).toNat) ∧
      ({ t with out := s.out, steps := s.steps } : State) = s) ∧
  (∀ (s : State) (m : Master) (v : Nat), Owner s m → v < 2 ^ 64 → s.reg O.tcValid ≠ 0 → s.reg O.jumpMax ≠ 0 → (toI 64 v).natAbs ≤ s.reg O.jumpMax * 65536 → 0 ≤ (s.nowTicks : Int) + toI 64 v ∧ (s.nowTicks : Int) + toI 64 v < timeTop →
    ∃ t, exec (.tcStep m v) s = .next t ∧
      t.out = replied s m ∧
      t.steps = s.steps ++ [(false, toI 64 v)] ∧
      Effect s { t with out := s.out, steps := s.steps } [] [] []) ∧
  (∀ (s : State) (m : Master) (v : Nat), Owner s m → v < 2 ^ 64 → s.reg O.tcValid ≠ 0 → s.reg O.jumpMax ≠ 0 → s.steps = [] → (toI 64 v).natAbs ≤ s.reg O.jumpMax * 65536 → 0 ≤ (s.nowTicks : Int) + toI 64 v ∧ (s.nowTicks : Int) + toI 64 v < timeTop →
    ∃ t, exec (.tcStep m v) s = .next t ∧
      t.out = replied s m ∧
      t.thenDoes .tcStepApply (fun u => (u.steps, u.tc)) = some ([], ((s.tc : Int) + (toI 64 v) * 2 ^ 48).toNat) ∧
      ({ t with out := s.out, steps := s.steps } : State) = s) ∧
  (∀ (s : State) (m : Master) (v : Nat), s.dictReady = true → s.connected .host = true → s.owns .host = true → m = Master.host → v < 2 ^ 64 → s.reg O.tcValid ≠ 0 → s.reg O.jumpMax = 0 ∨ s.reg O.jumpMax * 65536 < (toI 64 v).natAbs → 0 ≤ (s.nowTicks : Int) + toI 64 v ∧ (s.nowTicks : Int) + toI 64 v < timeTop →
    ∃ t, exec (.tcStep m v) s = .next t ∧
      t.hidden H.heldOffset = ofI 128 (toI 64 v) ∧
      t.reg O.tcStepHeld = i64 (toI 64 v) ∧
      t.reg O.tcStepHeldSrc = 1 ∧
      t.reg O.tcStepHeldSeq = (s.reg O.tcStepHeldSeq + 1) % 2 ^ 32 ∧
      t.reg O.pcieLastAbort = Abort.range ∧
      Effect s t [(0x062, (s.reg O.tcStepHeldSeq + 1) % 2 ^ 32 + 2 ^ 32 * 1), (0x019, Abort.range)] [O.tcStepHeld.key 0 0, O.tcStepHeldSrc.key 0 0, O.tcStepHeldSeq.key 0 0, O.pcieLastAbort.key 0 0] [hkey H.heldOffset]) ∧
  (∀ (s : State) (m : Master) (v : Nat), Owner s m → v < 2 ^ 32 → s.reg O.tcStepHeldSrc ≠ 0 → v = s.reg O.tcStepHeldSeq → s.inRange (toI 128 (s.hidden H.heldOffset)) = true →
    ∃ t, exec (.tcStepAccept m v) s = .next t ∧
      t.out = replied s m ∧
      t.steps = s.steps ++ [(false, toI 128 (s.hidden H.heldOffset))] ∧
      t.reg O.tcStepHeld = 0 ∧
      t.reg O.tcStepHeldSrc = 0 ∧
      Effect s { t with out := s.out, steps := s.steps } [] [O.tcStepHeld.key 0 0, O.tcStepHeldSrc.key 0 0] [hkey H.heldOffset]) ∧
  (∀ (s : State) (m : Master) (v : Nat), Owner s m → v < 2 ^ 32 → s.reg O.tcStepHeldSrc ≠ 0 → v = s.reg O.tcStepHeldSeq → s.steps = [] → s.inRange (toI 128 (s.hidden H.heldOffset)) = true →
    ∃ t, exec (.tcStepAccept m v) s = .next t ∧
      t.out = replied s m ∧
      t.thenDoes .tcStepApply (fun u => (u.steps, u.tc)) = some ([], ((s.tc : Int) + (toI 128 (s.hidden H.heldOffset)) * 2 ^ 48).toNat) ∧
      ({ t with out := s.out, steps := s.steps, regs := s.regs, hid := s.hid } : State) = s) ∧
  (∀ (s : State), s.steps ≠ [] → s.inRange (s.steps.foldl (fun a q => a + stepOffset s.nowTicks q) 0) = true →
    ∃ t, exec (.tcStepApply) s = .next t ∧
      t.steps = [] ∧
      t.tc = ((s.tc : Int) + (s.steps.foldl (fun a q => a + stepOffset s.nowTicks q) 0) * 2 ^ 48).toNat ∧
      t.reg O.tcLastStep = i64 (s.steps.foldl (fun a q => a + stepOffset s.nowTicks q) 0) ∧
      t.raises.any (fun r => r.event == 0x061 && r.data == (i64 (s.steps.foldl (fun a q => a + stepOffset s.nowTicks q) 0))) = true ∧
      t.up = s.up ∧
      t.idx = s.idx ∧
      ({ t with tc := s.tc, steps := s.steps, regs := s.regs, hid := s.hid, raises := s.raises, conv := s.conv, timeline := s.timeline, holds := s.holds, pgs := s.pgs } : State) = s) ∧
  (∀ (s : State) (m : Master) (v : Nat), Owner s m → v < 2 ^ 64 → O.tcSlew.checks (v &&& O.tcSlew.mask) = true → s.plan O.tcServo ≠ 0 → (s.slewLeft + toI 64 v * 2 ^ 48).natAbs ≤ T96.second * 2 ^ 48 →
    ∃ t, exec (.tcSlew m v) s = .next t ∧
      t.out = replied s m ∧
      t.slewLeft = s.slewLeft + toI 64 v * 2 ^ 48 ∧
      Effect s { t with out := s.out } (if s.slewLeft ≠ 0 ∧ s.slewLeft + toI 64 v * 2 ^ 48 = 0 then [(0x063, 0)] else []) [O.tcSlewRemain.key 0 0] [hkey H.slew]) ∧
  (∀ (s : State), s.hidden H.boot ≠ 0 → s.slewLeft ≠ 0 → s.slewLeft.natAbs ≤ s.slewMax → 0 ≤ s.tickAdd s.slewLeft →
    ∃ t, exec (.tcSlewDone) s = .next t ∧
      t.slewLeft = 0 ∧
      t.tc = s.tc + (s.tickAdd s.slewLeft).toNat ∧
      t.raises.any (fun r => r.event == 0x063) = true ∧
      t.steps = s.steps) ∧
  (∀ (s : State) (m : Master) (v : Nat), Owner s m → v < 2 ^ 64 → O.tcFreqAdj.checks (v &&& O.tcFreqAdj.mask) = true → s.plan O.tcServo ≠ 0 →
    ∃ t, exec (.tcFreqAdjWrite m v) s = .next t ∧
      t.out = replied s m ∧
      t.reg O.tcFreqAdj = v ∧
      Effect s { t with out := s.out } [] [O.tcFreqAdj.key 0 0] []) ∧
  (∀ (s : State) (sec : Nat), s.wholeSecond = some sec → s.plan O.ppsoutEn = 1 → s.reg O.frSafe = 0 → s.hidden H.ppsOut = 0 →
    ∃ t, exec (.ppsoutPulse) s = .next t ∧
      t.out = .pulse 16 (T96.ofTicks sec) (s.plan O.ppsoutWidth) :: s.out ∧
      t.hidden H.ppsOut = sec + 1 ∧
      Effect s { t with out := s.out } [] [] [hkey H.ppsOut]) ∧
  (∀ (s : State), s.plan O.tcServo = 0 → s.reg O.servoState = 3 →
    ∃ t, exec (.servoHoldoverTimeout) s = .next t ∧
      t.reg O.servoState = 4 ∧
      Effect s t [(0x064, 4 + 16 * 3)] [O.servoState.key 0 0] [hkey H.servoGood])

/-- PTP messages received: what each leaves in its port, and what is answered. (R310, R311, R313, R314, R315) It rests on the model's own choices of log entries 24, 117. -/
def Obligations.PtpReceived : Prop :=
  (∀ (s : State) (p : Fin 2) (q : PtpMsg) (after : Nat), s.ptpOn p.val = true → q.version.val = 2 → q.domain.toNat = s.plan O.ptpDomain → s.isSlave p.val = true → s.fromParent p.val q = true → q.twoStep = false → s.plan O.servoSrc ≠ 0 →
    ∃ t, exec (.syncReceived p q after) s = .next t ∧
      t.ptpPort p.val = { s.ptpPort p.val with t1 := (T96.toTicks q.time : Nat) + q.correction, t2 := s.arrival p.val after, haveSync := true, sync := none } ∧
      ((s.ptpPort p.val).haveDelay = true → s.ptpPeer p.val = false → t.reg O.ptpT p.val 0 = t96Of ((T96.toTicks q.time : Nat) + q.correction) ∧ t.reg O.ptpT p.val 1 = t96Of (s.arrival p.val after)) ∧
      ((s.ptpPort p.val).haveDelay = true → t.reg O.ptpOffset p.val = toF64 (((2 * (s.arrival p.val after - ((T96.toTicks q.time : Nat) + q.correction) - psTicks (toI 32 (s.plan O.ptpAsym p.val))) - (s.ptpPort p.val).mpd2 : Int) : Rat) / (131072 : Nat))) ∧
      t.reg O.ptpRxCount p.val = satAdd O.ptpRxCount.width (s.reg O.ptpRxCount p.val) 1 ∧
      Effect s { t with ptp := s.ptp } (if (s.ptpPort p.val).haveDelay = true ∧ s.reg O.ptpPortState p.val = PS.uncalibrated then [(ptpEvent p.val 0, PS.slave + 16 * PS.uncalibrated)] else []) [O.ptpRxCount.key p.val 0, O.ptpT.key p.val 0, O.ptpT.key p.val 1, O.ptpT.key p.val 2, O.ptpT.key p.val 3, O.ptpMpd.key p.val 0, O.ptpOffset.key p.val 0, O.ptpPortState.key p.val 0] []) ∧
  (∀ (s : State) (p : Fin 2) (q : PtpMsg) (after : Nat), s.ptpOn p.val = true → q.version.val = 2 → q.domain.toNat = s.plan O.ptpDomain → s.isSlave p.val = true → s.fromParent p.val q = true → q.twoStep = true →
    ∃ t, exec (.syncReceived p q after) s = .next t ∧
      t.ptpPort p.val = { s.ptpPort p.val with sync := some { seq := q.seq.toNat, t := s.arrival p.val after, corr := q.correction } } ∧
      t.reg O.ptpRxCount p.val = satAdd O.ptpRxCount.width (s.reg O.ptpRxCount p.val) 1 ∧
      Effect s { t with ptp := s.ptp } [] [O.ptpRxCount.key p.val 0] []) ∧
  (∀ (s : State) (p : Fin 2) (q : PtpMsg) (e : Exchange), s.ptpOn p.val = true → q.version.val = 2 → q.domain.toNat = s.plan O.ptpDomain → (s.ptpPort p.val).sync = some e → e.seq = q.seq.toNat → s.plan O.servoSrc ≠ 0 →
    ∃ t, exec (.followUpReceived p q) s = .next t ∧
      t.ptpPort p.val = { s.ptpPort p.val with t1 := (T96.toTicks q.time : Nat) + q.correction + e.corr, t2 := e.t, haveSync := true, sync := none } ∧
      ((s.ptpPort p.val).haveDelay = true → s.ptpPeer p.val = false → t.reg O.ptpT p.val 0 = t96Of ((T96.toTicks q.time : Nat) + q.correction + e.corr) ∧ t.reg O.ptpT p.val 1 = t96Of e.t) ∧
      ((s.ptpPort p.val).haveDelay = true → t.reg O.ptpOffset p.val = toF64 (((2 * (e.t - ((T96.toTicks q.time : Nat) + q.correction + e.corr) - psTicks (toI 32 (s.plan O.ptpAsym p.val))) - (s.ptpPort p.val).mpd2 : Int) : Rat) / (131072 : Nat))) ∧
      t.reg O.ptpRxCount p.val = satAdd O.ptpRxCount.width (s.reg O.ptpRxCount p.val) 1 ∧
      Effect s { t with ptp := s.ptp } (if (s.ptpPort p.val).haveDelay = true ∧ s.reg O.ptpPortState p.val = PS.uncalibrated then [(ptpEvent p.val 0, PS.slave + 16 * PS.uncalibrated)] else []) [O.ptpRxCount.key p.val 0, O.ptpT.key p.val 0, O.ptpT.key p.val 1, O.ptpT.key p.val 2, O.ptpT.key p.val 3, O.ptpMpd.key p.val 0, O.ptpOffset.key p.val 0, O.ptpPortState.key p.val 0] []) ∧
  (∀ (s : State) (p : Fin 2),
    ∃ t, exec (.followUpTimeout p) s = .next t ∧
      t.ptpPort p.val = { s.ptpPort p.val with sync := none } ∧
      Effect s { t with ptp := s.ptp } [] [] []) ∧
  (∀ (s : State) (p : Fin 2) (q : PtpMsg) (e : Exchange), s.ptpOn p.val = true → q.version.val = 2 → q.domain.toNat = s.plan O.ptpDomain → (s.ptpPort p.val).delay = some e → e.seq = q.seq.toNat → q.requester.toNat = s.reg O.ptpClockId → q.requesterPort.toNat = p.val + 1 → s.plan O.servoSrc ≠ 0 → (s.ptpPort p.val).haveSync = true →
    ∃ t, exec (.delayRespReceived p q) s = .next t ∧
      t.ptpPort p.val = { s.ptpPort p.val with delay := none, t3 := e.t, t4 := ((T96.toTicks q.time : Nat) : Int) - q.correction, haveDelay := true, mpd2 := ((s.ptpPort p.val).t2 - (s.ptpPort p.val).t1 + (((T96.toTicks q.time : Nat) : Int) - q.correction - e.t)) } ∧
      (s.ptpPeer p.val = false → t.reg O.ptpT p.val 2 = t96Of e.t ∧ t.reg O.ptpT p.val 3 = t96Of (((T96.toTicks q.time : Nat) : Int) - q.correction)) ∧
      t.reg O.ptpMpd p.val = toF64 ((((s.ptpPort p.val).t2 - (s.ptpPort p.val).t1 + (((T96.toTicks q.time : Nat) : Int) - q.correction - e.t)) : Rat) / (131072 : Nat)) ∧
      t.reg O.ptpOffset p.val = toF64 (((2 * ((s.ptpPort p.val).t2 - ((s.ptpPort p.val).t1) - psTicks (toI 32 (s.plan O.ptpAsym p.val))) - ((s.ptpPort p.val).t2 - (s.ptpPort p.val).t1 + (((T96.toTicks q.time : Nat) : Int) - q.correction - e.t)) : Int) : Rat) / (131072 : Nat)) ∧
      t.reg O.ptpRxCount p.val = satAdd O.ptpRxCount.width (s.reg O.ptpRxCount p.val) 1 ∧
      Effect s { t with ptp := s.ptp } (if true = true ∧ s.reg O.ptpPortState p.val = PS.uncalibrated then [(ptpEvent p.val 0, PS.slave + 16 * PS.uncalibrated)] else []) [O.ptpRxCount.key p.val 0, O.ptpT.key p.val 0, O.ptpT.key p.val 1, O.ptpT.key p.val 2, O.ptpT.key p.val 3, O.ptpMpd.key p.val 0, O.ptpOffset.key p.val 0, O.ptpPortState.key p.val 0] []) ∧
  (∀ (s : State) (p : Fin 2) (q : PtpMsg) (e : Exchange), s.ptpOn p.val = true → q.version.val = 2 → q.domain.toNat = s.plan O.ptpDomain → (s.ptpPort p.val).delay = some e → e.seq = q.seq.toNat → q.requester.toNat = s.reg O.ptpClockId → q.requesterPort.toNat = p.val + 1 → (s.ptpPort p.val).haveSync = false →
    ∃ t, exec (.delayRespReceived p q) s = .next t ∧
      t.ptpPort p.val = { s.ptpPort p.val with delay := none } ∧
      t.reg O.ptpRxCount p.val = satAdd O.ptpRxCount.width (s.reg O.ptpRxCount p.val) 1 ∧
      Effect s { t with ptp := s.ptp } [] [O.ptpRxCount.key p.val 0] []) ∧
  (∀ (s : State) (p : Fin 2) (q : PtpMsg) (after : Nat) (e : Exchange), q.version.val = 2 → q.domain.toNat = s.plan O.ptpDomain → (s.ptpPort p.val).pdelay = some e → e.seq = q.seq.toNat → q.requester.toNat = s.reg O.ptpClockId → q.requesterPort.toNat = p.val + 1 → q.twoStep = false → s.plan O.servoSrc ≠ 0 →
    ∃ t, exec (.pdelayRespReceived p q after) s = .next t ∧
      t.ptpPort p.val = { s.ptpPort p.val with pdelay := none, t3 := q.correction, t4 := s.arrival p.val after, haveDelay := true, mpd2 := (s.arrival p.val after - e.t) - q.correction } ∧
      t.reg O.ptpMpd p.val = toF64 (((s.arrival p.val after - e.t - q.correction : Int) : Rat) / (131072 : Nat)) ∧
      t.reg O.ptpRxCount p.val = satAdd O.ptpRxCount.width (s.reg O.ptpRxCount p.val) 1 ∧
      Effect s { t with ptp := s.ptp } (if (s.ptpPort p.val).haveSync = true ∧ s.reg O.ptpPortState p.val = PS.uncalibrated then [(ptpEvent p.val 0, PS.slave + 16 * PS.uncalibrated)] else []) [O.ptpRxCount.key p.val 0, O.ptpT.key p.val 0, O.ptpT.key p.val 1, O.ptpT.key p.val 2, O.ptpT.key p.val 3, O.ptpMpd.key p.val 0, O.ptpOffset.key p.val 0, O.ptpPortState.key p.val 0] []) ∧
  (∀ (s : State) (p : Fin 2) (q : PtpMsg) (after : Nat) (e : Exchange), q.version.val = 2 → q.domain.toNat = s.plan O.ptpDomain → (s.ptpPort p.val).pdelay = some e → e.seq = q.seq.toNat → q.requester.toNat = s.reg O.ptpClockId → q.requesterPort.toNat = p.val + 1 → q.twoStep = true →
    ∃ t, exec (.pdelayRespReceived p q after) s = .next t ∧
      t.ptpPort p.val = { s.ptpPort p.val with pdelay := some { e with t2 := (T96.toTicks q.time : Nat), t4 := s.arrival p.val after, corr := q.correction, waits := true } } ∧
      t.reg O.ptpRxCount p.val = satAdd O.ptpRxCount.width (s.reg O.ptpRxCount p.val) 1 ∧
      Effect s { t with ptp := s.ptp } [] [O.ptpRxCount.key p.val 0] []) ∧
  (∀ (s : State) (p : Fin 2) (q : PtpMsg) (e : Exchange), q.version.val = 2 → q.domain.toNat = s.plan O.ptpDomain → (s.ptpPort p.val).pdelay = some e → e.seq = q.seq.toNat → q.requester.toNat = s.reg O.ptpClockId → q.requesterPort.toNat = p.val + 1 → e.waits = true → s.plan O.servoSrc ≠ 0 →
    ∃ t, exec (.pdelayRespFollowUpReceived p q) s = .next t ∧
      t.ptpPort p.val = { s.ptpPort p.val with pdelay := none, t3 := (T96.toTicks q.time : Nat) + q.correction + e.corr, t4 := e.t4, haveDelay := true, mpd2 := (e.t4 - e.t) - ((T96.toTicks q.time : Nat) + q.correction + e.corr - e.t2) } ∧
      t.reg O.ptpRxCount p.val = satAdd O.ptpRxCount.width (s.reg O.ptpRxCount p.val) 1 ∧
      Effect s { t with ptp := s.ptp } (if (s.ptpPort p.val).haveSync = true ∧ s.reg O.ptpPortState p.val = PS.uncalibrated then [(ptpEvent p.val 0, PS.slave + 16 * PS.uncalibrated)] else []) [O.ptpRxCount.key p.val 0, O.ptpT.key p.val 0, O.ptpT.key p.val 1, O.ptpT.key p.val 2, O.ptpT.key p.val 3, O.ptpMpd.key p.val 0, O.ptpOffset.key p.val 0, O.ptpPortState.key p.val 0] []) ∧
  (∀ (s : State) (p : Fin 2) (q : PtpMsg) (after : Nat), s.ptpOn p.val = true → q.version.val = 2 → q.domain.toNat = s.plan O.ptpDomain → s.reg O.ptpPortState p.val = PS.master → s.ptpPeer p.val = false →
    ∃ t, exec (.delayReqReceived p q after) s = .next t ∧
      t.out = .ptp (s.ptpHead p.val 0x9 q.seq.toNat q.noChecksum) (q.correction - (splitTime (s.arrival p.val after)).2) (splitTime (s.arrival p.val after)).1 q.source.toNat q.sourcePort.toNat :: s.out ∧
      t.reg O.ptpRxCount p.val = satAdd O.ptpRxCount.width (s.reg O.ptpRxCount p.val) 1 ∧
      Effect s { t with out := s.out } [] [O.ptpRxCount.key p.val 0] []) ∧
  (∀ (s : State) (p : Fin 2) (q : PtpMsg) (after depart : Nat), s.plan O.ptpMode = 0 → s.plan O.ptpDelay p.val = 1 → s.reg O.ptpPortState p.val ≠ PS.disabled → s.reg O.ptpPortState p.val ≠ 2 → s.plan O.ptpRole p.val ≠ 0 → q.version.val = 2 → q.domain.toNat = s.plan O.ptpDomain →
    ∃ t, exec (.pdelayReqReceived p q after depart true) s = .next t ∧
      t.out = .ptp (s.ptpHead p.val 0x3 q.seq.toNat q.noChecksum) (q.correction + (s.departure p.val depart - s.arrival p.val after)) 0 q.source.toNat q.sourcePort.toNat :: s.out ∧
      t.reg O.ptpRxCount p.val = satAdd O.ptpRxCount.width (s.reg O.ptpRxCount p.val) 1 ∧
      Effect s { t with out := s.out } [] [O.ptpRxCount.key p.val 0] []) ∧
  (∀ (s : State) (p : Fin 2) (q : PtpMsg), s.ptpOn p.val = true → q.version.val = 2 → q.domain.toNat = s.plan O.ptpDomain → s.plan O.ptpMode = 0 → s.plan O.ptpRole p.val = 3 → (s.ptpPort p.val).foreign = none →
    ∃ t, exec (.announceReceived p q) s = .next t ∧
      t.ptpPort p.val = { s.ptpPort p.val with foreign := some (ptpDataSet q) } ∧
      t.reg O.ptpParent p.val = q.source.toNat ∧
      t.reg O.ptpRxCount p.val = satAdd O.ptpRxCount.width (s.reg O.ptpRxCount p.val) 1 ∧
      Effect s { t with ptp := s.ptp } (if s.reg O.ptpParent p.val = q.source.toNat then [] else [(ptpEvent p.val 1, q.source.toNat)]) [O.ptpRxCount.key p.val 0, O.ptpParent.key p.val 0] []) ∧
  (∀ (s : State) (p : Fin 2) (q : PtpMsg), s.ptpOn p.val = true → q.version.val = 2 → q.domain.toNat = s.plan O.ptpDomain → s.plan O.ptpMode = 0 → s.plan O.ptpRole p.val = 1 → s.plan O.ptpClockClass < 128 → s.plan O.ptpRole (1 - p.val) ≠ 1 → (s.ptpPort p.val).foreign = none →
    ∃ t, exec (.announceReceived p q) s = .next t ∧
      t.ptpPort p.val = { s.ptpPort p.val with foreign := some (ptpDataSet q) } ∧
      t.reg O.ptpPortState p.val = (if better (ptpDataSet q) s.dataSet0 then PS.passive else PS.master) ∧
      t.reg O.ptpRxCount p.val = satAdd O.ptpRxCount.width (s.reg O.ptpRxCount p.val) 1 ∧
      ({ t with ptp := s.ptp, regs := s.regs, raises := s.raises } : State) = s) ∧
  (∀ (s : State) (p : Fin 2), s.ptpOn p.val = true → s.plan O.ptpMode = 1 ∨ (s.plan O.ptpRole 0 ≠ 1 ∧ s.plan O.ptpRole 1 ≠ 1) →
    ∃ t, exec (.announceReceiptTimeout p) s = .next t ∧
      t.ptpPort p.val = { s.ptpPort p.val with foreign := none } ∧
      Effect s { t with ptp := s.ptp } [] [] []) ∧
  (∀ (s : State) (p : Fin 2), s.ptpOn p.val = true →
    ∃ t, exec (.signalingReceived p) s = .next t ∧
      t.reg O.ptpDropCount p.val = satAdd O.ptpDropCount.width (s.reg O.ptpDropCount p.val) 1 ∧
      Effect s t [] [O.ptpDropCount.key p.val 0] []) ∧
  (∀ (s : State) (p : Fin 2), s.ptpOn p.val = true →
    ∃ t, exec (.managementReceived p) s = .next t ∧
      t.reg O.ptpDropCount p.val = satAdd O.ptpDropCount.width (s.reg O.ptpDropCount p.val) 1 ∧
      Effect s t [] [O.ptpDropCount.key p.val 0] [])

/-- PTP and ESMC messages sent and forwarded. (R311, R312, R313, R315, R316) It rests on the model's own choices of log entry 24. -/
def Obligations.PtpSent : Prop :=
  (∀ (s : State) (p : Fin 2) (depart : Nat), s.ptpOn p.val = true → s.reg O.ptpPortState p.val = PS.master →
    ∃ t, exec (.syncTx p depart true) s = .next t ∧
      t.out = .ptp (s.ptpHead p.val 0x0 ((s.ptpPort p.val).seqs[0])) (splitTime (s.departure p.val depart)).2 (splitTime (s.departure p.val depart)).1 0 0 :: s.out ∧
      t.ptpPort p.val = { s.ptpPort p.val with seqs := (s.ptpPort p.val).seqs.set 0 ((((s.ptpPort p.val).seqs[0]) + 1) % 65536) } ∧
      Effect s { t with out := s.out, ptp := s.ptp } [] [] []) ∧
  (∀ (s : State) (p : Fin 2) (depart : Nat), s.ptpOn p.val = true → s.reg O.ptpPortState p.val = PS.master →
    ∃ t, exec (.syncTx p depart false) s = .next t ∧
      t.out = .badFrame p.val :: s.out ∧
      t.reg O.ptpDropCount p.val = satAdd O.ptpDropCount.width (s.reg O.ptpDropCount p.val) 1 ∧
      Effect s { t with out := s.out, ptp := s.ptp } [(ptpEvent p.val 2, 0)] [O.ptpDropCount.key p.val 0] []) ∧
  (∀ (s : State) (p : Fin 2) (depart : Nat), s.ptpOn p.val = true → s.isSlave p.val = true → s.ptpPeer p.val = false →
    ∃ t, exec (.delayReqTx p depart true) s = .next t ∧
      t.out = .ptp (s.ptpHead p.val 0x1 ((s.ptpPort p.val).seqs[1])) 0 0 0 0 :: s.out ∧
      t.ptpPort p.val = { s.ptpPort p.val with seqs := (s.ptpPort p.val).seqs.set 1 ((((s.ptpPort p.val).seqs[1]) + 1) % 65536), delay := some { seq := ((s.ptpPort p.val).seqs[1]), t := s.departure p.val depart } } ∧
      Effect s { t with out := s.out, ptp := s.ptp } [] [] []) ∧
  (∀ (s : State) (p : Fin 2) (depart : Nat), s.ptpPeer p.val = true → s.plan O.ptpMode = 1 ∨ s.ptpOn p.val = true →
    ∃ t, exec (.pdelayReqTx p depart true) s = .next t ∧
      t.out = .ptp (s.ptpHead p.val 0x2 ((s.ptpPort p.val).seqs[2])) 0 0 0 0 :: s.out ∧
      t.ptpPort p.val = { s.ptpPort p.val with seqs := (s.ptpPort p.val).seqs.set 2 ((((s.ptpPort p.val).seqs[2]) + 1) % 65536), pdelay := some { seq := ((s.ptpPort p.val).seqs[2]), t := s.departure p.val depart } } ∧
      Effect s { t with out := s.out, ptp := s.ptp } [] [] []) ∧
  (∀ (s : State) (p : Fin 2), s.ptpOn p.val = true → s.reg O.ptpPortState p.val = PS.master →
    ∃ t, exec (.announceTx p) s = .next t ∧
      t.out = .announce (s.ptpHead p.val 0xB ((s.ptpPort p.val).seqs[3])) (toI 16 (s.plan O.ptpUtcOffset)) (s.announced p.val) :: s.out ∧
      t.ptpPort p.val = { s.ptpPort p.val with seqs := (s.ptpPort p.val).seqs.set 3 ((((s.ptpPort p.val).seqs[3]) + 1) % 65536) } ∧
      Effect s { t with out := s.out, ptp := s.ptp } [] [] []) ∧
  (∀ (s : State) (p : Fin 2) (q : PtpMsg) (ingress egress : Nat), s.plan O.ptpMode = 1 → s.plan O.ptpTcDelay = 0 → q.type.val < 4 →
    ∃ t, exec (.ptpTcForward p q ingress egress true) s = .next t ∧
      t.out = .ptp { port := 1 - p.val, transport := q.transport.val, checksum := q.transport.val == 2 || (q.transport.val == 1 && !q.noChecksum), domain := q.domain.toNat, type := q.type.val, seq := q.seq.toNat } (q.correction + (s.departure (1 - p.val) egress - s.arrival p.val ingress)) q.time q.requester.toNat q.requesterPort.toNat :: s.out ∧
      Effect s { t with out := s.out } [] [] []) ∧
  (∀ (s : State) (p : Fin 2) (q : PtpMsg) (ingress egress : Nat), s.plan O.ptpMode = 1 → s.plan O.ptpTcDelay = 1 → q.type.val = 0 →
    ∃ t, exec (.ptpTcForward p q ingress egress true) s = .next t ∧
      t.out = .ptp { port := 1 - p.val, transport := q.transport.val, checksum := q.transport.val == 2 || (q.transport.val == 1 && !q.noChecksum), domain := q.domain.toNat, type := q.type.val, seq := q.seq.toNat } (q.correction + (s.departure (1 - p.val) egress - s.arrival p.val ingress) + rneDiv (s.ptpPort p.val).mpd2 2) q.time q.requester.toNat q.requesterPort.toNat :: s.out ∧
      Effect s { t with out := s.out } [] [] []) ∧
  (∀ (s : State) (p : Fin 2) (q : PtpMsg) (ingress egress : Nat), s.plan O.ptpMode = 1 → s.plan O.ptpTcDelay = 0 → 4 ≤ q.type.val →
    ∃ t, exec (.ptpTcForward p q ingress egress true) s = .next t ∧
      t.out = .ptp { port := 1 - p.val, transport := q.transport.val, checksum := q.transport.val == 2 || (q.transport.val == 1 && !q.noChecksum), domain := q.domain.toNat, type := q.type.val, seq := q.seq.toNat } q.correction q.time q.requester.toNat q.requesterPort.toNat :: s.out ∧
      Effect s { t with out := s.out } [] [] []) ∧
  (∀ (s : State) (p : Fin 2), s.plan O.synceEsmc p.val = 1 →
    ∃ t, exec (.esmcTx p) s = .next t ∧
      t.out = .esmc p.val (s.plan O.synceTxQl p.val % 16) :: s.out ∧
      Effect s { t with out := s.out } [] [] []) ∧
  (∀ (s : State) (p : Fin 2) (ql : Fin 16), s.plan O.synceEsmc p.val = 1 → s.reg O.synceRxQl p.val ≠ ql.val →
    ∃ t, exec (.esmcReceived p ql) s = .next t ∧
      t.reg O.synceRxQl p.val = ql.val ∧
      Effect s t [(ptpEvent p.val 3, ql.val + 16 * (s.reg O.synceRxQl p.val % 16))] [O.synceRxQl.key p.val 0] [])

/-- Entries of the timed-action table are validated, cleared, and act when due. (R114, R163, R189, R264, R297, R319, R320, R321, R322, R323, R325) It rests on the model's own choices of log entry 62. -/
def Obligations.TimedActions : Prop :=
  (∀ (s : State) (m : Master) (e : Fin 512), Owner s m → s.reg O.taState e.val = 0 → s.reg O.tcValid ≠ 0 → s.reg O.taKind e.val ≠ 1 → taFits (s.reg O.taKind e.val) (s.reg O.taTarget e.val) (toI 64 (s.reg O.taArg e.val)) = true → s.reg O.taPeriod e.val = 0 ∨ 10000 ≤ s.reg O.taPeriod e.val → bit (s.reg O.taFlags e.val) 1 = true →
    ∃ t, exec (.taValidSet m e) s = .next t ∧
      t.out = replied s m ∧
      t.reg O.taValid e.val = 1 ∧
      t.reg O.taState e.val = 1 ∧
      t.reg O.taFree = s.reg O.taFree - 1 ∧
      Effect s { t with out := s.out } [] [O.taState.key e.val 0, O.taValid.key e.val 0, O.taFree.key 0 0] []) ∧
  (∀ (s : State) (m : Master) (e : Fin 512), Owner s m → s.reg O.taState e.val = 0 → s.reg O.tcValid ≠ 0 → s.reg O.taKind e.val ≠ 1 → taFits (s.reg O.taKind e.val) (s.reg O.taTarget e.val) (toI 64 (s.reg O.taArg e.val)) = true → s.reg O.taPeriod e.val = 0 ∨ 10000 ≤ s.reg O.taPeriod e.val → bit (s.reg O.taFlags e.val) 1 = false → s.nowTicks + 10000 * 65536 ≤ s.taDue e.val →
    ∃ t, exec (.taValidSet m e) s = .next t ∧
      t.out = replied s m ∧
      t.reg O.taValid e.val = 1 ∧
      t.reg O.taState e.val = 2 ∧
      t.reg O.taFree = s.reg O.taFree - 1 ∧
      Effect s { t with out := s.out } [] [O.taState.key e.val 0, O.taValid.key e.val 0, O.taFree.key 0 0] [hkey H.taLate e.val]) ∧
  (∀ (s : State) (m : Master) (e : Fin 512), Owner s m → s.reg O.taState e.val = 2 →
    ∃ t, exec (.taValidClear m e) s = .next t ∧
      t.out = replied s m ∧
      t.reg O.taValid e.val = 0 ∧
      t.reg O.taState e.val = 0 ∧
      t.reg O.taFree = s.reg O.taFree + 1 ∧
      Effect s { t with out := s.out } [] [O.taState.key e.val 0, O.taValid.key e.val 0, O.taFree.key 0 0] [hkey H.taLate e.val]) ∧
  (∀ (s : State) (e : Fin 512), s.taReady e.val = true → s.reg O.taKind e.val = 2 → s.taFirst e.val = true → s.reg O.taFlags e.val = 0 → s.reg O.taPeriod e.val = 0 → s.hidden H.taLate e.val = 0 → s.reg O.pllaState = 2 → (toI 32 (s.reg O.phaseRemain) + toI 64 (s.reg O.taArg e.val)).natAbs ≤ 65535 → toI 32 (s.reg O.phaseRemain) + toI 64 (s.reg O.taArg e.val) ≠ 0 →
    ∃ t, exec (.taPhaseStep e) s = .next t ∧
      t.reg O.taState e.val = 0 ∧
      t.reg O.taValid e.val = 0 ∧
      t.reg O.taFree = s.reg O.taFree + 1 ∧
      t.reg O.phaseRemain = ofI 32 (toI 32 (s.reg O.phaseRemain) + toI 64 (s.reg O.taArg e.val)) ∧
      Effect s t [] [O.taState.key e.val 0, O.taValid.key e.val 0, O.taFree.key 0 0, O.phaseRemain.key 0 0] [hkey H.taLate e.val]) ∧
  (∀ (s : State) (e : Fin 512), s.taReady e.val = true → s.reg O.taKind e.val = 3 → s.taFirst e.val = true → s.reg O.taFlags e.val = 0 → s.reg O.taPeriod e.val = 0 → s.hidden H.taLate e.val = 0 →
    ∃ t, exec (.taDecimatorSync e) s = .next t ∧
      t.reg O.taState e.val = 0 ∧
      t.reg O.taValid e.val = 0 ∧
      t.reg O.taFree = s.reg O.taFree + 1 ∧
      t.hidden H.syncDue = s.hidden H.syncDue ||| 4 ∧
      Effect s t [] [O.taState.key e.val 0, O.taValid.key e.val 0, O.taFree.key 0 0] [hkey H.taLate e.val, hkey H.syncDue]) ∧
  (∀ (s : State) (e : Fin 512), s.taReady e.val = true → s.reg O.taKind e.val = 3 → s.taFirst e.val = true → s.reg O.taFlags e.val = 0 → s.reg O.taPeriod e.val = 0 → s.hidden H.taLate e.val = 0 → s.timedDue = none → s.hidden H.safeDue = 0 → s.commitDue = false →
    ∃ t, exec (.taDecimatorSync e) s = .next t ∧
      t.thenDoes .groupReset (fun u => (u.reg O.groupSyncSeq, u.reg O.groupLastCause)) = some ((s.reg O.groupSyncSeq + 1) % 2 ^ O.groupSyncSeq.width, s.hidden H.syncDue ||| 4) ∧
      ({ t with regs := s.regs, hid := s.hid } : State) = s) ∧
  (∀ (s : State) (e : Fin 512) (c : Fin 16), s.taReady e.val = true → s.reg O.taKind e.val = 4 → s.taFirst e.val = true → s.reg O.taFlags e.val = 0 → s.reg O.taPeriod e.val = 0 → s.hidden H.taLate e.val = 0 → s.reg O.taTarget e.val = c.val → s.plan O.aqEnable c.val = 1 → s.reg O.aqState c.val = 0 → (s.ctx c.val).disarmed = true → (s.ctx c.val).cfg.cont = false →
    ∃ t, exec (.taCaptureStart e) s = .next t ∧
      t.reg O.taState e.val = 0 ∧
      t.reg O.taValid e.val = 0 ∧
      t.reg O.taFree = s.reg O.taFree + 1 ∧
      (t.ctx c.val).disarmed = false ∧
      (t.ctx c.val).segs = 0 ∧
      ({ t with regs := s.regs, hid := s.hid, raises := s.raises, ctxs := s.ctxs } : State) = s) ∧
  (∀ (s : State) (e : Fin 512) (sl : Fin 16), s.taReady e.val = true → s.reg O.taKind e.val = 5 → s.taFirst e.val = true → s.reg O.taFlags e.val = 0 → s.reg O.taPeriod e.val = 0 → s.hidden H.taLate e.val = 0 → s.reg O.taTarget e.val = 16 + sl.val → toI 64 (s.reg O.taArg e.val) = 1 → s.plan O.msEnable sl.val = 1 → s.reg O.msState sl.val = 4 → s.plan O.msGateKind sl.val = 0 →
    ∃ t, exec (.taArm e) s = .next t ∧
      t.reg O.taState e.val = 0 ∧
      t.reg O.taValid e.val = 0 ∧
      t.reg O.taFree = s.reg O.taFree + 1 ∧
      t.reg O.msState sl.val = 2 ∧
      (t.slot sl.val).armT = s.nowTicks ∧
      t.raises.any (fun r => r.event == msEvent sl.val 0) = true ∧
      ({ t with regs := s.regs, hid := s.hid, raises := s.raises, slots := s.slots } : State) = s) ∧
  (∀ (s : State) (e : Fin 512) (c : Fin 16), s.taReady e.val = true → s.reg O.taKind e.val = 5 → s.taFirst e.val = true → s.reg O.taFlags e.val = 0 → s.reg O.taPeriod e.val = 0 → s.hidden H.taLate e.val = 0 → s.reg O.taTarget e.val = c.val → s.reg O.taArg e.val = 0 → s.plan O.aqEnable c.val = 1 → s.reg O.aqState c.val ≠ 4 →
    ∃ t, exec (.taDisarm e) s = .next t ∧
      t.reg O.taState e.val = 0 ∧
      t.reg O.taValid e.val = 0 ∧
      t.reg O.taFree = s.reg O.taFree + 1 ∧
      t.reg O.aqState c.val = 0 ∧
      t.ctx c.val = { s.ctx c.val with disarmed := true } ∧
      Effect s { t with ctxs := s.ctxs } [] [O.taState.key e.val 0, O.taValid.key e.val 0, O.taFree.key 0 0, O.aqState.key c.val 0] [hkey H.taLate e.val]) ∧
  (∀ (s : State) (e : Fin 512) (sl : Fin 16), s.taReady e.val = true → s.reg O.taKind e.val = 5 → s.taFirst e.val = true → s.reg O.taFlags e.val = 0 → s.reg O.taPeriod e.val = 0 → s.hidden H.taLate e.val = 0 → s.reg O.taTarget e.val = 16 + sl.val → s.reg O.taArg e.val = 0 → s.plan O.msEnable sl.val = 1 → s.reg O.msState sl.val ≠ 2 →
    ∃ t, exec (.taDisarm e) s = .next t ∧
      t.reg O.taState e.val = 0 ∧
      t.reg O.taValid e.val = 0 ∧
      t.reg O.taFree = s.reg O.taFree + 1 ∧
      t.reg O.msState sl.val = 0 ∧
      t.slot sl.val = { s.slot sl.val with openT := none } ∧
      Effect s { t with slots := s.slots } [] [O.taState.key e.val 0, O.taValid.key e.val 0, O.taFree.key 0 0, O.msState.key sl.val 0] [hkey H.taLate e.val]) ∧
  (∀ (s : State) (e : Fin 512) (u : Fin 16), s.taReady e.val = true → s.reg O.taKind e.val = 6 → s.taFirst e.val = true → s.reg O.taFlags e.val = 0 → s.reg O.taPeriod e.val = 0 → s.hidden H.taLate e.val = 0 → s.reg O.taTarget e.val = u.val → s.plan O.tuEnable u.val = 1 → s.plan O.tuSrc u.val = 8 → s.plan O.tuLaceDrive u.val % 16 = 0 → (List.range 16).all (fun c => s.plan O.aqEnable c != 1) = true → (List.range 16).all (fun g => s.plan O.pgMode g == 0) = true →
    ∃ t, exec (.taTrigger e) s = .next t ∧
      t.reg O.taState e.val = 0 ∧
      t.reg O.taValid e.val = 0 ∧
      t.reg O.taFree = s.reg O.taFree + 1 ∧
      t.reg O.tuState u.val = 1 ∧
      t.reg O.tuFires u.val = satAdd O.tuFires.width (s.reg O.tuFires u.val) 1 ∧
      t.reg O.tuLastIndex u.val = s.indexAt (s.taDue e.val) ∧
      Effect s { t with trigs := s.trigs } (if (s.trig u.val).fresh then [(tuEvt u.val 0, s.indexAt (s.taDue e.val))] else []) [O.taState.key e.val 0, O.taValid.key e.val 0, O.taFree.key 0 0, O.tuState.key u.val 0, O.tuFires.key u.val 0, O.tuLastIndex.key u.val 0, O.tuLastT96.key u.val 0] [hkey H.taLate e.val]) ∧
  (∀ (s : State) (e : Fin 512) (u : Fin 16), s.taReady e.val = true → s.reg O.taKind e.val = 6 → s.taFirst e.val = true → s.reg O.taFlags e.val = 0 → s.reg O.taPeriod e.val = 0 → s.hidden H.taLate e.val = 0 → s.reg O.taTarget e.val = u.val → s.plan O.tuEnable u.val = 0 →
    ∃ t, exec (.taTrigger e) s = .next t ∧
      t.reg O.taState e.val = 0 ∧
      t.reg O.taValid e.val = 0 ∧
      t.reg O.taFree = s.reg O.taFree + 1 ∧
      t.reg O.taDroppedCount = satAdd O.taDroppedCount.width (s.reg O.taDroppedCount) 1 ∧
      Effect s t [(0x091, e.val + 4096 * 6)] [O.taState.key e.val 0, O.taValid.key e.val 0, O.taFree.key 0 0, O.taDroppedCount.key 0 0] [hkey H.taLate e.val]) ∧
  (∀ (s : State) (e : Fin 512) (g : Fin 16), s.taReady e.val = true → s.reg O.taKind e.val = 7 → s.taFirst e.val = true → s.reg O.taFlags e.val = 0 → s.reg O.taPeriod e.val = 0 → s.hidden H.taLate e.val = 0 → s.reg O.taTarget e.val = g.val → s.plan O.pgMode g.val = 0 →
    ∃ t, exec (.taPulse e) s = .next t ∧
      t.reg O.taState e.val = 0 ∧
      t.reg O.taValid e.val = 0 ∧
      t.reg O.taFree = s.reg O.taFree + 1 ∧
      t.reg O.taDroppedCount = satAdd O.taDroppedCount.width (s.reg O.taDroppedCount) 1 ∧
      Effect s t [(0x091, e.val + 4096 * 7)] [O.taState.key e.val 0, O.taValid.key e.val 0, O.taFree.key 0 0, O.taDroppedCount.key 0 0] [hkey H.taLate e.val]) ∧
  (∀ (s : State) (e : Fin 512) (g : Fin 16), s.taReady e.val = true → s.reg O.taKind e.val = 7 → s.taFirst e.val = true → s.reg O.taFlags e.val = 0 → s.reg O.taPeriod e.val = 0 → s.hidden H.taLate e.val = 0 → s.reg O.taTarget e.val = g.val → s.plan O.pgMode g.val = 2 → s.reg O.frSafe = 0 → s.reg O.pgState g.val = 0 →
    ∃ t, exec (.taPulse e) s = .next t ∧
      t.reg O.taState e.val = 0 ∧
      t.reg O.taValid e.val = 0 ∧
      t.reg O.taFree = s.reg O.taFree + 1 ∧
      (∃ s1, s.pgTimed g.val (s.taDue e.val) = some s1 ∧ t.pg g.val = s1.pg g.val ∧ t.reg O.pgState g.val = s1.reg O.pgState g.val)) ∧
  (∀ (s : State) (e : Fin 512) (g : Fin 16), s.taReady e.val = true → s.reg O.taKind e.val = 8 → s.taFirst e.val = true → s.reg O.taFlags e.val = 0 → s.reg O.taPeriod e.val = 0 → s.hidden H.taLate e.val = 0 → s.reg O.taTarget e.val = g.val → s.plan O.pgMode g.val = 1 → s.reg O.pgState g.val ≠ 2 →
    ∃ t, exec (.taNoiseToggle e) s = .next t ∧
      t.reg O.taState e.val = 0 ∧
      t.reg O.taValid e.val = 0 ∧
      t.reg O.taFree = s.reg O.taFree + 1 ∧
      (t.pg g.val).level = (if s.reg O.taArg e.val = 2 then !(s.pg g.val).level else s.reg O.taArg e.val == 1) ∧
      ({ t with regs := s.regs, hid := s.hid, pgs := s.pgs, out := s.out, raises := s.raises } : State) = s) ∧
  (∀ (s : State) (e : Fin 512), s.taReady e.val = true → s.reg O.taKind e.val = 9 → s.taFirst e.val = true → s.reg O.taFlags e.val = 0 → s.reg O.taPeriod e.val = 0 → s.hidden H.taLate e.val = 0 → s.density.copying = none → s.dnSlots ≠ 0 →
    ∃ t, exec (.taDensitySnapshot e) s = .next t ∧
      t.reg O.taState e.val = 0 ∧
      t.reg O.taValid e.val = 0 ∧
      t.reg O.taFree = s.reg O.taFree + 1 ∧
      t.density = { s.density with snapDue := true } ∧
      t.thenDoes .dnSnapTake (fun u => (u.density.frozen, u.reg O.dnSnapSeq)) = some (s.table, (s.reg O.dnSnapSeq + 1) % 2 ^ O.dnSnapSeq.width) ∧
      Effect s { t with density := s.density } [] [O.taState.key e.val 0, O.taValid.key e.val 0, O.taFree.key 0 0] [hkey H.taLate e.val]) ∧
  (∀ (s : State) (e : Fin 512), s.taReady e.val = true → s.reg O.taKind e.val = 9 → s.taFirst e.val = true → s.reg O.taFlags e.val = 0 → 0 < s.reg O.taPeriod e.val → s.hidden H.taLate e.val = 0 → s.density.copying = none → s.dnSlots ≠ 0 →
    ∃ t, exec (.taDensitySnapshot e) s = .next t ∧
      t.reg O.taState e.val = 2 ∧
      t.reg O.taTime e.val = T96.ofTicks (s.taDue e.val + s.reg O.taPeriod e.val * 65536) ∧
      t.density = { s.density with snapDue := true } ∧
      Effect s { t with density := s.density } [] [O.taTime.key e.val 0] [hkey H.taLate e.val]) ∧
  (∀ (s : State) (e : Fin 512), s.taReady e.val = true → s.reg O.taKind e.val = 10 → s.taFirst e.val = true → s.reg O.taFlags e.val = 0 → s.reg O.taPeriod e.val = 0 → s.hidden H.taLate e.val = 0 → s.plan O.laceEn = 1 → s.reg O.laceState = 2 → s.plan O.laceSDrive = 1 → s.reg O.frSafe = 0 →
    ∃ t, exec (.taLacingEpoch e) s = .next t ∧
      t.reg O.taState e.val = 0 ∧
      t.reg O.taValid e.val = 0 ∧
      t.reg O.taFree = s.reg O.taFree + 1 ∧
      t.hidden H.laceS = 1 ∧
      t.out = .ball 17 true :: s.out ∧
      Effect s { t with out := s.out } [] [O.taState.key e.val 0, O.taValid.key e.val 0, O.taFree.key 0 0] [hkey H.taLate e.val, hkey H.laceS])

/-- The lacing bus: epochs, launches, candidates, vetoes, and its clock. (R159, R325, R326, R327, R328, R330) It rests on the model's own choices of log entries 25, 118, 119, 189. -/
def Obligations.Lacing : Prop :=
  (∀ (s : State) (m : Master) , Owner s m → s.plan O.laceEn = 1 → s.reg O.laceState = 2 → s.plan O.laceSDrive = 1 → s.reg O.frSafe = 0 →
    ∃ t, exec (.laceSCmd m 1) s = .next t ∧
      t.out = replied { s with out := .ball 17 true :: s.out } m ∧
      t.hidden H.laceS = 1 ∧
      Effect s { t with out := s.out } [] [] [hkey H.laceS]) ∧
  (∀ (s : State) (m : Master) , Owner s m → s.plan O.laceSDrive = 0 →
    ∃ t, exec (.laceSCmd m 1) s = .next t ∧
      t.out = replied s m ∧
      Effect s { t with out := s.out } [] [] []) ∧
  (∀ (s : State) (cycle : Fin 8), s.plan O.laceEn = 1 → s.reg O.laceState = 2 →
    ∃ t, exec (.laceEpoch cycle) s = .next t ∧
      t.reg O.laceCycle = 0 ∧
      t.reg O.laceST96 = T96.ofTicks (s.laceTime cycle.val) ∧
      t.hidden H.laceCounting = 1 ∧
      (t.hidden H.laceS = 0 ∨ s.hidden H.laceS ≠ 1) ∧
      t.raises.any (fun r => r.event == 0x0A2) = true ∧
      ({ t with regs := s.regs, hid := s.hid, raises := s.raises, out := s.out } : State) = s) ∧
  (∀ (s : State) (m : BitVec 4), s.plan O.laceEn = 1 → s.reg O.laceState = 2 → s.hidden H.lacePend = m.toNat → m ≠ 0 →
    ∃ t, exec (.laceLaunch) s = .next t ∧
      t.hidden H.lacePend = 0 ∧
      t.hidden H.laceOut = m.toNat ∧
      t.out = ((List.range 4).filter (fun n => m.toNat.testBit n)).reverse.map (fun n => .ball (18 + n) true) ++ s.out ∧
      Effect s { t with out := s.out } [] [] [hkey H.lacePend, hkey H.laceOut]) ∧
  (∀ (s : State) (lines : BitVec 4) (cycle : Fin 8), s.plan O.laceEn = 1 → s.reg O.laceState = 2 → s.hidden H.laceOut = 0 → (List.range 16).all (fun sl => s.plan O.msEnable sl != 1) = true → s.plan O.laceVetoLines = 0 →
    ∃ t, exec (.laceCandidate lines cycle) s = .next t ∧
      (∀ n : Fin 4, t.reg O.laceTCount 0 n.val = (if lines.getLsbD n.val then satAdd O.laceTCount.width (s.reg O.laceTCount 0 n.val) 1 else s.reg O.laceTCount 0 n.val)) ∧
      t.hidden H.laceCand = 0 ∧
      t.hidden H.laceT = lines.toNat ||| s.hidden H.laceLate ∧
      Effect s t [] [O.laceTCount.key 0 0, O.laceTCount.key 0 1, O.laceTCount.key 0 2, O.laceTCount.key 0 3, O.laceCycle.key 0 0] [hkey H.laceOut, hkey H.laceCand, hkey H.laceCandT, hkey H.laceVeto, hkey H.laceT, hkey H.laceLate]) ∧
  (∀ (s : State) (lines : BitVec 4) (cycle : Fin 8), s.plan O.laceEn = 1 → s.reg O.laceState = 2 → s.hidden H.laceOut = 0 → (List.range 16).all (fun sl => s.plan O.msEnable sl != 1) = true → s.plan O.laceVetoLines = 15 → s.plan O.laceVetoUnits = 0 →
    ∃ t, exec (.laceCandidate lines cycle) s = .next t ∧
      t.hidden H.laceCand = lines.toNat ∧
      t.hidden H.laceCandT = s.laceTime cycle.val ∧
      t.hidden H.laceVeto = 0 ∧
      t.hidden H.laceT = s.hidden H.laceLate ∧
      Effect s t [] [O.laceCycle.key 0 0] [hkey H.laceOut, hkey H.laceCand, hkey H.laceCandT, hkey H.laceVeto, hkey H.laceT, hkey H.laceLate]) ∧
  (∀ (s : State) (m : BitVec 4), s.plan O.laceEn = 1 → s.reg O.laceState = 2 → s.hidden H.laceCand = m.toNat → m ≠ 0 → s.hidden H.laceVeto = 0 → s.hidden H.rare 0x0A3 = 0 →
    ∃ t, exec (.laceVetoDecision true) s = .next t ∧
      t.hidden H.laceCand = 0 ∧
      t.reg O.laceVetoed = satAdd O.laceVetoed.width (s.reg O.laceVetoed) (popcount m.toNat 4) ∧
      Effect s t [(0x0A3, s.reg O.laceCycle)] [O.laceVetoed.key 0 0] [hkey H.laceCand, hkey H.rare 0x0A3]) ∧
  (∀ (s : State) (m : BitVec 4), s.plan O.laceEn = 1 → s.reg O.laceState = 2 → s.hidden H.laceCand = m.toNat → m ≠ 0 → s.hidden H.laceVeto = 0 → (List.range 16).all (fun sl => s.plan O.msEnable sl != 1) = true →
    ∃ t, exec (.laceVetoDecision false) s = .next t ∧
      t.hidden H.laceCand = 0 ∧
      (∀ n : Fin 4, t.reg O.laceTCount 0 n.val = (if m.getLsbD n.val then satAdd O.laceTCount.width (s.reg O.laceTCount 0 n.val) 1 else s.reg O.laceTCount 0 n.val)) ∧
      t.hidden H.laceT = s.hidden H.laceT ||| m.toNat ∧
      t.hidden H.laceLate = m.toNat ∧
      Effect s t [] [O.laceTCount.key 0 0, O.laceTCount.key 0 1, O.laceTCount.key 0 2, O.laceTCount.key 0 3] [hkey H.laceCand, hkey H.laceT, hkey H.laceLate]) ∧
  (∀ (s : State) (cause : Fin 2), s.plan O.laceEn = 1 → s.reg O.laceState = 2 →
    ∃ t, exec (.laceClkLost cause) s = .next t ∧
      t.reg O.laceState = 1 ∧
      t.hidden H.laceCounting = 0 ∧
      t.hidden H.lacePend = 0 ∧
      Effect s { t with out := s.out } [(0x0A0, cause.val + 1)] [O.laceState.key 0 0] [hkey H.laceOut, hkey H.laceCand, hkey H.lacePend, hkey H.laceVeto, hkey H.laceS, hkey H.laceCounting, hkey H.laceT, hkey H.laceLate]) ∧
  (∀ (s : State) (period : BitVec 64), s.plan O.laceEn = 1 → s.reg O.laceState = 1 → s.laceGood period.toNat = true →
    ∃ t, exec (.laceClkOk period) s = .next t ∧
      t.reg O.laceState = 2 ∧
      t.reg O.lacePeriod = period.toNat ∧
      Effect s t [(0x0A1, period.toNat)] [O.laceState.key 0 0, O.lacePeriod.key 0 0] [])

/-- The capture memory: corrected and uncorrectable errors, poison, migration, refresh, activate counts, temperature and zeroing. (R341, R342, R343, R344, R346, R347, R348, R349, R350, R352) It rests on the model's own choices of log entries 26, 112, 120, 125, 193. -/
def Obligations.CaptureMemory : Prop :=
  (∀ (s : State) (ch : Fin 4) (pos : Fin 3), s.reg O.drPosState ch.val pos.val = 1 → s.reg O.drCeRetire = 0 ∨ ((Map.get s.ceTimes [] (4 * ch.val + pos.val)).filter (fun x => decide (s.upTicks < x + 3600 * T96.second)) ++ [s.upTicks]).length < s.reg O.drCeRetire →
    ∃ t, exec (.drCorrectedError ch pos) s = .next t ∧
      t.reg O.drCeCount ch.val = satAdd O.drCeCount.width (s.reg O.drCeCount ch.val) 1 ∧
      Map.get t.ceTimes [] (4 * ch.val + pos.val) = (Map.get s.ceTimes [] (4 * ch.val + pos.val)).filter (fun x => decide (s.upTicks < x + 3600 * T96.second)) ++ [s.upTicks] ∧
      Effect s { t with ceTimes := s.ceTimes } [] [O.drCeCount.key ch.val 0] []) ∧
  (∀ (s : State) (ch : Fin 4) (pos : Fin 3), s.reg O.drPosState ch.val pos.val = 1 → s.reg O.drCeRetire ≠ 0 ∧ s.reg O.drCeRetire ≤ ((Map.get s.ceTimes [] (4 * ch.val + pos.val)).filter (fun x => decide (s.upTicks < x + 3600 * T96.second)) ++ [s.upTicks]).length → (s.drSpare ch.val).isSome = true → (ch.val, pos.val) ∉ s.migQueue → s.reg O.drMigState = 2 →
    ∃ t, exec (.drCorrectedError ch pos) s = .next t ∧
      t.reg O.drCeCount ch.val = satAdd O.drCeCount.width (s.reg O.drCeCount ch.val) 1 ∧
      Map.get t.ceTimes [] (4 * ch.val + pos.val) = (Map.get s.ceTimes [] (4 * ch.val + pos.val)).filter (fun x => decide (s.upTicks < x + 3600 * T96.second)) ++ [s.upTicks] ∧
      t.migQueue = s.migQueue ++ [(ch.val, pos.val)] ∧
      Effect s { t with ceTimes := s.ceTimes, migQueue := s.migQueue } [] [O.drCeCount.key ch.val 0, O.drMigState.key 0 0] []) ∧
  (∀ (s : State) (ch : Fin 4) (pos : Fin 3), s.reg O.drState = 2 → s.reg O.drScrubHours ≠ 0 → s.reg O.drPosState ch.val pos.val = 1 → s.reg O.drCeRetire = 0 →
    ∃ t, exec (.drPatrolScrub [(ch, pos)]) s = .next t ∧
      t.reg O.drCeCount ch.val = satAdd O.drCeCount.width (s.reg O.drCeCount ch.val) 1 ∧
      Map.get t.ceTimes [] (4 * ch.val + pos.val) = (Map.get s.ceTimes [] (4 * ch.val + pos.val)).filter (fun x => decide (s.upTicks < x + 3600 * T96.second)) ++ [s.upTicks] ∧
      Effect s { t with ceTimes := s.ceTimes } [] [O.drCeCount.key ch.val 0] []) ∧
  (∀ (s : State) (port : Fin 12) (line : Nat), 64 * line < s.reg O.drCapacity → s.poisoned line = false → s.reg O.drPosState (s.drSub (64 * line) / 2) (s.drServes line) ≠ 1 →
    ∃ t, exec (.drUe port line) s = .next t ∧
      t.poisoned line = true ∧
      t.reg O.drPoisonLines = satAdd O.drPoisonLines.width (s.reg O.drPoisonLines) 1 ∧
      t.reg O.drUeCount (s.drSub (64 * line) / 2) = satAdd O.drUeCount.width (s.reg O.drUeCount (s.drSub (64 * line) / 2)) 1 ∧
      (∀ a, t.readByte a = if a / 64 = line then 0 else s.readByte a) ∧
      Effect s { t with poison := s.poison } [(0x7C2, (s.drSub (64 * line) / 2) + 4 * (s.drServes line) + 256 * line)] [O.drPoisonLines.key 0 0, O.drUeCount.key (s.drSub (64 * line) / 2) 0, O.drPortBytes.key port.val 0] []) ∧
  (∀ (s : State) (port : Fin 12) (line : Nat), 64 * line < s.reg O.drCapacity → s.poisoned line = false → s.reg O.drPosState (s.drSub (64 * line) / 2) (s.drServes line) = 1 → ((s.drSub (64 * line) / 2), (s.drServes line)) ∉ s.migQueue → s.drSpare (s.drSub (64 * line) / 2) = none →
    ∃ t, exec (.drUe port line) s = .next t ∧
      t.poisoned line = true ∧
      t.reg O.drPoisonLines = satAdd O.drPoisonLines.width (s.reg O.drPoisonLines) 1 ∧
      t.reg O.drUeCount (s.drSub (64 * line) / 2) = satAdd O.drUeCount.width (s.reg O.drUeCount (s.drSub (64 * line) / 2)) 1 ∧
      (∀ a, t.readByte a = if a / 64 = line then 0 else s.readByte a) ∧
      t.hidden H.drive (0x50 + (s.drSub (64 * line) / 2)) = 1 ∧
      Effect s { t with poison := s.poison } [(0x7C2, (s.drSub (64 * line) / 2) + 4 * (s.drServes line) + 256 * line), (0x7C6, (s.drSub (64 * line) / 2) + 4 * (s.drServes line))] [O.drPoisonLines.key 0 0, O.drUeCount.key (s.drSub (64 * line) / 2) 0, O.drPortBytes.key port.val 0] [hkey H.drive (0x50 + (s.drSub (64 * line) / 2)), hkey H.driveData (0x50 + (s.drSub (64 * line) / 2))]) ∧
  (∀ (s : State) (line : Nat) (write : Bool), 64 * line < s.reg O.drCapacity → s.poisoned line = false → s.reg O.drPosState (s.drSub (64 * line) / 2) (s.drServes line) ≠ 1 →
    ∃ t, exec (.drCommandError line write) s = .next t ∧
      t.poisoned line = true ∧
      t.reg O.drPoisonLines = satAdd O.drPoisonLines.width (s.reg O.drPoisonLines) 1 ∧
      t.reg O.drUeCount (s.drSub (64 * line) / 2) = satAdd O.drUeCount.width (s.reg O.drUeCount (s.drSub (64 * line) / 2)) 1 ∧
      (∀ a, t.readByte a = if a / 64 = line then 0 else s.readByte a) ∧
      Effect s { t with poison := s.poison } [(0x7C2, (s.drSub (64 * line) / 2) + 4 * (s.drServes line) + 256 * line)] [O.drPoisonLines.key 0 0, O.drUeCount.key (s.drSub (64 * line) / 2) 0] []) ∧
  (∀ (s : State) (port : Fin 12) (line : Nat), 64 * line < s.reg O.drCapacity → s.poisoned line = true → s.hidden H.rare 0x7C7 = 0 →
    ∃ t, exec (.drPoisonRead port line) s = .next t ∧
      t.reg O.drPoisonReads = satAdd O.drPoisonReads.width (s.reg O.drPoisonReads) 1 ∧
      Effect s t [(0x7C7, port.val + 256 * line)] [O.drPoisonReads.key 0 0, O.drPortBytes.key port.val 0] [hkey H.rare 0x7C7]) ∧
  (∀ (s : State) (ch pos sp : Nat) (rest : List (Nat × Nat)), s.migQueue = (ch, pos) :: rest → s.reg O.drMigState ≠ 1 → ch < 4 → pos < 3 → s.drSpare ch = some sp →
    ∃ t, exec (.drMigStart) s = .next t ∧
      t.migQueue = rest ∧
      (t.reg O.drPosState ch pos = 5 ∨ pos = sp) ∧
      t.reg O.drPosState ch sp = 6 ∧
      (t.reg O.drMigState = 1 ∨ pos = sp) ∧
      t.reg O.drMigRank = ch + 4 * s.drLogical ch pos + 16 * pos ∧
      t.reg O.drMigPtr = 0 ∧
      t.hidden H.migStart = s.upTicks ∧
      Effect s { t with migQueue := s.migQueue } [(0x7C3, ch + 4 * s.drLogical ch pos + 16 * pos)] [O.drPosState.key ch pos, O.drPosState.key ch sp, O.drMigRank.key 0 0, O.drMigPtr.key 0 0, O.drMigState.key 0 0] [hkey H.migStart]) ∧
  (∀ (s : State) (ch f g : Nat), s.migrating = some (ch, f, g) →
    ∃ t, exec (.drMigDone) s = .next t ∧
      t.reg O.drRankMap ch = mapRank (s.reg O.drRankMap ch) (s.drLogical ch f) g ∧
      t.reg O.drPosState ch f = 3 ∧
      t.reg O.drPosState ch g = 1 ∧
      t.reg O.drMigPtr = s.reg O.drRankBytes ∧
      t.isRetired 6 ch f = true ∧
      t.raises.any (fun r => r.event == 0x7C4) = true ∧
      ({ t with regs := s.regs, hid := s.hid, raises := s.raises, ledgerDue := s.ledgerDue } : State) = s) ∧
  (∀ (s : State) (ch f g : Nat) (line : Nat), s.migrating = some (ch, f, g) → 64 * line < s.reg O.drCapacity → s.belowPtr line = true →
    ∃ t, exec (.drMigAbort [line]) s = .next t ∧
      t.poisoned line = true ∧
      t.reg O.drPosState ch f = 1 ∧
      t.reg O.drPosState ch g = 3 ∧
      t.isRetired 6 ch g = true ∧
      t.raises.any (fun r => r.event == 0x7C5) = true ∧
      ({ t with regs := s.regs, hid := s.hid, raises := s.raises, ledgerDue := s.ledgerDue, poison := s.poison } : State) = s) ∧
  (∀ (s : State) (ch : Fin 4),
    ∃ t, exec (.drRefresh ch) s = .next t ∧
      Effect s t [] [] []) ∧
  (∀ (s : State),
    ∃ t, exec (.dqsOscillatorTrack) s = .next t ∧
      Effect s t [] [] []) ∧
  (∀ (s : State),
    ∃ t, exec (.drRefreshWindow) s = .next t ∧
      t.activates = [] ∧
      Effect s { t with activates := s.activates } [] [] []) ∧
  (∀ (s : State) (sub : Fin 8) (pos : Fin 3) (bank : Fin 32) (row : Nat), (activate (Map.get s.activates [] ((sub.val * 3 + pos.val) * 32 + bank.val)) row).2 < s.reg O.drRhThreshold →
    ∃ t, exec (.drRowActivate sub pos bank row) s = .next t ∧
      Map.get t.activates [] ((sub.val * 3 + pos.val) * 32 + bank.val) = (activate (Map.get s.activates [] ((sub.val * 3 + pos.val) * 32 + bank.val)) row).1 ∧
      (∀ k, k ≠ ((sub.val * 3 + pos.val) * 32 + bank.val) → Map.get t.activates [] k = Map.get s.activates [] k) ∧
      Effect s { t with activates := s.activates } [] [] []) ∧
  (∀ (s : State) (sub : Fin 8) (pos : Fin 3) (bank : Fin 32) (row : Nat), s.reg O.drRhThreshold ≤ (activate (Map.get s.activates [] ((sub.val * 3 + pos.val) * 32 + bank.val)) row).2 →
    ∃ t, exec (.drRowActivate sub pos bank row) s = .next t ∧
      Map.get t.activates [] ((sub.val * 3 + pos.val) * 32 + bank.val) = (activate (Map.get s.activates [] ((sub.val * 3 + pos.val) * 32 + bank.val)) row).1.map (fun x => if x.1 = row then (row, 0) else x) ∧
      (∀ k, k ≠ ((sub.val * 3 + pos.val) * 32 + bank.val) → Map.get t.activates [] k = Map.get s.activates [] k) ∧
      t.reg O.drRhRefreshes (sub.val / 2) = satAdd O.drRhRefreshes.width (s.reg O.drRhRefreshes (sub.val / 2)) (neighbours s.drRows row (s.reg O.drRhRadius)) ∧
      Effect s { t with activates := s.activates } [] [O.drRhRefreshes.key ((sub.val / 2)) 0] []) ∧
  (∀ (s : State) (ch : Fin 4) (temp : BitVec 32), 95 < f32 temp.toNat →
    ∃ t, exec (.drHot ch temp) s = .next t ∧
      t.reg O.drTemp ch.val = temp.toNat ∧
      t.hidden H.drive (0x54 + ch.val) = 1 ∧
      t.hidden H.driveData (0x54 + ch.val) = toF64 (f32 temp.toNat) ∧
      Effect s t [(0x7C9, ch.val + 2 ^ 32 * temp.toNat)] [O.drTemp.key ch.val 0] [hkey H.drive (0x54 + ch.val), hkey H.driveData (0x54 + ch.val)]) ∧
  (∀ (s : State) (ch : Fin 4) (pos : Fin 3) (temp : BitVec 32), f32 ((s.setHidden H.rankTemp (temp.toNat + 1) (4 * ch.val + pos.val)).drHottest ch.val) ≤ 95 →
    ∃ t, exec (.drTempReport ch pos temp) s = .next t ∧
      t.hidden H.rankTemp (4 * ch.val + pos.val) = temp.toNat + 1 ∧
      t.reg O.drTemp ch.val = ((s.setHidden H.rankTemp (temp.toNat + 1) (4 * ch.val + pos.val)).drHottest ch.val) ∧
      t.hidden H.refreshTwice (4 * ch.val + pos.val) = b2n (decide (85 < f32 temp.toNat)) ∧
      t.hidden H.drive (0x54 + ch.val) = 0 ∧
      Effect s t [] [O.drTemp.key ch.val 0] [hkey H.rankTemp (4 * ch.val + pos.val), hkey H.refreshTwice (4 * ch.val + pos.val), hkey H.drive (0x54 + ch.val)]) ∧
  (∀ (s : State) (ch : Fin 4) (pos : Fin 3) (temp : BitVec 32), 95 < f32 ((s.setHidden H.rankTemp (temp.toNat + 1) (4 * ch.val + pos.val)).drHottest ch.val) →
    ∃ t, exec (.drTempReport ch pos temp) s = .next t ∧
      t.hidden H.rankTemp (4 * ch.val + pos.val) = temp.toNat + 1 ∧
      t.reg O.drTemp ch.val = ((s.setHidden H.rankTemp (temp.toNat + 1) (4 * ch.val + pos.val)).drHottest ch.val) ∧
      t.hidden H.refreshTwice (4 * ch.val + pos.val) = b2n (decide (85 < f32 temp.toNat)) ∧
      Effect s t [] [O.drTemp.key ch.val 0] [hkey H.rankTemp (4 * ch.val + pos.val), hkey H.refreshTwice (4 * ch.val + pos.val)]) ∧
  (∀ (s : State) (port : Fin 12), port.val < 10 →
    ∃ t, exec (.drPanicLong port) s = .next t ∧
      t.reg O.drPortPanics port.val = satAdd O.drPortPanics.width (s.reg O.drPortPanics port.val) 1 ∧
      Effect s t [(0x7C8, port.val)] [O.drPortPanics.key port.val 0] []) ∧
  (∀ (s : State), s.reg O.drState = 2 →
    ∃ t, exec (.drZeroDone) s = .next t ∧
      t.reg O.drZeroPtr = s.reg O.drCapacity ∧
      t.hidden H.zeroStart = 0 ∧
      Effect s t [] [O.drZeroPtr.key 0 0] [hkey H.zeroStart]) ∧
  (∀ (s : State), s.reg O.drState = 1 → s.reg O.drSpareCfg = 15 → (List.range 12).all (fun k => !s.isRetired 6 (k / 3) (k % 3)) = true →
    ∃ t, exec (.drTrainingDone (List.replicate 12 ({ populated := true, sizeLog := 3, failed := 0 } : RankTrain))) s = .next t ∧
      t.reg O.drState = 2 ∧
      t.reg O.drActiveRanks = 2 ∧
      t.reg O.drRankBytes = 2 ^ 34 ∧
      t.reg O.drCapacity = 2 ^ 37 ∧
      t.reg O.drRankMap 3 % 16 = 4 ∧
      t.reg O.drPosState 3 0 = 1 ∧
      t.reg O.drPosState 3 1 = 1 ∧
      t.reg O.drPosState 3 2 = 2 ∧
      ((s.hidden H.drWarm ≠ 1 → t.mem = [] ∧ t.poison = [])) ∧
      t.raises.any (fun r => r.event == 0x7C0 && r.data == 2 ^ 37) = true ∧
      ({ t with regs := s.regs, hid := s.hid, raises := s.raises, mem := s.mem, poison := s.poison } : State) = s) ∧
  (∀ (s : State), s.reg O.drState = 1 →
    ∃ t, exec (.drTrainingDone []) s = .next t ∧
      t.reg O.drState = 3 ∧
      t.reg O.drCapacity = 0 ∧
      t.hidden H.drive 0x58 = 1 ∧
      t.mem = s.mem ∧
      ({ t with regs := s.regs, hid := s.hid } : State) = s)

/-- A command of the memory controller names device DRAM at or above the capacity: there is no such line, and it stops. (R334) It rests on the model's own choices of log entry 12. -/
def Obligations.NoSuchLine : Prop :=
  (∀ (s : State) (port : Fin 12) (line : Nat), s.reg O.drCapacity ≤ 64 * line → exec (.drUe port line) s = .fault .noSuchLine) ∧
  (∀ (s : State) (line : Nat) (write : Bool), s.reg O.drCapacity ≤ 64 * line → exec (.drCommandError line write) s = .fault .noSuchLine) ∧
  (∀ (s : State) (port : Fin 12) (line : Nat), s.reg O.drCapacity ≤ 64 * line → exec (.drPoisonRead port line) s = .fault .noSuchLine)

/-- DMA channels start, take nudges and stops, fetch descriptors, move their data, and end on errors. (R357, R358, R359, R360, R361, R362, R364) It rests on the model's own choices of log entries 124, 176. -/
def Obligations.DmaChannels : Prop :=
  (∀ (s : State) (m : Master) (ch : Fin 64) (v : Nat), Owner s m → v < 2 ^ 64 → O.dmaStart.checks (v &&& O.dmaStart.mask) = true → s.plan O.dmaEnable ch.val ≠ 0 → s.reg O.dmaState ch.val ≠ 1 → s.reg O.pllaState ≠ 0 →
    ∃ t, exec (.dmaStart m ch v) s = .next t ∧
      t.out = replied s m ∧
      t.dma ch.val = { fetch := some (v / 16 * 16) } ∧
      t.reg O.dmaState ch.val = 1 ∧
      t.reg O.dmaCur ch.val = v / 16 * 16 ∧
      Effect s { t with out := s.out, dmas := s.dmas } [] [O.dmaState.key ch.val 0, O.dmaCur.key ch.val 0, O.pwrWakes.key 0 0] [hkey H.dwelling, hkey H.pwrNext, hkey H.pwrCause]) ∧
  (∀ (s : State) (m : Master) (ch : Fin 64) (v : Nat), Owner s m → v < 2 ^ 64 → O.dmaStart.checks (v &&& O.dmaStart.mask) = true → s.plan O.dmaEnable ch.val ≠ 0 → s.reg O.dmaState ch.val ≠ 1 → s.reg O.pllaState = 0 →
    ∃ t, exec (.dmaStart m ch v) s = .next t ∧
      (m ≠ .host → t.out.head? = some (.answer m.id 0)) ∧
      t.dma ch.val = { fetch := some (v / 16 * 16) } ∧
      t.reg O.dmaState ch.val = 1 ∧
      t.reg O.dmaCur ch.val = v / 16 * 16 ∧
      ({ t with regs := s.regs, hid := s.hid, raises := s.raises, dmas := s.dmas, out := s.out } : State) = s) ∧
  (∀ (s : State) (m : Master) (ch : Fin 64), Owner s m → s.reg O.dmaState ch.val = 2 → (s.dma ch.val).reread = false →
    ∃ t, exec (.dmaNudge m ch 1) s = .next t ∧
      t.out = replied s m ∧
      t.dma ch.val = { s.dma ch.val with reread := true, nudge := false, fetch := some (s.reg O.dmaCur ch.val) } ∧
      Effect s { t with out := s.out, dmas := s.dmas } [] [] []) ∧
  (∀ (s : State) (m : Master) (ch : Fin 64), Owner s m → s.reg O.dmaState ch.val ≠ 2 →
    ∃ t, exec (.dmaNudge m ch 1) s = .next t ∧
      t.out = replied s m ∧
      t.dma ch.val = { s.dma ch.val with nudge := true } ∧
      Effect s { t with out := s.out, dmas := s.dmas } [] [] []) ∧
  (∀ (s : State) (m : Master) (ch : Fin 64), Owner s m → s.reg O.dmaState ch.val = 1 →
    ∃ t, exec (.dmaStop m ch 1) s = .next t ∧
      t.out = replied s m ∧
      t.dma ch.val = { s.dma ch.val with stop := true } ∧
      Effect s { t with out := s.out, dmas := s.dmas } [] [] []) ∧
  (∀ (s : State) (m : Master) (ch : Fin 64) (d : Desc) (moved : Nat) (data : List Byte), Owner s m → s.reg O.dmaState ch.val = 1 → (s.dma ch.val).desc = some d → (s.dma ch.val).leaving = false →
    ∃ t, exec (.dmaStop m ch 1) s = .next t ∧
      t.out = replied s m ∧
      t.thenDoes (.dmaDescEnd ch moved data) (fun u => (u.reg O.dmaState ch.val, u.reg O.dmaLastStatus ch.val % 16, (u.dma ch.val).desc)) = some (3, 4, none) ∧
      ({ t with out := s.out, dmas := s.dmas } : State) = s) ∧
  (∀ (s : State) (ch : Fin 64) (a : Nat) (bytes : List Byte), (s.dma ch.val).fetch = some a → (s.dma ch.val).desc = none → (s.dma ch.val).reread = false → bit a 4 = false → (s.setReg O.dmaCur (a / 16 * 16) ch.val).descRefused ch.val (parseDesc bytes) = false →
    ∃ t, exec (.dmaDescFetch ch bytes) s = .next t ∧
      t.reg O.dmaCur ch.val = a / 16 * 16 ∧
      t.dma ch.val = { s.dma ch.val with fetch := none, desc := some (parseDesc bytes) } ∧
      Effect s { t with dmas := s.dmas } [] [O.dmaCur.key ch.val 0] []) ∧
  (∀ (s : State) (ch : Fin 64) (a : Nat) (bytes : List Byte), (s.dma ch.val).fetch = some a → (s.dma ch.val).desc = none → (s.dma ch.val).reread = false → bit a 4 = false → (s.dma ch.val).leaving = false → (s.setReg O.dmaCur (a / 16 * 16) ch.val).descRefused ch.val (parseDesc bytes) = true →
    ∃ t, exec (.dmaDescFetch ch bytes) s = .next t ∧
      t.reg O.dmaCur ch.val = a / 16 * 16 ∧
      t.dma ch.val = {} ∧
      t.reg O.dmaState ch.val = 3 ∧
      t.reg O.dmaLastStatus ch.val = 0x8002 ∧
      t.out = .hostWrite (a / 32 * 32 + 30) (leBytes 0x8002 2) :: s.out ∧
      Effect s { t with dmas := s.dmas, out := s.out } [(0x701 + 2 * ch.val, 0x8002)] [O.dmaCur.key ch.val 0, O.dmaState.key ch.val 0, O.dmaLastStatus.key ch.val 0, O.dmaDoneCount.key ch.val 0] []) ∧
  (∀ (s : State) (ch : Fin 64) (d : Desc) (data : List Byte), (s.dma ch.val).desc = some d → descSrc d = 0 → descDst d = 1 → descK d = 0 → descSwap d = 0 → descHswap d = false → data.length = d.count → bit (s.reg O.dmaCur ch.val) 4 = false → s.poison = [] → (s.dma ch.val).stop = false → (s.dma ch.val).leaving = false → descLink d = true →
    ∃ t, exec (.dmaDescEnd ch 0 data) s = .next t ∧
      t.readMem d.dst d.count = data ∧
      (∀ a, (a < d.dst ∨ d.dst + d.count ≤ a) → t.readByte a = s.readByte a) ∧
      t.reg O.dmaBytes ch.val = (s.reg O.dmaBytes ch.val + d.count) % 2 ^ O.dmaBytes.width ∧
      t.reg O.dmaLastStatus ch.val = 0x8000 ∧
      t.reg O.dmaDoneCount ch.val = ((s.reg O.dmaDoneCount ch.val + 1) % 2 ^ O.dmaDoneCount.width) ∧
      t.out = .hostWrite (s.reg O.dmaCur ch.val / 32 * 32 + 30) (leBytes 0x8000 2) :: s.out ∧
      t.dma ch.val = { s.dma ch.val with desc := none, fetch := some d.next } ∧
      Effect s { t with dmas := s.dmas, mem := s.mem, out := s.out } (if descNoEvt d then [] else [(0x700 + 2 * ch.val, 0x8000 + 65536 * ((s.reg O.dmaDoneCount ch.val + 1) % 2 ^ O.dmaDoneCount.width))]) [O.dmaBytes.key ch.val 0, O.dmaLastStatus.key ch.val 0, O.dmaDoneCount.key ch.val 0, O.drPortBytes.key 10 0] []) ∧
  (∀ (s : State) (ch : Fin 64) (d : Desc) (data : List Byte), (s.dma ch.val).desc = some d → descSrc d = 0 → descDst d = 1 → descK d = 0 → descSwap d = 0 → descHswap d = false → data.length = d.count → bit (s.reg O.dmaCur ch.val) 4 = false → s.poison = [] → (s.dma ch.val).leaving = false →
    ∃ t, exec (.dmaHostError ch data) s = .next t ∧
      t.readMem d.dst d.count = data ∧
      (∀ a, (a < d.dst ∨ d.dst + d.count ≤ a) → t.readByte a = s.readByte a) ∧
      t.reg O.dmaBytes ch.val = (s.reg O.dmaBytes ch.val + d.count) % 2 ^ O.dmaBytes.width ∧
      t.reg O.dmaLastStatus ch.val = 0x8003 ∧
      t.reg O.dmaDoneCount ch.val = ((s.reg O.dmaDoneCount ch.val + 1) % 2 ^ O.dmaDoneCount.width) ∧
      t.out = .hostWrite (s.reg O.dmaCur ch.val / 32 * 32 + 30) (leBytes 0x8003 2) :: s.out ∧
      t.dma ch.val = {} ∧
      t.reg O.dmaState ch.val = 3 ∧
      Effect s { t with dmas := s.dmas, mem := s.mem, out := s.out } ((if descNoEvt d then [] else [(0x700 + 2 * ch.val, 0x8003 + 65536 * ((s.reg O.dmaDoneCount ch.val + 1) % 2 ^ O.dmaDoneCount.width))]) ++ [(0x701 + 2 * ch.val, 0x8003)]) [O.dmaBytes.key ch.val 0, O.dmaLastStatus.key ch.val 0, O.dmaDoneCount.key ch.val 0, O.drPortBytes.key 10 0, O.dmaState.key ch.val 0] [])

/-- Streams close records, frame samples, follow their consumer and send datagrams. (R366, R368, R370, R371, R372, R373, R374) It rests on the model's own choices of log entries 20, 121, 122, 176. -/
def Obligations.StreamRecords : Prop :=
  (∀ (s : State) (st : Fin 32) (i : Item) (is : List Item), s.reg O.stState st.val = 1 → s.plan O.stDest st.val = 2 → s.plan O.stRingSize st.val = 0 → s.srcRing st.val = 0 → s.plan O.stFormat st.val = 0 → (s.stream st.val).items = i :: is → i.begun = false → s.plan O.stCrc st.val = 0 → s.plan O.stRecMax st.val - 64 ≤ (s.stream st.val).total → 64 < s.plan O.stRecMax st.val →
    ∃ t, exec (.stRecordClose st) s = .next t ∧
      t.stream st.val = { s.stream st.val with items := (takeItems (s.plan O.stRecMax st.val - 64) {} (s.stream st.val).items).rest, flags := 0, ready := (s.stream st.val).ready ++ [{ bytes := leBytes (s.recHeader st.val i.index i.t96 (takeItems (s.plan O.stRecMax st.val - 64) {} (s.stream st.val).items).payload.length 0 (takeItems (s.plan O.stRecMax st.val - 64) {} (s.stream st.val).items).begins ((s.stream st.val).flags ||| flagIf (takeItems (s.plan O.stRecMax st.val - 64) {} (s.stream st.val).items).poison 4) 0) 64 ++ (takeItems (s.plan O.stRecMax st.val - 64) {} (s.stream st.val).items).payload ++ List.replicate ((64 - (takeItems (s.plan O.stRecMax st.val - 64) {} (s.stream st.val).items).payload.length % 64) % 64) 0, ends := (takeItems (s.plan O.stRecMax st.val - 64) {} (s.stream st.val).items).ends.map (fun e => (64 + e.1, e.2)), count := (takeItems (s.plan O.stRecMax st.val - 64) {} (s.stream st.val).items).begins, turn := s.hidden H.turn }] } ∧
      t.reg O.stRecSeq st.val = (s.reg O.stRecSeq st.val + 1) % 2 ^ O.stRecSeq.width ∧
      t.hidden H.turn = s.hidden H.turn + 1 ∧
      Effect s { t with streams := s.streams } [] [O.stRecSeq.key st.val 0] [hkey H.turn]) ∧
  (∀ (s : State) (st : Fin 32) (i : Item) (is : List Item), s.reg O.stState st.val = 1 → s.plan O.stDest st.val = 2 → s.plan O.stRingSize st.val = 0 → s.srcRing st.val = 0 → s.plan O.stFormat st.val = 0 → (s.stream st.val).items = i :: is → i.begun = false → s.plan O.stCrc st.val = 0 → 64 < s.plan O.stRecMax st.val →
    ∃ t, exec (.stFlushTimeout st) s = .next t ∧
      t.stream st.val = { s.stream st.val with items := (takeItems (s.plan O.stRecMax st.val - 64) {} (s.stream st.val).items).rest, flags := 0, ready := (s.stream st.val).ready ++ [{ bytes := leBytes (s.recHeader st.val i.index i.t96 (takeItems (s.plan O.stRecMax st.val - 64) {} (s.stream st.val).items).payload.length 0 (takeItems (s.plan O.stRecMax st.val - 64) {} (s.stream st.val).items).begins ((s.stream st.val).flags ||| flagIf (takeItems (s.plan O.stRecMax st.val - 64) {} (s.stream st.val).items).poison 4) 0) 64 ++ (takeItems (s.plan O.stRecMax st.val - 64) {} (s.stream st.val).items).payload ++ List.replicate ((64 - (takeItems (s.plan O.stRecMax st.val - 64) {} (s.stream st.val).items).payload.length % 64) % 64) 0, ends := (takeItems (s.plan O.stRecMax st.val - 64) {} (s.stream st.val).items).ends.map (fun e => (64 + e.1, e.2)), count := (takeItems (s.plan O.stRecMax st.val - 64) {} (s.stream st.val).items).begins, turn := s.hidden H.turn }] } ∧
      t.reg O.stRecSeq st.val = (s.reg O.stRecSeq st.val + 1) % 2 ^ O.stRecSeq.width ∧
      t.hidden H.turn = s.hidden H.turn + 1 ∧
      Effect s { t with streams := s.streams } [] [O.stRecSeq.key st.val 0] [hkey H.turn]) ∧
  (∀ (s : State) (st : Fin 32), s.reg O.stState st.val = 1 → s.plan O.stDest st.val = 2 → s.plan O.stRingSize st.val = 0 → s.srcRing st.val = 0 → s.plan O.stFormat st.val = 1 → s.plan O.vdPayload st.val ≠ 0 → s.plan O.vdPayload st.val ≤ (s.stream st.val).total →
    ∃ t, exec (.stVdifFrame st) s = .next t ∧
      t.stream st.val = { s.stream st.val with items := (takeItems (s.plan O.vdPayload st.val) {} (s.stream st.val).items).rest, vdJ := (s.stream st.val).vdJ + 1, ready := (s.stream st.val).ready ++ [{ bytes := s.vdifHeader st.val (s.stream st.val).vdJ (takeItems (s.plan O.vdPayload st.val) {} (s.stream st.val).items).poison ++ offsetBinary (takeItems (s.plan O.vdPayload st.val) {} (s.stream st.val).items).payload, ends := (takeItems (s.plan O.vdPayload st.val) {} (s.stream st.val).items).ends.map (fun e => (32 + e.1, e.2)), count := (takeItems (s.plan O.vdPayload st.val) {} (s.stream st.val).items).begins, turn := s.hidden H.turn }] } ∧
      t.reg O.stRecSeq st.val = (s.reg O.stRecSeq st.val + 1) % 2 ^ O.stRecSeq.width ∧
      t.hidden H.turn = s.hidden H.turn + 1 ∧
      Effect s { t with streams := s.streams } [] [O.stRecSeq.key st.val 0] [hkey H.turn]) ∧
  (∀ (s : State) (st : Fin 32) (consumer : Nat), s.drainOf st.val 0 = none → s.plan O.stDest st.val = 0 → s.plan O.stHostMode st.val = 1 → s.hidden H.hostUp = 1 → s.reg O.stState st.val = 1 → (s.stream st.val).ready = [] →
    ∃ t, exec (.stHostRpPoll st consumer) s = .next t ∧
      t.stream st.val = { s.stream st.val with rp := consumer } ∧
      Effect s { t with streams := s.streams } [] [] []) ∧
  (∀ (s : State) (st : Fin 32) (consumer : Nat) (d : Drain), s.drainOf st.val 0 = some d →
    ∃ t, exec (.stHostRpPoll st consumer) s = .next t ∧
      t.stream st.val = s.stream st.val ∧
      t.active = s.active ∧
      ({ t with regs := s.regs, hid := s.hid, raises := s.raises, out := s.out, streams := s.streams, drains := s.drains } : State) = s) ∧
  (∀ (s : State) (st : Fin 32) (consumer : Nat) (r : StRec), s.drainOf st.val 0 = none → s.plan O.stDest st.val = 0 → s.plan O.stHostMode st.val = 1 → s.hidden H.hostUp = 1 → s.reg O.stState st.val = 1 → s.plan O.stRingSize st.val = 0 → s.plan O.stEvtBytes st.val = 0 → s.reg O.frSafe = 0 → (s.stream st.val).ready = [r] → (s.setStream st.val { s.stream st.val with rp := consumer }).hostTakes st.val r.bytes.length = true → (s.stream st.val).wp + r.bytes.length ≤ s.plan O.stHostSize st.val →
    ∃ t, exec (.stHostRpPoll st consumer) s = .next t ∧
      t.stream st.val = { s.stream st.val with rp := consumer, ready := [], wp := ((s.stream st.val).wp + r.bytes.length) % s.plan O.stHostSize st.val, evtBytes := (s.stream st.val).evtBytes + r.bytes.length } ∧
      t.out = .hostWrite (s.plan O.stHostWpAddr st.val) (leBytes (((s.stream st.val).wp + r.bytes.length) % s.plan O.stHostSize st.val) 8) :: .hostWrite (s.plan O.stHostBase st.val + (s.stream st.val).wp) r.bytes :: s.out ∧
      t.reg O.stBytes st.val = (s.reg O.stBytes st.val + r.bytes.length) % 2 ^ O.stBytes.width ∧
      Effect s { t with streams := s.streams, out := s.out } [] [O.stBytes.key st.val 0] []) ∧
  (∀ (s : State) (st : Fin 32) (r : StRec) (rest : List StRec), (s.stream st.val).ready = r :: rest → s.drainOf st.val 2 = none → (List.range 32).all (fun m => match s.udpTurn (s.plan O.stUdpEth st.val) m with | some v => decide (r.turn ≤ v) | none => true) = true → s.plan O.stDest st.val = 2 → s.reg O.ethLink (s.plan O.stUdpEth st.val) ≠ 0 → s.reg O.frSafe = 0 → s.plan O.stRingSize st.val = 0 → s.plan O.stUdpIpv6 st.val = 0 →
    ∃ t, exec (.stUdpSend st) s = .next t ∧
      t.stream st.val = { s.stream st.val with ready := rest } ∧
      t.out = .udp (s.plan O.stUdpEth st.val) (s.plan O.stUdpDstMac st.val) false (s.plan O.stUdpDstIpLo st.val % 2 ^ 32) (s.plan O.stUdpPorts st.val) (s.plan O.stUdpDscp st.val) r.bytes :: s.out ∧
      t.reg O.stBytes st.val = (s.reg O.stBytes st.val + r.bytes.length) % 2 ^ O.stBytes.width ∧
      Effect s { t with streams := s.streams, out := s.out } [] [O.stBytes.key st.val 0] [])

/-- NVMe controllers are enumerated and polled; commands complete, are retried, or fail their set; catalogues are written; extents are deallocated. (R375, R376, R379, R380, R381) It rests on the model's own choices of log entries 20, 123. -/
def Obligations.DriveSets : Prop :=
  (∀ (s : State) (f : NvFound), s.reg O.drState = 2 → s.hidden H.enumerated = 0 → f.qualifies = true →
    ∃ t, exec (.nvEnumerate [f]) s = .next t ∧
      t.reg O.nvCtrlState 0 = 2 ∧
      t.reg O.nvCtrlQueues 0 = f.queues.toNat ∧
      t.reg O.nvCtrlMdts 0 = f.mdts.toNat ∧
      t.hidden H.lbaShift 0 = f.lbaShift.val ∧
      t.out = (List.range (min 16 f.queues.toNat)).flatMap (fun _ => [.nvme 0 0x101 0 0, .nvme 0 0x105 0 0]) ++ .nvme 0 0x109 0 0 :: .nvme 0 0x106 0 0 :: s.out ∧
      t.hidden H.enumerated = 1 ∧
      Effect s { t with out := s.out } [(0x7A2, 0 + 256 * 2)] [O.nvCtrlState.key 0 0, O.nvCtrlQueues.key 0 0, O.nvCtrlMdts.key 0 0] [hkey H.lbaShift, hkey H.enumerated]) ∧
  (∀ (s : State) (f : NvFound), s.reg O.drState = 2 → s.hidden H.enumerated = 0 → f.qualifies = false →
    ∃ t, exec (.nvEnumerate [f]) s = .next t ∧
      t.reg O.nvCtrlState 0 = 3 ∧
      t.hidden H.enumerated = 1 ∧
      t.out = .nvme 0 0x106 0 0 :: s.out ∧
      Effect s { t with out := s.out } [(0x7A2, 0 + 256 * 3)] [O.nvCtrlState.key 0 0] [hkey H.enumerated]) ∧
  (∀ (s : State) (ctrl : Fin 8) (c : NvCmd) (rest : List NvCmd), oldestOf ctrl.val s.nvCmds = some (c, rest) → (s.nvSet c.set).closing = false → (s.nvSet c.set).cat = none → planSetStream s.active c.set = none →
    ∃ t, exec (.nvCmdComplete ctrl true) s = .next t ∧
      t.nvCmds = rest ∧
      Effect s { t with nvCmds := s.nvCmds } [] [] []) ∧
  (∀ (s : State) (ctrl : Fin 8) (c : NvCmd) (rest : List NvCmd) (q : NvCat), oldestOf ctrl.val s.nvCmds = some (c, rest) → (s.nvSet c.set).closing = false → (s.nvSet c.set).cat = some q → q.put = true → q.state ≠ 2 → rest.any (fun y => y.set == c.set && y.op == 0) = false → planSetStream s.active c.set = none → c.set < 8 →
    ∃ t, exec (.nvCmdComplete ctrl true) s = .next t ∧
      t.nvCmds = rest ∧
      t.nvSet c.set = { (s.nvSet c.set) with slot := 1 - (s.nvSet c.set).slot, gen := (s.nvSet c.set).gen + 1, cut := false, cat := none, run := { (s.nvSet c.set).run with done := q.total } } ∧
      t.reg O.nvCatGen c.set = (s.nvSet c.set).gen + 1 ∧
      Effect s { t with nvCmds := s.nvCmds, nvSets := s.nvSets } [] [O.nvCatGen.key c.set 0, O.nvBytesDone.key c.set 0] []) ∧
  (∀ (s : State) (ctrl : Fin 8) (c : NvCmd) (rest : List NvCmd), oldestOf ctrl.val s.nvCmds = some (c, rest) → c.again = false →
    ∃ t, exec (.nvCmdComplete ctrl false) s = .next t ∧
      t.nvCmds = { c with again := true } :: rest ∧
      t.out = .nvme ctrl.val c.op c.lba c.len :: .nvme ctrl.val 0x102 0 0 :: s.out ∧
      t.reg O.nvCtrlErrors ctrl.val = satAdd O.nvCtrlErrors.width (s.reg O.nvCtrlErrors ctrl.val) 1 ∧
      Effect s { t with nvCmds := s.nvCmds, out := s.out } [] [O.nvCtrlErrors.key ctrl.val 0] []) ∧
  (∀ (s : State) (ctrl : Fin 8) (c : NvCmd) (rest : List NvCmd), oldestOf ctrl.val s.nvCmds = some (c, rest) → c.again = true → c.op = 1 → c.set < 8 → c.ctrl = ctrl.val → planSetStream s.active c.set = none → ((((s.nvSet c.set).run.members.head?).map nvCtrlOf).getD 8) = ctrl.val ∨ s.reg O.nvCtrlState ((((s.nvSet c.set).run.members.head?).map nvCtrlOf).getD 8) ≠ 2 →
    ∃ t, exec (.nvCmdTimeout ctrl) s = .next t ∧
      t.nvCmds = rest.filter (fun q => q.set != c.set) ∧
      t.reg O.nvCtrlState ctrl.val = 3 ∧
      t.reg O.nvSetState c.set = 3 ∧
      t.hidden H.drive (0x68 + c.set) = 1 ∧
      (t.nvSet c.set).cat = none ∧
      (t.nvSet c.set).closing = false ∧
      t.out = .nvme ctrl.val 0x102 0 0 :: s.out ∧
      Effect s { t with nvCmds := s.nvCmds, out := s.out, nvSets := s.nvSets } [(0x7A2, ctrl.val + 256 * 3)] [O.nvCtrlErrors.key ctrl.val 0, O.nvCtrlState.key ctrl.val 0, O.nvSetState.key c.set 0] [hkey H.drive (0x68 + c.set), hkey H.driveData (0x68 + c.set)]) ∧
  (∀ (s : State) (d : Fin 8), s.reg O.nvSetState d.val = 1 → (s.nvSet d.val).closing = false → (s.nvSet d.val).cat = none → (s.nvSet d.val).run.members ≠ [] →
    ∃ t, exec (.nvCatalogueWrite d) s = .next t ∧
      t.nvSet d.val = { (s.nvSet d.val) with cat := some ⟨1, s.nvDone d.val, false⟩ } ∧
      t.nvCmds = s.nvCmds ++ (s.nvSet d.val).run.members.map (fun q => { ctrl := nvCtrlOf q, set := d.val, op := 0 }) ∧
      t.out = ((s.nvSet d.val).run.members.map (fun q => Out.nvme (nvCtrlOf q) 0 0 0)).reverse ++ s.out ∧
      Effect s { t with nvSets := s.nvSets, nvCmds := s.nvCmds, out := s.out } [] [] []) ∧
  (∀ (s : State) (m : Master) (d : Fin 8), Owner s m → bit (s.reg O.pwrDomainOn) 35 = true → planSetStream s.active d.val = none → s.awaiting = none → s.armed = none → s.plan O.nvMembers d.val = 1 →
    ∃ t, exec (.nvTrimCmd m d 1) s = .next t ∧
      t.out = replied { s with out := .nvme (s.nvCtrl d.val 0) 9 (s.plan O.nvMStart d.val 0) (s.plan O.nvMCount d.val 0 * 2 ^ s.nvShift d.val 0) :: s.out } m ∧
      Effect s { t with out := s.out } [] [] []) ∧
  (∀ (s : State) (ctrl : Fin 8) (temp : BitVec 32) (warn : Byte), s.reg O.nvCtrlState ctrl.val = 2 →
    ∃ t, exec (.nvSmartPoll ctrl temp warn) s = .next t ∧
      t.reg O.nvCtrlTemp ctrl.val = temp.toNat ∧
      t.reg O.nvCtrlWarn ctrl.val = warn.toNat ∧
      t.out = .nvme ctrl.val 0x102 0 0 :: s.out ∧
      Effect s { t with out := s.out } (if warn = 0 then [] else [(0x7A3, ctrl.val + 256 * warn.toNat)]) [O.nvCtrlTemp.key ctrl.val 0, O.nvCtrlWarn.key ctrl.val 0] [])

/-- The links to the host, to drives, on Ethernet and on CAN FD. (R50, R383, R384) It rests on the model's own choices of log entries 155, 156. -/
def Obligations.Links : Prop :=
  (∀ (s : State) (lanes : Fin 17) (speed : Fin 6), lanes.val ≠ 0 → (s.trains 0 lanes.val speed.val).1 = false ∨ s.reg O.planGen = 0 →
    ∃ t, exec (.pcieLink lanes speed) s = .next t ∧
      t.reg O.pcieWidth = lanes.val ∧
      t.reg O.pcieSpeed = speed.val ∧
      t.reg O.pcieHostCap = linkCap 54000000000 16 lanes.val speed.val ∧
      t.hidden H.linkUp = 1 ∧
      t.hidden H.trained 0 = (if lanes.val * laneSpeed speed.val = 0 then s.hidden H.trained 0 else lanes.val * laneSpeed speed.val) ∧
      Effect s t [] [O.pcieWidth.key 0 0, O.pcieSpeed.key 0 0, O.pcieHostCap.key 0 0] [hkey H.linkUp, hkey H.trained]) ∧
  (∀ (s : State) (lanes : Fin 17) (speed : Fin 6), lanes.val ≠ 0 → (s.trains 0 lanes.val speed.val).1 = true → s.reg O.planGen ≠ 0 → s.faultRaw 0x60 = false →
    ∃ t, exec (.pcieLink lanes speed) s = .next t ∧
      t.reg O.pcieWidth = lanes.val ∧
      t.reg O.pcieSpeed = speed.val ∧
      t.reg O.pcieHostCap = linkCap 54000000000 16 lanes.val speed.val ∧
      t.hidden H.linkUp = 1 ∧
      t.hidden H.trained 0 = (if lanes.val * laneSpeed speed.val = 0 then s.hidden H.trained 0 else lanes.val * laneSpeed speed.val) ∧
      t.hidden H.held 0x60 = 1 ∧
      Effect s t [(0x7A0, lanes.val + 256 * speed.val)] [O.pcieWidth.key 0 0, O.pcieSpeed.key 0 0, O.pcieHostCap.key 0 0] [hkey H.linkUp, hkey H.trained, hkey H.held 0x60, hkey H.driveData 0x60]) ∧
  (∀ (s : State) (lanes : Fin 9) (speed : Fin 6), lanes.val ≠ 0 → (s.trains 1 lanes.val speed.val).1 = false ∨ s.reg O.planGen = 0 →
    ∃ t, exec (.nvRootLink lanes speed) s = .next t ∧
      t.reg O.nvRootWidth = lanes.val ∧
      t.reg O.nvRootSpeed = speed.val ∧
      t.reg O.nvRootCap = linkCap 27000000000 8 lanes.val speed.val ∧
      t.hidden H.trained 1 = (if lanes.val * laneSpeed speed.val = 0 then s.hidden H.trained 1 else lanes.val * laneSpeed speed.val) ∧
      Effect s t [] [O.nvRootWidth.key 0 0, O.nvRootSpeed.key 0 0, O.nvRootCap.key 0 0] [hkey H.trained 1]) ∧
  (∀ (s : State) (lanes : Fin 9) (speed : Fin 6), lanes.val ≠ 0 → (s.trains 1 lanes.val speed.val).1 = true → s.reg O.planGen ≠ 0 → s.faultRaw 0x61 = false →
    ∃ t, exec (.nvRootLink lanes speed) s = .next t ∧
      t.reg O.nvRootWidth = lanes.val ∧
      t.reg O.nvRootSpeed = speed.val ∧
      t.reg O.nvRootCap = linkCap 27000000000 8 lanes.val speed.val ∧
      t.hidden H.trained 1 = (if lanes.val * laneSpeed speed.val = 0 then s.hidden H.trained 1 else lanes.val * laneSpeed speed.val) ∧
      t.hidden H.held 0x61 = 1 ∧
      Effect s t [(0x7A1, lanes.val + 256 * speed.val)] [O.nvRootWidth.key 0 0, O.nvRootSpeed.key 0 0, O.nvRootCap.key 0 0] [hkey H.trained 1, hkey H.held 0x61, hkey H.driveData 0x61]) ∧
  (∀ (s : State) (p : Fin 2) (link : Fin 3), s.reg O.ethLink p.val ≠ link.val → link ≠ 0 → s.plan O.ethRate p.val ≠ 0 →
    ∃ t, exec (.ethLinkChange p link) s = .next t ∧
      t.reg O.ethLink p.val = link.val ∧
      Effect s t [(0x7A4 + p.val, link.val)] [O.ethLink.key p.val 0] []) ∧
  (∀ (s : State) (p : Fin 2) (link : Fin 3), s.reg O.ethLink p.val ≠ 0 → link = 0 → (List.range 8).all (fun n => (s.session n).port != p.val || !(s.session n).isOpen) = true →
    ∃ t, exec (.ethLinkChange p link) s = .next t ∧
      t.reg O.ethLink p.val = 0 ∧
      Effect s t [(0x7A4 + p.val, 0)] [O.ethLink.key p.val 0] []) ∧
  (∀ (s : State) (p : Fin 2) (kind : Fin 3) (target : Nat), s.dictReady = true → s.reg O.ethLink p.val ≠ 0 → target ≠ 0 → kind = 0 → target = s.reg O.ethIpv4 p.val →
    ∃ t, exec (.ethNeighbourRequest p kind target) s = .next t ∧
      t.out = .neighbour p.val 0 target :: s.out ∧
      Effect s { t with out := s.out } [] [] []) ∧
  (∀ (s : State) (m : Master) (object : Fin 5) (v : Nat), Owner s m → v < 2 ^ (canRow object.val).width → (canRow object.val).checks (v &&& (canRow object.val).mask) = true → (s.session 8).isOpen = false →
    ∃ t, exec (.canTimingWrite m object v) s = .next t ∧
      t.out = replied s m ∧
      t.reg (canRow object.val) = v ∧
      Effect s { t with out := s.out } [] [(canRow object.val).key 0 0] []) ∧
  (∀ (s : State), s.reg O.canState ≠ 2 → (s.session 8).isOpen = false →
    ∃ t, exec (.canBusOff) s = .next t ∧
      t.reg O.canState = 2 ∧
      Effect s t [(0x7A6, 2)] [O.canState.key 0 0] []) ∧
  (∀ (s : State), s.reg O.canState = 2 →
    ∃ t, exec (.canBusOffRecovery) s = .next t ∧
      t.reg O.canState = 0 ∧
      Effect s t [(0x7A6, 0)] [O.canState.key 0 0] [])

/-- The display heads: hot plug, training, commits, clasp points, flips and hallmarks. (R390, R391, R397, R398, R400, R402, R403) It rests on the model's own choices of log entries 20, 130. -/
def Obligations.DisplayHeads : Prop :=
  (∀ (s : State) (h : Fin 2) (edid : List Byte), s.plan O.dpEnable h.val = 1 →
    ∃ t, exec (.dpHpdRise h edid) s = .next t ∧
      t.head h.val = { s.head h.val with hpd := true, sink := edid, retrain := false } ∧
      t.dom O.dpEdid h.val = edid ∧
      t.reg O.dpState h.val = 1 ∧
      t.reg O.dpLayerState h.val = s.reg O.dpLayerState h.val / 16 * 16 ∧
      Effect s { t with heads := s.heads, doms := s.doms } [] [O.dpState.key h.val 0, O.dpLayerState.key h.val 0] []) ∧
  (∀ (s : State) (h : Fin 2), s.plan O.dpEnable h.val = 1 →
    ∃ t, exec (.dpHpdFall h) s = .next t ∧
      t.head h.val = { s.head h.val with hpd := false, retrain := false } ∧
      t.reg O.dpState h.val = 4 ∧
      t.reg O.dpLink h.val = 0 ∧
      t.reg O.dpLayerState h.val = s.reg O.dpLayerState h.val / 16 * 16 ∧
      Effect s { t with heads := s.heads } [(dpEvent h.val 6, 1)] [O.dpState.key h.val 0, O.dpLayerState.key h.val 0, O.dpLink.key h.val 0] []) ∧
  (∀ (s : State) (h : Fin 2), s.reg O.dpState h.val = 1 ∨ (s.head h.val).retrain = true →
    ∃ t, exec (.dpLinkTrained h true) s = .next t ∧
      t.head h.val = { s.head h.val with blanks := 2, clasped := false, blank := true, retrain := false, marked := true } ∧
      t.reg O.dpState h.val = 2 ∧
      t.reg O.dpLink h.val = (cfgAt (s.head h.val).cfg 0 + 256 * cfgAt (s.head h.val).cfg 1) ∧
      Effect s { t with heads := s.heads } [(dpEvent h.val 5, (cfgAt (s.head h.val).cfg 0 + 256 * cfgAt (s.head h.val).cfg 1))] [O.dpState.key h.val 0, O.dpLink.key h.val 0] []) ∧
  (∀ (s : State) (h : Fin 2), s.reg O.dpState h.val = 1 ∨ (s.head h.val).retrain = true →
    ∃ t, exec (.dpLinkTrained h false) s = .next t ∧
      t.head h.val = { s.head h.val with retrain := false } ∧
      t.reg O.dpState h.val = 4 ∧
      t.reg O.dpLink h.val = 0 ∧
      t.reg O.dpLayerState h.val = s.reg O.dpLayerState h.val / 16 * 16 ∧
      Effect s { t with heads := s.heads } [(dpEvent h.val 6, 2)] [O.dpState.key h.val 0, O.dpLayerState.key h.val 0, O.dpLink.key h.val 0] []) ∧
  (∀ (s : State) (h : Fin 2), s.plan O.dpEnable h.val = 1 → s.reg O.dpState h.val = 4 →
    ∃ t, exec (.dpTrainRetry h) s = .next t ∧
      t.reg O.dpState h.val = 1 ∧
      Effect s t [] [O.dpState.key h.val 0] []) ∧
  (∀ (s : State) (m : Master) (h : Fin 2), Owner s m → bit (s.reg O.pwrDomainOn) 33 = true → s.plan O.dpEnable h.val = 1 → (s.dpShadow h.val).ok (s.head h.val).cfg = true → (s.head h.val).pend = none →
    ∃ t, exec (.dpCommit m h 1) s = .next t ∧
      t.out = replied s m ∧
      t.head h.val = { s.head h.val with pend := some (s.dpShadow h.val, (s.reg O.dpState h.val == 2 || s.reg O.dpState h.val == 3) && (s.head h.val).clasped) } ∧
      Effect s { t with out := s.out, heads := s.heads } [] [] []) ∧
  (∀ (s : State) (m : Master) (h : Fin 2), Owner s m → bit (s.reg O.pwrDomainOn) 33 = true → s.plan O.dpEnable h.val = 1 → (s.dpShadow h.val).ok (s.head h.val).cfg = true → (s.head h.val).pend = none → s.reg O.dpState h.val = 3 → (s.head h.val).clasped = false → (s.head h.val).cfg = dpPlan s.active h.val → (s.head h.val).safe = false → (s.head h.val).timing = false →
    ∃ t, exec (.dpCommit m h 1) s = .next t ∧
      t.out = replied s m ∧
      t.thenDoes (.dpClasp h) (fun u => ((u.head h.val).live, u.reg O.dpCommitSeq h.val)) = some (s.dpShadow h.val, (s.reg O.dpCommitSeq h.val + 1) % 2 ^ O.dpCommitSeq.width) ∧
      ({ t with out := s.out, heads := s.heads } : State) = s) ∧
  (∀ (s : State) (h : Fin 2), s.reg O.dpState h.val = 3 → (s.head h.val).clasped = false → (s.head h.val).cfg = dpPlan s.active h.val → (s.head h.val).safe = false → (s.head h.val).timing = false → (s.head h.val).pend = none →
    ∃ t, exec (.dpClasp h) s = .next t ∧
      t.head h.val = { s.head h.val with clasped := true, latch := s.dpLatchNow h.val } ∧
      Effect s { t with heads := s.heads } [] [] []) ∧
  (∀ (s : State) (h : Fin 2) (p : DpSet) (late : Bool), s.reg O.dpState h.val = 3 → (s.head h.val).clasped = false → (s.head h.val).cfg = dpPlan s.active h.val → (s.head h.val).safe = false → (s.head h.val).timing = false → (s.head h.val).pend = some (p, late) → (s.head h.val).live.buffer = none →
    ∃ t, exec (.dpClasp h) s = .next t ∧
      t.head h.val = { s.head h.val with clasped := true, live := p, pend := none, latch := s.dpLatchNow h.val } ∧
      t.reg O.dpCommitSeq h.val = ((s.reg O.dpCommitSeq h.val + 1) % 2 ^ O.dpCommitSeq.width) ∧
      t.reg O.dpLate h.val = (if late then satAdd O.dpLate.width (s.reg O.dpLate h.val) 1 else s.reg O.dpLate h.val) ∧
      Effect s { t with heads := s.heads } [(dpEvent h.val 1, ((s.reg O.dpCommitSeq h.val + 1) % 2 ^ O.dpCommitSeq.width) + 2 ^ 32 * b2n late)] [O.dpCommitSeq.key h.val 0, O.dpLayerState.key h.val 0, O.dpLate.key h.val 0] []) ∧
  (∀ (s : State) (h : Fin 2), s.reg O.dpState h.val = 3 → (s.head h.val).retrain = false → (s.head h.val).retiring = [] →
    ∃ t, exec (.dpFlip h) s = .next t ∧
      t.head h.val = { s.head h.val with blanks := (s.head h.val).blanks - 1, blank := (decide (0 < (s.head h.val).blanks) || s.reg O.frSafe == 1), clasped := false, marked := false, shown := (s.head h.val).live, shownLatch := (s.head h.val).latch, shownCfg := (s.head h.val).cfg, shownPal := s.dom O.dnPalette } ∧
      t.reg O.dpFrame h.val = ((s.reg O.dpFrame h.val + 1) % 2 ^ O.dpFrame.width) ∧
      t.reg O.dpFlipT96 h.val = s.now ∧
      t.reg O.dpState h.val = (if (decide (0 < (s.head h.val).blanks) || s.reg O.frSafe == 1) then 2 else 3) ∧
      t.out = .flip h.val ((s.reg O.dpFrame h.val + 1) % 2 ^ O.dpFrame.width) :: s.out ∧
      Effect s { t with heads := s.heads, out := s.out } [(dpEvent h.val 0, ((s.reg O.dpFrame h.val + 1) % 2 ^ O.dpFrame.width))] [O.dpFrame.key h.val 0, O.dpFlipT96.key h.val 0, O.dpState.key h.val 0, O.dpLayerState.key h.val 0] []) ∧
  (∀ (s : State) (h : Fin 2) (a : Nat), s.reg O.dpState h.val = 3 → (s.head h.val).retrain = false → (s.head h.val).retiring = [(a, 1)] →
    ∃ t, exec (.dpFlip h) s = .next t ∧
      (t.head h.val).retiring = [] ∧
      t.reg O.dpRetiredAddr h.val = a ∧
      t.raises.any (fun r => r.event == dpEvent h.val 2 && r.data == a) = true ∧
      ({ t with heads := s.heads, out := s.out, regs := s.regs, raises := s.raises } : State) = s) ∧
  (∀ (s : State) (h : Fin 2), s.reg O.dpState h.val = 2 → (s.head h.val).marked = false → (s.head h.val).blank = true →
    ∃ t, exec (.dpHallmark h []) s = .next t ∧
      t.head h.val = { s.head h.val with marked := true } ∧
      t.reg O.dpHmLast h.val = crc32 (List.replicate (3 * cfgAt (s.head h.val).shownCfg 3 * cfgAt (s.head h.val).shownCfg 7) (0 : Byte)) ∧
      t.reg O.dpHmFrame h.val = s.reg O.dpFrame h.val ∧
      Effect s { t with heads := s.heads } [] [O.dpHmLast.key h.val 0, O.dpHmFrame.key h.val 0] []) ∧
  (∀ (s : State) (h : Fin 2), s.reg O.dpState h.val = 3 → (s.head h.val).marked = false → (s.head h.val).blank = false → (s.head h.val).shown.on 1 = false → (s.head h.val).shown.on 3 = false → bit (s.head h.val).shown.expect 32 = true → (s.head h.val).shown.expect % 2 ^ 32 ≠ (crc32 (s.dpFrameBytes h.val).1) → s.hidden H.rare (dpEvent h.val 3) = 0 →
    ∃ t, exec (.dpHallmark h []) s = .next t ∧
      t.head h.val = { s.head h.val with marked := true } ∧
      t.reg O.dpHmLast h.val = (crc32 (s.dpFrameBytes h.val).1) ∧
      t.reg O.dpHmFrame h.val = s.reg O.dpFrame h.val ∧
      t.reg O.dpHmMismatch h.val = satAdd O.dpHmMismatch.width (s.reg O.dpHmMismatch h.val) 1 ∧
      Effect s { t with heads := s.heads } [(dpEvent h.val 3, s.reg O.dpFrame h.val + 2 ^ 32 * (crc32 (s.dpFrameBytes h.val).1))] [O.dpHmLast.key h.val 0, O.dpHmFrame.key h.val 0, O.dpHmMismatch.key h.val 0] [hkey H.rare (dpEvent h.val 3)])

/-- The housekeeping converter: slots, accumulators, trackers, snapshots and system calibration. (R410, R412, R414, R440) It rests on the model's own choices of log entries 7, 131, 173. -/
def Obligations.Housekeeping : Prop :=
  (∀ (s : State) (n : Fin 32), (s.hkSlot n.val).waiting = true →
    ∃ t, exec (.hkSlotDelayExpire n) s = .next t ∧
      t.hkSlot n.val = { s.hkSlot n.val with waiting := false, left := s.plan O.hkSlotReps n.val, input := s.plan O.hkSlotInput n.val } ∧
      Effect s { t with hkSlots := s.hkSlots } [] [] []) ∧
  (∀ (s : State) (code : BitVec 16) (n : Nat), s.hkNext = some n → (s.hkAcc (s.hkSlot n).input).count < 2 ^ 32 - 2 →
    ∃ t, exec (.hkConversion code) s = .next t ∧
      t.hkSlot n = { s.hkSlot n with left := (s.hkSlot n).left - 1 } ∧
      (t.hkAcc (s.hkSlot n).input).sum = ((s.hkAcc (s.hkSlot n).input).sum + code.toNat) % 2 ^ 48 ∧
      (t.hkAcc (s.hkSlot n).input).count = (s.hkAcc (s.hkSlot n).input).count + 1 ∧
      (t.hkAcc (s.hkSlot n).input).sumsq = ((s.hkAcc (s.hkSlot n).input).sumsq + code.toNat * code.toNat) % 2 ^ 64 ∧
      (t.hkAcc (s.hkSlot n).input).min = min (s.hkAcc (s.hkSlot n).input).min code.toNat ∧
      (t.hkAcc (s.hkSlot n).input).max = max (s.hkAcc (s.hkSlot n).input).max code.toNat ∧
      Effect s { t with hk := s.hk, hkSlots := s.hkSlots } [] [] []) ∧
  (∀ (s : State) (code : BitVec 16),
    ∃ t, exec (.hkStewardConvert [code]) s = .next t ∧
      t.reg O.dieTemp 0 = toF32 (s.hkValue 16 code.toNat) ∧
      t.hidden H.hkRead 16 = toF64 (s.hkValue 16 code.toNat) ∧
      (t.hkAcc 16).min = min (s.hkAcc 16).min code.toNat ∧
      Effect s { t with hk := s.hk } [] [O.dieTemp.key 0 0] [hkey H.hkRead 16, hkey H.drive 0x12, hkey H.driveData 0x12]) ∧
  (∀ (s : State) (code : BitVec 16),
    ∃ t, exec (.hkThresholdTrim [code]) s = .next t ∧
      (t.hkAcc 31).min = min (s.hkAcc 31).min code.toNat ∧
      (t.hkAcc 31).max = max (s.hkAcc 31).max code.toNat ∧
      (t.hkAcc 31).sum = (s.hkAcc 31).sum ∧
      !t.hidden H.hkTrim 0 = Config.freeValue (s.hidden H.free) % 2 ^ 32 ∧
      Effect s { t with hk := s.hk } [] [] [hkey H.hkTrim, hkey H.free]) ∧
  (∀ (s : State) (m : Master) , Owner s m →
    ∃ t, exec (.hkSnapshot m) s = .next t ∧
      t.out = replied s m ∧
      (∀ i : Fin 32, t.reg O.hkSum i.val = (s.hkAcc i.val).sum ∧ t.reg O.hkCount i.val = (s.hkAcc i.val).count ∧ t.reg O.hkSumsq i.val = (s.hkAcc i.val).sumsq ∧ t.reg O.hkMin i.val = (s.hkAcc i.val).min ∧ t.reg O.hkMax i.val = (s.hkAcc i.val).max) ∧
      t.reg O.hkSnapT96 = s.now ∧
      Effect s { t with out := s.out } [] ((List.range 32).flatMap (fun i => [O.hkSum, O.hkCount, O.hkSumsq, O.hkMin, O.hkMax, O.hkMinT96, O.hkMaxT96, O.hkMean, O.hkFlags].map (fun r => r.key i 0)) ++ [O.hkSnapT96.key 0 0]) []) ∧
  (∀ (s : State) (m : Master) , Owner s m →
    ∃ t, exec (.hkSnapshotClear m) s = .next t ∧
      t.out = replied s m ∧
      (∀ i : Fin 32, t.reg O.hkSum i.val = (s.hkAcc i.val).sum ∧ t.reg O.hkCount i.val = (s.hkAcc i.val).count ∧ t.reg O.hkSumsq i.val = (s.hkAcc i.val).sumsq ∧ t.reg O.hkMin i.val = (s.hkAcc i.val).min ∧ t.reg O.hkMax i.val = (s.hkAcc i.val).max) ∧
      (∀ i : Fin 32, t.hkAcc i.val = {}) ∧
      t.reg O.hkSnapT96 = s.now ∧
      Effect s { t with out := s.out, hk := s.hk } [] ((List.range 32).flatMap (fun i => [O.hkSum, O.hkCount, O.hkSumsq, O.hkMin, O.hkMax, O.hkMinT96, O.hkMaxT96, O.hkMean, O.hkFlags].map (fun r => r.key i 0)) ++ [O.hkSnapT96.key 0 0]) []) ∧
  (∀ (s : State) (m : Master) (input : Fin 32), Owner s m → input.val < 16 → s.hidden H.hkCalRun = 0 →
    ∃ t, exec (.hkCalZero m input) s = .next t ∧
      t.out = replied s m ∧
      t.hidden H.hkCalRun = 256 + input.val ∧
      Effect s { t with out := s.out } [] [] [hkey H.hkCalRun]) ∧
  (∀ (s : State) (m : Master) (input : Fin 32) (codes : List (BitVec 16)), Owner s m → input.val < 16 → s.hidden H.hkCalRun = 0 → codes.length = 4096 →
    ∃ t, exec (.hkCalZero m input) s = .next t ∧
      t.out = replied s m ∧
      t.thenDoes (.hkCalDone codes) (fun u => (u.hidden H.hkCalRun, u.hidden H.hkCal0 input.val)) = some (0, (rneDiv ((codes.map BitVec.toNat).foldl (· + ·) 0 : Nat) 4096).toNat + 1) ∧
      ({ t with out := s.out, hid := s.hid } : State) = s) ∧
  (∀ (s : State) (m : Master) (input : Fin 32), Owner s m → input.val < 16 → s.hidden H.hkCalRun = 0 →
    ∃ t, exec (.hkCalFullScale m input) s = .next t ∧
      t.out = replied s m ∧
      t.hidden H.hkCalRun = 512 + input.val ∧
      Effect s { t with out := s.out } [] [] [hkey H.hkCalRun]) ∧
  (∀ (s : State) (m : Master) (input : Fin 32) (codes : List (BitVec 16)), Owner s m → input.val < 16 → s.hidden H.hkCalRun = 0 → codes.length = 4096 →
    ∃ t, exec (.hkCalFullScale m input) s = .next t ∧
      t.out = replied s m ∧
      t.thenDoes (.hkCalDone codes) (fun u => (u.hidden H.hkCalRun, u.hidden H.hkCal1 input.val)) = some (0, (rneDiv ((codes.map BitVec.toNat).foldl (· + ·) 0 : Nat) 4096).toNat + 1) ∧
      ({ t with out := s.out, hid := s.hid } : State) = s) ∧
  (∀ (s : State) (m : Master) (input : Fin 32), Owner s m → input.val < 16 → s.hidden H.hkCalRun = 0 → s.hidden H.hkCal0 input.val ≠ 0 → s.hidden H.hkCal0 input.val + 16384 ≤ s.hidden H.hkCal1 input.val →
    ∃ t, exec (.hkCalApply m input) s = .next t ∧
      t.out = replied s m ∧
      t.reg O.hkGain input.val = toF64 (f64 (s.reg O.hkCalFsV) / ((s.hidden H.hkCal1 input.val - s.hidden H.hkCal0 input.val : Nat) : Rat)) ∧
      t.reg O.hkOffset input.val = toF64 (-(f64 (s.reg O.hkCalFsV) / ((s.hidden H.hkCal1 input.val - s.hidden H.hkCal0 input.val : Nat) : Rat)) * ((s.hidden H.hkCal0 input.val - 1 : Nat) : Rat)) ∧
      t.hidden H.hkCal0 input.val = 0 ∧
      t.hidden H.hkCal1 input.val = 0) ∧
  (∀ (s : State) (codes : List (BitVec 16)) (i : Fin 16), s.hidden H.hkCalRun = 256 + i.val → codes.length = 4096 →
    ∃ t, exec (.hkCalDone codes) s = .next t ∧
      t.hidden H.hkCal0 i.val = (rneDiv ((codes.map BitVec.toNat).foldl (· + ·) 0 : Nat) 4096).toNat + 1 ∧
      t.hidden H.hkCalRun = 0 ∧
      Effect s { t with hk := s.hk } [(0x7E0, 256 + i.val + 65536 * (rneDiv ((codes.map BitVec.toNat).foldl (· + ·) 0 : Nat) 4096).toNat)] [] [hkey H.hkCal0 i.val, hkey H.hkCalRun])

/-- General timers, window monitors and pulse generators. (R409, R415, R416, R417, R418, R419) It rests on the model's own choices of log entries 7, 132, 133. -/
def Obligations.TimersAndPulses : Prop :=
  (∀ (s : State) (t8 : Fin 8), s.plan O.gtPeriod t8.val ≠ 0 → ((T96.toTicks (s.plan O.gtOrigin t8.val) : Int) + s.plan O.gtPeriod t8.val * (((s.hidden H.gtServed t8.val : Int) - T96.toTicks (s.plan O.gtOrigin t8.val)) / s.plan O.gtPeriod t8.val + 1)).toNat ≤ s.nowTicks → (List.range 32).all (fun n => s.plan O.hkSlotStart n != t8.val + 1) = true → (List.range 16).all (fun g => s.plan O.pgMode g != 4) = true →
    ∃ t, exec (.gtDue t8) s = .next t ∧
      t.reg O.gtTicks t8.val = (s.reg O.gtTicks t8.val + 1) % 2 ^ O.gtTicks.width ∧
      t.hidden H.gtServed t8.val = ((T96.toTicks (s.plan O.gtOrigin t8.val) : Int) + s.plan O.gtPeriod t8.val * (((s.hidden H.gtServed t8.val : Int) - T96.toTicks (s.plan O.gtOrigin t8.val)) / s.plan O.gtPeriod t8.val + 1)).toNat ∧
      Effect s t [] [O.gtTicks.key t8.val 0] [hkey H.gtServed t8.val]) ∧
  (∀ (s : State) (t8 : Fin 8) (g : Fin 16), s.plan O.gtPeriod t8.val ≠ 0 → ((T96.toTicks (s.plan O.gtOrigin t8.val) : Int) + s.plan O.gtPeriod t8.val * (((s.hidden H.gtServed t8.val : Int) - T96.toTicks (s.plan O.gtOrigin t8.val)) / s.plan O.gtPeriod t8.val + 1)).toNat ≤ s.nowTicks → (List.range 32).all (fun n => s.plan O.hkSlotStart n != t8.val + 1) = true → s.plan O.pgMode g.val = 4 → s.plan O.pgTimer g.val = t8.val → (List.range 16).all (fun i => i == g.val || s.plan O.pgMode i != 4) = true → s.reg O.pgState g.val ≠ 2 → (s.pg g.val).edges = [] →
    ∃ t, exec (.gtDue t8) s = .next t ∧
      t.reg O.gtTicks t8.val = (s.reg O.gtTicks t8.val + 1) % 2 ^ O.gtTicks.width ∧
      t.hidden H.gtServed t8.val = ((T96.toTicks (s.plan O.gtOrigin t8.val) : Int) + s.plan O.gtPeriod t8.val * (((s.hidden H.gtServed t8.val : Int) - T96.toTicks (s.plan O.gtOrigin t8.val)) / s.plan O.gtPeriod t8.val + 1)).toNat ∧
      t.pg g.val = { s.pg g.val with edges := [(((T96.toTicks (s.plan O.gtOrigin t8.val) : Int) + s.plan O.gtPeriod t8.val * (((s.hidden H.gtServed t8.val : Int) - T96.toTicks (s.plan O.gtOrigin t8.val)) / s.plan O.gtPeriod t8.val + 1)).toNat + s.pgTime (s.plan O.pgDelay g.val), true), (((T96.toTicks (s.plan O.gtOrigin t8.val) : Int) + s.plan O.gtPeriod t8.val * (((s.hidden H.gtServed t8.val : Int) - T96.toTicks (s.plan O.gtOrigin t8.val)) / s.plan O.gtPeriod t8.val + 1)).toNat + s.pgTime (s.plan O.pgDelay g.val) + s.pgTime (s.plan O.pgWidth g.val), false)] } ∧
      Effect s { t with pgs := s.pgs } [] [O.gtTicks.key t8.val 0] [hkey H.gtServed t8.val]) ∧
  (∀ (s : State) (m : Master) (g : Fin 16), Owner s m → bit (s.reg O.pwrDomainOn) 31 = true → s.plan O.pgMode g.val = 2 → s.reg O.pgState g.val = 0 → s.hidden H.pgStart g.val = 0 → (s.pg g.val).edges = [] →
    ∃ t, exec (.pgFire m g 1) s = .next t ∧
      t.out = replied s m ∧
      t.pg g.val = { s.pg g.val with edges := [(s.after 8 1 + s.pgTime (s.plan O.pgDelay g.val) + s.pgTime (0 * s.plan O.pgSpacing g.val), true), (s.after 8 1 + s.pgTime (s.plan O.pgDelay g.val) + s.pgTime (0 * s.plan O.pgSpacing g.val) + s.pgTime (s.plan O.pgWidth g.val), false)] } ∧
      t.reg O.pgState g.val = 1 ∧
      t.hidden H.pgStart g.val = s.after 8 1 + 1 ∧
      Effect s { t with out := s.out, pgs := s.pgs } [] [O.pgState.key g.val 0] [hkey H.pgStart g.val]) ∧
  (∀ (s : State) (g : Fin 16) (e : Nat) (rest : List (Nat × Bool)), (s.pg g.val).edges = (e, true) :: rest → e ≤ s.after 32 1 → s.plan O.pgBall g.val = 0 → (List.range 32).all (fun n => s.plan O.hkSlotStart n != 9 + g.val) = true →
    ∃ t, exec (.pgPulseEdge g) s = .next t ∧
      t.pg g.val = { s.pg g.val with edges := rest, level := s.plan O.pgIdle g.val != 1 } ∧
      t.reg O.pgPulses g.val = (s.reg O.pgPulses g.val + 1) % 2 ^ O.pgPulses.width ∧
      t.reg O.pgLastT96 g.val = T96.ofTicks e ∧
      t.reg O.pgState g.val = 1 ∧
      t.out = .ball g.val (s.plan O.pgIdle g.val != 1) :: s.out ∧
      Effect s { t with pgs := s.pgs, out := s.out } [] [O.pgPulses.key g.val 0, O.pgLastT96.key g.val 0, O.pgState.key g.val 0] []) ∧
  (∀ (s : State) (g : Fin 16) (e : Nat) (rest : List (Nat × Bool)), (s.pg g.val).edges = (e, false) :: rest → e ≤ s.after 32 1 → s.plan O.pgBall g.val = 0 → rest = [] →
    ∃ t, exec (.pgPulseEdge g) s = .next t ∧
      t.pg g.val = { s.pg g.val with edges := [], level := s.plan O.pgIdle g.val == 1 } ∧
      t.reg O.pgState g.val = 0 ∧
      t.out = .ball g.val (s.plan O.pgIdle g.val == 1) :: s.out ∧
      Effect s { t with pgs := s.pgs, out := s.out } [] [O.pgState.key g.val 0] []) ∧
  (∀ (s : State) (g : Fin 16) (w : Nat), s.wholeSecond = some w → s.plan O.pgMode g.val = 5 → (s.pg g.val).lastSecond < (w / T96.second) → s.reg O.pgState g.val ≠ 2 → (s.pg g.val).edges = [] →
    ∃ t, exec (.pgPpsEdge g) s = .next t ∧
      t.pg g.val = { s.pg g.val with lastSecond := (w / T96.second), edges := [(w + s.pgTime (s.plan O.pgDelay g.val), true), (w + s.pgTime (s.plan O.pgDelay g.val) + s.pgTime (s.plan O.pgWidth g.val), false)] } ∧
      Effect s { t with pgs := s.pgs } [] [] []) ∧
  (∀ (s : State) (mon : Fin 12) (asserted : Bool), 8 ≤ mon.val → (s.reg O.wmState).testBit mon.val ≠ asserted → s.hidden H.rare 0x7E3 = 0 → (List.range 16).all (fun g => s.plan O.pgMode g == 0) = true →
    ∃ t, exec (.wmChange mon asserted) s = .next t ∧
      t.reg O.wmState = setBit (s.reg O.wmState) mon.val asserted ∧
      Effect s { t with pgs := s.pgs } (if asserted then [(0x7E3, setBit (s.reg O.wmState) mon.val true)] else []) [O.wmState.key 0 0] [hkey H.rare 0x7E3]) ∧
  (∀ (s : State) (mon : Fin 12) (asserted : Bool), mon.val < 8 → (s.reg O.wmState).testBit mon.val ≠ (s.hidden H.comp mon.val == 1) → s.hidden H.rare 0x7E3 = 0 → (List.range 16).all (fun g => s.plan O.pgMode g == 0) = true →
    ∃ t, exec (.wmChange mon asserted) s = .next t ∧
      t.reg O.wmState = setBit (s.reg O.wmState) mon.val (s.hidden H.comp mon.val == 1) ∧
      Effect s { t with pgs := s.pgs } (if (s.hidden H.comp mon.val == 1) then [(0x7E3, setBit (s.reg O.wmState) mon.val true)] else []) [O.wmState.key 0 0] [hkey H.rare 0x7E3]) ∧
  (∀ (s : State) (mon : Fin 12) (asserted : Bool), 8 ≤ mon.val → (s.reg O.wmState).testBit mon.val ≠ asserted →
    ∃ t, exec (.wmChange mon asserted) s = .next t ∧
      t.reg O.wmState = setBit (s.reg O.wmState) mon.val asserted ∧
      (∀ g : Fin 16, s.plan O.pgMode g.val ≠ 0 → s.reg O.pgState g.val ≠ 2 → (((setBit (s.reg O.wmState) mon.val asserted) ^^^ s.plan O.pgTripInv g.val) &&& s.plan O.pgTripMask g.val &&& 0xFFF).testBit mon.val = true → t.reg O.pgState g.val = 2 ∧ (t.pg g.val).edges = [] ∧ (t.pg g.val).level = (s.plan O.pgTripLevel g.val == 1) ∧ t.reg O.pgTripT96 g.val = s.now) ∧
      ({ t with regs := s.regs, hid := s.hid, raises := s.raises, pgs := s.pgs, out := s.out, hkSlots := s.hkSlots } : State) = s) ∧
  (∀ (s : State) (m : Master) (g : Fin 16), Owner s m → s.reg O.pgState g.val = 2 → (s.pg g.val).byFault = false → s.pgTripping g.val = 0 → s.plan O.pgBall g.val = 3 → bit (s.reg O.pwrDomainOn) 31 = true → s.plan O.pgTripHold g.val = 0 →
    ∃ t, exec (.pgTripClr m g 1) s = .next t ∧
      t.out = replied s m ∧
      (t.pg g.val).level = (s.plan O.pgIdle g.val == 1) ∧
      t.reg O.pgState g.val = 0 ∧
      Effect s { t with out := s.out, pgs := s.pgs } [(0x7E5, g.val)] [O.pgState.key g.val 0] []) ∧
  (∀ (s : State) (g : Fin 16), s.reg O.pgState g.val = 2 → (s.pg g.val).byFault = false → s.pgTripping g.val = 0 → s.plan O.pgBall g.val = 3 → s.plan O.pgTripHold g.val ≠ 0 →
    ∃ t, exec (.pgTripRelease g) s = .next t ∧
      (t.pg g.val).level = (s.plan O.pgIdle g.val == 1) ∧
      t.reg O.pgState g.val = 0 ∧
      Effect s { t with pgs := s.pgs } [(0x7E5, g.val)] [O.pgState.key g.val 0] [])

/-- The fault collector counts rails, latches the first fault, and its reaction climbs the ladder until it is acknowledged and released. (R433, R434, R435, R436, R437, R438, R439, R440, R441) It rests on the model's own choices of log entries 142, 143, 144, 145, 146. -/
def Obligations.FaultCollector : Prop :=
  (∀ (s : State) (c : RailChange) (k : Nat), faultClass c.src.val = some k → k < 2 → c.p = true → c.n = false → s.faultRaw c.src.val = false → outsideOccurrence c.src.val = false → s.hidden H.drive c.src.val = 1 → bit (s.reg O.frFirst) 15 = false → s.masked c.src.val = false → s.hidden H.acked c.src.val = 0 → s.candidates = [] →
    ∃ t, exec (.faultRailChange [c]) s = .next t ∧
      t.faultRaw c.src.val = true ∧
      t.reg O.frCount 0 c.src.val = satAdd O.frCount.width (s.reg O.frCount 0 c.src.val) 1 ∧
      t.reg O.frFirst = c.src.val + 512 * k + 0x8000 ∧
      t.reg O.frFirstT96 = s.now ∧
      t.reg O.frFirstData = s.hidden H.driveData c.src.val ∧
      t.reg O.frState = 1 ∧
      Effect s t [(0x030, c.src.val + 1024 * k)] [O.frRaw.key 0 (c.src.val / 64), O.frWire.key 0 (c.src.val / 64), O.frCount.key 0 c.src.val, O.frFirst.key 0 0, O.frFirstT96.key 0 0, O.frFirstData.key 0 0, O.frState.key 0 0] []) ∧
  (∀ (s : State) (c : RailChange) (k : Nat), faultClass c.src.val = some k → k < 2 → c.p = true → c.n = false → s.faultRaw c.src.val = false → outsideOccurrence c.src.val = false → s.hidden H.drive c.src.val = 1 → bit (s.reg O.frFirst) 15 = true → s.reg O.frFirst % 256 ≠ c.src.val → s.masked c.src.val = false →
    ∃ t, exec (.faultRailChange [c]) s = .next t ∧
      t.faultRaw c.src.val = true ∧
      t.reg O.frCount 0 c.src.val = satAdd O.frCount.width (s.reg O.frCount 0 c.src.val) 1 ∧
      t.reg O.frOverflow = 1 ∧
      Effect s t [] [O.frRaw.key 0 (c.src.val / 64), O.frWire.key 0 (c.src.val / 64), O.frCount.key 0 c.src.val, O.frOverflow.key 0 0] []) ∧
  (∀ (s : State) (c : RailChange) (k : Nat), faultClass c.src.val = some k → k < 2 → c.p = true → c.n = false → s.faultRaw c.src.val = false → outsideOccurrence c.src.val = true → s.hidden H.drive c.src.val ≠ 1 → s.hidden H.held c.src.val ≠ 1 → bit (s.reg O.frFirst) 15 = false → s.masked c.src.val = false → s.hidden H.acked c.src.val = 0 → s.candidates = [] →
    ∃ t, exec (.faultRailChange [c]) s = .next t ∧
      t.faultRaw c.src.val = true ∧
      t.reg O.frCount 0 c.src.val = satAdd O.frCount.width (s.reg O.frCount 0 c.src.val) 1 ∧
      t.reg O.frFirst = c.src.val + 512 * k + 0x8000 ∧
      t.reg O.frFirstT96 = s.now ∧
      t.reg O.frFirstData = c.data.toNat ∧
      t.reg O.frState = 1 ∧
      Effect s t [(0x030, c.src.val + 1024 * k)] [O.frRaw.key 0 (c.src.val / 64), O.frWire.key 0 (c.src.val / 64), O.frCount.key 0 c.src.val, O.frFirst.key 0 0, O.frFirstT96.key 0 0, O.frFirstData.key 0 0, O.frState.key 0 0] [hkey H.driveData c.src.val]) ∧
  (∀ (s : State) (c : RailChange) (k : Nat), faultClass c.src.val = some k → k < 2 → c.p = true → c.n = false → s.faultRaw c.src.val = false → outsideOccurrence c.src.val = true → s.hidden H.drive c.src.val ≠ 1 → s.hidden H.held c.src.val ≠ 1 → bit (s.reg O.frFirst) 15 = true → s.reg O.frFirst % 256 ≠ c.src.val → s.masked c.src.val = false →
    ∃ t, exec (.faultRailChange [c]) s = .next t ∧
      t.faultRaw c.src.val = true ∧
      t.reg O.frCount 0 c.src.val = satAdd O.frCount.width (s.reg O.frCount 0 c.src.val) 1 ∧
      t.reg O.frOverflow = 1 ∧
      Effect s t [] [O.frRaw.key 0 (c.src.val / 64), O.frWire.key 0 (c.src.val / 64), O.frCount.key 0 c.src.val, O.frOverflow.key 0 0] [hkey H.driveData c.src.val]) ∧
  (∀ (s : State) (c : RailChange) (k : Nat), faultClass c.src.val = some k → c.p = false → c.n = true → s.faultRaw c.src.val = true → c.src.val ≠ 0 → outsideOccurrence c.src.val = true →
    ∃ t, exec (.faultRailChange [c]) s = .next t ∧
      t.faultRaw c.src.val = false ∧
      t.hidden H.acked c.src.val = 0 ∧
      Effect s t [] [O.frRaw.key 0 (c.src.val / 64), O.frWire.key 0 (c.src.val / 64)] [hkey H.acked c.src.val]) ∧
  (∀ (s : State) (c : RailChange) (k : Nat), faultClass c.src.val = some k → c.p = false → c.n = true → s.faultRaw c.src.val = true → c.src.val ≠ 0 → outsideOccurrence c.src.val = false → s.hidden H.drive c.src.val ≠ 1 → s.hidden H.held c.src.val ≠ 1 →
    ∃ t, exec (.faultRailChange [c]) s = .next t ∧
      t.faultRaw c.src.val = false ∧
      t.hidden H.acked c.src.val = 0 ∧
      Effect s t [] [O.frRaw.key 0 (c.src.val / 64), O.frWire.key 0 (c.src.val / 64)] [hkey H.acked c.src.val]) ∧
  (∀ (s : State) (src : Fin 256), s.masked src.val = true →
    ∃ t, exec (.faultMaskedDrop src) s = .next t ∧
      t.hidden H.held src.val = 0 ∧
      Effect s t [] [] [hkey H.held src.val]) ∧
  (∀ (s : State),
    ∃ t, exec (.stewardWatchdog) s = .next t ∧
      t.hidden H.drive 0 = 1 ∧
      Effect s t [] [] [hkey H.drive, hkey H.driveData]) ∧
  (∀ (s : State), s.faultRaw 0 = false →
    ∃ t, exec (.stewardWatchdog) s = .next t ∧
      t.thenDoes (.faultRailChange [⟨0, true, false, 0⟩]) (fun u => (u.faultRaw 0, u.reg O.frCount 0 0)) = some (true, satAdd O.frCount.width (s.reg O.frCount 0 0) 1) ∧
      ({ t with hid := s.hid } : State) = s) ∧
  (∀ (s : State) (src : Nat), bit (s.reg O.frFirst) 15 = true → s.reg O.frFirst % 256 = src → bits (s.reg O.frFirst) 10 9 ≠ 0 → s.reg O.frState = 1 → 0x30 ≤ src → src ≤ 0x41 →
    ∃ t, exec (.frTimerExpire) s = .next t ∧
      t.reg O.frState = 2 ∧
      Effect s t [(0x031, 2 + 256 * src)] [O.frState.key 0 0] []) ∧
  (∀ (s : State) (src : Nat), bit (s.reg O.frFirst) 15 = true → s.reg O.frFirst % 256 = src → bits (s.reg O.frFirst) 10 9 ≠ 0 → s.reg O.frState = 2 →
    ∃ t, exec (.frTimerExpire) s = .next t ∧
      t.reg O.frState = 3 ∧
      t.hidden H.safeDue = 2 ∧
      Effect s { t with adm := s.adm } [(0x031, 3 + 256 * src)] [O.frState.key 0 0] [hkey H.safeDue]) ∧
  (∀ (s : State) (src : Nat), bit (s.reg O.frFirst) 15 = true → s.reg O.frFirst % 256 = src → bits (s.reg O.frFirst) 10 9 ≠ 0 → s.reg O.frState = 3 →
    ∃ t, exec (.frTimerExpire) s = .next t ∧
      t.reg O.frState = 4 ∧
      t.reg O.frSafe = 1 ∧
      (∀ g : Fin 16, t.reg O.pgState g.val = 2) ∧
      t.raises.any (fun r => r.event == 0x032) = true ∧
      t.raises.any (fun r => r.event == 0x031) = true) ∧
  (∀ (s : State) (m : Master) (v : Nat), Owner s m → v < 2 ^ 8 → bit (s.reg O.frFirst) 15 = true → s.reg O.frFirst % 256 = v → (List.range 256).all (fun n => n == v || !s.faultRaw n || s.masked n || s.hidden H.acked n != 0) = true →
    ∃ t, exec (.frAck m v) s = .next t ∧
      t.out = replied s m ∧
      t.reg O.frFirst = s.reg O.frFirst % 0x8000 ∧
      t.reg O.frState = 0 ∧
      t.reg O.frOverflow = 0 ∧
      t.hidden H.held v = 0 ∧
      t.hidden H.acked v = (if s.faultRaw v then 1 else s.hidden H.acked v) ∧
      Effect s { t with out := s.out } [] [O.frFirst.key 0 0, O.frState.key 0 0, O.frOverflow.key 0 0] [hkey H.held v, hkey H.acked v]) ∧
  (∀ (s : State) (m : Master) , Owner s m → s.reg O.frSafe ≠ 0 → (List.range 256).all (fun n => !s.faultRaw n || faultClass n != some 2) = true → (List.range 16).all (fun g => !(s.pg g).byFault) = true → s.plan O.clkoutSel = 0 → s.hidden H.clkout = 0 →
    ∃ t, exec (.frRelease m 1) s = .next t ∧
      t.out = replied s m ∧
      t.reg O.frSafe = 0 ∧
      Effect s { t with out := s.out } [(0x034, 0)] [O.frSafe.key 0 0] [])

/-- From the release of the reset ball to DEV_READY, and recovery. (R479, R481, R483, R484, R485, R487) It rests on the model's own choices of log entries 10, 28, 119, 165, 167, 168. -/
def Obligations.StartUp : Prop :=
  (∀ (s : State) (bootSel : Fin 4), s.hidden H.boot = 0 → bootSel.val < 2 →
    ∃ t, exec (.porstRelease bootSel) s = .next t ∧
      t.reg O.bootSel = bootSel.val ∧
      t.hidden H.boot = 1 ∧
      t.hidden H.bootTry = bootSel.val ∧
      t.flash = s.flash ∧
      t.tc = 0 ∧
      t.idx = 0 ∧
      t.mem = [] ∧
      t.doms = [] ∧
      t.active = [] ∧
      t.staged = [] ∧
      t.sess = [] ∧
      t.raises = [] ∧
      t.pending = s.pending ∧
      t.reg O.svnMin = s.reg O.svnMin ∧
      t.reg O.readyState = 0 ∧
      t.reg O.planGen = 0 ∧
      t.reg O.pllaState = 0) ∧
  (∀ (s : State), s.hidden H.boot = 0 →
    ∃ t, exec (.porstRelease 2) s = .next t ∧
      t.reg O.bootSel = 2 ∧
      t.hidden H.boot = 3 ∧
      t.reg O.fwVersion = 0 ∧
      t.flash = s.flash ∧
      t.tc = 0 ∧
      t.idx = 0 ∧
      t.mem = [] ∧
      t.doms = [] ∧
      t.active = [] ∧
      t.staged = [] ∧
      t.sess = [] ∧
      t.raises = [] ∧
      t.pending = s.pending ∧
      t.reg O.svnMin = s.reg O.svnMin ∧
      t.reg O.readyState = 0 ∧
      t.reg O.planGen = 0 ∧
      t.reg O.pllaState = 0) ∧
  (∀ (s : State), s.hidden H.boot = 0 →
    ∃ t, exec (.porstRelease 3) s = .next t ∧
      t.reg O.bootSel = 3 ∧
      t.hidden H.boot = 4 ∧
      t.flash = s.flash ∧
      t.tc = 0 ∧
      t.idx = 0 ∧
      t.mem = [] ∧
      t.doms = [] ∧
      t.active = [] ∧
      t.staged = [] ∧
      t.sess = [] ∧
      t.raises = [] ∧
      t.pending = s.pending ∧
      t.reg O.svnMin = s.reg O.svnMin ∧
      t.reg O.readyState = 0 ∧
      t.reg O.planGen = 0 ∧
      t.reg O.pllaState = 0) ∧
  (∀ (s : State) (ok : Bool) (slot : Fin 2), s.hidden H.boot = 1 → s.hidden H.bootTry = slot.val → s.imgVerdict (s.slotImage slot.val) ok = 1 →
    ∃ t, exec (.bootVerifyDone ok) s = .next t ∧
      t.hidden H.boot = 2 ∧
      t.reg O.bootSlot = slot.val ∧
      t.reg O.fwVersion = imgField (s.slotImage slot.val) 8 4 ∧
      t.reg O.bootStatus = (s.reg O.bootStatus - bits (s.reg O.bootStatus) (2 * slot.val + 1) (2 * slot.val) * 4 ^ slot.val + 1 * 4 ^ slot.val) ∧
      Effect s { t with doms := s.doms } [] [O.bootStatus.key 0 0, O.bootSlot.key 0 0, O.fwVersion.key 0 0] [hkey H.boot, hkey H.recovering]) ∧
  (∀ (s : State) (ok : Bool) (slot : Fin 2), s.hidden H.boot = 1 → s.hidden H.bootTry = slot.val → s.imgVerdict (s.slotImage slot.val) ok ≠ 1 → s.reg O.bootStatus = 0 →
    ∃ t, exec (.bootVerifyDone ok) s = .next t ∧
      t.hidden H.bootTry = 1 - slot.val ∧
      t.hidden H.boot = 1 ∧
      Effect s t [] [O.bootStatus.key 0 0] [hkey H.bootTry]) ∧
  (∀ (s : State) (aperture : List Byte), s.hidden H.boot = 3 → s.hidden H.recovering = 0 → aperture.length ≤ 8388608 →
    ∃ t, exec (.recoveryCmd .host 1 aperture) s = .next t ∧
      t.hidden H.recovering = 1 ∧
      t.slotImage 2 = aperture ∧
      Effect s { t with doms := s.doms } [] [] [hkey H.recovering]) ∧
  (∀ (s : State) (ok : Bool), s.hidden H.boot = 3 → s.hidden H.recovering = 1 → s.imgVerdict (s.slotImage 2) ok = 1 →
    ∃ t, exec (.bootVerifyDone ok) s = .next t ∧
      t.hidden H.boot = 2 ∧
      t.reg O.bootSlot = 2 ∧
      t.hidden H.recovering = 0 ∧
      Effect s { t with doms := s.doms } [] [O.bootStatus.key 0 0, O.bootSlot.key 0 0, O.fwVersion.key 0 0] [hkey H.boot, hkey H.recovering]) ∧
  (∀ (s : State), s.hidden H.boot = 2 →
    ∃ t, exec (.dictionaryReady) s = .next t ∧
      t.hidden H.boot = 5 ∧
      t.dictReady = true ∧
      t.reg O.readyState = 1 ∧
      t.active = s.active ∧
      t.mem = s.mem ∧
      t.tc = s.tc) ∧
  (∀ (s : State), s.hidden H.boot = 5 → s.reg O.planGen = 0 →
    ∃ t, exec (.startupPlanCommit) s = .next t ∧
      t.hidden H.boot = 6 ∧
      t.reg O.planGen = 1 ∧
      t.reg O.pllaState = 1 ∧
      t.staged = s.staged ∧
      t.mem = s.mem) ∧
  (∀ (s : State), s.hidden H.boot = 6 → s.locked = true → s.hidden H.calNeed ≠ 0 →
    ∃ t, exec (.startupCalibrationDone [] [] []) s = .next t ∧
      t.hidden H.calNeed = 0 ∧
      t.hidden H.calRan = 1 ∧
      t.hidden H.calStale = 1) ∧
  (∀ (s : State) (convs : List CalMeas) (hits : List (List Nat)) (links : List Nat), s.hidden H.boot = 6 → s.locked = true → s.hidden H.calNeed = 0 →
    ∃ t, exec (.startupCalibrationDone convs hits links) s = .next t ∧
      (∀ ch : Fin 4, t.hidden H.busLat ch.val = links.getD ch.val 0) ∧
      (∀ n : Fin 8, ∀ k : Fin 5, t.hidden H.tagLat (8 * n.val + k.val) = links.getD (4 + 5 * n.val + k.val) 0) ∧
      (∀ g : Fin 9, t.hidden H.gateLat g.val = links.getD (44 + g.val) 0) ∧
      Effect s t [] [] ((List.range 4).map (fun i => hkey H.busLat i) ++ (List.range 64).map (fun i => hkey H.tagLat i) ++ (List.range 9).map (fun i => hkey H.gateLat i))) ∧
  (∀ (s : State), s.hidden H.boot = 6 → s.locked = true → s.reg O.drState = 2 ∨ s.reg O.drState = 3 → s.hidden H.calNeed = 0 →
    ∃ t, exec (.devReady) s = .next t ∧
      t.hidden H.boot = 7 ∧
      t.reg O.readyState = 3 ∧
      t.reg O.readyMs = min ((s.up - s.hidden H.bootStart) / msTc 1) (2 ^ 32 - 1) ∧
      t.hidden H.dwelling = 1 ∧
      t.raises.any (fun r => r.event == 0) = true ∧
      ({ t with regs := s.regs, hid := s.hid, raises := s.raises } : State) = s) ∧
  (∀ (s : State) (m : Master) (slotB : Bool) (image : List Byte), Owner s m → 513 ≤ image.length → image.length ≤ 8388608 → s.imgVerdict image true = 1 → s.xfers.any (fun x => x.write && x.key == imgKey (!slotB)) = false →
    ∃ t, exec (.fwImageWrite m slotB image true true) s = .next t ∧
      t.out = replied s m ∧
      t.slotImage (b2n slotB) = image ∧
      t.slotImage (b2n (!slotB)) = s.slotImage (b2n (!slotB)) ∧
      ({ t.flash with images := s.flash.images } : Flash) = s.flash ∧
      t.xfers = (s.breakReads (imgKey slotB)).xfers ∧
      Effect s { t with out := s.out, flash := s.flash, xfers := s.xfers } [] [] []) ∧
  (∀ (s : State) (m : Master) (slotB : Bool) (image : List Byte), Owner s m → 513 ≤ image.length → image.length ≤ 8388608 → s.imgVerdict image true = 1 → s.xfers.any (fun x => x.write && x.key == imgKey (!slotB)) = false →
    ∃ t, exec (.fwImageWrite m slotB image true false) s = .next t ∧
      t.out = replied s m ∧
      t.slotImage (b2n (!slotB)) = s.slotImage (b2n (!slotB)) ∧
      ({ t.flash with images := s.flash.images } : Flash) = s.flash ∧
      t.xfers = (s.breakReads (imgKey slotB)).xfers ∧
      Effect s { t with out := s.out, flash := s.flash, xfers := s.xfers } [(0x7FB, 4)] [] [hkey H.free])

/-- A cold reset, a warm reset, and a reset of the endpoint. (R478, R486, R488, R489) It rests on the model's own choices of log entries 5, 7, 166, 169, 194. -/
def Obligations.Resets : Prop :=
  (∀ (s : State),
    ∃ t, exec (.porstAssert) s = .next t ∧
      t.flash = s.flash ∧
      t.tc = 0 ∧
      t.idx = 0 ∧
      t.mem = [] ∧
      t.doms = [] ∧
      t.active = [] ∧
      t.staged = [] ∧
      t.sess = [] ∧
      t.raises = [] ∧
      t.pending = s.pending ∧
      t.reg O.svnMin = s.reg O.svnMin ∧
      t.reg O.readyState = 0 ∧
      t.reg O.planGen = 0 ∧
      t.reg O.pllaState = 0 ∧
      t.hidden H.boot = 0 ∧
      t.out = s.ballsReset.out) ∧
  (∀ (s : State) (m : Master), Owner s m → s.reg O.bootSel < 2 →
    ∃ t, exec (.resetCmd m 0x57525354) s = .next t ∧
      t.reg O.resetCause = 2 ∧
      t.hidden H.boot = 1 ∧
      t.hidden H.bootTry = s.reg O.bootSel ∧
      t.reg O.ownerId = 0 ∧
      t.mem = s.mem ∧
      t.poison = s.poison ∧
      t.tc = s.tc ∧
      t.up = s.up ∧
      t.flash = s.flash ∧
      t.reg O.tcValid = s.reg O.tcValid ∧
      t.sess = [] ∧
      t.staged = [] ∧
      t.pending = s.pending) ∧
  (∀ (s : State), s.hidden H.hostUp ≠ 1 →
    ∃ t, exec (.perstAssert) s = .next t ∧
      t.reg O.pcieWidth = 0 ∧
      t.reg O.pcieSpeed = 0 ∧
      t.hidden H.linkUp = 0 ∧
      Effect s t [] [O.pcieWidth.key 0 0, O.pcieSpeed.key 0 0] [hkey H.linkUp]) ∧
  (∀ (s : State), s.hidden H.hostUp = 1 →
    ∃ t, exec (.perstAssert) s = .next t ∧
      t.reg O.pcieWidth = 0 ∧
      t.reg O.pcieSpeed = 0 ∧
      t.hidden H.linkUp = 0 ∧
      t.hidden H.hostUp = 0 ∧
      t.mbx = none ∧
      t.active = s.active ∧
      t.sess = s.sess) ∧
  (∀ (s : State), s.dictReady = true → s.reg O.pllaState ≠ 0 →
    ∃ t, exec (.perstRelease) s = .next t ∧
      t.hidden H.dwelling = 1 ∧
      Effect s t [] [O.pwrWakes.key 0 0] [hkey H.dwelling, hkey H.pwrNext, hkey H.pwrCause])

/-- A step with a command waiting is the effect of the command at the front, on the state with the rest of the queue. -/
def Obligations.StepRunsTheFront : Prop :=
  ∀ (s : State) (c : Instr) (rest : List Instr), s.pending = c :: rest → step s = exec c (s.withQueue rest)

/-- An idle block runs to the next tick of fT; the model's choice (log entry 1). (R301, R303, R468) It rests on the model's own choices of log entries 1, 111. -/
def Obligations.IdleTick : Prop :=
  (∀ s : State, s.pending = [] → s.hidden H.boot = 0 → step s = .next s.chansTick.visitsEnd.timeouts) ∧
  (∀ s : State, s.pending = [] → s.hidden H.boot ≠ 0 → s.locked = true → s.slewLeft = 0 →
    ∃ t : State, step s = .next t.chansTick.visitsEnd.timeouts ∧
      t.timeline = (s.bend (s.tickAdd s.slewOffset).toNat).timeline ∧ t.tc = ((s.tc : Int) + s.incBase).toNat ∧ t.up = s.up + s.incBase.toNat ∧ t.idx = s.idx + 32 ∧
      Effect s { t with timeline := s.timeline, tc := s.tc, up := s.up, idx := s.idx } [] [O.tcInc.key 0 0, O.tcIncExt.key 0 0, O.tcSlewRemain.key 0 0, O.hoursActive.key 0 0] [hkey H.slew, hkey H.activeAcc]) ∧
  (∀ s : State, s.pending = [] → s.hidden H.boot ≠ 0 → s.slewLeft ≠ 0 →
    ∃ t : State, step s = .next t.chansTick.visitsEnd.timeouts ∧
      t.timeline = (s.bend (s.tickAdd s.slewOffset).toNat).timeline ∧ t.tc = ((s.tc : Int) + s.tickAdd s.slewOffset).toNat ∧ t.idx = (if s.locked then s.idx + 32 else s.idx) ∧
      s.slewOffset.natAbs ≤ s.slewMax ∧ t.slewLeft = s.slewLeft - s.slewOffset ∧
      Effect { s with tc := t.tc, up := t.up } { t with timeline := s.timeline, idx := s.idx }
        (if s.slewLeft = s.slewOffset then [(0x063, 0)] else []) [O.tcInc.key 0 0, O.tcIncExt.key 0 0, O.tcSlewRemain.key 0 0, O.hoursActive.key 0 0] [hkey H.slew, hkey H.activeAcc])

/-- The state after reset: every object at its default, memory empty, nothing waiting; the model's choice where the spec gives none. (R36, R352, R478) It rests on the model's own choices of log entries 8, 9, 10, 13. -/
def Obligations.ResetState : Prop :=
  (∀ (r : Row) (i j : Nat), State.reset.reg r i j = r.default i j) ∧ (∀ (r : Row) (i j : Nat), State.reset.plan r i j = r.default i j) ∧
  (∀ a, State.reset.readByte a = 0) ∧ (∀ n, (State.reset.session n).isOpen = false) ∧
  State.reset.pending = [] ∧ State.reset.raises = [] ∧ State.reset.tc = 0 ∧ State.reset.hidden H.boot = 0

/-- The state after reset has the invariant of memory. -/
def Obligations.ResetKeepsInv : Prop :=
  Inv State.reset

/-- Every step keeps the canonical form of the DRAM contents. (R339, R342, R352) -/
def Obligations.StepKeepsInv : Prop :=
  ∀ s t : State, Inv s → step s = .next t → Inv t

/-- Encoding and decoding of awl instructions agree in both directions. (R218, R219, R220, R221) -/
def Obligations.AwlRoundTrip : Prop :=
  (∀ (i : Instr) (w : Nat), i.wf = true → awEncode i = some w → w < 2 ^ 32 ∧ ∃ (p : Pos) (n : Nat), awDecode p n w = some i) ∧
  (∀ (p : Pos) (n w : Nat) (i : Instr), w < 2 ^ 32 → awDecode p n w = some i → awEncode i = some w)

/-- Words written out from the encoding tables decode to the instructions that they stand for. (R218, R219) -/
def Obligations.AwlWords : Prop :=
  ∀ (p : Pos) (n : Nat), awDecode p n 0xB0000000 = some (.clrw p 0) ∧
  awDecode p n 0x5C000488 = some (.ld2 p ⟨0, 0, 1, false⟩ ⟨1, 0, 1, false⟩ n) ∧
  awDecode p n 0x1483F00D = some (.rep p 0 (.imm 63) 13) ∧
  awDecode p n 0xAD820488 = some (.macx p 0 0 1 .fr false ⟨0, 0, 1, false⟩ ⟨1, 0, 1, false⟩ n) ∧
  awDecode p n 0xA5820000 = some (.mac p 0 0 1 .fr) ∧
  awDecode p n 0xB4A18000 = some (.rdw p 2 0 1 true true)

/-- A command that is the owner's to give, from another master that is served, is refused with OWN_NOT_OWNER and does nothing. (R9, R32, R41, R508) -/
def Obligations.OwnerOnly : Prop :=
  (∀ (s : State) (m : Master) (slot : Fin 8) (key : List Byte), Served s m → s.owns m = false → exec (.adpKeyWrite m slot key) s = .next (s.answer m Abort.notOwner)) ∧
  (∀ (s : State) (m : Master), Served s m → s.owns m = false → exec (.paramStoreSave m) s = .next (s.answer m Abort.notOwner)) ∧
  (∀ (s : State) (m : Master), Served s m → s.owns m = false → exec (.paramStoreErase m) s = .next (s.answer m Abort.notOwner)) ∧
  (∀ (s : State) (m : Master), Served s m → s.owns m = false → exec (.planAdmit m) s = .next (s.answer m Abort.notOwner)) ∧
  (∀ (s : State) (m : Master), Served s m → s.owns m = false → exec (.planCommit m) s = .next (s.answer m Abort.notOwner)) ∧
  (∀ (s : State) (m : Master), Served s m → s.owns m = false → exec (.planArm m) s = .next (s.answer m Abort.notOwner)) ∧
  (∀ (s : State) (m : Master), Served s m → s.owns m = false → exec (.planDiscard m) s = .next (s.answer m Abort.notOwner)) ∧
  (∀ (s : State) (m : Master), Served s m → s.owns m = false → exec (.planSafe m) s = .next (s.answer m Abort.notOwner)) ∧
  (∀ (s : State) (m : Master), Served s m → s.owns m = false → exec (.planDisarm m) s = .next (s.answer m Abort.notOwner)) ∧
  (∀ (s : State) (m : Master) (ch : Fin 4) (value : Nat), Served s m → s.owns m = false → exec (.calCmd m ch value) s = .next (s.answer m Abort.notOwner)) ∧
  (∀ (s : State) (m : Master) (value : Nat), Served s m → s.owns m = false → exec (.syncCmd m value) s = .next (s.answer m Abort.notOwner)) ∧
  (∀ (s : State) (m : Master) (sl : Fin 32) (value : Nat), Served s m → s.owns m = false → exec (.ncoFtwWrite m sl value) s = .next (s.answer m Abort.notOwner)) ∧
  (∀ (s : State) (m : Master) (sl : Fin 32) (fine : Bool) (value : Nat), Served s m → s.owns m = false → exec (.sliceGainWrite m sl fine value) s = .next (s.answer m Abort.notOwner)) ∧
  (∀ (s : State) (m : Master) (sl : Fin 32) (image : List Byte), Served s m → s.owns m = false → exec (.firCoefLoad m sl image) s = .next (s.answer m Abort.notOwner)) ∧
  (∀ (s : State) (m : Master) (e : Fin 4) (image : List Byte), Served s m → s.owns m = false → exec (.windowTableLoad m e image) s = .next (s.answer m Abort.notOwner)) ∧
  (∀ (s : State) (m : Master) (mask : Fin 4) (image : List Byte), Served s m → s.owns m = false → exec (.maskTableLoad m mask image) s = .next (s.answer m Abort.notOwner)) ∧
  (∀ (s : State) (m : Master) (value : Nat), Served s m → s.owns m = false → exec (.dnClearCmd m value) s = .next (s.answer m Abort.notOwner)) ∧
  (∀ (s : State) (m : Master) (value : Nat), Served s m → s.owns m = false → exec (.dnSnapCmd m value) s = .next (s.answer m Abort.notOwner)) ∧
  (∀ (s : State) (m : Master) (image : List Byte), Served s m → s.owns m = false → exec (.dnPaletteLoad m image) s = .next (s.answer m Abort.notOwner)) ∧
  (∀ (s : State) (m : Master) (p : Pos) (image : List Byte), Served s m → s.owns m = false → exec (.awImageLoad m p image) s = .next (s.answer m Abort.notOwner)) ∧
  (∀ (s : State) (m : Master) (ch : Fin 8) (value : Nat), Served s m → s.owns m = false → exec (.ticCalCmd m ch value) s = .next (s.answer m Abort.notOwner)) ∧
  (∀ (s : State) (m : Master) (sl : Fin 16) (value : Nat), Served s m → s.owns m = false → exec (.msAdevReset m sl value) s = .next (s.answer m Abort.notOwner)) ∧
  (∀ (s : State) (m : Master) (value : Nat), Served s m → s.owns m = false → exec (.xoAgeRateWrite m value) s = .next (s.answer m Abort.notOwner)) ∧
  (∀ (s : State) (m : Master) (value : Nat), Served s m → s.owns m = false → exec (.pllaLolClr m value) s = .next (s.answer m Abort.notOwner)) ∧
  (∀ (s : State) (m : Master) (value : Nat), Served s m → s.owns m = false → exec (.pllaRelock m value) s = .next (s.answer m Abort.notOwner)) ∧
  (∀ (s : State) (m : Master) (value : Nat), Served s m → s.owns m = false → exec (.phaseStep m value) s = .next (s.answer m Abort.notOwner)) ∧
  (∀ (s : State) (m : Master) (value : Nat), Served s m → s.owns m = false → exec (.tcSet m value) s = .next (s.answer m Abort.notOwner)) ∧
  (∀ (s : State) (m : Master) (value : Nat), Served s m → s.owns m = false → exec (.tcStep m value) s = .next (s.answer m Abort.notOwner)) ∧
  (∀ (s : State) (m : Master) (value : Nat), Served s m → s.owns m = false → exec (.tcStepAccept m value) s = .next (s.answer m Abort.notOwner)) ∧
  (∀ (s : State) (m : Master) (value : Nat), Served s m → s.owns m = false → exec (.tcSlew m value) s = .next (s.answer m Abort.notOwner)) ∧
  (∀ (s : State) (m : Master) (value : Nat), Served s m → s.owns m = false → exec (.tcFreqAdjWrite m value) s = .next (s.answer m Abort.notOwner)) ∧
  (∀ (s : State) (m : Master) (e : Fin 512), Served s m → s.owns m = false → exec (.taValidSet m e) s = .next (s.answer m Abort.notOwner)) ∧
  (∀ (s : State) (m : Master) (e : Fin 512), Served s m → s.owns m = false → exec (.taValidClear m e) s = .next (s.answer m Abort.notOwner)) ∧
  (∀ (s : State) (m : Master) (value : Nat), Served s m → s.owns m = false → exec (.laceSCmd m value) s = .next (s.answer m Abort.notOwner)) ∧
  (∀ (s : State) (m : Master) (ch : Fin 64) (value : Nat), Served s m → s.owns m = false → exec (.dmaStart m ch value) s = .next (s.answer m Abort.notOwner)) ∧
  (∀ (s : State) (m : Master) (ch : Fin 64) (value : Nat), Served s m → s.owns m = false → exec (.dmaNudge m ch value) s = .next (s.answer m Abort.notOwner)) ∧
  (∀ (s : State) (m : Master) (ch : Fin 64) (value : Nat), Served s m → s.owns m = false → exec (.dmaStop m ch value) s = .next (s.answer m Abort.notOwner)) ∧
  (∀ (s : State) (m : Master) (d : Fin 8) (value : Nat), Served s m → s.owns m = false → exec (.nvTrimCmd m d value) s = .next (s.answer m Abort.notOwner)) ∧
  (∀ (s : State) (m : Master) (object : Fin 5) (value : Nat), Served s m → s.owns m = false → exec (.canTimingWrite m object value) s = .next (s.answer m Abort.notOwner)) ∧
  (∀ (s : State) (m : Master) (h : Fin 2) (value : Nat), Served s m → s.owns m = false → exec (.dpCommit m h value) s = .next (s.answer m Abort.notOwner)) ∧
  (∀ (s : State) (m : Master), Served s m → s.owns m = false → exec (.hkSnapshot m) s = .next (s.answer m Abort.notOwner)) ∧
  (∀ (s : State) (m : Master), Served s m → s.owns m = false → exec (.hkSnapshotClear m) s = .next (s.answer m Abort.notOwner)) ∧
  (∀ (s : State) (m : Master) (input : Fin 32), Served s m → s.owns m = false → exec (.hkCalZero m input) s = .next (s.answer m Abort.notOwner)) ∧
  (∀ (s : State) (m : Master) (input : Fin 32), Served s m → s.owns m = false → exec (.hkCalFullScale m input) s = .next (s.answer m Abort.notOwner)) ∧
  (∀ (s : State) (m : Master) (input : Fin 32), Served s m → s.owns m = false → exec (.hkCalApply m input) s = .next (s.answer m Abort.notOwner)) ∧
  (∀ (s : State) (m : Master) (g : Fin 16) (value : Nat), Served s m → s.owns m = false → exec (.pgFire m g value) s = .next (s.answer m Abort.notOwner)) ∧
  (∀ (s : State) (m : Master) (g : Fin 16) (value : Nat), Served s m → s.owns m = false → exec (.pgTripClr m g value) s = .next (s.answer m Abort.notOwner)) ∧
  (∀ (s : State) (m : Master) (word : Fin 64) (value : Nat), Served s m → s.owns m = false → exec (.evClear m word value) s = .next (s.answer m Abort.notOwner)) ∧
  (∀ (s : State) (m : Master) (size : Bool) (value : Nat), Served s m → s.owns m = false → exec (.evRingConfigWrite m size value) s = .next (s.answer m Abort.notOwner)) ∧
  (∀ (s : State) (m : Master) (value : Nat), Served s m → s.owns m = false → exec (.frAck m value) s = .next (s.answer m Abort.notOwner)) ∧
  (∀ (s : State) (m : Master) (value : Nat), Served s m → s.owns m = false → exec (.frRelease m value) s = .next (s.answer m Abort.notOwner)) ∧
  (∀ (s : State) (m : Master) (c : Fin 8) (value : Nat), Served s m → s.owns m = false → exec (.pwrLtolWrite m c value) s = .next (s.answer m Abort.notOwner)) ∧
  (∀ (s : State) (m : Master) (value : Nat), Served s m → s.owns m = false → exec (.powerCapWrite m value) s = .next (s.answer m Abort.notOwner)) ∧
  (∀ (s : State) (m : Master) (dom : Fin 64), Served s m → s.owns m = false → exec (.pwrDomainOn m dom) s = .next (s.answer m Abort.notOwner)) ∧
  (∀ (s : State) (m : Master) (dom : Fin 64), Served s m → s.owns m = false → exec (.pwrDomainOff m dom) s = .next (s.answer m Abort.notOwner)) ∧
  (∀ (s : State) (m : Master) (value : Nat), Served s m → s.owns m = false → exec (.fitCmd m value) s = .next (s.answer m Abort.notOwner)) ∧
  (∀ (s : State) (m : Master), Served s m → s.owns m = false → exec (.fitAbandon m) s = .next (s.answer m Abort.notOwner)) ∧
  (∀ (s : State) (m : Master) (value : Nat), Served s m → s.owns m = false → exec (.calStoreCmd m value) s = .next (s.answer m Abort.notOwner)) ∧
  (∀ (s : State) (m : Master) (slotB : Bool) (image : List Byte) (signed readBack : Bool), Served s m → s.owns m = false → exec (.fwImageWrite m slotB image signed readBack) s = .next (s.answer m Abort.notOwner)) ∧
  (∀ (s : State) (m : Master) (value : Nat), Served s m → s.owns m = false → exec (.resetCmd m value) s = .next (s.answer m Abort.notOwner))

/-- The return stack of an awl core holds 8 indices; a ninth CALL drops the oldest, and a RET of none goes on; both set STK. (R232) -/
def Obligations.ReturnStack : Prop :=
  (∀ (s : State) (p : Pos) (target : BitVec 12), AtInstr s p (.call p target) 3 → (s.core p).stack.length = 8 →
    ∃ t, exec (.call p target) s = .next t ∧
      Retires s t p 3 { (s.core p) with stack := ((s.core p).pc + 1) :: (s.core p).stack.take 7, pc := target } ∧ SrSets (s.core p).sr (t.core p).sr [(SR.stk, true)]) ∧
  (∀ (s : State) (p : Pos) (target : BitVec 12), AtInstr s p (.call p target) 3 → (s.core p).stack.length < 8 →
    ∃ t, exec (.call p target) s = .next t ∧
      Retires s t p 3 { (s.core p) with stack := ((s.core p).pc + 1) :: (s.core p).stack, pc := target } ∧ SrSets (s.core p).sr (t.core p).sr [] ∧
      (t.core p).stack.length ≤ 8) ∧
  (∀ (s : State) (p : Pos), AtInstr s p (.ret p) 3 → (s.core p).stack = [] →
    ∃ t, exec (.ret p) s = .next t ∧
      Retires s t p 3 { (s.core p) with pc := (s.core p).pc + 1 } ∧ SrSets (s.core p).sr (t.core p).sr [(SR.stk, true)])

/-- A LIVE write is accepted only if neither the active nor a pending plan breaks, and then changes every value together. (R35, R66) It rests on the model's own choices of log entry 63. -/
def Obligations.LiveWrites : Prop :=
  (∀ (s : State) (m : Master) (index sub : Nat) (b : List Byte) (r : Row) (i j : Nat), Owner s m → objectFor m index sub = some (r, i, j) → r.cls = .live → b.length = r.ty.size → r.checks (ofLe b &&& r.mask) = true →
    (∀ p ∈ s.active :: (s.awaiting.toList ++ s.armed.toList), s.liveBreaks r i j (ofLe b &&& r.mask) p = none) →
    ∃ t, exec (.objectWrite m index sub b) s = .next t ∧ t.active = putVal r i j (ofLe b &&& r.mask) s.active ∧ t.staged = putVal r i j (ofLe b &&& r.mask) s.staged ∧
      t.awaiting = s.awaiting.map (putVal r i j (ofLe b &&& r.mask)) ∧ t.armed = s.armed.map (putVal r i j (ofLe b &&& r.mask)) ∧ t.out = replied s m) ∧
  (∀ (s : State) (m : Master) (index sub : Nat) (b : List Byte) (r : Row) (i j : Nat), Owner s m → objectFor m index sub = some (r, i, j) → r.cls = .live → b.length = r.ty.size → r.checks (ofLe b &&& r.mask) = true →
    (∃ p ∈ s.active :: (s.awaiting.toList ++ s.armed.toList), s.liveBreaks r i j (ofLe b &&& r.mask) p ≠ none) →
    ∃ p ∈ s.active :: (s.awaiting.toList ++ s.armed.toList), ∃ c, s.liveBreaks r i j (ofLe b &&& r.mask) p = some c ∧
      exec (.objectWrite m index sub b) s = .next (s.answer m (Abort.adm c)))

/-- The byte order of a DMA transfer follows SWAP within each unit and then HSWAP within each 4 bytes. (R360) -/
def Obligations.SwapOrder : Prop :=
  (∀ (d : Desc) (l : List Byte), l.length % 2 ^ descSwap d = 0 → (descHswap d = true → l.length % 4 = 0) →
    (swapData d l).length = l.length ∧
    ∀ i < l.length,
      let k := if descHswap d then i / 4 * 4 + (i % 4 + 2) % 4 else i
      (swapData d l)[i]? = l[k / 2 ^ descSwap d * 2 ^ descSwap d + (2 ^ descSwap d - 1 - k % 2 ^ descSwap d)]?) ∧
  (∀ (d : Desc) (b0 b1 b2 b3 : Byte), descSwap d = 2 → descHswap d = true → swapData d [b0, b1, b2, b3] = [b1, b0, b3, b2])

/-- Each byte of a DMA transfer lies where the circular or the linear side places it, and LAP says that the circular side wrapped. (R361) -/
def Obligations.CircularSide : Prop :=
  (∀ (d : Desc) (dst : Bool) (i : Nat), sideK d dst = 0 ∨ 6 ≤ sideK d dst → i < d.count →
    let a := if dst then d.dst else d.src
    ((sidePieces d dst d.count).flatMap (fun p => (List.range p.2).map (fun j => p.1 + j)))[i]? =
      some (if sideK d dst = 0 then a + i else a / 2 ^ sideK d dst * 2 ^ sideK d dst + (a % 2 ^ sideK d dst + i) % 2 ^ sideK d dst)) ∧
  (∀ (s : State) (ch : Fin 64) (moved : Nat) (data : List Byte) (d : Desc), (s.dma ch.val).desc = some d → (s.dma ch.val).stop = false →
    ∃ t, exec (.dmaDescEnd ch moved data) s = .next t ∧
      (t.reg O.dmaLastStatus ch.val).testBit 14 =
        decide (descK d ≠ 0 ∧ 2 ^ descK d < (if descCircDst d then d.dst else d.src) % 2 ^ descK d + d.count))
end

