-- ==== Sys2Proof/Laws/State.lean ====
section
/-! SUPPORT. What each update of the state leaves unchanged: one lemma per field per update. -/

namespace Sys2Proof.Machine

variable (s : State)

/-! `setReg` -/

@[simp] theorem State.setReg_active (r : Row) (v i j : Nat) : (s.setReg r v i j).active = s.active := rfl
@[simp] theorem State.setReg_lag (r : Row) (v i j : Nat) : (s.setReg r v i j).lag = s.lag := rfl
@[simp] theorem State.setReg_staged (r : Row) (v i j : Nat) : (s.setReg r v i j).staged = s.staged := rfl
@[simp] theorem State.setReg_awaiting (r : Row) (v i j : Nat) : (s.setReg r v i j).awaiting = s.awaiting := rfl
@[simp] theorem State.setReg_armed (r : Row) (v i j : Nat) : (s.setReg r v i j).armed = s.armed := rfl
@[simp] theorem State.setReg_doms (r : Row) (v i j : Nat) : (s.setReg r v i j).doms = s.doms := rfl
@[simp] theorem State.setReg_hid (r : Row) (v i j : Nat) : (s.setReg r v i j).hid = s.hid := rfl
@[simp] theorem State.setReg_tc (r : Row) (v i j : Nat) : (s.setReg r v i j).tc = s.tc := rfl
@[simp] theorem State.setReg_up (r : Row) (v i j : Nat) : (s.setReg r v i j).up = s.up := rfl
@[simp] theorem State.setReg_idx (r : Row) (v i j : Nat) : (s.setReg r v i j).idx = s.idx := rfl
@[simp] theorem State.setReg_timeline (r : Row) (v i j : Nat) : (s.setReg r v i j).timeline = s.timeline := rfl
@[simp] theorem State.setReg_holds (r : Row) (v i j : Nat) : (s.setReg r v i j).holds = s.holds := rfl
@[simp] theorem State.setReg_steps (r : Row) (v i j : Nat) : (s.setReg r v i j).steps = s.steps := rfl
@[simp] theorem State.setReg_raises (r : Row) (v i j : Nat) : (s.setReg r v i j).raises = s.raises := rfl
@[simp] theorem State.setReg_sess (r : Row) (v i j : Nat) : (s.setReg r v i j).sess = s.sess := rfl
@[simp] theorem State.setReg_xfers (r : Row) (v i j : Nat) : (s.setReg r v i j).xfers = s.xfers := rfl
@[simp] theorem State.setReg_ends (r : Row) (v i j : Nat) : (s.setReg r v i j).ends = s.ends := rfl
@[simp] theorem State.setReg_can (r : Row) (v i j : Nat) : (s.setReg r v i j).can = s.can := rfl
@[simp] theorem State.setReg_mbx (r : Row) (v i j : Nat) : (s.setReg r v i j).mbx = s.mbx := rfl
@[simp] theorem State.setReg_mbxData (r : Row) (v i j : Nat) : (s.setReg r v i j).mbxData = s.mbxData := rfl
@[simp] theorem State.setReg_adm (r : Row) (v i j : Nat) : (s.setReg r v i j).adm = s.adm := rfl
@[simp] theorem State.setReg_issued (r : Row) (v i j : Nat) : (s.setReg r v i j).issued = s.issued := rfl
@[simp] theorem State.setReg_out (r : Row) (v i j : Nat) : (s.setReg r v i j).out = s.out := rfl
@[simp] theorem State.setReg_conv (r : Row) (v i j : Nat) : (s.setReg r v i j).conv = s.conv := rfl
@[simp] theorem State.setReg_slices (r : Row) (v i j : Nat) : (s.setReg r v i j).slices = s.slices := rfl
@[simp] theorem State.setReg_engs (r : Row) (v i j : Nat) : (s.setReg r v i j).engs = s.engs := rfl
@[simp] theorem State.setReg_engSrcs (r : Row) (v i j : Nat) : (s.setReg r v i j).engSrcs = s.engSrcs := rfl
@[simp] theorem State.setReg_newest (r : Row) (v i j : Nat) : (s.setReg r v i j).newest = s.newest := rfl
@[simp] theorem State.setReg_trigs (r : Row) (v i j : Nat) : (s.setReg r v i j).trigs = s.trigs := rfl
@[simp] theorem State.setReg_ctxs (r : Row) (v i j : Nat) : (s.setReg r v i j).ctxs = s.ctxs := rfl
@[simp] theorem State.setReg_groups (r : Row) (v i j : Nat) : (s.setReg r v i j).groups = s.groups := rfl
@[simp] theorem State.setReg_density (r : Row) (v i j : Nat) : (s.setReg r v i j).density = s.density := rfl
@[simp] theorem State.setReg_table (r : Row) (v i j : Nat) : (s.setReg r v i j).table = s.table := rfl
@[simp] theorem State.setReg_lines (r : Row) (v i j : Nat) : (s.setReg r v i j).lines = s.lines := rfl
@[simp] theorem State.setReg_windows (r : Row) (v i j : Nat) : (s.setReg r v i j).windows = s.windows := rfl
@[simp] theorem State.setReg_positions (r : Row) (v i j : Nat) : (s.setReg r v i j).positions = s.positions := rfl
@[simp] theorem State.setReg_shadows (r : Row) (v i j : Nat) : (s.setReg r v i j).shadows = s.shadows := rfl
@[simp] theorem State.setReg_spills (r : Row) (v i j : Nat) : (s.setReg r v i j).spills = s.spills := rfl
@[simp] theorem State.setReg_bench (r : Row) (v i j : Nat) : (s.setReg r v i j).bench = s.bench := rfl
@[simp] theorem State.setReg_chans (r : Row) (v i j : Nat) : (s.setReg r v i j).chans = s.chans := rfl
@[simp] theorem State.setReg_slots (r : Row) (v i j : Nat) : (s.setReg r v i j).slots = s.slots := rfl
@[simp] theorem State.setReg_ptp (r : Row) (v i j : Nat) : (s.setReg r v i j).ptp = s.ptp := rfl
@[simp] theorem State.setReg_dmas (r : Row) (v i j : Nat) : (s.setReg r v i j).dmas = s.dmas := rfl
@[simp] theorem State.setReg_streams (r : Row) (v i j : Nat) : (s.setReg r v i j).streams = s.streams := rfl
@[simp] theorem State.setReg_drains (r : Row) (v i j : Nat) : (s.setReg r v i j).drains = s.drains := rfl
@[simp] theorem State.setReg_nvSets (r : Row) (v i j : Nat) : (s.setReg r v i j).nvSets = s.nvSets := rfl
@[simp] theorem State.setReg_nvCmds (r : Row) (v i j : Nat) : (s.setReg r v i j).nvCmds = s.nvCmds := rfl
@[simp] theorem State.setReg_heads (r : Row) (v i j : Nat) : (s.setReg r v i j).heads = s.heads := rfl
@[simp] theorem State.setReg_hk (r : Row) (v i j : Nat) : (s.setReg r v i j).hk = s.hk := rfl
@[simp] theorem State.setReg_hkSlots (r : Row) (v i j : Nat) : (s.setReg r v i j).hkSlots = s.hkSlots := rfl
@[simp] theorem State.setReg_pgs (r : Row) (v i j : Nat) : (s.setReg r v i j).pgs = s.pgs := rfl
@[simp] theorem State.setReg_mem (r : Row) (v i j : Nat) : (s.setReg r v i j).mem = s.mem := rfl
@[simp] theorem State.setReg_poison (r : Row) (v i j : Nat) : (s.setReg r v i j).poison = s.poison := rfl
@[simp] theorem State.setReg_flash (r : Row) (v i j : Nat) : (s.setReg r v i j).flash = s.flash := rfl
@[simp] theorem State.setReg_ledgerDue (r : Row) (v i j : Nat) : (s.setReg r v i j).ledgerDue = s.ledgerDue := rfl
@[simp] theorem State.setReg_ceTimes (r : Row) (v i j : Nat) : (s.setReg r v i j).ceTimes = s.ceTimes := rfl
@[simp] theorem State.setReg_migQueue (r : Row) (v i j : Nat) : (s.setReg r v i j).migQueue = s.migQueue := rfl
@[simp] theorem State.setReg_activates (r : Row) (v i j : Nat) : (s.setReg r v i j).activates = s.activates := rfl
@[simp] theorem State.setReg_pending (r : Row) (v i j : Nat) : (s.setReg r v i j).pending = s.pending := rfl

/-! `setHidden` -/

@[simp] theorem State.setHidden_regs (n v i : Nat) : (s.setHidden n v i).regs = s.regs := rfl
@[simp] theorem State.setHidden_active (n v i : Nat) : (s.setHidden n v i).active = s.active := rfl
@[simp] theorem State.setHidden_lag (n v i : Nat) : (s.setHidden n v i).lag = s.lag := rfl
@[simp] theorem State.setHidden_staged (n v i : Nat) : (s.setHidden n v i).staged = s.staged := rfl
@[simp] theorem State.setHidden_awaiting (n v i : Nat) : (s.setHidden n v i).awaiting = s.awaiting := rfl
@[simp] theorem State.setHidden_armed (n v i : Nat) : (s.setHidden n v i).armed = s.armed := rfl
@[simp] theorem State.setHidden_doms (n v i : Nat) : (s.setHidden n v i).doms = s.doms := rfl
@[simp] theorem State.setHidden_tc (n v i : Nat) : (s.setHidden n v i).tc = s.tc := rfl
@[simp] theorem State.setHidden_up (n v i : Nat) : (s.setHidden n v i).up = s.up := rfl
@[simp] theorem State.setHidden_idx (n v i : Nat) : (s.setHidden n v i).idx = s.idx := rfl
@[simp] theorem State.setHidden_timeline (n v i : Nat) : (s.setHidden n v i).timeline = s.timeline := rfl
@[simp] theorem State.setHidden_holds (n v i : Nat) : (s.setHidden n v i).holds = s.holds := rfl
@[simp] theorem State.setHidden_steps (n v i : Nat) : (s.setHidden n v i).steps = s.steps := rfl
@[simp] theorem State.setHidden_raises (n v i : Nat) : (s.setHidden n v i).raises = s.raises := rfl
@[simp] theorem State.setHidden_sess (n v i : Nat) : (s.setHidden n v i).sess = s.sess := rfl
@[simp] theorem State.setHidden_xfers (n v i : Nat) : (s.setHidden n v i).xfers = s.xfers := rfl
@[simp] theorem State.setHidden_ends (n v i : Nat) : (s.setHidden n v i).ends = s.ends := rfl
@[simp] theorem State.setHidden_can (n v i : Nat) : (s.setHidden n v i).can = s.can := rfl
@[simp] theorem State.setHidden_mbx (n v i : Nat) : (s.setHidden n v i).mbx = s.mbx := rfl
@[simp] theorem State.setHidden_mbxData (n v i : Nat) : (s.setHidden n v i).mbxData = s.mbxData := rfl
@[simp] theorem State.setHidden_adm (n v i : Nat) : (s.setHidden n v i).adm = s.adm := rfl
@[simp] theorem State.setHidden_issued (n v i : Nat) : (s.setHidden n v i).issued = s.issued := rfl
@[simp] theorem State.setHidden_out (n v i : Nat) : (s.setHidden n v i).out = s.out := rfl
@[simp] theorem State.setHidden_conv (n v i : Nat) : (s.setHidden n v i).conv = s.conv := rfl
@[simp] theorem State.setHidden_slices (n v i : Nat) : (s.setHidden n v i).slices = s.slices := rfl
@[simp] theorem State.setHidden_engs (n v i : Nat) : (s.setHidden n v i).engs = s.engs := rfl
@[simp] theorem State.setHidden_engSrcs (n v i : Nat) : (s.setHidden n v i).engSrcs = s.engSrcs := rfl
@[simp] theorem State.setHidden_newest (n v i : Nat) : (s.setHidden n v i).newest = s.newest := rfl
@[simp] theorem State.setHidden_trigs (n v i : Nat) : (s.setHidden n v i).trigs = s.trigs := rfl
@[simp] theorem State.setHidden_ctxs (n v i : Nat) : (s.setHidden n v i).ctxs = s.ctxs := rfl
@[simp] theorem State.setHidden_groups (n v i : Nat) : (s.setHidden n v i).groups = s.groups := rfl
@[simp] theorem State.setHidden_density (n v i : Nat) : (s.setHidden n v i).density = s.density := rfl
@[simp] theorem State.setHidden_table (n v i : Nat) : (s.setHidden n v i).table = s.table := rfl
@[simp] theorem State.setHidden_lines (n v i : Nat) : (s.setHidden n v i).lines = s.lines := rfl
@[simp] theorem State.setHidden_windows (n v i : Nat) : (s.setHidden n v i).windows = s.windows := rfl
@[simp] theorem State.setHidden_positions (n v i : Nat) : (s.setHidden n v i).positions = s.positions := rfl
@[simp] theorem State.setHidden_shadows (n v i : Nat) : (s.setHidden n v i).shadows = s.shadows := rfl
@[simp] theorem State.setHidden_spills (n v i : Nat) : (s.setHidden n v i).spills = s.spills := rfl
@[simp] theorem State.setHidden_bench (n v i : Nat) : (s.setHidden n v i).bench = s.bench := rfl
@[simp] theorem State.setHidden_chans (n v i : Nat) : (s.setHidden n v i).chans = s.chans := rfl
@[simp] theorem State.setHidden_slots (n v i : Nat) : (s.setHidden n v i).slots = s.slots := rfl
@[simp] theorem State.setHidden_ptp (n v i : Nat) : (s.setHidden n v i).ptp = s.ptp := rfl
@[simp] theorem State.setHidden_dmas (n v i : Nat) : (s.setHidden n v i).dmas = s.dmas := rfl
@[simp] theorem State.setHidden_streams (n v i : Nat) : (s.setHidden n v i).streams = s.streams := rfl
@[simp] theorem State.setHidden_drains (n v i : Nat) : (s.setHidden n v i).drains = s.drains := rfl
@[simp] theorem State.setHidden_nvSets (n v i : Nat) : (s.setHidden n v i).nvSets = s.nvSets := rfl
@[simp] theorem State.setHidden_nvCmds (n v i : Nat) : (s.setHidden n v i).nvCmds = s.nvCmds := rfl
@[simp] theorem State.setHidden_heads (n v i : Nat) : (s.setHidden n v i).heads = s.heads := rfl
@[simp] theorem State.setHidden_hk (n v i : Nat) : (s.setHidden n v i).hk = s.hk := rfl
@[simp] theorem State.setHidden_hkSlots (n v i : Nat) : (s.setHidden n v i).hkSlots = s.hkSlots := rfl
@[simp] theorem State.setHidden_pgs (n v i : Nat) : (s.setHidden n v i).pgs = s.pgs := rfl
@[simp] theorem State.setHidden_mem (n v i : Nat) : (s.setHidden n v i).mem = s.mem := rfl
@[simp] theorem State.setHidden_poison (n v i : Nat) : (s.setHidden n v i).poison = s.poison := rfl
@[simp] theorem State.setHidden_flash (n v i : Nat) : (s.setHidden n v i).flash = s.flash := rfl
@[simp] theorem State.setHidden_ledgerDue (n v i : Nat) : (s.setHidden n v i).ledgerDue = s.ledgerDue := rfl
@[simp] theorem State.setHidden_ceTimes (n v i : Nat) : (s.setHidden n v i).ceTimes = s.ceTimes := rfl
@[simp] theorem State.setHidden_migQueue (n v i : Nat) : (s.setHidden n v i).migQueue = s.migQueue := rfl
@[simp] theorem State.setHidden_activates (n v i : Nat) : (s.setHidden n v i).activates = s.activates := rfl
@[simp] theorem State.setHidden_pending (n v i : Nat) : (s.setHidden n v i).pending = s.pending := rfl

/-! `bump` -/

@[simp] theorem State.bump_active (r : Row) (i j n : Nat) : (s.bump r i j n).active = s.active := rfl
@[simp] theorem State.bump_lag (r : Row) (i j n : Nat) : (s.bump r i j n).lag = s.lag := rfl
@[simp] theorem State.bump_staged (r : Row) (i j n : Nat) : (s.bump r i j n).staged = s.staged := rfl
@[simp] theorem State.bump_awaiting (r : Row) (i j n : Nat) : (s.bump r i j n).awaiting = s.awaiting := rfl
@[simp] theorem State.bump_armed (r : Row) (i j n : Nat) : (s.bump r i j n).armed = s.armed := rfl
@[simp] theorem State.bump_doms (r : Row) (i j n : Nat) : (s.bump r i j n).doms = s.doms := rfl
@[simp] theorem State.bump_hid (r : Row) (i j n : Nat) : (s.bump r i j n).hid = s.hid := rfl
@[simp] theorem State.bump_tc (r : Row) (i j n : Nat) : (s.bump r i j n).tc = s.tc := rfl
@[simp] theorem State.bump_up (r : Row) (i j n : Nat) : (s.bump r i j n).up = s.up := rfl
@[simp] theorem State.bump_idx (r : Row) (i j n : Nat) : (s.bump r i j n).idx = s.idx := rfl
@[simp] theorem State.bump_timeline (r : Row) (i j n : Nat) : (s.bump r i j n).timeline = s.timeline := rfl
@[simp] theorem State.bump_holds (r : Row) (i j n : Nat) : (s.bump r i j n).holds = s.holds := rfl
@[simp] theorem State.bump_steps (r : Row) (i j n : Nat) : (s.bump r i j n).steps = s.steps := rfl
@[simp] theorem State.bump_raises (r : Row) (i j n : Nat) : (s.bump r i j n).raises = s.raises := rfl
@[simp] theorem State.bump_sess (r : Row) (i j n : Nat) : (s.bump r i j n).sess = s.sess := rfl
@[simp] theorem State.bump_xfers (r : Row) (i j n : Nat) : (s.bump r i j n).xfers = s.xfers := rfl
@[simp] theorem State.bump_ends (r : Row) (i j n : Nat) : (s.bump r i j n).ends = s.ends := rfl
@[simp] theorem State.bump_can (r : Row) (i j n : Nat) : (s.bump r i j n).can = s.can := rfl
@[simp] theorem State.bump_mbx (r : Row) (i j n : Nat) : (s.bump r i j n).mbx = s.mbx := rfl
@[simp] theorem State.bump_mbxData (r : Row) (i j n : Nat) : (s.bump r i j n).mbxData = s.mbxData := rfl
@[simp] theorem State.bump_adm (r : Row) (i j n : Nat) : (s.bump r i j n).adm = s.adm := rfl
@[simp] theorem State.bump_issued (r : Row) (i j n : Nat) : (s.bump r i j n).issued = s.issued := rfl
@[simp] theorem State.bump_out (r : Row) (i j n : Nat) : (s.bump r i j n).out = s.out := rfl
@[simp] theorem State.bump_conv (r : Row) (i j n : Nat) : (s.bump r i j n).conv = s.conv := rfl
@[simp] theorem State.bump_slices (r : Row) (i j n : Nat) : (s.bump r i j n).slices = s.slices := rfl
@[simp] theorem State.bump_engs (r : Row) (i j n : Nat) : (s.bump r i j n).engs = s.engs := rfl
@[simp] theorem State.bump_engSrcs (r : Row) (i j n : Nat) : (s.bump r i j n).engSrcs = s.engSrcs := rfl
@[simp] theorem State.bump_newest (r : Row) (i j n : Nat) : (s.bump r i j n).newest = s.newest := rfl
@[simp] theorem State.bump_trigs (r : Row) (i j n : Nat) : (s.bump r i j n).trigs = s.trigs := rfl
@[simp] theorem State.bump_ctxs (r : Row) (i j n : Nat) : (s.bump r i j n).ctxs = s.ctxs := rfl
@[simp] theorem State.bump_groups (r : Row) (i j n : Nat) : (s.bump r i j n).groups = s.groups := rfl
@[simp] theorem State.bump_density (r : Row) (i j n : Nat) : (s.bump r i j n).density = s.density := rfl
@[simp] theorem State.bump_table (r : Row) (i j n : Nat) : (s.bump r i j n).table = s.table := rfl
@[simp] theorem State.bump_lines (r : Row) (i j n : Nat) : (s.bump r i j n).lines = s.lines := rfl
@[simp] theorem State.bump_windows (r : Row) (i j n : Nat) : (s.bump r i j n).windows = s.windows := rfl
@[simp] theorem State.bump_positions (r : Row) (i j n : Nat) : (s.bump r i j n).positions = s.positions := rfl
@[simp] theorem State.bump_shadows (r : Row) (i j n : Nat) : (s.bump r i j n).shadows = s.shadows := rfl
@[simp] theorem State.bump_spills (r : Row) (i j n : Nat) : (s.bump r i j n).spills = s.spills := rfl
@[simp] theorem State.bump_bench (r : Row) (i j n : Nat) : (s.bump r i j n).bench = s.bench := rfl
@[simp] theorem State.bump_chans (r : Row) (i j n : Nat) : (s.bump r i j n).chans = s.chans := rfl
@[simp] theorem State.bump_slots (r : Row) (i j n : Nat) : (s.bump r i j n).slots = s.slots := rfl
@[simp] theorem State.bump_ptp (r : Row) (i j n : Nat) : (s.bump r i j n).ptp = s.ptp := rfl
@[simp] theorem State.bump_dmas (r : Row) (i j n : Nat) : (s.bump r i j n).dmas = s.dmas := rfl
@[simp] theorem State.bump_streams (r : Row) (i j n : Nat) : (s.bump r i j n).streams = s.streams := rfl
@[simp] theorem State.bump_drains (r : Row) (i j n : Nat) : (s.bump r i j n).drains = s.drains := rfl
@[simp] theorem State.bump_nvSets (r : Row) (i j n : Nat) : (s.bump r i j n).nvSets = s.nvSets := rfl
@[simp] theorem State.bump_nvCmds (r : Row) (i j n : Nat) : (s.bump r i j n).nvCmds = s.nvCmds := rfl
@[simp] theorem State.bump_heads (r : Row) (i j n : Nat) : (s.bump r i j n).heads = s.heads := rfl
@[simp] theorem State.bump_hk (r : Row) (i j n : Nat) : (s.bump r i j n).hk = s.hk := rfl
@[simp] theorem State.bump_hkSlots (r : Row) (i j n : Nat) : (s.bump r i j n).hkSlots = s.hkSlots := rfl
@[simp] theorem State.bump_pgs (r : Row) (i j n : Nat) : (s.bump r i j n).pgs = s.pgs := rfl
@[simp] theorem State.bump_mem (r : Row) (i j n : Nat) : (s.bump r i j n).mem = s.mem := rfl
@[simp] theorem State.bump_poison (r : Row) (i j n : Nat) : (s.bump r i j n).poison = s.poison := rfl
@[simp] theorem State.bump_flash (r : Row) (i j n : Nat) : (s.bump r i j n).flash = s.flash := rfl
@[simp] theorem State.bump_ledgerDue (r : Row) (i j n : Nat) : (s.bump r i j n).ledgerDue = s.ledgerDue := rfl
@[simp] theorem State.bump_ceTimes (r : Row) (i j n : Nat) : (s.bump r i j n).ceTimes = s.ceTimes := rfl
@[simp] theorem State.bump_migQueue (r : Row) (i j n : Nat) : (s.bump r i j n).migQueue = s.migQueue := rfl
@[simp] theorem State.bump_activates (r : Row) (i j n : Nat) : (s.bump r i j n).activates = s.activates := rfl
@[simp] theorem State.bump_pending (r : Row) (i j n : Nat) : (s.bump r i j n).pending = s.pending := rfl

/-! `bumpSat` -/

@[simp] theorem State.bumpSat_active (r : Row) (i j n : Nat) : (s.bumpSat r i j n).active = s.active := rfl
@[simp] theorem State.bumpSat_lag (r : Row) (i j n : Nat) : (s.bumpSat r i j n).lag = s.lag := rfl
@[simp] theorem State.bumpSat_staged (r : Row) (i j n : Nat) : (s.bumpSat r i j n).staged = s.staged := rfl
@[simp] theorem State.bumpSat_awaiting (r : Row) (i j n : Nat) : (s.bumpSat r i j n).awaiting = s.awaiting := rfl
@[simp] theorem State.bumpSat_armed (r : Row) (i j n : Nat) : (s.bumpSat r i j n).armed = s.armed := rfl
@[simp] theorem State.bumpSat_doms (r : Row) (i j n : Nat) : (s.bumpSat r i j n).doms = s.doms := rfl
@[simp] theorem State.bumpSat_hid (r : Row) (i j n : Nat) : (s.bumpSat r i j n).hid = s.hid := rfl
@[simp] theorem State.bumpSat_tc (r : Row) (i j n : Nat) : (s.bumpSat r i j n).tc = s.tc := rfl
@[simp] theorem State.bumpSat_up (r : Row) (i j n : Nat) : (s.bumpSat r i j n).up = s.up := rfl
@[simp] theorem State.bumpSat_idx (r : Row) (i j n : Nat) : (s.bumpSat r i j n).idx = s.idx := rfl
@[simp] theorem State.bumpSat_timeline (r : Row) (i j n : Nat) : (s.bumpSat r i j n).timeline = s.timeline := rfl
@[simp] theorem State.bumpSat_holds (r : Row) (i j n : Nat) : (s.bumpSat r i j n).holds = s.holds := rfl
@[simp] theorem State.bumpSat_steps (r : Row) (i j n : Nat) : (s.bumpSat r i j n).steps = s.steps := rfl
@[simp] theorem State.bumpSat_raises (r : Row) (i j n : Nat) : (s.bumpSat r i j n).raises = s.raises := rfl
@[simp] theorem State.bumpSat_sess (r : Row) (i j n : Nat) : (s.bumpSat r i j n).sess = s.sess := rfl
@[simp] theorem State.bumpSat_xfers (r : Row) (i j n : Nat) : (s.bumpSat r i j n).xfers = s.xfers := rfl
@[simp] theorem State.bumpSat_ends (r : Row) (i j n : Nat) : (s.bumpSat r i j n).ends = s.ends := rfl
@[simp] theorem State.bumpSat_can (r : Row) (i j n : Nat) : (s.bumpSat r i j n).can = s.can := rfl
@[simp] theorem State.bumpSat_mbx (r : Row) (i j n : Nat) : (s.bumpSat r i j n).mbx = s.mbx := rfl
@[simp] theorem State.bumpSat_mbxData (r : Row) (i j n : Nat) : (s.bumpSat r i j n).mbxData = s.mbxData := rfl
@[simp] theorem State.bumpSat_adm (r : Row) (i j n : Nat) : (s.bumpSat r i j n).adm = s.adm := rfl
@[simp] theorem State.bumpSat_issued (r : Row) (i j n : Nat) : (s.bumpSat r i j n).issued = s.issued := rfl
@[simp] theorem State.bumpSat_out (r : Row) (i j n : Nat) : (s.bumpSat r i j n).out = s.out := rfl
@[simp] theorem State.bumpSat_conv (r : Row) (i j n : Nat) : (s.bumpSat r i j n).conv = s.conv := rfl
@[simp] theorem State.bumpSat_slices (r : Row) (i j n : Nat) : (s.bumpSat r i j n).slices = s.slices := rfl
@[simp] theorem State.bumpSat_engs (r : Row) (i j n : Nat) : (s.bumpSat r i j n).engs = s.engs := rfl
@[simp] theorem State.bumpSat_engSrcs (r : Row) (i j n : Nat) : (s.bumpSat r i j n).engSrcs = s.engSrcs := rfl
@[simp] theorem State.bumpSat_newest (r : Row) (i j n : Nat) : (s.bumpSat r i j n).newest = s.newest := rfl
@[simp] theorem State.bumpSat_trigs (r : Row) (i j n : Nat) : (s.bumpSat r i j n).trigs = s.trigs := rfl
@[simp] theorem State.bumpSat_ctxs (r : Row) (i j n : Nat) : (s.bumpSat r i j n).ctxs = s.ctxs := rfl
@[simp] theorem State.bumpSat_groups (r : Row) (i j n : Nat) : (s.bumpSat r i j n).groups = s.groups := rfl
@[simp] theorem State.bumpSat_density (r : Row) (i j n : Nat) : (s.bumpSat r i j n).density = s.density := rfl
@[simp] theorem State.bumpSat_table (r : Row) (i j n : Nat) : (s.bumpSat r i j n).table = s.table := rfl
@[simp] theorem State.bumpSat_lines (r : Row) (i j n : Nat) : (s.bumpSat r i j n).lines = s.lines := rfl
@[simp] theorem State.bumpSat_windows (r : Row) (i j n : Nat) : (s.bumpSat r i j n).windows = s.windows := rfl
@[simp] theorem State.bumpSat_positions (r : Row) (i j n : Nat) : (s.bumpSat r i j n).positions = s.positions := rfl
@[simp] theorem State.bumpSat_shadows (r : Row) (i j n : Nat) : (s.bumpSat r i j n).shadows = s.shadows := rfl
@[simp] theorem State.bumpSat_spills (r : Row) (i j n : Nat) : (s.bumpSat r i j n).spills = s.spills := rfl
@[simp] theorem State.bumpSat_bench (r : Row) (i j n : Nat) : (s.bumpSat r i j n).bench = s.bench := rfl
@[simp] theorem State.bumpSat_chans (r : Row) (i j n : Nat) : (s.bumpSat r i j n).chans = s.chans := rfl
@[simp] theorem State.bumpSat_slots (r : Row) (i j n : Nat) : (s.bumpSat r i j n).slots = s.slots := rfl
@[simp] theorem State.bumpSat_ptp (r : Row) (i j n : Nat) : (s.bumpSat r i j n).ptp = s.ptp := rfl
@[simp] theorem State.bumpSat_dmas (r : Row) (i j n : Nat) : (s.bumpSat r i j n).dmas = s.dmas := rfl
@[simp] theorem State.bumpSat_streams (r : Row) (i j n : Nat) : (s.bumpSat r i j n).streams = s.streams := rfl
@[simp] theorem State.bumpSat_drains (r : Row) (i j n : Nat) : (s.bumpSat r i j n).drains = s.drains := rfl
@[simp] theorem State.bumpSat_nvSets (r : Row) (i j n : Nat) : (s.bumpSat r i j n).nvSets = s.nvSets := rfl
@[simp] theorem State.bumpSat_nvCmds (r : Row) (i j n : Nat) : (s.bumpSat r i j n).nvCmds = s.nvCmds := rfl
@[simp] theorem State.bumpSat_heads (r : Row) (i j n : Nat) : (s.bumpSat r i j n).heads = s.heads := rfl
@[simp] theorem State.bumpSat_hk (r : Row) (i j n : Nat) : (s.bumpSat r i j n).hk = s.hk := rfl
@[simp] theorem State.bumpSat_hkSlots (r : Row) (i j n : Nat) : (s.bumpSat r i j n).hkSlots = s.hkSlots := rfl
@[simp] theorem State.bumpSat_pgs (r : Row) (i j n : Nat) : (s.bumpSat r i j n).pgs = s.pgs := rfl
@[simp] theorem State.bumpSat_mem (r : Row) (i j n : Nat) : (s.bumpSat r i j n).mem = s.mem := rfl
@[simp] theorem State.bumpSat_poison (r : Row) (i j n : Nat) : (s.bumpSat r i j n).poison = s.poison := rfl
@[simp] theorem State.bumpSat_flash (r : Row) (i j n : Nat) : (s.bumpSat r i j n).flash = s.flash := rfl
@[simp] theorem State.bumpSat_ledgerDue (r : Row) (i j n : Nat) : (s.bumpSat r i j n).ledgerDue = s.ledgerDue := rfl
@[simp] theorem State.bumpSat_ceTimes (r : Row) (i j n : Nat) : (s.bumpSat r i j n).ceTimes = s.ceTimes := rfl
@[simp] theorem State.bumpSat_migQueue (r : Row) (i j n : Nat) : (s.bumpSat r i j n).migQueue = s.migQueue := rfl
@[simp] theorem State.bumpSat_activates (r : Row) (i j n : Nat) : (s.bumpSat r i j n).activates = s.activates := rfl
@[simp] theorem State.bumpSat_pending (r : Row) (i j n : Nat) : (s.bumpSat r i j n).pending = s.pending := rfl

/-! `setDom` -/

@[simp] theorem State.setDom_regs (r : Row) (b : List Byte) (i j : Nat) : (s.setDom r b i j).regs = s.regs := rfl
@[simp] theorem State.setDom_active (r : Row) (b : List Byte) (i j : Nat) : (s.setDom r b i j).active = s.active := rfl
@[simp] theorem State.setDom_lag (r : Row) (b : List Byte) (i j : Nat) : (s.setDom r b i j).lag = s.lag := rfl
@[simp] theorem State.setDom_staged (r : Row) (b : List Byte) (i j : Nat) : (s.setDom r b i j).staged = s.staged := rfl
@[simp] theorem State.setDom_awaiting (r : Row) (b : List Byte) (i j : Nat) : (s.setDom r b i j).awaiting = s.awaiting := rfl
@[simp] theorem State.setDom_armed (r : Row) (b : List Byte) (i j : Nat) : (s.setDom r b i j).armed = s.armed := rfl
@[simp] theorem State.setDom_hid (r : Row) (b : List Byte) (i j : Nat) : (s.setDom r b i j).hid = s.hid := rfl
@[simp] theorem State.setDom_tc (r : Row) (b : List Byte) (i j : Nat) : (s.setDom r b i j).tc = s.tc := rfl
@[simp] theorem State.setDom_up (r : Row) (b : List Byte) (i j : Nat) : (s.setDom r b i j).up = s.up := rfl
@[simp] theorem State.setDom_idx (r : Row) (b : List Byte) (i j : Nat) : (s.setDom r b i j).idx = s.idx := rfl
@[simp] theorem State.setDom_timeline (r : Row) (b : List Byte) (i j : Nat) : (s.setDom r b i j).timeline = s.timeline := rfl
@[simp] theorem State.setDom_holds (r : Row) (b : List Byte) (i j : Nat) : (s.setDom r b i j).holds = s.holds := rfl
@[simp] theorem State.setDom_steps (r : Row) (b : List Byte) (i j : Nat) : (s.setDom r b i j).steps = s.steps := rfl
@[simp] theorem State.setDom_raises (r : Row) (b : List Byte) (i j : Nat) : (s.setDom r b i j).raises = s.raises := rfl
@[simp] theorem State.setDom_sess (r : Row) (b : List Byte) (i j : Nat) : (s.setDom r b i j).sess = s.sess := rfl
@[simp] theorem State.setDom_xfers (r : Row) (b : List Byte) (i j : Nat) : (s.setDom r b i j).xfers = s.xfers := rfl
@[simp] theorem State.setDom_ends (r : Row) (b : List Byte) (i j : Nat) : (s.setDom r b i j).ends = s.ends := rfl
@[simp] theorem State.setDom_can (r : Row) (b : List Byte) (i j : Nat) : (s.setDom r b i j).can = s.can := rfl
@[simp] theorem State.setDom_mbx (r : Row) (b : List Byte) (i j : Nat) : (s.setDom r b i j).mbx = s.mbx := rfl
@[simp] theorem State.setDom_mbxData (r : Row) (b : List Byte) (i j : Nat) : (s.setDom r b i j).mbxData = s.mbxData := rfl
@[simp] theorem State.setDom_adm (r : Row) (b : List Byte) (i j : Nat) : (s.setDom r b i j).adm = s.adm := rfl
@[simp] theorem State.setDom_issued (r : Row) (b : List Byte) (i j : Nat) : (s.setDom r b i j).issued = s.issued := rfl
@[simp] theorem State.setDom_out (r : Row) (b : List Byte) (i j : Nat) : (s.setDom r b i j).out = s.out := rfl
@[simp] theorem State.setDom_conv (r : Row) (b : List Byte) (i j : Nat) : (s.setDom r b i j).conv = s.conv := rfl
@[simp] theorem State.setDom_slices (r : Row) (b : List Byte) (i j : Nat) : (s.setDom r b i j).slices = s.slices := rfl
@[simp] theorem State.setDom_engs (r : Row) (b : List Byte) (i j : Nat) : (s.setDom r b i j).engs = s.engs := rfl
@[simp] theorem State.setDom_engSrcs (r : Row) (b : List Byte) (i j : Nat) : (s.setDom r b i j).engSrcs = s.engSrcs := rfl
@[simp] theorem State.setDom_newest (r : Row) (b : List Byte) (i j : Nat) : (s.setDom r b i j).newest = s.newest := rfl
@[simp] theorem State.setDom_trigs (r : Row) (b : List Byte) (i j : Nat) : (s.setDom r b i j).trigs = s.trigs := rfl
@[simp] theorem State.setDom_ctxs (r : Row) (b : List Byte) (i j : Nat) : (s.setDom r b i j).ctxs = s.ctxs := rfl
@[simp] theorem State.setDom_groups (r : Row) (b : List Byte) (i j : Nat) : (s.setDom r b i j).groups = s.groups := rfl
@[simp] theorem State.setDom_density (r : Row) (b : List Byte) (i j : Nat) : (s.setDom r b i j).density = s.density := rfl
@[simp] theorem State.setDom_table (r : Row) (b : List Byte) (i j : Nat) : (s.setDom r b i j).table = s.table := rfl
@[simp] theorem State.setDom_lines (r : Row) (b : List Byte) (i j : Nat) : (s.setDom r b i j).lines = s.lines := rfl
@[simp] theorem State.setDom_windows (r : Row) (b : List Byte) (i j : Nat) : (s.setDom r b i j).windows = s.windows := rfl
@[simp] theorem State.setDom_positions (r : Row) (b : List Byte) (i j : Nat) : (s.setDom r b i j).positions = s.positions := rfl
@[simp] theorem State.setDom_shadows (r : Row) (b : List Byte) (i j : Nat) : (s.setDom r b i j).shadows = s.shadows := rfl
@[simp] theorem State.setDom_spills (r : Row) (b : List Byte) (i j : Nat) : (s.setDom r b i j).spills = s.spills := rfl
@[simp] theorem State.setDom_bench (r : Row) (b : List Byte) (i j : Nat) : (s.setDom r b i j).bench = s.bench := rfl
@[simp] theorem State.setDom_chans (r : Row) (b : List Byte) (i j : Nat) : (s.setDom r b i j).chans = s.chans := rfl
@[simp] theorem State.setDom_slots (r : Row) (b : List Byte) (i j : Nat) : (s.setDom r b i j).slots = s.slots := rfl
@[simp] theorem State.setDom_ptp (r : Row) (b : List Byte) (i j : Nat) : (s.setDom r b i j).ptp = s.ptp := rfl
@[simp] theorem State.setDom_dmas (r : Row) (b : List Byte) (i j : Nat) : (s.setDom r b i j).dmas = s.dmas := rfl
@[simp] theorem State.setDom_streams (r : Row) (b : List Byte) (i j : Nat) : (s.setDom r b i j).streams = s.streams := rfl
@[simp] theorem State.setDom_drains (r : Row) (b : List Byte) (i j : Nat) : (s.setDom r b i j).drains = s.drains := rfl
@[simp] theorem State.setDom_nvSets (r : Row) (b : List Byte) (i j : Nat) : (s.setDom r b i j).nvSets = s.nvSets := rfl
@[simp] theorem State.setDom_nvCmds (r : Row) (b : List Byte) (i j : Nat) : (s.setDom r b i j).nvCmds = s.nvCmds := rfl
@[simp] theorem State.setDom_heads (r : Row) (b : List Byte) (i j : Nat) : (s.setDom r b i j).heads = s.heads := rfl
@[simp] theorem State.setDom_hk (r : Row) (b : List Byte) (i j : Nat) : (s.setDom r b i j).hk = s.hk := rfl
@[simp] theorem State.setDom_hkSlots (r : Row) (b : List Byte) (i j : Nat) : (s.setDom r b i j).hkSlots = s.hkSlots := rfl
@[simp] theorem State.setDom_pgs (r : Row) (b : List Byte) (i j : Nat) : (s.setDom r b i j).pgs = s.pgs := rfl
@[simp] theorem State.setDom_mem (r : Row) (b : List Byte) (i j : Nat) : (s.setDom r b i j).mem = s.mem := rfl
@[simp] theorem State.setDom_poison (r : Row) (b : List Byte) (i j : Nat) : (s.setDom r b i j).poison = s.poison := rfl
@[simp] theorem State.setDom_flash (r : Row) (b : List Byte) (i j : Nat) : (s.setDom r b i j).flash = s.flash := rfl
@[simp] theorem State.setDom_ledgerDue (r : Row) (b : List Byte) (i j : Nat) : (s.setDom r b i j).ledgerDue = s.ledgerDue := rfl
@[simp] theorem State.setDom_ceTimes (r : Row) (b : List Byte) (i j : Nat) : (s.setDom r b i j).ceTimes = s.ceTimes := rfl
@[simp] theorem State.setDom_migQueue (r : Row) (b : List Byte) (i j : Nat) : (s.setDom r b i j).migQueue = s.migQueue := rfl
@[simp] theorem State.setDom_activates (r : Row) (b : List Byte) (i j : Nat) : (s.setDom r b i j).activates = s.activates := rfl
@[simp] theorem State.setDom_pending (r : Row) (b : List Byte) (i j : Nat) : (s.setDom r b i j).pending = s.pending := rfl

/-! `emit` -/

@[simp] theorem State.emit_regs (o : Out) : (s.emit o).regs = s.regs := rfl
@[simp] theorem State.emit_active (o : Out) : (s.emit o).active = s.active := rfl
@[simp] theorem State.emit_lag (o : Out) : (s.emit o).lag = s.lag := rfl
@[simp] theorem State.emit_staged (o : Out) : (s.emit o).staged = s.staged := rfl
@[simp] theorem State.emit_awaiting (o : Out) : (s.emit o).awaiting = s.awaiting := rfl
@[simp] theorem State.emit_armed (o : Out) : (s.emit o).armed = s.armed := rfl
@[simp] theorem State.emit_doms (o : Out) : (s.emit o).doms = s.doms := rfl
@[simp] theorem State.emit_hid (o : Out) : (s.emit o).hid = s.hid := rfl
@[simp] theorem State.emit_tc (o : Out) : (s.emit o).tc = s.tc := rfl
@[simp] theorem State.emit_up (o : Out) : (s.emit o).up = s.up := rfl
@[simp] theorem State.emit_idx (o : Out) : (s.emit o).idx = s.idx := rfl
@[simp] theorem State.emit_timeline (o : Out) : (s.emit o).timeline = s.timeline := rfl
@[simp] theorem State.emit_holds (o : Out) : (s.emit o).holds = s.holds := rfl
@[simp] theorem State.emit_steps (o : Out) : (s.emit o).steps = s.steps := rfl
@[simp] theorem State.emit_raises (o : Out) : (s.emit o).raises = s.raises := rfl
@[simp] theorem State.emit_sess (o : Out) : (s.emit o).sess = s.sess := rfl
@[simp] theorem State.emit_xfers (o : Out) : (s.emit o).xfers = s.xfers := rfl
@[simp] theorem State.emit_ends (o : Out) : (s.emit o).ends = s.ends := rfl
@[simp] theorem State.emit_can (o : Out) : (s.emit o).can = s.can := rfl
@[simp] theorem State.emit_mbx (o : Out) : (s.emit o).mbx = s.mbx := rfl
@[simp] theorem State.emit_mbxData (o : Out) : (s.emit o).mbxData = s.mbxData := rfl
@[simp] theorem State.emit_adm (o : Out) : (s.emit o).adm = s.adm := rfl
@[simp] theorem State.emit_issued (o : Out) : (s.emit o).issued = s.issued := rfl
@[simp] theorem State.emit_conv (o : Out) : (s.emit o).conv = s.conv := rfl
@[simp] theorem State.emit_slices (o : Out) : (s.emit o).slices = s.slices := rfl
@[simp] theorem State.emit_engs (o : Out) : (s.emit o).engs = s.engs := rfl
@[simp] theorem State.emit_engSrcs (o : Out) : (s.emit o).engSrcs = s.engSrcs := rfl
@[simp] theorem State.emit_newest (o : Out) : (s.emit o).newest = s.newest := rfl
@[simp] theorem State.emit_trigs (o : Out) : (s.emit o).trigs = s.trigs := rfl
@[simp] theorem State.emit_ctxs (o : Out) : (s.emit o).ctxs = s.ctxs := rfl
@[simp] theorem State.emit_groups (o : Out) : (s.emit o).groups = s.groups := rfl
@[simp] theorem State.emit_density (o : Out) : (s.emit o).density = s.density := rfl
@[simp] theorem State.emit_table (o : Out) : (s.emit o).table = s.table := rfl
@[simp] theorem State.emit_lines (o : Out) : (s.emit o).lines = s.lines := rfl
@[simp] theorem State.emit_windows (o : Out) : (s.emit o).windows = s.windows := rfl
@[simp] theorem State.emit_positions (o : Out) : (s.emit o).positions = s.positions := rfl
@[simp] theorem State.emit_shadows (o : Out) : (s.emit o).shadows = s.shadows := rfl
@[simp] theorem State.emit_spills (o : Out) : (s.emit o).spills = s.spills := rfl
@[simp] theorem State.emit_bench (o : Out) : (s.emit o).bench = s.bench := rfl
@[simp] theorem State.emit_chans (o : Out) : (s.emit o).chans = s.chans := rfl
@[simp] theorem State.emit_slots (o : Out) : (s.emit o).slots = s.slots := rfl
@[simp] theorem State.emit_ptp (o : Out) : (s.emit o).ptp = s.ptp := rfl
@[simp] theorem State.emit_dmas (o : Out) : (s.emit o).dmas = s.dmas := rfl
@[simp] theorem State.emit_streams (o : Out) : (s.emit o).streams = s.streams := rfl
@[simp] theorem State.emit_drains (o : Out) : (s.emit o).drains = s.drains := rfl
@[simp] theorem State.emit_nvSets (o : Out) : (s.emit o).nvSets = s.nvSets := rfl
@[simp] theorem State.emit_nvCmds (o : Out) : (s.emit o).nvCmds = s.nvCmds := rfl
@[simp] theorem State.emit_heads (o : Out) : (s.emit o).heads = s.heads := rfl
@[simp] theorem State.emit_hk (o : Out) : (s.emit o).hk = s.hk := rfl
@[simp] theorem State.emit_hkSlots (o : Out) : (s.emit o).hkSlots = s.hkSlots := rfl
@[simp] theorem State.emit_pgs (o : Out) : (s.emit o).pgs = s.pgs := rfl
@[simp] theorem State.emit_mem (o : Out) : (s.emit o).mem = s.mem := rfl
@[simp] theorem State.emit_poison (o : Out) : (s.emit o).poison = s.poison := rfl
@[simp] theorem State.emit_flash (o : Out) : (s.emit o).flash = s.flash := rfl
@[simp] theorem State.emit_ledgerDue (o : Out) : (s.emit o).ledgerDue = s.ledgerDue := rfl
@[simp] theorem State.emit_ceTimes (o : Out) : (s.emit o).ceTimes = s.ceTimes := rfl
@[simp] theorem State.emit_migQueue (o : Out) : (s.emit o).migQueue = s.migQueue := rfl
@[simp] theorem State.emit_activates (o : Out) : (s.emit o).activates = s.activates := rfl
@[simp] theorem State.emit_pending (o : Out) : (s.emit o).pending = s.pending := rfl

/-! `fault` -/

@[simp] theorem State.fault_regs (src data : Nat) : (s.fault src data).regs = s.regs := rfl
@[simp] theorem State.fault_active (src data : Nat) : (s.fault src data).active = s.active := rfl
@[simp] theorem State.fault_lag (src data : Nat) : (s.fault src data).lag = s.lag := rfl
@[simp] theorem State.fault_staged (src data : Nat) : (s.fault src data).staged = s.staged := rfl
@[simp] theorem State.fault_awaiting (src data : Nat) : (s.fault src data).awaiting = s.awaiting := rfl
@[simp] theorem State.fault_armed (src data : Nat) : (s.fault src data).armed = s.armed := rfl
@[simp] theorem State.fault_doms (src data : Nat) : (s.fault src data).doms = s.doms := rfl
@[simp] theorem State.fault_tc (src data : Nat) : (s.fault src data).tc = s.tc := rfl
@[simp] theorem State.fault_up (src data : Nat) : (s.fault src data).up = s.up := rfl
@[simp] theorem State.fault_idx (src data : Nat) : (s.fault src data).idx = s.idx := rfl
@[simp] theorem State.fault_timeline (src data : Nat) : (s.fault src data).timeline = s.timeline := rfl
@[simp] theorem State.fault_holds (src data : Nat) : (s.fault src data).holds = s.holds := rfl
@[simp] theorem State.fault_steps (src data : Nat) : (s.fault src data).steps = s.steps := rfl
@[simp] theorem State.fault_raises (src data : Nat) : (s.fault src data).raises = s.raises := rfl
@[simp] theorem State.fault_sess (src data : Nat) : (s.fault src data).sess = s.sess := rfl
@[simp] theorem State.fault_xfers (src data : Nat) : (s.fault src data).xfers = s.xfers := rfl
@[simp] theorem State.fault_ends (src data : Nat) : (s.fault src data).ends = s.ends := rfl
@[simp] theorem State.fault_can (src data : Nat) : (s.fault src data).can = s.can := rfl
@[simp] theorem State.fault_mbx (src data : Nat) : (s.fault src data).mbx = s.mbx := rfl
@[simp] theorem State.fault_mbxData (src data : Nat) : (s.fault src data).mbxData = s.mbxData := rfl
@[simp] theorem State.fault_adm (src data : Nat) : (s.fault src data).adm = s.adm := rfl
@[simp] theorem State.fault_issued (src data : Nat) : (s.fault src data).issued = s.issued := rfl
@[simp] theorem State.fault_out (src data : Nat) : (s.fault src data).out = s.out := rfl
@[simp] theorem State.fault_conv (src data : Nat) : (s.fault src data).conv = s.conv := rfl
@[simp] theorem State.fault_slices (src data : Nat) : (s.fault src data).slices = s.slices := rfl
@[simp] theorem State.fault_engs (src data : Nat) : (s.fault src data).engs = s.engs := rfl
@[simp] theorem State.fault_engSrcs (src data : Nat) : (s.fault src data).engSrcs = s.engSrcs := rfl
@[simp] theorem State.fault_newest (src data : Nat) : (s.fault src data).newest = s.newest := rfl
@[simp] theorem State.fault_trigs (src data : Nat) : (s.fault src data).trigs = s.trigs := rfl
@[simp] theorem State.fault_ctxs (src data : Nat) : (s.fault src data).ctxs = s.ctxs := rfl
@[simp] theorem State.fault_groups (src data : Nat) : (s.fault src data).groups = s.groups := rfl
@[simp] theorem State.fault_density (src data : Nat) : (s.fault src data).density = s.density := rfl
@[simp] theorem State.fault_table (src data : Nat) : (s.fault src data).table = s.table := rfl
@[simp] theorem State.fault_lines (src data : Nat) : (s.fault src data).lines = s.lines := rfl
@[simp] theorem State.fault_windows (src data : Nat) : (s.fault src data).windows = s.windows := rfl
@[simp] theorem State.fault_positions (src data : Nat) : (s.fault src data).positions = s.positions := rfl
@[simp] theorem State.fault_shadows (src data : Nat) : (s.fault src data).shadows = s.shadows := rfl
@[simp] theorem State.fault_spills (src data : Nat) : (s.fault src data).spills = s.spills := rfl
@[simp] theorem State.fault_bench (src data : Nat) : (s.fault src data).bench = s.bench := rfl
@[simp] theorem State.fault_chans (src data : Nat) : (s.fault src data).chans = s.chans := rfl
@[simp] theorem State.fault_slots (src data : Nat) : (s.fault src data).slots = s.slots := rfl
@[simp] theorem State.fault_ptp (src data : Nat) : (s.fault src data).ptp = s.ptp := rfl
@[simp] theorem State.fault_dmas (src data : Nat) : (s.fault src data).dmas = s.dmas := rfl
@[simp] theorem State.fault_streams (src data : Nat) : (s.fault src data).streams = s.streams := rfl
@[simp] theorem State.fault_drains (src data : Nat) : (s.fault src data).drains = s.drains := rfl
@[simp] theorem State.fault_nvSets (src data : Nat) : (s.fault src data).nvSets = s.nvSets := rfl
@[simp] theorem State.fault_nvCmds (src data : Nat) : (s.fault src data).nvCmds = s.nvCmds := rfl
@[simp] theorem State.fault_heads (src data : Nat) : (s.fault src data).heads = s.heads := rfl
@[simp] theorem State.fault_hk (src data : Nat) : (s.fault src data).hk = s.hk := rfl
@[simp] theorem State.fault_hkSlots (src data : Nat) : (s.fault src data).hkSlots = s.hkSlots := rfl
@[simp] theorem State.fault_pgs (src data : Nat) : (s.fault src data).pgs = s.pgs := rfl
@[simp] theorem State.fault_mem (src data : Nat) : (s.fault src data).mem = s.mem := rfl
@[simp] theorem State.fault_poison (src data : Nat) : (s.fault src data).poison = s.poison := rfl
@[simp] theorem State.fault_flash (src data : Nat) : (s.fault src data).flash = s.flash := rfl
@[simp] theorem State.fault_ledgerDue (src data : Nat) : (s.fault src data).ledgerDue = s.ledgerDue := rfl
@[simp] theorem State.fault_ceTimes (src data : Nat) : (s.fault src data).ceTimes = s.ceTimes := rfl
@[simp] theorem State.fault_migQueue (src data : Nat) : (s.fault src data).migQueue = s.migQueue := rfl
@[simp] theorem State.fault_activates (src data : Nat) : (s.fault src data).activates = s.activates := rfl
@[simp] theorem State.fault_pending (src data : Nat) : (s.fault src data).pending = s.pending := rfl

/-! `unfault` -/

@[simp] theorem State.unfault_regs (src : Nat) : (s.unfault src).regs = s.regs := rfl
@[simp] theorem State.unfault_active (src : Nat) : (s.unfault src).active = s.active := rfl
@[simp] theorem State.unfault_lag (src : Nat) : (s.unfault src).lag = s.lag := rfl
@[simp] theorem State.unfault_staged (src : Nat) : (s.unfault src).staged = s.staged := rfl
@[simp] theorem State.unfault_awaiting (src : Nat) : (s.unfault src).awaiting = s.awaiting := rfl
@[simp] theorem State.unfault_armed (src : Nat) : (s.unfault src).armed = s.armed := rfl
@[simp] theorem State.unfault_doms (src : Nat) : (s.unfault src).doms = s.doms := rfl
@[simp] theorem State.unfault_tc (src : Nat) : (s.unfault src).tc = s.tc := rfl
@[simp] theorem State.unfault_up (src : Nat) : (s.unfault src).up = s.up := rfl
@[simp] theorem State.unfault_idx (src : Nat) : (s.unfault src).idx = s.idx := rfl
@[simp] theorem State.unfault_timeline (src : Nat) : (s.unfault src).timeline = s.timeline := rfl
@[simp] theorem State.unfault_holds (src : Nat) : (s.unfault src).holds = s.holds := rfl
@[simp] theorem State.unfault_steps (src : Nat) : (s.unfault src).steps = s.steps := rfl
@[simp] theorem State.unfault_raises (src : Nat) : (s.unfault src).raises = s.raises := rfl
@[simp] theorem State.unfault_sess (src : Nat) : (s.unfault src).sess = s.sess := rfl
@[simp] theorem State.unfault_xfers (src : Nat) : (s.unfault src).xfers = s.xfers := rfl
@[simp] theorem State.unfault_ends (src : Nat) : (s.unfault src).ends = s.ends := rfl
@[simp] theorem State.unfault_can (src : Nat) : (s.unfault src).can = s.can := rfl
@[simp] theorem State.unfault_mbx (src : Nat) : (s.unfault src).mbx = s.mbx := rfl
@[simp] theorem State.unfault_mbxData (src : Nat) : (s.unfault src).mbxData = s.mbxData := rfl
@[simp] theorem State.unfault_adm (src : Nat) : (s.unfault src).adm = s.adm := rfl
@[simp] theorem State.unfault_issued (src : Nat) : (s.unfault src).issued = s.issued := rfl
@[simp] theorem State.unfault_out (src : Nat) : (s.unfault src).out = s.out := rfl
@[simp] theorem State.unfault_conv (src : Nat) : (s.unfault src).conv = s.conv := rfl
@[simp] theorem State.unfault_slices (src : Nat) : (s.unfault src).slices = s.slices := rfl
@[simp] theorem State.unfault_engs (src : Nat) : (s.unfault src).engs = s.engs := rfl
@[simp] theorem State.unfault_engSrcs (src : Nat) : (s.unfault src).engSrcs = s.engSrcs := rfl
@[simp] theorem State.unfault_newest (src : Nat) : (s.unfault src).newest = s.newest := rfl
@[simp] theorem State.unfault_trigs (src : Nat) : (s.unfault src).trigs = s.trigs := rfl
@[simp] theorem State.unfault_ctxs (src : Nat) : (s.unfault src).ctxs = s.ctxs := rfl
@[simp] theorem State.unfault_groups (src : Nat) : (s.unfault src).groups = s.groups := rfl
@[simp] theorem State.unfault_density (src : Nat) : (s.unfault src).density = s.density := rfl
@[simp] theorem State.unfault_table (src : Nat) : (s.unfault src).table = s.table := rfl
@[simp] theorem State.unfault_lines (src : Nat) : (s.unfault src).lines = s.lines := rfl
@[simp] theorem State.unfault_windows (src : Nat) : (s.unfault src).windows = s.windows := rfl
@[simp] theorem State.unfault_positions (src : Nat) : (s.unfault src).positions = s.positions := rfl
@[simp] theorem State.unfault_shadows (src : Nat) : (s.unfault src).shadows = s.shadows := rfl
@[simp] theorem State.unfault_spills (src : Nat) : (s.unfault src).spills = s.spills := rfl
@[simp] theorem State.unfault_bench (src : Nat) : (s.unfault src).bench = s.bench := rfl
@[simp] theorem State.unfault_chans (src : Nat) : (s.unfault src).chans = s.chans := rfl
@[simp] theorem State.unfault_slots (src : Nat) : (s.unfault src).slots = s.slots := rfl
@[simp] theorem State.unfault_ptp (src : Nat) : (s.unfault src).ptp = s.ptp := rfl
@[simp] theorem State.unfault_dmas (src : Nat) : (s.unfault src).dmas = s.dmas := rfl
@[simp] theorem State.unfault_streams (src : Nat) : (s.unfault src).streams = s.streams := rfl
@[simp] theorem State.unfault_drains (src : Nat) : (s.unfault src).drains = s.drains := rfl
@[simp] theorem State.unfault_nvSets (src : Nat) : (s.unfault src).nvSets = s.nvSets := rfl
@[simp] theorem State.unfault_nvCmds (src : Nat) : (s.unfault src).nvCmds = s.nvCmds := rfl
@[simp] theorem State.unfault_heads (src : Nat) : (s.unfault src).heads = s.heads := rfl
@[simp] theorem State.unfault_hk (src : Nat) : (s.unfault src).hk = s.hk := rfl
@[simp] theorem State.unfault_hkSlots (src : Nat) : (s.unfault src).hkSlots = s.hkSlots := rfl
@[simp] theorem State.unfault_pgs (src : Nat) : (s.unfault src).pgs = s.pgs := rfl
@[simp] theorem State.unfault_mem (src : Nat) : (s.unfault src).mem = s.mem := rfl
@[simp] theorem State.unfault_poison (src : Nat) : (s.unfault src).poison = s.poison := rfl
@[simp] theorem State.unfault_flash (src : Nat) : (s.unfault src).flash = s.flash := rfl
@[simp] theorem State.unfault_ledgerDue (src : Nat) : (s.unfault src).ledgerDue = s.ledgerDue := rfl
@[simp] theorem State.unfault_ceTimes (src : Nat) : (s.unfault src).ceTimes = s.ceTimes := rfl
@[simp] theorem State.unfault_migQueue (src : Nat) : (s.unfault src).migQueue = s.migQueue := rfl
@[simp] theorem State.unfault_activates (src : Nat) : (s.unfault src).activates = s.activates := rfl
@[simp] theorem State.unfault_pending (src : Nat) : (s.unfault src).pending = s.pending := rfl

/-! `setPoison` -/

@[simp] theorem State.setPoison_regs (line : Nat) (b : Bool) : (s.setPoison line b).regs = s.regs := rfl
@[simp] theorem State.setPoison_active (line : Nat) (b : Bool) : (s.setPoison line b).active = s.active := rfl
@[simp] theorem State.setPoison_lag (line : Nat) (b : Bool) : (s.setPoison line b).lag = s.lag := rfl
@[simp] theorem State.setPoison_staged (line : Nat) (b : Bool) : (s.setPoison line b).staged = s.staged := rfl
@[simp] theorem State.setPoison_awaiting (line : Nat) (b : Bool) : (s.setPoison line b).awaiting = s.awaiting := rfl
@[simp] theorem State.setPoison_armed (line : Nat) (b : Bool) : (s.setPoison line b).armed = s.armed := rfl
@[simp] theorem State.setPoison_doms (line : Nat) (b : Bool) : (s.setPoison line b).doms = s.doms := rfl
@[simp] theorem State.setPoison_hid (line : Nat) (b : Bool) : (s.setPoison line b).hid = s.hid := rfl
@[simp] theorem State.setPoison_tc (line : Nat) (b : Bool) : (s.setPoison line b).tc = s.tc := rfl
@[simp] theorem State.setPoison_up (line : Nat) (b : Bool) : (s.setPoison line b).up = s.up := rfl
@[simp] theorem State.setPoison_idx (line : Nat) (b : Bool) : (s.setPoison line b).idx = s.idx := rfl
@[simp] theorem State.setPoison_timeline (line : Nat) (b : Bool) : (s.setPoison line b).timeline = s.timeline := rfl
@[simp] theorem State.setPoison_holds (line : Nat) (b : Bool) : (s.setPoison line b).holds = s.holds := rfl
@[simp] theorem State.setPoison_steps (line : Nat) (b : Bool) : (s.setPoison line b).steps = s.steps := rfl
@[simp] theorem State.setPoison_raises (line : Nat) (b : Bool) : (s.setPoison line b).raises = s.raises := rfl
@[simp] theorem State.setPoison_sess (line : Nat) (b : Bool) : (s.setPoison line b).sess = s.sess := rfl
@[simp] theorem State.setPoison_xfers (line : Nat) (b : Bool) : (s.setPoison line b).xfers = s.xfers := rfl
@[simp] theorem State.setPoison_ends (line : Nat) (b : Bool) : (s.setPoison line b).ends = s.ends := rfl
@[simp] theorem State.setPoison_can (line : Nat) (b : Bool) : (s.setPoison line b).can = s.can := rfl
@[simp] theorem State.setPoison_mbx (line : Nat) (b : Bool) : (s.setPoison line b).mbx = s.mbx := rfl
@[simp] theorem State.setPoison_mbxData (line : Nat) (b : Bool) : (s.setPoison line b).mbxData = s.mbxData := rfl
@[simp] theorem State.setPoison_adm (line : Nat) (b : Bool) : (s.setPoison line b).adm = s.adm := rfl
@[simp] theorem State.setPoison_issued (line : Nat) (b : Bool) : (s.setPoison line b).issued = s.issued := rfl
@[simp] theorem State.setPoison_out (line : Nat) (b : Bool) : (s.setPoison line b).out = s.out := rfl
@[simp] theorem State.setPoison_conv (line : Nat) (b : Bool) : (s.setPoison line b).conv = s.conv := rfl
@[simp] theorem State.setPoison_slices (line : Nat) (b : Bool) : (s.setPoison line b).slices = s.slices := rfl
@[simp] theorem State.setPoison_engs (line : Nat) (b : Bool) : (s.setPoison line b).engs = s.engs := rfl
@[simp] theorem State.setPoison_engSrcs (line : Nat) (b : Bool) : (s.setPoison line b).engSrcs = s.engSrcs := rfl
@[simp] theorem State.setPoison_newest (line : Nat) (b : Bool) : (s.setPoison line b).newest = s.newest := rfl
@[simp] theorem State.setPoison_trigs (line : Nat) (b : Bool) : (s.setPoison line b).trigs = s.trigs := rfl
@[simp] theorem State.setPoison_ctxs (line : Nat) (b : Bool) : (s.setPoison line b).ctxs = s.ctxs := rfl
@[simp] theorem State.setPoison_groups (line : Nat) (b : Bool) : (s.setPoison line b).groups = s.groups := rfl
@[simp] theorem State.setPoison_density (line : Nat) (b : Bool) : (s.setPoison line b).density = s.density := rfl
@[simp] theorem State.setPoison_table (line : Nat) (b : Bool) : (s.setPoison line b).table = s.table := rfl
@[simp] theorem State.setPoison_lines (line : Nat) (b : Bool) : (s.setPoison line b).lines = s.lines := rfl
@[simp] theorem State.setPoison_windows (line : Nat) (b : Bool) : (s.setPoison line b).windows = s.windows := rfl
@[simp] theorem State.setPoison_positions (line : Nat) (b : Bool) : (s.setPoison line b).positions = s.positions := rfl
@[simp] theorem State.setPoison_shadows (line : Nat) (b : Bool) : (s.setPoison line b).shadows = s.shadows := rfl
@[simp] theorem State.setPoison_spills (line : Nat) (b : Bool) : (s.setPoison line b).spills = s.spills := rfl
@[simp] theorem State.setPoison_bench (line : Nat) (b : Bool) : (s.setPoison line b).bench = s.bench := rfl
@[simp] theorem State.setPoison_chans (line : Nat) (b : Bool) : (s.setPoison line b).chans = s.chans := rfl
@[simp] theorem State.setPoison_slots (line : Nat) (b : Bool) : (s.setPoison line b).slots = s.slots := rfl
@[simp] theorem State.setPoison_ptp (line : Nat) (b : Bool) : (s.setPoison line b).ptp = s.ptp := rfl
@[simp] theorem State.setPoison_dmas (line : Nat) (b : Bool) : (s.setPoison line b).dmas = s.dmas := rfl
@[simp] theorem State.setPoison_streams (line : Nat) (b : Bool) : (s.setPoison line b).streams = s.streams := rfl
@[simp] theorem State.setPoison_drains (line : Nat) (b : Bool) : (s.setPoison line b).drains = s.drains := rfl
@[simp] theorem State.setPoison_nvSets (line : Nat) (b : Bool) : (s.setPoison line b).nvSets = s.nvSets := rfl
@[simp] theorem State.setPoison_nvCmds (line : Nat) (b : Bool) : (s.setPoison line b).nvCmds = s.nvCmds := rfl
@[simp] theorem State.setPoison_heads (line : Nat) (b : Bool) : (s.setPoison line b).heads = s.heads := rfl
@[simp] theorem State.setPoison_hk (line : Nat) (b : Bool) : (s.setPoison line b).hk = s.hk := rfl
@[simp] theorem State.setPoison_hkSlots (line : Nat) (b : Bool) : (s.setPoison line b).hkSlots = s.hkSlots := rfl
@[simp] theorem State.setPoison_pgs (line : Nat) (b : Bool) : (s.setPoison line b).pgs = s.pgs := rfl
@[simp] theorem State.setPoison_mem (line : Nat) (b : Bool) : (s.setPoison line b).mem = s.mem := rfl
@[simp] theorem State.setPoison_flash (line : Nat) (b : Bool) : (s.setPoison line b).flash = s.flash := rfl
@[simp] theorem State.setPoison_ledgerDue (line : Nat) (b : Bool) : (s.setPoison line b).ledgerDue = s.ledgerDue := rfl
@[simp] theorem State.setPoison_ceTimes (line : Nat) (b : Bool) : (s.setPoison line b).ceTimes = s.ceTimes := rfl
@[simp] theorem State.setPoison_migQueue (line : Nat) (b : Bool) : (s.setPoison line b).migQueue = s.migQueue := rfl
@[simp] theorem State.setPoison_activates (line : Nat) (b : Bool) : (s.setPoison line b).activates = s.activates := rfl
@[simp] theorem State.setPoison_pending (line : Nat) (b : Bool) : (s.setPoison line b).pending = s.pending := rfl

/-! `markBlocks` -/

@[simp] theorem State.markBlocks_regs (b : Nat) : (s.markBlocks b).regs = s.regs := rfl
@[simp] theorem State.markBlocks_active (b : Nat) : (s.markBlocks b).active = s.active := rfl
@[simp] theorem State.markBlocks_lag (b : Nat) : (s.markBlocks b).lag = s.lag := rfl
@[simp] theorem State.markBlocks_staged (b : Nat) : (s.markBlocks b).staged = s.staged := rfl
@[simp] theorem State.markBlocks_awaiting (b : Nat) : (s.markBlocks b).awaiting = s.awaiting := rfl
@[simp] theorem State.markBlocks_armed (b : Nat) : (s.markBlocks b).armed = s.armed := rfl
@[simp] theorem State.markBlocks_doms (b : Nat) : (s.markBlocks b).doms = s.doms := rfl
@[simp] theorem State.markBlocks_hid (b : Nat) : (s.markBlocks b).hid = s.hid := rfl
@[simp] theorem State.markBlocks_tc (b : Nat) : (s.markBlocks b).tc = s.tc := rfl
@[simp] theorem State.markBlocks_up (b : Nat) : (s.markBlocks b).up = s.up := rfl
@[simp] theorem State.markBlocks_idx (b : Nat) : (s.markBlocks b).idx = s.idx := rfl
@[simp] theorem State.markBlocks_timeline (b : Nat) : (s.markBlocks b).timeline = s.timeline := rfl
@[simp] theorem State.markBlocks_holds (b : Nat) : (s.markBlocks b).holds = s.holds := rfl
@[simp] theorem State.markBlocks_steps (b : Nat) : (s.markBlocks b).steps = s.steps := rfl
@[simp] theorem State.markBlocks_raises (b : Nat) : (s.markBlocks b).raises = s.raises := rfl
@[simp] theorem State.markBlocks_sess (b : Nat) : (s.markBlocks b).sess = s.sess := rfl
@[simp] theorem State.markBlocks_xfers (b : Nat) : (s.markBlocks b).xfers = s.xfers := rfl
@[simp] theorem State.markBlocks_ends (b : Nat) : (s.markBlocks b).ends = s.ends := rfl
@[simp] theorem State.markBlocks_can (b : Nat) : (s.markBlocks b).can = s.can := rfl
@[simp] theorem State.markBlocks_mbx (b : Nat) : (s.markBlocks b).mbx = s.mbx := rfl
@[simp] theorem State.markBlocks_mbxData (b : Nat) : (s.markBlocks b).mbxData = s.mbxData := rfl
@[simp] theorem State.markBlocks_adm (b : Nat) : (s.markBlocks b).adm = s.adm := rfl
@[simp] theorem State.markBlocks_issued (b : Nat) : (s.markBlocks b).issued = s.issued := rfl
@[simp] theorem State.markBlocks_out (b : Nat) : (s.markBlocks b).out = s.out := rfl
@[simp] theorem State.markBlocks_slices (b : Nat) : (s.markBlocks b).slices = s.slices := rfl
@[simp] theorem State.markBlocks_engs (b : Nat) : (s.markBlocks b).engs = s.engs := rfl
@[simp] theorem State.markBlocks_engSrcs (b : Nat) : (s.markBlocks b).engSrcs = s.engSrcs := rfl
@[simp] theorem State.markBlocks_newest (b : Nat) : (s.markBlocks b).newest = s.newest := rfl
@[simp] theorem State.markBlocks_trigs (b : Nat) : (s.markBlocks b).trigs = s.trigs := rfl
@[simp] theorem State.markBlocks_ctxs (b : Nat) : (s.markBlocks b).ctxs = s.ctxs := rfl
@[simp] theorem State.markBlocks_groups (b : Nat) : (s.markBlocks b).groups = s.groups := rfl
@[simp] theorem State.markBlocks_density (b : Nat) : (s.markBlocks b).density = s.density := rfl
@[simp] theorem State.markBlocks_table (b : Nat) : (s.markBlocks b).table = s.table := rfl
@[simp] theorem State.markBlocks_lines (b : Nat) : (s.markBlocks b).lines = s.lines := rfl
@[simp] theorem State.markBlocks_windows (b : Nat) : (s.markBlocks b).windows = s.windows := rfl
@[simp] theorem State.markBlocks_positions (b : Nat) : (s.markBlocks b).positions = s.positions := rfl
@[simp] theorem State.markBlocks_shadows (b : Nat) : (s.markBlocks b).shadows = s.shadows := rfl
@[simp] theorem State.markBlocks_spills (b : Nat) : (s.markBlocks b).spills = s.spills := rfl
@[simp] theorem State.markBlocks_bench (b : Nat) : (s.markBlocks b).bench = s.bench := rfl
@[simp] theorem State.markBlocks_chans (b : Nat) : (s.markBlocks b).chans = s.chans := rfl
@[simp] theorem State.markBlocks_slots (b : Nat) : (s.markBlocks b).slots = s.slots := rfl
@[simp] theorem State.markBlocks_ptp (b : Nat) : (s.markBlocks b).ptp = s.ptp := rfl
@[simp] theorem State.markBlocks_dmas (b : Nat) : (s.markBlocks b).dmas = s.dmas := rfl
@[simp] theorem State.markBlocks_streams (b : Nat) : (s.markBlocks b).streams = s.streams := rfl
@[simp] theorem State.markBlocks_drains (b : Nat) : (s.markBlocks b).drains = s.drains := rfl
@[simp] theorem State.markBlocks_nvSets (b : Nat) : (s.markBlocks b).nvSets = s.nvSets := rfl
@[simp] theorem State.markBlocks_nvCmds (b : Nat) : (s.markBlocks b).nvCmds = s.nvCmds := rfl
@[simp] theorem State.markBlocks_heads (b : Nat) : (s.markBlocks b).heads = s.heads := rfl
@[simp] theorem State.markBlocks_hk (b : Nat) : (s.markBlocks b).hk = s.hk := rfl
@[simp] theorem State.markBlocks_hkSlots (b : Nat) : (s.markBlocks b).hkSlots = s.hkSlots := rfl
@[simp] theorem State.markBlocks_pgs (b : Nat) : (s.markBlocks b).pgs = s.pgs := rfl
@[simp] theorem State.markBlocks_mem (b : Nat) : (s.markBlocks b).mem = s.mem := rfl
@[simp] theorem State.markBlocks_poison (b : Nat) : (s.markBlocks b).poison = s.poison := rfl
@[simp] theorem State.markBlocks_flash (b : Nat) : (s.markBlocks b).flash = s.flash := rfl
@[simp] theorem State.markBlocks_ledgerDue (b : Nat) : (s.markBlocks b).ledgerDue = s.ledgerDue := rfl
@[simp] theorem State.markBlocks_ceTimes (b : Nat) : (s.markBlocks b).ceTimes = s.ceTimes := rfl
@[simp] theorem State.markBlocks_migQueue (b : Nat) : (s.markBlocks b).migQueue = s.migQueue := rfl
@[simp] theorem State.markBlocks_activates (b : Nat) : (s.markBlocks b).activates = s.activates := rfl
@[simp] theorem State.markBlocks_pending (b : Nat) : (s.markBlocks b).pending = s.pending := rfl

/-! `markWithin` -/

@[simp] theorem State.markWithin_regs : (s.markWithin).regs = s.regs := rfl
@[simp] theorem State.markWithin_active : (s.markWithin).active = s.active := rfl
@[simp] theorem State.markWithin_lag : (s.markWithin).lag = s.lag := rfl
@[simp] theorem State.markWithin_staged : (s.markWithin).staged = s.staged := rfl
@[simp] theorem State.markWithin_awaiting : (s.markWithin).awaiting = s.awaiting := rfl
@[simp] theorem State.markWithin_armed : (s.markWithin).armed = s.armed := rfl
@[simp] theorem State.markWithin_doms : (s.markWithin).doms = s.doms := rfl
@[simp] theorem State.markWithin_hid : (s.markWithin).hid = s.hid := rfl
@[simp] theorem State.markWithin_tc : (s.markWithin).tc = s.tc := rfl
@[simp] theorem State.markWithin_up : (s.markWithin).up = s.up := rfl
@[simp] theorem State.markWithin_idx : (s.markWithin).idx = s.idx := rfl
@[simp] theorem State.markWithin_timeline : (s.markWithin).timeline = s.timeline := rfl
@[simp] theorem State.markWithin_holds : (s.markWithin).holds = s.holds := rfl
@[simp] theorem State.markWithin_steps : (s.markWithin).steps = s.steps := rfl
@[simp] theorem State.markWithin_raises : (s.markWithin).raises = s.raises := rfl
@[simp] theorem State.markWithin_sess : (s.markWithin).sess = s.sess := rfl
@[simp] theorem State.markWithin_xfers : (s.markWithin).xfers = s.xfers := rfl
@[simp] theorem State.markWithin_ends : (s.markWithin).ends = s.ends := rfl
@[simp] theorem State.markWithin_can : (s.markWithin).can = s.can := rfl
@[simp] theorem State.markWithin_mbx : (s.markWithin).mbx = s.mbx := rfl
@[simp] theorem State.markWithin_mbxData : (s.markWithin).mbxData = s.mbxData := rfl
@[simp] theorem State.markWithin_adm : (s.markWithin).adm = s.adm := rfl
@[simp] theorem State.markWithin_issued : (s.markWithin).issued = s.issued := rfl
@[simp] theorem State.markWithin_out : (s.markWithin).out = s.out := rfl
@[simp] theorem State.markWithin_slices : (s.markWithin).slices = s.slices := rfl
@[simp] theorem State.markWithin_engs : (s.markWithin).engs = s.engs := rfl
@[simp] theorem State.markWithin_engSrcs : (s.markWithin).engSrcs = s.engSrcs := rfl
@[simp] theorem State.markWithin_newest : (s.markWithin).newest = s.newest := rfl
@[simp] theorem State.markWithin_trigs : (s.markWithin).trigs = s.trigs := rfl
@[simp] theorem State.markWithin_ctxs : (s.markWithin).ctxs = s.ctxs := rfl
@[simp] theorem State.markWithin_groups : (s.markWithin).groups = s.groups := rfl
@[simp] theorem State.markWithin_density : (s.markWithin).density = s.density := rfl
@[simp] theorem State.markWithin_table : (s.markWithin).table = s.table := rfl
@[simp] theorem State.markWithin_lines : (s.markWithin).lines = s.lines := rfl
@[simp] theorem State.markWithin_windows : (s.markWithin).windows = s.windows := rfl
@[simp] theorem State.markWithin_positions : (s.markWithin).positions = s.positions := rfl
@[simp] theorem State.markWithin_shadows : (s.markWithin).shadows = s.shadows := rfl
@[simp] theorem State.markWithin_spills : (s.markWithin).spills = s.spills := rfl
@[simp] theorem State.markWithin_bench : (s.markWithin).bench = s.bench := rfl
@[simp] theorem State.markWithin_chans : (s.markWithin).chans = s.chans := rfl
@[simp] theorem State.markWithin_slots : (s.markWithin).slots = s.slots := rfl
@[simp] theorem State.markWithin_ptp : (s.markWithin).ptp = s.ptp := rfl
@[simp] theorem State.markWithin_dmas : (s.markWithin).dmas = s.dmas := rfl
@[simp] theorem State.markWithin_streams : (s.markWithin).streams = s.streams := rfl
@[simp] theorem State.markWithin_drains : (s.markWithin).drains = s.drains := rfl
@[simp] theorem State.markWithin_nvSets : (s.markWithin).nvSets = s.nvSets := rfl
@[simp] theorem State.markWithin_nvCmds : (s.markWithin).nvCmds = s.nvCmds := rfl
@[simp] theorem State.markWithin_heads : (s.markWithin).heads = s.heads := rfl
@[simp] theorem State.markWithin_hk : (s.markWithin).hk = s.hk := rfl
@[simp] theorem State.markWithin_hkSlots : (s.markWithin).hkSlots = s.hkSlots := rfl
@[simp] theorem State.markWithin_pgs : (s.markWithin).pgs = s.pgs := rfl
@[simp] theorem State.markWithin_mem : (s.markWithin).mem = s.mem := rfl
@[simp] theorem State.markWithin_poison : (s.markWithin).poison = s.poison := rfl
@[simp] theorem State.markWithin_flash : (s.markWithin).flash = s.flash := rfl
@[simp] theorem State.markWithin_ledgerDue : (s.markWithin).ledgerDue = s.ledgerDue := rfl
@[simp] theorem State.markWithin_ceTimes : (s.markWithin).ceTimes = s.ceTimes := rfl
@[simp] theorem State.markWithin_migQueue : (s.markWithin).migQueue = s.migQueue := rfl
@[simp] theorem State.markWithin_activates : (s.markWithin).activates = s.activates := rfl
@[simp] theorem State.markWithin_pending : (s.markWithin).pending = s.pending := rfl

/-! `markUntil` -/

@[simp] theorem State.markUntil_regs (b : Nat) : (s.markUntil b).regs = s.regs := rfl
@[simp] theorem State.markUntil_active (b : Nat) : (s.markUntil b).active = s.active := rfl
@[simp] theorem State.markUntil_lag (b : Nat) : (s.markUntil b).lag = s.lag := rfl
@[simp] theorem State.markUntil_staged (b : Nat) : (s.markUntil b).staged = s.staged := rfl
@[simp] theorem State.markUntil_awaiting (b : Nat) : (s.markUntil b).awaiting = s.awaiting := rfl
@[simp] theorem State.markUntil_armed (b : Nat) : (s.markUntil b).armed = s.armed := rfl
@[simp] theorem State.markUntil_doms (b : Nat) : (s.markUntil b).doms = s.doms := rfl
@[simp] theorem State.markUntil_hid (b : Nat) : (s.markUntil b).hid = s.hid := rfl
@[simp] theorem State.markUntil_tc (b : Nat) : (s.markUntil b).tc = s.tc := rfl
@[simp] theorem State.markUntil_up (b : Nat) : (s.markUntil b).up = s.up := rfl
@[simp] theorem State.markUntil_idx (b : Nat) : (s.markUntil b).idx = s.idx := rfl
@[simp] theorem State.markUntil_timeline (b : Nat) : (s.markUntil b).timeline = s.timeline := rfl
@[simp] theorem State.markUntil_holds (b : Nat) : (s.markUntil b).holds = s.holds := rfl
@[simp] theorem State.markUntil_steps (b : Nat) : (s.markUntil b).steps = s.steps := rfl
@[simp] theorem State.markUntil_raises (b : Nat) : (s.markUntil b).raises = s.raises := rfl
@[simp] theorem State.markUntil_sess (b : Nat) : (s.markUntil b).sess = s.sess := rfl
@[simp] theorem State.markUntil_xfers (b : Nat) : (s.markUntil b).xfers = s.xfers := rfl
@[simp] theorem State.markUntil_ends (b : Nat) : (s.markUntil b).ends = s.ends := rfl
@[simp] theorem State.markUntil_can (b : Nat) : (s.markUntil b).can = s.can := rfl
@[simp] theorem State.markUntil_mbx (b : Nat) : (s.markUntil b).mbx = s.mbx := rfl
@[simp] theorem State.markUntil_mbxData (b : Nat) : (s.markUntil b).mbxData = s.mbxData := rfl
@[simp] theorem State.markUntil_adm (b : Nat) : (s.markUntil b).adm = s.adm := rfl
@[simp] theorem State.markUntil_issued (b : Nat) : (s.markUntil b).issued = s.issued := rfl
@[simp] theorem State.markUntil_out (b : Nat) : (s.markUntil b).out = s.out := rfl
@[simp] theorem State.markUntil_slices (b : Nat) : (s.markUntil b).slices = s.slices := rfl
@[simp] theorem State.markUntil_engs (b : Nat) : (s.markUntil b).engs = s.engs := rfl
@[simp] theorem State.markUntil_engSrcs (b : Nat) : (s.markUntil b).engSrcs = s.engSrcs := rfl
@[simp] theorem State.markUntil_newest (b : Nat) : (s.markUntil b).newest = s.newest := rfl
@[simp] theorem State.markUntil_trigs (b : Nat) : (s.markUntil b).trigs = s.trigs := rfl
@[simp] theorem State.markUntil_ctxs (b : Nat) : (s.markUntil b).ctxs = s.ctxs := rfl
@[simp] theorem State.markUntil_groups (b : Nat) : (s.markUntil b).groups = s.groups := rfl
@[simp] theorem State.markUntil_density (b : Nat) : (s.markUntil b).density = s.density := rfl
@[simp] theorem State.markUntil_table (b : Nat) : (s.markUntil b).table = s.table := rfl
@[simp] theorem State.markUntil_lines (b : Nat) : (s.markUntil b).lines = s.lines := rfl
@[simp] theorem State.markUntil_windows (b : Nat) : (s.markUntil b).windows = s.windows := rfl
@[simp] theorem State.markUntil_positions (b : Nat) : (s.markUntil b).positions = s.positions := rfl
@[simp] theorem State.markUntil_shadows (b : Nat) : (s.markUntil b).shadows = s.shadows := rfl
@[simp] theorem State.markUntil_spills (b : Nat) : (s.markUntil b).spills = s.spills := rfl
@[simp] theorem State.markUntil_bench (b : Nat) : (s.markUntil b).bench = s.bench := rfl
@[simp] theorem State.markUntil_chans (b : Nat) : (s.markUntil b).chans = s.chans := rfl
@[simp] theorem State.markUntil_slots (b : Nat) : (s.markUntil b).slots = s.slots := rfl
@[simp] theorem State.markUntil_ptp (b : Nat) : (s.markUntil b).ptp = s.ptp := rfl
@[simp] theorem State.markUntil_dmas (b : Nat) : (s.markUntil b).dmas = s.dmas := rfl
@[simp] theorem State.markUntil_streams (b : Nat) : (s.markUntil b).streams = s.streams := rfl
@[simp] theorem State.markUntil_drains (b : Nat) : (s.markUntil b).drains = s.drains := rfl
@[simp] theorem State.markUntil_nvSets (b : Nat) : (s.markUntil b).nvSets = s.nvSets := rfl
@[simp] theorem State.markUntil_nvCmds (b : Nat) : (s.markUntil b).nvCmds = s.nvCmds := rfl
@[simp] theorem State.markUntil_heads (b : Nat) : (s.markUntil b).heads = s.heads := rfl
@[simp] theorem State.markUntil_hk (b : Nat) : (s.markUntil b).hk = s.hk := rfl
@[simp] theorem State.markUntil_hkSlots (b : Nat) : (s.markUntil b).hkSlots = s.hkSlots := rfl
@[simp] theorem State.markUntil_pgs (b : Nat) : (s.markUntil b).pgs = s.pgs := rfl
@[simp] theorem State.markUntil_mem (b : Nat) : (s.markUntil b).mem = s.mem := rfl
@[simp] theorem State.markUntil_poison (b : Nat) : (s.markUntil b).poison = s.poison := rfl
@[simp] theorem State.markUntil_flash (b : Nat) : (s.markUntil b).flash = s.flash := rfl
@[simp] theorem State.markUntil_ledgerDue (b : Nat) : (s.markUntil b).ledgerDue = s.ledgerDue := rfl
@[simp] theorem State.markUntil_ceTimes (b : Nat) : (s.markUntil b).ceTimes = s.ceTimes := rfl
@[simp] theorem State.markUntil_migQueue (b : Nat) : (s.markUntil b).migQueue = s.migQueue := rfl
@[simp] theorem State.markUntil_activates (b : Nat) : (s.markUntil b).activates = s.activates := rfl
@[simp] theorem State.markUntil_pending (b : Nat) : (s.markUntil b).pending = s.pending := rfl

/-! `eachConv` -/

@[simp] theorem State.eachConv_regs (f : Conv → Conv) : (s.eachConv f).regs = s.regs := rfl
@[simp] theorem State.eachConv_active (f : Conv → Conv) : (s.eachConv f).active = s.active := rfl
@[simp] theorem State.eachConv_lag (f : Conv → Conv) : (s.eachConv f).lag = s.lag := rfl
@[simp] theorem State.eachConv_staged (f : Conv → Conv) : (s.eachConv f).staged = s.staged := rfl
@[simp] theorem State.eachConv_awaiting (f : Conv → Conv) : (s.eachConv f).awaiting = s.awaiting := rfl
@[simp] theorem State.eachConv_armed (f : Conv → Conv) : (s.eachConv f).armed = s.armed := rfl
@[simp] theorem State.eachConv_doms (f : Conv → Conv) : (s.eachConv f).doms = s.doms := rfl
@[simp] theorem State.eachConv_hid (f : Conv → Conv) : (s.eachConv f).hid = s.hid := rfl
@[simp] theorem State.eachConv_tc (f : Conv → Conv) : (s.eachConv f).tc = s.tc := rfl
@[simp] theorem State.eachConv_up (f : Conv → Conv) : (s.eachConv f).up = s.up := rfl
@[simp] theorem State.eachConv_idx (f : Conv → Conv) : (s.eachConv f).idx = s.idx := rfl
@[simp] theorem State.eachConv_timeline (f : Conv → Conv) : (s.eachConv f).timeline = s.timeline := rfl
@[simp] theorem State.eachConv_holds (f : Conv → Conv) : (s.eachConv f).holds = s.holds := rfl
@[simp] theorem State.eachConv_steps (f : Conv → Conv) : (s.eachConv f).steps = s.steps := rfl
@[simp] theorem State.eachConv_raises (f : Conv → Conv) : (s.eachConv f).raises = s.raises := rfl
@[simp] theorem State.eachConv_sess (f : Conv → Conv) : (s.eachConv f).sess = s.sess := rfl
@[simp] theorem State.eachConv_xfers (f : Conv → Conv) : (s.eachConv f).xfers = s.xfers := rfl
@[simp] theorem State.eachConv_ends (f : Conv → Conv) : (s.eachConv f).ends = s.ends := rfl
@[simp] theorem State.eachConv_can (f : Conv → Conv) : (s.eachConv f).can = s.can := rfl
@[simp] theorem State.eachConv_mbx (f : Conv → Conv) : (s.eachConv f).mbx = s.mbx := rfl
@[simp] theorem State.eachConv_mbxData (f : Conv → Conv) : (s.eachConv f).mbxData = s.mbxData := rfl
@[simp] theorem State.eachConv_adm (f : Conv → Conv) : (s.eachConv f).adm = s.adm := rfl
@[simp] theorem State.eachConv_issued (f : Conv → Conv) : (s.eachConv f).issued = s.issued := rfl
@[simp] theorem State.eachConv_out (f : Conv → Conv) : (s.eachConv f).out = s.out := rfl
@[simp] theorem State.eachConv_slices (f : Conv → Conv) : (s.eachConv f).slices = s.slices := rfl
@[simp] theorem State.eachConv_engs (f : Conv → Conv) : (s.eachConv f).engs = s.engs := rfl
@[simp] theorem State.eachConv_engSrcs (f : Conv → Conv) : (s.eachConv f).engSrcs = s.engSrcs := rfl
@[simp] theorem State.eachConv_newest (f : Conv → Conv) : (s.eachConv f).newest = s.newest := rfl
@[simp] theorem State.eachConv_trigs (f : Conv → Conv) : (s.eachConv f).trigs = s.trigs := rfl
@[simp] theorem State.eachConv_ctxs (f : Conv → Conv) : (s.eachConv f).ctxs = s.ctxs := rfl
@[simp] theorem State.eachConv_groups (f : Conv → Conv) : (s.eachConv f).groups = s.groups := rfl
@[simp] theorem State.eachConv_density (f : Conv → Conv) : (s.eachConv f).density = s.density := rfl
@[simp] theorem State.eachConv_table (f : Conv → Conv) : (s.eachConv f).table = s.table := rfl
@[simp] theorem State.eachConv_lines (f : Conv → Conv) : (s.eachConv f).lines = s.lines := rfl
@[simp] theorem State.eachConv_windows (f : Conv → Conv) : (s.eachConv f).windows = s.windows := rfl
@[simp] theorem State.eachConv_positions (f : Conv → Conv) : (s.eachConv f).positions = s.positions := rfl
@[simp] theorem State.eachConv_shadows (f : Conv → Conv) : (s.eachConv f).shadows = s.shadows := rfl
@[simp] theorem State.eachConv_spills (f : Conv → Conv) : (s.eachConv f).spills = s.spills := rfl
@[simp] theorem State.eachConv_bench (f : Conv → Conv) : (s.eachConv f).bench = s.bench := rfl
@[simp] theorem State.eachConv_chans (f : Conv → Conv) : (s.eachConv f).chans = s.chans := rfl
@[simp] theorem State.eachConv_slots (f : Conv → Conv) : (s.eachConv f).slots = s.slots := rfl
@[simp] theorem State.eachConv_ptp (f : Conv → Conv) : (s.eachConv f).ptp = s.ptp := rfl
@[simp] theorem State.eachConv_dmas (f : Conv → Conv) : (s.eachConv f).dmas = s.dmas := rfl
@[simp] theorem State.eachConv_streams (f : Conv → Conv) : (s.eachConv f).streams = s.streams := rfl
@[simp] theorem State.eachConv_drains (f : Conv → Conv) : (s.eachConv f).drains = s.drains := rfl
@[simp] theorem State.eachConv_nvSets (f : Conv → Conv) : (s.eachConv f).nvSets = s.nvSets := rfl
@[simp] theorem State.eachConv_nvCmds (f : Conv → Conv) : (s.eachConv f).nvCmds = s.nvCmds := rfl
@[simp] theorem State.eachConv_heads (f : Conv → Conv) : (s.eachConv f).heads = s.heads := rfl
@[simp] theorem State.eachConv_hk (f : Conv → Conv) : (s.eachConv f).hk = s.hk := rfl
@[simp] theorem State.eachConv_hkSlots (f : Conv → Conv) : (s.eachConv f).hkSlots = s.hkSlots := rfl
@[simp] theorem State.eachConv_pgs (f : Conv → Conv) : (s.eachConv f).pgs = s.pgs := rfl
@[simp] theorem State.eachConv_mem (f : Conv → Conv) : (s.eachConv f).mem = s.mem := rfl
@[simp] theorem State.eachConv_poison (f : Conv → Conv) : (s.eachConv f).poison = s.poison := rfl
@[simp] theorem State.eachConv_flash (f : Conv → Conv) : (s.eachConv f).flash = s.flash := rfl
@[simp] theorem State.eachConv_ledgerDue (f : Conv → Conv) : (s.eachConv f).ledgerDue = s.ledgerDue := rfl
@[simp] theorem State.eachConv_ceTimes (f : Conv → Conv) : (s.eachConv f).ceTimes = s.ceTimes := rfl
@[simp] theorem State.eachConv_migQueue (f : Conv → Conv) : (s.eachConv f).migQueue = s.migQueue := rfl
@[simp] theorem State.eachConv_activates (f : Conv → Conv) : (s.eachConv f).activates = s.activates := rfl
@[simp] theorem State.eachConv_pending (f : Conv → Conv) : (s.eachConv f).pending = s.pending := rfl

/-! `anchor` -/

@[simp] theorem State.anchor_regs : (s.anchor).regs = s.regs := rfl
@[simp] theorem State.anchor_active : (s.anchor).active = s.active := rfl
@[simp] theorem State.anchor_lag : (s.anchor).lag = s.lag := rfl
@[simp] theorem State.anchor_staged : (s.anchor).staged = s.staged := rfl
@[simp] theorem State.anchor_awaiting : (s.anchor).awaiting = s.awaiting := rfl
@[simp] theorem State.anchor_armed : (s.anchor).armed = s.armed := rfl
@[simp] theorem State.anchor_doms : (s.anchor).doms = s.doms := rfl
@[simp] theorem State.anchor_hid : (s.anchor).hid = s.hid := rfl
@[simp] theorem State.anchor_tc : (s.anchor).tc = s.tc := rfl
@[simp] theorem State.anchor_up : (s.anchor).up = s.up := rfl
@[simp] theorem State.anchor_idx : (s.anchor).idx = s.idx := rfl
@[simp] theorem State.anchor_holds : (s.anchor).holds = s.holds := rfl
@[simp] theorem State.anchor_steps : (s.anchor).steps = s.steps := rfl
@[simp] theorem State.anchor_raises : (s.anchor).raises = s.raises := rfl
@[simp] theorem State.anchor_sess : (s.anchor).sess = s.sess := rfl
@[simp] theorem State.anchor_xfers : (s.anchor).xfers = s.xfers := rfl
@[simp] theorem State.anchor_ends : (s.anchor).ends = s.ends := rfl
@[simp] theorem State.anchor_can : (s.anchor).can = s.can := rfl
@[simp] theorem State.anchor_mbx : (s.anchor).mbx = s.mbx := rfl
@[simp] theorem State.anchor_mbxData : (s.anchor).mbxData = s.mbxData := rfl
@[simp] theorem State.anchor_adm : (s.anchor).adm = s.adm := rfl
@[simp] theorem State.anchor_issued : (s.anchor).issued = s.issued := rfl
@[simp] theorem State.anchor_out : (s.anchor).out = s.out := rfl
@[simp] theorem State.anchor_conv : (s.anchor).conv = s.conv := rfl
@[simp] theorem State.anchor_slices : (s.anchor).slices = s.slices := rfl
@[simp] theorem State.anchor_engs : (s.anchor).engs = s.engs := rfl
@[simp] theorem State.anchor_engSrcs : (s.anchor).engSrcs = s.engSrcs := rfl
@[simp] theorem State.anchor_newest : (s.anchor).newest = s.newest := rfl
@[simp] theorem State.anchor_trigs : (s.anchor).trigs = s.trigs := rfl
@[simp] theorem State.anchor_ctxs : (s.anchor).ctxs = s.ctxs := rfl
@[simp] theorem State.anchor_groups : (s.anchor).groups = s.groups := rfl
@[simp] theorem State.anchor_density : (s.anchor).density = s.density := rfl
@[simp] theorem State.anchor_table : (s.anchor).table = s.table := rfl
@[simp] theorem State.anchor_lines : (s.anchor).lines = s.lines := rfl
@[simp] theorem State.anchor_windows : (s.anchor).windows = s.windows := rfl
@[simp] theorem State.anchor_positions : (s.anchor).positions = s.positions := rfl
@[simp] theorem State.anchor_shadows : (s.anchor).shadows = s.shadows := rfl
@[simp] theorem State.anchor_spills : (s.anchor).spills = s.spills := rfl
@[simp] theorem State.anchor_bench : (s.anchor).bench = s.bench := rfl
@[simp] theorem State.anchor_chans : (s.anchor).chans = s.chans := rfl
@[simp] theorem State.anchor_slots : (s.anchor).slots = s.slots := rfl
@[simp] theorem State.anchor_ptp : (s.anchor).ptp = s.ptp := rfl
@[simp] theorem State.anchor_dmas : (s.anchor).dmas = s.dmas := rfl
@[simp] theorem State.anchor_streams : (s.anchor).streams = s.streams := rfl
@[simp] theorem State.anchor_drains : (s.anchor).drains = s.drains := rfl
@[simp] theorem State.anchor_nvSets : (s.anchor).nvSets = s.nvSets := rfl
@[simp] theorem State.anchor_nvCmds : (s.anchor).nvCmds = s.nvCmds := rfl
@[simp] theorem State.anchor_heads : (s.anchor).heads = s.heads := rfl
@[simp] theorem State.anchor_hk : (s.anchor).hk = s.hk := rfl
@[simp] theorem State.anchor_hkSlots : (s.anchor).hkSlots = s.hkSlots := rfl
@[simp] theorem State.anchor_pgs : (s.anchor).pgs = s.pgs := rfl
@[simp] theorem State.anchor_mem : (s.anchor).mem = s.mem := rfl
@[simp] theorem State.anchor_poison : (s.anchor).poison = s.poison := rfl
@[simp] theorem State.anchor_flash : (s.anchor).flash = s.flash := rfl
@[simp] theorem State.anchor_ledgerDue : (s.anchor).ledgerDue = s.ledgerDue := rfl
@[simp] theorem State.anchor_ceTimes : (s.anchor).ceTimes = s.ceTimes := rfl
@[simp] theorem State.anchor_migQueue : (s.anchor).migQueue = s.migQueue := rfl
@[simp] theorem State.anchor_activates : (s.anchor).activates = s.activates := rfl
@[simp] theorem State.anchor_pending : (s.anchor).pending = s.pending := rfl

/-! `moveTime` -/

@[simp] theorem State.moveTime_regs (tc : Nat) : (s.moveTime tc).regs = s.regs := rfl
@[simp] theorem State.moveTime_active (tc : Nat) : (s.moveTime tc).active = s.active := rfl
@[simp] theorem State.moveTime_lag (tc : Nat) : (s.moveTime tc).lag = s.lag := rfl
@[simp] theorem State.moveTime_staged (tc : Nat) : (s.moveTime tc).staged = s.staged := rfl
@[simp] theorem State.moveTime_awaiting (tc : Nat) : (s.moveTime tc).awaiting = s.awaiting := rfl
@[simp] theorem State.moveTime_armed (tc : Nat) : (s.moveTime tc).armed = s.armed := rfl
@[simp] theorem State.moveTime_doms (tc : Nat) : (s.moveTime tc).doms = s.doms := rfl
@[simp] theorem State.moveTime_hid (tc : Nat) : (s.moveTime tc).hid = s.hid := rfl
@[simp] theorem State.moveTime_up (tc : Nat) : (s.moveTime tc).up = s.up := rfl
@[simp] theorem State.moveTime_idx (tc : Nat) : (s.moveTime tc).idx = s.idx := rfl
@[simp] theorem State.moveTime_steps (tc : Nat) : (s.moveTime tc).steps = s.steps := rfl
@[simp] theorem State.moveTime_raises (tc : Nat) : (s.moveTime tc).raises = s.raises := rfl
@[simp] theorem State.moveTime_sess (tc : Nat) : (s.moveTime tc).sess = s.sess := rfl
@[simp] theorem State.moveTime_xfers (tc : Nat) : (s.moveTime tc).xfers = s.xfers := rfl
@[simp] theorem State.moveTime_ends (tc : Nat) : (s.moveTime tc).ends = s.ends := rfl
@[simp] theorem State.moveTime_can (tc : Nat) : (s.moveTime tc).can = s.can := rfl
@[simp] theorem State.moveTime_mbx (tc : Nat) : (s.moveTime tc).mbx = s.mbx := rfl
@[simp] theorem State.moveTime_mbxData (tc : Nat) : (s.moveTime tc).mbxData = s.mbxData := rfl
@[simp] theorem State.moveTime_adm (tc : Nat) : (s.moveTime tc).adm = s.adm := rfl
@[simp] theorem State.moveTime_issued (tc : Nat) : (s.moveTime tc).issued = s.issued := rfl
@[simp] theorem State.moveTime_out (tc : Nat) : (s.moveTime tc).out = s.out := rfl
@[simp] theorem State.moveTime_conv (tc : Nat) : (s.moveTime tc).conv = s.conv := rfl
@[simp] theorem State.moveTime_slices (tc : Nat) : (s.moveTime tc).slices = s.slices := rfl
@[simp] theorem State.moveTime_engs (tc : Nat) : (s.moveTime tc).engs = s.engs := rfl
@[simp] theorem State.moveTime_engSrcs (tc : Nat) : (s.moveTime tc).engSrcs = s.engSrcs := rfl
@[simp] theorem State.moveTime_newest (tc : Nat) : (s.moveTime tc).newest = s.newest := rfl
@[simp] theorem State.moveTime_trigs (tc : Nat) : (s.moveTime tc).trigs = s.trigs := rfl
@[simp] theorem State.moveTime_ctxs (tc : Nat) : (s.moveTime tc).ctxs = s.ctxs := rfl
@[simp] theorem State.moveTime_groups (tc : Nat) : (s.moveTime tc).groups = s.groups := rfl
@[simp] theorem State.moveTime_density (tc : Nat) : (s.moveTime tc).density = s.density := rfl
@[simp] theorem State.moveTime_table (tc : Nat) : (s.moveTime tc).table = s.table := rfl
@[simp] theorem State.moveTime_lines (tc : Nat) : (s.moveTime tc).lines = s.lines := rfl
@[simp] theorem State.moveTime_windows (tc : Nat) : (s.moveTime tc).windows = s.windows := rfl
@[simp] theorem State.moveTime_positions (tc : Nat) : (s.moveTime tc).positions = s.positions := rfl
@[simp] theorem State.moveTime_shadows (tc : Nat) : (s.moveTime tc).shadows = s.shadows := rfl
@[simp] theorem State.moveTime_spills (tc : Nat) : (s.moveTime tc).spills = s.spills := rfl
@[simp] theorem State.moveTime_bench (tc : Nat) : (s.moveTime tc).bench = s.bench := rfl
@[simp] theorem State.moveTime_chans (tc : Nat) : (s.moveTime tc).chans = s.chans := rfl
@[simp] theorem State.moveTime_slots (tc : Nat) : (s.moveTime tc).slots = s.slots := rfl
@[simp] theorem State.moveTime_ptp (tc : Nat) : (s.moveTime tc).ptp = s.ptp := rfl
@[simp] theorem State.moveTime_dmas (tc : Nat) : (s.moveTime tc).dmas = s.dmas := rfl
@[simp] theorem State.moveTime_streams (tc : Nat) : (s.moveTime tc).streams = s.streams := rfl
@[simp] theorem State.moveTime_drains (tc : Nat) : (s.moveTime tc).drains = s.drains := rfl
@[simp] theorem State.moveTime_nvSets (tc : Nat) : (s.moveTime tc).nvSets = s.nvSets := rfl
@[simp] theorem State.moveTime_nvCmds (tc : Nat) : (s.moveTime tc).nvCmds = s.nvCmds := rfl
@[simp] theorem State.moveTime_heads (tc : Nat) : (s.moveTime tc).heads = s.heads := rfl
@[simp] theorem State.moveTime_hk (tc : Nat) : (s.moveTime tc).hk = s.hk := rfl
@[simp] theorem State.moveTime_hkSlots (tc : Nat) : (s.moveTime tc).hkSlots = s.hkSlots := rfl
@[simp] theorem State.moveTime_pgs (tc : Nat) : (s.moveTime tc).pgs = s.pgs := rfl
@[simp] theorem State.moveTime_mem (tc : Nat) : (s.moveTime tc).mem = s.mem := rfl
@[simp] theorem State.moveTime_poison (tc : Nat) : (s.moveTime tc).poison = s.poison := rfl
@[simp] theorem State.moveTime_flash (tc : Nat) : (s.moveTime tc).flash = s.flash := rfl
@[simp] theorem State.moveTime_ledgerDue (tc : Nat) : (s.moveTime tc).ledgerDue = s.ledgerDue := rfl
@[simp] theorem State.moveTime_ceTimes (tc : Nat) : (s.moveTime tc).ceTimes = s.ceTimes := rfl
@[simp] theorem State.moveTime_migQueue (tc : Nat) : (s.moveTime tc).migQueue = s.migQueue := rfl
@[simp] theorem State.moveTime_activates (tc : Nat) : (s.moveTime tc).activates = s.activates := rfl
@[simp] theorem State.moveTime_pending (tc : Nat) : (s.moveTime tc).pending = s.pending := rfl

/-! `withQueue` -/

@[simp] theorem State.withQueue_regs (q : List Instr) : (s.withQueue q).regs = s.regs := rfl
@[simp] theorem State.withQueue_active (q : List Instr) : (s.withQueue q).active = s.active := rfl
@[simp] theorem State.withQueue_lag (q : List Instr) : (s.withQueue q).lag = s.lag := rfl
@[simp] theorem State.withQueue_staged (q : List Instr) : (s.withQueue q).staged = s.staged := rfl
@[simp] theorem State.withQueue_awaiting (q : List Instr) : (s.withQueue q).awaiting = s.awaiting := rfl
@[simp] theorem State.withQueue_armed (q : List Instr) : (s.withQueue q).armed = s.armed := rfl
@[simp] theorem State.withQueue_doms (q : List Instr) : (s.withQueue q).doms = s.doms := rfl
@[simp] theorem State.withQueue_hid (q : List Instr) : (s.withQueue q).hid = s.hid := rfl
@[simp] theorem State.withQueue_tc (q : List Instr) : (s.withQueue q).tc = s.tc := rfl
@[simp] theorem State.withQueue_up (q : List Instr) : (s.withQueue q).up = s.up := rfl
@[simp] theorem State.withQueue_idx (q : List Instr) : (s.withQueue q).idx = s.idx := rfl
@[simp] theorem State.withQueue_timeline (q : List Instr) : (s.withQueue q).timeline = s.timeline := rfl
@[simp] theorem State.withQueue_holds (q : List Instr) : (s.withQueue q).holds = s.holds := rfl
@[simp] theorem State.withQueue_steps (q : List Instr) : (s.withQueue q).steps = s.steps := rfl
@[simp] theorem State.withQueue_raises (q : List Instr) : (s.withQueue q).raises = s.raises := rfl
@[simp] theorem State.withQueue_sess (q : List Instr) : (s.withQueue q).sess = s.sess := rfl
@[simp] theorem State.withQueue_xfers (q : List Instr) : (s.withQueue q).xfers = s.xfers := rfl
@[simp] theorem State.withQueue_ends (q : List Instr) : (s.withQueue q).ends = s.ends := rfl
@[simp] theorem State.withQueue_can (q : List Instr) : (s.withQueue q).can = s.can := rfl
@[simp] theorem State.withQueue_mbx (q : List Instr) : (s.withQueue q).mbx = s.mbx := rfl
@[simp] theorem State.withQueue_mbxData (q : List Instr) : (s.withQueue q).mbxData = s.mbxData := rfl
@[simp] theorem State.withQueue_adm (q : List Instr) : (s.withQueue q).adm = s.adm := rfl
@[simp] theorem State.withQueue_issued (q : List Instr) : (s.withQueue q).issued = s.issued := rfl
@[simp] theorem State.withQueue_out (q : List Instr) : (s.withQueue q).out = s.out := rfl
@[simp] theorem State.withQueue_conv (q : List Instr) : (s.withQueue q).conv = s.conv := rfl
@[simp] theorem State.withQueue_slices (q : List Instr) : (s.withQueue q).slices = s.slices := rfl
@[simp] theorem State.withQueue_engs (q : List Instr) : (s.withQueue q).engs = s.engs := rfl
@[simp] theorem State.withQueue_engSrcs (q : List Instr) : (s.withQueue q).engSrcs = s.engSrcs := rfl
@[simp] theorem State.withQueue_newest (q : List Instr) : (s.withQueue q).newest = s.newest := rfl
@[simp] theorem State.withQueue_trigs (q : List Instr) : (s.withQueue q).trigs = s.trigs := rfl
@[simp] theorem State.withQueue_ctxs (q : List Instr) : (s.withQueue q).ctxs = s.ctxs := rfl
@[simp] theorem State.withQueue_groups (q : List Instr) : (s.withQueue q).groups = s.groups := rfl
@[simp] theorem State.withQueue_density (q : List Instr) : (s.withQueue q).density = s.density := rfl
@[simp] theorem State.withQueue_table (q : List Instr) : (s.withQueue q).table = s.table := rfl
@[simp] theorem State.withQueue_lines (q : List Instr) : (s.withQueue q).lines = s.lines := rfl
@[simp] theorem State.withQueue_windows (q : List Instr) : (s.withQueue q).windows = s.windows := rfl
@[simp] theorem State.withQueue_positions (q : List Instr) : (s.withQueue q).positions = s.positions := rfl
@[simp] theorem State.withQueue_shadows (q : List Instr) : (s.withQueue q).shadows = s.shadows := rfl
@[simp] theorem State.withQueue_spills (q : List Instr) : (s.withQueue q).spills = s.spills := rfl
@[simp] theorem State.withQueue_bench (q : List Instr) : (s.withQueue q).bench = s.bench := rfl
@[simp] theorem State.withQueue_chans (q : List Instr) : (s.withQueue q).chans = s.chans := rfl
@[simp] theorem State.withQueue_slots (q : List Instr) : (s.withQueue q).slots = s.slots := rfl
@[simp] theorem State.withQueue_ptp (q : List Instr) : (s.withQueue q).ptp = s.ptp := rfl
@[simp] theorem State.withQueue_dmas (q : List Instr) : (s.withQueue q).dmas = s.dmas := rfl
@[simp] theorem State.withQueue_streams (q : List Instr) : (s.withQueue q).streams = s.streams := rfl
@[simp] theorem State.withQueue_drains (q : List Instr) : (s.withQueue q).drains = s.drains := rfl
@[simp] theorem State.withQueue_nvSets (q : List Instr) : (s.withQueue q).nvSets = s.nvSets := rfl
@[simp] theorem State.withQueue_nvCmds (q : List Instr) : (s.withQueue q).nvCmds = s.nvCmds := rfl
@[simp] theorem State.withQueue_heads (q : List Instr) : (s.withQueue q).heads = s.heads := rfl
@[simp] theorem State.withQueue_hk (q : List Instr) : (s.withQueue q).hk = s.hk := rfl
@[simp] theorem State.withQueue_hkSlots (q : List Instr) : (s.withQueue q).hkSlots = s.hkSlots := rfl
@[simp] theorem State.withQueue_pgs (q : List Instr) : (s.withQueue q).pgs = s.pgs := rfl
@[simp] theorem State.withQueue_mem (q : List Instr) : (s.withQueue q).mem = s.mem := rfl
@[simp] theorem State.withQueue_poison (q : List Instr) : (s.withQueue q).poison = s.poison := rfl
@[simp] theorem State.withQueue_flash (q : List Instr) : (s.withQueue q).flash = s.flash := rfl
@[simp] theorem State.withQueue_ledgerDue (q : List Instr) : (s.withQueue q).ledgerDue = s.ledgerDue := rfl
@[simp] theorem State.withQueue_ceTimes (q : List Instr) : (s.withQueue q).ceTimes = s.ceTimes := rfl
@[simp] theorem State.withQueue_migQueue (q : List Instr) : (s.withQueue q).migQueue = s.migQueue := rfl
@[simp] theorem State.withQueue_activates (q : List Instr) : (s.withQueue q).activates = s.activates := rfl

/-! `raise` -/

@[simp] theorem State.raise_active (e d : Nat) : (s.raise e d).active = s.active := by
  unfold State.raise; split <;> rfl
@[simp] theorem State.raise_lag (e d : Nat) : (s.raise e d).lag = s.lag := by
  unfold State.raise; split <;> rfl
@[simp] theorem State.raise_staged (e d : Nat) : (s.raise e d).staged = s.staged := by
  unfold State.raise; split <;> rfl
@[simp] theorem State.raise_awaiting (e d : Nat) : (s.raise e d).awaiting = s.awaiting := by
  unfold State.raise; split <;> rfl
@[simp] theorem State.raise_armed (e d : Nat) : (s.raise e d).armed = s.armed := by
  unfold State.raise; split <;> rfl
@[simp] theorem State.raise_doms (e d : Nat) : (s.raise e d).doms = s.doms := by
  unfold State.raise; split <;> rfl
@[simp] theorem State.raise_hid (e d : Nat) : (s.raise e d).hid = s.hid := by
  unfold State.raise; split <;> rfl
@[simp] theorem State.raise_tc (e d : Nat) : (s.raise e d).tc = s.tc := by
  unfold State.raise; split <;> rfl
@[simp] theorem State.raise_up (e d : Nat) : (s.raise e d).up = s.up := by
  unfold State.raise; split <;> rfl
@[simp] theorem State.raise_idx (e d : Nat) : (s.raise e d).idx = s.idx := by
  unfold State.raise; split <;> rfl
@[simp] theorem State.raise_timeline (e d : Nat) : (s.raise e d).timeline = s.timeline := by
  unfold State.raise; split <;> rfl
@[simp] theorem State.raise_holds (e d : Nat) : (s.raise e d).holds = s.holds := by
  unfold State.raise; split <;> rfl
@[simp] theorem State.raise_steps (e d : Nat) : (s.raise e d).steps = s.steps := by
  unfold State.raise; split <;> rfl
@[simp] theorem State.raise_sess (e d : Nat) : (s.raise e d).sess = s.sess := by
  unfold State.raise; split <;> rfl
@[simp] theorem State.raise_xfers (e d : Nat) : (s.raise e d).xfers = s.xfers := by
  unfold State.raise; split <;> rfl
@[simp] theorem State.raise_ends (e d : Nat) : (s.raise e d).ends = s.ends := by
  unfold State.raise; split <;> rfl
@[simp] theorem State.raise_can (e d : Nat) : (s.raise e d).can = s.can := by
  unfold State.raise; split <;> rfl
@[simp] theorem State.raise_mbx (e d : Nat) : (s.raise e d).mbx = s.mbx := by
  unfold State.raise; split <;> rfl
@[simp] theorem State.raise_mbxData (e d : Nat) : (s.raise e d).mbxData = s.mbxData := by
  unfold State.raise; split <;> rfl
@[simp] theorem State.raise_adm (e d : Nat) : (s.raise e d).adm = s.adm := by
  unfold State.raise; split <;> rfl
@[simp] theorem State.raise_issued (e d : Nat) : (s.raise e d).issued = s.issued := by
  unfold State.raise; split <;> rfl
@[simp] theorem State.raise_out (e d : Nat) : (s.raise e d).out = s.out := by
  unfold State.raise; split <;> rfl
@[simp] theorem State.raise_conv (e d : Nat) : (s.raise e d).conv = s.conv := by
  unfold State.raise; split <;> rfl
@[simp] theorem State.raise_slices (e d : Nat) : (s.raise e d).slices = s.slices := by
  unfold State.raise; split <;> rfl
@[simp] theorem State.raise_engs (e d : Nat) : (s.raise e d).engs = s.engs := by
  unfold State.raise; split <;> rfl
@[simp] theorem State.raise_engSrcs (e d : Nat) : (s.raise e d).engSrcs = s.engSrcs := by
  unfold State.raise; split <;> rfl
@[simp] theorem State.raise_newest (e d : Nat) : (s.raise e d).newest = s.newest := by
  unfold State.raise; split <;> rfl
@[simp] theorem State.raise_trigs (e d : Nat) : (s.raise e d).trigs = s.trigs := by
  unfold State.raise; split <;> rfl
@[simp] theorem State.raise_ctxs (e d : Nat) : (s.raise e d).ctxs = s.ctxs := by
  unfold State.raise; split <;> rfl
@[simp] theorem State.raise_groups (e d : Nat) : (s.raise e d).groups = s.groups := by
  unfold State.raise; split <;> rfl
@[simp] theorem State.raise_density (e d : Nat) : (s.raise e d).density = s.density := by
  unfold State.raise; split <;> rfl
@[simp] theorem State.raise_table (e d : Nat) : (s.raise e d).table = s.table := by
  unfold State.raise; split <;> rfl
@[simp] theorem State.raise_lines (e d : Nat) : (s.raise e d).lines = s.lines := by
  unfold State.raise; split <;> rfl
@[simp] theorem State.raise_windows (e d : Nat) : (s.raise e d).windows = s.windows := by
  unfold State.raise; split <;> rfl
@[simp] theorem State.raise_positions (e d : Nat) : (s.raise e d).positions = s.positions := by
  unfold State.raise; split <;> rfl
@[simp] theorem State.raise_shadows (e d : Nat) : (s.raise e d).shadows = s.shadows := by
  unfold State.raise; split <;> rfl
@[simp] theorem State.raise_spills (e d : Nat) : (s.raise e d).spills = s.spills := by
  unfold State.raise; split <;> rfl
@[simp] theorem State.raise_bench (e d : Nat) : (s.raise e d).bench = s.bench := by
  unfold State.raise; split <;> rfl
@[simp] theorem State.raise_chans (e d : Nat) : (s.raise e d).chans = s.chans := by
  unfold State.raise; split <;> rfl
@[simp] theorem State.raise_slots (e d : Nat) : (s.raise e d).slots = s.slots := by
  unfold State.raise; split <;> rfl
@[simp] theorem State.raise_ptp (e d : Nat) : (s.raise e d).ptp = s.ptp := by
  unfold State.raise; split <;> rfl
@[simp] theorem State.raise_dmas (e d : Nat) : (s.raise e d).dmas = s.dmas := by
  unfold State.raise; split <;> rfl
@[simp] theorem State.raise_streams (e d : Nat) : (s.raise e d).streams = s.streams := by
  unfold State.raise; split <;> rfl
@[simp] theorem State.raise_drains (e d : Nat) : (s.raise e d).drains = s.drains := by
  unfold State.raise; split <;> rfl
@[simp] theorem State.raise_nvSets (e d : Nat) : (s.raise e d).nvSets = s.nvSets := by
  unfold State.raise; split <;> rfl
@[simp] theorem State.raise_nvCmds (e d : Nat) : (s.raise e d).nvCmds = s.nvCmds := by
  unfold State.raise; split <;> rfl
@[simp] theorem State.raise_heads (e d : Nat) : (s.raise e d).heads = s.heads := by
  unfold State.raise; split <;> rfl
@[simp] theorem State.raise_hk (e d : Nat) : (s.raise e d).hk = s.hk := by
  unfold State.raise; split <;> rfl
@[simp] theorem State.raise_hkSlots (e d : Nat) : (s.raise e d).hkSlots = s.hkSlots := by
  unfold State.raise; split <;> rfl
@[simp] theorem State.raise_pgs (e d : Nat) : (s.raise e d).pgs = s.pgs := by
  unfold State.raise; split <;> rfl
@[simp] theorem State.raise_mem (e d : Nat) : (s.raise e d).mem = s.mem := by
  unfold State.raise; split <;> rfl
@[simp] theorem State.raise_poison (e d : Nat) : (s.raise e d).poison = s.poison := by
  unfold State.raise; split <;> rfl
@[simp] theorem State.raise_flash (e d : Nat) : (s.raise e d).flash = s.flash := by
  unfold State.raise; split <;> rfl
@[simp] theorem State.raise_ledgerDue (e d : Nat) : (s.raise e d).ledgerDue = s.ledgerDue := by
  unfold State.raise; split <;> rfl
@[simp] theorem State.raise_ceTimes (e d : Nat) : (s.raise e d).ceTimes = s.ceTimes := by
  unfold State.raise; split <;> rfl
@[simp] theorem State.raise_migQueue (e d : Nat) : (s.raise e d).migQueue = s.migQueue := by
  unfold State.raise; split <;> rfl
@[simp] theorem State.raise_activates (e d : Nat) : (s.raise e d).activates = s.activates := by
  unfold State.raise; split <;> rfl
@[simp] theorem State.raise_pending (e d : Nat) : (s.raise e d).pending = s.pending := by
  unfold State.raise; split <;> rfl

@[simp] theorem State.moveTime_tc (tc : Nat) : (s.moveTime tc).tc = tc := rfl
@[simp] theorem State.withQueue_pending (q : List Instr) : (s.withQueue q).pending = q := rfl

end Sys2Proof.Machine
end

