-- ==== Sys2Proof/Laws/Store.lean ====
section
/-! SUPPORT. Laws of sparse data: what a read after a write gives, and that every write keeps the canonical form. -/

namespace Sys2Proof

variable {α : Type}

@[simp] theorem Map.get_nil (d : α) (k : Nat) : Map.get ([] : Map α) d k = d := rfl

theorem Map.get_cons (p : Nat × α) (m : Map α) (d : α) (k : Nat) :
    Map.get (p :: m) d k = if p.1 = k then p.2 else Map.get m d k := rfl

theorem Map.get_del_same (m : Map α) (d : α) (k : Nat) : Map.get (Map.del m k) d k = d := by
  induction m with
  | nil => rfl
  | cons p r ih =>
    by_cases h : p.1 = k
    · simpa [Map.del, h] using ih
    · simpa [Map.del, h, Map.get_cons] using ih

theorem Map.get_del_ne (m : Map α) (d : α) {k j : Nat} (h : j ≠ k) : Map.get (Map.del m k) d j = Map.get m d j := by
  induction m with
  | nil => rfl
  | cons p r ih =>
    by_cases hp : p.1 = k
    · have hj : p.1 ≠ j := fun e => h (e.symm.trans hp)
      simpa [Map.del, hp, Map.get_cons, hj, Ne.symm h] using ih
    · simp only [Map.del] at ih
      simp [Map.del, hp, Map.get_cons, ih]

theorem Map.get_ins_same (m : Map α) (d v : α) (k : Nat) (h : ∀ p ∈ m, p.1 ≠ k) : Map.get (Map.ins k v m) d k = v := by
  induction m with
  | nil => simp [Map.ins, Map.get_cons]
  | cons p r ih =>
    have hp : p.1 ≠ k := h p (by simp)
    unfold Map.ins
    split
    · simp [Map.get_cons]
    · simpa [Map.get_cons, hp] using ih (fun q hq => h q (by simp [hq]))

theorem Map.get_ins_ne (m : Map α) (d v : α) {k j : Nat} (h : j ≠ k) : Map.get (Map.ins k v m) d j = Map.get m d j := by
  induction m with
  | nil => simp [Map.ins, Map.get_cons, Ne.symm h]
  | cons p r ih =>
    unfold Map.ins
    split
    · simp [Map.get_cons, Ne.symm h]
    · simp only [Map.get_cons, ih]

theorem Map.del_keys (m : Map α) (k : Nat) : ∀ p ∈ Map.del m k, p.1 ≠ k := by
  intro p hp
  simpa [Map.del] using (List.mem_filter.mp hp).2

/-- A key set to a value reads as it, in a map of any contents. -/
theorem Map.get_set_same (m : Map α) (d v : α) (k : Nat) : Map.get (Map.ins k v (Map.del m k)) d k = v :=
  Map.get_ins_same _ d v k (Map.del_keys m k)

theorem Map.get_set_ne (m : Map α) (d v : α) {k j : Nat} (h : j ≠ k) :
    Map.get (Map.ins k v (Map.del m k)) d j = Map.get m d j := by
  rw [Map.get_ins_ne _ d v h, Map.get_del_ne _ d h]

@[simp] theorem Map.get_put_same [DecidableEq α] (m : Map α) (d v : α) (k : Nat) : Map.get (Map.put m d k v) d k = v := by
  unfold Map.put
  split
  · rename_i h
    rw [h, Map.get_del_same]
  · exact Map.get_set_same m d v k

/-- A write leaves every other key alone, whatever default it is read with. -/
theorem Map.get_put_ne [DecidableEq α] (m : Map α) (d d' v : α) {k j : Nat} (h : j ≠ k) :
    Map.get (Map.put m d k v) d' j = Map.get m d' j := by
  unfold Map.put
  split
  · exact Map.get_del_ne m d' h
  · exact Map.get_set_ne m d' v h

/-! ### The canonical form -/

/-- The canonical form, said of the whole list: keys strictly rising, no entry equal to its default. -/
theorem Map.wf_iff [DecidableEq α] (d : Nat → α) (m : Map α) :
    Map.wf d m = true ↔ m.Pairwise (fun p q => p.1 < q.1) ∧ ∀ p ∈ m, p.2 ≠ d p.1 := by
  induction m with
  | nil => simp [Map.wf]
  | cons p r ih =>
    cases r with
    | nil => simp [Map.wf]
    | cons q r =>
      simp only [Map.wf, Bool.and_eq_true, bne_iff_ne, decide_eq_true_eq, ih, List.pairwise_cons, List.mem_cons,
        forall_eq_or_imp]
      constructor
      · rintro ⟨⟨h1, h2⟩, ⟨h3, h4⟩, h5, h6⟩
        exact ⟨⟨⟨h2, fun x hx => lt_trans h2 (h3 x hx)⟩, h3, h4⟩, h1, h5, h6⟩
      · rintro ⟨⟨⟨h2, _⟩, h3, h4⟩, h1, h5, h6⟩
        exact ⟨⟨h1, h2⟩, ⟨h3, h4⟩, h5, h6⟩

theorem Map.ins_mem {k : Nat} {v : α} {m : Map α} {p : Nat × α} (h : p ∈ Map.ins k v m) : p = (k, v) ∨ p ∈ m := by
  induction m with
  | nil => simpa [Map.ins] using h
  | cons q r ih =>
    unfold Map.ins at h
    split at h
    · simpa using h
    · rcases List.mem_cons.mp h with h | h
      · exact .inr (by simp [h])
      · rcases ih h with h | h
        · exact .inl h
        · exact .inr (by simp [h])

theorem Map.ins_pairwise {k : Nat} (v : α) {m : Map α} (h : m.Pairwise (fun p q => p.1 < q.1)) (hk : ∀ p ∈ m, p.1 ≠ k) :
    (Map.ins k v m).Pairwise (fun p q => p.1 < q.1) := by
  induction m with
  | nil => simp [Map.ins]
  | cons q r ih =>
    rw [List.pairwise_cons] at h
    unfold Map.ins
    split
    · rename_i hlt
      refine List.pairwise_cons.mpr ⟨fun p hp => ?_, List.pairwise_cons.mpr h⟩
      rcases List.mem_cons.mp hp with hp | hp
      · simpa [hp] using hlt
      · exact lt_trans hlt (h.1 p hp)
    · rename_i hlt
      have hq : q.1 < k := lt_of_le_of_ne (Nat.le_of_not_lt hlt) (hk q (by simp))
      refine List.pairwise_cons.mpr ⟨fun p hp => ?_, ih h.2 (fun p hp => hk p (by simp [hp]))⟩
      rcases Map.ins_mem hp with hp | hp
      · simpa [hp] using hq
      · exact h.1 p hp

theorem Map.del_wf [DecidableEq α] {d : Nat → α} {m : Map α} (k : Nat) (h : Map.wf d m = true) : Map.wf d (Map.del m k) = true := by
  rw [Map.wf_iff] at h ⊢
  exact ⟨h.1.filter _, fun p hp => h.2 p (List.mem_filter.mp hp).1⟩

/-- A write keeps the canonical form. -/
theorem Map.put_wf [DecidableEq α] {d : Nat → α} {m : Map α} (k : Nat) (v : α) (h : Map.wf d m = true) :
    Map.wf d (Map.put m (d k) k v) = true := by
  have hd := Map.del_wf k h
  unfold Map.put
  split
  · exact hd
  · rename_i hv
    rw [Map.wf_iff] at hd ⊢
    refine ⟨Map.ins_pairwise v hd.1 (Map.del_keys m k), fun p hp => ?_⟩
    rcases Map.ins_mem hp with hp | hp
    · simpa [hp] using hv
    · exact hd.2 p hp

/-- Bytes written one by one keep the canonical form of a byte memory. -/
theorem Map.putBytes_wf {m : Map Byte} (a : Nat) (bs : List Byte) (h : Map.wf (fun _ => 0) m = true) :
    Map.wf (fun _ => 0) (Map.putBytes m a bs) = true := by
  induction bs generalizing m a with
  | nil => exact h
  | cons b r ih => exact ih (a + 1) (Map.put_wf (d := fun _ => 0) a b h)

/-- Bytes outside those written read as before. -/
theorem Map.get_putBytes_outside (m : Map Byte) (a j : Nat) (bs : List Byte) (h : j < a ∨ a + bs.length ≤ j) :
    Map.get (Map.putBytes m a bs) 0 j = Map.get m 0 j := by
  induction bs generalizing m a with
  | nil => rfl
  | cons b r ih =>
    have h' : j < a + 1 ∨ a + 1 + r.length ≤ j := by simp at h; omega
    have hn : j ≠ a := by simp at h; omega
    rw [Map.putBytes, ih _ _ h', Map.get_put_ne _ _ _ _ hn]

end Sys2Proof
end

