-- ==== Sys2Proof/Laws/Ops.lean ====
section
/-! SUPPORT. What each shared operation does: objects, hidden scalars, plan values, events, requests, memory. -/

namespace Sys2Proof.Machine

variable (s : State)

/-! ### Objects -/

@[simp] theorem State.reg_setReg_same (r : Row) (v i j : Nat) : (s.setReg r v i j).reg r i j = v := by
  simp [State.reg, State.setReg]

theorem State.reg_setReg_ne (r q : Row) (v i j i' j' : Nat) (h : q.key i' j' ≠ r.key i j) :
    (s.setReg r v i j).reg q i' j' = s.reg q i' j' := by
  simp [State.reg, State.setReg, Map.get_put_ne _ _ _ _ h]

@[simp] theorem State.reg_setHidden (q : Row) (n v i i' j' : Nat) : (s.setHidden n v i).reg q i' j' = s.reg q i' j' := rfl
@[simp] theorem State.reg_emit (q : Row) (o : Out) (i' j' : Nat) : (s.emit o).reg q i' j' = s.reg q i' j' := rfl
@[simp] theorem State.reg_setDom (q r : Row) (b : List Byte) (i j i' j' : Nat) : (s.setDom r b i j).reg q i' j' = s.reg q i' j' :=
  rfl
@[simp] theorem State.reg_fault (q : Row) (n d i' j' : Nat) : (s.fault n d).reg q i' j' = s.reg q i' j' := rfl
@[simp] theorem State.reg_unfault (q : Row) (n i' j' : Nat) : (s.unfault n).reg q i' j' = s.reg q i' j' := rfl

/-! ### Hidden scalars -/

@[simp] theorem State.hidden_setHidden_same (n v i : Nat) : (s.setHidden n v i).hidden n i = v := by
  simp [State.hidden, State.setHidden]

theorem State.hidden_setHidden_ne (n v i n' i' : Nat) (h : n' * 2 ^ 20 + i' ≠ n * 2 ^ 20 + i) :
    (s.setHidden n v i).hidden n' i' = s.hidden n' i' := by
  simp only [State.hidden, State.setHidden]
  exact Map.get_put_ne _ _ _ _ h

@[simp] theorem State.hidden_setReg (n i : Nat) (r : Row) (v i' j' : Nat) : (s.setReg r v i' j').hidden n i = s.hidden n i := rfl
@[simp] theorem State.hidden_raise (n i e d : Nat) : (s.raise e d).hidden n i = s.hidden n i := by simp [State.hidden]
@[simp] theorem State.hidden_emit (n i : Nat) (o : Out) : (s.emit o).hidden n i = s.hidden n i := rfl

/-! ### Plan values -/

@[simp] theorem State.plan_setReg (q r : Row) (v i j i' j' : Nat) : (s.setReg r v i j).plan q i' j' = s.plan q i' j' := rfl
@[simp] theorem State.plan_setHidden (q : Row) (n v i i' j' : Nat) : (s.setHidden n v i).plan q i' j' = s.plan q i' j' := rfl
@[simp] theorem State.plan_raise (q : Row) (e d i' j' : Nat) : (s.raise e d).plan q i' j' = s.plan q i' j' := by
  simp [State.plan, State.view]
@[simp] theorem State.plan_emit (q : Row) (o : Out) (i' j' : Nat) : (s.emit o).plan q i' j' = s.plan q i' j' := rfl

/-! ### Events -/

/-- A raise reaches the queue of raises. -/
@[simp] theorem State.raise_raises (e d : Nat) : (s.raise e d).raises = pushRaise (2 * s.cycleP) s.up e d s.raises := by
  unfold State.raise pushRaise
  split <;> simp_all

/-- A raise writes no object but `EV_MERGED`. -/
theorem State.reg_raise_ne (q : Row) (e d i j : Nat) (h : q.key i j ≠ mergedKey) : (s.raise e d).reg q i j = s.reg q i j := by
  unfold State.raise
  split
  · exact State.reg_setReg_ne _ _ _ _ _ _ _ _ h
  · rfl

/-! ### Agreement -/

theorem Agree.refl (a : Store) (l : List Nat) : Agree a a l := fun _ _ _ => rfl

theorem Agree.put {a b : Store} {l : List Nat} (d k v : Nat) (h : Agree a b l) (hk : k ∈ l) : Agree (Map.put a d k v) b l := by
  intro j d' hj
  have hn : j ≠ k := fun e => hj (e.symm ▸ hk)
  rw [Map.get_put_ne _ _ _ _ hn, h j d' hj]

theorem Agree.mono {a b : Store} {l l' : List Nat} (h : Agree a b l) (hl : ∀ k ∈ l, k ∈ l') : Agree a b l' :=
  fun k d hk => h k d (fun hm => hk (hl k hm))

/-- A write of an object keeps agreement outside it. -/
theorem Agree.setReg {s : State} {b : Store} {l : List Nat} (r : Row) (v i j : Nat) (h : Agree s.regs b l) (hk : r.key i j ∈ l) :
    Agree (s.setReg r v i j).regs b l := h.put _ _ _ hk

theorem Agree.raise {s : State} {b : Store} {l : List Nat} (e d : Nat) (h : Agree s.regs b l) (hk : mergedKey ∈ l) :
    Agree (s.raise e d).regs b l := by
  unfold State.raise
  split
  · exact h.put _ _ _ hk
  · exact h

theorem Agree.setHidden {s : State} {b : Store} {l : List Nat} (n v i : Nat) (h : Agree s.hid b l) (hk : hkey n i ∈ l) :
    Agree (s.setHidden n v i).hid b l := h.put _ _ _ hk

/-! ### Requests -/

/-- What comes of a request: nothing while it is not served; else the act's effect and the answer, or the refusal. -/
theorem State.request_cases (m : Master) (a : Act) :
    (¬ Served s m ∧ s.request m a = .next s) ∨
    (Served s m ∧ ∃ s', a s = .ok s' ∧ s.request m a = .next (s'.answer m 0)) ∨
    (Served s m ∧ ∃ c, a s = .error c ∧ s.request m a = .next (s.answer m c)) := by
  unfold State.request Served
  by_cases h : s.dictReady && s.connected m
  · simp only [h, if_true]
    cases ha : a s with
    | ok s' => exact .inr (.inl ⟨by simpa using h, s', rfl, rfl⟩)
    | error c => exact .inr (.inr ⟨by simpa using h, c, rfl, rfl⟩)
  · simp only [h]
    exact .inl ⟨by simpa using h, rfl⟩

/-- A request always answers a next state. -/
theorem State.request_next (m : Master) (a : Act) : ∃ t, s.request m a = .next t := by
  rcases s.request_cases m a with ⟨_, h⟩ | ⟨_, s', _, h⟩ | ⟨_, c, _, h⟩
  · exact ⟨_, h⟩
  · exact ⟨_, h⟩
  · exact ⟨_, h⟩

theorem State.request_ok {s s' : State} {m : Master} {a : Act} (h : Served s m) (ha : a s = .ok s') :
    s.request m a = .next (s'.answer m 0) := by
  simp [State.request, h.1, h.2, ha]

theorem Owner.served {s : State} {m : Master} (h : Owner s m) : Served s m := ⟨h.1, h.2.1⟩

/-- A successful answer emits the completion and changes nothing else. -/
theorem State.answer_zero (m : Master) : s.answer m 0 = { s with out := replied s m } := by
  cases m <;> rfl

/-- The owner's write of a command object runs the object's act, once size and value pass. -/
theorem State.command_ok {s s' : State} {m : Master} {r : Row} {v : Nat} {f : Act} (h : Owner s m) (hr : r.host = false)
    (hv : v < 2 ^ r.width) (hc : r.checks (v &&& r.mask) = true) (hf : f s = .ok s') :
    s.command m r v f = .next { s' with out := replied s' m } := by
  have hj : s.judge m r v f = .ok s' := by
    simp [State.judge, hr, h.2.2, hc, hf, Nat.not_le.mpr hv]
  rw [State.command, State.request_ok h.served hj, State.answer_zero]

/-- A load by the owner: the act's effect, and open segmented reads of the object end (R44). -/
theorem State.load_ok {s s' : State} {m : Master} {k : Nat} {f : Act} (h : Owner s m) (hf : f s = .ok s') :
    s.load m k f = .next { s'.breakReads k with out := replied (s'.breakReads k) m } := by
  have hj : (fun s : State => if !s.owns m then .error Abort.notOwner else (f s).map (fun t => t.breakReads k)) s =
      .ok (s'.breakReads k) := by simp [h.2.2, hf, Except.map]
  rw [State.load, State.request_ok h.served hj, State.answer_zero]

/-- An accepted act that reaches a unit in a domain: its own effect where the domain is on (R450). -/
theorem reaching_on {d : Nat} {f : Act} {s s' : State} (hf : f s = .ok s') (h : bit (s'.reg O.pwrDomainOn) d = true) :
    reaching d f s = .ok s' := by
  simp [reaching, hf, Except.map, State.reach, h]

/-! ### Memory -/

/-- Every memory operation keeps the canonical form. -/
theorem State.writeLine_wf (a : Nat) (bs : List Byte) (h : Inv s) : Inv (s.writeLine a bs) := by
  unfold State.writeLine
  split
  · split
    · exact Map.putBytes_wf _ _ h
    · exact h
  · exact Map.putBytes_wf _ _ h

theorem State.writeLines_wf (n a : Nat) (bs : List Byte) (h : Inv s) : Inv (s.writeLines n a bs) := by
  induction n generalizing s a bs with
  | zero => exact h
  | succ n ih =>
    unfold State.writeLines
    split
    · exact h
    · exact ih _ _ _ (s.writeLine_wf _ _ h)

theorem State.writeMem_wf (a : Nat) (bs : List Byte) (h : Inv s) : Inv (s.writeMem a bs) := s.writeLines_wf _ _ _ h

theorem State.writeRing_wf (port base size off : Nat) (bs : List Byte) (h : Inv s) : Inv (s.writeRing port base size off bs).1 := by
  unfold State.writeRing
  split
  · exact h
  · have h1 : Inv ((s.writeMem (base + off) (bs.take (size - off))).portBytes port bs.length) := s.writeMem_wf _ _ h
    dsimp only
    split
    · exact State.writeMem_wf _ _ _ h1
    · exact h1

/-- The memory at reset is in canonical form. -/
theorem State.reset_mem_wf : Memory.wf State.reset.mem = true := rfl

/-- What is held for bytes is as long as they are. -/
@[simp] theorem State.held_length (a : Nat) (bs : List Byte) : (s.held a bs).length = bs.length := by
  unfold State.held
  split <;> simp

/-- A write inside one line leaves every byte outside it as it reads. -/
theorem State.writeLine_frame (a j : Nat) (bs : List Byte) (hb : bs.length ≤ 64 - a % 64) (h : j < a ∨ a + bs.length ≤ j) :
    (s.writeLine a bs).readByte j = s.readByte j := by
  have hm := Map.get_putBytes_outside s.mem a j (s.held a bs) (by rw [State.held_length]; exact h)
  unfold State.writeLine
  split
  · split
    · have hl : j / 64 ≠ a / 64 := by omega
      simp only [State.readByte, State.poisoned, State.setPoison, Map.get_put_ne _ _ _ _ hl, hm]
      rfl
    · rfl
  · simp only [State.readByte, State.poisoned, hm]
    rfl

theorem State.writeLines_frame (n a j : Nat) (bs : List Byte) (h : j < a ∨ a + bs.length ≤ j) :
    (s.writeLines n a bs).readByte j = s.readByte j := by
  induction n generalizing s a bs with
  | zero => rfl
  | succ n ih =>
    unfold State.writeLines
    split
    · rfl
    · dsimp only
      rw [ih, State.writeLine_frame] <;> simp only [List.length_take, List.length_drop] <;> omega

/-- A write leaves every byte of memory outside it as it reads. -/
theorem State.writeMem_frame (a j : Nat) (bs : List Byte) (h : j < a ∨ a + bs.length ≤ j) :
    (s.writeMem a bs).readByte j = s.readByte j := s.writeLines_frame _ _ _ _ h

/-- A write to a ring leaves every byte outside the ring as it reads. -/
theorem State.writeRing_frame (port base size off j : Nat) (bs : List Byte) (hb : bs.length ≤ size)
    (h : j < base ∨ base + size ≤ j) : (s.writeRing port base size off bs).1.readByte j = s.readByte j := by
  unfold State.writeRing
  split
  · rfl
  · have h1 : ((s.writeMem (base + off) (bs.take (size - off))).portBytes port bs.length).readByte j = s.readByte j := by
      rw [← s.writeMem_frame (base + off) j (bs.take (size - off)) (by simp only [List.length_take]; omega)]
      rfl
    dsimp only
    split
    · rw [State.writeMem_frame _ _ _ _ (by simp only [List.length_drop]; omega), h1]
    · exact h1

theorem rising_mem (hi lo : Nat) (l : List (Nat × Byte)) : ∀ e ∈ rising hi lo l, lo ≤ e.1 ∧ e.1 < hi ∧ e.2 ≠ 0 := by
  induction l generalizing lo with
  | nil => simp [rising]
  | cons x r ih =>
    intro e he
    unfold rising at he
    split at he
    · rename_i hx
      rcases List.mem_cons.mp he with rfl | he
      · exact hx
      · have := ih _ e he; exact ⟨by omega, this.2⟩
    · exact ih _ e he

theorem rising_pairwise (hi lo : Nat) (l : List (Nat × Byte)) : (rising hi lo l).Pairwise (fun p q => p.1 < q.1) := by
  induction l generalizing lo with
  | nil => simp [rising]
  | cons x r ih =>
    unfold rising
    split
    · exact List.pairwise_cons.mpr ⟨fun e he => (rising_mem hi _ r e he).1, ih _⟩
    · exact ih _

/-- A range of memory replaced keeps the canonical form. -/
theorem State.putRegion_wf (a n : Nat) (b : List (Nat × Byte)) (h : Inv s) : Inv (s.putRegion a n b) := by
  unfold State.putRegion
  split
  · exact s.writeMem_wf _ _ h
  unfold Inv Memory.wf at h ⊢
  rw [Map.wf_iff] at h ⊢
  have hr := rising_mem (a + n) a (b.map (fun e => (a + e.1, e.2)))
  refine ⟨List.pairwise_append.mpr ⟨List.pairwise_append.mpr ⟨h.1.filter _, rising_pairwise _ _ _, ?_⟩, h.1.filter _, ?_⟩, ?_⟩
  · intro x hx y hy
    have h1 := (List.mem_filter.mp hx).2
    have h2 := (hr y hy).1
    simp at h1
    omega
  · intro x hx y hy
    have h2 := (List.mem_filter.mp hy).2
    simp at h2
    rcases List.mem_append.mp hx with hx | hx
    · have h1 := (List.mem_filter.mp hx).2
      simp at h1
      omega
    · have h1 := (hr x hx).2.1
      omega
  · intro p hp
    rcases List.mem_append.mp hp with hp | hp
    · rcases List.mem_append.mp hp with hp | hp
      · exact h.2 p (List.mem_filter.mp hp).1
      · exact (hr p hp).2.2
    · exact h.2 p (List.mem_filter.mp hp).1

end Sys2Proof.Machine
end

