-- ==== Sys2Proof/Tests/Slice0.lean ====
section
/-! SUPPORT. Tests: the hypotheses of every statement are met by a concrete state and operands, every check of well-formedness
refuses a term, and worked examples of the spec. -/

namespace Sys2Proof.Machine

set_option Elab.async false

/-! ### States that the tests start from -/

/-- A device that is ready, with its host connected. -/
def wServed : State := (State.reset.setHidden H.boot 7).setHidden H.hostUp 1
/-- The host is the owner. -/
def wUp : State := (wServed.setReg O.ownerId 1).setReg O.ownerState 1
/-- An Ethernet session is open beside it. -/
def wEth : State := { wUp with sess := [(0, { ({} : Session) with isOpen := true })] }
/-- A handover to the host is open. -/
def wAccept : State := ((wServed.setReg O.ownerId 0x10).setReg O.ownerState 2).setReg O.successorId 1
/-- A key is enabled, an Ethernet session bound to it is open, its port serves ADP, and its master is the owner. -/
def wAdp : State :=
  { ((wServed.setReg O.ownerId 0x10).setReg O.ownerState 1).setReg O.ethLink 2 0 with
    doms := [(O.adpKey.key 0 0, List.replicate 32 7)], sess := [(0, { ({} : Session) with isOpen := true, nonce := 5 })] }
/-- A message of session 0 whose tag verifies. -/
def wMsg (s : State) (type : Nat) (payload : List Byte) : AdpMsg :=
  { port := 0, version := 1, flags := 0, session := 0, keyId := 0, payloadLen := BitVec.ofNat 16 payload.length, seq := 1, txn := 9,
    payload := payload, tag := s.adpTag 0 5 (adpHeader type 0 0 0 payload.length 1 9) payload }
/-- Its tag verifies. -/
theorem wMsg_tag (s : State) (type n : Nat) (p : List Byte) (hk : s.keyOn 0 = true) (hn : (s.session n).nonce = 5)
    (hp : p.length < 65536) : s.tagOk type (wMsg s type p) (s.session n).nonce = true := by
  simp [State.tagOk, wMsg, hk, hn, Nat.mod_eq_of_lt hp]
/-- An opening request whose tag verifies. -/
def wHello (s : State) (type : Nat) : AdpMsg :=
  { wMsg s type [] with session := 0xFF, seq := 0, tag := s.adpTag 0 0 (adpHeader type 0 0xFF 0 0 0 9) [] }
/-- Its tag verifies. -/
theorem wHello_tag (s : State) (type : Nat) (hk : s.keyOn 0 = true) : s.tagOk type (wHello s type) 0 = true := by
  simp [State.tagOk, wHello, wMsg, hk]

/-- The last position of the last bench. -/
def wPos : Pos := ⟨15, 15⟩
/-- Its core runs a frame and is at an instruction, with these registers. -/
def wAw (i : Instr) (c : Core := {}) : State :=
  { wUp with positions := [(255, { ({} : Position) with running := true, budget := 1000, ilen := 2, imem := [(0, (awEncode i).getD 0)], core := c })] }

/-- A PTP message of version 2 and domain 0 from clock 5. -/
def wPtp (type : Fin 16 := 0) : PtpMsg :=
  { type := type, version := 2, domain := 0, twoStep := false, seq := 7, correction := -3, source := 5, sourcePort := 1, time := 9 * 2 ^ 48,
    requester := 0, requesterPort := 2, transport := 1, noChecksum := false,
    announce := { priority1 := 1, clockClass := 6, accuracy := 0x21, variance := 0x4E5D, priority2 := 1, identity := 5, steps := 0 } }
/-- Port 1 of the device in native mode with a role, in a port state. -/
def wPort (role st : Nat) : State :=
  { wUp.setReg O.ptpPortState st 1 with active := [(O.ptpRole.key 1 0, role), (O.servoSrc.key 0 0, 1)] }
/-- Port 1 with an exchange of its own in flight. -/
def wAsked (st : Nat) (d p : Option Exchange) : State :=
  { wPort 3 st with ptp := [(1, { ({} : PtpPort) with delay := d, pdelay := p })] }

/-- A round keeps the number of working variables. -/
theorem wSha_round (v : List (BitVec 32)) (k w : BitVec 32) : (shaRound v k w).length = v.length := by
  unfold shaRound; split <;> rfl
/-- So does a block. -/
theorem wSha_block (h b : List (BitVec 32)) : (shaBlock h b).length = h.length := by
  have key : ∀ (l : List (BitVec 32 × BitVec 32)) (v : List (BitVec 32)),
      (l.foldl (fun v p => shaRound v p.1 p.2) v).length = v.length := by
    intro l
    induction l with
    | nil => intro v; rfl
    | cons p l ih => intro v; rw [List.foldl_cons, ih, wSha_round]
  simp [shaBlock, key]
/-- So do all blocks. -/
theorem wSha_blocks (n : Nat) (h ws : List (BitVec 32)) : (shaBlocks n h ws).length = h.length := by
  induction n generalizing h ws with
  | zero => rfl
  | succ n ih => unfold shaBlocks; split <;> simp [ih, wSha_block]
/-- The bytes of words. -/
theorem wSha_bytes (l : List (BitVec 32)) : (l.flatMap beWord).length = 4 * l.length := by
  induction l with
  | nil => rfl
  | cons a l ih => rw [List.flatMap_cons, List.length_append, ih, List.length_cons]; show 4 + _ = _; omega
/-- A digest has 32 bytes. -/
theorem wSha_len (m : List Byte) : (sha256 m).length = 32 := by
  unfold sha256
  rw [wSha_bytes, wSha_blocks]
  rfl
/-- So has a tag. -/
theorem wSha_tag (s : State) (k nonce : Nat) (h p : List Byte) : (s.adpTag k nonce h p).length = 32 := by
  unfold State.adpTag hmac
  exact wSha_len _

/-- The owner's session on CAN, with its key. -/
def wCanBase : State :=
  { (wServed.setReg O.ownerId 0x20).setReg O.ownerState 1 with
    doms := [(O.adpKey.key 0 0, List.replicate 32 7)], sess := [(8, { ({} : Session) with isOpen := true, nonce := 5, port := 2 })] }
/-- Its tag. -/
def wCanTag : List Byte := wCanBase.adpTag 0 5 (adpHeader 6 0 8 0 0 1 9) []
/-- A RENEW in it. -/
def wCanMsg : AdpMsg :=
  { port := 2, version := 1, flags := 0, session := 8, keyId := 0, payloadLen := 0, seq := 1, txn := 9, payload := [], tag := wCanTag }
/-- Its bytes, but for those of the last frame: none. -/
def wCanBytes : List Byte := adpHeader 6 0 8 0 0 1 9 ++ [] ++ wCanMsg.tag
/-- The frames that brought them have come. -/
def wCan : State := { wCanBase with can := some ⟨wCanBytes, 9⟩ }
/-- The message carries it. -/
theorem wCan_carries : wCanMsg.tag = wCanTag := by simp only [wCanMsg]
/-- It has its length. -/
theorem wCan_len : wCanMsg.tag.length = 32 := by
  rw [wCan_carries, wCanTag, wSha_tag]
/-- The bytes are the message's. -/
theorem wCan_join : wCanBytes ++ [] = adpHeader 6 wCanMsg.flags.toNat wCanMsg.session.toNat wCanMsg.keyId.toNat wCanMsg.payload.length
    wCanMsg.seq.toNat wCanMsg.txn.toNat ++ wCanMsg.payload ++ wCanMsg.tag := by
  rw [List.append_nil, wCanBytes]
  congr 1
/-- The tag verifies. -/
theorem wCan_tag : wCan.tagOk 6 wCanMsg (wCan.session 8).nonce = true := by
  have hk : wCan.keyOn 0 = true := by decide +kernel
  have hn : (wCan.session 8).nonce = 5 := by decide +kernel
  have he : wCan.adpKeyOf 0 = wCanBase.adpKeyOf 0 := by decide +kernel
  have hf : wCanTag = wCan.adpTag 0 5 (adpHeader 6 0 8 0 0 1 9) [] := by
    unfold wCanTag State.adpTag
    rw [he]
  rw [hn]
  unfold State.tagOk
  rw [Bool.and_eq_true, beq_iff_eq, wCan_carries, hf]
  exact ⟨hk, by congr 1⟩

/-! ### Witnesses of the statements -/

/-- The hypotheses of `ElectionCommands` are met. -/
theorem test_meets_ElectionCommands :
    (∃ (s : State) (p : Nat) (rivals : List (Master × Nat)), Served s .host ∧ p < 256 ∧ s.reg O.ownerId = 0 ∧ ((∀ r ∈ rivals, s.connected r.1 = true → r.2 ≤ p))) ∧
    (∃ (s : State) (p : Nat), Owner s .host ∧ p < 256) ∧
    (∃ (s : State), Owner s .host) ∧
    (∃ (s : State) (n : Nat), Owner s .host ∧ n ≠ 0 ∧ n ≠ 1 ∧ n < 256 ∧ s.idConnected n = true) ∧
    (∃ (s : State), Served s .host ∧ s.reg O.ownerState = 2 ∧ s.reg O.successorId = 1) :=
  ⟨⟨wServed, 255, [(.eth 0, 255)], by decide +kernel⟩,
   ⟨wUp, 0, by decide +kernel⟩,
   ⟨wUp, by decide +kernel⟩,
   ⟨wEth, 0x10, by decide +kernel⟩,
   ⟨wAccept, by decide +kernel⟩⟩

/-- The hypotheses of `OwnershipEnds` are met. -/
theorem test_meets_OwnershipEnds :
    (∃ (s : State), s.reg O.ownerId ≠ 0 ∧ s.adm = none ∧ s.hidden H.planWait = 0) ∧
    (∃ (s : State), s.reg O.ownerState = 2) ∧
    (∃ (s : State), s.hidden H.hostUp = 1 ∧ s.reg O.ownerId ≠ 1 ∧ s.reg O.ownerState ≠ 2) ∧
    (∃ (s : State), (List.range 32).all (fun n => (s.drainOf n 0).isNone && !(s.plan O.stDest n == 0 && s.reg O.stState n == 2)) = true) :=
  ⟨⟨wUp, by decide +kernel⟩,
   ⟨wAccept, by decide +kernel⟩,
   ⟨wServed, by decide +kernel⟩,
   ⟨.reset, by decide +kernel⟩⟩

/-- The hypotheses of `EventDelivery` are met. -/
theorem test_meets_EventDelivery :
    (∃ (s : State) (r : Raise) (l : List Raise), s.raises = r :: l ∧ bit (s.reg O.evEnable (r.event / 32)) (r.event % 32) = false) ∧
    (∃ (s : State) (r : Raise) (l : List Raise) (v : Nat), s.raises = r :: l ∧ bit (s.reg O.evEnable (r.event / 32)) (r.event % 32) = true ∧ v < 2048 ∧ s.reg O.evRoute (r.event / 32) (r.event % 32) = 2048 + v ∧ s.hidden H.hostUp = 1 ∧ s.hidden H.modOn v = 0 ∧ s.hidden H.unmasked v = 1 ∧ s.reg O.evModUs (v / 32) (v % 32) = 0 ∧ 0 < s.reg O.evRingSize ∧ s.sess = []) ∧
    (∃ (s : State) (v : Fin 2048), s.hidden H.modPend v.val = 0) ∧
    (∃ (s : State) (v : Fin 2048), s.hidden H.modPend v.val = 1 ∧ s.hidden H.hostUp = 1 ∧ s.hidden H.unmasked v.val = 1 ∧ s.reg O.evModUs (v.val / 32) (v.val % 32) ≠ 0) ∧
    (∃ (s : State) (v : Fin 2048), s.hidden H.hostUp = 1 ∧ s.hidden H.pba v.val = 0) ∧
    (∃ (s : State) (v : Fin 2048), s.hidden H.hostUp = 1 ∧ s.hidden H.pba v.val = 1 ∧ s.hidden H.modOn v.val = 0 ∧ s.reg O.evModUs (v.val / 32) (v.val % 32) = 0) ∧
    (∃ (s : State) (m : Master) (v : Nat), Owner s m ∧ v < 2 ^ 32) ∧
    (∃ (s : State) (m : Master) (v : Nat), Owner s m ∧ v < 2 ^ 64 ∧ O.evRingBase.checks (v &&& O.evRingBase.mask) = true ∧ s.reg O.evRingBase ≠ v) ∧
    (∃ (s : State) (m : Master) (v : Nat), Owner s m ∧ v < 2 ^ 32 ∧ O.evRingSize.checks (v &&& O.evRingSize.mask) = true ∧ s.reg O.evRingSize ≠ v) :=
  ⟨⟨{ wUp.setReg O.evEnable 0 with raises := [⟨0, 5, 7, 0⟩] }, ⟨0, 5, 7, 0⟩, [], by decide +kernel⟩,
   ⟨{ (((wUp.setReg O.evEnable 32).setReg O.evRoute 4095 0 5).setReg O.evRingSize 4096).setHidden H.unmasked 1 2047 with raises := [⟨0, 5, 7, 0⟩] }, ⟨0, 5, 7, 0⟩, [], 2047, by decide +kernel⟩,
   ⟨wUp.setHidden H.modOn 1 2047, 2047, by decide +kernel⟩,
   ⟨((wUp.setHidden H.modPend 1 0).setHidden H.unmasked 1 0).setReg O.evModUs 5, 0, by decide +kernel⟩,
   ⟨wUp, 2047, by decide +kernel⟩,
   ⟨wUp.setHidden H.pba 1 7, 7, by decide +kernel⟩,
   ⟨wUp, .host, 2 ^ 32 - 1, by decide +kernel⟩,
   ⟨wUp, .host, 4096, by decide +kernel⟩,
   ⟨wUp, .host, 65536, by decide +kernel⟩⟩

/-- The hypotheses of `ObjectWrites` are met. -/
theorem test_meets_ObjectWrites :
    (∃ (s : State) (m : Master) (index : Nat) (sub : Nat) (b : List Byte) (r : Row) (i : Nat) (j : Nat), Owner s m ∧ objectFor m index sub = some (r, i, j) ∧ r.cls = .plan ∧ r.ty ≠ .domain ∧ b.length = r.ty.size ∧ r.checks (ofLe b &&& r.mask) = true ∧ s.adm = none ∧ s.hidden H.planWait = 0 ∧ s.awaiting = none) ∧
    (∃ (s : State) (m : Master) (index : Nat) (sub : Nat) (b : List Byte) (r : Row) (i : Nat) (j : Nat), Owner s m ∧ objectFor m index sub = some (r, i, j) ∧ r.cls = .own ∧ r.ty ≠ .domain ∧ b.length = r.ty.size ∧ r.checks (ofLe b &&& r.mask) = true ∧ (systemActs m ++ timeActs ++ pathActs).all (fun e => e.1 != r) = true ∧ r ≠ O.tcSet ∧ r ≠ O.tcStep) ∧
    (∃ (s : State) (m : Master) (index : Nat) (sub : Nat) (b : List Byte) (r : Row) (i : Nat) (j : Nat), Served s m ∧ objectFor m index sub = some (r, i, j) ∧ r.cls = .rw ∧ (r.host = false ∨ s.mbx = none) ∧ r ≠ O.myId ∧ r ≠ O.mbxData ∧ r.ty ≠ .domain ∧ b.length = r.ty.size ∧ r.checks (ofLe b &&& r.mask) = true ∧ (systemActs m ++ timeActs ++ pathActs).all (fun e => e.1 != r) = true ∧ r ≠ O.tcSet ∧ r ≠ O.tcStep) ∧
    (∃ (s : State) (m : Master) (index : Nat) (sub : Nat) (r : Row) (i : Nat) (j : Nat), Served s m ∧ objectFor m index sub = some (r, i, j) ∧ r.cls = .ro) ∧
    (∃ (s : State) (m : Master) (index : Nat) (sub : Nat) (r : Row) (i : Nat) (j : Nat), Served s m ∧ s.owns m = false ∧ objectFor m index sub = some (r, i, j) ∧ (r.cls = .own ∨ r.cls = .plan ∨ r.cls = .live ∨ (r.cls = .wo ∧ r.host = false))) ∧
    (∃ (s : State) (off : Nat) (w : Nat) (v : Nat) (r : Row) (i : Nat) (j : Nat), Owner s .host ∧ bar0Form off w = true ∧ off % 8 = 0 ∧ objectFor .host (off / 2048) (off % 2048 / 8) = some (r, i, j) ∧ r.cls = .own ∧ r.ty.scalar = true ∧ r.ty.size ≤ w ∧ r.checks (v % 2 ^ (8 * r.ty.size) &&& r.mask) = true ∧ (systemActs .host ++ timeActs ++ pathActs).all (fun e => e.1 != r) = true) ∧
    (∃ (s : State) (off : Nat) (w : Nat), Served s .host ∧ bar0Form off w = false ∧ objectFor .host (off / 2048 % 65536) (off % 2048 / 8) = none) ∧
    (∃ (s : State) (off : Nat) (w : Nat), Served s .host ∧ bar0Form off w = false ∧ (s.judgeRead .host (off / 2048 % 65536) (off % 2048 / 8) 0).toOption.isSome = true) ∧
    (∃ (s : State) (m : Master) (key : List Byte), Owner s m ∧ key.length = 32 ∧ s.sess = []) :=
  ⟨⟨wUp, .host, 0x1000, 1, [1], O.cvEnable, 0, 0, by decide +kernel⟩,
   ⟨wUp, .host, 0x600, 7, [0x88, 0x13, 0, 0], O.frTimer, 0, 0, by decide +kernel⟩,
   ⟨wUp, .host, 0x200, 0x15, [1], O.readView, 0, 0, by decide +kernel⟩,
   ⟨wUp, .host, 0x200, 1, O.ownerId, 0, 0, by decide +kernel⟩,
   ⟨wServed, .host, 0x600, 7, O.frTimer, 0, 0, by decide +kernel⟩,
   ⟨wUp, 0x600 * 2048 + 7 * 8, 8, 5000, O.frTimer, 0, 0, by decide +kernel⟩,
   ⟨wUp, 3, 2, by decide +kernel⟩,
   ⟨wUp, 0x200 * 2048 + 9, 2, by decide +kernel⟩,
   ⟨wUp, .host, List.replicate 32 9, by decide +kernel⟩⟩

/-- The hypotheses of `MailboxCommands` are met. -/
theorem test_meets_MailboxCommands :
    (∃ (s : State), Served s .host ∧ s.mbx = none) ∧
    (∃ (s : State), Served s .host ∧ s.mbx = none) ∧
    (∃ (s : State), Served s .host ∧ s.mbx = none) ∧
    (∃ (s : State), Served s .host ∧ s.mbx = none) ∧
    (∃ (s : State), Served s .host ∧ s.mbx = none) ∧
    (∃ (s : State), Served s .host ∧ s.mbx = none) ∧
    (∃ (s : State) (r : Row) (i : Nat) (j : Nat), Served s .host ∧ s.mbx = none ∧ (s.judgeRead .host (bits (s.regOf O.mbxTarget 1) 31 16) (bits (s.regOf O.mbxTarget 1) 15 8) (s.regOf O.mbxTarget 1 % 2)).toOption = some (r, i, j) ∧ r.ty ≠ .domain ∧ s.regOf O.mbxOffset 1 = 0) ∧
    (∃ (s : State) (r : Row) (i : Nat) (j : Nat), Owner s .host ∧ s.mbx = none ∧ objectFor .host (bits (s.regOf O.mbxTarget 1) 31 16) (bits (s.regOf O.mbxTarget 1) 15 8) = some (r, i, j) ∧ r.cls = .own ∧ r.ty ≠ .domain ∧ (s.regOf O.mbxLength 1) = r.ty.size ∧ s.regOf O.mbxOffset 1 = 0 ∧ r.checks (ofLe (Map.getBytes s.mbxData 0 (s.regOf O.mbxLength 1)) &&& r.mask) = true ∧ (systemActs .host ++ timeActs ++ pathActs).all (fun e => e.1 != r) = true ∧ r ≠ O.tcSet ∧ r ≠ O.tcStep) ∧
    (∃ (s : State) (r : Row) (i : Nat) (j : Nat), Served s .host ∧ s.mbx = none ∧ (s.judgeRead .host (bits (s.regOf O.mbxTarget 1) 31 16) (bits (s.regOf O.mbxTarget 1) 15 8) (s.regOf O.mbxTarget 1 % 2)).toOption = some (r, i, j) ∧ r.ty = .domain ∧ s.regOf O.mbxOffset 1 = 0 ∧ 0 < (s.regOf O.mbxLength 1) ∧ (s.regOf O.mbxLength 1) < (s.domBytes r i j).length ∧ s.xfers = []) ∧
    (∃ (s : State) (r : Row) (i : Nat) (j : Nat), Owner s .host ∧ s.mbx = none ∧ objectFor .host (bits (s.regOf O.mbxTarget 1) 31 16) (bits (s.regOf O.mbxTarget 1) 15 8) = some (r, i, j) ∧ r.ty = .domain ∧ r.cls = .own ∧ s.regOf O.mbxOffset 1 = 0 ∧ 0 < (s.regOf O.mbxLength 1) ∧ s.xfers = []) ∧
    (∃ (s : State) (sl : Fin 32), Owner s .host ∧ s.mbx = none ∧ objectFor .host (bits (s.regOf O.mbxTarget 1) 31 16) (bits (s.regOf O.mbxTarget 1) 15 8) = some (O.firCoef, sl.val, 0) ∧ s.regOf O.mbxOffset 1 = 0 ∧ 0 < (s.regOf O.mbxLength 1) ∧ (s.regOf O.mbxLength 1) = (s.regOf O.mbxTotal 1) ∧ s.xfers = [] ∧ (s.regOf O.mbxLength 1) % 4 = 0 ∧ (s.regOf O.mbxLength 1) ≤ 384 ∧ ((∀ c ∈ words32 (Map.getBytes s.mbxData 0 (s.regOf O.mbxLength 1)), -131072 ≤ c ∧ c ≤ 131071)) ∧ s.anyPlan (fun p => planVal p O.ddcEnable sl.val == 1) = false) ∧
    (∃ (s : State) (x : Xfer), Owner s .host ∧ s.mbx = none ∧ objectFor .host (bits (s.regOf O.mbxTarget 1) 31 16) (bits (s.regOf O.mbxTarget 1) 15 8) = some (O.xoTcTable, 0, 0) ∧ s.xfers = [x] ∧ x.master = 1 ∧ x.key = O.xoTcTable.key 0 0 ∧ x.write = true ∧ s.regOf O.mbxOffset 1 = x.data.length ∧ x.data ≠ [] ∧ x.data.length + (s.regOf O.mbxLength 1) = 704 ∧ x.total = 704 ∧ 0 < (s.regOf O.mbxLength 1)) ∧
    (∃ (s : State) (r : Row) (i : Nat) (j : Nat), Served s .host ∧ s.mbx = none ∧ objectFor .host (bits (s.regOf O.mbxTarget 1) 31 16) (bits (s.regOf O.mbxTarget 1) 15 8) = some (r, i, j)) ∧
    (∃ (s : State) (c : MbxRun) (r : Row) (i : Nat) (j : Nat), s.mbx = some c ∧ c.cmd = 1 ∧ c.abort = 0 ∧ s.hidden H.hostUp = 1 ∧ s.regOf O.mbxOffset 1 = 0 ∧ (s.judgeRead .host (bits (s.regOf O.mbxTarget 1) 31 16) (bits (s.regOf O.mbxTarget 1) 15 8) (s.regOf O.mbxTarget 1 % 2)).toOption = some (r, i, j) ∧ (({ s with mbx := none } : State).objBytes .host r i j (s.regOf O.mbxTarget 1 % 2)).length ≤ 2048) ∧
    (∃ (s : State) (c : MbxRun), s.mbx = some c ∧ c.abort ≠ 0 ∧ s.hidden H.hostUp = 1) :=
  ⟨⟨wServed, by decide +kernel⟩,
   ⟨wServed, by decide +kernel⟩,
   ⟨wServed, by decide +kernel⟩,
   ⟨wServed, by decide +kernel⟩,
   ⟨wServed, by decide +kernel⟩,
   ⟨wServed, by decide +kernel⟩,
   ⟨(wServed.setRegOf O.mbxTarget 1 0x02000100), O.ownerId, 0, 0, by decide +kernel⟩,
   ⟨({ (((wUp.setRegOf O.mbxTarget 1 0x06000700).setRegOf O.mbxLength 1 4).setRegOf O.mbxTotal 1 0) with mbxData := Map.putBytes [] 0 (leBytes 5000 4) } : State), O.frTimer, 0, 0, by decide +kernel⟩,
   ⟨(((wServed.setRegOf O.mbxTarget 1 0x80800100).setRegOf O.mbxLength 1 8).setRegOf O.mbxTotal 1 0), O.xoTcTable, 0, 0, by decide +kernel⟩,
   ⟨(((wUp.setRegOf O.mbxTarget 1 0x80800100).setRegOf O.mbxLength 1 8).setRegOf O.mbxTotal 1 704), O.xoTcTable, 0, 0, by decide +kernel⟩,
   ⟨(((wUp.setRegOf O.mbxTarget 1 0x841F0100).setRegOf O.mbxLength 1 8).setRegOf O.mbxTotal 1 8), 31, by decide +kernel⟩,
   ⟨({ ((((wUp.setRegOf O.mbxTarget 1 0x80800100).setRegOf O.mbxLength 1 4).setRegOf O.mbxTotal 1 704).setRegOf O.mbxOffset 1 700) with xfers := [⟨1, O.xoTcTable.key 0 0, true, 704, List.replicate 700 1, 0, false⟩] } : State), ⟨1, O.xoTcTable.key 0 0, true, 704, List.replicate 700 1, 0, false⟩, by decide +kernel⟩,
   ⟨({ (((wServed.setRegOf O.mbxTarget 1 0x80800100).setRegOf O.mbxLength 1 4).setRegOf O.mbxTotal 1 704) with xfers := [⟨1, O.xoTcTable.key 0 0, true, 704, [], 0, false⟩, ⟨2, O.xoTcTable.key 0 0, true, 704, [], 0, false⟩] } : State), O.xoTcTable, 0, 0, by decide +kernel⟩,
   ⟨{ wUp.setRegOf O.mbxTarget 1 0x02000100 with mbx := some ⟨1, 0x20001, 0, false⟩ }, ⟨1, 0x20001, 0, false⟩, O.ownerId, 0, 0, by decide +kernel⟩,
   ⟨{ wServed with mbx := some ⟨2, 0x20001, Abort.notOwner, true⟩ }, ⟨2, 0x20001, Abort.notOwner, true⟩, by decide +kernel⟩⟩

/-- The hypotheses of `SessionRequests` are met. -/
theorem test_meets_SessionRequests :
    (∃ (s : State) (n : Nat) (q : AdpMsg) (r : Row) (i : Nat) (j : Nat), Accepts s n 1 q ∧ (s.judgeRead (sessMaster n) (fieldAt q.payload 0 2) (fieldAt q.payload 2 1) (fieldAt q.payload 3 1)).toOption = some (r, i, j) ∧ r.ty ≠ .domain ∧ r ≠ O.sessOpen) ∧
    (∃ (s : State) (n : Nat) (q : AdpMsg) (r : Row) (i : Nat) (j : Nat), Accepts s n 2 q ∧ s.owns (sessMaster n) = true ∧ objectFor (sessMaster n) (fieldAt q.payload 0 2) (fieldAt q.payload 2 1) = some (r, i, j) ∧ r.cls = .own ∧ r.ty ≠ .domain ∧ q.payload.length = 6 + r.ty.size ∧ r.checks (ofBe (q.payload.drop 6) &&& r.mask) = true ∧ (systemActs (sessMaster n) ++ timeActs ++ pathActs).all (fun e => e.1 != r) = true ∧ r ≠ O.tcSet ∧ r ≠ O.tcStep) ∧
    (∃ (s : State) (n : Nat) (q : AdpMsg) (r : Row) (i : Nat) (j : Nat), Accepts s n 3 q ∧ (s.judgeRead (sessMaster n) (fieldAt q.payload 0 2) (fieldAt q.payload 2 1) (fieldAt q.payload 3 1)).toOption = some (r, i, j) ∧ r.ty = .domain ∧ fieldAt q.payload 4 4 = 0 ∧ 0 < fieldAt q.payload 8 2 ∧ fieldAt q.payload 8 2 ≤ 1024 ∧ fieldAt q.payload 8 2 < (s.domBytes r i j).length ∧ s.xfers = []) ∧
    (∃ (s : State) (n : Nat) (q : AdpMsg) (r : Row) (i : Nat) (j : Nat), Accepts s n 4 q ∧ s.owns (sessMaster n) = true ∧ objectFor (sessMaster n) (fieldAt q.payload 0 2) (fieldAt q.payload 2 1) = some (r, i, j) ∧ r.ty = .domain ∧ r.cls = .own ∧ fieldAt q.payload 4 4 = 0 ∧ fieldAt q.payload 3 1 = 0 ∧ fieldAt q.payload 12 2 ≤ 1024 ∧ s.xfers = []) ∧
    (∃ (s : State) (n : Nat) (q : AdpMsg), Accepts s n 6 q ∧ s.owns (sessMaster n) = true ∧ s.reg O.ownerId ≠ 0) ∧
    (∃ (s : State) (n : Nat) (q : AdpMsg) (l : List (Master × Nat)), Accepts s n 5 q ∧ s.reg O.ownerId = 0 ∧ ((∀ x ∈ l, s.connected x.1 = false))) ∧
    (∃ (s : State) (n : Nat) (q : AdpMsg), Accepts s n 7 q ∧ s.owns (sessMaster n) = true ∧ fieldAt q.payload 0 1 ≠ 0 ∧ fieldAt q.payload 0 1 ≠ (sessMaster n).id ∧ s.idConnected (fieldAt q.payload 0 1) = true) ∧
    (∃ (s : State) (n : Nat) (q : AdpMsg), Accepts s n 8 q ∧ s.reg O.ownerState = 2 ∧ s.reg O.successorId = (sessMaster n).id) ∧
    (∃ (s : State) (n : Nat) (q : AdpMsg), Accepts s n 9 q ∧ 0 < fieldAt q.payload 2 2 ∧ fieldAt q.payload 0 2 + fieldAt q.payload 2 2 ≤ 2048 ∧ fieldAt q.payload 4 1 = 1) :=
  ⟨⟨wAdp, 0, wMsg wAdp 1 [2, 0, 1, 0], O.ownerId, 0, 0, ⟨⟨by decide +kernel, by decide +kernel, by decide +kernel, by decide +kernel, by decide +kernel, by decide +kernel, wMsg_tag _ _ _ _ (by decide +kernel) (by decide +kernel) (by decide +kernel), by decide +kernel, by decide +kernel, by decide +kernel, by decide +kernel⟩, by decide +kernel, by decide +kernel, by decide +kernel⟩⟩,
   ⟨wAdp, 0, wMsg wAdp 2 [6, 0, 7, 0, 0, 4, 0, 0, 0x13, 0x88], O.frTimer, 0, 0, ⟨⟨by decide +kernel, by decide +kernel, by decide +kernel, by decide +kernel, by decide +kernel, by decide +kernel, wMsg_tag _ _ _ _ (by decide +kernel) (by decide +kernel) (by decide +kernel), by decide +kernel, by decide +kernel, by decide +kernel, by decide +kernel⟩, by decide +kernel, by decide +kernel, by decide +kernel, by decide +kernel, by decide +kernel, by decide +kernel, by decide +kernel, by decide +kernel, by decide +kernel⟩⟩,
   ⟨wAdp, 0, wMsg wAdp 3 [0x80, 0x80, 1, 0, 0, 0, 0, 0, 0, 8], O.xoTcTable, 0, 0, ⟨⟨by decide +kernel, by decide +kernel, by decide +kernel, by decide +kernel, by decide +kernel, by decide +kernel, wMsg_tag _ _ _ _ (by decide +kernel) (by decide +kernel) (by decide +kernel), by decide +kernel, by decide +kernel, by decide +kernel, by decide +kernel⟩, by decide +kernel, by decide +kernel, by decide +kernel, by decide +kernel, by decide +kernel, by decide +kernel, by decide +kernel⟩⟩,
   ⟨wAdp, 0, wMsg wAdp 4 [0x80, 0x80, 1, 0, 0, 0, 0, 0, 0, 0, 2, 0xC0, 0, 2, 5, 6], O.xoTcTable, 0, 0, ⟨⟨by decide +kernel, by decide +kernel, by decide +kernel, by decide +kernel, by decide +kernel, by decide +kernel, wMsg_tag _ _ _ _ (by decide +kernel) (by decide +kernel) (by decide +kernel), by decide +kernel, by decide +kernel, by decide +kernel, by decide +kernel⟩, by decide +kernel, by decide +kernel, by decide +kernel, by decide +kernel, by decide +kernel, by decide +kernel, by decide +kernel, by decide +kernel⟩⟩,
   ⟨wAdp, 0, wMsg wAdp 6 [], ⟨⟨by decide +kernel, by decide +kernel, by decide +kernel, by decide +kernel, by decide +kernel, by decide +kernel, wMsg_tag _ _ _ _ (by decide +kernel) (by decide +kernel) (by decide +kernel), by decide +kernel, by decide +kernel, by decide +kernel, by decide +kernel⟩, by decide +kernel, by decide +kernel⟩⟩,
   ⟨(wAdp.setReg O.ownerId 0), 0, wMsg (wAdp.setReg O.ownerId 0) 5 [7], [(.can, 9)], ⟨⟨by decide +kernel, by decide +kernel, by decide +kernel, by decide +kernel, by decide +kernel, by decide +kernel, wMsg_tag _ _ _ _ (by decide +kernel) (by decide +kernel) (by decide +kernel), by decide +kernel, by decide +kernel, by decide +kernel, by decide +kernel⟩, by decide +kernel, by decide +kernel⟩⟩,
   ⟨wAdp, 0, wMsg wAdp 7 [1], ⟨⟨by decide +kernel, by decide +kernel, by decide +kernel, by decide +kernel, by decide +kernel, by decide +kernel, wMsg_tag _ _ _ _ (by decide +kernel) (by decide +kernel) (by decide +kernel), by decide +kernel, by decide +kernel, by decide +kernel, by decide +kernel⟩, by decide +kernel, by decide +kernel, by decide +kernel, by decide +kernel⟩⟩,
   ⟨((wAdp.setReg O.ownerState 2).setReg O.successorId 0x10).setReg O.ownerId 1, 0, wMsg (((wAdp.setReg O.ownerState 2).setReg O.successorId 0x10).setReg O.ownerId 1) 8 [], ⟨⟨by decide +kernel, by decide +kernel, by decide +kernel, by decide +kernel, by decide +kernel, by decide +kernel, wMsg_tag _ _ _ _ (by decide +kernel) (by decide +kernel) (by decide +kernel), by decide +kernel, by decide +kernel, by decide +kernel, by decide +kernel⟩, by decide +kernel, by decide +kernel⟩⟩,
   ⟨wAdp, 0, wMsg wAdp 9 [7, 255, 0, 1, 1], ⟨⟨by decide +kernel, by decide +kernel, by decide +kernel, by decide +kernel, by decide +kernel, by decide +kernel, wMsg_tag _ _ _ _ (by decide +kernel) (by decide +kernel) (by decide +kernel), by decide +kernel, by decide +kernel, by decide +kernel, by decide +kernel⟩, by decide +kernel, by decide +kernel, by decide +kernel⟩⟩⟩

/-- The hypotheses of `SessionLife` are met. -/
theorem test_meets_SessionLife :
    (∃ (s : State) (ty : Byte) (q : AdpMsg) (n : Nat), q.session = 0xFF ∧ s.portServes q.port.val = true ∧ q.version = 1 ∧ s.tagOk ty.toNat q 0 = true ∧ q.seq = 0 ∧ s.freeSession q.port.val = some n) ∧
    (∃ (s : State) (n : Nat) (q : AdpMsg) (ty : Byte), s.portServes q.port.val = true ∧ q.version = 1 ∧ q.session.toNat = n ∧ portSession q.port.val n = true ∧ (s.session n).isOpen = true ∧ q.keyId.toNat = (s.session n).key ∧ s.tagOk ty.toNat q (s.session n).nonce = true ∧ (s.session n).rxSeq < q.seq.toNat ∧ q.payloadLen.toNat = q.payload.length ∧ q.payload.length ≤ 1400 ∧ adpTypes.contains ty.toNat = false) ∧
    (∃ (s : State) (n : Nat) (q : AdpMsg) (r : Row) (i : Nat) (j : Nat), Accepts s n 11 q ∧ fieldAt q.payload 0 4 ≠ Abort.sessClose ∧ objectFor (sessMaster n) (fieldAt q.payload 4 2) (fieldAt q.payload 6 1) = some (r, i, j)) ∧
    (∃ (s : State) (n : Nat) (q : AdpMsg), Accepts s n 11 q ∧ fieldAt q.payload 0 4 = Abort.sessClose ∧ s.reg O.ownerId ≠ sessionId n ∧ s.reg O.ownerState ≠ 2) ∧
    (∃ (s : State) (k : Fin 9), (s.session k.val).isOpen = true ∧ s.reg O.ownerId ≠ sessionId k.val ∧ s.reg O.ownerState ≠ 2) ∧
    (∃ (s : State) (ident : BitVec 11) (data : List Byte) (frag : List Byte) (c : Byte), data = c :: frag ∧ s.portServes 2 = true ∧ ident.toNat = 0b0110 * 128 + s.reg O.canNode ∧ c = 0x80) ∧
    (∃ (s : State) (ident : BitVec 11) (data : List Byte) (frag : List Byte) (c : Byte) (x : CanAsm) (n : Nat) (q : AdpMsg), data = c :: frag ∧ ident.toNat = 0b0110 * 128 + s.reg O.canNode ∧ s.can = some x ∧ x.next < 64 ∧ c.toNat = 64 + x.next ∧ q.port = 2 ∧ q.peer = {} ∧ q.tag.length = 32 ∧ x.data ++ frag = adpHeader 6 q.flags.toNat q.session.toNat q.keyId.toNat q.payload.length q.seq.toNat q.txn.toNat ++ q.payload ++ q.tag ∧ Accepts s n 6 q ∧ s.owns (sessMaster n) = true ∧ s.reg O.ownerId ≠ 0) ∧
    (∃ (s : State) (k : Fin 9), (s.session k.val).isOpen = true ∧ (s.session k.val).queue ≠ [] ∧ (s.session k.val).dropped = 0) :=
  ⟨⟨wAdp, 1, wHello wAdp 1, 1, ⟨by decide +kernel, by decide +kernel, by decide +kernel, wHello_tag _ _ (by decide +kernel), by decide +kernel, by decide +kernel⟩⟩,
   ⟨wAdp, 0, wMsg wAdp 0x70 [0, 0, 0, 0, 0, 0, 0, 0], 0x70, ⟨by decide +kernel, by decide +kernel, by decide +kernel, by decide +kernel, by decide +kernel, by decide +kernel, wMsg_tag _ _ _ _ (by decide +kernel) (by decide +kernel) (by decide +kernel), by decide +kernel, by decide +kernel, by decide +kernel, by decide +kernel⟩⟩,
   ⟨wAdp, 0, wMsg wAdp 11 [0, 0, 0, 0, 0x80, 0x80, 1, 0], O.xoTcTable, 0, 0, ⟨⟨by decide +kernel, by decide +kernel, by decide +kernel, by decide +kernel, by decide +kernel, by decide +kernel, wMsg_tag _ _ _ _ (by decide +kernel) (by decide +kernel) (by decide +kernel), by decide +kernel, by decide +kernel, by decide +kernel, by decide +kernel⟩, by decide +kernel, by decide +kernel⟩⟩,
   ⟨wAdp.setReg O.ownerId 1, 0, wMsg (wAdp.setReg O.ownerId 1) 11 (beBytes Abort.sessClose 4 ++ [0, 0, 0, 0]), ⟨⟨by decide +kernel, by decide +kernel, by decide +kernel, by decide +kernel, by decide +kernel, by decide +kernel, wMsg_tag _ _ _ _ (by decide +kernel) (by decide +kernel) (by decide +kernel), by decide +kernel, by decide +kernel, by decide +kernel, by decide +kernel⟩, by decide +kernel, by decide +kernel, by decide +kernel⟩⟩,
   ⟨wAdp.setReg O.ownerId 1, 0, by decide +kernel⟩,
   ⟨wAdp, 0x310, [0x80, 1, 2], [1, 2], 0x80, by decide +kernel⟩,
   ⟨wCan, 0x310, [0x49], [], 0x49, ⟨wCanBytes, 9⟩, 8, wCanMsg, ⟨by decide +kernel, by decide +kernel, by decide +kernel, by decide +kernel, by decide +kernel, by decide +kernel, by decide +kernel, wCan_len, wCan_join, ⟨by decide +kernel, by decide +kernel, by decide +kernel, by decide +kernel, by decide +kernel, by decide +kernel, wCan_tag, by decide +kernel, by decide +kernel, by decide +kernel, by decide +kernel⟩, by decide +kernel, by decide +kernel⟩⟩,
   ⟨{ wAdp with sess := [(8, { ({} : Session) with isOpen := true, queue := [⟨5, 0, 7⟩] })] }, 8, by decide +kernel⟩⟩

/-- The hypotheses of `PlanCommands` are met. -/
theorem test_meets_PlanCommands :
    (∃ (s : State) (m : Master), Owner s m ∧ s.hidden H.boot = 7 ∧ s.adm = none ∧ s.hidden H.planWait = 0 ∧ s.awaiting = none ∧ s.reg O.pwrState < 3 ∧ s.reg O.pllaState ≠ 0) ∧
    (∃ (s : State) (m : Master), Owner s m ∧ s.hidden H.boot = 7 ∧ s.adm = none ∧ s.hidden H.planWait = 0 ∧ s.awaiting = none ∧ s.reg O.pwrState < 3 ∧ s.reg O.pllaState ≠ 0) ∧
    (∃ (s : State) (m : Master), Owner s m ∧ s.hidden H.boot = 7 ∧ s.adm = none ∧ s.hidden H.planWait = 0 ∧ s.awaiting = none ∧ s.reg O.pwrState < 3 ∧ s.reg O.pllaState ≠ 0 ∧ s.armed = none ∧ s.timeUnset = false) ∧
    (∃ (s : State) (m : Master), Owner s m ∧ s.hidden H.boot = 7 ∧ s.adm = none ∧ s.hidden H.planWait = 0 ∧ s.awaiting = none ∧ s.reg O.pwrState < 3 ∧ s.reg O.pllaState ≠ 0) ∧
    (∃ (s : State) (m : Master), Owner s m ∧ s.hidden H.boot = 7 ∧ s.adm = none ∧ s.hidden H.planWait = 0 ∧ s.awaiting = none ∧ s.reg O.pwrState < 3 ∧ s.reg O.pllaState ≠ 0) ∧
    (∃ (s : State) (m : Master), Owner s m ∧ s.hidden H.boot = 7 ∧ s.adm = none ∧ s.hidden H.planWait = 0 ∧ s.awaiting = none ∧ s.reg O.pwrState < 3 ∧ s.reg O.pllaState ≠ 0 ∧ s.armed.isSome = true) :=
  ⟨⟨(wUp.setReg O.pllaState 2), .host, by decide +kernel⟩,
   ⟨(wUp.setReg O.pllaState 2), .host, by decide +kernel⟩,
   ⟨(wUp.setReg O.pllaState 2).setReg O.tcValid 1, .host, by decide +kernel⟩,
   ⟨(wUp.setReg O.pllaState 2), .host, by decide +kernel⟩,
   ⟨(wUp.setReg O.pllaState 2), .host, by decide +kernel⟩,
   ⟨{ (wUp.setReg O.pllaState 2) with armed := some [] }, .host, by decide +kernel⟩⟩

/-- The hypotheses of `PlansTakeEffect` are met. -/
theorem test_meets_PlansTakeEffect :
    (∃ (s : State) (a : Admission), s.adm = some a ∧ s.judge1 a.cmd = [] ∧ (a.cmd = 1 ∨ a.bare = true)) ∧
    (∃ (s : State), s.adm = some { cmd := 2 } ∧ s.judge1 2 = []) ∧
    (∃ (s : State) (a : Admission) (f : AdmFail), s.adm = some a ∧ admFirst (s.judge1 a.cmd) = some f) ∧
    (∃ (s : State) (p : Store), s.awaiting = some p ∧ s.commitDue = true) ∧
    (∃ (s : State) (p : Store) (e : Nat), s.armed = some p ∧ s.commitEntry = some e ∧ s.pendDue e = true ∧ s.hidden H.safeDue < 2 ∧ s.spareLost p = false) ∧
    (∃ (s : State), s.commitDue = true) ∧
    (∃ (s : State), s.timedDue.isSome = true) ∧
    (∃ (s : State), s.hidden H.safeDue ≠ 0) ∧
    (∃ (s : State) (ch : Fin 4), s.sampling ch.val = true ∧ s.idx ≤ (s.cv ch.val).next) ∧
    (∃ (s : State) (e : Fin 4), s.engLags e.val = true) :=
  ⟨⟨{ wUp with adm := some { cmd := 1 } }, { cmd := 1 }, by decide +kernel⟩,
   ⟨{ wUp with adm := some { cmd := 2 } }, by decide +kernel⟩,
   ⟨{ wUp with adm := some { cmd := 1 }, staged := [(O.cvEnable.key 0 0, 1), (O.aqEnable.key 0 0, 1)] }, { cmd := 1 }, { code := 11, obj := 1966086 }, by decide +kernel⟩,
   ⟨{ wUp with awaiting := some [(O.cvEnable.key 0 0, 1)] }, [(O.cvEnable.key 0 0, 1)], by decide +kernel⟩,
   ⟨{ (wUp.setReg O.taState 2 9).setReg O.taKind 1 9 with armed := some [] }, [], 9, by decide +kernel⟩,
   ⟨{ wUp with awaiting := some [] }, by decide +kernel⟩,
   ⟨{ (wUp.setReg O.taState 2 9).setReg O.taKind 1 9 with armed := some [] }, by decide +kernel⟩,
   ⟨wUp.setHidden H.safeDue 1, by decide +kernel⟩,
   ⟨{ wUp.setReg O.pllaState 2 with active := [(O.cvEnable.key 3 0, 1)], conv := [(3, { ({} : Conv) with next := 2 ^ 60 })] }, 3, by decide +kernel⟩,
   ⟨{ wUp with lag := [(O.teTaps.key 1 0, 4)] }, 1, by decide +kernel⟩⟩

/-- The hypotheses of `PowerStates` are met. -/
theorem test_meets_PowerStates :
    (∃ (s : State), s.reg O.pllaState ≠ 0) ∧
    (∃ (s : State), s.reg O.pllaState ≠ 0 ∧ s.hidden H.boot = 7) ∧
    (∃ (s : State), s.reg O.pllaState ≠ 0 ∧ s.pwrGoal ≠ 0) ∧
    (∃ (s : State) (st : Nat), s.hidden H.pwrNext = st + 1 ∧ st ≤ 2 ∧ s.reg O.pllaState = 2 ∧ s.hidden H.planWait = 0 ∧ s.reg O.pwrState ≠ 4 ∧ s.reg O.pwrState ≠ st) ∧
    (∃ (s : State) (m : Master) (c : Fin 8) (v : Nat), Owner s m ∧ s.reg O.pllaState ≠ 0 ∧ v < 2 ^ 32 ∧ ¬ ((s.setReg O.pwrLtol v 0 c.val).floorLat = 0 ∧ f32 (s.reg O.powerCap) < f32 (s.reg O.pwrP0Est))) ∧
    (∃ (s : State) (m : Master) (v : Nat), Owner s m ∧ v < 2 ^ 32 ∧ O.powerCap.checks (v &&& O.powerCap.mask) = true ∧ f32 (s.reg O.activePowerEst) ≤ f32 v ∧ (s.floorLat = 0 → f32 (s.reg O.pwrP0Est) ≤ f32 v)) ∧
    (∃ (s : State), s.reg O.pllaState ≠ 0) ∧
    (∃ (s : State), s.reg O.pllaState ≠ 0) :=
  ⟨⟨(wUp.setReg O.pllaState 2), by decide +kernel⟩,
   ⟨(wUp.setReg O.pllaState 2), by decide +kernel⟩,
   ⟨(wUp.setReg O.pllaState 2).setReg O.pwrState 2, by decide +kernel⟩,
   ⟨(wUp.setReg O.pllaState 2).setHidden H.pwrNext 3, 2, by decide +kernel⟩,
   ⟨(wUp.setReg O.pllaState 2), .host, 7, 2 ^ 32 - 1, by decide +kernel⟩,
   ⟨wUp, .host, 0x41F00000, by decide +kernel⟩,
   ⟨(wUp.setReg O.pllaState 2), by decide +kernel⟩,
   ⟨(wUp.setReg O.pllaState 2), by decide +kernel⟩⟩

/-- The hypotheses of `PowerDomains` are met. -/
theorem test_meets_PowerDomains :
    (∃ (s : State) (m : Master) (dom : Fin 64), Owner s m ∧ 1 ≤ dom.val ∧ dom.val ≤ 38) ∧
    (∃ (s : State) (m : Master) (dom : Fin 64), Owner s m ∧ 1 ≤ dom.val ∧ dom.val ≤ 38 ∧ s.arrivesBy m dom.val = false ∧ s.used dom.val = false ∧ s.fitting = none ∧ s.hidden H.visit dom.val = 0 ∧ bit (s.reg O.pwrDomainOn) dom.val = true) ∧
    (∃ (s : State) (dom : Fin 64), s.hidden H.quiesce dom.val = 1) ∧
    (∃ (s : State) (dom : Fin 64), 1 ≤ dom.val ∧ dom.val ≤ 38 ∧ s.hidden H.quiesce dom.val = 1 ∧ s.used dom.val = false ∧ s.fitting = none ∧ s.hidden H.visit dom.val = 0 ∧ bit (s.reg O.pwrHeldOff) dom.val = true) ∧
    (∃ (s : State) (dom : Fin 64), s.hidden H.quiesce dom.val = 1) ∧
    (∃ (s : State) (dom : Fin 64), bit (s.reg O.pwrDomainOn) dom.val = false ∧ dom.val ≤ 38) ∧
    (∃ (s : State) (dom : Fin 64), bit (s.reg O.pwrDomainOn) dom.val = false ∧ dom.val ≤ 38 ∧ s.hidden H.xcPend dom.val ≠ 1 ∧ s.reg O.pllaState ≠ 0) ∧
    (∃ (s : State) (dom : Fin 64), bit (s.reg O.pwrDomainOn) dom.val = false ∧ dom.val ≤ 38 ∧ s.hidden H.xcPend dom.val = 1 ∧ bit (s.reg O.xcOverrun) dom.val = false ∧ s.hidden H.rare 0x03B = 0) :=
  ⟨⟨wUp, .host, 38, by decide +kernel⟩,
   ⟨wUp, .host, 38, by decide +kernel⟩,
   ⟨wUp.setHidden H.quiesce 1 5, 5, by decide +kernel⟩,
   ⟨(wUp.setHidden H.quiesce 1 38).setReg O.pwrHeldOff (2 ^ 38), 38, by decide +kernel⟩,
   ⟨wUp.setHidden H.quiesce 1 5, 5, by decide +kernel⟩,
   ⟨wUp.setReg O.pwrDomainOn 1, 38, by decide +kernel⟩,
   ⟨(wUp.setReg O.pllaState 2).setReg O.pwrDomainOn 1, 38, by decide +kernel⟩,
   ⟨(wUp.setReg O.pwrDomainOn 1).setHidden H.xcPend 1 38, 38, by decide +kernel⟩⟩

/-- The hypotheses of `ServiceAndLedger` are met. -/
theorem test_meets_ServiceAndLedger :
    (∃ (s : State) (m : Master) (v : Nat), Owner s m ∧ v < 2 ^ 24 ∧ bits v 7 0 ≠ 0 ∧ fitUnit (bits v 7 0) (bits v 15 8) (bits v 23 16) = true ∧ s.isRetired (bits v 7 0) (bits v 15 8) (bits v 23 16) = true ∧ s.reg O.fitState ≠ 1 ∧ s.fitBlocked (bits v 7 0) (bits v 15 8) (bits v 23 16) = false) ∧
    (∃ (s : State) (m : Master) (u : Nat × Nat × Nat), Owner s m ∧ s.fitting = some u) ∧
    (∃ (s : State) (r : FitResult) (pool : Nat) (group : Nat) (unit : Nat), s.fitting = some (pool, group, unit) ∧ s.fitPasses pool r = some true) ∧
    (∃ (s : State) (e : Nat) (lane : Nat), s.fitting = some (2, e, lane)) ∧
    (∃ (s : State) (r : FitResult) (pool : Nat) (group : Nat) (unit : Nat), s.fitting = some (pool, group, unit) ∧ s.fitPasses pool r = some false ∧ (pool ≠ 1 ∧ pool ≠ 4 ∨ s.hidden H.fitAgain ≠ 0)) ∧
    (∃ (s : State) (r : FitResult) (pool : Nat) (group : Nat) (unit : Nat), s.fitting = some (pool, group, unit) ∧ s.fitPasses pool r = some false ∧ (pool = 1 ∨ pool = 4) ∧ s.hidden H.fitAgain = 0) ∧
    (∃ (s : State) (r : LedgerRec) (l : List LedgerRec), s.ledgerDue = r :: l ∧ s.half.recs.length < ledgerRoom) ∧
    (∃ (s : State) (r : LedgerRec) (l : List LedgerRec), s.ledgerDue = r :: l ∧ s.half.recs.length < ledgerRoom) ∧
    (∃ (s : State), s.half.recs.length = ledgerRoom ∧ s.dictReady = true) :=
  ⟨⟨(wUp.setHidden H.retired 1 (unitKey 2 3 8)).setReg O.teLaneMap 0xFF 3, .host, 0x080302, by decide +kernel⟩,
   ⟨(wUp.setReg O.fitState 1).setReg O.fitTarget 0x080302, .host, (2, 3, 8), by decide +kernel⟩,
   ⟨((wUp.setHidden H.retired 1 (unitKey 2 3 8)).setReg O.fitState 1).setReg O.fitTarget 0x080302, .test true, 2, 3, 8, by decide +kernel⟩,
   ⟨((wUp.setHidden H.retired 1 (unitKey 2 3 8)).setReg O.fitState 1).setReg O.fitTarget 0x080302, 3, 8, by decide +kernel⟩,
   ⟨((wUp.setHidden H.retired 1 (unitKey 2 3 8)).setReg O.fitState 1).setReg O.fitTarget 0x080302, .test false, 2, 3, 8, by decide +kernel⟩,
   ⟨(wUp.setReg O.fitState 1).setReg O.fitTarget 0x040204, .loupe [] false, 4, 2, 4, by decide +kernel⟩,
   ⟨{ wUp with ledgerDue := [{ type := 1, pool := 2 }] }, { type := 1, pool := 2 }, [], by decide +kernel⟩,
   ⟨{ wUp with ledgerDue := [{ type := 1, pool := 2 }] }, { type := 1, pool := 2 }, [], by decide +kernel⟩,
   ⟨{ wUp with flash := { wUp.flash with halves := wUp.flash.halves.set wUp.flash.active { gen := 4, recs := List.replicate 1022 { type := 4 } } } }, by decide +kernel⟩⟩

/-- The hypotheses of `FlashStores` are met. -/
theorem test_meets_FlashStores :
    (∃ (s : State) (m : Master), Owner s m ∧ s.hidden H.paramRun = 0 ∧ 64 + s.paramLen + 8 ≤ 4194304) ∧
    (∃ (s : State) (m : Master), Owner s m ∧ s.hidden H.paramRun = 0) ∧
    (∃ (s : State) (i : Fin 2), s.hidden H.paramRun = i.val + 1) ∧
    (∃ (s : State) (i : Fin 2), s.hidden H.paramRun = i.val + 1) ∧
    (∃ (s : State), s.hidden H.paramRun ≠ 0) ∧
    (∃ (s : State) (i : Fin 2), s.reg O.calStoreState = 1 ∧ s.hidden H.calSlot = i.val ∧ s.hidden H.calAgain = 0) ∧
    (∃ (s : State) (m : Master), Owner s m ∧ s.reg O.calStoreState ≠ 1) ∧
    (∃ (s : State), s.dictReady = true ∧ s.hidden H.calStale = 1 ∧ s.reg O.calStoreState ≠ 1 ∧ s.calHour = true) :=
  ⟨⟨wUp, .host, by decide +kernel⟩,
   ⟨wUp, .host, by decide +kernel⟩,
   ⟨wUp.setHidden H.paramRun 2, 1, by decide +kernel⟩,
   ⟨wUp.setHidden H.paramRun 2, 1, by decide +kernel⟩,
   ⟨wUp.setHidden H.paramRun 2, by decide +kernel⟩,
   ⟨(wUp.setReg O.calStoreState 1).setHidden H.calSlot 1, 1, by decide +kernel⟩,
   ⟨wUp, .host, by decide +kernel⟩,
   ⟨wUp.setHidden H.calStale 1, by decide +kernel⟩⟩

/-- The hypotheses of `ConverterBlocks` are met. -/
theorem test_meets_ConverterBlocks :
    (∃ (s : State) (ch : Fin 4), s.sampling ch.val = true ∧ (s.cv ch.val).now &&& BF.gap = 0 ∧ (s.cv ch.val).now &&& BF.tstep = 0 ∧ (s.cv ch.val).leaving = false) ∧
    (∃ (s : State) (ch : Fin 4), s.sampling ch.val = true ∧ (s.cv ch.val).now &&& BF.gap = 0 ∧ (s.cv ch.val).now &&& BF.tstep = 0 ∧ (s.cv ch.val).leaving = false ∧ s.streamsFree 1 ch.val = true) ∧
    (∃ (s : State) (ch : Fin 4), s.sampling ch.val = true ∧ s.faultRaw (0x20 + ch.val) = false) ∧
    (∃ (s : State) (ch : Fin 4), s.sampling ch.val = true ∧ s.faultRaw (0x20 + ch.val) = true) ∧
    (∃ (s : State) (ch : Fin 8), s.reg O.ticState ch.val = 1 ∧ s.faultRaw (0x40 + ch.val / 4) = false) :=
  ⟨⟨{ wUp.setReg O.pllaState 2 with active := [(O.cvEnable.key 3 0, 1)] }, 3, by decide +kernel⟩,
   ⟨{ wUp.setReg O.pllaState 2 with active := [(O.cvEnable.key 3 0, 1)] }, 3, by decide +kernel⟩,
   ⟨{ wUp.setReg O.pllaState 2 with active := [(O.cvEnable.key 3 0, 1)] }, 3, by decide +kernel⟩,
   ⟨{ (wUp.setReg O.pllaState 2).setReg O.frRaw (2 ^ 0x23) with active := [(O.cvEnable.key 3 0, 1)] }, 3, by decide +kernel⟩,
   ⟨wUp.setReg O.ticState 1 7, 7, by decide +kernel⟩⟩

/-- The hypotheses of `BackgroundCalibration` are met. -/
theorem test_meets_BackgroundCalibration :
    (∃ (s : State) (ch : Fin 4), s.sampling ch.val = true ∧ s.plan O.calMode ch.val ≠ 0 ∧ (s.idle ch.val).isSome = true ∧ s.calFar ch.val = true ∧ (s.cv ch.val).run = 0 ∧ (s.cv ch.val).due = 0) ∧
    (∃ (s : State) (m : Master) (ch : Fin 4), Owner s m ∧ s.sampling ch.val = true ∧ s.plan O.calMode ch.val ≠ 0 ∧ (s.idle ch.val).isSome = true ∧ (s.cv ch.val).run = 0 ∧ (s.cv ch.val).due = 0 ∧ bit (s.reg O.pwrDomainOn) (1 + ch.val) = true) ∧
    (∃ (s : State) (ch : Fin 4) (i : Nat), s.sampling ch.val = true ∧ s.plan O.calMode ch.val ≠ 0 ∧ s.idle ch.val = some i ∧ (s.cv ch.val).run = 0 ∧ (s.cv ch.val).due ≠ 0) ∧
    (∃ (s : State) (ch : Fin 4) (c : CalMeas) (i : Nat), s.idle ch.val = some i ∧ (s.cv ch.val).run ≠ 0 ∧ (s.cv ch.val).run < 17 ∧ (s.cv ch.val).overlap = false ∧ calReason c = 0) ∧
    (∃ (s : State) (ch : Fin 4) (c : CalMeas) (i : Nat), s.idle ch.val = some i ∧ (s.cv ch.val).run = 17 ∧ (s.cv ch.val).overlap = false ∧ calReason c = 0 ∧ ratAbs (f32 (s.reg O.dieTemp ch.val) - f32 (s.cv ch.val).tStart) ≤ f32 (s.plan O.calDt ch.val)) ∧
    (∃ (s : State) (ch : Fin 4) (c : CalMeas), (s.idle ch.val).isSome = true ∧ (s.cv ch.val).run ≠ 0 ∧ (s.cv ch.val).overlap = false ∧ calReason c ≠ 0 ∧ (s.cv ch.val).again = false) ∧
    (∃ (s : State) (ch : Fin 4) (d : Nat) (g : Nat) (i : Nat), s.idle ch.val = some i ∧ i < 17 ∧ s.reg O.slotSc ch.val (s.oldestSlot ch.val) < 17 ∧ i ≠ s.reg O.slotSc ch.val (s.oldestSlot ch.val) ∧ (s.cv ch.val).run ≠ 0 ∧ (s.cv ch.val).overlap = true ∧ 100 * d ≤ 800 * 65536 + g) ∧
    (∃ (s : State) (ch : Fin 4) (sc : Fin 17), s.reg O.scState ch.val sc.val = 0 ∧ (s.idle ch.val).isSome = true ∧ (s.cv ch.val).failed = none ∧ (s.cv ch.val).more = []) ∧
    (∃ (s : State) (ch : Fin 4) (sc : Fin 17), s.reg O.scState ch.val sc.val = 0 ∧ s.idle ch.val = none ∧ (s.cv ch.val).failed = none ∧ (s.cv ch.val).more = []) ∧
    (∃ (s : State) (ch : Fin 4) (sc : Fin 17) (f : Nat), s.reg O.scState ch.val sc.val = 0 ∧ (s.cv ch.val).failed = some f ∧ f ≠ sc.val ∧ (s.cv ch.val).more = []) ∧
    (∃ (s : State) (ch : Fin 4) (f : Nat) (i : Nat) (slot : Nat), (s.cv ch.val).failed = some f ∧ (s.cv ch.val).more = [] ∧ s.idle ch.val = some i ∧ i < 17 ∧ f < 17 ∧ i ≠ f ∧ slot < 16 ∧ (List.range 16).find? (fun k => s.reg O.slotSc ch.val k == f) = some slot ∧ s.plan O.calMode ch.val ≠ 1) :=
  ⟨⟨{ (wUp.setReg O.pllaState 2).setReg O.dieTemp 0x43000000 3 with active := [(O.cvEnable.key 3 0, 1)] }, 3, by decide +kernel⟩,
   ⟨{ wUp.setReg O.pllaState 2 with active := [(O.cvEnable.key 3 0, 1)] }, .host, 3, by decide +kernel⟩,
   ⟨{ wUp.setReg O.pllaState 2 with active := [(O.cvEnable.key 3 0, 1)], conv := [(3, { ({} : Conv) with due := 3 })] }, 3, 16, by decide +kernel⟩,
   ⟨{ wUp.setReg O.pllaState 2 with active := [(O.cvEnable.key 3 0, 1)], conv := [(3, { ({} : Conv) with run := 16 })] }, 3, ⟨64 * 65536, -50000, 5000, 100000, 1500000⟩, 16, by decide +kernel⟩,
   ⟨{ wUp.setReg O.pllaState 2 with active := [(O.cvEnable.key 3 0, 1)], conv := [(3, { ({} : Conv) with run := 17 })] }, 3, ⟨0, 0, 0, 0, 0⟩, 16, by decide +kernel⟩,
   ⟨{ wUp.setReg O.pllaState 2 with active := [(O.cvEnable.key 3 0, 1)], conv := [(3, { ({} : Conv) with run := 5 })] }, 3, ⟨64 * 65536 + 1, 0, 0, 0, 0⟩, by decide +kernel⟩,
   ⟨{ wUp.setReg O.pllaState 2 with active := [(O.cvEnable.key 3 0, 1)], conv := [(3, { ({} : Conv) with run := 2, overlap := true })] }, 3, 524288, 0, 16, by decide +kernel⟩,
   ⟨{ wUp.setReg O.pllaState 2 with active := [(O.cvEnable.key 3 0, 1)] }, 3, 15, by decide +kernel⟩,
   ⟨{ (wUp.setReg O.pllaState 2).setReg O.idleSc 0xFF 3 with active := [(O.cvEnable.key 3 0, 1)] }, 3, 0, by decide +kernel⟩,
   ⟨{ wUp.setReg O.pllaState 2 with active := [(O.cvEnable.key 3 0, 1)], conv := [(3, { ({} : Conv) with failed := some 5 })] }, 3, 0, 5, by decide +kernel⟩,
   ⟨{ wUp.setReg O.pllaState 2 with active := [(O.cvEnable.key 3 0, 1), (O.calMode.key 3 0, 2)], conv := [(3, { ({} : Conv) with failed := some 5 })] }, 3, 5, 16, 5, by decide +kernel⟩⟩

/-- The hypotheses of `SlicesAndGroups` are met. -/
theorem test_meets_SlicesAndGroups :
    (∃ (s : State) (m : Master), Owner s m ∧ s.timedDue = none ∧ s.hidden H.safeDue = 0 ∧ s.commitDue = false ∧ s.syncMembers ≠ [] ∧ s.syncMembers.all (fun m => bit (s.reg O.pwrDomainOn) (6 + m / 8)) = true) ∧
    (∃ (s : State), s.timedDue = none ∧ s.hidden H.safeDue = 0 ∧ s.commitDue = false ∧ s.plan O.syncPinEn = 1) ∧
    (∃ (s : State), s.timedDue = none ∧ s.hidden H.safeDue = 0 ∧ s.commitDue = false ∧ s.hidden H.syncDue ≠ 0) ∧
    (∃ (s : State), s.timedDue = none ∧ s.hidden H.safeDue = 0 ∧ s.commitDue = false ∧ s.hidden H.syncDue ≠ 0 ∧ ((∀ m ∈ s.syncMembers, s.reg O.ddcState m = 0))) ∧
    (∃ (s : State) (m : Master) (sl : Fin 32) (v : Nat), Owner s m ∧ v < 2 ^ 64 ∧ O.ncoFtw.checks (v &&& O.ncoFtw.mask) = true ∧ s.plans.filterMap (s.liveBreaks O.ncoFtw sl.val 0 (v &&& O.ncoFtw.mask)) = []) ∧
    (∃ (s : State) (m : Master) (sl : Fin 32) (v : Nat), Owner s m ∧ v < 2 ^ O.gainFine.width ∧ O.gainFine.checks (v &&& O.gainFine.mask) = true ∧ s.plans.filterMap (s.liveBreaks O.gainFine sl.val 0 (v &&& O.gainFine.mask)) = []) ∧
    (∃ (s : State) (m : Master) (sl : Fin 32) (v : Nat), Owner s m ∧ v < 2 ^ O.gainShift.width ∧ O.gainShift.checks (v &&& O.gainShift.mask) = true ∧ s.plans.filterMap (s.liveBreaks O.gainShift sl.val 0 (v &&& O.gainShift.mask)) = []) ∧
    (∃ (s : State) (sl : Fin 32), (s.slice sl.val).retune = true ∧ s.reg O.ddcState sl.val ≠ 0) ∧
    (∃ (s : State) (sl : Fin 32), (s.slice sl.val).gain = true ∧ s.reg O.ddcState sl.val ≠ 0) ∧
    (∃ (s : State) (sl : Fin 32) (c : Int), s.reg O.ddcState sl.val = 2 ∧ (cascade (s.plan O.firTaps sl.val) (s.slice sl.val).stages (((s.slice sl.val).inAt : Int) - (s.slice sl.val).nSync) (mixOne c (ncoAt ((tuneAt (s.slice sl.val).inAt (s.slice sl.val).tunes).phaseAt (s.slice sl.val).inAt)))).2.isNone = true) ∧
    (∃ (s : State) (sl : Fin 32) (c : Int), s.reg O.ddcState sl.val = 2 ∧ ((cascade (s.plan O.firTaps sl.val) (s.slice sl.val).stages (((s.slice sl.val).inAt : Int) - (s.slice sl.val).nSync) (mixOne c (ncoAt ((tuneAt (s.slice sl.val).inAt (s.slice sl.val).tunes).phaseAt (s.slice sl.val).inAt)))).2.map (fun y => decide (0 ≤ y.1))) = some true ∧ (s.slice sl.val).part.length + 1 < 2 ^ s.plan O.frameExp sl.val) ∧
    (∃ (s : State) (sl : Fin 32) (c : Int), s.reg O.ddcState sl.val = 2 ∧ ((cascade (s.plan O.firTaps sl.val) (s.slice sl.val).stages (((s.slice sl.val).inAt : Int) - (s.slice sl.val).nSync) (mixOne c (ncoAt ((tuneAt (s.slice sl.val).inAt (s.slice sl.val).tunes).phaseAt (s.slice sl.val).inAt)))).2.map (fun y => decide (0 ≤ y.1))) = some true ∧ (s.slice sl.val).part.length + 1 = 2 ^ s.plan O.frameExp sl.val ∧ s.streamsFree 2 sl.val = true) ∧
    (∃ (s : State) (m : Master) (sl : Fin 32) (l : List Byte), Owner s m ∧ l.length % 4 = 0 ∧ l ≠ [] ∧ l.length ≤ 384 ∧ ((∀ c ∈ words32 l, -131072 ≤ c ∧ c ≤ 131071)) ∧ s.anyPlan (fun p => planVal p O.ddcEnable sl.val == 1) = false) :=
  ⟨⟨{ wUp with active := [(O.syncMember.key 31 0, 1)] }, .host, by decide +kernel⟩,
   ⟨{ wUp with active := [(O.syncPinEn.key 0 0, 1)] }, by decide +kernel⟩,
   ⟨{ (wUp.setHidden H.syncDue 5).setReg O.ddcState 2 31 with active := [(O.syncMember.key 31 0, 1)] }, by decide +kernel⟩,
   ⟨{ wUp.setHidden H.syncDue 5 with active := [(O.syncMember.key 7 0, 1)] }, by decide +kernel⟩,
   ⟨wUp, .host, 31, 2 ^ 47 - 1, by decide +kernel⟩,
   ⟨wUp, .host, 31, 40000, by decide +kernel⟩,
   ⟨wUp, .host, 31, 3, by decide +kernel⟩,
   ⟨{ wUp.setReg O.ddcState 2 31 with idx := 9, slices := [(31, { ({} : Slice) with retune := true })] }, 31, by decide +kernel⟩,
   ⟨{ wUp.setReg O.ddcState 2 31 with idx := 9, slices := [(31, { ({} : Slice) with gain := true })] }, 31, by decide +kernel⟩,
   ⟨{ wUp.setReg O.ddcState 2 31 with slices := [(31, { ({} : Slice) with stages := [[]], inAt := State.reset.plan O.firTaps 31 + 22 + 1, part := [] })] }, 31, -2048, by decide +kernel⟩,
   ⟨{ wUp.setReg O.ddcState 2 31 with slices := [(31, { ({} : Slice) with stages := [[]], inAt := State.reset.plan O.firTaps 31 + 22 + 4, part := [] })] }, 31, 5, by decide +kernel⟩,
   ⟨{ wUp.setReg O.ddcState 2 31 with slices := [(31, { ({} : Slice) with stages := [[]], inAt := State.reset.plan O.firTaps 31 + 22 + 4, part := List.replicate (2 ^ State.reset.plan O.frameExp 31 - 1) (0, 0) })] }, 31, 5, by decide +kernel⟩,
   ⟨wUp, .host, 31, [0, 0, 254, 255], by decide +kernel⟩⟩

/-- The hypotheses of `TransformEngines` are met. -/
theorem test_meets_TransformEngines :
    (∃ (s : State) (e : Fin 4) (src : Fin 32) (l : List Int) (x : List (Int × Int)), s.reg O.teState e.val = 1 ∧ planTakes s.view e.val src.val = true ∧ s.spanSamples e.val src.val l = some x ∧ (s.eng e.val).leaving = false) ∧
    (∃ (s : State) (e : Fin 4) (lane : Fin 9), s.reg O.teState e.val = 1 ∧ bit (s.reg O.teLaneMap e.val) lane.val = true ∧ (s.eng e.val).failing = none ∧ bit (s.eng e.val).retired lane.val = false ∧ s.reg O.teSpareLane e.val ≠ 0xFF) ∧
    (∃ (s : State) (e : Fin 4) (l : Nat), (s.eng e.val).failing = some l ∧ s.reg O.teSpareLane e.val ≠ 0xFF) ∧
    (∃ (s : State) (m : Master) (e : Fin 4) (l : List Byte), Owner s m ∧ l.length % 4 = 0 ∧ l ≠ [] ∧ l.length ≤ 524288 ∧ ((∀ c ∈ words32 l, -131072 ≤ c ∧ c ≤ 131071)) ∧ 0 < (words32 l).foldl (· + ·) 0 ∧ s.anyPlan (fun p => planVal p O.teEnable e.val == 1) = false) :=
  ⟨⟨{ wUp.setReg O.teState 1 3 with active := [(O.teLog2n.key 3 0, 6), (O.teTaps.key 3 0, 1), (O.spanStart.key 3 0, 5), (O.spanCount.key 3 0, 2)] }, 3, 3, List.replicate 64 100, List.replicate 64 (100, 0), by decide +kernel⟩,
   ⟨wUp.setReg O.teState 1 3, 3, 7, by decide +kernel⟩,
   ⟨{ wUp.setReg O.teState 1 3 with engs := [(3, { ({} : Eng) with failing := some 2 })] }, 3, 2, by decide +kernel⟩,
   ⟨wUp, .host, 3, [1, 0, 0, 0], by decide +kernel⟩⟩

/-- The hypotheses of `TriggersAndSegments` are met. -/
theorem test_meets_TriggersAndSegments :
    (∃ (s : State) (u : Fin 16), s.plan O.tuEnable u.val = 1 ∧ s.plan O.tuSrc u.val = 5 ∧ s.reg O.tuState u.val = 0 ∧ (f64 (s.reg O.msResult (s.plan O.tuSel u.val % 16)) < f64 (s.plan O.tuWinLo u.val) ∨ f64 (s.plan O.tuWinHi u.val) < f64 (s.reg O.msResult (s.plan O.tuSel u.val % 16))) ∧ s.plan O.tuLaceDrive u.val % 16 = 0 ∧ (List.range 16).all (fun c => s.plan O.aqEnable c != 1) = true ∧ (List.range 16).all (fun g => s.plan O.pgMode g == 0) = true) ∧
    (∃ (s : State) (u : Fin 16), s.plan O.tuEnable u.val = 1 ∧ s.plan O.tuSrc u.val = 9 ∧ s.flagLine (s.plan O.tuSel u.val % 64) = false) ∧
    (∃ (s : State) (pin : Fin 8) (level : Bool), s.hidden H.trgin pin.val ≠ b2n level ∧ (List.range 16).all (fun u => s.plan O.tuEnable u != 1) = true) ∧
    (∃ (s : State) (pin : Fin 8) (u : Fin 16), s.hidden H.trgin pin.val ≠ 1 ∧ s.plan O.tuEnable u.val = 1 ∧ s.plan O.tuSrc u.val = 7 ∧ s.plan O.tuSel u.val % 8 = pin.val ∧ s.plan O.tuMode u.val = 0 ∧ s.reg O.tuState u.val = 0 ∧ s.plan O.tuLaceDrive u.val % 16 = 0 ∧ (List.range 16).all (fun v => v == u.val || s.plan O.tuEnable v != 1) = true ∧ (List.range 16).all (fun c => s.plan O.aqEnable c != 1) = true ∧ (List.range 16).all (fun g => s.plan O.pgMode g == 0) = true) ∧
    (∃ (s : State) (u : Fin 16), s.plan O.tuSrc u.val = 8) ∧
    (∃ (s : State) (c : Fin 16), s.reg O.aqState c.val = 2) ∧
    (∃ (s : State) (c : Fin 16) (l : List (Int × Int)) (g : Seg) (rest : List Seg), (s.ctx c.val).ended = g :: rest ∧ l.length = g.count ∧ g.cfg.fmt < 4 ∧ s.streamsFree 4 c.val = true ∧ s.streamsFree 5 c.val = true) ∧
    (∃ (s : State) (c : Fin 16) (l : List (Int × Int)), (s.ctx c.val).ended = [] ∧ s.reg O.aqState c.val = 4 ∧ (s.ctx c.val).cut = false ∧ (s.ctx c.val).skipping = false ∧ l.length = (s.ctx c.val).cfg.pre + (s.ctx c.val).cfg.post ∧ (s.ctx c.val).cfg.pre ≤ (s.ctx c.val).qt) ∧
    (∃ (s : State) (m : Master) (k : Fin 4) (l : List Byte), Owner s m ∧ l.length % 4 = 0 ∧ l ≠ [] ∧ l.length ≤ 262144 ∧ s.anyPlan (fun p => (List.range 16).any (fun u => planVal p O.tuEnable u == 1 && planVal p O.tuSrc u == 3 && planVal p O.tuMask u == k.val)) = false) :=
  ⟨⟨{ wUp.setReg O.msResult 0x4000000000000000 3 with active := [(O.tuEnable.key 15 0, 1), (O.tuSrc.key 15 0, 5), (O.tuSel.key 15 0, 3)] }, 15, by decide +kernel⟩,
   ⟨{ wUp with active := [(O.tuEnable.key 15 0, 1), (O.tuSrc.key 15 0, 9)] }, 15, by decide +kernel⟩,
   ⟨wUp, 7, true, by decide +kernel⟩,
   ⟨{ wUp with tc := 9 * 2 ^ 64, active := [(O.tuEnable.key 15 0, 1), (O.tuSrc.key 15 0, 7), (O.tuSel.key 15 0, 3)] }, 3, 15, by decide +kernel⟩,
   ⟨{ wUp with active := [(O.tuSrc.key 15 0, 8)] }, 15, by decide +kernel⟩,
   ⟨wUp.setReg O.aqState 2 15, 15, by decide +kernel⟩,
   ⟨{ wUp with ctxs := [(15, { ({} : Ctx) with ended := [{ cfg := { ringSize := 4096 }, head := 0, record := 0, count := 2, level := 0, first := 0, t96 := 0 }] })] }, 15, [(1, 0), (2, 0)], { cfg := { ringSize := 4096 }, head := 0, record := 0, count := 2, level := 0, first := 0, t96 := 0 }, [], by decide +kernel⟩,
   ⟨{ wUp.setReg O.aqState 4 15 with ctxs := [(15, { ({} : Ctx) with cfg := { ringSize := 4096, pre := 1, post := 1 }, qt := 7 })] }, 15, [(1, 0), (2, 0)], by decide +kernel⟩,
   ⟨wUp, .host, 3, [1, 0, 0, 0], by decide +kernel⟩⟩

/-- The hypotheses of `DensityAndSpectrograms` are met. -/
theorem test_meets_DensityAndSpectrograms :
    (∃ (s : State) (p : Fin 2) (g : Group) (rest : List Group), s.density.snapDue = false ∧ s.density.clearDue = false ∧ p.val < s.dnPlanes ∧ s.dnGroups p.val = g :: rest ∧ g.full = true ∧ g.mode = 0) ∧
    (∃ (s : State), s.density.snapDue = false ∧ s.density.clearDue = false ∧ s.reg O.dnState = 1) ∧
    (∃ (s : State) (m : Master), Owner s m ∧ bit (s.reg O.pwrDomainOn) 30 = true) ∧
    (∃ (s : State), s.density.clearDue = true ∧ s.density.snapDue = false) ∧
    (∃ (s : State) (m : Master), Owner s m ∧ bit (s.reg O.pwrDomainOn) 30 = true ∧ s.density.copying = none ∧ s.dnSlots ≠ 0) ∧
    (∃ (s : State), s.plan O.dnSnapPeriod ≠ 0 ∧ s.dnSlots ≠ 0 ∧ s.density.copying = none) ∧
    (∃ (s : State), s.plan O.dnSnapPeriod ≠ 0 ∧ s.dnSlots ≠ 0 ∧ s.density.copying ≠ none) ∧
    (∃ (s : State), s.density.snapDue = true ∧ s.density.copying = none ∧ s.dnSlots ≠ 0) ∧
    (∃ (s : State) (base : Nat), s.density.copying = some base ∧ base % 64 = 0 ∧ s.streamsFree 9 0 = true) ∧
    (∃ (s : State) (p : Fin 2) (col : Fin 2048), p.val < s.dnPlanes ∧ col.val < s.dnW ∧ (Map.get s.density.errs [] ((p.val * 1024 + col.val) % 64)).length < 15) ∧
    (∃ (s : State) (b : Nat) (sp : Nat) (rest : List (Nat × Nat)), s.density.copies = (b, sp) :: rest) ∧
    (∃ (s : State) (m : Master) (l : List Byte), Owner s m ∧ l.length = 4096) ∧
    (∃ (s : State) (g : Fin 2) (x : Line) (rest : List Line), s.sgLines g.val = x :: rest ∧ x.full = true) :=
  ⟨⟨{ wUp with groups := [(0, [{ n := 3, cols := [0, 5], full := true, top := 0, step := 1 }])] }, 0, { n := 3, cols := [0, 5], full := true, top := 0, step := 1 }, [], by decide +kernel⟩,
   ⟨wUp.setReg O.dnState 1, by decide +kernel⟩,
   ⟨wUp, .host, by decide +kernel⟩,
   ⟨{ wUp with density := { wUp.density with clearDue := true } }, by decide +kernel⟩,
   ⟨{ wUp with active := [(O.dnSnapSize.key 0 0, 8388672)] }, .host, by decide +kernel⟩,
   ⟨{ wUp with active := [(O.dnSnapSize.key 0 0, 8388672), (O.dnSnapPeriod.key 0 0, 5)], density := {} }, by decide +kernel⟩,
   ⟨{ wUp with active := [(O.dnSnapSize.key 0 0, 8388672), (O.dnSnapPeriod.key 0 0, 5)], density := { wUp.density with copying := some 0 } }, by decide +kernel⟩,
   ⟨{ wUp with active := [(O.dnSnapSize.key 0 0, 8388672), (O.dnSnapPeriod.key 0 0, 5)], density := { wUp.density with snapDue := true } }, by decide +kernel⟩,
   ⟨{ wUp with active := [(O.dnSnapSize.key 0 0, 8388672), (O.dnSnapPeriod.key 0 0, 5)], density := { wUp.density with copying := some 64 } }, 64, by decide +kernel⟩,
   ⟨wUp, 0, 1023, by decide +kernel⟩,
   ⟨{ wUp with density := { wUp.density with copies := [(3, 65)] } }, 3, 65, [], by decide +kernel⟩,
   ⟨wUp, .host, List.replicate 4096 7, by decide +kernel⟩,
   ⟨{ wUp with lines := [(1, [{ ({} : Line) with full := true, vals := [0] }])] }, 1, { ({} : Line) with full := true, vals := [0] }, [], by decide +kernel⟩⟩

/-- The hypotheses of `AwlControl` are met. -/
theorem test_meets_AwlControl :
    (∃ (s : State) (p : Pos), AtInstr s p (.nop p) (1)) ∧
    (∃ (s : State) (p : Pos), AtInstr s p (.wait p) (1) ∧ (s.aw (posKey p)).restart = false ∧ (s.aw (posKey p)).token = none ∧ s.shadows = []) ∧
    (∃ (s : State) (p : Pos) (cond : BitVec 4) (target : BitVec 12), AtInstr s p (.br p cond target) (3) ∧ condHolds (s.core p).sr cond = true) ∧
    (∃ (s : State) (p : Pos) (cond : BitVec 4) (target : BitVec 12), AtInstr s p (.br p cond target) (1) ∧ condHolds (s.core p).sr cond = false) ∧
    (∃ (s : State) (p : Pos) (target : BitVec 12), AtInstr s p (.call p target) (3)) ∧
    (∃ (s : State) (p : Pos) (a : BitVec 12) (l : List (BitVec 12)), AtInstr s p (.ret p) (3) ∧ (s.core p).stack = a :: l) ∧
    (∃ (s : State) (p : Pos), AtInstr s p (.ret p) (3) ∧ (s.core p).stack = []) ∧
    (∃ (s : State) (p : Pos) (lv : Fin 3) (n : RepCount) (last : BitVec 12), AtInstr s p (.rep p lv n last) (1 + (s.core p).stallD (match n with | .reg r => 2 ^ r.val | .imm _ => 0))) :=
  ⟨⟨wAw (.nop wPos) {}, wPos, by decide +kernel⟩,
   ⟨wAw (.wait wPos) {}, wPos, by decide +kernel⟩,
   ⟨wAw (.br wPos (0) (1)) {}, wPos, 0, 1, by decide +kernel⟩,
   ⟨wAw (.br wPos (1) (1)) {}, wPos, 1, 1, by decide +kernel⟩,
   ⟨wAw (.call wPos (1)) {}, wPos, 1, by decide +kernel⟩,
   ⟨wAw (.ret wPos) { stack := [5] }, wPos, 5, [], by decide +kernel⟩,
   ⟨wAw (.ret wPos) {}, wPos, by decide +kernel⟩,
   ⟨wAw (.rep wPos (2) (.imm 2047) (1)) {}, wPos, 2, .imm 2047, 1, by decide +kernel⟩⟩

/-- The hypotheses of `AwlDevice` are met. -/
theorem test_meets_AwlDevice :
    (∃ (s : State) (p : Pos) (v : Op2), AtInstr s p (.evt p v) (1)) ∧
    (∃ (s : State) (p : Pos) (ln : Fin 4), AtInstr s p (.setflag p ln) (1)) ∧
    (∃ (s : State) (p : Pos) (ln : Fin 4), AtInstr s p (.clrflag p ln) (1)) ∧
    (∃ (s : State) (p : Pos) (jp : Fin 8) (dl : Fin 8) (tag : BitVec 16) (waits : Nat), AtInstr s p (.emit p jp dl tag waits) (2 + (((s.core p).d.get dl).toNat + 31) / 32 + s.surcharge p.bench.val waits (if awRegion ((s.core p).j.get jp).toNat = 2 then List.replicate ((((s.core p).d.get dl).toNat + 31) / 32) ((s.core p).j.get jp).toNat else []) + max ((s.core p).stallA (2 ^ jp.val)) ((s.core p).stallD (2 ^ dl.val))) ∧ 1 ≤ ((s.core p).d.get dl).toNat ∧ ((s.core p).d.get dl).toNat ≤ 4096 ∧ payloadOk ((s.core p).j.get jp).toNat ((s.core p).d.get dl).toNat = true ∧ (s.aw (posKey p)).recBytes + recordBytes ((s.core p).d.get dl).toNat ≤ (s.aw (posKey p)).recMax ∧ recordBytes ((s.core p).d.get dl).toNat ≤ s.plan O.bnRecSize p.bench.val ∧ s.streamsFree 8 p.bench.val = true) ∧
    (∃ (s : State) (p : Pos) (jp : Fin 8) (dl : Fin 8) (tag : BitVec 16) (waits : Nat), AtInstr s p (.emit p jp dl tag waits) (2 + (((s.core p).d.get dl).toNat + 31) / 32 + s.surcharge p.bench.val waits (if awRegion ((s.core p).j.get jp).toNat = 2 then List.replicate ((((s.core p).d.get dl).toNat + 31) / 32) ((s.core p).j.get jp).toNat else []) + max ((s.core p).stallA (2 ^ jp.val)) ((s.core p).stallD (2 ^ dl.val))) ∧ (((s.core p).d.get dl).toNat = 0 ∨ 4096 < ((s.core p).d.get dl).toNat)) ∧
    (∃ (s : State) (p : Pos) (jp : Fin 8) (dof : Fin 8) (dl : Fin 8) (back : Bool), AtInstr s p (.spill p jp dof dl back) (2 + max ((s.core p).stallA (2 ^ jp.val)) ((s.core p).stallD (2 ^ dof.val ||| 2 ^ dl.val))) ∧ 1 ≤ ((s.core p).d.get dl).toNat ∧ ((s.core p).d.get dl).toNat ≤ 1024 ∧ awRegion ((s.core p).j.get jp).toNat = 2 ∧ ((s.core p).j.get jp).toNat % 64 = 0 ∧ ((s.core p).j.get jp).toNat + 64 * ((s.core p).d.get dl).toNat ≤ 2 ^ 20 ∧ 64 * ((s.core p).d.get dof).toNat + 64 * ((s.core p).d.get dl).toNat ≤ s.plan O.bnSpillSize p.bench.val ∧ srBit (s.core p).sr SR.spb = false) :=
  ⟨⟨wAw (.evt wPos (.imm 0xFFFF)) {}, wPos, .imm 0xFFFF, by decide +kernel⟩,
   ⟨wAw (.setflag wPos (3)) {}, wPos, 3, by decide +kernel⟩,
   ⟨wAw (.clrflag wPos (3)) {}, wPos, 3, by decide +kernel⟩,
   ⟨{ wAw (.emit wPos 7 7 5 0) with active := [(O.bnRecSize.key 15 0, 4096)], positions := [(255, { ({} : Position) with running := true, budget := 1000, recMax := 4096, ilen := 2, imem := [(0, (awEncode (.emit wPos 7 7 5 0)).getD 0)], core := { d := Vector.replicate 8 64 } })] }, wPos, 7, 7, 5, 0, by decide +kernel⟩,
   ⟨wAw (.emit wPos (7) (7) (5) (0)) {}, wPos, 7, 7, 5, 0, by decide +kernel⟩,
   ⟨{ wAw (.spill wPos 7 6 7 true) { d := Vector.replicate 8 1, j := Vector.replicate 8 0x80000 } with active := [(O.bnSpillSize.key 15 0, 4096)] }, wPos, 7, 6, 7, true, by decide +kernel⟩⟩

/-- The hypotheses of `AwlMoves` are met. -/
theorem test_meets_AwlMoves :
    (∃ (s : State) (p : Pos) (rd : Fin 64) (rs : Fin 64), AtInstr s p (.mov p rd rs) (1 + (s.core p).stallW (partMask rs.val))) ∧
    (∃ (s : State) (p : Pos) (rd : Fin 64) (rs : Fin 64), AtInstr s p (.mov p rd rs) (1 + (s.core p).stallW 0) ∧ 0x20 ≤ rd.val ∧ rd.val < 0x24 ∧ rs.val < 8) ∧
    (∃ (s : State) (p : Pos) (rd : Fin 64) (imm : BitVec 20), AtInstr s p (.movi p rd imm) (1)) ∧
    (∃ (s : State) (p : Pos) (jp : Fin 8) (a : AMode), AtInstr s p (.modj p jp a) (1 + (s.core p).stallA (modeMask jp a))) ∧
    (∃ (s : State) (p : Pos) (dd : Fin 8) (jp : Fin 8) (a : AMode) (waits : Nat), AtInstr s p (.ld p dd jp a waits) (s.costL p jp a waits 0) ∧ awRegion (((s.core p).addr jp a).toNat - ((s.core p).addr jp a).toNat % 2) ≠ 3) ∧
    (∃ (s : State) (p : Pos) (dd : Fin 8) (jp : Fin 8) (a : AMode) (waits : Nat), AtInstr s p (.ld p dd jp a waits) (s.costL p jp a waits 0) ∧ awRegion (((s.core p).addr jp a).toNat - ((s.core p).addr jp a).toNat % 2) = 3) ∧
    (∃ (s : State) (p : Pos) (wn : Fin 2) (jp : Fin 8) (a : AMode) (waits : Nat), AtInstr s p (.ldw p wn jp a waits) (s.costL p jp a waits 0) ∧ awRegion (((s.core p).addr jp a).toNat - ((s.core p).addr jp a).toNat % 4) ≠ 3) ∧
    (∃ (s : State) (p : Pos) (dd : Fin 8) (jp : Fin 8) (a : AMode) (waits : Nat), AtInstr s p (.st p dd jp a waits) (s.costL p jp a waits 0) ∧ awRegion (((s.core p).addr jp a).toNat - ((s.core p).addr jp a).toNat % 2) ≠ 3) ∧
    (∃ (s : State) (p : Pos) (wn : Fin 2) (jp : Fin 8) (a : AMode) (waits : Nat), AtInstr s p (.stw p wn jp a false waits) (s.costL p jp a waits (2 ^ wn.val)) ∧ awRegion (((s.core p).addr jp a).toNat - ((s.core p).addr jp a).toNat % 4) ≠ 3) ∧
    (∃ (s : State) (p : Pos) (wn : Fin 2) (jp : Fin 8) (a : AMode) (waits : Nat), AtInstr s p (.stw p wn jp a true waits) (s.costL p jp a waits (2 ^ wn.val)) ∧ awRegion (((s.core p).addr jp a).toNat - ((s.core p).addr jp a).toNat % 4) ≠ 3) ∧
    (∃ (s : State) (p : Pos) (x : XLoad) (y : XLoad) (waits : Nat), AtInstr s p (.ld2 p x y waits) (s.costX p x y waits) ∧ (x.skip = true ∨ awRegion (((s.core p).j.get (xUnit x)).toNat - ((s.core p).j.get (xUnit x)).toNat % 2) ≠ 3) ∧ (y.skip = true ∨ awRegion (((s.core p).j.get (yUnit y)).toNat - ((s.core p).j.get (yUnit y)).toNat % 2) ≠ 3)) :=
  ⟨⟨wAw (.mov wPos (0x27) (0)) { d := Vector.replicate 8 0xFFFF }, wPos, 0x27, 0, by decide +kernel⟩,
   ⟨wAw (.mov wPos (0x23) (7)) { d := Vector.replicate 8 0xFFFF }, wPos, 0x23, 7, by decide +kernel⟩,
   ⟨wAw (.movi wPos (0x08) (0xFFFFF)) {}, wPos, 0x08, 0xFFFFF, by decide +kernel⟩,
   ⟨wAw (.modj wPos (7) (.postMod 3)) { jm := Vector.replicate 4 0xFFFFF, jl := Vector.replicate 8 10 }, wPos, 7, .postMod 3, by decide +kernel⟩,
   ⟨wAw (.ld wPos (7) (6) (.postInc 2) (0)) { j := Vector.replicate 8 0x80002, d := Vector.replicate 8 0x1234, w := Vector.replicate 2 (-(2 ^ 35)) }, wPos, 7, 6, .postInc 2, 0, by decide +kernel⟩,
   ⟨wAw (.ld wPos (7) (6) (.postInc 2) (0)) { j := Vector.replicate 8 0x8000 }, wPos, 7, 6, .postInc 2, 0, by decide +kernel⟩,
   ⟨wAw (.ldw wPos (1) (6) (.postInc 2) (0)) { j := Vector.replicate 8 0x80002, d := Vector.replicate 8 0x1234, w := Vector.replicate 2 (-(2 ^ 35)) }, wPos, 1, 6, .postInc 2, 0, by decide +kernel⟩,
   ⟨wAw (.st wPos (7) (6) (.offset 0xFFF) (0)) { j := Vector.replicate 8 0x80002, d := Vector.replicate 8 0x1234, w := Vector.replicate 2 (-(2 ^ 35)) }, wPos, 7, 6, .offset 0xFFF, 0, by decide +kernel⟩,
   ⟨wAw (.stw wPos (1) (6) (.indexed 3) false (0)) { j := Vector.replicate 8 0x80002, d := Vector.replicate 8 0x1234, w := Vector.replicate 2 (-(2 ^ 35)) }, wPos, 1, 6, .indexed 3, 0, by decide +kernel⟩,
   ⟨wAw (.stw wPos (1) (6) (.postMod 3) true (0)) { j := Vector.replicate 8 0x80002, d := Vector.replicate 8 0x1234, w := Vector.replicate 2 (-(2 ^ 35)) }, wPos, 1, 6, .postMod 3, 0, by decide +kernel⟩,
   ⟨wAw (.ld2 wPos (⟨0, 3, 1, false⟩) (⟨1, 3, 3, false⟩) (0)) { j := Vector.replicate 8 0x80002, d := Vector.replicate 8 0x1234, w := Vector.replicate 2 (-(2 ^ 35)) }, wPos, ⟨0, 3, 1, false⟩, ⟨1, 3, 3, false⟩, 0, by decide +kernel⟩⟩

/-- The hypotheses of `AwlSums` are met. -/
theorem test_meets_AwlSums :
    (∃ (s : State) (p : Pos) (dd : Fin 8) (ds : Fin 8) (o : Op2), AtInstr s p (.add p dd ds o) (1)) ∧
    (∃ (s : State) (p : Pos) (dd : Fin 8) (ds : Fin 8) (o : Op2), AtInstr s p (.sub p dd ds o) (1)) ∧
    (∃ (s : State) (p : Pos) (dd : Fin 8) (ds : Fin 8) (o : Op2), AtInstr s p (.adds p dd ds o) (1)) ∧
    (∃ (s : State) (p : Pos) (dd : Fin 8) (ds : Fin 8) (o : Op2), AtInstr s p (.subs p dd ds o) (1)) ∧
    (∃ (s : State) (p : Pos) (ds : Fin 8) (o : Op2), AtInstr s p (.cmp p ds o) (1)) ∧
    (∃ (s : State) (p : Pos) (dd : Fin 8) (ds : Fin 8), AtInstr s p (.neg p dd ds) (1)) ∧
    (∃ (s : State) (p : Pos) (dd : Fin 8) (ds : Fin 8), AtInstr s p (.abs p dd ds) (1)) ∧
    (∃ (s : State) (p : Pos) (dd : Fin 8) (ds : Fin 8) (o : Op2), AtInstr s p (.min p dd ds o) (1)) ∧
    (∃ (s : State) (p : Pos) (dd : Fin 8) (ds : Fin 8) (o : Op2), AtInstr s p (.max p dd ds o) (1)) :=
  ⟨⟨wAw (.add wPos (7) (6) (.imm 0x8000)) { d := Vector.replicate 8 0x8000 }, wPos, 7, 6, .imm 0x8000, by decide +kernel⟩,
   ⟨wAw (.sub wPos (7) (6) (.imm 0x8000)) { d := Vector.replicate 8 0x8000 }, wPos, 7, 6, .imm 0x8000, by decide +kernel⟩,
   ⟨wAw (.adds wPos (7) (6) (.imm 0x8000)) { d := Vector.replicate 8 0x8000 }, wPos, 7, 6, .imm 0x8000, by decide +kernel⟩,
   ⟨wAw (.subs wPos (7) (6) (.imm 0x8000)) { d := Vector.replicate 8 0x8000 }, wPos, 7, 6, .imm 0x8000, by decide +kernel⟩,
   ⟨wAw (.cmp wPos (6) (.imm 0x8000)) { d := Vector.replicate 8 0x8000 }, wPos, 6, .imm 0x8000, by decide +kernel⟩,
   ⟨wAw (.neg wPos (7) (6)) { d := Vector.replicate 8 0x8000 }, wPos, 7, 6, by decide +kernel⟩,
   ⟨wAw (.abs wPos (7) (6)) { d := Vector.replicate 8 0x8000 }, wPos, 7, 6, by decide +kernel⟩,
   ⟨wAw (.min wPos (7) (6) (.imm 0x8000)) { d := Vector.replicate 8 0x8000 }, wPos, 7, 6, .imm 0x8000, by decide +kernel⟩,
   ⟨wAw (.max wPos (7) (6) (.imm 0x8000)) { d := Vector.replicate 8 0x8000 }, wPos, 7, 6, .imm 0x8000, by decide +kernel⟩⟩

/-- The hypotheses of `AwlLogic` are met. -/
theorem test_meets_AwlLogic :
    (∃ (s : State) (p : Pos) (dd : Fin 8) (ds : Fin 8) (o : Op2), AtInstr s p (.and p dd ds o) (1)) ∧
    (∃ (s : State) (p : Pos) (dd : Fin 8) (ds : Fin 8) (o : Op2), AtInstr s p (.or p dd ds o) (1)) ∧
    (∃ (s : State) (p : Pos) (dd : Fin 8) (ds : Fin 8) (o : Op2), AtInstr s p (.xor p dd ds o) (1)) ∧
    (∃ (s : State) (p : Pos) (dd : Fin 8) (ds : Fin 8) (o : Op2), AtInstr s p (.shl p dd ds o) (1)) ∧
    (∃ (s : State) (p : Pos) (dd : Fin 8) (ds : Fin 8) (o : Op2), AtInstr s p (.shr p dd ds o) (1)) ∧
    (∃ (s : State) (p : Pos) (dd : Fin 8) (ds : Fin 8) (o : Op2), AtInstr s p (.sra p dd ds o) (1)) :=
  ⟨⟨wAw (.and wPos (7) (6) (.imm 0x8000)) { d := Vector.replicate 8 0x8000 }, wPos, 7, 6, .imm 0x8000, by decide +kernel⟩,
   ⟨wAw (.or wPos (7) (6) (.imm 0x8000)) { d := Vector.replicate 8 0x8000 }, wPos, 7, 6, .imm 0x8000, by decide +kernel⟩,
   ⟨wAw (.xor wPos (7) (6) (.imm 0x8000)) { d := Vector.replicate 8 0x8000 }, wPos, 7, 6, .imm 0x8000, by decide +kernel⟩,
   ⟨wAw (.shl wPos (7) (6) (.imm 16)) { d := Vector.replicate 8 0x8000 }, wPos, 7, 6, .imm 16, by decide +kernel⟩,
   ⟨wAw (.shr wPos (7) (6) (.imm 16)) { d := Vector.replicate 8 0x8000 }, wPos, 7, 6, .imm 16, by decide +kernel⟩,
   ⟨wAw (.sra wPos (7) (6) (.imm 16)) { d := Vector.replicate 8 0x8000 }, wPos, 7, 6, .imm 16, by decide +kernel⟩⟩

/-- The hypotheses of `AwlProducts` are met. -/
theorem test_meets_AwlProducts :
    (∃ (s : State) (p : Pos) (wn : Fin 2) (dx : Fin 8) (dy : Fin 8) (mode : MMode), AtInstr s p (.mul p wn dx dy mode) (1)) ∧
    (∃ (s : State) (p : Pos) (wn : Fin 2) (dx : Fin 8) (dy : Fin 8) (mode : MMode), AtInstr s p (.mac p wn dx dy mode) (1)) ∧
    (∃ (s : State) (p : Pos) (wn : Fin 2) (dx : Fin 8) (dy : Fin 8) (mode : MMode), AtInstr s p (.msu p wn dx dy mode) (1)) ∧
    (∃ (s : State) (p : Pos) (wn : Fin 2) (dx : Fin 8) (dy : Fin 8) (mode : MMode) (x : XLoad) (y : XLoad) (waits : Nat), AtInstr s p (.macx p wn dx dy mode false x y waits) (s.costX p x y waits) ∧ (x.skip = true ∨ awRegion (((s.core p).j.get (xUnit x)).toNat - ((s.core p).j.get (xUnit x)).toNat % 2) ≠ 3) ∧ (y.skip = true ∨ awRegion (((s.core p).j.get (yUnit y)).toNat - ((s.core p).j.get (yUnit y)).toNat % 2) ≠ 3)) ∧
    (∃ (s : State) (p : Pos) (wn : Fin 2) (dx : Fin 8) (dy : Fin 8) (mode : MMode) (x : XLoad) (y : XLoad) (waits : Nat), AtInstr s p (.macx p wn dx dy mode true x y waits) (s.costX p x y waits) ∧ (x.skip = true ∨ awRegion (((s.core p).j.get (xUnit x)).toNat - ((s.core p).j.get (xUnit x)).toNat % 2) ≠ 3) ∧ (y.skip = true ∨ awRegion (((s.core p).j.get (yUnit y)).toNat - ((s.core p).j.get (yUnit y)).toNat % 2) ≠ 3)) ∧
    (∃ (s : State) (p : Pos) (wn : Fin 2), AtInstr s p (.clrw p wn) (1)) ∧
    (∃ (s : State) (p : Pos) (wn : Fin 2) (ds : Fin 8), AtInstr s p (.movdw p wn ds) (1)) ∧
    (∃ (s : State) (p : Pos) (dd : Fin 8) (wn : Fin 2), AtInstr s p (.rdw p dd wn 0 false false) (1 + (s.core p).stallW (2 ^ wn.val))) ∧
    (∃ (s : State) (p : Pos) (dd : Fin 8) (wn : Fin 2), AtInstr s p (.rdw p dd wn 2 false false) (1 + (s.core p).stallW (2 ^ wn.val))) ∧
    (∃ (s : State) (p : Pos) (dd : Fin 8) (wn : Fin 2), AtInstr s p (.rdw p dd wn 1 false false) (1 + (s.core p).stallW (2 ^ wn.val))) ∧
    (∃ (s : State) (p : Pos) (dd : Fin 8) (wn : Fin 2), AtInstr s p (.rdw p dd wn 1 true false) (1 + (s.core p).stallW (2 ^ wn.val))) ∧
    (∃ (s : State) (p : Pos) (dd : Fin 8) (wn : Fin 2), AtInstr s p (.rdw p dd wn 1 true true) (1 + (s.core p).stallW (2 ^ wn.val))) ∧
    (∃ (s : State) (p : Pos) (dd : Fin 8) (wn : Fin 2), AtInstr s p (.rdw p dd wn 1 false true) (1 + (s.core p).stallW (2 ^ wn.val))) :=
  ⟨⟨wAw (.mul wPos (1) (7) (6) (.fr)) { d := Vector.replicate 8 0x8000, w := Vector.replicate 2 0x7FFFFFFFFF, j := Vector.replicate 8 0x80000 }, wPos, 1, 7, 6, .fr, by decide +kernel⟩,
   ⟨wAw (.mac wPos (1) (7) (6) (.fr)) { d := Vector.replicate 8 0x8000, w := Vector.replicate 2 0x7FFFFFFFFF, j := Vector.replicate 8 0x80000 }, wPos, 1, 7, 6, .fr, by decide +kernel⟩,
   ⟨wAw (.msu wPos (1) (7) (6) (.fr)) { d := Vector.replicate 8 0x8000, w := Vector.replicate 2 0x7FFFFFFFFF, j := Vector.replicate 8 0x80000 }, wPos, 1, 7, 6, .fr, by decide +kernel⟩,
   ⟨wAw (.macx wPos (1) (7) (6) (.fr) false (⟨0, 3, 1, false⟩) (⟨1, 3, 3, false⟩) (0)) { d := Vector.replicate 8 0x8000, w := Vector.replicate 2 0x7FFFFFFFFF, j := Vector.replicate 8 0x80000 }, wPos, 1, 7, 6, .fr, ⟨0, 3, 1, false⟩, ⟨1, 3, 3, false⟩, 0, by decide +kernel⟩,
   ⟨wAw (.macx wPos (1) (7) (6) (.fr) true (⟨0, 3, 1, false⟩) (⟨1, 3, 3, false⟩) (0)) { d := Vector.replicate 8 0x8000, w := Vector.replicate 2 0x7FFFFFFFFF, j := Vector.replicate 8 0x80000 }, wPos, 1, 7, 6, .fr, ⟨0, 3, 1, false⟩, ⟨1, 3, 3, false⟩, 0, by decide +kernel⟩,
   ⟨wAw (.clrw wPos (1)) { d := Vector.replicate 8 0x8000, w := Vector.replicate 2 0x7FFFFFFFFF, j := Vector.replicate 8 0x80000 }, wPos, 1, by decide +kernel⟩,
   ⟨wAw (.movdw wPos (1) (7)) { d := Vector.replicate 8 0x8000, w := Vector.replicate 2 0x7FFFFFFFFF, j := Vector.replicate 8 0x80000 }, wPos, 1, 7, by decide +kernel⟩,
   ⟨wAw (.rdw wPos (7) (1) 0 false false) { d := Vector.replicate 8 0x8000, w := Vector.replicate 2 0x7FFFFFFFFF, j := Vector.replicate 8 0x80000 }, wPos, 7, 1, by decide +kernel⟩,
   ⟨wAw (.rdw wPos (7) (1) 2 false false) { d := Vector.replicate 8 0x8000, w := Vector.replicate 2 0x7FFFFFFFFF, j := Vector.replicate 8 0x80000 }, wPos, 7, 1, by decide +kernel⟩,
   ⟨wAw (.rdw wPos (7) (1) 1 false false) { d := Vector.replicate 8 0x8000, w := Vector.replicate 2 0x7FFFFFFFFF, j := Vector.replicate 8 0x80000 }, wPos, 7, 1, by decide +kernel⟩,
   ⟨wAw (.rdw wPos (7) (1) 1 true false) { d := Vector.replicate 8 0x8000, w := Vector.replicate 2 0x7FFFFFFFFF, j := Vector.replicate 8 0x80000 }, wPos, 7, 1, by decide +kernel⟩,
   ⟨wAw (.rdw wPos (7) (1) 1 true true) { d := Vector.replicate 8 0x8000, w := Vector.replicate 2 0x7FFFFFFFFF, j := Vector.replicate 8 0x80000 }, wPos, 7, 1, by decide +kernel⟩,
   ⟨wAw (.rdw wPos (7) (1) 1 false true) { d := Vector.replicate 8 0x8000, w := Vector.replicate 2 0x7FFFFFFFFF, j := Vector.replicate 8 0x80000 }, wPos, 7, 1, by decide +kernel⟩⟩

/-- The hypotheses of `AwlAccumulators` are met. -/
theorem test_meets_AwlAccumulators :
    (∃ (s : State) (p : Pos) (wn : Fin 2), AtInstr s p (.addw p wn) (1 + (s.core p).stallW 3)) ∧
    (∃ (s : State) (p : Pos) (wn : Fin 2), AtInstr s p (.subw p wn) (1 + (s.core p).stallW 3)) ∧
    (∃ (s : State) (p : Pos), AtInstr s p (.cmpw p) (1 + (s.core p).stallW 3)) ∧
    (∃ (s : State) (p : Pos) (wn : Fin 2) (n : AshCount), AtInstr s p (.ash p wn n) (1 + (s.core p).stallW (2 ^ wn.val))) ∧
    (∃ (s : State) (p : Pos) (wn : Fin 2), AtInstr s p (.negw p wn) (1 + (s.core p).stallW (2 ^ wn.val))) ∧
    (∃ (s : State) (p : Pos) (wn : Fin 2), AtInstr s p (.absw p wn) (1 + (s.core p).stallW (2 ^ wn.val))) ∧
    (∃ (s : State) (p : Pos) (dd : Fin 8) (wn : Fin 2), AtInstr s p (.norm p dd wn) (1 + (s.core p).stallW (2 ^ wn.val))) :=
  ⟨⟨wAw (.addw wPos (1)) { d := Vector.replicate 8 0x8000, w := Vector.replicate 2 0x7FFFFFFFFF, j := Vector.replicate 8 0x80000 }, wPos, 1, by decide +kernel⟩,
   ⟨wAw (.subw wPos (1)) { d := Vector.replicate 8 0x8000, w := Vector.replicate 2 0x7FFFFFFFFF, j := Vector.replicate 8 0x80000 }, wPos, 1, by decide +kernel⟩,
   ⟨wAw (.cmpw wPos) { d := Vector.replicate 8 0x8000, w := Vector.replicate 2 0x7FFFFFFFFF, j := Vector.replicate 8 0x80000 }, wPos, by decide +kernel⟩,
   ⟨wAw (.ash wPos (1) (.imm (-64))) { d := Vector.replicate 8 0x8000, w := Vector.replicate 2 0x7FFFFFFFFF, j := Vector.replicate 8 0x80000 }, wPos, 1, .imm (-64), by decide +kernel⟩,
   ⟨wAw (.negw wPos (1)) { d := Vector.replicate 8 0x8000, w := Vector.replicate 2 0x7FFFFFFFFF, j := Vector.replicate 8 0x80000 }, wPos, 1, by decide +kernel⟩,
   ⟨wAw (.absw wPos (1)) { d := Vector.replicate 8 0x8000, w := Vector.replicate 2 0x7FFFFFFFFF, j := Vector.replicate 8 0x80000 }, wPos, 1, by decide +kernel⟩,
   ⟨wAw (.norm wPos (7) (1)) { d := Vector.replicate 8 0x8000, w := Vector.replicate 2 0x7FFFFFFFFF, j := Vector.replicate 8 0x80000 }, wPos, 7, 1, by decide +kernel⟩⟩

/-- The hypotheses of `Benches` are met. -/
theorem test_meets_Benches :
    (∃ (s : State) (b : Fin 16) (w : Fin 4) (r : BusRec) (rest : List BusRec), (Map.get s.windows {} (4 * b.val + w.val)).queue = r :: rest ∧ s.halfHeld b.val w.val ((Map.get s.windows {} (4 * b.val + w.val)).seq % 2) = false) ∧
    (∃ (s : State) (b : Fin 16) (w : Fin 4) (r : BusRec) (rest : List BusRec), (Map.get s.windows {} (4 * b.val + w.val)).queue = r :: rest ∧ s.halfHeld b.val w.val ((Map.get s.windows {} (4 * b.val + w.val)).seq % 2) = true ∧ s.attached b.val w.val = []) ∧
    (∃ (s : State) (p : Pos), (s.aw (posKey p)).running = true ∧ (s.aw (posKey p)).restart = false ∧ (s.aw (posKey p)).token = none ∧ s.shadows = []) ∧
    (∃ (s : State) (m : Master) (p : Pos) (l : List Byte), Owner s m ∧ 32 ≤ l.length ∧ l.length = 32 + ofLe ((l.drop 4).take 4) + ofLe ((l.drop 8).take 4) + ofLe ((l.drop 12).take 4) ∧ l.length ≤ 49056 ∧ ofLe ((l.drop 0).take 2) = 0x5741 ∧ ofLe ((l.drop 2).take 2) = 1 ∧ ofLe ((l.drop 4).take 4) % 4 = 0 ∧ 4 ≤ ofLe ((l.drop 4).take 4) ∧ ofLe ((l.drop 4).take 4) ≤ 16384 ∧ ofLe ((l.drop 8).take 4) ≤ 16256 ∧ ofLe ((l.drop 12).take 4) ≤ 16384 ∧ ofLe ((l.drop 16).take 2) < ofLe ((l.drop 4).take 4) / 4 ∧ (ofLe ((l.drop 18).take 2) < ofLe ((l.drop 4).take 4) / 4 ∨ ofLe ((l.drop 18).take 2) = 0xFFFF) ∧ imageOk (imageWords ((l.drop 32).take (ofLe ((l.drop 4).take 4)))) = true ∧ s.plan O.awStoreEn = 1 ∧ s.anyPlan (fun q => planVal q O.awEnable (posKey p) == 1) = false) ∧
    (∃ (s : State) (b : Fin 16) (c : Fin 17), s.reg O.bnPhysState b.val c.val = 1 ∧ s.reg O.bnSpare b.val = c.val ∧ (List.range 16).all (fun i => (s.aw (16 * b.val + i)).loading.isNone) = true) ∧
    (∃ (s : State) (b : Fin 16) (c : Fin 17) (i : Nat), s.reg O.bnPhysState b.val c.val = 0 ∧ i < 16 ∧ (List.range 16).find? (fun i => s.reg O.awPhys (16 * b.val + i) == c.val) = some i ∧ s.reg O.bnSpare b.val ≠ 0xFF ∧ s.shadows = [] ∧ s.fitting = none) ∧
    (∃ (s : State) (p : Pos) (sp : Nat) (failed : Nat), (s.aw (posKey p)).loading = some (sp, failed) ∧ s.hidden H.awValid (posKey p) = 0) ∧
    (∃ (s : State) (p : Pos) (addr : BitVec 20), awRegion (addr.toNat - addr.toNat % 4) = 2 ∧ s.faultRaw (0x30 + p.bench.val) = false) ∧
    (∃ (s : State) (b : Fin 16) (i : Fin 16) (x : Spill), s.spills.find? (fun y => y.pos == 16 * b.val + i.val) = some x ∧ x.out = true) ∧
    (∃ (s : State) (b : Fin 16) (i : Fin 16) (x : Spill), s.spills.find? (fun y => y.pos == 16 * b.val + i.val) = some x ∧ x.out = false) :=
  ⟨⟨{ wUp with active := [(O.bnWEnable.key 15 3, 1), (O.bnWBinCount.key 15 3, 2)], windows := [(63, { ({} : Window) with queue := [⟨0, List.replicate 64 9, 0⟩] })] }, 15, 3, ⟨0, List.replicate 64 9, 0⟩, [], by decide +kernel⟩,
   ⟨{ wUp with active := [(O.bnWEnable.key 15 3, 1), (O.bnWBinCount.key 15 3, 2)], windows := [(63, { ({} : Window) with queue := [⟨0, List.replicate 64 9, 0⟩] })], positions := [(255, { ({} : Position) with running := true, window := 3 })] }, 15, 3, ⟨0, List.replicate 64 9, 0⟩, [], by decide +kernel⟩,
   ⟨wAw (.nop wPos), wPos, by decide +kernel⟩,
   ⟨{ wUp with active := [(O.awStoreEn.key 0 0, 1)] }, .host, wPos, leBytes 0x5741 2 ++ leBytes 1 2 ++ leBytes 4 4 ++ leBytes 0 8 ++ leBytes 0xFFFF0000 4 ++ leBytes 0 12 ++ leBytes (0x01 * 2 ^ 26) 4, by decide +kernel⟩,
   ⟨wUp.setReg O.bnPhysState 1 15 16, 15, 16, by decide +kernel⟩,
   ⟨wUp, 15, 15, 15, by decide +kernel⟩,
   ⟨{ wUp with positions := [(255, { ({} : Position) with loading := some (16, 15) })] }, wPos, 16, 15, by decide +kernel⟩,
   ⟨wAw (.nop wPos), wPos, 0xFFFFF, by decide +kernel⟩,
   ⟨{ wUp with spills := [{ pos := 255, out := true, bench := 64, off := 0, len := 64 }] }, 15, 15, { pos := 255, out := true, bench := 64, off := 0, len := 64 }, by decide +kernel⟩,
   ⟨{ wUp with spills := [{ pos := 255, out := false, bench := 64, off := 0, len := 64 }] }, 15, 15, { pos := 255, out := false, bench := 64, off := 0, len := 64 }, by decide +kernel⟩⟩

/-- The hypotheses of `TaggedEdges` are met. -/
theorem test_meets_TaggedEdges :
    (∃ (s : State) (ch : Fin 8) (up : Bool), bit (s.reg O.pwrDomainOn) 32 = true ∧ s.reg O.ticUndecided ch.val = 0 ∧ s.hidden H.comp ch.val ≠ b2n up ∧ (s.plan O.ticSrc ch.val ≠ 0 ∨ s.reg O.ticState ch.val ≠ 1) ∧ (List.range 16).all (fun g => s.plan O.pgMode g == 0) = true) ∧
    (∃ (s : State) (ch : Fin 8) (up : Bool), bit (s.reg O.pwrDomainOn) 32 = true ∧ s.plan O.ticSrc ch.val ≠ 0 ∧ s.reg O.ticState ch.val = 1 ∧ countsEdge (s.plan O.ticPolarity ch.val) up = true ∧ (s.chan ch.val).pendK = none ∧ (s.reg O.ticCount ch.val + 1) % 2 ^ O.ticCount.width % 2 ^ s.reg O.ticK ch.val ≠ 0) ∧
    (∃ (s : State) (ch : Fin 8) (up : Bool) (stop : Fin 4) (code : BitVec 12) (ip : Nat) (l : List Nat), bit (s.reg O.pwrDomainOn) 32 = true ∧ s.plan O.ticSrc ch.val ≠ 0 ∧ s.reg O.ticState ch.val = 1 ∧ countsEdge (s.plan O.ticPolarity ch.val) up = true ∧ (s.chan ch.val).pendK = none ∧ (s.reg O.ticCount ch.val + 1) % 2 ^ O.ticCount.width % 2 ^ s.reg O.ticK ch.val = 0 ∧ (s.chan ch.val).turn = ip :: l ∧ taggable (s.chan ch.val) (s.edgePos ch.val ip stop.val code.toNat) = true ∧ (s.chan ch.val).queue = [] ∧ (s.chan ch.val).marks &&& TG.pairMerge = 0) ∧
    (∃ (s : State) (ch : Fin 8) (up : Bool) (stop : Fin 4) (code : BitVec 12) (ip : Nat) (l : List Nat), bit (s.reg O.pwrDomainOn) 32 = true ∧ s.plan O.ticSrc ch.val ≠ 0 ∧ s.reg O.ticState ch.val = 1 ∧ countsEdge (s.plan O.ticPolarity ch.val) up = true ∧ (s.chan ch.val).pendK = none ∧ (s.reg O.ticCount ch.val + 1) % 2 ^ O.ticCount.width % 2 ^ s.reg O.ticK ch.val = 0 ∧ (s.chan ch.val).turn = ip :: l ∧ taggable (s.chan ch.val) (s.edgePos ch.val ip stop.val code.toNat) = false) ∧
    (∃ (s : State) (ch : Fin 8), s.reg O.ticState ch.val = 1 ∧ (s.chan ch.val).queue = [] ∧ s.reg O.ticK ch.val < (ktFrom (s.chan ch.val).inWindow (f64 (s.plan O.ticDeclRate ch.val) * 4096 * 8 / s.froot) (s.plan O.ticKMax ch.val - s.plan O.ticKMin ch.val) (s.plan O.ticKMin ch.val))) :=
  ⟨⟨wUp.setReg O.ticUndecided 0 7, 7, true, by decide +kernel⟩,
   ⟨{ (wUp.setReg O.ticK 3 7).setReg O.ticState 1 7 with active := [(O.ticSrc.key 7 0, 1)] }, 7, true, by decide +kernel⟩,
   ⟨{ wUp.setReg O.ticState 1 7 with active := [(O.ticSrc.key 7 0, 1)] }, 7, true, 3, 0xFFF, 0, [1, 2, 3], by decide +kernel⟩,
   ⟨{ wUp.setReg O.ticState 1 7 with active := [(O.ticSrc.key 7 0, 1)], chans := [(7, { ({} : Chan) with lastTag := 2 ^ 60 })] }, 7, true, 3, 0xFFF, 0, [1, 2, 3], by decide +kernel⟩,
   ⟨{ wUp.setReg O.ticState 1 7 with chans := [(7, { ({} : Chan) with inWindow := 2 ^ 40 })] }, 7, by decide +kernel⟩⟩

/-- The hypotheses of `LoupeCalibration` are met. -/
theorem test_meets_LoupeCalibration :
    (∃ (s : State) (ch : Fin 8) (i : Nat), s.reg O.ticState ch.val = 1 ∧ s.plan O.ticCalMode ch.val ≠ 0 ∧ (s.chan ch.val).run = 0 ∧ s.idleIp ch.val = some i ∧ (s.chan ch.val).due = true) ∧
    (∃ (s : State) (m : Master) (ch : Fin 8) (i : Nat), Owner s m ∧ bit (s.reg O.pwrDomainOn) 32 = true ∧ s.reg O.ticState ch.val = 1 ∧ s.plan O.ticCalMode ch.val ≠ 0 ∧ (s.chan ch.val).run = 0 ∧ s.idleIp ch.val = some i) ∧
    (∃ (s : State) (ch : Fin 8) (i : Nat) (l : List Nat), s.idleIp ch.val = some i ∧ (s.chan ch.val).run ≠ 0 ∧ (s.chan ch.val).run < 5 ∧ (s.chan ch.val).swap = none ∧ loupeReason l false = 0) ∧
    (∃ (s : State) (ch : Fin 8) (i : Nat) (l : List Nat), s.idleIp ch.val = some i ∧ (s.chan ch.val).run = 5 ∧ (s.chan ch.val).swap = none ∧ loupeReason l false = 0) ∧
    (∃ (s : State) (ch : Fin 8) (l : List Nat) (hard : Bool), (s.idleIp ch.val).isSome = true ∧ (s.chan ch.val).run ≠ 0 ∧ (s.chan ch.val).swap = none ∧ loupeReason l hard ≠ 0 ∧ (s.chan ch.val).again = false) ∧
    (∃ (s : State) (ch : Fin 8) (i : Nat) (j : Nat), (s.chan ch.val).swap = some (i, j) ∧ i < 5 ∧ j < 5 ∧ i ≠ j) ∧
    (∃ (s : State) (ch : Fin 8) (ip : Fin 5) (i : Nat), s.reg O.ipState ch.val ip.val = 0 ∧ s.idleIp ch.val = some i ∧ s.plan O.ticCalMode ch.val ≠ 1) :=
  ⟨⟨{ wUp.setReg O.ticState 1 7 with chans := [(7, { ({} : Chan) with due := true })] }, 7, 4, by decide +kernel⟩,
   ⟨wUp.setReg O.ticState 1 7, .host, 7, 4, by decide +kernel⟩,
   ⟨{ wUp.setReg O.ticState 1 7 with chans := [(7, { ({} : Chan) with run := 1 })] }, 7, 4, List.replicate 16 0 ++ List.replicate 2048 9 ++ List.replicate 2032 0, by decide +kernel⟩,
   ⟨{ wUp.setReg O.ticState 1 7 with chans := [(7, { ({} : Chan) with run := 5 })] }, 7, 4, List.replicate 16 0 ++ List.replicate 2048 9 ++ List.replicate 2032 0, by decide +kernel⟩,
   ⟨{ wUp.setReg O.ticState 1 7 with chans := [(7, { ({} : Chan) with run := 5 })] }, 7, [], true, by decide +kernel⟩,
   ⟨{ wUp.setReg O.ticState 1 7 with chans := [(7, { ({} : Chan) with run := 2, swap := some (4, 3) })] }, 7, 4, 3, by decide +kernel⟩,
   ⟨{ wUp with active := [(O.ticCalMode.key 7 0, 2)] }, 7, 0, 4, by decide +kernel⟩⟩

/-- The hypotheses of `MeasurementSlots` are met. -/
theorem test_meets_MeasurementSlots :
    (∃ (s : State) (sl : Fin 16) (a : Nat), s.reg O.msState sl.val = 2 ∧ s.plan O.msGateKind sl.val = 0 ∧ ((s.slot sl.val).armT + ((s.slot sl.val).gate + 1) * s.gateTime sl.val) ≤ s.nowTicks ∧ (s.slot sl.val).openT = some a ∧ (s.slot sl.val).stopping = false ∧ (s.plan O.msGates sl.val = 0 ∨ (s.slot sl.val).done + 1 < s.plan O.msGates sl.val)) ∧
    (∃ (s : State) (sl : Fin 16) (a : Nat), s.reg O.msState sl.val = 2 ∧ s.plan O.msGateKind sl.val = 0 ∧ ((s.slot sl.val).armT + ((s.slot sl.val).gate + 1) * s.gateTime sl.val) ≤ s.nowTicks ∧ (s.slot sl.val).openT = some a ∧ (s.slot sl.val).stopping = false ∧ s.plan O.msGates sl.val ≠ 0 ∧ s.plan O.msGates sl.val ≤ (s.slot sl.val).done + 1) ∧
    (∃ (s : State) (gate : Fin 9) (asserted : Bool), s.hidden H.gateSrc gate.val ≠ b2n asserted) ∧
    (∃ (s : State) (sl : Fin 16) (g : Gate) (rest : List Gate), (s.slot sl.val).closed = g :: rest ∧ s.plan O.msFunc sl.val = 6 ∧ (s.chan (s.plan O.msChanA sl.val)).queue = [] ∧ (s.chan (s.plan O.msChanB sl.val)).queue = [] ∧ s.plan O.msRingSize = 0) ∧
    (∃ (s : State) (sl : Fin 16) (g : Gate) (rest : List Gate), (s.slot sl.val).closed = g :: rest ∧ s.plan O.msFunc sl.val = 6 ∧ (s.chan (s.plan O.msChanA sl.val)).queue = [] ∧ (s.chan (s.plan O.msChanB sl.val)).queue = [] ∧ s.streamsFree 7 0 = true ∧ s.plan O.msGateKind sl.val = 0 ∧ s.reg O.msRingWritePtr + 64 ≤ s.plan O.msRingSize) ∧
    (∃ (s : State) (m : Master) (sl : Fin 16), Owner s m ∧ bit (s.reg O.pwrDomainOn) 32 = true ∧ sl.val < 4) :=
  ⟨⟨{ wUp.setReg O.msState 2 15 with tc := 2 ^ 100, active := [(O.msGates.key 15 0, 2)], slots := [(15, { ({} : Slot) with openT := some 0 })] }, 15, 0, by decide +kernel⟩,
   ⟨{ wUp.setReg O.msState 2 15 with tc := 2 ^ 100, active := [(O.msGates.key 15 0, 1)], slots := [(15, { ({} : Slot) with openT := some 0 })] }, 15, 0, by decide +kernel⟩,
   ⟨wUp, 8, true, by decide +kernel⟩,
   ⟨{ wUp with active := [(O.msFunc.key 15 0, 6)], slots := [(15, { ({} : Slot) with closed := [{ openT := 0, closeT := 9, edges := 5, short := false, shared := false, number := 0 }] })] }, 15, { openT := 0, closeT := 9, edges := 5, short := false, shared := false, number := 0 }, [], by decide +kernel⟩,
   ⟨{ wUp with active := [(O.msFunc.key 15 0, 6), (O.msRingSize.key 0 0, 4096)], slots := [(15, { ({} : Slot) with closed := [{ openT := 0, closeT := 9, edges := 5, short := false, shared := false, number := 0 }] })] }, 15, { openT := 0, closeT := 9, edges := 5, short := false, shared := false, number := 0 }, [], by decide +kernel⟩,
   ⟨wUp, .host, 3, by decide +kernel⟩⟩

/-- The hypotheses of `Clocks` are met. -/
theorem test_meets_Clocks :
    (∃ (s : State) (m : Master) (v : Nat), Owner s m ∧ v < 2 ^ 32) ∧
    (∃ (s : State), s.reg O.pllcState = 4) ∧
    (∃ (s : State) (start : Int) (phase : Int), s.reg O.pllcState = 1 ∧ ratAbs (((phase : Rat) - (if s.hidden H.gateBase = 1 then f64 (s.reg O.pllcPhaseErr) else (start : Rat))) / (s.plan O.pllcLockGate : Rat)) ≤ f32 (s.plan O.pllcLockPpb)) ∧
    (∃ (s : State), s.plan O.pllcSrc ≠ 0 ∧ s.hidden H.refPresent ≠ 0 ∧ s.reg O.pllcState = 2) ∧
    (∃ (s : State) (refHz : BitVec 64), s.plan O.pllcSrc ≠ 0 ∧ s.reg O.pllcState = 3 ∧ ratAbs (f64 refHz.toNat - s.refNominal) * 1000000 ≤ f32 (s.plan O.pllcRefWin) * s.refNominal) ∧
    (∃ (s : State) (measured : Int), s.reg O.pllcState = 4 ∧ s.hidden H.newSource ≠ 1 ∧ (s.resolveDelta measured).natAbs ≤ s.plan O.pllcPhasePull) ∧
    (∃ (s : State) (measured : Int), s.reg O.pllcState = 4 ∧ s.hidden H.newSource ≠ 1 ∧ s.plan O.pllcPhasePull < (s.resolveDelta measured).natAbs) ∧
    (∃ (s : State), s.plan O.ppsinEn ≠ 0 ∧ s.plan O.servoSrc ≠ 1) ∧
    (∃ (s : State), s.reg O.pllaState = 1) ∧
    (∃ (s : State) (m : Master), Owner s m ∧ bit (s.reg O.pwrDomainOn) 5 = true ∧ s.reg O.pllaState ≠ 1) ∧
    (∃ (s : State), s.reg O.pllaState = 2 ∧ s.reg O.pllaLol = 0) ∧
    (∃ (s : State) (m : Master), Owner s m ∧ bit (s.reg O.pwrDomainOn) 5 = true) ∧
    (∃ (s : State) (m : Master) (v : Nat), Owner s m ∧ bit (s.reg O.pwrDomainOn) 5 = true ∧ v < 2 ^ 32 ∧ O.phaseStep.checks (v &&& O.phaseStep.mask) = true ∧ v ≠ 0 ∧ s.reg O.pllaState = 2 ∧ (toI 32 (s.reg O.phaseRemain) + toI 32 v).natAbs ≤ 65535) ∧
    (∃ (s : State) (m : Master) (v : Nat), Owner s m ∧ bit (s.reg O.pwrDomainOn) 5 = true ∧ v < 2 ^ 32 ∧ O.phaseStep.checks (v &&& O.phaseStep.mask) = true ∧ v ≠ 0 ∧ s.reg O.pllaState = 2 ∧ (toI 32 (s.reg O.phaseRemain) + toI 32 v).natAbs ≤ 65535 ∧ toI 32 (s.reg O.phaseRemain) + toI 32 v ≠ 0) ∧
    (∃ (s : State), s.reg O.pllaState = 2 ∧ toI 32 (s.reg O.phaseRemain) ≠ 0) :=
  ⟨⟨wUp, .host, 2 ^ 32 - 1, by decide +kernel⟩,
   ⟨wUp.setReg O.pllcState 4, by decide +kernel⟩,
   ⟨wUp.setReg O.pllcState 1, 0, 0, by decide +kernel⟩,
   ⟨{ (wUp.setReg O.pllcState 2).setHidden H.refPresent 1 with active := [(O.pllcSrc.key 0 0, 1)] }, by decide +kernel⟩,
   ⟨{ wUp.setReg O.pllcState 3 with active := [(O.pllcSrc.key 0 0, 1)] }, BitVec.ofNat 64 (State.reset.plan O.pllcRefHz), by decide +kernel⟩,
   ⟨wUp.setReg O.pllcState 4, -1, by decide +kernel⟩,
   ⟨{ wUp.setReg O.pllcState 4 with active := [(O.pllcPhasePull.key 0 0, 1)] }, -5, by decide +kernel⟩,
   ⟨{ wUp with active := [(O.ppsinEn.key 0 0, 1)] }, by decide +kernel⟩,
   ⟨wUp.setReg O.pllaState 1, by decide +kernel⟩,
   ⟨wUp.setReg O.pllaState 2, .host, by decide +kernel⟩,
   ⟨wUp.setReg O.pllaState 2, by decide +kernel⟩,
   ⟨wUp, .host, by decide +kernel⟩,
   ⟨(wUp.setReg O.pllaState 2).setReg O.phaseRemain 1, .host, 2 ^ 32 - 1, by decide +kernel⟩,
   ⟨wUp.setReg O.pllaState 2, .host, 2 ^ 32 - 1, by decide +kernel⟩,
   ⟨(wUp.setReg O.pllaState 2).setReg O.phaseRemain 0xFFFFFFFF, by decide +kernel⟩⟩

/-- The hypotheses of `TimeSteps` are met. -/
theorem test_meets_TimeSteps :
    (∃ (s : State) (m : Master) (v : Nat), Owner s m ∧ v < 2 ^ 96 ∧ T96.ok v = true ∧ s.reg O.tcValid = 0) ∧
    (∃ (s : State) (m : Master) (v : Nat), Owner s m ∧ v < 2 ^ 96 ∧ T96.ok v = true ∧ s.reg O.tcValid ≠ 0 ∧ s.reg O.jumpMax ≠ 0 ∧ (((T96.toTicks v : Nat) : Int) - (s.nowTicks : Nat)).natAbs ≤ s.reg O.jumpMax * 65536 ∧ (T96.toTicks v : Int) < timeTop) ∧
    (∃ (s : State) (m : Master) (v : Nat), Owner s m ∧ v < 2 ^ 96 ∧ T96.ok v = true ∧ s.reg O.tcValid ≠ 0 ∧ s.reg O.jumpMax ≠ 0 ∧ s.steps = [] ∧ (((T96.toTicks v : Nat) : Int) - (s.nowTicks : Nat)).natAbs ≤ s.reg O.jumpMax * 65536 ∧ (T96.toTicks v : Int) < timeTop) ∧
    (∃ (s : State) (m : Master) (v : Nat), Owner s m ∧ v < 2 ^ 64 ∧ s.reg O.tcValid ≠ 0 ∧ s.reg O.jumpMax ≠ 0 ∧ (toI 64 v).natAbs ≤ s.reg O.jumpMax * 65536 ∧ 0 ≤ (s.nowTicks : Int) + toI 64 v ∧ (s.nowTicks : Int) + toI 64 v < timeTop) ∧
    (∃ (s : State) (m : Master) (v : Nat), Owner s m ∧ v < 2 ^ 64 ∧ s.reg O.tcValid ≠ 0 ∧ s.reg O.jumpMax ≠ 0 ∧ s.steps = [] ∧ (toI 64 v).natAbs ≤ s.reg O.jumpMax * 65536 ∧ 0 ≤ (s.nowTicks : Int) + toI 64 v ∧ (s.nowTicks : Int) + toI 64 v < timeTop) ∧
    (∃ (s : State) (m : Master) (v : Nat), s.dictReady = true ∧ s.connected .host = true ∧ s.owns .host = true ∧ m = Master.host ∧ v < 2 ^ 64 ∧ s.reg O.tcValid ≠ 0 ∧ (s.reg O.jumpMax = 0 ∨ s.reg O.jumpMax * 65536 < (toI 64 v).natAbs) ∧ 0 ≤ (s.nowTicks : Int) + toI 64 v ∧ (s.nowTicks : Int) + toI 64 v < timeTop) ∧
    (∃ (s : State) (m : Master) (v : Nat), Owner s m ∧ v < 2 ^ 32 ∧ s.reg O.tcStepHeldSrc ≠ 0 ∧ v = s.reg O.tcStepHeldSeq ∧ s.inRange (toI 128 (s.hidden H.heldOffset)) = true) ∧
    (∃ (s : State) (m : Master) (v : Nat), Owner s m ∧ v < 2 ^ 32 ∧ s.reg O.tcStepHeldSrc ≠ 0 ∧ v = s.reg O.tcStepHeldSeq ∧ s.steps = [] ∧ s.inRange (toI 128 (s.hidden H.heldOffset)) = true) ∧
    (∃ (s : State), s.steps ≠ [] ∧ s.inRange (s.steps.foldl (fun a q => a + stepOffset s.nowTicks q) 0) = true) ∧
    (∃ (s : State) (m : Master) (v : Nat), Owner s m ∧ v < 2 ^ 64 ∧ O.tcSlew.checks (v &&& O.tcSlew.mask) = true ∧ s.plan O.tcServo ≠ 0 ∧ (s.slewLeft + toI 64 v * 2 ^ 48).natAbs ≤ T96.second * 2 ^ 48) ∧
    (∃ (s : State), s.hidden H.boot ≠ 0 ∧ s.slewLeft ≠ 0 ∧ s.slewLeft.natAbs ≤ s.slewMax ∧ 0 ≤ s.tickAdd s.slewLeft) ∧
    (∃ (s : State) (m : Master) (v : Nat), Owner s m ∧ v < 2 ^ 64 ∧ O.tcFreqAdj.checks (v &&& O.tcFreqAdj.mask) = true ∧ s.plan O.tcServo ≠ 0) ∧
    (∃ (s : State) (sec : Nat), s.wholeSecond = some sec ∧ s.plan O.ppsoutEn = 1 ∧ s.reg O.frSafe = 0 ∧ s.hidden H.ppsOut = 0) ∧
    (∃ (s : State), s.plan O.tcServo = 0 ∧ s.reg O.servoState = 3) :=
  ⟨⟨wUp, .host, 5 * 2 ^ 48, by decide +kernel⟩,
   ⟨{ ((wUp.setReg O.tcValid 1).setReg O.jumpMax 100000) with tc := 5 * 2 ^ 64 }, .host, 0, by decide +kernel⟩,
   ⟨{ ((wUp.setReg O.tcValid 1).setReg O.jumpMax 100000) with tc := 5 * 2 ^ 64 }, .host, 0, by decide +kernel⟩,
   ⟨((wUp.setReg O.tcValid 1).setReg O.jumpMax 100000), .host, 3, by decide +kernel⟩,
   ⟨((wUp.setReg O.tcValid 1).setReg O.jumpMax 100000), .host, 3, by decide +kernel⟩,
   ⟨((wUp.setReg O.tcValid 1).setReg O.jumpMax 1), .host, 131072, by decide +kernel⟩,
   ⟨((wUp.setReg O.tcStepHeldSrc 1).setReg O.tcStepHeldSeq 9).setHidden H.heldOffset 5, .host, 9, by decide +kernel⟩,
   ⟨((wUp.setReg O.tcStepHeldSrc 1).setReg O.tcStepHeldSeq 9).setHidden H.heldOffset 5, .host, 9, by decide +kernel⟩,
   ⟨{ wUp with steps := [(false, 7)] }, by decide +kernel⟩,
   ⟨{ wUp with active := [(O.tcServo.key 0 0, 1)] }, .host, 2 ^ 64 - 65536, by decide +kernel⟩,
   ⟨wUp.setHidden H.slew 1, by decide +kernel⟩,
   ⟨{ wUp with active := [(O.tcServo.key 0 0, 1)] }, .host, 0x3FF0000000000000, by decide +kernel⟩,
   ⟨{ wUp with tc := T96.second * 2 ^ 48, active := [(O.ppsoutEn.key 0 0, 1)] }, T96.second, by decide +kernel⟩,
   ⟨wUp.setReg O.servoState 3, by decide +kernel⟩⟩

/-- The hypotheses of `PtpReceived` are met. -/
theorem test_meets_PtpReceived :
    (∃ (s : State) (p : Fin 2) (q : PtpMsg), s.ptpOn p.val = true ∧ q.version.val = 2 ∧ q.domain.toNat = s.plan O.ptpDomain ∧ s.isSlave p.val = true ∧ s.fromParent p.val q = true ∧ q.twoStep = false ∧ s.plan O.servoSrc ≠ 0) ∧
    (∃ (s : State) (p : Fin 2) (q : PtpMsg), s.ptpOn p.val = true ∧ q.version.val = 2 ∧ q.domain.toNat = s.plan O.ptpDomain ∧ s.isSlave p.val = true ∧ s.fromParent p.val q = true ∧ q.twoStep = true) ∧
    (∃ (s : State) (p : Fin 2) (q : PtpMsg) (e : Exchange), s.ptpOn p.val = true ∧ q.version.val = 2 ∧ q.domain.toNat = s.plan O.ptpDomain ∧ (s.ptpPort p.val).sync = some e ∧ e.seq = q.seq.toNat ∧ s.plan O.servoSrc ≠ 0) ∧
    (∃ (s : State) (p : Fin 2) (q : PtpMsg) (e : Exchange), s.ptpOn p.val = true ∧ q.version.val = 2 ∧ q.domain.toNat = s.plan O.ptpDomain ∧ (s.ptpPort p.val).delay = some e ∧ e.seq = q.seq.toNat ∧ q.requester.toNat = s.reg O.ptpClockId ∧ q.requesterPort.toNat = p.val + 1 ∧ s.plan O.servoSrc ≠ 0 ∧ (s.ptpPort p.val).haveSync = true) ∧
    (∃ (s : State) (p : Fin 2) (q : PtpMsg) (e : Exchange), s.ptpOn p.val = true ∧ q.version.val = 2 ∧ q.domain.toNat = s.plan O.ptpDomain ∧ (s.ptpPort p.val).delay = some e ∧ e.seq = q.seq.toNat ∧ q.requester.toNat = s.reg O.ptpClockId ∧ q.requesterPort.toNat = p.val + 1 ∧ (s.ptpPort p.val).haveSync = false) ∧
    (∃ (s : State) (p : Fin 2) (q : PtpMsg) (e : Exchange), q.version.val = 2 ∧ q.domain.toNat = s.plan O.ptpDomain ∧ (s.ptpPort p.val).pdelay = some e ∧ e.seq = q.seq.toNat ∧ q.requester.toNat = s.reg O.ptpClockId ∧ q.requesterPort.toNat = p.val + 1 ∧ q.twoStep = false ∧ s.plan O.servoSrc ≠ 0) ∧
    (∃ (s : State) (p : Fin 2) (q : PtpMsg) (e : Exchange), q.version.val = 2 ∧ q.domain.toNat = s.plan O.ptpDomain ∧ (s.ptpPort p.val).pdelay = some e ∧ e.seq = q.seq.toNat ∧ q.requester.toNat = s.reg O.ptpClockId ∧ q.requesterPort.toNat = p.val + 1 ∧ q.twoStep = true) ∧
    (∃ (s : State) (p : Fin 2) (q : PtpMsg) (e : Exchange), q.version.val = 2 ∧ q.domain.toNat = s.plan O.ptpDomain ∧ (s.ptpPort p.val).pdelay = some e ∧ e.seq = q.seq.toNat ∧ q.requester.toNat = s.reg O.ptpClockId ∧ q.requesterPort.toNat = p.val + 1 ∧ e.waits = true ∧ s.plan O.servoSrc ≠ 0) ∧
    (∃ (s : State) (p : Fin 2) (q : PtpMsg), s.ptpOn p.val = true ∧ q.version.val = 2 ∧ q.domain.toNat = s.plan O.ptpDomain ∧ s.reg O.ptpPortState p.val = PS.master ∧ s.ptpPeer p.val = false) ∧
    (∃ (s : State) (p : Fin 2) (q : PtpMsg), s.plan O.ptpMode = 0 ∧ s.plan O.ptpDelay p.val = 1 ∧ s.reg O.ptpPortState p.val ≠ PS.disabled ∧ s.reg O.ptpPortState p.val ≠ 2 ∧ s.plan O.ptpRole p.val ≠ 0 ∧ q.version.val = 2 ∧ q.domain.toNat = s.plan O.ptpDomain) ∧
    (∃ (s : State) (p : Fin 2) (q : PtpMsg), s.ptpOn p.val = true ∧ q.version.val = 2 ∧ q.domain.toNat = s.plan O.ptpDomain ∧ s.plan O.ptpMode = 0 ∧ s.plan O.ptpRole p.val = 3 ∧ (s.ptpPort p.val).foreign = none) ∧
    (∃ (s : State) (p : Fin 2) (q : PtpMsg), s.ptpOn p.val = true ∧ q.version.val = 2 ∧ q.domain.toNat = s.plan O.ptpDomain ∧ s.plan O.ptpMode = 0 ∧ s.plan O.ptpRole p.val = 1 ∧ s.plan O.ptpClockClass < 128 ∧ s.plan O.ptpRole (1 - p.val) ≠ 1 ∧ (s.ptpPort p.val).foreign = none) ∧
    (∃ (s : State) (p : Fin 2), s.ptpOn p.val = true ∧ (s.plan O.ptpMode = 1 ∨ (s.plan O.ptpRole 0 ≠ 1 ∧ s.plan O.ptpRole 1 ≠ 1))) ∧
    (∃ (s : State) (p : Fin 2), s.ptpOn p.val = true) ∧
    (∃ (s : State) (p : Fin 2), s.ptpOn p.val = true) :=
  ⟨⟨{ wPort 3 PS.slave with ptp := [(1, { ({} : PtpPort) with haveDelay := true, mpd2 := 4 })] }, 1, wPtp, by decide +kernel⟩,
   ⟨{ wPort 3 PS.slave with ptp := [(1, { ({} : PtpPort) with haveDelay := true, mpd2 := 4 })] }, 1, { wPtp with twoStep := true }, by decide +kernel⟩,
   ⟨{ wPort 3 PS.slave with ptp := [(1, { ({} : PtpPort) with haveDelay := true, mpd2 := 4, sync := some { seq := 7, t := 3 } })] }, 1, wPtp 8, { seq := 7, t := 3 }, by decide +kernel⟩,
   ⟨{ wPort 3 PS.slave with ptp := [(1, { ({} : PtpPort) with haveSync := true, delay := some { seq := 7, t := 3 } })] }, 1, wPtp 9, { seq := 7, t := 3 }, by decide +kernel⟩,
   ⟨{ wPort 3 PS.slave with ptp := [(1, { ({} : PtpPort) with haveSync := false, delay := some { seq := 7, t := 3 } })] }, 1, wPtp 9, { seq := 7, t := 3 }, by decide +kernel⟩,
   ⟨wAsked PS.slave none (some { seq := 7, t := 3 }), 1, wPtp 3, { seq := 7, t := 3 }, by decide +kernel⟩,
   ⟨wAsked PS.slave none (some { seq := 7, t := 3 }), 1, { wPtp 3 with twoStep := true }, { seq := 7, t := 3 }, by decide +kernel⟩,
   ⟨wAsked PS.slave none (some { seq := 7, t := 3, waits := true }), 1, wPtp 10, { seq := 7, t := 3, waits := true }, by decide +kernel⟩,
   ⟨wPort 2 PS.master, 1, wPtp 1, by decide +kernel⟩,
   ⟨{ wPort 2 PS.master with active := [(O.ptpRole.key 1 0, 2), (O.ptpDelay.key 1 0, 1)] }, 1, wPtp 2, by decide +kernel⟩,
   ⟨wPort 3 PS.slave, 1, wPtp 11, by decide +kernel⟩,
   ⟨{ wUp with active := [(O.ptpRole.key 1 0, 1), (O.ptpClockClass.key 0 0, 6)] }, 1, wPtp 11, by decide +kernel⟩,
   ⟨wPort 3 PS.slave, 1, by decide +kernel⟩,
   ⟨wPort 3 PS.slave, 1, by decide +kernel⟩,
   ⟨wPort 3 PS.slave, 1, by decide +kernel⟩⟩

/-- The hypotheses of `PtpSent` are met. -/
theorem test_meets_PtpSent :
    (∃ (s : State) (p : Fin 2), s.ptpOn p.val = true ∧ s.reg O.ptpPortState p.val = PS.master) ∧
    (∃ (s : State) (p : Fin 2), s.ptpOn p.val = true ∧ s.reg O.ptpPortState p.val = PS.master) ∧
    (∃ (s : State) (p : Fin 2), s.ptpOn p.val = true ∧ s.isSlave p.val = true ∧ s.ptpPeer p.val = false) ∧
    (∃ (s : State) (p : Fin 2), s.ptpPeer p.val = true ∧ (s.plan O.ptpMode = 1 ∨ s.ptpOn p.val = true)) ∧
    (∃ (s : State) (p : Fin 2), s.ptpOn p.val = true ∧ s.reg O.ptpPortState p.val = PS.master) ∧
    (∃ (s : State) (q : PtpMsg), s.plan O.ptpMode = 1 ∧ s.plan O.ptpTcDelay = 0 ∧ q.type.val < 4) ∧
    (∃ (s : State) (q : PtpMsg), s.plan O.ptpMode = 1 ∧ s.plan O.ptpTcDelay = 1 ∧ q.type.val = 0) ∧
    (∃ (s : State) (q : PtpMsg), s.plan O.ptpMode = 1 ∧ s.plan O.ptpTcDelay = 0 ∧ 4 ≤ q.type.val) ∧
    (∃ (s : State) (p : Fin 2), s.plan O.synceEsmc p.val = 1) ∧
    (∃ (s : State) (p : Fin 2) (ql : Fin 16), s.plan O.synceEsmc p.val = 1 ∧ s.reg O.synceRxQl p.val ≠ ql.val) :=
  ⟨⟨wPort 2 PS.master, 1, by decide +kernel⟩,
   ⟨wPort 2 PS.master, 1, by decide +kernel⟩,
   ⟨wPort 3 PS.slave, 1, by decide +kernel⟩,
   ⟨{ wPort 2 PS.master with active := [(O.ptpRole.key 1 0, 2), (O.ptpDelay.key 1 0, 1)] }, 1, by decide +kernel⟩,
   ⟨wPort 2 PS.master, 1, by decide +kernel⟩,
   ⟨{ wUp with active := [(O.ptpMode.key 0 0, 1)] }, wPtp, by decide +kernel⟩,
   ⟨{ wUp with active := [(O.ptpMode.key 0 0, 1), (O.ptpTcDelay.key 0 0, 1)], ptp := [(1, { ({} : PtpPort) with mpd2 := 9 })] }, wPtp, by decide +kernel⟩,
   ⟨{ wUp with active := [(O.ptpMode.key 0 0, 1)] }, wPtp 11, by decide +kernel⟩,
   ⟨{ wUp with active := [(O.synceEsmc.key 1 0, 1)] }, 1, by decide +kernel⟩,
   ⟨{ wUp with active := [(O.synceEsmc.key 1 0, 1)] }, 1, 4, by decide +kernel⟩⟩

/-- The hypotheses of `TimedActions` are met. -/
theorem test_meets_TimedActions :
    (∃ (s : State) (m : Master) (e : Fin 512), Owner s m ∧ s.reg O.taState e.val = 0 ∧ s.reg O.tcValid ≠ 0 ∧ s.reg O.taKind e.val ≠ 1 ∧ taFits (s.reg O.taKind e.val) (s.reg O.taTarget e.val) (toI 64 (s.reg O.taArg e.val)) = true ∧ (s.reg O.taPeriod e.val = 0 ∨ 10000 ≤ s.reg O.taPeriod e.val) ∧ bit (s.reg O.taFlags e.val) 1 = true) ∧
    (∃ (s : State) (m : Master) (e : Fin 512), Owner s m ∧ s.reg O.taState e.val = 0 ∧ s.reg O.tcValid ≠ 0 ∧ s.reg O.taKind e.val ≠ 1 ∧ taFits (s.reg O.taKind e.val) (s.reg O.taTarget e.val) (toI 64 (s.reg O.taArg e.val)) = true ∧ (s.reg O.taPeriod e.val = 0 ∨ 10000 ≤ s.reg O.taPeriod e.val) ∧ bit (s.reg O.taFlags e.val) 1 = false ∧ s.nowTicks + 10000 * 65536 ≤ s.taDue e.val) ∧
    (∃ (s : State) (m : Master) (e : Fin 512), Owner s m ∧ s.reg O.taState e.val = 2) ∧
    (∃ (s : State) (e : Fin 512), s.taReady e.val = true ∧ s.reg O.taKind e.val = 2 ∧ s.taFirst e.val = true ∧ s.reg O.taFlags e.val = 0 ∧ s.reg O.taPeriod e.val = 0 ∧ s.hidden H.taLate e.val = 0 ∧ s.reg O.pllaState = 2 ∧ (toI 32 (s.reg O.phaseRemain) + toI 64 (s.reg O.taArg e.val)).natAbs ≤ 65535 ∧ toI 32 (s.reg O.phaseRemain) + toI 64 (s.reg O.taArg e.val) ≠ 0) ∧
    (∃ (s : State) (e : Fin 512), s.taReady e.val = true ∧ s.reg O.taKind e.val = 3 ∧ s.taFirst e.val = true ∧ s.reg O.taFlags e.val = 0 ∧ s.reg O.taPeriod e.val = 0 ∧ s.hidden H.taLate e.val = 0) ∧
    (∃ (s : State) (e : Fin 512), s.taReady e.val = true ∧ s.reg O.taKind e.val = 3 ∧ s.taFirst e.val = true ∧ s.reg O.taFlags e.val = 0 ∧ s.reg O.taPeriod e.val = 0 ∧ s.hidden H.taLate e.val = 0 ∧ s.timedDue = none ∧ s.hidden H.safeDue = 0 ∧ s.commitDue = false) ∧
    (∃ (s : State) (e : Fin 512) (c : Fin 16), s.taReady e.val = true ∧ s.reg O.taKind e.val = 4 ∧ s.taFirst e.val = true ∧ s.reg O.taFlags e.val = 0 ∧ s.reg O.taPeriod e.val = 0 ∧ s.hidden H.taLate e.val = 0 ∧ s.reg O.taTarget e.val = c.val ∧ s.plan O.aqEnable c.val = 1 ∧ s.reg O.aqState c.val = 0 ∧ (s.ctx c.val).disarmed = true ∧ (s.ctx c.val).cfg.cont = false) ∧
    (∃ (s : State) (e : Fin 512) (sl : Fin 16), s.taReady e.val = true ∧ s.reg O.taKind e.val = 5 ∧ s.taFirst e.val = true ∧ s.reg O.taFlags e.val = 0 ∧ s.reg O.taPeriod e.val = 0 ∧ s.hidden H.taLate e.val = 0 ∧ s.reg O.taTarget e.val = 16 + sl.val ∧ toI 64 (s.reg O.taArg e.val) = 1 ∧ s.plan O.msEnable sl.val = 1 ∧ s.reg O.msState sl.val = 4 ∧ s.plan O.msGateKind sl.val = 0) ∧
    (∃ (s : State) (e : Fin 512) (c : Fin 16), s.taReady e.val = true ∧ s.reg O.taKind e.val = 5 ∧ s.taFirst e.val = true ∧ s.reg O.taFlags e.val = 0 ∧ s.reg O.taPeriod e.val = 0 ∧ s.hidden H.taLate e.val = 0 ∧ s.reg O.taTarget e.val = c.val ∧ s.reg O.taArg e.val = 0 ∧ s.plan O.aqEnable c.val = 1 ∧ s.reg O.aqState c.val ≠ 4) ∧
    (∃ (s : State) (e : Fin 512) (sl : Fin 16), s.taReady e.val = true ∧ s.reg O.taKind e.val = 5 ∧ s.taFirst e.val = true ∧ s.reg O.taFlags e.val = 0 ∧ s.reg O.taPeriod e.val = 0 ∧ s.hidden H.taLate e.val = 0 ∧ s.reg O.taTarget e.val = 16 + sl.val ∧ s.reg O.taArg e.val = 0 ∧ s.plan O.msEnable sl.val = 1 ∧ s.reg O.msState sl.val ≠ 2) ∧
    (∃ (s : State) (e : Fin 512) (u : Fin 16), s.taReady e.val = true ∧ s.reg O.taKind e.val = 6 ∧ s.taFirst e.val = true ∧ s.reg O.taFlags e.val = 0 ∧ s.reg O.taPeriod e.val = 0 ∧ s.hidden H.taLate e.val = 0 ∧ s.reg O.taTarget e.val = u.val ∧ s.plan O.tuEnable u.val = 1 ∧ s.plan O.tuSrc u.val = 8 ∧ s.plan O.tuLaceDrive u.val % 16 = 0 ∧ (List.range 16).all (fun c => s.plan O.aqEnable c != 1) = true ∧ (List.range 16).all (fun g => s.plan O.pgMode g == 0) = true) ∧
    (∃ (s : State) (e : Fin 512) (u : Fin 16), s.taReady e.val = true ∧ s.reg O.taKind e.val = 6 ∧ s.taFirst e.val = true ∧ s.reg O.taFlags e.val = 0 ∧ s.reg O.taPeriod e.val = 0 ∧ s.hidden H.taLate e.val = 0 ∧ s.reg O.taTarget e.val = u.val ∧ s.plan O.tuEnable u.val = 0) ∧
    (∃ (s : State) (e : Fin 512) (g : Fin 16), s.taReady e.val = true ∧ s.reg O.taKind e.val = 7 ∧ s.taFirst e.val = true ∧ s.reg O.taFlags e.val = 0 ∧ s.reg O.taPeriod e.val = 0 ∧ s.hidden H.taLate e.val = 0 ∧ s.reg O.taTarget e.val = g.val ∧ s.plan O.pgMode g.val = 0) ∧
    (∃ (s : State) (e : Fin 512) (g : Fin 16), s.taReady e.val = true ∧ s.reg O.taKind e.val = 7 ∧ s.taFirst e.val = true ∧ s.reg O.taFlags e.val = 0 ∧ s.reg O.taPeriod e.val = 0 ∧ s.hidden H.taLate e.val = 0 ∧ s.reg O.taTarget e.val = g.val ∧ s.plan O.pgMode g.val = 2 ∧ s.reg O.frSafe = 0 ∧ s.reg O.pgState g.val = 0) ∧
    (∃ (s : State) (e : Fin 512) (g : Fin 16), s.taReady e.val = true ∧ s.reg O.taKind e.val = 8 ∧ s.taFirst e.val = true ∧ s.reg O.taFlags e.val = 0 ∧ s.reg O.taPeriod e.val = 0 ∧ s.hidden H.taLate e.val = 0 ∧ s.reg O.taTarget e.val = g.val ∧ s.plan O.pgMode g.val = 1 ∧ s.reg O.pgState g.val ≠ 2) ∧
    (∃ (s : State) (e : Fin 512), s.taReady e.val = true ∧ s.reg O.taKind e.val = 9 ∧ s.taFirst e.val = true ∧ s.reg O.taFlags e.val = 0 ∧ s.reg O.taPeriod e.val = 0 ∧ s.hidden H.taLate e.val = 0 ∧ s.density.copying = none ∧ s.dnSlots ≠ 0) ∧
    (∃ (s : State) (e : Fin 512), s.taReady e.val = true ∧ s.reg O.taKind e.val = 9 ∧ s.taFirst e.val = true ∧ s.reg O.taFlags e.val = 0 ∧ 0 < s.reg O.taPeriod e.val ∧ s.hidden H.taLate e.val = 0 ∧ s.density.copying = none ∧ s.dnSlots ≠ 0) ∧
    (∃ (s : State) (e : Fin 512), s.taReady e.val = true ∧ s.reg O.taKind e.val = 10 ∧ s.taFirst e.val = true ∧ s.reg O.taFlags e.val = 0 ∧ s.reg O.taPeriod e.val = 0 ∧ s.hidden H.taLate e.val = 0 ∧ s.plan O.laceEn = 1 ∧ s.reg O.laceState = 2 ∧ s.plan O.laceSDrive = 1 ∧ s.reg O.frSafe = 0) :=
  ⟨⟨((((wUp.setReg O.tcValid 1).setReg O.taKind 3 511).setReg O.taTime (2 ^ 60) 511).setReg O.taFlags 2 511), .host, 511, by decide +kernel⟩,
   ⟨((((wUp.setReg O.tcValid 1).setReg O.taKind 3 511).setReg O.taTime (2 ^ 60) 511).setReg O.taFlags 0 511), .host, 511, by decide +kernel⟩,
   ⟨wUp.setReg O.taState 2 511, .host, 511, by decide +kernel⟩,
   ⟨{ ((((wUp.setReg O.taState 2 511).setReg O.taKind 2 511).setReg O.taTarget 0 511).setReg O.taArg 5 511).setReg O.pllaState 2 with tc := 9 * 2 ^ 64, active := [] }, 511, by decide +kernel⟩,
   ⟨{ ((((wUp.setReg O.taState 2 511).setReg O.taKind 3 511).setReg O.taTarget 0 511).setReg O.taArg 0 511) with tc := 9 * 2 ^ 64, active := [] }, 511, by decide +kernel⟩,
   ⟨{ ((((wUp.setReg O.taState 2 511).setReg O.taKind 3 511).setReg O.taTarget 0 511).setReg O.taArg 0 511) with tc := 9 * 2 ^ 64, active := [] }, 511, by decide +kernel⟩,
   ⟨{ ((((wUp.setReg O.taState 2 511).setReg O.taKind 4 511).setReg O.taTarget 15 511).setReg O.taArg 0 511) with tc := 9 * 2 ^ 64, active := [(O.aqEnable.key 15 0, 1)], ctxs := [(15, { ({} : Ctx) with disarmed := true, segs := 3 })] }, 511, 15, by decide +kernel⟩,
   ⟨{ ((((wUp.setReg O.taState 2 511).setReg O.taKind 5 511).setReg O.taTarget 31 511).setReg O.taArg 1 511).setReg O.msState 4 15 with tc := 9 * 2 ^ 64, active := [(O.msEnable.key 15 0, 1)] }, 511, 15, by decide +kernel⟩,
   ⟨{ ((((wUp.setReg O.taState 2 511).setReg O.taKind 5 511).setReg O.taTarget 15 511).setReg O.taArg 0 511).setReg O.aqState 3 15 with tc := 9 * 2 ^ 64, active := [(O.aqEnable.key 15 0, 1)] }, 511, 15, by decide +kernel⟩,
   ⟨{ ((((wUp.setReg O.taState 2 511).setReg O.taKind 5 511).setReg O.taTarget 31 511).setReg O.taArg 0 511).setReg O.msState 3 15 with tc := 9 * 2 ^ 64, active := [(O.msEnable.key 15 0, 1)] }, 511, 15, by decide +kernel⟩,
   ⟨{ ((((wUp.setReg O.taState 2 511).setReg O.taKind 6 511).setReg O.taTarget 15 511).setReg O.taArg 0 511) with tc := 9 * 2 ^ 64, active := [(O.tuEnable.key 15 0, 1), (O.tuSrc.key 15 0, 8)] }, 511, 15, by decide +kernel⟩,
   ⟨{ ((((wUp.setReg O.taState 2 511).setReg O.taKind 6 511).setReg O.taTarget 15 511).setReg O.taArg 0 511) with tc := 9 * 2 ^ 64, active := [] }, 511, 15, by decide +kernel⟩,
   ⟨{ ((((wUp.setReg O.taState 2 511).setReg O.taKind 7 511).setReg O.taTarget 15 511).setReg O.taArg 0 511) with tc := 9 * 2 ^ 64, active := [] }, 511, 15, by decide +kernel⟩,
   ⟨{ ((((wUp.setReg O.taState 2 511).setReg O.taKind 7 511).setReg O.taTarget 15 511).setReg O.taArg 0 511) with tc := 9 * 2 ^ 64, active := [(O.pgMode.key 15 0, 2)] }, 511, 15, by decide +kernel⟩,
   ⟨{ ((((wUp.setReg O.taState 2 511).setReg O.taKind 8 511).setReg O.taTarget 15 511).setReg O.taArg 2 511) with tc := 9 * 2 ^ 64, active := [(O.pgMode.key 15 0, 1)] }, 511, 15, by decide +kernel⟩,
   ⟨{ ((((wUp.setReg O.taState 2 511).setReg O.taKind 9 511).setReg O.taTarget 0 511).setReg O.taArg 0 511) with tc := 9 * 2 ^ 64, active := [(O.dnSnapSize.key 0 0, 8388672)] }, 511, by decide +kernel⟩,
   ⟨{ ((((wUp.setReg O.taState 2 511).setReg O.taKind 9 511).setReg O.taTarget 0 511).setReg O.taArg 0 511).setReg O.taPeriod 10000 511 with tc := 9 * 2 ^ 64, active := [(O.dnSnapSize.key 0 0, 8388672)] }, 511, by decide +kernel⟩,
   ⟨{ ((((wUp.setReg O.taState 2 511).setReg O.taKind 10 511).setReg O.taTarget 0 511).setReg O.taArg 0 511).setReg O.laceState 2 with tc := 9 * 2 ^ 64, active := [(O.laceEn.key 0 0, 1), (O.laceSDrive.key 0 0, 1)] }, 511, by decide +kernel⟩⟩

/-- The hypotheses of `Lacing` are met. -/
theorem test_meets_Lacing :
    (∃ (s : State) (m : Master), Owner s m ∧ s.plan O.laceEn = 1 ∧ s.reg O.laceState = 2 ∧ s.plan O.laceSDrive = 1 ∧ s.reg O.frSafe = 0) ∧
    (∃ (s : State) (m : Master), Owner s m ∧ s.plan O.laceSDrive = 0) ∧
    (∃ (s : State), s.plan O.laceEn = 1 ∧ s.reg O.laceState = 2) ∧
    (∃ (s : State) (m : BitVec 4), s.plan O.laceEn = 1 ∧ s.reg O.laceState = 2 ∧ s.hidden H.lacePend = m.toNat ∧ m ≠ 0) ∧
    (∃ (s : State), s.plan O.laceEn = 1 ∧ s.reg O.laceState = 2 ∧ s.hidden H.laceOut = 0 ∧ (List.range 16).all (fun sl => s.plan O.msEnable sl != 1) = true ∧ s.plan O.laceVetoLines = 0) ∧
    (∃ (s : State), s.plan O.laceEn = 1 ∧ s.reg O.laceState = 2 ∧ s.hidden H.laceOut = 0 ∧ (List.range 16).all (fun sl => s.plan O.msEnable sl != 1) = true ∧ s.plan O.laceVetoLines = 15 ∧ s.plan O.laceVetoUnits = 0) ∧
    (∃ (s : State) (m : BitVec 4), s.plan O.laceEn = 1 ∧ s.reg O.laceState = 2 ∧ s.hidden H.laceCand = m.toNat ∧ m ≠ 0 ∧ s.hidden H.laceVeto = 0 ∧ s.hidden H.rare 0x0A3 = 0) ∧
    (∃ (s : State) (m : BitVec 4), s.plan O.laceEn = 1 ∧ s.reg O.laceState = 2 ∧ s.hidden H.laceCand = m.toNat ∧ m ≠ 0 ∧ s.hidden H.laceVeto = 0 ∧ (List.range 16).all (fun sl => s.plan O.msEnable sl != 1) = true) ∧
    (∃ (s : State), s.plan O.laceEn = 1 ∧ s.reg O.laceState = 2) ∧
    (∃ (s : State) (period : BitVec 64), s.plan O.laceEn = 1 ∧ s.reg O.laceState = 1 ∧ s.laceGood period.toNat = true) :=
  ⟨⟨{ (wUp.setReg O.laceState 2) with active := [(O.laceEn.key 0 0, 1), (O.laceSDrive.key 0 0, 1)] }, .host, by decide +kernel⟩,
   ⟨wUp, .host, by decide +kernel⟩,
   ⟨{ (wUp.setReg O.laceState 2).setHidden H.laceS 1 with active := [(O.laceEn.key 0 0, 1), (O.laceSDrive.key 0 0, 1)] }, by decide +kernel⟩,
   ⟨{ (wUp.setReg O.laceState 2).setHidden H.lacePend 9 with active := [(O.laceEn.key 0 0, 1), (O.laceSDrive.key 0 0, 1)] }, 9, by decide +kernel⟩,
   ⟨{ (wUp.setReg O.laceState 2) with active := [(O.laceEn.key 0 0, 1), (O.laceSDrive.key 0 0, 1)] }, by decide +kernel⟩,
   ⟨{ (wUp.setReg O.laceState 2) with active := [(O.laceEn.key 0 0, 1), (O.laceSDrive.key 0 0, 1), (O.laceVetoLines.key 0 0, 15)] }, by decide +kernel⟩,
   ⟨{ (wUp.setReg O.laceState 2).setHidden H.laceCand 9 with active := [(O.laceEn.key 0 0, 1), (O.laceSDrive.key 0 0, 1)] }, 9, by decide +kernel⟩,
   ⟨{ (wUp.setReg O.laceState 2).setHidden H.laceCand 9 with active := [(O.laceEn.key 0 0, 1), (O.laceSDrive.key 0 0, 1)] }, 9, by decide +kernel⟩,
   ⟨{ (wUp.setReg O.laceState 2) with active := [(O.laceEn.key 0 0, 1), (O.laceSDrive.key 0 0, 1)] }, by decide +kernel⟩,
   ⟨{ (wUp.setReg O.laceState 1) with active := [(O.laceEn.key 0 0, 1), (O.laceSDrive.key 0 0, 1)] }, BitVec.ofNat 64 (toF64 (1000000000000 / f64 (State.reset.plan O.laceHz))), by decide +kernel⟩⟩

/-- The hypotheses of `CaptureMemory` are met. -/
theorem test_meets_CaptureMemory :
    (∃ (s : State) (ch : Fin 4) (pos : Fin 3), s.reg O.drPosState ch.val pos.val = 1 ∧ (s.reg O.drCeRetire = 0 ∨ ((Map.get s.ceTimes [] (4 * ch.val + pos.val)).filter (fun x => decide (s.upTicks < x + 3600 * T96.second)) ++ [s.upTicks]).length < s.reg O.drCeRetire)) ∧
    (∃ (s : State) (ch : Fin 4) (pos : Fin 3), s.reg O.drPosState ch.val pos.val = 1 ∧ s.reg O.drCeRetire ≠ 0 ∧ s.reg O.drCeRetire ≤ ((Map.get s.ceTimes [] (4 * ch.val + pos.val)).filter (fun x => decide (s.upTicks < x + 3600 * T96.second)) ++ [s.upTicks]).length ∧ (s.drSpare ch.val).isSome = true ∧ (ch.val, pos.val) ∉ s.migQueue ∧ s.reg O.drMigState = 2) ∧
    (∃ (s : State) (ch : Fin 4) (pos : Fin 3), s.reg O.drState = 2 ∧ s.reg O.drScrubHours ≠ 0 ∧ s.reg O.drPosState ch.val pos.val = 1 ∧ s.reg O.drCeRetire = 0) ∧
    (∃ (s : State) (line : Nat), 64 * line < s.reg O.drCapacity ∧ s.poisoned line = false ∧ s.reg O.drPosState (s.drSub (64 * line) / 2) (s.drServes line) ≠ 1) ∧
    (∃ (s : State) (line : Nat), 64 * line < s.reg O.drCapacity ∧ s.poisoned line = false ∧ s.reg O.drPosState (s.drSub (64 * line) / 2) (s.drServes line) = 1 ∧ ((s.drSub (64 * line) / 2), (s.drServes line)) ∉ s.migQueue ∧ s.drSpare (s.drSub (64 * line) / 2) = none) ∧
    (∃ (s : State) (line : Nat), 64 * line < s.reg O.drCapacity ∧ s.poisoned line = false ∧ s.reg O.drPosState (s.drSub (64 * line) / 2) (s.drServes line) ≠ 1) ∧
    (∃ (s : State) (line : Nat), 64 * line < s.reg O.drCapacity ∧ s.poisoned line = true ∧ s.hidden H.rare 0x7C7 = 0) ∧
    (∃ (s : State) (ch : Nat) (pos : Nat) (sp : Nat) (rest : List (Nat × Nat)), s.migQueue = (ch, pos) :: rest ∧ s.reg O.drMigState ≠ 1 ∧ ch < 4 ∧ pos < 3 ∧ s.drSpare ch = some sp) ∧
    (∃ (s : State) (ch : Nat) (f : Nat) (g : Nat), s.migrating = some (ch, f, g)) ∧
    (∃ (s : State) (ch : Nat) (f : Nat) (g : Nat) (line : Nat), s.migrating = some (ch, f, g) ∧ 64 * line < s.reg O.drCapacity ∧ s.belowPtr line = true) ∧
    (∃ (s : State) (sub : Fin 8) (pos : Fin 3) (bank : Fin 32) (row : Nat), (activate (Map.get s.activates [] ((sub.val * 3 + pos.val) * 32 + bank.val)) row).2 < s.reg O.drRhThreshold) ∧
    (∃ (s : State) (sub : Fin 8) (pos : Fin 3) (bank : Fin 32) (row : Nat), s.reg O.drRhThreshold ≤ (activate (Map.get s.activates [] ((sub.val * 3 + pos.val) * 32 + bank.val)) row).2) ∧
    (∃ (temp : BitVec 32), 95 < f32 temp.toNat) ∧
    (∃ (s : State) (ch : Fin 4) (pos : Fin 3) (temp : BitVec 32), f32 ((s.setHidden H.rankTemp (temp.toNat + 1) (4 * ch.val + pos.val)).drHottest ch.val) ≤ 95) ∧
    (∃ (s : State) (ch : Fin 4) (pos : Fin 3) (temp : BitVec 32), 95 < f32 ((s.setHidden H.rankTemp (temp.toNat + 1) (4 * ch.val + pos.val)).drHottest ch.val)) ∧
    (∃ (port : Fin 12), port.val < 10) ∧
    (∃ (s : State), s.reg O.drState = 2) ∧
    (∃ (s : State), s.reg O.drState = 1 ∧ s.reg O.drSpareCfg = 15 ∧ (List.range 12).all (fun k => !s.isRetired 6 (k / 3) (k % 3)) = true) ∧
    (∃ (s : State), s.reg O.drState = 1) :=
  ⟨⟨wUp.setReg O.drPosState 1 3 1, 3, 1, by decide +kernel⟩,
   ⟨{ (((wUp.setReg O.drPosState 1 3 1).setReg O.drPosState 2 3 2).setReg O.drCeRetire 1).setReg O.drMigState 2 with migQueue := [(0, 0)] }, 3, 1, by decide +kernel⟩,
   ⟨(((wUp.setReg O.drPosState 1 3 1).setReg O.drState 2).setReg O.drScrubHours 24).setReg O.drCeRetire 0, 3, 1, by decide +kernel⟩,
   ⟨(wUp.setReg O.drCapacity (2 ^ 36)).setReg O.drPosState 2 0 0, 2 ^ 30 - 1, by decide +kernel⟩,
   ⟨(wUp.setReg O.drCapacity (2 ^ 36)).setReg O.drPosState 1 3 0, 2 ^ 30 - 1, by decide +kernel⟩,
   ⟨(wUp.setReg O.drCapacity (2 ^ 36)), 2 ^ 30 - 1, by decide +kernel⟩,
   ⟨(wUp.setReg O.drCapacity (2 ^ 36)).setPoison 9 true, 9, by decide +kernel⟩,
   ⟨{ (wUp.setReg O.drPosState 1 3 1).setReg O.drPosState 2 3 2 with migQueue := [(3, 1)] }, 3, 1, 2, [], by decide +kernel⟩,
   ⟨((wUp.setReg O.drPosState 5 3 1).setReg O.drPosState 6 3 2).setReg O.drMigState 1, 3, 1, 2, by decide +kernel⟩,
   ⟨{ (((((wUp.setReg O.drPosState 5 3 1).setReg O.drPosState 6 3 2).setReg O.drMigState 1).setReg O.drCapacity (2 ^ 37)).setReg O.drRankBytes (2 ^ 34)).setReg O.drRankMap 0x24 3 with up := 2 ^ 100 }, 3, 1, 2, 2 ^ 30 + 6, by decide +kernel⟩,
   ⟨wUp.setReg O.drRhThreshold 64, 7, 2, 31, 9, by decide +kernel⟩,
   ⟨wUp.setReg O.drRhThreshold 1, 7, 2, 31, 9, by decide +kernel⟩,
   ⟨0x42C00000, by decide +kernel⟩,
   ⟨wUp.setHidden H.drive 1 0x57, 3, 2, 0x42BE0000, by decide +kernel⟩,
   ⟨wUp.setHidden H.rankTemp 0x42C00001 12, 3, 2, 0x42BE0000, by decide +kernel⟩,
   ⟨9, by decide +kernel⟩,
   ⟨wUp.setReg O.drState 2, by decide +kernel⟩,
   ⟨wUp.setReg O.drState 1 |>.setReg O.drSpareCfg 15, by decide +kernel⟩,
   ⟨wUp.setReg O.drState 1, by decide +kernel⟩⟩

/-- The hypotheses of `NoSuchLine` are met. -/
theorem test_meets_NoSuchLine : ∃ (s : State) (line : Nat), s.reg O.drCapacity ≤ 64 * line :=
  ⟨wUp.setReg O.drCapacity 4096, 64, by decide +kernel⟩

/-- The hypotheses of `DmaChannels` are met. -/
theorem test_meets_DmaChannels :
    (∃ (s : State) (m : Master) (ch : Fin 64) (v : Nat), Owner s m ∧ v < 2 ^ 64 ∧ O.dmaStart.checks (v &&& O.dmaStart.mask) = true ∧ s.plan O.dmaEnable ch.val ≠ 0 ∧ s.reg O.dmaState ch.val ≠ 1 ∧ s.reg O.pllaState ≠ 0) ∧
    (∃ (s : State) (m : Master) (ch : Fin 64) (v : Nat), Owner s m ∧ v < 2 ^ 64 ∧ O.dmaStart.checks (v &&& O.dmaStart.mask) = true ∧ s.plan O.dmaEnable ch.val ≠ 0 ∧ s.reg O.dmaState ch.val ≠ 1 ∧ s.reg O.pllaState = 0) ∧
    (∃ (s : State) (m : Master) (ch : Fin 64), Owner s m ∧ s.reg O.dmaState ch.val = 2 ∧ (s.dma ch.val).reread = false) ∧
    (∃ (s : State) (m : Master) (ch : Fin 64), Owner s m ∧ s.reg O.dmaState ch.val ≠ 2) ∧
    (∃ (s : State) (m : Master) (ch : Fin 64), Owner s m ∧ s.reg O.dmaState ch.val = 1) ∧
    (∃ (s : State) (m : Master) (ch : Fin 64) (d : Desc), Owner s m ∧ s.reg O.dmaState ch.val = 1 ∧ (s.dma ch.val).desc = some d ∧ (s.dma ch.val).leaving = false) ∧
    (∃ (s : State) (ch : Fin 64) (a : Nat) (bytes : List Byte), (s.dma ch.val).fetch = some a ∧ (s.dma ch.val).desc = none ∧ (s.dma ch.val).reread = false ∧ bit a 4 = false ∧ (s.setReg O.dmaCur (a / 16 * 16) ch.val).descRefused ch.val (parseDesc bytes) = false) ∧
    (∃ (s : State) (ch : Fin 64) (a : Nat) (bytes : List Byte), (s.dma ch.val).fetch = some a ∧ (s.dma ch.val).desc = none ∧ (s.dma ch.val).reread = false ∧ bit a 4 = false ∧ (s.dma ch.val).leaving = false ∧ (s.setReg O.dmaCur (a / 16 * 16) ch.val).descRefused ch.val (parseDesc bytes) = true) ∧
    (∃ (s : State) (ch : Fin 64) (d : Desc) (data : List Byte), (s.dma ch.val).desc = some d ∧ descSrc d = 0 ∧ descDst d = 1 ∧ descK d = 0 ∧ descSwap d = 0 ∧ descHswap d = false ∧ data.length = d.count ∧ bit (s.reg O.dmaCur ch.val) 4 = false ∧ s.poison = [] ∧ (s.dma ch.val).stop = false ∧ (s.dma ch.val).leaving = false ∧ descLink d = true) ∧
    (∃ (s : State) (ch : Fin 64) (d : Desc) (data : List Byte), (s.dma ch.val).desc = some d ∧ descSrc d = 0 ∧ descDst d = 1 ∧ descK d = 0 ∧ descSwap d = 0 ∧ descHswap d = false ∧ data.length = d.count ∧ bit (s.reg O.dmaCur ch.val) 4 = false ∧ s.poison = [] ∧ (s.dma ch.val).leaving = false) :=
  ⟨⟨{ wUp.setReg O.pllaState 2 with active := [(O.dmaEnable.key 63 0, 1)] }, .host, 63, 0x1234567890, by decide +kernel⟩,
   ⟨{ (wUp.setReg O.pllaState 0).setReg O.pwrState 3 with active := [(O.dmaEnable.key 63 0, 1)] }, .host, 63, 0x1234567890, by decide +kernel⟩,
   ⟨wUp.setReg O.dmaState 2 63, .host, 63, by decide +kernel⟩,
   ⟨wUp, .host, 63, by decide +kernel⟩,
   ⟨wUp.setReg O.dmaState 1 63, .host, 63, by decide +kernel⟩,
   ⟨{ wUp.setReg O.dmaState 1 63 with dmas := [(63, { ({} : Dma) with desc := some ⟨0x1000, 0x2010, 0, 200, 4⟩ })] }, .host, 63, ⟨0x1000, 0x2010, 0, 200, 4⟩, by decide +kernel⟩,
   ⟨{ wUp with active := [(O.dmaEnable.key 63 0, 1), (O.dmaWinSize.key 63 0, 4096), (O.dmaHostRate.key 63 0, 0x3FF0000000000000)], dmas := [(63, { ({} : Dma) with fetch := some 0x1000 })] }, 63, 0x1000, (List.range 32).map (fun k => if k = 8 then 0x40 else if k = 24 then 64 else if k = 29 then 0x84 else 0), by decide +kernel⟩,
   ⟨{ wUp with active := [(O.dmaEnable.key 63 0, 1), (O.dmaWinSize.key 63 0, 4096), (O.dmaHostRate.key 63 0, 0x3FF0000000000000)], dmas := [(63, { ({} : Dma) with fetch := some 0x1000 })] }, 63, 0x1000, (List.range 32).map (fun k => if k = 8 then 0x40 else if k = 24 then 64 else if k = 29 then 0x80 else 0), by decide +kernel⟩,
   ⟨{ wUp.setReg O.dmaCur 0x1000 63 with dmas := [(63, { ({} : Dma) with desc := some { src := 0, dst := 100, next := 0x40, count := 64, ctrl := 0x8400 } })] }, 63, { src := 0, dst := 100, next := 0x40, count := 64, ctrl := 0x8400 }, List.replicate 64 7, by decide +kernel⟩,
   ⟨{ wUp.setReg O.dmaCur 0x1000 63 with dmas := [(63, { ({} : Dma) with desc := some { src := 0, dst := 100, next := 0x40, count := 64, ctrl := 0x8400 } })] }, 63, { src := 0, dst := 100, next := 0x40, count := 64, ctrl := 0x8400 }, List.replicate 64 7, by decide +kernel⟩⟩

/-- The hypotheses of `StreamRecords` are met. -/
theorem test_meets_StreamRecords :
    (∃ (s : State) (st : Fin 32) (i : Item) (is : List Item), s.reg O.stState st.val = 1 ∧ s.plan O.stDest st.val = 2 ∧ s.plan O.stRingSize st.val = 0 ∧ s.srcRing st.val = 0 ∧ s.plan O.stFormat st.val = 0 ∧ (s.stream st.val).items = i :: is ∧ i.begun = false ∧ s.plan O.stCrc st.val = 0 ∧ s.plan O.stRecMax st.val - 64 ≤ (s.stream st.val).total ∧ 64 < s.plan O.stRecMax st.val) ∧
    (∃ (s : State) (st : Fin 32) (i : Item) (is : List Item), s.reg O.stState st.val = 1 ∧ s.plan O.stDest st.val = 2 ∧ s.plan O.stRingSize st.val = 0 ∧ s.srcRing st.val = 0 ∧ s.plan O.stFormat st.val = 0 ∧ (s.stream st.val).items = i :: is ∧ i.begun = false ∧ s.plan O.stCrc st.val = 0 ∧ 64 < s.plan O.stRecMax st.val) ∧
    (∃ (s : State) (st : Fin 32), s.reg O.stState st.val = 1 ∧ s.plan O.stDest st.val = 2 ∧ s.plan O.stRingSize st.val = 0 ∧ s.srcRing st.val = 0 ∧ s.plan O.stFormat st.val = 1 ∧ s.plan O.vdPayload st.val ≠ 0 ∧ s.plan O.vdPayload st.val ≤ (s.stream st.val).total) ∧
    (∃ (s : State) (st : Fin 32), s.drainOf st.val 0 = none ∧ s.plan O.stDest st.val = 0 ∧ s.plan O.stHostMode st.val = 1 ∧ s.hidden H.hostUp = 1 ∧ s.reg O.stState st.val = 1 ∧ (s.stream st.val).ready = []) ∧
    (∃ (s : State) (st : Fin 32) (d : Drain), s.drainOf st.val 0 = some d) ∧
    (∃ (s : State) (st : Fin 32) (consumer : Nat) (r : StRec), s.drainOf st.val 0 = none ∧ s.plan O.stDest st.val = 0 ∧ s.plan O.stHostMode st.val = 1 ∧ s.hidden H.hostUp = 1 ∧ s.reg O.stState st.val = 1 ∧ s.plan O.stRingSize st.val = 0 ∧ s.plan O.stEvtBytes st.val = 0 ∧ s.reg O.frSafe = 0 ∧ (s.stream st.val).ready = [r] ∧ (s.setStream st.val { s.stream st.val with rp := consumer }).hostTakes st.val r.bytes.length = true ∧ (s.stream st.val).wp + r.bytes.length ≤ s.plan O.stHostSize st.val) ∧
    (∃ (s : State) (st : Fin 32) (r : StRec) (rest : List StRec), (s.stream st.val).ready = r :: rest ∧ s.drainOf st.val 2 = none ∧ (List.range 32).all (fun m => match s.udpTurn (s.plan O.stUdpEth st.val) m with | some v => decide (r.turn ≤ v) | none => true) = true ∧ s.plan O.stDest st.val = 2 ∧ s.reg O.ethLink (s.plan O.stUdpEth st.val) ≠ 0 ∧ s.reg O.frSafe = 0 ∧ s.plan O.stRingSize st.val = 0 ∧ s.plan O.stUdpIpv6 st.val = 0) :=
  ⟨⟨{ wUp.setReg O.stState 1 31 with active := [(O.stDest.key 31 0, 2), (O.stFormat.key 31 0, 0), (O.stRecMax.key 31 0, 128)], streams := [(31, { ({} : Stream) with items := [{ bytes := List.replicate 64 7, index := 5, t96 := 9 }] })] }, 31, { bytes := List.replicate 64 7, index := 5, t96 := 9 }, [], by decide +kernel⟩,
   ⟨{ wUp.setReg O.stState 1 31 with active := [(O.stDest.key 31 0, 2), (O.stFormat.key 31 0, 0), (O.stRecMax.key 31 0, 128)], streams := [(31, { ({} : Stream) with items := [{ bytes := List.replicate 64 7, index := 5, t96 := 9 }] })] }, 31, { bytes := List.replicate 64 7, index := 5, t96 := 9 }, [], by decide +kernel⟩,
   ⟨{ wUp.setReg O.stState 1 31 with active := [(O.stDest.key 31 0, 2), (O.stFormat.key 31 0, 1), (O.stRecMax.key 31 0, 128), (O.vdPayload.key 31 0, 8), (O.stSrcKind.key 31 0, 2)], streams := [(31, { ({} : Stream) with items := [{ bytes := List.replicate 64 7, index := 5, t96 := 9 }] })] }, 31, by decide +kernel⟩,
   ⟨{ wUp.setReg O.stState 1 31 with active := [(O.stHostMode.key 31 0, 1)] }, 31, by decide +kernel⟩,
   ⟨{ wUp with drains := [{ stream := 31, plan := [], left := { ({} : Stream) with ready := [{ bytes := [7] }] } }] }, 31, { stream := 31, plan := [], left := { ({} : Stream) with ready := [{ bytes := [7] }] } }, by decide +kernel⟩,
   ⟨{ wUp.setReg O.stState 1 31 with active := [(O.stHostMode.key 31 0, 1), (O.stHostSize.key 31 0, 4096), (O.stEvtBytes.key 31 0, 0)], streams := [(31, { ({} : Stream) with ready := [{ bytes := List.replicate 64 7 }] })] }, 31, 0, { bytes := List.replicate 64 7 }, by decide +kernel⟩,
   ⟨{ (wUp.setReg O.stState 1 31).setReg O.ethLink 1 0 with active := [(O.stDest.key 31 0, 2), (O.stFormat.key 31 0, 0), (O.stRecMax.key 31 0, 128)], streams := [(31, { ({} : Stream) with ready := [{ bytes := List.replicate 64 7 }] })] }, 31, { bytes := List.replicate 64 7 }, [], by decide +kernel⟩⟩

/-- The hypotheses of `DriveSets` are met. -/
theorem test_meets_DriveSets :
    (∃ (s : State) (f : NvFound), s.reg O.drState = 2 ∧ s.hidden H.enumerated = 0 ∧ f.qualifies = true) ∧
    (∃ (s : State) (f : NvFound), s.reg O.drState = 2 ∧ s.hidden H.enumerated = 0 ∧ f.qualifies = false) ∧
    (∃ (s : State) (ctrl : Fin 8) (c : NvCmd) (rest : List NvCmd), oldestOf ctrl.val s.nvCmds = some (c, rest) ∧ (s.nvSet c.set).closing = false ∧ (s.nvSet c.set).cat = none ∧ planSetStream s.active c.set = none) ∧
    (∃ (s : State) (ctrl : Fin 8) (c : NvCmd) (rest : List NvCmd) (q : NvCat), oldestOf ctrl.val s.nvCmds = some (c, rest) ∧ (s.nvSet c.set).closing = false ∧ (s.nvSet c.set).cat = some q ∧ q.put = true ∧ q.state ≠ 2 ∧ rest.any (fun y => y.set == c.set && y.op == 0) = false ∧ planSetStream s.active c.set = none ∧ c.set < 8) ∧
    (∃ (s : State) (ctrl : Fin 8) (c : NvCmd) (rest : List NvCmd), oldestOf ctrl.val s.nvCmds = some (c, rest) ∧ c.again = false) ∧
    (∃ (s : State) (ctrl : Fin 8) (c : NvCmd) (rest : List NvCmd), oldestOf ctrl.val s.nvCmds = some (c, rest) ∧ c.again = true ∧ c.op = 1 ∧ c.set < 8 ∧ c.ctrl = ctrl.val ∧ planSetStream s.active c.set = none ∧ (((((s.nvSet c.set).run.members.head?).map nvCtrlOf).getD 8) = ctrl.val ∨ s.reg O.nvCtrlState ((((s.nvSet c.set).run.members.head?).map nvCtrlOf).getD 8) ≠ 2)) ∧
    (∃ (s : State) (d : Fin 8), s.reg O.nvSetState d.val = 1 ∧ (s.nvSet d.val).closing = false ∧ (s.nvSet d.val).cat = none ∧ (s.nvSet d.val).run.members ≠ []) ∧
    (∃ (s : State) (m : Master) (d : Fin 8), Owner s m ∧ bit (s.reg O.pwrDomainOn) 35 = true ∧ planSetStream s.active d.val = none ∧ s.awaiting = none ∧ s.armed = none ∧ s.plan O.nvMembers d.val = 1) ∧
    (∃ (s : State) (ctrl : Fin 8), s.reg O.nvCtrlState ctrl.val = 2) :=
  ⟨⟨wUp.setReg O.drState 2, { qualifies := true, queues := 4, mdts := 0x20000, lbaShift := 12 }, by decide +kernel⟩,
   ⟨wUp.setReg O.drState 2, { qualifies := false, queues := 4, mdts := 0x20000, lbaShift := 12 }, by decide +kernel⟩,
   ⟨{ wUp with nvCmds := [{ ctrl := 7, set := 5, op := 1, off := 3, lba := 9, len := 512 }] }, 7, { ctrl := 7, set := 5, op := 1, off := 3, lba := 9, len := 512 }, [], by decide +kernel⟩,
   ⟨{ wUp with nvCmds := [{ ctrl := 7, set := 5, op := 0 }], nvSets := [(5, { ({} : NvSet) with cat := some ⟨1, 9, true⟩ })] }, 7, { ctrl := 7, set := 5, op := 0 }, [], ⟨1, 9, true⟩, by decide +kernel⟩,
   ⟨{ wUp with nvCmds := [{ ctrl := 7, set := 5, op := 1, off := 3, lba := 9, len := 512 }] }, 7, { ctrl := 7, set := 5, op := 1, off := 3, lba := 9, len := 512 }, [], by decide +kernel⟩,
   ⟨{ wUp with nvCmds := [{ ctrl := 7, set := 5, op := 1, off := 3, lba := 9, len := 512, again := true }] }, 7, { ctrl := 7, set := 5, op := 1, off := 3, lba := 9, len := 512, again := true }, [], by decide +kernel⟩,
   ⟨{ wUp.setReg O.nvSetState 1 7 with nvSets := [(7, { ({} : NvSet) with run := { members := [(1, 2, 3), (2 ^ 32, 5, 6)] } })] }, 7, by decide +kernel⟩,
   ⟨{ wUp with active := [(O.nvMembers.key 7 0, 1)] }, .host, 7, by decide +kernel⟩,
   ⟨wUp.setReg O.nvCtrlState 2 7, 7, by decide +kernel⟩⟩

/-- The hypotheses of `Links` are met. -/
theorem test_meets_Links :
    (∃ (s : State) (lanes : Fin 17) (speed : Fin 6), lanes.val ≠ 0 ∧ ((s.trains 0 lanes.val speed.val).1 = false ∨ s.reg O.planGen = 0)) ∧
    (∃ (s : State) (lanes : Fin 17) (speed : Fin 6), lanes.val ≠ 0 ∧ (s.trains 0 lanes.val speed.val).1 = true ∧ s.reg O.planGen ≠ 0 ∧ s.faultRaw 0x60 = false) ∧
    (∃ (s : State) (lanes : Fin 9) (speed : Fin 6), lanes.val ≠ 0 ∧ ((s.trains 1 lanes.val speed.val).1 = false ∨ s.reg O.planGen = 0)) ∧
    (∃ (s : State) (lanes : Fin 9) (speed : Fin 6), lanes.val ≠ 0 ∧ (s.trains 1 lanes.val speed.val).1 = true ∧ s.reg O.planGen ≠ 0 ∧ s.faultRaw 0x61 = false) ∧
    (∃ (s : State) (p : Fin 2) (link : Fin 3), s.reg O.ethLink p.val ≠ link.val ∧ link ≠ 0 ∧ s.plan O.ethRate p.val ≠ 0) ∧
    (∃ (s : State) (p : Fin 2) (link : Fin 3), s.reg O.ethLink p.val ≠ 0 ∧ link = 0 ∧ (List.range 8).all (fun n => (s.session n).port != p.val || !(s.session n).isOpen) = true) ∧
    (∃ (s : State) (p : Fin 2) (kind : Fin 3) (target : Nat), s.dictReady = true ∧ s.reg O.ethLink p.val ≠ 0 ∧ target ≠ 0 ∧ kind = 0 ∧ target = s.reg O.ethIpv4 p.val) ∧
    (∃ (s : State) (m : Master) (object : Fin 5) (v : Nat), Owner s m ∧ v < 2 ^ (canRow object.val).width ∧ (canRow object.val).checks (v &&& (canRow object.val).mask) = true ∧ (s.session 8).isOpen = false) ∧
    (∃ (s : State), s.reg O.canState ≠ 2 ∧ (s.session 8).isOpen = false) ∧
    (∃ (s : State), s.reg O.canState = 2) :=
  ⟨⟨wUp, 16, 5, by decide +kernel⟩,
   ⟨(wUp.setHidden H.trained 5120 0).setReg O.planGen 1, 16, 1, by decide +kernel⟩,
   ⟨wUp, 8, 5, by decide +kernel⟩,
   ⟨(wUp.setHidden H.trained 5120 1).setReg O.planGen 1, 8, 1, by decide +kernel⟩,
   ⟨wUp, 1, 2, by decide +kernel⟩,
   ⟨wUp.setReg O.ethLink 1 1, 1, 0, by decide +kernel⟩,
   ⟨(wUp.setReg O.ethIpv4 0xC0A80001 1).setReg O.ethLink 1 1, 1, 0, 0xC0A80001, by decide +kernel⟩,
   ⟨wUp, .host, 0, 500000, by decide +kernel⟩,
   ⟨wUp, by decide +kernel⟩,
   ⟨wUp.setReg O.canState 2, by decide +kernel⟩⟩

/-- The hypotheses of `DisplayHeads` are met. -/
theorem test_meets_DisplayHeads :
    (∃ (s : State) (h : Fin 2), s.plan O.dpEnable h.val = 1) ∧
    (∃ (s : State) (h : Fin 2), s.plan O.dpEnable h.val = 1) ∧
    (∃ (s : State) (h : Fin 2), (s.reg O.dpState h.val = 1 ∨ (s.head h.val).retrain = true)) ∧
    (∃ (s : State) (h : Fin 2), (s.reg O.dpState h.val = 1 ∨ (s.head h.val).retrain = true)) ∧
    (∃ (s : State) (h : Fin 2), s.plan O.dpEnable h.val = 1 ∧ s.reg O.dpState h.val = 4) ∧
    (∃ (s : State) (m : Master) (h : Fin 2), Owner s m ∧ bit (s.reg O.pwrDomainOn) 33 = true ∧ s.plan O.dpEnable h.val = 1 ∧ (s.dpShadow h.val).ok (s.head h.val).cfg = true ∧ (s.head h.val).pend = none) ∧
    (∃ (s : State) (m : Master) (h : Fin 2), Owner s m ∧ bit (s.reg O.pwrDomainOn) 33 = true ∧ s.plan O.dpEnable h.val = 1 ∧ (s.dpShadow h.val).ok (s.head h.val).cfg = true ∧ (s.head h.val).pend = none ∧ s.reg O.dpState h.val = 3 ∧ (s.head h.val).clasped = false ∧ (s.head h.val).cfg = dpPlan s.active h.val ∧ (s.head h.val).safe = false ∧ (s.head h.val).timing = false) ∧
    (∃ (s : State) (h : Fin 2), s.reg O.dpState h.val = 3 ∧ (s.head h.val).clasped = false ∧ (s.head h.val).cfg = dpPlan s.active h.val ∧ (s.head h.val).safe = false ∧ (s.head h.val).timing = false ∧ (s.head h.val).pend = none) ∧
    (∃ (s : State) (h : Fin 2) (p : DpSet) (late : Bool), s.reg O.dpState h.val = 3 ∧ (s.head h.val).clasped = false ∧ (s.head h.val).cfg = dpPlan s.active h.val ∧ (s.head h.val).safe = false ∧ (s.head h.val).timing = false ∧ (s.head h.val).pend = some (p, late) ∧ (s.head h.val).live.buffer = none) ∧
    (∃ (s : State) (h : Fin 2), s.reg O.dpState h.val = 3 ∧ (s.head h.val).retrain = false ∧ (s.head h.val).retiring = []) ∧
    (∃ (s : State) (h : Fin 2) (a : Nat), s.reg O.dpState h.val = 3 ∧ (s.head h.val).retrain = false ∧ (s.head h.val).retiring = [(a, 1)]) ∧
    (∃ (s : State) (h : Fin 2), s.reg O.dpState h.val = 2 ∧ (s.head h.val).marked = false ∧ (s.head h.val).blank = true) ∧
    (∃ (s : State) (h : Fin 2), s.reg O.dpState h.val = 3 ∧ (s.head h.val).marked = false ∧ (s.head h.val).blank = false ∧ (s.head h.val).shown.on 1 = false ∧ (s.head h.val).shown.on 3 = false ∧ bit (s.head h.val).shown.expect 32 = true ∧ (s.head h.val).shown.expect % 2 ^ 32 ≠ (crc32 (s.dpFrameBytes h.val).1) ∧ s.hidden H.rare (dpEvent h.val 3) = 0) :=
  ⟨⟨{ wUp with active := [(O.dpEnable.key 1 0, 1)] }, 1, by decide +kernel⟩,
   ⟨{ wUp.setReg O.dpState 3 1 with active := [(O.dpEnable.key 1 0, 1)] }, 1, by decide +kernel⟩,
   ⟨wUp.setReg O.dpState 1 1, 1, by decide +kernel⟩,
   ⟨wUp.setReg O.dpState 1 1, 1, by decide +kernel⟩,
   ⟨{ wUp.setReg O.dpState 4 1 with active := [(O.dpEnable.key 1 0, 1)] }, 1, by decide +kernel⟩,
   ⟨{ wUp with active := [(O.dpEnable.key 1 0, 1)] }, .host, 1, by decide +kernel⟩,
   ⟨{ wUp.setReg O.dpState 3 1 with active := [(O.dpEnable.key 1 0, 1)], heads := [(1, { ({} : Head) with cfg := dpPlan [(O.dpEnable.key 1 0, 1)] 1 })] }, .host, 1, by decide +kernel⟩,
   ⟨{ (wUp.setReg O.dpState 3 1) with heads := [(1, { ({} : Head) with cfg := dpPlan [] 1 })] }, 1, by decide +kernel⟩,
   ⟨{ (wUp.setReg O.dpState 3 1) with heads := [(1, { ({} : Head) with cfg := dpPlan [] 1, pend := some ({ ({} : DpSet) with bg := 5 }, true) })] }, 1, { ({} : DpSet) with bg := 5 }, true, by decide +kernel⟩,
   ⟨(wUp.setReg O.dpState 3 1), 1, by decide +kernel⟩,
   ⟨{ (wUp.setReg O.dpState 3 1) with heads := [(1, { ({} : Head) with cfg := dpPlan [] 1, retiring := [(64, 1)] })] }, 1, 64, by decide +kernel⟩,
   ⟨{ wUp.setReg O.dpState 2 1 with heads := [(1, { ({} : Head) with marked := false })] }, 1, by decide +kernel⟩,
   ⟨{ (wUp.setReg O.dpState 3 1) with heads := [(1, { ({} : Head) with cfg := dpPlan [] 1, blank := false, marked := false, shown := { ({} : DpSet) with expect := 2 ^ 32 + 5 }, shownCfg := [0, 0, 0, 2, 0, 0, 0, 1] })] }, 1, by decide +kernel⟩⟩

/-- The hypotheses of `Housekeeping` are met. -/
theorem test_meets_Housekeeping :
    (∃ (s : State) (n : Fin 32), (s.hkSlot n.val).waiting = true) ∧
    (∃ (s : State) (n : Nat), s.hkNext = some n ∧ (s.hkAcc (s.hkSlot n).input).count < 2 ^ 32 - 2) ∧
    (∃ (s : State) (m : Master), Owner s m) ∧
    (∃ (s : State) (m : Master), Owner s m) ∧
    (∃ (s : State) (m : Master) (input : Fin 32), Owner s m ∧ input.val < 16 ∧ s.hidden H.hkCalRun = 0) ∧
    (∃ (s : State) (m : Master) (input : Fin 32) (codes : List (BitVec 16)), Owner s m ∧ input.val < 16 ∧ s.hidden H.hkCalRun = 0 ∧ codes.length = 4096) ∧
    (∃ (s : State) (m : Master) (input : Fin 32), Owner s m ∧ input.val < 16 ∧ s.hidden H.hkCalRun = 0) ∧
    (∃ (s : State) (m : Master) (input : Fin 32) (codes : List (BitVec 16)), Owner s m ∧ input.val < 16 ∧ s.hidden H.hkCalRun = 0 ∧ codes.length = 4096) ∧
    (∃ (s : State) (m : Master) (input : Fin 32), Owner s m ∧ input.val < 16 ∧ s.hidden H.hkCalRun = 0 ∧ s.hidden H.hkCal0 input.val ≠ 0 ∧ s.hidden H.hkCal0 input.val + 16384 ≤ s.hidden H.hkCal1 input.val) ∧
    (∃ (s : State) (codes : List (BitVec 16)) (i : Fin 16), s.hidden H.hkCalRun = 256 + i.val ∧ codes.length = 4096) :=
  ⟨⟨{ wUp with hkSlots := [(31, { waiting := true })] }, 31, by decide +kernel⟩,
   ⟨{ wUp with hkSlots := [(31, { left := 2, input := 15 })] }, 31, by decide +kernel⟩,
   ⟨{ wUp with hk := [(31, { sum := 9, count := 3, sumsq := 27, min := 3, max := 3 })] }, .host, by decide +kernel⟩,
   ⟨{ wUp with hk := [(31, { sum := 9, count := 3, sumsq := 27, min := 3, max := 3 })] }, .host, by decide +kernel⟩,
   ⟨wUp, .host, 15, by decide +kernel⟩,
   ⟨wUp, .host, 15, List.replicate 4096 5, by decide +kernel⟩,
   ⟨wUp, .host, 15, by decide +kernel⟩,
   ⟨wUp, .host, 15, List.replicate 4096 5, by decide +kernel⟩,
   ⟨(wUp.setHidden H.hkCal0 5 15).setHidden H.hkCal1 40000 15, .host, 15, by decide +kernel⟩,
   ⟨wUp.setHidden H.hkCalRun 271, List.replicate 4096 5, 15, by decide +kernel⟩⟩

/-- The hypotheses of `TimersAndPulses` are met. -/
theorem test_meets_TimersAndPulses :
    (∃ (s : State) (t8 : Fin 8), s.plan O.gtPeriod t8.val ≠ 0 ∧ ((T96.toTicks (s.plan O.gtOrigin t8.val) : Int) + s.plan O.gtPeriod t8.val * (((s.hidden H.gtServed t8.val : Int) - T96.toTicks (s.plan O.gtOrigin t8.val)) / s.plan O.gtPeriod t8.val + 1)).toNat ≤ s.nowTicks ∧ (List.range 32).all (fun n => s.plan O.hkSlotStart n != t8.val + 1) = true ∧ (List.range 16).all (fun g => s.plan O.pgMode g != 4) = true) ∧
    (∃ (s : State) (t8 : Fin 8) (g : Fin 16), s.plan O.gtPeriod t8.val ≠ 0 ∧ ((T96.toTicks (s.plan O.gtOrigin t8.val) : Int) + s.plan O.gtPeriod t8.val * (((s.hidden H.gtServed t8.val : Int) - T96.toTicks (s.plan O.gtOrigin t8.val)) / s.plan O.gtPeriod t8.val + 1)).toNat ≤ s.nowTicks ∧ (List.range 32).all (fun n => s.plan O.hkSlotStart n != t8.val + 1) = true ∧ s.plan O.pgMode g.val = 4 ∧ s.plan O.pgTimer g.val = t8.val ∧ (List.range 16).all (fun i => i == g.val || s.plan O.pgMode i != 4) = true ∧ s.reg O.pgState g.val ≠ 2 ∧ (s.pg g.val).edges = []) ∧
    (∃ (s : State) (m : Master) (g : Fin 16), Owner s m ∧ bit (s.reg O.pwrDomainOn) 31 = true ∧ s.plan O.pgMode g.val = 2 ∧ s.reg O.pgState g.val = 0 ∧ s.hidden H.pgStart g.val = 0 ∧ (s.pg g.val).edges = []) ∧
    (∃ (s : State) (g : Fin 16) (e : Nat) (rest : List (Nat × Bool)), (s.pg g.val).edges = (e, true) :: rest ∧ e ≤ s.after 32 1 ∧ s.plan O.pgBall g.val = 0 ∧ (List.range 32).all (fun n => s.plan O.hkSlotStart n != 9 + g.val) = true) ∧
    (∃ (s : State) (g : Fin 16) (e : Nat) (rest : List (Nat × Bool)), (s.pg g.val).edges = (e, false) :: rest ∧ e ≤ s.after 32 1 ∧ s.plan O.pgBall g.val = 0 ∧ rest = []) ∧
    (∃ (s : State) (g : Fin 16) (w : Nat), s.wholeSecond = some w ∧ s.plan O.pgMode g.val = 5 ∧ (s.pg g.val).lastSecond < (w / T96.second) ∧ s.reg O.pgState g.val ≠ 2 ∧ (s.pg g.val).edges = []) ∧
    (∃ (s : State) (mon : Fin 12) (asserted : Bool), 8 ≤ mon.val ∧ (s.reg O.wmState).testBit mon.val ≠ asserted ∧ s.hidden H.rare 0x7E3 = 0 ∧ (List.range 16).all (fun g => s.plan O.pgMode g == 0) = true) ∧
    (∃ (s : State) (mon : Fin 12), mon.val < 8 ∧ (s.reg O.wmState).testBit mon.val ≠ (s.hidden H.comp mon.val == 1) ∧ s.hidden H.rare 0x7E3 = 0 ∧ (List.range 16).all (fun g => s.plan O.pgMode g == 0) = true) ∧
    (∃ (s : State) (mon : Fin 12) (asserted : Bool), 8 ≤ mon.val ∧ (s.reg O.wmState).testBit mon.val ≠ asserted) ∧
    (∃ (s : State) (m : Master) (g : Fin 16), Owner s m ∧ s.reg O.pgState g.val = 2 ∧ (s.pg g.val).byFault = false ∧ s.pgTripping g.val = 0 ∧ s.plan O.pgBall g.val = 3 ∧ bit (s.reg O.pwrDomainOn) 31 = true ∧ s.plan O.pgTripHold g.val = 0) ∧
    (∃ (s : State) (g : Fin 16), s.reg O.pgState g.val = 2 ∧ (s.pg g.val).byFault = false ∧ s.pgTripping g.val = 0 ∧ s.plan O.pgBall g.val = 3 ∧ s.plan O.pgTripHold g.val ≠ 0) :=
  ⟨⟨{ wUp with tc := 9 * 2 ^ 64, active := [(O.gtPeriod.key 7 0, 65536)] }, 7, by decide +kernel⟩,
   ⟨{ wUp with tc := 9 * 2 ^ 64, active := [(O.gtPeriod.key 7 0, 65536), (O.pgMode.key 15 0, 4), (O.pgTimer.key 15 0, 7), (O.pgWidth.key 15 0, 256)] }, 7, 15, by decide +kernel⟩,
   ⟨{ wUp with active := [(O.pgMode.key 15 0, 2), (O.pgWidth.key 15 0, 256)] }, .host, 15, by decide +kernel⟩,
   ⟨{ wUp with tc := 9 * 2 ^ 64, active := [(O.pgBall.key 15 0, 0)], pgs := [(15, { edges := [(5, true)] })] }, 15, 5, [], by decide +kernel⟩,
   ⟨{ wUp with tc := 9 * 2 ^ 64, active := [(O.pgBall.key 15 0, 0)], pgs := [(15, { edges := [(5, false)] })] }, 15, 5, [], by decide +kernel⟩,
   ⟨{ wUp with tc := 9 * 1000000000 * 2 ^ 64, active := [(O.pgMode.key 15 0, 5)] }, 15, 9 * T96.second, by decide +kernel⟩,
   ⟨wUp, 11, true, by decide +kernel⟩,
   ⟨wUp.setHidden H.comp 1 7, 7, by decide +kernel⟩,
   ⟨{ wUp with active := [(O.pgMode.key 15 0, 2), (O.pgTripMask.key 15 0, 0xFFF), (O.pgMode.key 3 0, 2), (O.pgTripMask.key 3 0, 0xFFF)] }, 11, true, by decide +kernel⟩,
   ⟨{ wUp.setReg O.pgState 2 15 with active := [(O.pgBall.key 15 0, 3)] }, .host, 15, by decide +kernel⟩,
   ⟨{ wUp.setReg O.pgState 2 15 with active := [(O.pgBall.key 15 0, 3), (O.pgTripHold.key 15 0, 9)] }, 15, by decide +kernel⟩⟩

/-- The hypotheses of `FaultCollector` are met. -/
theorem test_meets_FaultCollector :
    (∃ (s : State) (c : RailChange) (k : Nat), faultClass c.src.val = some k ∧ k < 2 ∧ c.p = true ∧ c.n = false ∧ s.faultRaw c.src.val = false ∧ outsideOccurrence c.src.val = false ∧ s.hidden H.drive c.src.val = 1 ∧ bit (s.reg O.frFirst) 15 = false ∧ s.masked c.src.val = false ∧ s.hidden H.acked c.src.val = 0 ∧ s.candidates = []) ∧
    (∃ (s : State) (c : RailChange) (k : Nat), faultClass c.src.val = some k ∧ k < 2 ∧ c.p = true ∧ c.n = false ∧ s.faultRaw c.src.val = false ∧ outsideOccurrence c.src.val = false ∧ s.hidden H.drive c.src.val = 1 ∧ bit (s.reg O.frFirst) 15 = true ∧ s.reg O.frFirst % 256 ≠ c.src.val ∧ s.masked c.src.val = false) ∧
    (∃ (s : State) (c : RailChange) (k : Nat), faultClass c.src.val = some k ∧ k < 2 ∧ c.p = true ∧ c.n = false ∧ s.faultRaw c.src.val = false ∧ outsideOccurrence c.src.val = true ∧ s.hidden H.drive c.src.val ≠ 1 ∧ s.hidden H.held c.src.val ≠ 1 ∧ bit (s.reg O.frFirst) 15 = false ∧ s.masked c.src.val = false ∧ s.hidden H.acked c.src.val = 0 ∧ s.candidates = []) ∧
    (∃ (s : State) (c : RailChange) (k : Nat), faultClass c.src.val = some k ∧ k < 2 ∧ c.p = true ∧ c.n = false ∧ s.faultRaw c.src.val = false ∧ outsideOccurrence c.src.val = true ∧ s.hidden H.drive c.src.val ≠ 1 ∧ s.hidden H.held c.src.val ≠ 1 ∧ bit (s.reg O.frFirst) 15 = true ∧ s.reg O.frFirst % 256 ≠ c.src.val ∧ s.masked c.src.val = false) ∧
    (∃ (s : State) (c : RailChange) (k : Nat), faultClass c.src.val = some k ∧ c.p = false ∧ c.n = true ∧ s.faultRaw c.src.val = true ∧ c.src.val ≠ 0 ∧ outsideOccurrence c.src.val = true) ∧
    (∃ (s : State) (c : RailChange) (k : Nat), faultClass c.src.val = some k ∧ c.p = false ∧ c.n = true ∧ s.faultRaw c.src.val = true ∧ c.src.val ≠ 0 ∧ outsideOccurrence c.src.val = false ∧ s.hidden H.drive c.src.val ≠ 1 ∧ s.hidden H.held c.src.val ≠ 1) ∧
    (∃ (s : State) (src : Fin 256), s.masked src.val = true) ∧
    (∃ (s : State), s.faultRaw 0 = false) ∧
    (∃ (s : State) (src : Nat), bit (s.reg O.frFirst) 15 = true ∧ s.reg O.frFirst % 256 = src ∧ bits (s.reg O.frFirst) 10 9 ≠ 0 ∧ s.reg O.frState = 1 ∧ 0x30 ≤ src ∧ src ≤ 0x41) ∧
    (∃ (s : State) (src : Nat), bit (s.reg O.frFirst) 15 = true ∧ s.reg O.frFirst % 256 = src ∧ bits (s.reg O.frFirst) 10 9 ≠ 0 ∧ s.reg O.frState = 2) ∧
    (∃ (s : State) (src : Nat), bit (s.reg O.frFirst) 15 = true ∧ s.reg O.frFirst % 256 = src ∧ bits (s.reg O.frFirst) 10 9 ≠ 0 ∧ s.reg O.frState = 3) ∧
    (∃ (s : State) (m : Master) (v : Nat), Owner s m ∧ v < 2 ^ 8 ∧ bit (s.reg O.frFirst) 15 = true ∧ s.reg O.frFirst % 256 = v ∧ (List.range 256).all (fun n => n == v || !s.faultRaw n || s.masked n || s.hidden H.acked n != 0) = true) ∧
    (∃ (s : State) (m : Master), Owner s m ∧ s.reg O.frSafe ≠ 0 ∧ (List.range 256).all (fun n => !s.faultRaw n || faultClass n != some 2) = true ∧ (List.range 16).all (fun g => !(s.pg g).byFault) = true ∧ s.plan O.clkoutSel = 0 ∧ s.hidden H.clkout = 0) :=
  ⟨⟨wUp.setHidden H.drive 1 65, { src := 0x41, p := true, n := false, data := 77 }, 1, by decide +kernel⟩,
   ⟨(wUp.setHidden H.drive 1 65).setReg O.frFirst 0x8230, { src := 0x41, p := true, n := false, data := 77 }, 1, by decide +kernel⟩,
   ⟨wUp, { src := 0x90, p := true, n := false, data := 77 }, 0, by decide +kernel⟩,
   ⟨(wUp).setReg O.frFirst 0x8230, { src := 0x90, p := true, n := false, data := 77 }, 0, by decide +kernel⟩,
   ⟨wUp.setReg O.frRaw (2 ^ 16) 0 2, { src := 0x90, p := false, n := true, data := 77 }, 0, by decide +kernel⟩,
   ⟨wUp.setReg O.frRaw 2 0 1, { src := 0x41, p := false, n := true, data := 77 }, 1, by decide +kernel⟩,
   ⟨(wUp.setReg O.frMask 2 0 1).setHidden H.held 1 65, 65, by decide +kernel⟩,
   ⟨wUp, by decide +kernel⟩,
   ⟨(wUp.setReg O.frFirst 0x8230).setReg O.frState 1, 0x30, by decide +kernel⟩,
   ⟨(wUp.setReg O.frFirst 0x8230).setReg O.frState 2, 0x30, by decide +kernel⟩,
   ⟨(wUp.setReg O.frFirst 0x8230).setReg O.frState 3, 0x30, by decide +kernel⟩,
   ⟨((wUp.setReg O.frFirst 0x8230).setReg O.frState 1).setReg O.frRaw (2 ^ 48) 0 0, .host, 0x30, by decide +kernel⟩,
   ⟨wUp.setReg O.frSafe 1, .host, by decide +kernel⟩⟩

/-- The hypotheses of `StartUp` are met. -/
theorem test_meets_StartUp :
    (∃ (s : State) (bootSel : Fin 4), s.hidden H.boot = 0 ∧ bootSel.val < 2) ∧
    (∃ (s : State), s.hidden H.boot = 0) ∧
    (∃ (s : State), s.hidden H.boot = 0) ∧
    (∃ (s : State) (ok : Bool) (slot : Fin 2), s.hidden H.boot = 1 ∧ s.hidden H.bootTry = slot.val ∧ s.imgVerdict (s.slotImage slot.val) ok = 1) ∧
    (∃ (s : State) (ok : Bool) (slot : Fin 2), s.hidden H.boot = 1 ∧ s.hidden H.bootTry = slot.val ∧ s.imgVerdict (s.slotImage slot.val) ok ≠ 1 ∧ s.reg O.bootStatus = 0) ∧
    (∃ (s : State) (aperture : List Byte), s.hidden H.boot = 3 ∧ s.hidden H.recovering = 0 ∧ aperture.length ≤ 8388608) ∧
    (∃ (s : State) (ok : Bool), s.hidden H.boot = 3 ∧ s.hidden H.recovering = 1 ∧ s.imgVerdict (s.slotImage 2) ok = 1) ∧
    (∃ (s : State), s.hidden H.boot = 2) ∧
    (∃ (s : State), s.hidden H.boot = 5 ∧ s.reg O.planGen = 0) ∧
    (∃ (s : State), s.hidden H.boot = 6 ∧ s.locked = true ∧ s.hidden H.calNeed ≠ 0) ∧
    (∃ (s : State), s.hidden H.boot = 6 ∧ s.locked = true ∧ s.hidden H.calNeed = 0) ∧
    (∃ (s : State), s.hidden H.boot = 6 ∧ s.locked = true ∧ (s.reg O.drState = 2 ∨ s.reg O.drState = 3) ∧ s.hidden H.calNeed = 0) ∧
    (∃ (s : State) (m : Master) (slotB : Bool) (image : List Byte), Owner s m ∧ 513 ≤ image.length ∧ image.length ≤ 8388608 ∧ s.imgVerdict image true = 1 ∧ s.xfers.any (fun x => x.write && x.key == imgKey (!slotB)) = false) ∧
    (∃ (s : State) (m : Master) (slotB : Bool) (image : List Byte), Owner s m ∧ 513 ≤ image.length ∧ image.length ≤ 8388608 ∧ s.imgVerdict image true = 1 ∧ s.xfers.any (fun x => x.write && x.key == imgKey (!slotB)) = false) :=
  ⟨⟨State.reset, 1, by decide +kernel⟩,
   ⟨State.reset, by decide +kernel⟩,
   ⟨State.reset, by decide +kernel⟩,
   ⟨{ ((State.reset.setHidden H.boot 1).setHidden H.bootTry 1) with flash := { ({} : Flash) with images := Vector.replicate 2 { image := (leBytes 0x51424F54 4 ++ leBytes 1 2 ++ leBytes 0 2 ++ leBytes 9 4 ++ leBytes 1 4 ++ List.replicate 497 0) } } }, true, 1, by decide +kernel⟩,
   ⟨{ ((State.reset.setHidden H.boot 1).setHidden H.bootTry 1) with flash := { ({} : Flash) with images := Vector.replicate 2 { image := (leBytes 0x51424F54 4 ++ leBytes 1 2 ++ leBytes 0 2 ++ leBytes 9 4 ++ leBytes 1 4 ++ List.replicate 497 0) } } }, false, 1, by decide +kernel⟩,
   ⟨State.reset.setHidden H.boot 3, [1, 2], by decide +kernel⟩,
   ⟨{ (State.reset.setHidden H.boot 3).setHidden H.recovering 1 with doms := [(apertureKey, (leBytes 0x51424F54 4 ++ leBytes 1 2 ++ leBytes 0 2 ++ leBytes 9 4 ++ leBytes 1 4 ++ List.replicate 497 0))] }, true, by decide +kernel⟩,
   ⟨State.reset.setHidden H.boot 2, by decide +kernel⟩,
   ⟨State.reset.setHidden H.boot 5, by decide +kernel⟩,
   ⟨((State.reset.setHidden H.boot 6).setHidden H.calNeed 1).setReg O.pllaState 2, by decide +kernel⟩,
   ⟨(State.reset.setHidden H.boot 6).setReg O.pllaState 2, by decide +kernel⟩,
   ⟨((State.reset.setHidden H.boot 6).setReg O.drState 2).setReg O.pllaState 2, by decide +kernel⟩,
   ⟨wUp, .host, true, (leBytes 0x51424F54 4 ++ leBytes 1 2 ++ leBytes 0 2 ++ leBytes 9 4 ++ leBytes 1 4 ++ List.replicate 497 0), by decide +kernel⟩,
   ⟨wUp, .host, true, (leBytes 0x51424F54 4 ++ leBytes 1 2 ++ leBytes 0 2 ++ leBytes 9 4 ++ leBytes 1 4 ++ List.replicate 497 0), by decide +kernel⟩⟩

/-- The hypotheses of `Resets` are met. -/
theorem test_meets_Resets :
    (∃ (s : State) (m : Master), Owner s m ∧ s.reg O.bootSel < 2) ∧
    (∃ (s : State), s.hidden H.hostUp ≠ 1) ∧
    (∃ (s : State), s.hidden H.hostUp = 1) ∧
    (∃ (s : State), s.dictReady = true ∧ s.reg O.pllaState ≠ 0) :=
  ⟨⟨wUp, .host, by decide +kernel⟩,
   ⟨wUp.setHidden H.hostUp 0, by decide +kernel⟩,
   ⟨wUp, by decide +kernel⟩,
   ⟨wUp.setReg O.pllaState 2, by decide +kernel⟩⟩

/-- The hypothesis of `StepRunsTheFront` is met. -/
theorem test_meets_StepRunsTheFront : ∃ (s : State) (c : Instr) (rest : List Instr), s.pending = c :: rest :=
  ⟨wUp.withQueue [.leaseExpired, .dqsOscillatorTrack], .leaseExpired, [.dqsOscillatorTrack], rfl⟩

/-- The hypotheses of `IdleTick` are met: held in reset, locked without a slew, and with one. -/
theorem test_meets_IdleTick :
    (∃ s : State, s.pending = [] ∧ s.hidden H.boot = 0) ∧
    (∃ s : State, s.pending = [] ∧ s.hidden H.boot ≠ 0 ∧ s.locked = true ∧ s.slewLeft = 0) ∧
    (∃ s : State, s.pending = [] ∧ s.hidden H.boot ≠ 0 ∧ s.slewLeft ≠ 0) :=
  ⟨⟨State.reset, by decide +kernel⟩, ⟨wUp.setReg O.pllaState 2, by decide +kernel⟩, ⟨wUp.setHidden H.slew 5, by decide +kernel⟩⟩

/-- The hypotheses of `StepKeepsInv` are met by a state whose memory holds something. -/
theorem test_meets_StepKeepsInv : ∃ s t : State, Inv s ∧ s.mem ≠ [] ∧ step s = .next t :=
  ⟨({ wUp with mem := [(5, 7), (9, 1)] } : State).withQueue [.dqsOscillatorTrack], _, by decide +kernel, by decide +kernel, rfl⟩

/-- The hypotheses of `AwlRoundTrip` are met. -/
theorem test_meets_AwlRoundTrip :
    (∃ (i : Instr) (w : Nat), i.wf = true ∧ awEncode i = some w) ∧
    (∃ (p : Pos) (n w : Nat) (i : Instr), w < 2 ^ 32 ∧ awDecode p n w = some i) :=
  ⟨⟨.macx wPos 1 7 6 .fr true ⟨5, 3, 3, false⟩ ⟨0, 0, 0, true⟩ 3, _, by decide +kernel, rfl⟩,
   ⟨wPos, 3, 0xFFFFFFFF % 2 ^ 26 - (2 ^ 26 - 1) + 0xB0000000, .clrw wPos 0, by decide +kernel, by decide +kernel⟩⟩

/-- The hypotheses of `OwnerOnly` are met. -/
theorem test_meets_OwnerOnly : ∃ (s : State) (m : Master), Served s m ∧ s.owns m = false :=
  ⟨wEth, .eth 0, by decide +kernel⟩

/-- The hypotheses of `ReturnStack` are met, at both ends of the stack. -/
theorem test_meets_ReturnStack :
    (∃ (s : State) (p : Pos) (target : BitVec 12), AtInstr s p (.call p target) 3 ∧ (s.core p).stack.length = 8) ∧
    (∃ (s : State) (p : Pos) (target : BitVec 12), AtInstr s p (.call p target) 3 ∧ (s.core p).stack.length < 8) ∧
    (∃ (s : State) (p : Pos), AtInstr s p (.ret p) 3 ∧ (s.core p).stack = []) :=
  ⟨⟨wAw (.call wPos 1) { stack := [1, 2, 3, 4, 5, 6, 7, 8] }, wPos, 1, by decide +kernel⟩,
   ⟨wAw (.call wPos 1) { stack := [1, 2, 3, 4, 5, 6, 7] }, wPos, 1, by decide +kernel⟩,
   ⟨wAw (.ret wPos), wPos, by decide +kernel⟩⟩

/-- The hypotheses of the first clause of `LiveWrites` are met. -/
theorem test_meets_LiveWrites :
    ∃ (s : State) (m : Master) (index sub : Nat) (b : List Byte) (r : Row) (i j : Nat), Owner s m ∧
      objectFor m index sub = some (r, i, j) ∧ r.cls = .live ∧ b.length = r.ty.size ∧ r.checks (ofLe b &&& r.mask) = true ∧
      ∀ p ∈ s.active :: (s.awaiting.toList ++ s.armed.toList), s.liveBreaks r i j (ofLe b &&& r.mask) p = none :=
  ⟨wUp, .host, 0x17E0, 3, [1, 0, 0, 0, 0, 0, 0, 0], O.ncoFtw, 31, 0, by decide +kernel⟩

/-- The hypotheses of `SwapOrder` are met. -/
theorem test_meets_SwapOrder :
    (∃ (d : Desc) (l : List Byte), l.length % 2 ^ descSwap d = 0 ∧ (descHswap d = true → l.length % 4 = 0)) ∧
    (∃ d : Desc, descSwap d = 2 ∧ descHswap d = true) :=
  ⟨⟨{ src := 0, dst := 0, next := 0, count := 8, ctrl := 0x280 }, List.replicate 8 1, by decide +kernel⟩, ⟨{ src := 0, dst := 0, next := 0, count := 8, ctrl := 0x280 }, by decide +kernel⟩⟩

/-- The hypotheses of `CircularSide` are met, on a circular side and on a linear one, and by a channel at the end of a descriptor. -/
theorem test_meets_CircularSide :
    (∃ (d : Desc) (dst : Bool) (i : Nat), 6 ≤ sideK d dst ∧ i < d.count) ∧ (∃ (d : Desc) (dst : Bool) (i : Nat), sideK d dst = 0 ∧ i < d.count) ∧
    (∃ (s : State) (ch : Fin 64) (d : Desc), (s.dma ch.val).desc = some d ∧ (s.dma ch.val).stop = false) :=
  ⟨⟨⟨0x1000, 0x2010, 0, 200, 0x140D⟩, true, 199, by decide +kernel⟩, ⟨⟨0x1000, 0x2010, 0, 200, 0x140D⟩, false, 199, by decide +kernel⟩,
   ⟨wUp.setDma 63 { desc := some ⟨0x1000, 0x2010, 0, 200, 0x140D⟩ }, 63, ⟨0x1000, 0x2010, 0, 200, 0x140D⟩, by decide +kernel⟩⟩

/-! ### Well-formedness: each check refuses an ill-formed command -/

/-- A message that is well formed but for its tag. -/
def illAdp : AdpMsg := { wMsg wAdp 1 [] with tag := [] }

/-- Closing message and its opposite. -/
def closing : AdpMsg := { wMsg wAdp 9 [0, 5, 0, 4] with tag := List.replicate 32 0 }

theorem test_wf_object : (Instr.objectWrite .host 0x10000 0 [1]).wf = false ∧ (Instr.segTransferSilence .host 0 256).wf = false := by
  decide +kernel
theorem test_wf_bar0 : (Instr.bar0Write 1 4 0).wf = false ∧ (Instr.bar0Write 0 1 256).wf = false := by decide +kernel
theorem test_wf_bar0_malformed : (Instr.bar0MalformedAccess true 0 4 0).wf = false := by decide +kernel
theorem test_wf_value : (Instr.calCmd .host 0 (2 ^ 96)).wf = false := by decide +kernel
theorem test_wf_image : (Instr.firCoefLoad .host 0 []).wf = false := by decide +kernel
theorem test_wf_adp : (Instr.adpRead illAdp).wf = false := by decide +kernel
theorem test_wf_session_open : (Instr.adpSessionOpen 0 closing).wf = false := by decide +kernel
theorem test_wf_rivals : (Instr.pcieClaim 0 [(.can, 256)]).wf = false := by decide +kernel
theorem test_wf_closing : (Instr.adpAbortTransfer closing).wf = false ∧ (Instr.sessClose { closing with payload := [0, 5, 0, 3] }).wf = false := by
  decide +kernel
theorem test_wf_can : (Instr.canFrameReceived 0 (List.replicate 9 0) []).wf = false := by decide +kernel
theorem test_wf_samples : (Instr.sampleBlock 0 [32768]).wf = false ∧ (Instr.spectrumRecord 0 0 [2048]).wf = false ∧
    (Instr.sliceFrame 0 [-2049]).wf = false ∧ (Instr.segmentEnd 0 [(0, 2 ^ 31)]).wf = false := by decide +kernel
theorem test_wf_observation : (Instr.tuEvent 0 { index := 2 ^ 64, samples := [], cycle := 0 }).wf = false := by decide +kernel
theorem test_wf_measured : (Instr.pllcQualified (2 ^ 63)).wf = false ∧ (Instr.pllcLockGate 0 0 (-(2 ^ 63) - 1) 0).wf = false ∧
    (Instr.ppsinEdge (2 ^ 64) 0).wf = false ∧ (Instr.syncTx 0 (2 ^ 64) true).wf = false := by decide +kernel
theorem test_wf_awl : (Instr.mov wPos 0x2E 0).wf = false ∧ (Instr.movi wPos 0x08 0xFFFFF).wf = true ∧ (Instr.movi wPos 0 0x10000).wf = false ∧
    (Instr.modj wPos 0 (.offset 0)).wf = false ∧ (Instr.shl wPos 0 0 (.imm 17)).wf = false ∧ (Instr.rdw wPos 0 0 0 true false).wf = false := by
  decide +kernel
theorem test_wf_pair : (Instr.ld2 wPos ⟨1, 0, 0, false⟩ ⟨1, 1, 0, false⟩ 0).wf = false ∧
    (Instr.macx wPos 0 0 0 .ss false ⟨1, 0, 0, true⟩ ⟨1, 1, 0, false⟩ 0).wf = false ∧ (Instr.ld wPos 0 0 (.offset 0) 65536).wf = false := by
  decide +kernel
theorem test_wf_ptp : (Instr.followUpReceived 0 { wPtp with time := 2 ^ 96 }).wf = false := by decide +kernel
theorem test_wf_lengths : (Instr.drUe 0 (2 ^ 58)).wf = false ∧ (Instr.drTrainingDone []).wf = false ∧ (Instr.dmaDescFetch 0 []).wf = false ∧
    (Instr.hkStewardConvert []).wf = false ∧ (Instr.hkCalDone []).wf = false ∧ (Instr.hkThresholdTrim (List.replicate 21 0)).wf = false ∧
    (Instr.startupCalibrationDone [] [] []).wf = false ∧ (Instr.dpHpdRise 0 [0]).wf = false ∧ (Instr.drRowActivate 0 0 0 (2 ^ 20)).wf = false := by
  decide +kernel
theorem test_wf_hits : (Instr.loupeRunEnd 0 [2 ^ 32] false).wf = false ∧ (Instr.fitEnd (.loupe [2 ^ 32] false)).wf = false := by decide +kernel
theorem test_wf_waits : (Instr.emit wPos 0 0 0 (2 ^ 16)).wf = false := by decide +kernel
theorem test_wf_faults : (Instr.faultRailChange [⟨1, true, true, 0⟩, ⟨1, false, false, 0⟩]).wf = false := by decide +kernel

/-! ### Worked examples of the spec, and check values of the algorithms it names -/

/-- No row of the table gives bits. -/
theorem test_no_words : decodeTableWord 16 0 = none := rfl

/-- The words of the FIR kernel of chapter 10. -/
theorem test_awl_words : awEncode (.clrw wPos 0) = some 0xB0000000 ∧
    awEncode (.ld2 wPos ⟨0, 0, 1, false⟩ ⟨1, 0, 1, false⟩ 0) = some 0x5C000488 ∧ awEncode (.rep wPos 0 (.imm 63) 13) = some 0x1483F00D ∧
    awEncode (.rdw wPos 2 0 1 true true) = some 0xB4A18000 := by decide +kernel

/-- Table 2.11 at 10.000 s: two claims of priority 5 in one cycle, and the lower master ID wins. -/
theorem test_claim_tie : (match exec (.pcieClaim 5 [(.eth 3, 5)])
      { wServed with sess := [(3, { ({} : Session) with isOpen := true })] } with | .next t => t.reg O.ownerId | _ => 99) = 1 := by
  decide +kernel

/-- Table 2.11 at 13.400 s: the host is not the owner, and its renewal is refused. -/
theorem test_renew_refused : (match exec (.pcieRenew 1) (wServed.setReg O.ownerId 0x13) with
    | .next t => t.reg O.pcieLastAbort | _ => 0) = Abort.notOwner := by decide +kernel

/-- Table 16.8: the header of frame 37,500. -/
theorem test_vdif_header :
    ({ (State.reset.setReg O.frootActual (toF64 12000000000)) with
        active := [(O.ddcK.key 0 0, 6), (O.stSrcKind.key 4 0, 2), (O.vdPayload.key 4 0, 8000), (O.vdRefEpoch.key 4 0, 50),
          (O.vdThread.key 4 0, 4), (O.vdStation.key 4 0, 0x5158), (O.ptpUtcOffset.key 0 0, 37)]
        streams := [(4, { ({} : Stream) with vdS := 1740000037 })] } : State).vdifHeader 4 37500 false =
      leBytes 0x0041C580 4 ++ leBytes 0x3200927C 4 ++ leBytes 0x000003EC 4 ++ leBytes 0xBC045158 4 ++ leBytes 0 16 := by decide +kernel

/-- The sample word of the same example. -/
theorem test_vdif_sample : offsetBinary (leBytes 0xFFFF 2 ++ leBytes 2 2) = leBytes 0x80027FFF 4 := by decide +kernel

/-- R360's example. -/
theorem test_swap : swapData { ctrl := 0x280 } [0, 1, 2, 3] = [1, 0, 3, 2] := by decide +kernel

/-- R139: a power of 0 reads −32,768, and a power of 1 reads 0. -/
theorem test_logpower : logPower 0 = (-32768, false) ∧ logPower 0x3F800000 = (0, false) := by decide +kernel

/-- The check value of the CRC-32 of IEEE 802.3. -/
theorem test_crc32 : crc32 [0x31, 0x32, 0x33, 0x34, 0x35, 0x36, 0x37, 0x38, 0x39] = 0xCBF43926 := by decide +kernel

/-- The example of FIPS 180-4 for "abc". -/
theorem test_sha256 : sha256 [0x61, 0x62, 0x63] = beBytes 0xBA7816BF8F01CFEA414140DE5DAE2223B00361A396177A9CB410FF61F20015AD 32 := by
  decide +kernel

/-- The reset state stands still until PORST_N rises. -/
theorem test_reset_idles : step State.reset = .next State.reset := rfl

end Sys2Proof.Machine
end

section
/-! SUPPORT. Ownership (R31, R508): a write of an owner's object by another master is refused before anything else of it is
judged, whatever the object, the value and the object's own act. -/

namespace Sys2Proof.Machine

variable {s : State} {m : Master}

/-- A served request whose act refuses answers the code and keeps the state. -/
theorem State.request_error {a : Act} {c : Nat} (h : Served s m) (ha : a s = .error c) :
    s.request m a = .next (s.answer m c) := by
  simp [State.request, h.1, h.2, ha]

/-- R508: ownership is judged before size, value and the object's own rule. -/
theorem State.judge_notOwner {r : Row} {v : Nat} {f : Act} (hr : r.host = false) (ho : s.owns m = false) :
    s.judge m r v f = .error Abort.notOwner := by
  simp [State.judge, hr, ho]

theorem State.command_notOwner (r : Row) {v : Nat} {f : Act} (hr : r.host = false) (h : Served s m) (ho : s.owns m = false) :
    s.command m r v f = .next (s.answer m Abort.notOwner) :=
  State.request_error h (State.judge_notOwner hr ho)

theorem State.commandHeld_notOwner (r : Row) {v : Nat} {f : State → State × Nat} (hr : r.host = false) (h : Served s m)
    (ho : s.owns m = false) : s.commandHeld m r v f = .next (s.answer m Abort.notOwner) := by
  simp [State.commandHeld, h.1, h.2, State.judge_notOwner hr ho]

theorem State.load_notOwner (k : Nat) {f : Act} (h : Served s m) (ho : s.owns m = false) :
    s.load m k f = .next (s.answer m Abort.notOwner) :=
  State.request_error h (by simp [ho])

/-- The bit-timing objects of CAN FD are not the host's alone. -/
theorem canRow_host (object : Nat) : (canRow object).host = false := by
  unfold canRow
  split <;> rfl

/-- A choice between two objects that are not the host's alone is not the host's alone. -/
theorem Row.ite_host (b : Bool) {r q : Row} (hr : r.host = false) (hq : q.host = false) : (if b then r else q).host = false := by
  cases b
  · exact hq
  · exact hr

/-- Settles O56: each command is a write of a command object, a held write of one, or a load of a DOMAIN object, and each of the
three is refused for want of ownership before its own act is reached. -/
theorem ownerOnly : Obligations.OwnerOnly := by
  unfold Obligations.OwnerOnly
  exact ⟨
    fun _ _ slot _ => State.load_notOwner (O.adpKey.key 0 slot.val),
    fun _ _ => State.command_notOwner O.paramStore rfl,
    fun _ _ => State.command_notOwner O.paramStore rfl,
    fun _ _ => State.command_notOwner O.planCmd rfl,
    fun _ _ => State.command_notOwner O.planCmd rfl,
    fun _ _ => State.command_notOwner O.planCmd rfl,
    fun _ _ => State.command_notOwner O.planCmd rfl,
    fun _ _ => State.command_notOwner O.planCmd rfl,
    fun _ _ => State.command_notOwner O.planCmd rfl,
    fun _ _ _ _ => State.command_notOwner O.calCmd rfl,
    fun _ _ _ => State.command_notOwner O.syncCmd rfl,
    fun _ _ _ _ => State.command_notOwner O.ncoFtw rfl,
    fun _ _ _ fine _ => State.command_notOwner (if fine then O.gainFine else O.gainShift) (Row.ite_host fine rfl rfl),
    fun _ _ sl _ => State.load_notOwner (O.firCoef.key sl.val 0),
    fun _ _ e _ => State.load_notOwner (O.teWindowTable.key e.val 0),
    fun _ _ mask _ => State.load_notOwner (O.tuMaskTable.key mask.val 0),
    fun _ _ _ => State.command_notOwner O.dnClearCmd rfl,
    fun _ _ _ => State.command_notOwner O.dnSnapCmd rfl,
    fun _ _ _ => State.load_notOwner (O.dnPalette.key 0 0),
    fun _ _ p _ => State.load_notOwner (O.awImage.key (posKey p) 0),
    fun _ _ _ _ => State.command_notOwner O.ticCalCmd rfl,
    fun _ _ _ _ => State.command_notOwner O.msAdevReset rfl,
    fun _ _ _ => State.command_notOwner O.xoAgeRate rfl,
    fun _ _ _ => State.command_notOwner O.pllaLolClr rfl,
    fun _ _ _ => State.command_notOwner O.pllaRelock rfl,
    fun _ _ _ => State.command_notOwner O.phaseStep rfl,
    fun _ _ _ => State.commandHeld_notOwner O.tcSet rfl,
    fun _ _ _ => State.commandHeld_notOwner O.tcStep rfl,
    fun _ _ _ => State.command_notOwner O.tcStepAccept rfl,
    fun _ _ _ => State.command_notOwner O.tcSlew rfl,
    fun _ _ _ => State.command_notOwner O.tcFreqAdj rfl,
    fun _ _ _ => State.command_notOwner O.taValid rfl,
    fun _ _ _ => State.command_notOwner O.taValid rfl,
    fun _ _ _ => State.command_notOwner O.laceSCmd rfl,
    fun _ _ _ _ => State.command_notOwner O.dmaStart rfl,
    fun _ _ _ _ => State.command_notOwner O.dmaNudge rfl,
    fun _ _ _ _ => State.command_notOwner O.dmaStop rfl,
    fun _ _ _ _ => State.command_notOwner O.nvTrimCmd rfl,
    fun _ _ object _ => State.command_notOwner (canRow object.val) (canRow_host _),
    fun _ _ _ _ => State.command_notOwner O.dpCommit rfl,
    fun _ _ => State.command_notOwner O.hkSnapCmd rfl,
    fun _ _ => State.command_notOwner O.hkSnapCmd rfl,
    fun _ _ _ => State.command_notOwner O.hkCalCmd rfl,
    fun _ _ _ => State.command_notOwner O.hkCalCmd rfl,
    fun _ _ _ => State.command_notOwner O.hkCalCmd rfl,
    fun _ _ _ _ => State.command_notOwner O.pgFire rfl,
    fun _ _ _ _ => State.command_notOwner O.pgTripClr rfl,
    fun _ _ _ _ => State.command_notOwner O.evClear rfl,
    fun _ _ size _ => State.command_notOwner (if size then O.evRingSize else O.evRingBase) (Row.ite_host size rfl rfl),
    fun _ _ _ => State.command_notOwner O.frAck rfl,
    fun _ _ _ => State.command_notOwner O.frRelease rfl,
    fun _ _ _ _ => State.command_notOwner O.pwrLtol rfl,
    fun _ _ _ => State.command_notOwner O.powerCap rfl,
    fun _ _ _ => State.command_notOwner O.pwrDomainCmd rfl,
    fun _ _ _ => State.command_notOwner O.pwrDomainCmd rfl,
    fun _ _ _ => State.command_notOwner O.fitCmd rfl,
    fun _ _ => State.command_notOwner O.fitCmd rfl,
    fun _ _ _ => State.command_notOwner O.calStoreCmd rfl,
    fun _ _ slotB _ _ _ => State.load_notOwner ((if slotB then O.fwImageB else O.fwImageA).key 0 0),
    fun _ _ _ => State.command_notOwner O.resetCmd rfl⟩

end Sys2Proof.Machine
end

section
/-! SUPPORT. The boundary of an engine (R17, R134): which of its old values it drops. -/

namespace Sys2Proof.Machine

variable {s : State}

/-- A fold of operations that each keep the waiting values keeps them. -/
theorem State.foldl_lag {α : Type} {f : State → α → State} (hf : ∀ u a, (f u a).lag = u.lag) (l : List α) :
    (l.foldl f s).lag = s.lag :=
  l.foldlRecOn f (motive := fun u => u.lag = s.lag) rfl fun u hu a _ => (hf u a).trans hu

@[simp] theorem State.setEng_lag (e : Nat) (x : Eng) : (s.setEng e x).lag = s.lag := rfl

@[simp] theorem State.setEngSrc_lag (e src : Nat) (x : EngSrc) : (s.setEngSrc e src x).lag = s.lag := rfl

@[simp] theorem State.engFigures_lag (e : Nat) : (s.engFigures e).lag = s.lag := rfl

@[simp] theorem State.beginSrc_lag (e src next cause : Nat) : (s.beginSrc e src next cause).lag = s.lag := by
  simp [State.beginSrc]

/-- An engine's boundary drops the old values of its settings and those of its choice of sources, `TE_SRC_KIND` and `TE_SLICES`. -/
theorem State.engBoundary_lag {e : Nat} (h : s.engLags e = true) :
    (s.engBoundary e).lag = s.lag.filter (fun x => !isEngLag e x.1) := by
  rw [State.engBoundary, if_pos h]
  simp only [State.engFigures_lag, State.setEng_lag]
  rw [State.foldl_lag (fun u src => by split_ifs <;> simp), State.foldl_lag (fun u src => by simp)]

theorem exec_unitBoundaryApply_engine (e : Fin 4) :
    exec (.unitBoundaryApply (.engine e)) s = .next (s.engBoundary e.val) := rfl

/-- Refutes O9: its last clause drops only the old values of `engRows` at an engine's boundary, but the model also drops those of
`TE_SRC_KIND` and `TE_SLICES` (R17, R134). Engine 0 works on slice 0, and the active plan gives it slices 0 and 1: the one value
that waits is the old `TE_SLICES`, which the clause keeps and the boundary drops. -/
theorem not_plansTakeEffect : ¬ Obligations.PlansTakeEffect := by
  unfold Obligations.PlansTakeEffect
  rintro ⟨-, -, -, -, -, -, -, -, -, hengine⟩
  let s : State :=
    { active := [(O.teEnable.key 0 0, 1), (O.teSrcKind.key 0 0, 1), (O.teSlices.key 0 0, 3)], lag := [(O.teSlices.key 0 0, 1)] }
  have hlags : s.engLags 0 = true := by decide +kernel
  obtain ⟨t, ht, hkept, -⟩ := hengine s 0 hlags
  rw [exec_unitBoundaryApply_engine] at ht
  obtain rfl := Host.Outcome.next.inj ht
  have hdropped : (s.engBoundary 0).lag = s.lag.filter (fun x => !isEngLag 0 x.1) := State.engBoundary_lag hlags
  have hdiffer : s.lag.filter (fun x => !isEngLag 0 x.1) ≠ s.lag.filter (fun x => !engRows.any (fun r => r.key 0 0 == x.1)) := by
    decide +kernel
  exact hdiffer (hdropped.symm.trans hkept)

end Sys2Proof.Machine
end

section
/-! SUPPORT. Effects built up write by write, and what is read through them. -/

namespace Sys2Proof.Machine

variable {s t : State} {evs : List (Nat × Nat)} {keys hids : List Nat}

theorem Effect.refl : Effect s s [] keys hids := ⟨rfl, rfl, Agree.refl _ _, Agree.refl _ _⟩

/-- The keys that an effect may write: those named, and `EV_MERGED` where it raised an event. -/
theorem Effect.mem_keys {k : Nat} (hk : k ∈ keys) : k ∈ if evs = [] then keys else mergedKey :: keys := by
  split
  · exact hk
  · exact List.mem_cons_of_mem _ hk

theorem Effect.setReg {r : Row} {v i j : Nat} (h : Effect s t evs keys hids) (hk : r.key i j ∈ keys) :
    Effect s (t.setReg r v i j) evs keys hids := by
  obtain ⟨hrest, hraises, hregs, hhid⟩ := h
  refine ⟨?_, hraises, hregs.setReg r v i j (Effect.mem_keys hk), hhid⟩
  rw [hrest]
  rfl

theorem Effect.setHidden {n v i : Nat} (h : Effect s t evs keys hids) (hk : hkey n i ∈ hids) :
    Effect s (t.setHidden n v i) evs keys hids := by
  obtain ⟨hrest, hraises, hregs, hhid⟩ := h
  refine ⟨?_, hraises, hregs, hhid.setHidden n v i hk⟩
  rw [hrest]
  rfl

/-- An object that an effect neither names nor merges a raise in reads as before. -/
theorem Effect.reg {q : Row} {i j : Nat} (h : Effect s t evs keys hids) (hk : q.key i j ∉ mergedKey :: keys) :
    t.reg q i j = s.reg q i j := by
  refine h.2.2.1 _ _ fun hm => hk ?_
  split at hm
  · exact List.mem_cons_of_mem _ hm
  · exact hm

theorem Effect.hidden {n i : Nat} (h : Effect s t evs keys hids) (hk : hkey n i ∉ hids) : t.hidden n i = s.hidden n i :=
  h.2.2.2 _ _ hk

theorem Effect.mono {keys' hids' : List Nat} (h : Effect s t evs keys hids)
    (hk : ∀ k ∈ keys, k ∈ keys') (hh : ∀ k ∈ hids, k ∈ hids') : Effect s t evs keys' hids' := by
  obtain ⟨hrest, hraises, hregs, hhid⟩ := h
  refine ⟨hrest, hraises, hregs.mono fun k hm => ?_, hhid.mono hh⟩
  by_cases he : evs = []
  · rw [if_pos he] at hm ⊢
    exact hk k hm
  · rw [if_neg he] at hm ⊢
    exact List.cons_subset_cons _ hk hm

theorem Effect.up (h : Effect s t evs keys hids) : t.up = s.up := by rw [h.1]

/-- What the span within which raises merge goes by: `PLLA_STATE` and `FROOT_ACTUAL`. -/
def spanKeys : List Nat := [O.pllaState.key 0 0, O.frootActual.key 0 0]

theorem Effect.cycleP (h : Effect s t evs keys hids) (hk : ∀ k ∈ spanKeys, k ∉ mergedKey :: keys) : t.cycleP = s.cycleP := by
  have hstate : t.reg O.pllaState = s.reg O.pllaState := h.reg (hk _ (by simp [spanKeys]))
  have hfroot : t.reg O.frootActual = s.reg O.frootActual := h.reg (hk _ (by simp [spanKeys]))
  unfold State.cycleP State.locked State.froot
  rw [hstate, hfroot]

/-- The one event that a command tells is raised after its writes. -/
theorem Effect.raise (e d : Nat) (h : Effect s t [] keys hids) (hk : ∀ k ∈ spanKeys, k ∉ mergedKey :: keys) :
    Effect s (t.raise e d) [(e, d)] keys hids := by
  have hspan := h.cycleP hk
  have hup := h.up
  obtain ⟨hrest, hraises, hregs, hhid⟩ := h
  refine ⟨?_, ?_, ?_, ?_⟩
  · rw [hrest]
    unfold State.raise
    split <;> rfl
  · rw [State.raise_raises, hspan, hup, hraises]
    rfl
  · exact Agree.raise e d (hregs.mono fun k hk => List.mem_cons_of_mem _ hk) List.mem_cons_self
  · simpa using hhid

/-- The objects after a raise: a merged one is counted. -/
def countMerge (span now event data : Nat) (l : List Raise) (regs : Store) : Store :=
  match mergeRaise span now event data l with
  | some _ => (({ regs := regs } : State).bumpSat O.evMerged).regs
  | none => regs

/-- A raise changes objects and raises alone. -/
theorem State.raise_eq (s : State) (e d : Nat) : s.raise e d =
    { s with regs := countMerge (2 * s.cycleP) s.up e d s.raises s.regs, raises := pushRaise (2 * s.cycleP) s.up e d s.raises } := by
  unfold State.raise countMerge pushRaise
  cases mergeRaise (2 * s.cycleP) s.up e d s.raises <;> rfl

/-- What leaves the device when a request succeeds goes by what has left it before, and by nothing else. -/
theorem replied_congr (m : Master) (h : t.out = s.out) : replied t m = replied s m := by
  cases m <;> simp [replied, h]

/-- What a command brings about is read in the next state that it answers. -/
theorem State.thenDoes_of_exec {α : Type} {i : Instr} (f : State → α) (h : exec i s = .next t) : s.thenDoes i f = some (f t) := by
  simp only [State.thenDoes, h]

end Sys2Proof.Machine
end

section
/-! SUPPORT. What the end and the passing of ownership note of the old owner's transfers (R44, R58), which two statements leave out. -/

namespace Sys2Proof.Machine

/-- A device that is ready, its host connected. Session 0 of ADP owns it, offers ownership to the host, and has a write in progress. -/
def handingOver : State where
  regs := [(O.ownerId.key 0 0, 0x10), (O.ownerState.key 0 0, 2), (O.successorId.key 0 0, 1)]
  hid := [(hkey H.boot, 7), (hkey H.hostUp, 1)]
  xfers := [{ master := 0x10, key := O.xoTcTable.key 0 0, write := true, total := 704, data := [0] }]

/-- What the old owner's next segment hears of. -/
def writeLost : Nat × Nat × Bool × Nat := (0x10, O.xoTcTable.key 0 0, true, Abort.notOwner)

/-- Refutes O1: its last clause lets an accepted handover change nothing but the objects that it names and the transfers and mailbox
command of the old owner. A write that the old owner has in progress is also noted as discarded, for its next segment to hear of. -/
theorem not_electionCommands : ¬ Obligations.ElectionCommands := by
  unfold Obligations.ElectionCommands
  rintro ⟨-, -, -, -, haccept⟩
  obtain ⟨t, ht, -, -, -, -, -, -, hrest, -⟩ := haccept handingOver (by decide +kernel) (by decide +kernel) (by decide +kernel)
  have hkept : t.ends = [] := by have h := congrArg State.ends hrest; exact h
  have hnoted : handingOver.thenDoes (.pcieAccept 1) State.ends = some [writeLost] := by decide +kernel
  rw [State.thenDoes_of_exec _ ht, hkept] at hnoted
  simp at hnoted

/-- Refutes O2: its first clause lets an expired lease change nothing but what it names, and leaves out the same note. -/
theorem not_ownershipEnds : ¬ Obligations.OwnershipEnds := by
  unfold Obligations.OwnershipEnds
  rintro ⟨hexpire, -⟩
  obtain ⟨t, ht, -, -, -, -, -, -, hrest⟩ := hexpire handingOver (by decide +kernel) rfl (by decide +kernel)
  have hkept : t.ends = [] := by have h := congrArg State.ends hrest; exact h
  have hnoted : handingOver.thenDoes .leaseExpired State.ends = some [writeLost] := by decide +kernel
  rw [State.thenDoes_of_exec _ ht, hkept] at hnoted
  simp at hnoted

end Sys2Proof.Machine
end

section
/-! SUPPORT. A write of `AQ_LAD_HIGH` that its table refuses (Table 7.11). -/

namespace Sys2Proof.Machine

/-- A device that is ready, its host connected and the owner. -/
def hostOwns : State where
  regs := [(O.ownerId.key 0 0, 1), (O.ownerState.key 0 0, 1)]
  hid := [(hkey H.boot, 7), (hkey H.hostUp, 1)]

/-- Refutes O4: its first clause takes every value that passes the object's own value check into the staged plan, but `AQ_LAD_HIGH` must
also lie above the staged `AQ_LAD_LOW` (25 by default): 2 lies in the range of its row and is refused with ACC_RANGE. -/
theorem not_objectWrites : ¬ Obligations.ObjectWrites := by
  unfold Obligations.ObjectWrites
  rintro ⟨hplan, -⟩
  obtain ⟨t, ht, -, hstaged, -⟩ := hplan hostOwns .host 0x1E00 0x13 [2] O.aqLadHigh 0 0 (by decide +kernel) (by decide +kernel) rfl
    (by decide) rfl (by decide) rfl rfl rfl
  have hrefused : hostOwns.thenDoes (.objectWrite .host 0x1E00 0x13 [2]) State.staged = some [] := by decide +kernel
  rw [State.thenDoes_of_exec _ ht, hstaged] at hrefused
  exact absurd hrefused (by decide)

end Sys2Proof.Machine
end

section
/-! SUPPORT. Datagrams that reach another port of the device than ADP's (R45), which two statements leave out. -/

namespace Sys2Proof.Machine

variable {s : State} {q : AdpMsg}

/-- R45: ADP listens on UDP port 47120 alone; what comes to another port is nothing to it. -/
theorem State.adpReceive_otherPort (type : Nat) (rivals : List (Master × Nat)) (hp : q.port ≠ 2) (hl : q.peer.localPort ≠ 47120) :
    s.adpReceive type q rivals = s := by
  have hother : (q.port != 2 && q.peer.localPort != 47120) = true :=
    Bool.and_eq_true_iff.mpr ⟨bne_iff_ne.mpr hp, bne_iff_ne.mpr hl⟩
  simp only [State.adpReceive, hother, Bool.or_true, Bool.true_or, if_true]

/-- A device that is ready and serves ADP on ETH0. Session 0 is open, its key is enabled, and its master is the owner. -/
def sessionOwns : State where
  regs := [(O.ownerId.key 0 0, 0x10), (O.ownerState.key 0 0, 1), (O.ethLink.key 0 0, 2)]
  hid := [(hkey H.boot, 7)]
  doms := [(O.adpKey.key 0 0, List.replicate 32 7)]
  sess := [(0, { isOpen := true, nonce := 5 })]

/-- A message without payload to port 1 of the device, with the tag that its key and a nonce give it. -/
def strayMsg (type nonce : Nat) (session : Byte) (seq : BitVec 32) : AdpMsg where
  port := 0
  version := 1
  flags := 0
  session := session
  keyId := 0
  payloadLen := 0
  seq := seq
  txn := 9
  payload := []
  tag := sessionOwns.adpTag 0 nonce (adpHeader type 0 session.toNat 0 0 seq.toNat 9) []
  peer := { localPort := 1 }

theorem strayMsg_tagOk (type nonce : Nat) (session : Byte) (seq : BitVec 32) :
    sessionOwns.tagOk type (strayMsg type nonce session seq) nonce = true := by
  have hkey : sessionOwns.keyOn 0 = true := by decide +kernel
  simp [State.tagOk, strayMsg, hkey]

theorem adpReceive_strayMsg (type nonce : Nat) (session : Byte) (seq : BitVec 32) (t : Nat) (rivals : List (Master × Nat)) :
    s.adpReceive t (strayMsg type nonce session seq) rivals = s :=
  State.adpReceive_otherPort t rivals (by simp [strayMsg]) (by simp [strayMsg])

/-- Refutes O6: each clause answers a request that passes authentication, whatever port of the device it was sent to. A RENEW of the
owner's session to another UDP port than ADP's changes nothing, its session's sequence number included. -/
theorem not_sessionRequests : ¬ Obligations.SessionRequests := by
  unfold Obligations.SessionRequests
  rintro ⟨-, -, -, -, hrenew, -⟩
  have haccepts : Accepts sessionOwns 0 6 (strayMsg 6 5 0 1) :=
    ⟨by decide +kernel, rfl, rfl, rfl, rfl, rfl, strayMsg_tagOk 6 5 0 1, by decide, rfl, by decide, rfl⟩
  obtain ⟨t, ht, -, hanswered, -⟩ := hrenew sessionOwns 0 _ haccepts (by decide +kernel) (by decide +kernel)
  have hnothing : exec (.adpRenew (strayMsg 6 5 0 1)) sessionOwns = .next sessionOwns :=
    congrArg Host.Outcome.next (adpReceive_strayMsg 6 5 0 1 6 [])
  obtain rfl : sessionOwns = t := Host.Outcome.next.inj (hnothing.symm.trans ht)
  have hseq : (0 : Nat) = 1 := congrArg Session.rxSeq hanswered
  exact absurd hseq (by decide)

/-- Refutes O7: its first clause opens a session for every opening request with a good tag. One that is sent to another UDP port than
ADP's opens none. -/
theorem not_sessionLife : ¬ Obligations.SessionLife := by
  unfold Obligations.SessionLife
  rintro ⟨hopen, -⟩
  obtain ⟨t, ht, hsession, -⟩ := hopen sessionOwns 1 (strayMsg 1 0 0xFF 0) 1 rfl (by decide +kernel) rfl (strayMsg_tagOk 1 0 0xFF 0) rfl
    (by decide +kernel)
  have hnothing : exec (.adpSessionOpen 1 (strayMsg 1 0 0xFF 0)) sessionOwns = .next sessionOwns :=
    congrArg Host.Outcome.next (adpReceive_strayMsg 1 0 0xFF 0 1 [])
  obtain rfl : sessionOwns = t := Host.Outcome.next.inj (hnothing.symm.trans ht)
  have hopen : false = true := congrArg Session.isOpen hsession
  exact absurd hopen (by decide)

end Sys2Proof.Machine
end

section
/-! SUPPORT. The state after reset. -/

namespace Sys2Proof.Machine

/-- Settles O51: the stores and maps of the state after reset are empty, and what an empty one lists nothing of reads as its default. -/
theorem resetState : Obligations.ResetState := by
  unfold Obligations.ResetState
  have hbyte (a : Nat) : State.reset.readByte a = 0 := by
    have hheld : Map.get State.reset.mem 0 a = 0 := rfl
    have horder : State.reset.orderMask a = 0 := rfl
    rw [State.readByte, hheld, horder]
    exact ite_self 0
  exact ⟨fun _ _ _ => rfl, fun _ _ _ => rfl, hbyte, fun _ => rfl, rfl, rfl, rfl, rfl⟩

end Sys2Proof.Machine
end

section
/-! SUPPORT. Links (R383, R384): what a link is after it trained, and which of the other commands close a session. -/

namespace Sys2Proof.Machine

variable {s : State}

/-- What a link last trained at: as before where it came up at no known speed. -/
def State.trainedAt (s : State) (port lanes speed : Nat) : Nat :=
  if lanes * laneSpeed speed = 0 then s.hidden H.trained port else lanes * laneSpeed speed

theorem State.trains_hidden (port lanes speed : Nat) :
    (s.trains port lanes speed).2.hidden H.trained port = s.trainedAt port lanes speed := by
  unfold State.trains State.trainedAt
  dsimp only
  split
  · rfl
  · simp

theorem State.trains_effect (port lanes speed : Nat) : Effect s (s.trains port lanes speed).2 [] [] [hkey H.trained port] := by
  unfold State.trains
  dsimp only
  split
  · exact Effect.refl
  · exact Effect.refl.setHidden List.mem_cons_self

/-- An occurrence whose source shows no fault is held. -/
theorem State.occurrence_of_clear {src d : Nat} (h : s.faultRaw src = false) :
    s.occurrence src d = (s.setHidden H.held 1 src).setHidden H.driveData d src := by
  rw [State.occurrence, h]
  rfl

/-- The endpoint's link after it trained, before anything is told. -/
def State.pcieTrained (s : State) (lanes speed : Nat) : State :=
  ((((s.trains 0 lanes speed).2.setReg O.pcieWidth lanes).setReg O.pcieSpeed speed).setReg O.pcieHostCap
    (linkCap 54000000000 16 lanes speed)).setHidden H.linkUp 1

/-- The root port's link after it trained. -/
def State.nvTrained (s : State) (lanes speed : Nat) : State :=
  (((s.trains 1 lanes speed).2.setReg O.nvRootWidth lanes).setReg O.nvRootSpeed speed).setReg O.nvRootCap
    (linkCap 27000000000 8 lanes speed)

theorem State.pcieTrained_effect (lanes speed : Nat) : Effect s (s.pcieTrained lanes speed) []
    [O.pcieWidth.key 0 0, O.pcieSpeed.key 0 0, O.pcieHostCap.key 0 0] [hkey H.linkUp, hkey H.trained] :=
  ((((State.trains_effect 0 lanes speed).mono (by simp) (by simp)).setReg (by simp)).setReg (by simp)).setReg (by simp) |>.setHidden
    (by simp)

theorem State.nvTrained_effect (lanes speed : Nat) : Effect s (s.nvTrained lanes speed) []
    [O.nvRootWidth.key 0 0, O.nvRootSpeed.key 0 0, O.nvRootCap.key 0 0] [hkey H.trained 1] :=
  (((State.trains_effect 1 lanes speed).mono (by simp) (by simp)).setReg (by simp)).setReg (by simp) |>.setReg (by simp)

/-- The objects that a trained endpoint link writes. -/
theorem State.pcieTrained_objects (lanes speed : Nat) : (s.pcieTrained lanes speed).reg O.pcieWidth = lanes ∧
    (s.pcieTrained lanes speed).reg O.pcieSpeed = speed ∧
    (s.pcieTrained lanes speed).reg O.pcieHostCap = linkCap 54000000000 16 lanes speed ∧
    (s.pcieTrained lanes speed).hidden H.linkUp = 1 ∧ (s.pcieTrained lanes speed).hidden H.trained 0 = s.trainedAt 0 lanes speed := by
  simp (disch := decide) [State.pcieTrained, State.reg_setReg_ne, State.hidden_setHidden_ne, State.trains_hidden]

theorem State.nvTrained_objects (lanes speed : Nat) : (s.nvTrained lanes speed).reg O.nvRootWidth = lanes ∧
    (s.nvTrained lanes speed).reg O.nvRootSpeed = speed ∧
    (s.nvTrained lanes speed).reg O.nvRootCap = linkCap 27000000000 8 lanes speed ∧
    (s.nvTrained lanes speed).hidden H.trained 1 = s.trainedAt 1 lanes speed := by
  simp (disch := decide) [State.nvTrained, State.reg_setReg_ne, State.trains_hidden]


/-- A session that is not open closes without effect. -/
theorem State.closeSession_of_closed {n : Nat} (h : (s.session n).isOpen = false) : s.closeSession n = s :=
  if_neg (Bool.eq_false_iff.mp h)

/-- A port without open sessions goes down without effect on them. -/
theorem State.portDown_of_closed {p : Nat}
    (h : (List.range 8).all (fun n => (s.session n).port != p || !(s.session n).isOpen) = true) : s.portDown p = s := by
  have hclosed : ∀ n ∈ List.range 8, (Map.get s.sess {} n).port = p → s.closeSession n = s := by
    intro n hn hp
    have hor := List.all_eq_true.mp h n hn
    have hp' : ((s.session n).port != p) = false := bne_eq_false_iff_eq.mpr hp
    rw [hp', Bool.false_or] at hor
    exact State.closeSession_of_closed (by simpa using hor)
  refine List.foldlRecOn _ _ (motive := fun u : State => u = s) rfl ?_
  rintro u rfl n hn
  split_ifs with hp
  · exact hclosed n hn hp
  · rfl

/-- A port whose link becomes another, without a session to close, shows it and tells. -/
theorem State.ethTo_effect {p v : Nat} (hp : p < 2) (hv : s.reg O.ethLink p ≠ v)
    (hs : v = 0 → (List.range 8).all (fun n => (s.session n).port != p || !(s.session n).isOpen) = true) :
    (s.ethTo p v).reg O.ethLink p = v ∧ Effect s (s.ethTo p v) [(0x7A4 + p, v)] [O.ethLink.key p 0] [] := by
  have hkeys : O.ethLink.key p 0 ≠ mergedKey ∧ ∀ k ∈ spanKeys, k ∉ mergedKey :: [O.ethLink.key p 0] := by
    interval_cases p <;> decide
  have hto : s.ethTo p v = (s.setReg O.ethLink v p).raise (0x7A4 + p) v := by
    rw [State.ethTo, if_neg hv]
    dsimp only
    split_ifs with h0
    · rw [State.portDown_of_closed (s := s.setReg O.ethLink v p) (hs h0)]
    · rfl
  rw [hto]
  refine ⟨?_, (Effect.refl.setReg List.mem_cons_self).raise _ _ hkeys.2⟩
  rw [State.reg_raise_ne _ _ _ _ _ _ hkeys.1, State.reg_setReg_same]

theorem exec_pcieLink {lanes : Fin 17} (speed : Fin 6) (hl : lanes.val ≠ 0) :
    exec (.pcieLink lanes speed) s = .next (if (s.trains 0 lanes.val speed.val).1 = true ∧ s.reg O.planGen ≠ 0 then
      ((s.pcieTrained lanes.val speed.val).raise 0x7A0 (lanes.val + 256 * speed.val)).occurrence 0x60 (lanes.val + 256 * speed.val)
      else s.pcieTrained lanes.val speed.val) := by
  have hgen : (s.pcieTrained lanes.val speed.val).reg O.planGen = s.reg O.planGen :=
    (State.pcieTrained_effect _ _).reg (by decide)
  rw [← hgen, apply_ite Host.Outcome.next]
  change execPcieLink lanes speed s = _
  simp only [execPcieLink, if_neg hl]
  rfl

theorem exec_nvRootLink {lanes : Fin 9} (speed : Fin 6) (hl : lanes.val ≠ 0) :
    exec (.nvRootLink lanes speed) s = .next (if (s.trains 1 lanes.val speed.val).1 = true ∧ s.reg O.planGen ≠ 0 then
      ((s.nvTrained lanes.val speed.val).raise 0x7A1 (lanes.val + 256 * speed.val)).occurrence 0x61 (lanes.val + 256 * speed.val)
      else s.nvTrained lanes.val speed.val) := by
  have hgen : (s.nvTrained lanes.val speed.val).reg O.planGen = s.reg O.planGen :=
    (State.nvTrained_effect _ _).reg (by decide)
  rw [← hgen, apply_ite Host.Outcome.next]
  change execNvRootLink lanes speed s = _
  simp only [execNvRootLink, if_neg hl]
  rfl

/-- A link that is lower than before raises its event and then holds its fault, where its source shows none yet. -/
theorem Effect.raise_occurrence {t : State} {keys hids : List Nat} (h : Effect s t [] keys hids) (e d src : Nat)
    (hk : ∀ k ∈ spanKeys, k ∉ mergedKey :: keys) (hraw : O.frRaw.key 0 (src / 64) ∉ mergedKey :: keys)
    (hclear : s.faultRaw src = false) :
    (t.raise e d).occurrence src d = ((t.raise e d).setHidden H.held 1 src).setHidden H.driveData d src ∧
    Effect s ((t.raise e d).occurrence src d) [(e, d)] keys (hids ++ [hkey H.held src, hkey H.driveData src]) := by
  have hr := h.raise e d hk
  have hocc := State.occurrence_of_clear (s := t.raise e d) (src := src) (d := d) (by rw [State.faultRaw, hr.reg hraw]; exact hclear)
  refine ⟨hocc, ?_⟩
  rw [hocc]
  exact ((hr.mono (fun _ hm => hm) (by simp +contextual)).setHidden (by simp)).setHidden (by simp)

theorem exec_canTimingWrite {m : Master} {object : Fin 5} {v : Nat} (h : Owner s m) (hv : v < 2 ^ (canRow object.val).width)
    (hc : (canRow object.val).checks (v &&& (canRow object.val).mask) = true) (hs : (s.session 8).isOpen = false) :
    exec (.canTimingWrite m object v) s =
      .next { s.setReg (canRow object.val) v with out := replied (s.setReg (canRow object.val) v) m } := by
  refine State.command_ok h (canRow_host _) hv hc ?_
  rw [actCanTiming, State.closeSession_of_closed (s := s.setReg (canRow object.val) v) hs]

/-- Settles O42: a trained link's objects and event, a port's or the bus's state with its event, and the timing objects; where no
session is open on the port, none closes. -/
theorem links : Obligations.Links := by
  unfold Obligations.Links
  refine ⟨?_, ?_, ?_, ?_, ?_, ?_, ?_, ?_, ?_, ?_⟩
  · intro s lanes speed hl hquiet
    obtain ⟨hwidth, hspeed, hcap, hup, htrained⟩ := State.pcieTrained_objects (s := s) lanes.val speed.val
    refine ⟨_, ?_, hwidth, hspeed, hcap, hup, htrained, State.pcieTrained_effect _ _⟩
    rw [exec_pcieLink speed hl, if_neg fun h => hquiet.elim (ne_true_of_eq_false · h.1) h.2]
  · intro s lanes speed hl hlower hgen hclear
    obtain ⟨hwidth, hspeed, hcap, hup, htrained⟩ := State.pcieTrained_objects (s := s) lanes.val speed.val
    obtain ⟨hocc, heff⟩ := (State.pcieTrained_effect (s := s) lanes.val speed.val).raise_occurrence 0x7A0
      (lanes.val + 256 * speed.val) 0x60 (by decide) (by decide) hclear
    have hrun := exec_pcieLink (s := s) speed hl
    rw [if_pos ⟨hlower, hgen⟩, hocc] at hrun
    rw [hocc] at heff
    refine ⟨_, hrun, ?_, ?_, ?_, ?_, ?_, ?_, heff⟩ <;>
      simp (disch := decide) [State.reg_raise_ne, State.hidden_setHidden_ne, hwidth, hspeed, hcap, hup, htrained, State.trainedAt]
  · intro s lanes speed hl hquiet
    obtain ⟨hwidth, hspeed, hcap, htrained⟩ := State.nvTrained_objects (s := s) lanes.val speed.val
    refine ⟨_, ?_, hwidth, hspeed, hcap, htrained, State.nvTrained_effect _ _⟩
    rw [exec_nvRootLink speed hl, if_neg fun h => hquiet.elim (ne_true_of_eq_false · h.1) h.2]
  · intro s lanes speed hl hlower hgen hclear
    obtain ⟨hwidth, hspeed, hcap, htrained⟩ := State.nvTrained_objects (s := s) lanes.val speed.val
    obtain ⟨hocc, heff⟩ := (State.nvTrained_effect (s := s) lanes.val speed.val).raise_occurrence 0x7A1
      (lanes.val + 256 * speed.val) 0x61 (by decide) (by decide) hclear
    have hrun := exec_nvRootLink (s := s) speed hl
    rw [if_pos ⟨hlower, hgen⟩, hocc] at hrun
    rw [hocc] at heff
    refine ⟨_, hrun, ?_, ?_, ?_, ?_, ?_, heff⟩ <;>
      simp (disch := decide) [State.reg_raise_ne, State.hidden_setHidden_ne, hwidth, hspeed, hcap, htrained, State.trainedAt]
  · intro s p link hv hl hrate
    have hl0 : link.val ≠ 0 := fun h => hl (Fin.ext h)
    obtain ⟨hlink, heff⟩ := State.ethTo_effect p.isLt hv fun h => absurd h hl0
    exact ⟨_, if_neg fun h => hrate h.2, hlink, heff⟩
  · intro s p link hv hl hs
    subst hl
    obtain ⟨hlink, heff⟩ := State.ethTo_effect p.isLt hv fun _ => hs
    exact ⟨_, rfl, hlink, heff⟩
  · intro s p kind target hready hup htarget hkind hown
    subst hkind
    refine ⟨s.emit (.neighbour p.val 0 target), if_pos ?_, rfl, Effect.refl⟩
    simp [hready, hup, htarget, ← hown]
  · intro s m object v hm hv hc hs
    refine ⟨_, exec_canTimingWrite hm hv hc hs, replied_congr m rfl, State.reg_setReg_same .., ?_⟩
    exact Effect.refl.setReg (s := s) List.mem_cons_self
  · intro s hstate hs
    refine ⟨((s.setReg O.canState 2).raise 0x7A6 2), ?_, ?_, (Effect.refl.setReg List.mem_cons_self).raise _ _ (by decide)⟩
    · rw [← State.closeSession_of_closed (s := s.setReg O.canState 2) hs]
      exact if_neg hstate
    · simp (disch := decide) [State.reg_raise_ne]
  · intro s hstate
    refine ⟨((s.setReg O.canState 0).raise 0x7A6 0), if_pos hstate, ?_, (Effect.refl.setReg List.mem_cons_self).raise _ _ (by decide)⟩
    simp (disch := decide) [State.reg_raise_ne]

end Sys2Proof.Machine
end

section
/-! SUPPORT. The flash stores (R38, R473, R475): a write begins in a slot, and the slot is committed. -/

namespace Sys2Proof.Machine

variable {s : State} {i : Fin 2}

/-- The slot that a write begins in is the one after the newest, and holds the next generation without its commit word. -/
theorem storeBegin_slot (v : Vector StoreSlot 2) (vals : Store) (doms : Map (List Byte)) :
    (storeBegin v vals doms).2 = (nextSlot v).1 ∧
    ((storeBegin v vals doms).1.get (nextSlot v).1).state = 2 ∧
    ((storeBegin v vals doms).1.get (nextSlot v).1).gen = (nextSlot v).2 := by
  simp [storeBegin, Vector.get_eq_getElem]

/-- A commit gives the slot its commit word and keeps its generation. -/
theorem storeCommit_slot (v : Vector StoreSlot 2) (i : Fin 2) :
    ((storeCommit v i).get i).state = 1 ∧ ((storeCommit v i).get i).gen = (v.get i).gen := by
  simp [storeCommit, Vector.get_eq_getElem]

@[simp] theorem slotOf_val (i : Fin 2) : slotOf i.val = i := by
  revert i
  decide

/-- The machine with other contents of its flash. -/
def State.withFlash (s : State) (f : Flash) : State := { s with flash := f }

theorem State.withFlash_eq (s : State) (f : Flash) : { s with flash := f } = s.withFlash f := rfl

@[simp] theorem State.setHidden_withFlash (s : State) (f : Flash) (n v i : Nat) :
    (s.withFlash f).setHidden n v i = (s.setHidden n v i).withFlash f := rfl

@[simp] theorem State.setReg_withFlash (s : State) (f : Flash) (r : Row) (v i j : Nat) :
    (s.withFlash f).setReg r v i j = (s.setReg r v i j).withFlash f := rfl

@[simp] theorem State.raise_withFlash (s : State) (f : Flash) (e d : Nat) :
    (s.withFlash f).raise e d = (s.raise e d).withFlash f := by
  rw [State.raise_eq, State.raise_eq]
  rfl

@[simp] theorem State.reg_withFlash (s : State) (f : Flash) (q : Row) (i j : Nat) : (s.withFlash f).reg q i j = s.reg q i j := rfl

@[simp] theorem State.hidden_withFlash (s : State) (f : Flash) (n i : Nat) : (s.withFlash f).hidden n i = s.hidden n i := rfl

@[simp] theorem State.withFlash_flash (s : State) (f : Flash) : (s.withFlash f).flash = f := rfl

@[simp] theorem State.withFlash_withFlash (s : State) (f g : Flash) : (s.withFlash f).withFlash g = s.withFlash g := rfl

@[simp] theorem State.withFlash_self (s : State) : s.withFlash s.flash = s := rfl

/-- Device time goes by the time counter alone. -/
theorem State.now_congr {s t : State} (h : t.tc = s.tc) : t.now = s.now := congrArg T96.ofCounter h

/-! ### The parameter store -/

/-- What the end of the parameter store's verified write shows, before its event. -/
def State.paramShown (s : State) (i : Fin 2) : State :=
  (s.setHidden H.paramRun 0).setReg O.paramStoreGen (s.flash.param.get i).gen

/-- The parameter store's write ends verified: the commit word, the generation and its event. -/
def State.paramCommitted (s : State) (i : Fin 2) : State :=
  ((s.paramShown i).raise 0x018 (s.flash.param.get i).gen).withFlash { s.flash with param := storeCommit s.flash.param i }

theorem State.paramDone_verified (h : s.hidden H.paramRun = i.val + 1) : s.paramDone true = s.paramCommitted i := by
  have hgen := (storeCommit_slot s.flash.param i).2
  simp only [State.paramDone, h, Nat.add_sub_cancel, slotOf_val, if_true, State.setHidden_flash, hgen, State.withFlash_eq,
    State.setReg_withFlash, State.raise_withFlash]
  rfl

theorem exec_paramStoreDone (h : s.hidden H.paramRun = i.val + 1) : exec (.paramStoreDone true) s = .next (s.paramCommitted i) := by
  rw [← State.paramDone_verified h]
  exact congrArg Host.Outcome.next (if_neg (by omega))

theorem exec_storeWriteDone_param (h : s.hidden H.paramRun = i.val + 1) :
    exec (.storeWriteDone 1 true) s = .next (s.paramCommitted i) :=
  exec_paramStoreDone h

/-- What the commit of the parameter store shows, and what it leaves alone. -/
theorem State.paramCommitted_spec (s : State) (i : Fin 2) :
    (s.paramCommitted i).reg O.paramStoreGen = (s.flash.param.get i).gen ∧ (s.paramCommitted i).hidden H.paramRun = 0 ∧
    Effect s { s.paramCommitted i with flash := s.flash } [(0x018, (s.flash.param.get i).gen)] [O.paramStoreGen.key 0 0]
      [hkey H.paramRun] := by
  have hflash : (s.paramShown i).flash = s.flash := rfl
  have hshown : Effect s (s.paramShown i) [] [O.paramStoreGen.key 0 0] [hkey H.paramRun] :=
    (Effect.refl.setHidden List.mem_cons_self).setReg List.mem_cons_self
  have hrest : (s.paramCommitted i).withFlash s.flash = (s.paramShown i).raise 0x018 (s.flash.param.get i).gen := by
    rw [State.paramCommitted, State.withFlash_withFlash, ← hflash, ← State.raise_withFlash, State.withFlash_self]
  rw [State.withFlash_eq, hrest]
  refine ⟨?_, ?_, hshown.raise _ _ (by decide)⟩
  · rw [State.paramCommitted, State.reg_withFlash, State.reg_raise_ne _ _ _ _ _ _ (by decide), State.paramShown, State.reg_setReg_same]
  · simp [State.paramCommitted, State.paramShown]

/-- A write of the parameter store that has begun commits with the generation that it began with. -/
theorem State.paramRun_commits (h : s.hidden H.paramRun = i.val + 1) :
    s.thenDoes (.paramStoreDone true) (fun u => ((u.flash.param.get i).state, u.reg O.paramStoreGen)) =
      some (1, (s.flash.param.get i).gen) := by
  rw [State.thenDoes_of_exec _ (exec_paramStoreDone h), (s.paramCommitted_spec i).1]
  exact congrArg (fun n => some (n, _)) (storeCommit_slot s.flash.param i).1

/-- A write of the parameter store has begun. -/
theorem State.paramBegin_spec (s : State) : s.paramBegin.hidden H.paramRun = (nextSlot s.flash.param).1.val + 1 ∧
    (s.paramBegin.flash.param.get (nextSlot s.flash.param).1).state = 2 ∧
    (s.paramBegin.flash.param.get (nextSlot s.flash.param).1).gen = (nextSlot s.flash.param).2 ∧
    Effect s { s.paramBegin with flash := s.flash } [] [] [hkey H.paramRun] := by
  refine ⟨?_, ?_, ?_, ?_⟩
  · rw [State.paramBegin, State.hidden_setHidden_same, (storeBegin_slot ..).1]
  · exact (storeBegin_slot ..).2.1
  · exact (storeBegin_slot ..).2.2
  · have heff (n : Nat) : Effect s (s.setHidden H.paramRun n) [] [] [hkey H.paramRun] := Effect.refl.setHidden List.mem_cons_self
    exact heff ((nextSlot s.flash.param).1.val + 1)

/-- The parameter store with both slots erased. -/
def State.paramErased (s : State) : State :=
  { s with flash := { s.flash with param := Vector.replicate 2 {} } }.setReg O.paramStoreGen 0

theorem State.paramErased_spec (s : State) : s.paramErased.reg O.paramStoreGen = 0 ∧
    Effect s { s.paramErased with flash := s.flash } [] [O.paramStoreGen.key 0 0] [] :=
  have heff : Effect s (s.setReg O.paramStoreGen 0) [] [O.paramStoreGen.key 0 0] [] := Effect.refl.setReg List.mem_cons_self
  ⟨State.reg_setReg_same .., heff⟩

/-! ### The calibration store -/

/-- What the end of the calibration store's verified write at a time shows, before its event. -/
def State.calShown (s : State) (i : Fin 2) (now : Nat) : State :=
  (((s.setHidden H.calWritten (s.up + 1)).setReg O.calStoreGen (s.flash.cal.get i).gen).setReg O.calStoreT96 now).setReg
    O.calStoreState 0

/-- The calibration store's write ends verified, no trigger having come meanwhile. -/
def State.calCommitted (s : State) (i : Fin 2) (now : Nat) : State :=
  ((s.calShown i now).raise 0x7F6 (s.flash.cal.get i).gen).withFlash { s.flash with cal := storeCommit s.flash.cal i }

theorem State.calDone_verified {now : Nat} (hslot : s.hidden H.calSlot = i.val) (hagain : s.hidden H.calAgain = 0) (hnow : s.now = now) :
    s.calDone true = s.calCommitted i now := by
  have hgen := (storeCommit_slot s.flash.cal i).2
  rw [State.calDone, hslot, hagain, slotOf_val, if_neg (by decide), if_pos rfl]
  dsimp only
  rw [hgen, (State.now_congr (by rw [State.setHidden_tc])).trans hnow]
  simp only [State.withFlash_eq, State.setHidden_withFlash, State.setReg_withFlash, State.raise_withFlash]
  rfl

theorem exec_storeWriteDone_cal (hrun : s.reg O.calStoreState = 1) (hslot : s.hidden H.calSlot = i.val)
    (hagain : s.hidden H.calAgain = 0) : exec (.storeWriteDone 0 true) s = .next (s.calCommitted i s.now) := by
  rw [← State.calDone_verified hslot hagain rfl]
  exact congrArg Host.Outcome.next (if_pos hrun)

/-- What the commit of the calibration store shows, and what it leaves alone. -/
theorem State.calCommitted_spec (s : State) (i : Fin 2) (now : Nat) :
    (s.calCommitted i now).reg O.calStoreGen = (s.flash.cal.get i).gen ∧ (s.calCommitted i now).reg O.calStoreT96 = now ∧
    (s.calCommitted i now).reg O.calStoreState = 0 ∧
    Effect s { s.calCommitted i now with flash := s.flash } [(0x7F6, (s.flash.cal.get i).gen)]
      [O.calStoreGen.key 0 0, O.calStoreT96.key 0 0, O.calStoreState.key 0 0] [hkey H.calWritten] := by
  have hflash : (s.calShown i now).flash = s.flash := rfl
  have hshown : Effect s (s.calShown i now) [] [O.calStoreGen.key 0 0, O.calStoreT96.key 0 0, O.calStoreState.key 0 0]
      [hkey H.calWritten] := by
    rw [State.calShown]
    exact (((Effect.refl.setHidden (by simp)).setReg (by simp)).setReg (by simp)).setReg (by simp)
  have hrest : (s.calCommitted i now).withFlash s.flash = (s.calShown i now).raise 0x7F6 (s.flash.cal.get i).gen := by
    rw [State.calCommitted, State.withFlash_withFlash, ← hflash, ← State.raise_withFlash, State.withFlash_self]
  have hreg (q : Row) (hq : q.key 0 0 ≠ mergedKey) : (s.calCommitted i now).reg q = (s.calShown i now).reg q := by
    rw [State.calCommitted, State.reg_withFlash, State.reg_raise_ne _ _ _ _ _ _ hq]
  rw [State.withFlash_eq, hrest, hreg O.calStoreGen (by decide), hreg O.calStoreT96 (by decide), hreg O.calStoreState (by decide)]
  refine ⟨?_, ?_, ?_, hshown.raise _ _ (by decide)⟩ <;> simp (disch := decide) [State.calShown, State.reg_setReg_ne]

/-- A write of the calibration store that has begun commits with the generation that it began with. -/
theorem State.calRun_commits (hrun : s.reg O.calStoreState = 1) (hslot : s.hidden H.calSlot = i.val)
    (hagain : s.hidden H.calAgain = 0) :
    s.thenDoes (.storeWriteDone 0 true) (fun u => ((u.flash.cal.get i).state, u.reg O.calStoreGen)) =
      some (1, (s.flash.cal.get i).gen) := by
  rw [State.thenDoes_of_exec _ (exec_storeWriteDone_cal hrun hslot hagain), (s.calCommitted_spec i s.now).1]
  exact congrArg (fun n => some (n, _)) (storeCommit_slot s.flash.cal i).1

/-- A write of the calibration store has begun. -/
theorem State.calBegin_spec (s : State) : s.calBegin.reg O.calStoreState = 1 ∧
    s.calBegin.hidden H.calSlot = (nextSlot s.flash.cal).1.val ∧ s.calBegin.hidden H.calAgain = 0 ∧
    (s.calBegin.flash.cal.get (nextSlot s.flash.cal).1).state = 2 ∧
    (s.calBegin.flash.cal.get (nextSlot s.flash.cal).1).gen = (nextSlot s.flash.cal).2 ∧
    Effect s { s.calBegin with flash := s.flash } [] [O.calStoreState.key 0 0] [hkey H.calSlot, hkey H.calStale, hkey H.calAgain] := by
  refine ⟨?_, ?_, ?_, ?_, ?_, ?_⟩
  · simp [State.calBegin]
  · simp (disch := decide) [State.calBegin, State.hidden_setHidden_ne, (storeBegin_slot ..).1]
  · simp [State.calBegin]
  · exact (storeBegin_slot ..).2.1
  · exact (storeBegin_slot ..).2.2
  · have heff (n : Nat) : Effect s
        ((((s.setReg O.calStoreState 1).setHidden H.calSlot n).setHidden H.calStale 0).setHidden H.calAgain 0) []
        [O.calStoreState.key 0 0] [hkey H.calSlot, hkey H.calStale, hkey H.calAgain] :=
      (((Effect.refl.setReg (by simp)).setHidden (by simp)).setHidden (by simp)).setHidden (by simp)
    exact heff (nextSlot s.flash.cal).1.val

/-- Settles O13: what a command begins, and what the write's end commits. -/
theorem flashStores : Obligations.FlashStores := by
  unfold Obligations.FlashStores
  refine ⟨?_, ?_, ?_, ?_, ?_, ?_, ?_, ?_⟩
  · intro s m hm hidle hlen
    have hact : actParamStore 1 s = .ok s.paramBegin := by
      have hfits : ¬ 4194304 < 64 + s.paramLen + 8 := by omega
      simp [actParamStore, hidle, hfits]
    obtain ⟨hrun, hstate, hgen, heff⟩ := s.paramBegin_spec
    refine ⟨_, State.command_ok hm rfl (by decide) (by decide) hact, replied_congr m rfl, hrun, hstate, hgen, ?_, heff⟩
    refine (State.paramRun_commits ?_).trans (congrArg (fun n => some (1, n)) hgen)
    exact hrun
  · intro s m hm hidle
    have hact : actParamStore 2 s = .ok s.paramErased := by
      simp [actParamStore, hidle, State.paramErased]
    obtain ⟨hgen, heff⟩ := s.paramErased_spec
    exact ⟨_, State.command_ok hm rfl (by decide) (by decide) hact, replied_congr m rfl, rfl, hgen, heff⟩
  · intro s i hrun
    exact ⟨_, exec_paramStoreDone hrun, rfl, s.paramCommitted_spec i⟩
  · intro s i hrun
    exact ⟨_, exec_storeWriteDone_param hrun, rfl, s.paramCommitted_spec i⟩
  · intro s hrun
    refine ⟨(s.setHidden H.paramRun 0).raise 0x7FB 3, congrArg Host.Outcome.next (if_neg hrun), ?_, ?_⟩
    · exact (State.hidden_raise ..).trans (State.hidden_setHidden_same ..)
    · exact (Effect.refl.setHidden List.mem_cons_self).raise _ _ (by decide)
  · intro s i hrun hslot hagain
    exact ⟨_, exec_storeWriteDone_cal hrun hslot hagain, rfl, s.calCommitted_spec i s.now⟩
  · intro s m hm hidle
    have hact : actCalStore 1 s = .ok s.calBegin := congrArg Except.ok (if_neg hidle)
    obtain ⟨hrun, hslot, hagain, hstate, hgen, heff⟩ := s.calBegin_spec
    refine ⟨_, State.command_ok hm rfl (by decide) (by decide) hact, replied_congr m rfl, hrun, hslot, hstate, hgen, ?_, heff⟩
    refine (State.calRun_commits ?_ ?_ ?_).trans (congrArg (fun n => some (1, n)) hgen)
    · exact hrun
    · exact hslot
    · exact hagain
  · intro s hready hstale hidle hhour
    obtain ⟨hrun, hslot, hagain, hstate, hgen, heff⟩ := s.calBegin_spec
    refine ⟨s.calBegin, congrArg Host.Outcome.next (if_pos ?_), hrun, hslot, hstate, hgen, ?_, heff⟩
    · simp [hready, hstale, hidle, hhour]
    · exact (State.calRun_commits hrun hslot hagain).trans (congrArg (fun n => some (1, n)) hgen)

end Sys2Proof.Machine
end

section
/-! SUPPORT. The dictionary server (R30 to R36, R508): the object that a request names, and what a write of a scalar does. -/

namespace Sys2Proof.Machine

variable {s : State} {m : Master} {index sub i j : Nat} {r : Row}

/-! ### The object -/

theorem findRow_some {l : List Row} (h : findRow l index sub = some (r, i, j)) : r ∈ l ∧ r.inst index sub = some (i, j) := by
  induction l with
  | nil => simp [findRow] at h
  | cons q rs ih =>
    unfold findRow at h
    split at h
    · rename_i i' j' hq
      obtain ⟨rfl, rfl, rfl⟩ : q = r ∧ i' = i ∧ j' = j := by simpa using h
      exact ⟨List.mem_cons_self, hq⟩
    · exact ⟨List.mem_cons_of_mem _ (ih h).1, (ih h).2⟩

/-- An object that a request names is a row of the dictionary, at that index and subindex, and the master has it. -/
theorem objectFor_some (h : objectFor m index sub = some (r, i, j)) :
    r ∈ dict ∧ r.inst index sub = some (i, j) ∧ (r.host = true → m = .host) := by
  unfold objectFor lookup at h
  split at h
  · rename_i r' i' j' hl
    split at hl
    · simp at hl
    · split at h
      · simp at h
      · rename_i hhost
        obtain ⟨rfl, rfl, rfl⟩ : r' = r ∧ i' = i ∧ j' = j := by simpa using h
        obtain ⟨hmem, hinst⟩ := findRow_some hl
        exact ⟨hmem, hinst, fun hr => by simp_all⟩
  · simp at h

/-- The place of an object is counted from its row. -/
theorem Row.inst_some (h : r.inst index sub = some (i, j)) :
    i < r.icnt ∧ j < r.scnt ∧ index = r.idx + r.ist * i ∧ sub = r.sub + r.sst * j := by
  unfold Row.inst at h
  split_ifs at h with h1 h2
  dsimp only at h
  split_ifs at h with h3 h4 h5 h6
  obtain ⟨rfl, rfl⟩ : (index - r.idx) / r.ist = i ∧ (sub - r.sub) / r.sst = j := by simpa using h
  exact ⟨h5, h6, by rw [Nat.mul_div_cancel' (Nat.dvd_of_mod_eq_zero h3)]; omega,
    by rw [Nat.mul_div_cancel' (Nat.dvd_of_mod_eq_zero h4)]; omega⟩

/-! ### The acts of objects with a rule of their own -/

/-- The rows that have an act of their own are the same for every master. -/
theorem acts_rows (m : Master) :
    (systemActs m ++ timeActs ++ pathActs).map Prod.fst = (systemActs .host ++ timeActs ++ pathActs).map Prod.fst :=
  rfl

theorem acts_nodup (m : Master) : ((systemActs m ++ timeActs ++ pathActs).map Prod.fst).Nodup := by
  rw [acts_rows]
  decide +kernel

/-- Among pairs of different first parts, a search for a pair's first part finds it. -/
theorem find?_of_nodup {α : Type} {l : List (Row × α)} (hl : (l.map Prod.fst).Nodup) {e : Row × α} (he : e ∈ l) :
    l.find? (fun x => x.1 == e.1) = some e := by
  induction l with
  | nil => simp at he
  | cons x l ih =>
    rw [List.map_cons, List.nodup_cons] at hl
    rcases List.mem_cons.mp he with rfl | he
    · simp
    · have hne : x.1 ≠ e.1 := fun h => hl.1 (h ▸ List.mem_map_of_mem he)
      simp [hne, ih hl.2 he]

/-- A write of an object with a rule of its own goes by that rule. -/
theorem scalarAct_of_act {v : Nat} {f : Nat → Nat → Nat → Act} (hset : r ≠ O.tcSet) (hstep : r ≠ O.tcStep)
    (he : (r, f) ∈ systemActs m ++ timeActs ++ pathActs) : scalarAct m r i j v s = runAct (f i j v) s := by
  rw [scalarAct, if_neg hset, if_neg hstep, find?_of_nodup (acts_nodup m) he]

/-- The LIVE objects with an act of their own. -/
theorem acts_live {e : Row × (Nat → Nat → Nat → Act)} (he : e ∈ systemActs m ++ timeActs ++ pathActs) (hc : e.1.cls = .live) :
    e.1 ∈ [O.ptpUtcOffset, O.ncoFtw, O.gainShift, O.gainFine] := by
  have hrows : ∀ q ∈ (systemActs .host ++ timeActs ++ pathActs).map Prod.fst, q.cls = .live →
      q ∈ [O.ptpUtcOffset, O.ncoFtw, O.gainShift, O.gainFine] := by decide +kernel
  exact hrows e.1 (acts_rows m ▸ List.mem_map_of_mem he) hc

/-- An object that is not among the acts has no act of its own. -/
theorem acts_find_none (hacts : (systemActs m ++ timeActs ++ pathActs).all (fun e => e.1 != r) = true) :
    (systemActs m ++ timeActs ++ pathActs).find? (fun e => e.1 == r) = none :=
  List.find?_eq_none.mpr fun e he => by simpa using List.all_eq_true.mp hacts e he

/-- A write of a LIVE object without a rule of its own is a LIVE write. -/
theorem scalarAct_of_live {v : Nat} (hset : r ≠ O.tcSet) (hstep : r ≠ O.tcStep) (hc : r.cls = .live)
    (hacts : (systemActs m ++ timeActs ++ pathActs).all (fun e => e.1 != r) = true) :
    scalarAct m r i j v s = runAct (actLive r i j v) s := by
  simp only [scalarAct, hset, hstep, acts_find_none hacts, hc, if_false]

/-- A write of an OWN object without a rule of its own goes into the object. -/
theorem scalarAct_of_own {v : Nat} (hset : r ≠ O.tcSet) (hstep : r ≠ O.tcStep) (hc : r.cls = .own)
    (hacts : (systemActs m ++ timeActs ++ pathActs).all (fun e => e.1 != r) = true) :
    scalarAct m r i j v s = runAct (actOwn r i j v) s := by
  simp only [scalarAct, hset, hstep, acts_find_none hacts, hc, if_false]

/-- A write of a scalar whose form and value pass does what the object does with the value. -/
theorem State.applyWrite_scalar {b : List Byte} (hty : r.ty ≠ .domain) (hlen : b.length = r.ty.size)
    (hcheck : r.checks (ofLe b &&& r.mask) = true) : s.applyWrite m r i j b = scalarAct m r i j (ofLe b &&& r.mask) s := by
  simp [State.applyWrite, hty, hlen, hcheck]

/-- The owner may write every object that is not read-only. -/
theorem State.judgeWrite_owner (ho : s.owns m = true) (h : objectFor m index sub = some (r, i, j)) (hro : r.cls ≠ .ro)
    (hid : r ≠ O.myId) : s.judgeWrite m index sub = .ok (r, i, j) := by
  simp [State.judgeWrite, h, hro, hid, ho]

theorem exec_objectWrite {b : List Byte} (hm : Served s m) (hj : s.judgeWrite m index sub = .ok (r, i, j)) :
    exec (.objectWrite m index sub b) s = answered m (s.applyWrite m r i j b) := by
  change execObjectWrite m index sub b s = _
  simp [execObjectWrite, hm.1, hm.2, State.writeObject, hj]

end Sys2Proof.Machine
end

section
/-! SUPPORT. LIVE writes (R35, R66): an accepted one changes every plan that exists, whatever its object does beside. -/

namespace Sys2Proof.Machine

variable {s : State} {m : Master} {i j v : Nat} {r : Row}

/-- No LIVE object is a DOMAIN object. -/
theorem live_not_domain (h : r ∈ dict) (hc : r.cls = .live) : r.ty ≠ .domain := by
  have hall : ∀ q ∈ dict, q.cls = .live → q.ty ≠ .domain := by decide +kernel
  exact hall r h hc

/-- A state with the plans of another, and nothing more sent: what the acts of LIVE objects do beside the write. -/
def SamePlans (s t : State) : Prop :=
  t.active = s.active ∧ t.staged = s.staged ∧ t.awaiting = s.awaiting ∧ t.armed = s.armed ∧ t.out = s.out

theorem SamePlans.refl (s : State) : SamePlans s s := ⟨rfl, rfl, rfl, rfl, rfl⟩

theorem State.vdifRestartAll_samePlans (s : State) : SamePlans s s.vdifRestartAll := by
  refine List.foldlRecOn _ _ (motive := SamePlans s) (SamePlans.refl s) fun u hu n _ => ?_
  split_ifs
  · exact hu
  · exact hu

/-- An act that makes a LIVE write and then leaves the plans alone. -/
def LiveAct (r : Row) (i j v : Nat) (a : Act) : Prop :=
  ∀ s, ∃ g : State → State, (∀ t, SamePlans t (g t)) ∧ a s = (actLive r i j v s).map g

theorem liveAct_self (r : Row) (i j v : Nat) : LiveAct r i j v (actLive r i j v) := fun s =>
  ⟨id, SamePlans.refl, by cases actLive r i j v s <;> rfl⟩

theorem liveAct_utcOffset (v : Nat) : LiveAct O.ptpUtcOffset 0 0 v (actUtcOffset v) := fun s => by
  refine ⟨_, fun t => ?_, rfl⟩
  split_ifs
  · exact SamePlans.refl t
  · exact t.vdifRestartAll_samePlans

theorem liveAct_ncoFtw (i v : Nat) : LiveAct O.ncoFtw i 0 v (actNcoFtw i v) := fun _ =>
  ⟨fun t => t.setSlice i { t.slice i with retune := true }, fun _ => ⟨rfl, rfl, rfl, rfl, rfl⟩, rfl⟩

theorem liveAct_sliceGain (i v : Nat) (fine : Bool) : LiveAct (if fine then O.gainFine else O.gainShift) i 0 v (actSliceGain i fine v) :=
  fun _ => ⟨fun t => t.setSlice i { t.slice i with gain := true }, fun _ => ⟨rfl, rfl, rfl, rfl, rfl⟩, rfl⟩

/-- The acts of the LIVE objects that have their own. -/
theorem ownAct_live (m : Master) (hown : r ∈ [O.ptpUtcOffset, O.ncoFtw, O.gainShift, O.gainFine]) :
    ∃ f, (r, f) ∈ systemActs m ++ timeActs ++ pathActs ∧ ∀ i < r.icnt, ∀ j < r.scnt, LiveAct r i j v (f i j v) := by
  have hzero {n : Nat} (h : n < 1) : n = 0 := Nat.lt_one_iff.mp h
  have htime {e : Row × (Nat → Nat → Nat → Act)} (h : e ∈ timeActs) : e ∈ systemActs m ++ timeActs ++ pathActs := by simp [h]
  have hpath {e : Row × (Nat → Nat → Nat → Act)} (h : e ∈ pathActs) : e ∈ systemActs m ++ timeActs ++ pathActs := by simp [h]
  simp only [List.mem_cons, List.not_mem_nil, or_false] at hown
  rcases hown with rfl | rfl | rfl | rfl
  · refine ⟨_, htime (List.getElem_mem (n := 8) (by decide)), fun i hi j hj => ?_⟩
    rw [hzero hi, hzero hj]
    exact liveAct_utcOffset v
  · refine ⟨_, hpath (List.getElem_mem (n := 1) (by decide)), fun i _ j hj => ?_⟩
    rw [hzero hj]
    exact liveAct_ncoFtw i v
  · refine ⟨_, hpath (List.getElem_mem (n := 2) (by decide)), fun i _ j hj => ?_⟩
    rw [hzero hj]
    exact liveAct_sliceGain i v false
  · refine ⟨_, hpath (List.getElem_mem (n := 3) (by decide)), fun i _ j hj => ?_⟩
    rw [hzero hj]
    exact liveAct_sliceGain i v true

/-- Every act of a LIVE object makes its write. -/
theorem scalarAct_live {index sub : Nat} (hr : r ∈ dict) (hc : r.cls = .live) (hi : r.inst index sub = some (i, j)) :
    ∃ a, LiveAct r i j v a ∧ scalarAct m r i j v s = runAct a s := by
  have hset : r ≠ O.tcSet := fun h => by simp [h, O.tcSet] at hc
  have hstep : r ≠ O.tcStep := fun h => by simp [h, O.tcStep] at hc
  obtain ⟨hilt, hjlt, -, -⟩ := Row.inst_some hi
  by_cases hown : r ∈ [O.ptpUtcOffset, O.ncoFtw, O.gainShift, O.gainFine]
  · obtain ⟨f, hf, hlive⟩ := ownAct_live (v := v) m hown
    exact ⟨f i j v, hlive i hilt j hjlt, scalarAct_of_act hset hstep hf⟩
  · refine ⟨actLive r i j v, liveAct_self r i j v, ?_⟩
    have hacts : (systemActs m ++ timeActs ++ pathActs).all (fun e => e.1 != r) = true := by
      refine List.all_eq_true.mpr fun e he => bne_iff_ne.mpr ?_
      rintro rfl
      exact hown (acts_live he hc)
    exact scalarAct_of_live hset hstep hc hacts

theorem exec_objectWrite_live {index sub : Nat} {b : List Byte} (hm : Owner s m) (ho : objectFor m index sub = some (r, i, j))
    (hc : r.cls = .live) (hlen : b.length = r.ty.size) (hcheck : r.checks (ofLe b &&& r.mask) = true) :
    ∃ a, LiveAct r i j (ofLe b &&& r.mask) a ∧ exec (.objectWrite m index sub b) s = answered m (runAct a s) := by
  obtain ⟨hr, hi, -⟩ := objectFor_some ho
  have hjudge := State.judgeWrite_owner hm.2.2 ho (by simp [hc]) (fun h => by simp [h, O.myId] at hc)
  obtain ⟨a, ha, hrun⟩ := scalarAct_live (s := s) (m := m) (v := ofLe b &&& r.mask) hr hc hi
  refine ⟨a, ha, ?_⟩
  rw [exec_objectWrite hm.served hjudge, State.applyWrite_scalar (live_not_domain hr hc) hlen hcheck, hrun]

/-- Settles O58: the write is made by the act of its object, and refused by the first plan in order that it breaks. -/
theorem liveWrites : Obligations.LiveWrites := by
  unfold Obligations.LiveWrites
  constructor
  · intro s m index sub b r i j hm ho hc hlen hcheck hfits
    obtain ⟨a, ha, hexec⟩ := exec_objectWrite_live hm ho hc hlen hcheck
    obtain ⟨g, hg, hact⟩ := ha s
    have hnone : s.plans.filterMap (s.liveBreaks r i j (ofLe b &&& r.mask)) = [] := List.filterMap_eq_nil_iff.mpr hfits
    have hrun : runAct a s = (g (s.livePut r i j (ofLe b &&& r.mask)), 0) := by
      simp [runAct, hact, actLive, hnone, Except.map]
    obtain ⟨hactive, hstaged, hawaiting, harmed, hout⟩ := hg (s.livePut r i j (ofLe b &&& r.mask))
    rw [hrun, answered, State.answer_zero] at hexec
    exact ⟨_, hexec, hactive, hstaged, hawaiting, harmed, replied_congr m hout⟩
  · intro s m index sub b r i j hm ho hc hlen hcheck hbreaks
    obtain ⟨a, ha, hexec⟩ := exec_objectWrite_live hm ho hc hlen hcheck
    obtain ⟨g, -, hact⟩ := ha s
    cases hl : s.plans.filterMap (s.liveBreaks r i j (ofLe b &&& r.mask)) with
    | nil =>
      obtain ⟨p, hp, hbreak⟩ := hbreaks
      exact absurd (List.filterMap_eq_nil_iff.mp hl p hp) hbreak
    | cons c l =>
      have hc' : c ∈ s.plans.filterMap (s.liveBreaks r i j (ofLe b &&& r.mask)) := hl ▸ List.mem_cons_self
      obtain ⟨p, hp, hbreak⟩ := List.mem_filterMap.mp hc'
      have hrun : runAct a s = (s, Abort.adm c) := by
        simp [runAct, hact, actLive, hl, Except.map]
      exact ⟨p, hp, c, hbreak, by rw [hexec, hrun, answered]⟩

end Sys2Proof.Machine
end

section
/-! SUPPORT. The mailbox (R43, R44): a command starts, runs while busy, and ends with its status and its event. -/

namespace Sys2Proof.Machine

variable {s t u : State} {r : Row} {i j v : Nat}

/-! ### Bytes -/

@[simp] theorem leBytes_length (v n : Nat) : (leBytes v n).length = n := by
  induction n generalizing v with
  | zero => rfl
  | succ n ih => simp [leBytes, ih]

@[simp] theorem Map.getBytes_length (m : Map Byte) (a n : Nat) : (Map.getBytes m a n).length = n := by
  induction n generalizing a with
  | zero => rfl
  | succ n ih => simp [Map.getBytes, ih]

theorem Ty.size_le (ty : Ty) : ty.size ≤ 12 := by
  cases ty <;> decide

/-! ### DOMAIN objects -/

@[simp] theorem State.dom_setDom_same (b d : List Byte) : (s.setDom r b i j).dom r i j d = b :=
  Map.get_ins_same _ _ _ _ fun p hp => by simpa using (List.mem_filter.mp hp).2

/-! ### The keys of objects -/

/-- Two objects that requests name are kept apart by their keys. -/
theorem key_ne_of_objectFor {q : Row} {index sub : Nat} (h : objectFor .host index sub = some (r, i, j)) (hsub : sub < 256)
    (hq : objectFor .host (q.key 0 0 / 256) (q.key 0 0 % 256) = some (q, 0, 0)) (hne : r ≠ q) : r.key i j ≠ q.key 0 0 := by
  intro hkey
  obtain ⟨-, hinst, -⟩ := objectFor_some h
  obtain ⟨-, -, hindex, hsubindex⟩ := Row.inst_some hinst
  have hsplit : q.key 0 0 = index * 256 + sub := by rw [← hkey, hindex, hsubindex, Row.key]
  rw [hsplit, show (index * 256 + sub) / 256 = index by omega, show (index * 256 + sub) % 256 = sub by omega, h] at hq
  simp only [Option.some.injEq, Prod.mk.injEq] at hq
  exact hne hq.1

/-! ### The start -/

/-- The host's mailbox runs a command. -/
def State.mbxStarted (s : State) (v : Nat) : State :=
  let target := s.regOf O.mbxTarget 1
  let own := match lookup (bits target 31 16) (bits target 15 8) with | some (r, _, _) => r.cls == .rw || r.host | none => false
  { s with mbx := some { cmd := v, key := target / 256, abort := 0, needsOwner := (v == 2 || v == 4 || v == 5) && !own } }.setReg
    O.mbxStatus (2 ^ 31)

/-- A command value is taken while no command runs. -/
theorem State.command_mbx (hs : Served s .host) (hidle : s.mbx = none) (hv : O.mbxCmd.checks (v &&& O.mbxCmd.mask) = true)
    (hw : v < 2 ^ O.mbxCmd.width) : s.command .host O.mbxCmd v (actMbx v) = .next (s.mbxStarted v) := by
  have hact : actMbx v s = .ok (s.mbxStarted v) := by
    rw [actMbx, if_neg (by simp [hidle])]
    rfl
  have hjudge : s.judge .host O.mbxCmd v (actMbx v) = .ok (s.mbxStarted v) := by
    have hhost : O.mbxCmd.host = true := rfl
    simp [State.judge, hhost, hv, hact, Nat.not_le.mpr hw]
  rw [State.command, State.request_ok hs hjudge]
  rfl

theorem State.mbxStarted_spec (s : State) (v : Nat) :
    (s.mbxStarted v).reg O.mbxStatus = 2 ^ 31 ∧
      (s.mbxStarted v).mbx.map (fun r => (r.cmd, r.key, r.abort)) = some (v, s.regOf O.mbxTarget 1 / 256, 0) ∧
      Effect s { s.mbxStarted v with mbx := s.mbx } [] [O.mbxStatus.key 0 0] [] := by
  have heffect : Effect s (s.setReg O.mbxStatus (2 ^ 31)) [] [O.mbxStatus.key 0 0] [] := Effect.refl.setReg List.mem_cons_self
  exact ⟨State.reg_setReg_same .., rfl, heffect⟩

/-- A command that starts leaves the master's own objects as they are. -/
theorem State.mbxStarted_regOf {i j : Nat} (hr : r.key i j + 2 ^ 24 * 1 ≠ O.mbxStatus.key 0 0) :
    (s.mbxStarted v).regOf r 1 i j = s.regOf r 1 i j := by
  have hregs : (s.mbxStarted v).regs = Map.put s.regs (O.mbxStatus.default 0 0) (O.mbxStatus.key 0 0) (2 ^ 31) := rfl
  rw [State.regOf, hregs, Map.get_put_ne _ _ _ _ hr]
  rfl

theorem State.mbxStarted_rest (s : State) (v : Nat) : ({ s.mbxStarted v with mbx := s.mbx, regs := s.regs } : State) = s := rfl

/-! ### The end -/

/-- A raise does not ask of the mailbox's command. -/
theorem State.raise_withMbxRun (u : State) (x : Option MbxRun) (e d : Nat) :
    ({ u.raise e d with mbx := x } : State) = ({ u with mbx := x } : State).raise e d := by
  rw [State.raise_eq, State.raise_eq]
  rfl

/-- A raise does not ask of the mailbox. -/
theorem State.raise_withMbx (u : State) (x : Option MbxRun) (b : Map Byte) (e d : Nat) :
    ({ u.raise e d with mbx := x, mbxData := b } : State) = ({ u with mbx := x, mbxData := b } : State).raise e d := by
  rw [State.raise_eq, State.raise_eq]
  rfl

theorem State.mbxResult_done (u : State) : u.mbxResult 0 =
    (({ u with mbx := none } : State).setReg O.mbxStatus (2 ^ 30)).raise 0x016 (2 ^ 30 + 2 ^ 32 * u.reg O.mbxAbort) := by
  have hstatus : (({ u with mbx := none } : State).setReg O.mbxStatus (2 ^ 30)).reg O.mbxStatus = 2 ^ 30 := State.reg_setReg_same ..
  have habort : (({ u with mbx := none } : State).setReg O.mbxStatus (2 ^ 30)).reg O.mbxAbort = u.reg O.mbxAbort :=
    State.reg_setReg_ne _ _ _ _ _ _ _ _ (by decide)
  simp only [State.mbxResult, if_true, hstatus, habort]

/-- A command that no end of ownership caught runs, and ends with the code that it ran to. -/
theorem exec_mbxCommandComplete_run {c : MbxRun} {code : Nat} (hc : t.mbx = some c) (hab : c.abort = 0) (hrun : t.mbxRun c.cmd = (u, code))
    (hup : u.hidden H.hostUp = 1) (hbusy : u.mbx ≠ none) : exec .mbxCommandComplete t = .next (u.mbxResult code) := by
  change execMbxCommandComplete t = _
  simp [execMbxCommandComplete, hc, hab, hrun, hup, hbusy]

/-- What the end of a command leaves of the state that it ran to. -/
theorem State.mbxResult_done_rest (u : State) : ∃ regs l, u.mbxResult 0 = { u with mbx := none, regs := regs, raises := l } := by
  rw [State.mbxResult_done, State.raise_eq]
  exact ⟨_, _, rfl⟩

theorem State.mbxResult_done_reg (u : State) (h : r.key i j ≠ O.mbxStatus.key 0 0) (hm : r.key i j ≠ mergedKey) :
    (u.mbxResult 0).reg r i j = u.reg r i j := by
  rw [State.mbxResult_done, State.reg_raise_ne _ _ _ _ _ _ hm, State.reg_setReg_ne _ _ _ _ _ _ _ _ h]
  rfl

@[simp] theorem State.mbxResult_done_status (u : State) : (u.mbxResult 0).reg O.mbxStatus = 2 ^ 30 := by
  rw [State.mbxResult_done, State.reg_raise_ne _ _ _ _ _ _ (by decide), State.reg_setReg_same]

@[simp] theorem State.mbxResult_done_mbx (u : State) : (u.mbxResult 0).mbx = none := by
  obtain ⟨_, _, h⟩ := u.mbxResult_done_rest
  rw [h]

@[simp] theorem State.mbxResult_done_mbxData (u : State) : (u.mbxResult 0).mbxData = u.mbxData := by
  obtain ⟨_, _, h⟩ := u.mbxResult_done_rest
  rw [h]

@[simp] theorem State.mbxResult_done_xfers (u : State) : (u.mbxResult 0).xfers = u.xfers := by
  obtain ⟨_, _, h⟩ := u.mbxResult_done_rest
  rw [h]

@[simp] theorem State.mbxResult_done_dom (u : State) (d : List Byte) : (u.mbxResult 0).dom r i j d = u.dom r i j d := by
  obtain ⟨_, _, h⟩ := u.mbxResult_done_rest
  rw [h]
  rfl

/-- A command that a start of the mailbox has run ends done. -/
theorem State.mbxStarted_ends {α : Type} (f : State → α) (hs : Served s .host) (hrun : (s.mbxStarted v).mbxRun v = (u, 0))
    (hhid : u.hid = s.hid) (hmbx : u.mbx = (s.mbxStarted v).mbx) :
    (s.mbxStarted v).thenDoes .mbxCommandComplete f = some (f (u.mbxResult 0)) := by
  have hup : u.hidden H.hostUp = 1 := by
    rw [State.hidden, hhid]
    simpa [State.connected, State.hidden] using hs.2
  exact State.thenDoes_of_exec f (exec_mbxCommandComplete_run rfl rfl hrun hup (by rw [hmbx]; exact Option.some_ne_none _))

/-! ### The commands -/

variable {index sub view len total : Nat}

@[simp] theorem State.mbxPut_resultLen (t : State) (b : List Byte) : (t.mbxPut b).reg O.mbxResultLen = b.length :=
  State.reg_setReg_same ..

theorem State.judgeRead_ok {form : Row → Bool} (hj : (t.judgeRead .host index sub view).toOption = some (r, i, j))
    (hform : form r = false) : t.judgeRead .host index sub view form = .ok (r, i, j) := by
  have hj' : t.judgeRead .host index sub view = .ok (r, i, j) := by
    cases h : t.judgeRead .host index sub view with
    | error c => simp [h, Except.toOption] at hj
    | ok a => simpa [h, Except.toOption] using hj
  unfold State.judgeRead at hj' ⊢
  cases ho : objectFor .host index sub with
  | none => simp [ho] at hj'
  | some x =>
    obtain ⟨q, i', j'⟩ := x
    simp only [ho] at hj' ⊢
    split_ifs at hj' with hwo hplain hview
    obtain ⟨rfl, rfl, rfl⟩ : q = r ∧ i' = i ∧ j' = j := by simpa using hj'
    simp [hwo, hform, hview]

/-- A whole value is read. -/
theorem State.mbxReadRun_ok (hj : (t.judgeRead .host index sub view).toOption = some (r, i, j))
    (hlen : (t.objBytes .host r i j view).length ≤ 2048) :
    t.mbxReadRun index sub view 0 = (t.mbxPut (t.objBytes .host r i j view), 0) := by
  simp [State.mbxReadRun, State.judgeRead_ok hj, Nat.not_lt.mpr hlen]

/-- A whole value of an OWN object without a rule of its own is written. -/
theorem State.mbxWriteRun_own (ho : t.owns .host = true) (h : objectFor .host index sub = some (r, i, j)) (hc : r.cls = .own)
    (hty : r.ty ≠ .domain) (hlen : len = r.ty.size) (hcheck : r.checks (ofLe (Map.getBytes t.mbxData 0 len) &&& r.mask) = true)
    (hacts : (systemActs .host ++ timeActs ++ pathActs).all (fun e => e.1 != r) = true) (hset : r ≠ O.tcSet) (hstep : r ≠ O.tcStep) :
    t.mbxWriteRun index sub 0 len = (t.setReg r (ofLe (Map.getBytes t.mbxData 0 len) &&& r.mask) i j, 0) := by
  have hjudge := State.judgeWrite_owner ho h (by simp [hc]) (fun h => by simp [h, O.myId] at hc)
  have happly : t.applyWrite .host r i j (Map.getBytes t.mbxData 0 len) =
      (t.setReg r (ofLe (Map.getBytes t.mbxData 0 len) &&& r.mask) i j, 0) := by
    rw [State.applyWrite_scalar hty (by simpa using hlen) hcheck, scalarAct_of_own hset hstep hc hacts]
    rfl
  simp only [State.mbxWriteRun, State.writeObject, hjudge, hty, hlen ▸ happly, hlen]
  simp

/-- The first segment of a read serves the object's first bytes, and holds its snapshot. -/
theorem State.mbxSegReadRun_first (hj : (t.judgeRead .host index sub view).toOption = some (r, i, j)) (hty : r.ty = .domain)
    (hx : t.xfers = []) (hpos : 0 < len) (hlen : len < (t.domBytes r i j).length) :
    t.mbxSegReadRun index sub view 0 len =
      (State.mbxPut
        { t.forgetEnd 1 (r.key i j) false with
          xfers := [{ master := 1, key := r.key i j, write := false, total := (t.domBytes r i j).length, data := t.domBytes r i j,
                      next := len }] }
        ((t.domBytes r i j).take len), 0) := by
  have hjudge := State.judgeRead_ok (form := fun r => r.ty != .domain) hj (by simp [hty])
  have htake : min len (t.domBytes r i j).length = len := Nat.min_eq_left hlen.le
  simp [State.mbxSegReadRun, State.xferRead, hjudge, hpos.ne', State.segServe, htake, Nat.not_le.mpr hlen, State.putXfer,
    State.dropXfer, State.forgetEnd, hx, Master.id]

/-- The owner's segment of a write of an OWN DOMAIN object is taken as its transfer has it. -/
theorem State.mbxSegWriteRun_eq (ho : t.owns .host = true) (h : objectFor .host index sub = some (r, i, j)) (hc : r.cls = .own)
    (hpos : 0 < len) (offset : Nat) (last : Bool) :
    t.mbxSegWriteRun index sub offset len total last = t.xferWrite .host index sub offset total (Map.getBytes t.mbxData 0 len) last := by
  have hjudge := State.judgeWrite_owner ho h (by simp [hc]) (fun h => by simp [h, O.myId] at hc)
  simp [State.mbxSegWriteRun, hjudge, hpos.ne']

/-- The first segment of a write opens its transfer. -/
theorem State.xferWrite_first {b : List Byte} {last : Bool} (ho : t.owns .host = true) (h : objectFor .host index sub = some (r, i, j))
    (hc : r.cls = .own) (hty : r.ty = .domain) (hx : t.xfers = []) :
    t.xferWrite .host index sub 0 total b last =
      (t.forgetEnd 1 (r.key i j) true).segTake .host r i j
        { master := 1, key := r.key i j, write := true, total := total, data := [] } b last := by
  have hjudge := State.judgeWrite_owner ho h (by simp [hc]) (fun h => by simp [h, O.myId] at hc)
  simp [State.xferWrite, hjudge, hty, hx, Master.id]

/-- A segment that is not the last joins the transfer. -/
theorem State.segTake_more (t : State) (m : Master) (r : Row) (i j : Nat) (x : Xfer) (b : List Byte) :
    t.segTake m r i j x b false = (t.putXfer { x with data := x.data ++ b }, 0) := rfl

/-- The last segment applies the whole object, as long as the transfer's total has it. -/
theorem State.segTake_last {x : Xfer} {b : List Byte} (m : Master) (hlen : (x.data ++ b).length = x.total) :
    t.segTake m r i j x b true = (t.dropXfer x.master x.key true).applyWrite m r i j (x.data ++ b) := by
  simp [State.segTake, ← hlen]

/-- A whole write of a DOMAIN object that its rule takes ends the segmented reads of the object. -/
theorem State.applyWrite_domain {m : Master} {b : List Byte} (hty : r.ty = .domain) (h : domainAct r i j b t = (u, 0)) :
    t.applyWrite m r i j b = (u.breakReads (r.key i j), 0) := by
  simp [State.applyWrite, hty, h]

/-- A coefficient image that R121 allows is loaded. -/
theorem actFirCoef_ok {n : Nat} {b : List Byte} (hwords : b.length % 4 = 0) (hpos : 0 < b.length) (hlen : b.length ≤ 384)
    (hrange : ∀ c ∈ words32 b, -131072 ≤ c ∧ c ≤ 131071) (hoff : t.anyPlan (fun p => planVal p O.ddcEnable n == 1) = false) :
    actFirCoef n b t = .ok (t.setDom O.firCoef b n) := by
  have hne : b ≠ [] := List.ne_nil_of_length_pos hpos
  have hin : (words32 b).any (fun c => decide (c < -131072 ∨ 131071 < c)) = false :=
    List.any_eq_false.mpr fun c hc => by
      have := hrange c hc
      simp only [decide_eq_true_eq]
      omega
  simp only [actFirCoef, hwords, hin, hoff, Nat.not_lt.mpr hlen]
  simp [hne]

theorem State.applyWrite_firCoef {m : Master} {n : Nat} {b : List Byte} (hact : actFirCoef n b t = .ok u) :
    t.applyWrite m O.firCoef n 0 b = (u.breakReads (O.firCoef.key n 0), 0) := by
  refine State.applyWrite_domain rfl ?_
  rw [domainAct, if_neg (by decide), if_neg (by decide), if_pos rfl, runAct, hact]

theorem State.applyWrite_xoTcTable {m : Master} {b : List Byte} (hlen : b.length = 704) :
    t.applyWrite m O.xoTcTable 0 0 b = ((t.setDom O.xoTcTable b).breakReads (O.xoTcTable.key 0 0), 0) := by
  refine State.applyWrite_domain rfl ?_
  rw [domainAct, if_neg (by decide), if_pos rfl, runAct, actXoTable, if_neg (by simpa using hlen)]

/-- The last segment of a write that its transfer waits for is taken. -/
theorem State.xferWrite_next {x : Xfer} {m : Master} {b : List Byte} {last : Bool} (hj : t.judgeWrite m index sub = .ok (r, i, j))
    (hty : r.ty = .domain) (hx : t.xfer m.id (r.key i j) true = some x) (hpos : x.data ≠ []) :
    t.xferWrite m index sub x.data.length total b last = t.segTake m r i j x b last := by
  simp [State.xferWrite, hj, hty, hx, hpos]

/-- The first segment of a write of an OWN object opens its transfer. -/
theorem State.mbxSegWriteRun_first (ho : t.owns .host = true) (h : objectFor .host index sub = some (r, i, j)) (hc : r.cls = .own)
    (hty : r.ty = .domain) (hpos : 0 < len) (hx : t.xfers = []) :
    t.mbxSegWriteRun index sub 0 len total false =
      ({ t.forgetEnd 1 (r.key i j) true with
         xfers := [{ master := 1, key := r.key i j, write := true, total := total, data := Map.getBytes t.mbxData 0 len }] }, 0) := by
  rw [State.mbxSegWriteRun_eq ho h hc hpos, State.xferWrite_first ho h hc hty hx, State.segTake_more]
  simp [State.putXfer, State.dropXfer, State.forgetEnd, hx]

/-- A write of `FIR_COEF` in one segment loads the image that R121 allows. -/
theorem State.mbxSegWriteRun_firCoef {n : Nat} (ho : t.owns .host = true) (h : objectFor .host index sub = some (O.firCoef, n, 0))
    (hpos : 0 < len) (hx : t.xfers = []) (hwords : len % 4 = 0) (hmax : len ≤ 384)
    (hrange : ∀ c ∈ words32 (Map.getBytes t.mbxData 0 len), -131072 ≤ c ∧ c ≤ 131071)
    (hoff : t.anyPlan (fun p => planVal p O.ddcEnable n == 1) = false) :
    t.mbxSegWriteRun index sub 0 len len true =
      ((t.forgetEnd 1 (O.firCoef.key n 0) true).setDom O.firCoef (Map.getBytes t.mbxData 0 len) n, 0) := by
  have hload : actFirCoef n (Map.getBytes t.mbxData 0 len) (t.forgetEnd 1 (O.firCoef.key n 0) true) =
      .ok ((t.forgetEnd 1 (O.firCoef.key n 0) true).setDom O.firCoef (Map.getBytes t.mbxData 0 len) n) :=
    actFirCoef_ok (by simpa using hwords) (by simpa using hpos) (by simpa using hmax) hrange hoff
  have hdrop : (t.forgetEnd 1 (O.firCoef.key n 0) true).dropXfer 1 (O.firCoef.key n 0) true = t.forgetEnd 1 (O.firCoef.key n 0) true := by
    simp [State.dropXfer, State.forgetEnd, hx]
  rw [State.mbxSegWriteRun_eq ho h rfl hpos, State.xferWrite_first ho h rfl rfl hx, State.segTake_last _ (by simp), hdrop, List.nil_append,
    State.applyWrite_firCoef hload]
  simp [State.breakReads, State.forgetEnd, hx, State.setDom]

/-- The last segment of a write of `XO_TC_TABLE` loads the whole table. -/
theorem State.mbxSegWriteRun_xoTcTable {x : Xfer} (ho : t.owns .host = true) (h : objectFor .host index sub = some (O.xoTcTable, 0, 0))
    (hpos : 0 < len) (hx : t.xfers = [x]) (hm : x.master = 1) (hk : x.key = O.xoTcTable.key 0 0) (hw : x.write = true) (hne : x.data ≠ [])
    (hlen : x.data.length + len = 704) (htotal : x.total = 704) :
    t.mbxSegWriteRun index sub x.data.length len total true =
      (({ t with xfers := [] } : State).setDom O.xoTcTable (x.data ++ Map.getBytes t.mbxData 0 len), 0) := by
  have hfound : t.xfer Master.host.id (O.xoTcTable.key 0 0) true = some x := by
    simp [State.xfer, hx, hm, hk, hw, Master.id]
  have hjudge : t.judgeWrite .host index sub = .ok (O.xoTcTable, 0, 0) := State.judgeWrite_owner ho h (by decide) (by decide)
  have hdrop : t.dropXfer x.master x.key true = { t with xfers := [] } := by
    simp [State.dropXfer, hx, hw]
  rw [State.mbxSegWriteRun_eq ho h rfl hpos, State.xferWrite_next hjudge rfl hfound hne,
    State.segTake_last _ (by simpa [htotal] using hlen), hdrop, State.applyWrite_xoTcTable (by simpa using hlen)]
  rfl

/-- What the end of ownership caught ends with its code. -/
theorem exec_mbxCommandComplete_aborted {c : MbxRun} (hc : s.mbx = some c) (hab : c.abort ≠ 0) (hup : s.hidden H.hostUp = 1) :
    exec .mbxCommandComplete s = .next (s.mbxResult c.abort) := by
  change execMbxCommandComplete s = _
  simp [execMbxCommandComplete, hc, hab, hup]

theorem State.mbxResult_refused {code : Nat} (hcode : code ≠ 0) (u : State) : u.mbxResult code =
    ((({ u with mbx := none } : State).setReg O.mbxStatus (2 ^ 29)).setReg O.mbxAbort code).raise 0x016 (2 ^ 29 + 2 ^ 32 * code) := by
  have hstatus : ((({ u with mbx := none } : State).setReg O.mbxStatus (2 ^ 29)).setReg O.mbxAbort code).reg O.mbxStatus = 2 ^ 29 := by
    rw [State.reg_setReg_ne _ _ _ _ _ _ _ _ (by decide), State.reg_setReg_same]
  have habort : ((({ u with mbx := none } : State).setReg O.mbxStatus (2 ^ 29)).setReg O.mbxAbort code).reg O.mbxAbort = code :=
    State.reg_setReg_same ..
  simp only [State.mbxResult, hcode, if_false, hstatus, habort]

section
variable (s : State)

@[simp] theorem State.mbxStarted_target : (s.mbxStarted v).regOf O.mbxTarget 1 = s.regOf O.mbxTarget 1 := State.mbxStarted_regOf (by decide)
@[simp] theorem State.mbxStarted_offset : (s.mbxStarted v).regOf O.mbxOffset 1 = s.regOf O.mbxOffset 1 := State.mbxStarted_regOf (by decide)
@[simp] theorem State.mbxStarted_length : (s.mbxStarted v).regOf O.mbxLength 1 = s.regOf O.mbxLength 1 := State.mbxStarted_regOf (by decide)
@[simp] theorem State.mbxStarted_total : (s.mbxStarted v).regOf O.mbxTotal 1 = s.regOf O.mbxTotal 1 := State.mbxStarted_regOf (by decide)

theorem State.mbxStarted_read : (s.mbxStarted 1).mbxRun 1 = (s.mbxStarted 1).mbxReadRun (bits (s.regOf O.mbxTarget 1) 31 16)
    (bits (s.regOf O.mbxTarget 1) 15 8) (s.regOf O.mbxTarget 1 % 2) (s.regOf O.mbxOffset 1) := by
  simp only [State.mbxRun, State.mbxStarted_target, State.mbxStarted_offset]

theorem State.mbxStarted_write : (s.mbxStarted 2).mbxRun 2 = (s.mbxStarted 2).mbxWriteRun (bits (s.regOf O.mbxTarget 1) 31 16)
    (bits (s.regOf O.mbxTarget 1) 15 8) (s.regOf O.mbxOffset 1) (s.regOf O.mbxLength 1) := by
  simp only [State.mbxRun, State.mbxStarted_target, State.mbxStarted_offset, State.mbxStarted_length]

theorem State.mbxStarted_segRead : (s.mbxStarted 3).mbxRun 3 = (s.mbxStarted 3).mbxSegReadRun (bits (s.regOf O.mbxTarget 1) 31 16)
    (bits (s.regOf O.mbxTarget 1) 15 8) (s.regOf O.mbxTarget 1 % 2) (s.regOf O.mbxOffset 1) (s.regOf O.mbxLength 1) := by
  simp only [State.mbxRun, State.mbxStarted_target, State.mbxStarted_offset, State.mbxStarted_length]

theorem State.mbxStarted_segWrite : (s.mbxStarted 4).mbxRun 4 = (s.mbxStarted 4).mbxSegWriteRun (bits (s.regOf O.mbxTarget 1) 31 16)
    (bits (s.regOf O.mbxTarget 1) 15 8) (s.regOf O.mbxOffset 1) (s.regOf O.mbxLength 1) (s.regOf O.mbxTotal 1) false := by
  simp only [State.mbxRun, State.mbxStarted_target, State.mbxStarted_offset, State.mbxStarted_length, State.mbxStarted_total]

theorem State.mbxStarted_segWriteLast : (s.mbxStarted 5).mbxRun 5 = (s.mbxStarted 5).mbxSegWriteRun (bits (s.regOf O.mbxTarget 1) 31 16)
    (bits (s.regOf O.mbxTarget 1) 15 8) (s.regOf O.mbxOffset 1) (s.regOf O.mbxLength 1) (s.regOf O.mbxTotal 1) true := by
  simp only [State.mbxRun, State.mbxStarted_target, State.mbxStarted_offset, State.mbxStarted_length, State.mbxStarted_total]

theorem State.mbxStarted_abort : (s.mbxStarted 6).mbxRun 6 = (s.mbxStarted 6).mbxAbortRun (bits (s.regOf O.mbxTarget 1) 31 16)
    (bits (s.regOf O.mbxTarget 1) 15 8) := by
  simp only [State.mbxRun, State.mbxStarted_target]

end

theorem State.mbxStarted_owns (h : s.owns .host = true) : (s.mbxStarted v).owns .host = true := by
  rw [← h]
  exact congrArg (· == _) (State.reg_setReg_ne _ _ _ _ _ _ _ _ (by decide))

/-- What a whole read changes. -/
theorem State.mbxRead_effect (s : State) (b : List Byte) :
    Effect s { (s.mbxPut b).mbxResult 0 with mbx := s.mbx, mbxData := s.mbxData } [(0x016, 2 ^ 30 + 2 ^ 32 * s.reg O.mbxAbort)]
      [O.mbxResultLen.key 0 0, O.mbxStatus.key 0 0] [] := by
  have hwrites : Effect s ((s.setReg O.mbxResultLen b.length).setReg O.mbxStatus (2 ^ 30)) []
      [O.mbxResultLen.key 0 0, O.mbxStatus.key 0 0] [] := (Effect.refl.setReg (by simp)).setReg (by simp)
  have habort : (s.mbxPut b).reg O.mbxAbort = s.reg O.mbxAbort := State.reg_setReg_ne _ _ _ _ _ _ _ _ (by decide)
  rw [State.mbxResult_done, habort, State.raise_withMbx]
  exact hwrites.raise _ _ (by decide)

/-- What a refused command changes. -/
theorem State.mbxRefused_spec {code : Nat} (hcode : code ≠ 0) (s : State) :
    (s.mbxResult code).mbx = none ∧ (s.mbxResult code).reg O.mbxStatus = 2 ^ 29 ∧ (s.mbxResult code).reg O.mbxAbort = code ∧
      Effect s { s.mbxResult code with mbx := s.mbx } [(0x016, 2 ^ 29 + 2 ^ 32 * code)] [O.mbxStatus.key 0 0, O.mbxAbort.key 0 0] [] := by
  have hwrites : Effect s ((s.setReg O.mbxStatus (2 ^ 29)).setReg O.mbxAbort code) [] [O.mbxStatus.key 0 0, O.mbxAbort.key 0 0] [] :=
    (Effect.refl.setReg (by simp)).setReg (by simp)
  rw [State.mbxResult_refused hcode]
  refine ⟨State.raise_mbx .., ?_, ?_, ?_⟩
  · rw [State.reg_raise_ne _ _ _ _ _ _ (by decide), State.reg_setReg_ne _ _ _ _ _ _ _ _ (by decide), State.reg_setReg_same]
  · rw [State.reg_raise_ne _ _ _ _ _ _ (by decide), State.reg_setReg_same]
  · rw [State.raise_withMbxRun]
    exact hwrites.raise _ _ (by decide)

/-- Settles O5: a command starts as `mbxStarted` has it, runs as its segment, read or write does, and ends by `mbxResult`. -/
theorem mailboxCommands : Obligations.MailboxCommands := by
  unfold Obligations.MailboxCommands
  refine ⟨?_, ?_, ?_, ?_, ?_, ?_, ?_, ?_, ?_, ?_, ?_, ?_, ?_, ?_, ?_, ?_⟩
  · exact fun s hs hidle => ⟨_, State.command_mbx hs hidle (by decide) (by decide), s.mbxStarted_spec 1⟩
  · exact fun s hs hidle => ⟨_, State.command_mbx hs hidle (by decide) (by decide), s.mbxStarted_spec 2⟩
  · exact fun s hs hidle => ⟨_, State.command_mbx hs hidle (by decide) (by decide), s.mbxStarted_spec 3⟩
  · exact fun s hs hidle => ⟨_, State.command_mbx hs hidle (by decide) (by decide), s.mbxStarted_spec 4⟩
  · exact fun s hs hidle => ⟨_, State.command_mbx hs hidle (by decide) (by decide), s.mbxStarted_spec 5⟩
  · exact fun s hs hidle => ⟨_, State.command_mbx hs hidle (by decide) (by decide), s.mbxStarted_spec 6⟩
  · intro s r i j hs hidle hj hty hoff
    have hlen : ((s.mbxStarted 1).objBytes .host r i j (s.regOf O.mbxTarget 1 % 2)).length = r.ty.size := by
      simp [State.objBytes, hty]
    have hrun := s.mbxStarted_read
    rw [hoff, State.mbxReadRun_ok (t := s.mbxStarted 1) hj (by rw [hlen]; exact r.ty.size_le.trans (by decide))] at hrun
    refine ⟨_, State.command_mbx hs hidle (by decide) (by decide), ?_, s.mbxStarted_rest 1⟩
    rw [State.mbxStarted_ends _ hs hrun rfl rfl, State.mbxResult_done_status, State.mbxResult_done_mbxData,
      State.mbxResult_done_reg _ (by decide) (by decide), State.mbxPut_resultLen, hlen]
    rfl
  · intro s r i j hs hidle ho hc hty hlen hoff hcheck hacts hset hstep
    have hsub : bits (s.regOf O.mbxTarget 1) 15 8 < 256 := Nat.mod_lt _ (by decide)
    have hstatus : r.key i j ≠ O.mbxStatus.key 0 0 :=
      key_ne_of_objectFor ho hsub (by decide +kernel) (fun h => by simp [h, O.mbxStatus] at hc)
    have hmerged : r.key i j ≠ mergedKey :=
      key_ne_of_objectFor ho hsub (by decide +kernel) (fun h => by simp [h, O.evMerged] at hc)
    have hrun := s.mbxStarted_write
    rw [hoff, State.mbxWriteRun_own (State.mbxStarted_owns hs.2.2) ho hc hty hlen hcheck hacts hset hstep] at hrun
    refine ⟨_, State.command_mbx hs.served hidle (by decide) (by decide), ?_, s.mbxStarted_rest 2⟩
    rw [State.mbxStarted_ends _ hs.served hrun rfl rfl, State.mbxResult_done_status,
      State.mbxResult_done_reg _ hstatus hmerged, State.reg_setReg_same]
    rfl
  · intro s r i j hs hidle hj hty hoff hpos hlen hx
    have hrun := s.mbxStarted_segRead
    rw [hoff, State.mbxSegReadRun_first (t := s.mbxStarted 3) hj hty hx hpos hlen] at hrun
    refine ⟨_, State.command_mbx hs hidle (by decide) (by decide), ?_, s.mbxStarted_rest 3⟩
    rw [State.mbxStarted_ends _ hs hrun rfl rfl, State.mbxResult_done_status, State.mbxResult_done_mbxData, State.mbxResult_done_xfers,
      State.mbxResult_done_reg _ (by decide) (by decide), State.mbxPut_resultLen, List.length_take, Nat.min_eq_left]
    · rfl
    · exact hlen.le
  · intro s r i j hs hidle ho hty hc hoff hpos hx
    have hrun := s.mbxStarted_segWrite
    rw [hoff, State.mbxSegWriteRun_first (State.mbxStarted_owns hs.2.2) ho hc hty hpos hx] at hrun
    refine ⟨_, State.command_mbx hs.served hidle (by decide) (by decide), ?_, s.mbxStarted_rest 4⟩
    rw [State.mbxStarted_ends _ hs.served hrun rfl rfl, State.mbxResult_done_status, State.mbxResult_done_xfers]
    rfl
  · intro s sl hs hidle ho hoff hpos hlen hx hwords hmax hrange hplan
    have hrun := s.mbxStarted_segWriteLast
    rw [hoff, ← hlen, State.mbxSegWriteRun_firCoef (t := s.mbxStarted 5) (State.mbxStarted_owns hs.2.2) ho hpos hx hwords hmax
      hrange hplan] at hrun
    refine ⟨_, State.command_mbx hs.served hidle (by decide) (by decide), ?_, s.mbxStarted_rest 5⟩
    rw [State.mbxStarted_ends _ hs.served hrun rfl rfl, State.mbxResult_done_status, State.mbxResult_done_xfers, State.mbxResult_done_dom,
      State.dom_setDom_same, ← hx]
    rfl
  · intro s x hs hidle ho hx hm hk hw hoff hne hlen htotal hpos
    have hrun := s.mbxStarted_segWriteLast
    rw [hoff, State.mbxSegWriteRun_xoTcTable (t := s.mbxStarted 5) (State.mbxStarted_owns hs.2.2) ho hpos hx hm hk hw hne hlen
      htotal] at hrun
    refine ⟨_, State.command_mbx hs.served hidle (by decide) (by decide), ?_, s.mbxStarted_rest 5⟩
    rw [State.mbxStarted_ends _ hs.served hrun rfl rfl, State.mbxResult_done_status, State.mbxResult_done_xfers, State.mbxResult_done_dom,
      State.dom_setDom_same]
    rfl
  · intro s r i j hs hidle ho
    have hrun := s.mbxStarted_abort
    rw [State.mbxAbortRun, ho] at hrun
    refine ⟨_, State.command_mbx hs hidle (by decide) (by decide), ?_, s.mbxStarted_rest 6⟩
    rw [State.mbxStarted_ends _ hs hrun rfl rfl, State.mbxResult_done_status, State.mbxResult_done_xfers]
    rfl
  · intro s c r i j hc hcmd hab hup hoff hj hlen
    have hrun : s.mbxRun c.cmd = (s.mbxPut (({ s with mbx := none } : State).objBytes .host r i j (s.regOf O.mbxTarget 1 % 2)), 0) := by
      simp only [State.mbxRun, hcmd, hoff]
      exact State.mbxReadRun_ok hj hlen
    generalize ({ s with mbx := none } : State).objBytes .host r i j (s.regOf O.mbxTarget 1 % 2) = b at hrun hlen ⊢
    refine ⟨_, exec_mbxCommandComplete_run hc hab hrun hup (by simp [State.mbxPut, hc]), State.mbxResult_done_mbx ..,
      State.mbxResult_done_mbxData .., ?_, State.mbxResult_done_status .., ?_⟩
    · rw [State.mbxResult_done_reg _ (by decide) (by decide), State.mbxPut_resultLen]
    · exact s.mbxRead_effect b
  · intro s c hc hab hup
    exact ⟨_, exec_mbxCommandComplete_aborted hc hab hup, s.mbxRefused_spec hab⟩
  · intro s m index sub
    exact ⟨s.abandonXfer m.id (index * 256 + sub), rfl, rfl, rfl, Effect.refl⟩
end Sys2Proof.Machine
end

section
/-! SUPPORT. What lies behind the slices and leaves their chains alone: capture contexts, triggers, streams, engines' sources. A group
reset goes through all of it (R113, R115, R134, R158, R166), and what it states of the slices stands because none of it is written there. -/

namespace Sys2Proof.Machine

variable {s t : State} {l : List Nat} {r : Row} {i j v n m : Nat}

/-! ### What is kept -/

/-- What a group reset shows and goes by beside the slices themselves. -/
def State.groupView (s : State) : Store × List (Nat × Nat) × Nat × Nat × Nat × Nat × Nat :=
  (s.active, s.lag, s.idx, s.hidden H.syncDue, s.reg O.groupSyncSeq, s.reg O.groupLastT96, s.reg O.groupLastCause)

/-- What a slice shows of its last reset: `SYNC_SEQ`, `LAST_SYNC_INDEX`, its state, and the start, output number and tunes of its chain. -/
def State.syncView (s : State) (m : Nat) : Nat × Nat × Nat × Nat × Nat × List Tune :=
  (s.reg O.syncSeq m, s.reg O.lastSyncIndex m, s.reg O.ddcState m, (s.slice m).nSync, (s.slice m).q, (s.slice m).tunes)

/-- Nothing of a group reset is touched but the slices named. -/
def Keeps (l : List Nat) (s t : State) : Prop :=
  t.groupView = s.groupView ∧ ∀ m < 32, m ∉ l → t.syncView m = s.syncView m

theorem Keeps.refl : Keeps l s s := ⟨rfl, fun _ _ _ => rfl⟩

theorem Keeps.trans {u : State} (h : Keeps l s t) (h' : Keeps l t u) : Keeps l s u :=
  ⟨h'.1.trans h.1, fun m hm hl => (h'.2 m hm hl).trans (h.2 m hm hl)⟩

theorem Keeps.mono {l' : List Nat} (h : Keeps l s t) (hl : ∀ m ∈ l, m ∈ l') : Keeps l' s t :=
  ⟨h.1, fun m hm hm' => h.2 m hm fun hin => hm' (hl m hin)⟩

theorem Keeps.ite {p : Prop} [Decidable p] {a b : State} (ha : Keeps l s a) (hb : Keeps l s b) : Keeps l s (if p then a else b) := by
  split
  · exact ha
  · exact hb

theorem Keeps.foldl {α : Type} {f : State → α → State} (h : Keeps l s t) (hf : ∀ u a, Keeps l s u → Keeps l s (f u a))
    (as : List α) : Keeps l s (as.foldl f t) :=
  as.foldlRecOn f (motive := Keeps l s) h fun u hu a _ => hf u a hu

/-! ### Writes -/

/-- An object of another index and subindex than those that a group reset shows. -/
def Aside (l : List Nat) (k : Nat) : Prop :=
  (∀ q ∈ [O.groupSyncSeq, O.groupLastT96, O.groupLastCause], q.key 0 0 ≠ k) ∧
  ∀ q ∈ [O.syncSeq, O.lastSyncIndex, O.ddcState], ∀ m < 32, m ∉ l → q.key m 0 ≠ k

theorem Keeps.setReg_of (h : Keeps l s t) (hk : Aside l (r.key i j)) : Keeps l s (t.setReg r v i j) := by
  obtain ⟨hgroup, hslice⟩ := hk
  simp only [List.forall_mem_cons, List.not_mem_nil, false_implies, implies_true, and_true] at hgroup hslice
  obtain ⟨hseq, ht96, hcause⟩ := hgroup
  obtain ⟨hsync, hindex, hstate⟩ := hslice
  refine ⟨h.1 ▸ ?_, fun m hm hl => h.2 m hm hl ▸ ?_⟩
  · simp only [State.groupView, State.reg_setReg_ne _ _ _ _ _ _ _ _ hseq, State.reg_setReg_ne _ _ _ _ _ _ _ _ ht96,
      State.reg_setReg_ne _ _ _ _ _ _ _ _ hcause]
    rfl
  · simp only [State.syncView, State.reg_setReg_ne _ _ _ _ _ _ _ _ (hsync m hm hl), State.reg_setReg_ne _ _ _ _ _ _ _ _ (hindex m hm hl),
      State.reg_setReg_ne _ _ _ _ _ _ _ _ (hstate m hm hl)]
    rfl

theorem aside_of_ge (h : 0x180000 ≤ i) : Aside l i := by
  constructor
  · intro q hq
    have hlt : q.key 0 0 < 0x180000 := by revert q; decide
    omega
  · intro q hq m hm _
    have hlt : ∀ q ∈ [O.syncSeq, O.lastSyncIndex, O.ddcState], ∀ m < 32, q.key m 0 < 0x180000 := by decide +kernel
    have := hlt q hq m hm
    omega

/-- The objects behind the slices stand at higher indices than theirs. -/
theorem Row.aside (h : 0x1800 ≤ r.idx) : Aside l (r.key i j) :=
  aside_of_ge (by unfold Row.key; omega)

theorem Keeps.setReg (h : Keeps l s t) (hr : 0x1800 ≤ r.idx := by decide) : Keeps l s (t.setReg r v i j) := h.setReg_of (Row.aside hr)

theorem Keeps.bump (h : Keeps l s t) (hr : 0x1800 ≤ r.idx := by decide) : Keeps l s (t.bump r i j n) := h.setReg hr

theorem Keeps.bumpSat (h : Keeps l s t) (hr : 0x1800 ≤ r.idx := by decide) : Keeps l s (t.bumpSat r i j n) := h.setReg hr

theorem Keeps.setHidden (h : Keeps l s t) (hn : hkey n i ≠ hkey H.syncDue) : Keeps l s (t.setHidden n v i) := by
  refine ⟨h.1 ▸ ?_, h.2⟩
  simp only [State.groupView, State.hidden_setHidden_ne _ _ _ _ _ _ hn.symm]
  rfl

theorem mergedKey_aside : Aside l mergedKey := by
  have hslice : ∀ q ∈ [O.syncSeq, O.lastSyncIndex, O.ddcState], ∀ m < 32, q.key m 0 ≠ mergedKey := by decide +kernel
  exact ⟨by decide, fun q hq m hm _ => hslice q hq m hm⟩

theorem Keeps.raise {e d : Nat} (h : Keeps l s t) : Keeps l s (t.raise e d) := by
  unfold State.raise
  split
  · exact Keeps.setReg_of (t := { t with raises := _ }) h mergedKey_aside
  · exact h

theorem Keeps.raiseRare {e d : Nat} (h : Keeps l s t) (he : e < 2 ^ 20) : Keeps l s (t.raiseRare e d) := by
  have hrare : Keeps l s (t.setHidden H.rare (t.up + 1) e) := h.setHidden (by simp only [hkey, H.rare, H.syncDue]; omega)
  exact Keeps.ite hrare.raise hrare

/-! The units' own memories. -/

theorem Keeps.emit {o : Out} (h : Keeps l s t) : Keeps l s (t.emit o) := h
theorem Keeps.setCtx {c : Nat} {x : Ctx} (h : Keeps l s t) : Keeps l s (t.setCtx c x) := h
theorem Keeps.setTrig {u : Nat} {x : Trig} (h : Keeps l s t) : Keeps l s (t.setTrig u x) := h
theorem Keeps.setStream {x : Stream} (h : Keeps l s t) : Keeps l s (t.setStream n x) := h
theorem Keeps.setNvSet {x : NvSet} (h : Keeps l s t) : Keeps l s (t.setNvSet n x) := h
theorem Keeps.setEngSrc {e : Nat} {x : EngSrc} (h : Keeps l s t) : Keeps l s (t.setEngSrc e n x) := h
theorem Keeps.setDnGroups {x : List Group} (h : Keeps l s t) : Keeps l s (t.setDnGroups n x) := h
theorem Keeps.setSgLines {x : List Line} (h : Keeps l s t) : Keeps l s (t.setSgLines n x) := h
theorem Keeps.withNvCmds {x : List NvCmd} (h : Keeps l s t) : Keeps l s { t with nvCmds := x } := h
theorem Keeps.setPoison {b : Bool} (h : Keeps l s t) : Keeps l s (t.setPoison n b) := h

/-! ### DRAM -/

theorem Keeps.writeLines (h : Keeps l s t) (a : Nat) (bs : List Byte) : Keeps l s (t.writeLines n a bs) := by
  induction n generalizing t a bs with
  | zero => exact h
  | succ n ih =>
    cases bs with
    | nil => exact h
    | cons b bs =>
      refine ih ?_ _ _
      unfold State.writeLine
      exact Keeps.ite (Keeps.ite h h) h

theorem Keeps.writeMem (h : Keeps l s t) {a : Nat} {bs : List Byte} : Keeps l s (t.writeMem a bs) := h.writeLines a bs

theorem Keeps.portBytes (h : Keeps l s t) {port : Nat} : Keeps l s (t.portBytes port n) := h.bump

theorem Keeps.writeRing (h : Keeps l s t) {port base size off : Nat} {bs : List Byte} :
    Keeps l s (t.writeRing port base size off bs).1 := by
  unfold State.writeRing
  split
  · exact h
  · exact Keeps.ite h.writeMem.portBytes.writeMem h.writeMem.portBytes

theorem Keeps.readPort (h : Keeps l s t) {port a : Nat} : Keeps l s (t.readPort port a n).2.2 :=
  (h.foldl (fun _ _ hu => hu.bumpSat.raiseRare (by decide)) _).portBytes

/-! ### Drive sets -/

theorem Keeps.nvFlush (h : Keeps l s t) {d c : Nat} : Keeps l s (t.nvFlush d c) := h

theorem Keeps.nvCatPut (h : Keeps l s t) {d st total : Nat} : Keeps l s (t.nvCatPut d st total) := by
  have hput {x : NvSet} {o : Out} : Keeps l s ((t.emit o).setNvSet d x) := h.emit.setNvSet
  unfold State.nvCatPut
  dsimp only
  split
  · exact hput.nvFlush
  · exact hput

theorem Keeps.nvCatDone (h : Keeps l s t) {d : Nat} : Keeps l s (t.nvCatDone d) := by
  unfold State.nvCatDone
  dsimp only
  split
  · exact h
  · exact (Keeps.ite h.setNvSet.setReg h.setNvSet).setReg.setReg

theorem Keeps.nvCatalogue (h : Keeps l s t) {d st : Nat} : Keeps l s (t.nvCatalogue d st) := by
  unfold State.nvCatalogue State.nvCatStep State.nvFlushAll
  have hflush : Keeps l s (((t.setNvSet d { t.nvSet d with cat := some ⟨st, t.nvDone d, false⟩ }).nvSet d).run.members.foldl
      (fun s q => s.nvFlush d (nvCtrlOf q)) (t.setNvSet d { t.nvSet d with cat := some ⟨st, t.nvDone d, false⟩ })) :=
    h.setNvSet.foldl (fun _ _ hu => hu.nvFlush) _
  refine Keeps.ite hflush ?_
  split
  · exact hflush
  · exact Keeps.ite hflush.nvCatDone hflush.nvCatPut

theorem Keeps.nvSubmit (h : Keeps l s t) {d len : Nat} : Keeps l s (t.nvSubmit d n len) := by
  unfold State.nvSubmit
  exact Keeps.setReg (Keeps.withNvCmds (Keeps.setNvSet (h.foldl (fun _ _ hu => hu.emit) _)))

theorem Keeps.nvDrain (h : Keeps l s t) {d : Nat} (fuel : Nat) : Keeps l s (t.nvDrain d n fuel) := by
  induction fuel generalizing t with
  | zero => exact h
  | succ f ih => exact Keeps.ite h (Keeps.ite h (ih h.setStream.nvSubmit))

theorem Keeps.stEvent (h : Keeps l s t) {k : Nat} : Keeps l s (t.stEvent n k) := h.raise

theorem Keeps.nvFull (h : Keeps l s t) {d : Nat} : Keeps l s (t.nvFull d) := by
  unfold State.nvFull
  split
  · exact h
  · exact Keeps.ite h.setReg.setReg.setStream.nvCatalogue.stEvent h

theorem Keeps.nvPush (h : Keeps l s t) {x : StRec} : Keeps l s (t.nvPush n x) := (h.setNvSet.setStream.nvDrain _).nvFull

/-! ### Streams -/

theorem Keeps.streamLost (h : Keeps l s t) {k : Nat} (hn : n < 32) : Keeps l s (t.streamLost n k) :=
  h.bumpSat.setStream.raiseRare (by omega)

theorem Keeps.readBack (h : Keeps l s t) {x : StRec} : Keeps l s (t.readBack n x).2 := by
  unfold State.readBack
  dsimp only
  split
  · exact h
  · exact h.readPort.readPort

theorem Keeps.hostPut (h : Keeps l s t) {bs : List Byte} : Keeps l s (t.hostPut n bs) := by
  unfold State.hostPut
  have hring {p q : Prop} [Decidable p] [Decidable q] {a b c d e : Out} :
      Keeps l s (if p then t.emit a else if q then (t.emit b).emit c else (t.emit d).emit e) :=
    Keeps.ite h.emit (Keeps.ite h.emit.emit h.emit.emit)
  exact Keeps.ite (Keeps.stEvent (Keeps.setStream (Keeps.bump (Keeps.emit hring)))) (Keeps.setStream (Keeps.bump (Keeps.emit hring)))

theorem Keeps.streamDrain (h : Keeps l s t) (fuel : Nat) : Keeps l s (t.streamDrain n fuel) := by
  induction fuel generalizing t with
  | zero => exact h
  | succ f ih =>
    unfold State.streamDrain
    split
    · exact Keeps.ite h.setReg h
    · split
      · exact Keeps.ite (ih h.readBack.setStream.hostPut) (Keeps.ite h.setReg.stEvent h)
      · exact Keeps.ite (ih (Keeps.nvPush (Keeps.bump h.readBack.setStream))) h
      · exact h

theorem Keeps.streamOut (h : Keeps l s t) : Keeps l s (t.streamOut n) := h.streamDrain _

theorem Keeps.stage (h : Keeps l s t) {x : StRec} (hn : n < 32) : Keeps l s (t.stage n x) := by
  have hturn : Keeps l s (t.setHidden H.turn (t.hidden H.turn + 1)) := h.setHidden (by decide)
  unfold State.stage
  dsimp only
  split
  · exact Keeps.ite (hturn.streamLost hn) (Keeps.streamOut (Keeps.setStream hturn.writeRing))
  · exact Keeps.ite (Keeps.streamLost (Keeps.setStream (Keeps.streamOut hturn.setStream)) hn) (Keeps.streamOut hturn.setStream)

theorem Keeps.streamTake (h : Keeps l s t) {x : Item} (hn : n < 32) : Keeps l s (t.streamTake n x) := by
  unfold State.streamTake
  split
  · exact h.stage hn
  · exact h.setStream
  · exact h

theorem Keeps.foldRange {f : State → Nat → State} {k : Nat} (h : Keeps l s t)
    (hf : ∀ u, ∀ a < k, Keeps l s u → Keeps l s (f u a)) : Keeps l s ((List.range k).foldl f t) :=
  (List.range k).foldlRecOn f (motive := Keeps l s) h fun u hu a ha => hf u a (List.mem_range.mp ha) hu

theorem Keeps.streamItem (h : Keeps l s t) {kind src : Nat} {x : Item} : Keeps l s (t.streamItem kind src x) :=
  h.foldRange fun _ _ hn hu => Keeps.ite (hu.streamTake hn) hu

theorem Keeps.vdifItem (h : Keeps l s t) {kind src hdr w : Nat} {bad : Bool} {time : Nat → Nat} {x : Item} :
    Keeps l s (t.vdifItem kind src hdr w bad time x) := by
  refine h.foldRange fun u n _ hu => Keeps.ite ?_ hu
  dsimp only
  split
  · exact hu.setStream
  · exact hu

theorem Keeps.vdifRestart (h : Keeps l s t) {kind src at_ : Nat} : Keeps l s (t.vdifRestart kind src at_) :=
  h.foldRange fun _ _ _ hu => Keeps.ite hu.setStream hu

/-! ### Capture contexts -/

theorem Keeps.segPlace (h : Keeps l s t) {c stop : Nat} {truncated : Bool} : Keeps l s (t.segPlace c stop truncated) := by
  have hplace {x : Ctx} {k : Nat} {v : Nat} : Keeps l s ((((t.aqPush c k).setCtx c x).setReg O.aqWritePtr v c).bump O.aqSegSeq c) :=
    Keeps.bump (Keeps.setReg (Keeps.setCtx h.setCtx))
  exact Keeps.ite hplace.raise hplace

theorem Keeps.ctxCut (h : Keeps l s t) {c stop : Nat} : Keeps l s (t.ctxCut c stop) :=
  Keeps.ite (Keeps.ite h.segPlace h.setCtx) h

theorem Keeps.ctxDone (h : Keeps l s t) {c : Nat} {full : Bool} : Keeps l s (t.ctxDone c full) :=
  Keeps.ite h.setReg.raise.raise h.setReg.raise

theorem Keeps.aqOpen (h : Keeps l s t) {c : Nat} {u : State} (hu : t.aqOpen c = some u) : Keeps l s u := by
  unfold State.aqOpen at hu
  dsimp only at hu
  split at hu
  · rw [← Option.some.inj hu]
    exact Keeps.ite (Keeps.setCtx h.setCtx) (Keeps.raise (Keeps.setReg (Keeps.setCtx h.setCtx)))
  · cases hu

theorem Keeps.ctxContinue (h : Keeps l s t) {c : Nat} : Keeps l s (t.ctxContinue c n) := by
  have hopen {x : Ctx} : Keeps l s ((t.setCtx c x).setReg O.aqState 4 c) := h.setCtx.setReg
  unfold State.ctxContinue
  dsimp only
  split
  · next hu => exact hopen.aqOpen hu
  · exact hopen.setCtx.bumpSat

theorem Keeps.ctxReady (h : Keeps l s t) {c : Nat} : Keeps l s (t.ctxReady c) :=
  Keeps.ite h.setCtx.setReg h.setCtx.setReg.raise

theorem Keeps.ctxArmAt (h : Keeps l s t) {c a : Nat} : Keeps l s (t.ctxArmAt c n a) :=
  Keeps.ite h.setCtx.setReg.ctxReady h.setCtx.setReg

theorem Keeps.ctxNext (h : Keeps l s t) {c stop : Nat} : Keeps l s (t.ctxNext c stop) :=
  Keeps.ite h.setCtx.setReg (Keeps.ite h.ctxDone (Keeps.ite h.ctxDone (Keeps.ite h.ctxContinue h.ctxArmAt)))

theorem Keeps.ctxResume (h : Keeps l s t) {c : Nat} : Keeps l s (t.ctxResume c n) :=
  Keeps.ite h.ctxNext (Keeps.ite h.ctxArmAt h)

theorem Keeps.ctxCutAll (h : Keeps l s t) {kind src : Nat} : Keeps l s (t.ctxCutAll kind src n) :=
  h.foldl (fun _ _ hu => hu.ctxCut) _

theorem Keeps.ctxResumeAll (h : Keeps l s t) {kind src : Nat} : Keeps l s (t.ctxResumeAll kind src n) :=
  h.foldl (fun _ _ hu => hu.ctxResume) _

/-! ### Trigger units -/

theorem Keeps.tuRestart (h : Keeps l s t) {u cause : Nat} : Keeps l s (t.tuRestart u n cause) :=
  Keeps.ite (Keeps.raise (Keeps.setReg (Keeps.setTrig h.setTrig))) h

theorem Keeps.tuSliceReset (h : Keeps l s t) : Keeps l s (t.tuSliceReset m n) :=
  h.foldRange fun _ _ _ hu => Keeps.ite hu.tuRestart hu

theorem Keeps.tuTransform (h : Keeps l s t) {e src : Nat} : Keeps l s (t.tuTransform e src n) :=
  h.foldRange fun _ _ _ hu => Keeps.ite hu.tuRestart hu

/-! ### Engines' sources -/

theorem Keeps.withNewest {x : Map (List Byte)} (h : Keeps l s t) : Keeps l s { t with newest := x } := h
theorem Keeps.withDensity {x : Density} (h : Keeps l s t) : Keeps l s { t with density := x } := h
theorem Keeps.withWindows {x : Map Window} (h : Keeps l s t) : Keeps l s { t with windows := x } := h

theorem Keeps.detOut (h : Keeps l s t) {x : DetOut} : Keeps l s (t.detOut x) := h.withNewest.emit.streamItem

theorem Keeps.sgRecord (h : Keeps l s t) {x : DetOut} : Keeps l s (t.sgRecord x) :=
  h.foldRange fun _ _ _ hu => Keeps.ite (Keeps.setSgLines hu) hu

theorem Keeps.benchHears (h : Keeps l s t) {x : DetOut} : Keeps l s (t.benchHears x) :=
  h.foldRange fun _ _ _ hu => Keeps.ite hu.withWindows hu

theorem Keeps.busOut (h : Keeps l s t) {xs : List DetOut} : Keeps l s (t.busOut xs) :=
  h.foldl (fun _ _ hu => hu.detOut.sgRecord.benchHears) _

theorem Keeps.dnRestart (h : Keeps l s t) {e src : Nat} : Keeps l s (t.dnRestart e src) :=
  h.foldRange fun _ _ _ hu => Keeps.ite hu.setDnGroups.withDensity hu

theorem Keeps.sgRestart (h : Keeps l s t) {e src : Nat} : Keeps l s (t.sgRestart e src) :=
  h.foldRange fun _ _ _ hu => Keeps.ite hu.setSgLines hu

theorem Keeps.framingEnd (h : Keeps l s t) {e src : Nat} : Keeps l s (t.framingEnd e src n) := by
  have hend : Keeps l s (t.endSrc e src).2 := h.setEngSrc
  exact hend.busOut.dnRestart.sgRestart.tuTransform

theorem Keeps.beginSrc (h : Keeps l s t) {e src cause : Nat} : Keeps l s (t.beginSrc e src n cause) := by
  unfold State.beginSrc
  exact h.setEngSrc.raise

theorem Keeps.framingRestart (h : Keeps l s t) {e src cause : Nat} : Keeps l s (t.framingRestart e src n cause) :=
  h.framingEnd.beginSrc

end Sys2Proof.Machine
end

section
/-! SUPPORT. A group reset (R113 to R115): what it shows of each slice. -/

namespace Sys2Proof.Machine

variable {s t : State} {l : List Nat} {r : Row} {i j v n m : Nat}

/-! ### Keys of a slice's objects -/

theorem key_ddcState (m : Nat) : O.ddcState.key m 0 = (0x1401 + 0x20 * m) * 256 + 1 := rfl
theorem key_syncSeq (m : Nat) : O.syncSeq.key m 0 = (0x1401 + 0x20 * m) * 256 + 2 := rfl
theorem key_lastSyncIndex (m : Nat) : O.lastSyncIndex.key m 0 = (0x1401 + 0x20 * m) * 256 + 3 := rfl
theorem key_lastSyncT96 (m : Nat) : O.lastSyncT96.key m 0 = (0x1401 + 0x20 * m) * 256 + 4 := rfl
theorem key_satFrames (m : Nat) : O.satFrames.key m 0 = (0x1401 + 0x20 * m) * 256 + 5 := rfl
theorem key_retuneIndex (m : Nat) : O.retuneIndex.key m 0 = (0x1401 + 0x20 * m) * 256 + 8 := rfl
theorem key_merged : mergedKey = 0x580 * 256 + 5 := rfl

/-- An object of a slice is none of the group's, nor what a reset shows of another slice. -/
theorem aside_slice {k sub : Nat} (hsub : 1 ≤ sub ∧ sub < 256) (hown : 4 ≤ sub ∨ m ∈ l)
    (hk : k = (0x1401 + 0x20 * m) * 256 + sub) : Aside l k := by
  have hgroup : ∀ q ∈ [O.groupSyncSeq, O.groupLastT96, O.groupLastCause], ∃ c ∈ [3, 4, 5], q.key 0 0 = 0x141F * 256 + c := by decide
  have hslice : ∀ q ∈ [O.syncSeq, O.lastSyncIndex, O.ddcState], ∀ m < 32, ∃ c ∈ [1, 2, 3],
      q.key m 0 = (0x1401 + 0x20 * m) * 256 + c := by decide +kernel
  simp only [List.mem_cons, List.not_mem_nil, or_false] at hgroup hslice
  constructor
  · intro q hq
    obtain ⟨c, hc, hkey⟩ := hgroup q (by simpa using hq)
    omega
  · intro q hq m' hm' hl
    obtain ⟨c, hc, hkey⟩ := hslice q (by simpa using hq) m' hm'
    rcases hown with h4 | hown
    · omega
    · have hne : m' ≠ m := fun h => hl (h ▸ hown)
      omega

/-! ### A slice's chain -/

theorem State.slice_setSlice_same (s : State) (m : Nat) (x : Slice) : (s.setSlice m x).slice m = x := Map.get_put_same ..

theorem State.slice_setSlice_ne (s : State) {m k : Nat} (x : Slice) (h : k ≠ m) : (s.setSlice m x).slice k = s.slice k :=
  Map.get_put_ne _ _ _ _ h

/-- A slice's chain is its own. -/
theorem Keeps.setSlice {x : Slice} (h : Keeps l s t)
    (hx : m ∈ l ∨ (x.nSync, x.q, x.tunes) = ((t.slice m).nSync, (t.slice m).q, (t.slice m).tunes)) : Keeps l s (t.setSlice m x) := by
  refine ⟨h.1, fun k hk hl => h.2 k hk hl ▸ ?_⟩
  by_cases hkm : k = m
  · subst hkm
    simp only [hl, false_or, Prod.mk.injEq] at hx
    obtain ⟨hn, hq, ht⟩ := hx
    simp only [State.syncView, State.slice_setSlice_same, hn, hq, ht]
    rfl
  · simp only [State.syncView, State.slice_setSlice_ne _ _ hkm]
    rfl

theorem Keeps.frameOut (h : Keeps l s t) (hm : m < 32) {truncated : Bool} : Keeps l s (t.frameOut m truncated) := by
  unfold State.frameOut
  extract_lets x _ first _ _ _ _ _ _ y u1 u2
  split
  · exact h
  · have hchain : (y.nSync, y.q, y.tunes) = ((t.slice m).nSync, (t.slice m).q, (t.slice m).tunes) := rfl
    have hframe : Keeps l s u1 := Keeps.emit (h.setSlice (.inr hchain))
    have hsat : Keeps l s u2 := Keeps.ite (Keeps.raiseRare (hframe.setReg_of (aside_slice (by decide) (.inl (by decide)) (key_satFrames m)))
      (by simp only [ddcEvent]; omega)) hframe
    exact hsat.streamItem.vdifItem

/-- What a write of one of the first four objects of a slice leaves of another. -/
theorem State.reg_setReg_slice {q : Row} {c d : Nat} (s : State) (hq : q.key m 0 = (0x1401 + 0x20 * m) * 256 + c)
    (hr : r.key m 0 = (0x1401 + 0x20 * m) * 256 + d) (hcd : c ≠ d) : (s.setReg r v m).reg q m = s.reg q m :=
  State.reg_setReg_ne _ _ _ _ _ _ _ _ (by omega)

/-! ### The reset of a slice -/

/-- What the count of a reset shows of its slice. -/
def State.counted (s : State) (m n : Nat) : Nat × Nat × Nat × Nat × Nat × List Tune :=
  ((s.reg O.syncSeq m + 1) % 2 ^ O.syncSeq.width, n, s.reg O.ddcState m, (s.slice m).nSync, (s.slice m).q, (s.slice m).tunes)

/-- The objects that a reset of a slice counts and stamps. -/
def State.countMarks (s : State) (m n t96 : Nat) : State :=
  ((s.bump O.syncSeq m).setReg O.lastSyncIndex n m).setReg O.lastSyncT96 t96 m

theorem State.sliceCount_eq (s : State) (m n cause : Nat) : ∃ w d, s.sliceCount m n cause = (s.countMarks m n w).raise (ddcEvent m 0) d :=
  ⟨T96.ofTicks (s.sampleTime (s.plan O.ddcInput m) n), _, rfl⟩

theorem State.countMarks_keeps (s : State) (m n w : Nat) : Keeps [m] s (s.countMarks m n w) := by
  have hown {k sub : Nat} (hsub : 1 ≤ sub ∧ sub < 256) (hk : k = (0x1401 + 0x20 * m) * 256 + sub) : Aside [m] k :=
    aside_slice hsub (.inr List.mem_cons_self) hk
  have hseq {v : Nat} : Keeps [m] s (s.setReg O.syncSeq v m) := Keeps.refl.setReg_of (hown (by decide) (key_syncSeq m))
  exact (hseq.setReg_of (hown (by decide) (key_lastSyncIndex m))).setReg_of (hown (by decide) (key_lastSyncT96 m))

theorem State.countMarks_syncView (s : State) (m n w : Nat) : (s.countMarks m n w).syncView m = s.counted m n := by
  have hseq : (s.countMarks m n w).reg O.syncSeq m = (s.reg O.syncSeq m + 1) % 2 ^ O.syncSeq.width := by
    rw [State.countMarks, State.reg_setReg_slice _ (key_syncSeq m) (key_lastSyncT96 m) (by decide),
      State.reg_setReg_slice _ (key_syncSeq m) (key_lastSyncIndex m) (by decide), State.bump, State.reg_setReg_same]
  have hindex : (s.countMarks m n w).reg O.lastSyncIndex m = n := by
    rw [State.countMarks, State.reg_setReg_slice _ (key_lastSyncIndex m) (key_lastSyncT96 m) (by decide), State.reg_setReg_same]
  have hstate : (s.countMarks m n w).reg O.ddcState m = s.reg O.ddcState m := by
    rw [State.countMarks, State.reg_setReg_slice _ (key_ddcState m) (key_lastSyncT96 m) (by decide),
      State.reg_setReg_slice _ (key_ddcState m) (key_lastSyncIndex m) (by decide), State.bump,
      State.reg_setReg_slice _ (key_ddcState m) (key_syncSeq m) (by decide)]
  have hslice : (s.countMarks m n w).slice m = s.slice m := rfl
  simp only [State.syncView, State.counted, hseq, hindex, hstate, hslice]

theorem State.sliceCount_spec (s : State) (hm : m < 32) (n cause : Nat) :
    Keeps [m] s (s.sliceCount m n cause) ∧ (s.sliceCount m n cause).syncView m = s.counted m n := by
  obtain ⟨w, d, hcount⟩ := s.sliceCount_eq m n cause
  have hraise : Keeps [] (s.countMarks m n w) ((s.countMarks m n w).raise (ddcEvent m 0) d) := Keeps.refl.raise
  rw [hcount, hraise.2 m hm List.not_mem_nil, State.countMarks_syncView]
  exact ⟨(s.countMarks_keeps m n w).raise, rfl⟩

/-- The chain that a reset at index n leaves (R113). -/
def State.renewed (s : State) (m n : Nat) : Nat × Nat × List Tune :=
  (n, 0, [⟨n, s.plan O.ncoPhase m * 2 ^ 32, s.plan O.ncoFtw m % 2 ^ 48⟩])

theorem Slice.renew_chain (x : Slice) {k d n cause now phase word : Nat} (hc : cause ≠ 4) :
    ((x.renew k d n cause now phase word).nSync, (x.renew k d n cause now phase word).q, (x.renew k d n cause now phase word).tunes) =
      (n, 0, [⟨n, phase, word⟩]) := by
  simp [Slice.renew, Slice.retuned, hc]

/-- What a group reset shows of a slice (R113, R115): a slice that runs begins anew, any other only counts. -/
def State.restarted (s : State) (m : Nat) : Nat × Nat × Nat × Nat × Nat × List Tune :=
  if s.reg O.ddcState m = 0 then s.counted m s.idx
  else ((s.reg O.syncSeq m + 1) % 2 ^ O.syncSeq.width, s.idx, 1, s.renewed m s.idx)

theorem State.plan_congr (h : t.groupView = s.groupView) (r : Row) (i j : Nat) : t.plan r i j = s.plan r i j := by
  simp only [State.groupView, Prod.mk.injEq] at h
  obtain ⟨hactive, hlag, -⟩ := h
  simp only [State.plan, State.view, hactive, hlag]

theorem State.idx_congr (h : t.groupView = s.groupView) : t.idx = s.idx := by
  simp only [State.groupView, Prod.mk.injEq] at h
  exact h.2.2.1

/-- The slice begins at an index. -/
def State.begun (u : State) (m n cause : Nat) : State :=
  (u.setSlice m ((u.slice m).renew (u.plan O.ddcK m) (u.sliceD m) n cause u.idx (u.plan O.ncoPhase m * 2 ^ 32)
    (u.plan O.ncoFtw m % 2 ^ 48))).setReg O.ddcState 1 m

theorem State.begun_keeps (u : State) (m n cause : Nat) : Keeps [m] u (u.begun m n cause) :=
  (Keeps.refl.setSlice (.inl List.mem_cons_self)).setReg_of (aside_slice (by decide) (.inr List.mem_cons_self) (key_ddcState m))

theorem State.begun_syncView (u : State) (m n : Nat) {cause : Nat} (hc : cause ≠ 4) :
    (u.begun m n cause).syncView m = (u.reg O.syncSeq m, u.reg O.lastSyncIndex m, 1, u.renewed m n) := by
  have hseq : (u.begun m n cause).reg O.syncSeq m = u.reg O.syncSeq m := by
    rw [State.begun, State.reg_setReg_slice _ (key_syncSeq m) (key_ddcState m) (by decide)]
    rfl
  have hindex : (u.begun m n cause).reg O.lastSyncIndex m = u.reg O.lastSyncIndex m := by
    rw [State.begun, State.reg_setReg_slice _ (key_lastSyncIndex m) (key_ddcState m) (by decide)]
    rfl
  have hstate : (u.begun m n cause).reg O.ddcState m = 1 := State.reg_setReg_same ..
  have hslice : (u.begun m n cause).slice m = (u.slice m).renew (u.plan O.ddcK m) (u.sliceD m) n cause u.idx
      (u.plan O.ncoPhase m * 2 ^ 32) (u.plan O.ncoFtw m % 2 ^ 48) := State.slice_setSlice_same ..
  rw [State.syncView, hseq, hindex, hstate, hslice, Slice.renew_chain _ hc, State.renewed]

/-- A decimator reset: the frame in progress leaves, the slice begins, its streams restart, and it counts; a retune that falls on it is
told. -/
theorem State.sliceReset_cases (s : State) (m n cause : Nat) : ∃ w,
    let v := (((s.frameOut m true).begun m n cause).vdifRestart 2 m w).sliceCount m n cause
    s.sliceReset m n cause = v ∨ s.sliceReset m n cause = (v.setReg O.retuneIndex n m).raise (ddcEvent m 2) n := by
  refine ⟨(s.frameOut m true).sampleTime ((s.frameOut m true).plan O.ddcInput m) n, ?_⟩
  unfold State.sliceReset
  dsimp only
  split
  · exact .inr rfl
  · exact .inl rfl

theorem State.renewed_congr (h : t.groupView = s.groupView) : t.renewed m n = s.renewed m n := by
  simp only [State.renewed, State.plan_congr h]

theorem State.counted_of_syncView {a b : Nat} {c : Nat × Nat × Nat × List Tune} (h : s.syncView m = (a, b, c)) :
    s.counted m n = ((a + 1) % 2 ^ O.syncSeq.width, n, c) := by
  simp only [State.syncView, Prod.mk.injEq] at h
  obtain ⟨hseq, -, hrest⟩ := h
  simp only [State.counted, hseq, ← hrest]

/-- A decimator reset at an index, for another cause than a gap. -/
theorem State.sliceReset_spec (s : State) (hm : m < 32) (n : Nat) {cause : Nat} (hc : cause ≠ 4) :
    Keeps [m] s (s.sliceReset m n cause) ∧
      (s.sliceReset m n cause).syncView m = ((s.reg O.syncSeq m + 1) % 2 ^ O.syncSeq.width, n, 1, s.renewed m n) := by
  obtain ⟨w, hreset⟩ := s.sliceReset_cases m n cause
  generalize hu : s.frameOut m true = u at hreset
  have hframe : Keeps [] s u := hu ▸ Keeps.refl.frameOut hm
  have hrestart : Keeps [] (u.begun m n cause) ((u.begun m n cause).vdifRestart 2 m w) := Keeps.refl.vdifRestart
  generalize hv : (u.begun m n cause).vdifRestart 2 m w = v at hreset hrestart
  obtain ⟨hcount, hview⟩ := v.sliceCount_spec hm n cause
  have hkeeps : Keeps [m] s (v.sliceCount m n cause) := by
    have hany {a b : State} (h : Keeps [] a b) : Keeps [m] a b := h.mono (by simp)
    exact (((hany hframe).trans (u.begun_keeps m n cause)).trans (hany hrestart)).trans hcount
  have hbegun : v.syncView m = (s.reg O.syncSeq m, s.reg O.lastSyncIndex m, 1, s.renewed m n) := by
    have hold := hframe.2 m hm List.not_mem_nil
    simp only [State.syncView, Prod.mk.injEq] at hold
    obtain ⟨hseq, hindex, -⟩ := hold
    rw [hrestart.2 m hm List.not_mem_nil, State.begun_syncView u m n hc, hseq, hindex, State.renewed_congr hframe.1]
  rw [State.counted_of_syncView hbegun] at hview
  have hlast : Keeps [] (v.sliceCount m n cause) (((v.sliceCount m n cause).setReg O.retuneIndex n m).raise (ddcEvent m 2) n) :=
    (Keeps.refl.setReg_of (aside_slice (by decide) (.inl (by decide)) (key_retuneIndex m))).raise
  rcases hreset with hreset | hreset
  · rw [hreset]
    exact ⟨hkeeps, hview⟩
  · rw [hreset]
    exact ⟨hkeeps.trans (hlast.mono (by simp)), (hlast.2 m hm List.not_mem_nil).trans hview⟩

/-- What a group reset does of a slice (R113 to R115). -/
theorem State.sliceRestart_spec (s : State) (hm : m < 32) :
    Keeps [m] s (s.sliceRestart m s.idx 1) ∧ (s.sliceRestart m s.idx 1).syncView m = s.restarted m := by
  unfold State.sliceRestart State.restarted
  by_cases hidle : s.reg O.ddcState m = 0
  · rw [if_pos ⟨hidle, rfl⟩, if_pos hidle]
    exact s.sliceCount_spec hm s.idx 1
  · rw [if_neg (by simp [hidle]), if_neg hidle]
    dsimp only
    have hcut : Keeps [] s (s.ctxCutAll 1 m (s.slice m).q) := Keeps.refl.ctxCutAll
    generalize s.ctxCutAll 1 m (s.slice m).q = u at hcut ⊢
    obtain ⟨hreset, hview⟩ := u.sliceReset_spec hm s.idx (cause := 1) (by decide)
    generalize u.sliceReset m s.idx 1 = v at hreset hview ⊢
    have hbehind : Keeps [] v ((List.range 4).foldl (fun s e =>
        if s.reg O.teState e = 1 ∧ s.plan O.teSrcKind e = 1 ∧ bit (s.plan O.teSlices e) m then s.framingRestart e m 0 1 else s)
        ((v.tuSliceReset m s.idx).ctxResumeAll 1 m 0)) := by
      refine Keeps.foldRange Keeps.refl.tuSliceReset.ctxResumeAll fun u e _ hu => ?_
      split
      · exact hu.framingRestart
      · exact hu
    have hold := hcut.2 m hm List.not_mem_nil
    simp only [State.syncView, Prod.mk.injEq] at hold
    have hany {a b : State} (h : Keeps [] a b) : Keeps [m] a b := h.mono (by simp)
    refine ⟨((hany hcut).trans hreset).trans (hany hbehind), ?_⟩
    rw [hbehind.2 m hm List.not_mem_nil, hview, hold.1, State.renewed_congr hcut.1]

/-! ### The group -/

theorem State.restarted_congr {k : Nat} (h : Keeps l s t) (hk : k < 32) (hl : k ∉ l) : t.restarted k = s.restarted k := by
  have hold := h.2 k hk hl
  simp only [State.syncView, Prod.mk.injEq] at hold
  obtain ⟨hseq, -, hstate, hn, hq, htunes⟩ := hold
  simp only [State.restarted, State.counted, hseq, hstate, hn, hq, htunes, State.renewed_congr h.1, State.idx_congr h.1]

/-- The members of a group restart one by one, each as it stood before. -/
theorem State.restartAll_spec (members : List Nat) (hnodup : members.Nodup) (hlt : ∀ m ∈ members, m < 32) (s : State) :
    Keeps members s (members.foldl (fun s m => s.sliceRestart m s.idx 1) s) ∧
      ∀ m ∈ members, (members.foldl (fun s m => s.sliceRestart m s.idx 1) s).syncView m = s.restarted m := by
  induction members generalizing s with
  | nil => exact ⟨Keeps.refl, by simp⟩
  | cons m ms ih =>
    rw [List.nodup_cons] at hnodup
    obtain ⟨hm, hms⟩ := hnodup
    obtain ⟨hfirst, hview⟩ := s.sliceRestart_spec (hlt m List.mem_cons_self)
    obtain ⟨hrest, hviews⟩ := ih hms (fun k hk => hlt k (List.mem_cons_of_mem _ hk)) (s.sliceRestart m s.idx 1)
    rw [List.foldl_cons]
    refine ⟨(hfirst.mono (by simp)).trans (hrest.mono (by simp +contextual)), ?_⟩
    intro k hk
    rcases List.mem_cons.mp hk with rfl | hk
    · rw [hrest.2 k (hlt k List.mem_cons_self) hm, hview]
    · rw [hviews k hk, State.restarted_congr hfirst (hlt k (List.mem_cons_of_mem _ hk)) (by rintro h; simp_all)]

end Sys2Proof.Machine
end

section
/-! SUPPORT. Slices and the sync group (R112 to R121): requests, group resets, LIVE writes of the frequency word and the gains, samples. -/

namespace Sys2Proof.Machine

variable {s t : State} {v m : Nat}

/-! ### A group reset that is called for -/

@[simp] theorem State.hidden_syncRequest {n : Nat} (s : State) (b : Nat) (hn : n ≠ H.syncDue) : (s.syncRequest b).hidden n = s.hidden n :=
  State.hidden_setHidden_ne _ _ _ _ _ _ (by simp only [ne_eq] at *; omega)

theorem State.pendDue_syncRequest (s : State) (b e : Nat) : (s.syncRequest b).pendDue e = s.pendDue e := by
  unfold State.pendDue State.taReady
  rw [State.hidden_syncRequest s b (by decide), State.hidden_syncRequest s b (by decide)]
  rfl

theorem State.timedDue_syncRequest (s : State) (b : Nat) : (s.syncRequest b).timedDue = s.timedDue := by
  unfold State.timedDue
  simp only [State.pendDue_syncRequest, State.hidden_syncRequest s b (show H.safeDue ≠ H.syncDue by decide)]
  rfl

theorem State.commitDue_syncRequest (s : State) (b : Nat) : (s.syncRequest b).commitDue = s.commitDue := by
  unfold State.commitDue
  rw [State.hidden_syncRequest s b (by decide), State.hidden_syncRequest s b (by decide)]
  rfl

/-- No plan's commit falls on the tick. -/
def State.noCommit (s : State) : Prop := s.timedDue = none ∧ s.hidden H.safeDue = 0 ∧ s.commitDue = false

theorem State.noCommit.syncRequest (h : s.noCommit) (b : Nat) : (s.syncRequest b).noCommit := by
  obtain ⟨htimed, hsafe, hcommit⟩ := h
  exact ⟨(s.timedDue_syncRequest b).trans htimed, (State.hidden_syncRequest s b (by decide)).trans hsafe,
    (s.commitDue_syncRequest b).trans hcommit⟩

theorem State.noCommit.commitsDue (h : s.noCommit) : s.commitsDue = s := by
  obtain ⟨htimed, hsafe, hcommit⟩ := h
  have hnow : s.timedNow = s := by rw [State.timedNow, htimed]
  have hsafe : s.safeNow = s := by rw [State.safeNow, hsafe]; rfl
  rw [State.commitsDue, hnow, hsafe, hcommit]
  rfl

/-- The marks of a group reset. -/
def State.groupMarks (s : State) (w : Nat) : State :=
  (((s.setHidden H.syncDue 0).bump O.groupSyncSeq).setReg O.groupLastT96 w).setReg O.groupLastCause (s.hidden H.syncDue)

theorem State.groupMarks_groupView (s : State) (w : Nat) : (s.groupMarks w).groupView =
    (s.active, s.lag, s.idx, 0, (s.reg O.groupSyncSeq + 1) % 2 ^ O.groupSyncSeq.width, w, s.hidden H.syncDue) := by
  have hseq : (s.groupMarks w).reg O.groupSyncSeq = (s.reg O.groupSyncSeq + 1) % 2 ^ O.groupSyncSeq.width := by
    rw [State.groupMarks, State.reg_setReg_ne _ _ _ _ _ _ _ _ (by decide), State.reg_setReg_ne _ _ _ _ _ _ _ _ (by decide), State.bump,
      State.reg_setReg_same]
    rfl
  have htime : (s.groupMarks w).reg O.groupLastT96 = w := by
    rw [State.groupMarks, State.reg_setReg_ne _ _ _ _ _ _ _ _ (by decide), State.reg_setReg_same]
  have hcause : (s.groupMarks w).reg O.groupLastCause = s.hidden H.syncDue := State.reg_setReg_same ..
  have hdue : (s.groupMarks w).hidden H.syncDue = 0 := by simp [State.groupMarks, State.bump]
  simp only [State.groupView, hseq, htime, hcause, hdue]
  rfl

theorem State.groupMarks_reg {q : Row} {c : Nat} (s : State) (w : Nat) (hc : 1 ≤ c ∧ c ≤ 3)
    (hq : q.key m 0 = (0x1401 + 0x20 * m) * 256 + c) : (s.groupMarks w).reg q m = s.reg q m := by
  have hseq : O.groupSyncSeq.key 0 0 = 0x141F * 256 + 3 := rfl
  have htime : O.groupLastT96.key 0 0 = 0x141F * 256 + 4 := rfl
  have hcause : O.groupLastCause.key 0 0 = 0x141F * 256 + 5 := rfl
  rw [State.groupMarks, State.reg_setReg_ne _ _ _ _ _ _ _ _ (by omega), State.reg_setReg_ne _ _ _ _ _ _ _ _ (by omega), State.bump,
    State.reg_setReg_ne _ _ _ _ _ _ _ _ (by omega), State.reg_setHidden]

theorem State.groupMarks_syncView (s : State) (w m : Nat) : (s.groupMarks w).syncView m = s.syncView m := by
  rw [State.syncView, s.groupMarks_reg w (by decide) (key_syncSeq m), s.groupMarks_reg w (by decide) (key_lastSyncIndex m),
    s.groupMarks_reg w (by decide) (key_ddcState m)]
  rfl

theorem State.groupMarks_restarted (s : State) (w m : Nat) : (s.groupMarks w).restarted m = s.restarted m := by
  have hview := s.groupMarks_syncView w m
  simp only [State.syncView, Prod.mk.injEq] at hview
  obtain ⟨hseq, -, hstate, -⟩ := hview
  simp only [State.restarted, State.counted, hseq, hstate]
  rfl

theorem State.groupReset_eq (s : State) :
    s.groupReset = (s.groupMarks s.now).syncMembers.foldl (fun s m => s.sliceRestart m s.idx 1) (s.groupMarks s.now) := by
  unfold State.groupReset State.groupMarks
  dsimp only

theorem State.groupMarks_syncMembers (s : State) (w : Nat) : (s.groupMarks w).syncMembers = s.syncMembers := rfl

theorem State.syncMembers_lt (h : m ∈ s.syncMembers) : m < 32 :=
  List.mem_range.mp (List.mem_filter.mp h).1

theorem State.syncMembers_nodup (s : State) : s.syncMembers.Nodup := List.nodup_range.filter _

/-- A group reset (R114, R115). -/
theorem State.groupReset_spec (s : State) :
    s.groupReset.groupView =
        (s.active, s.lag, s.idx, 0, (s.reg O.groupSyncSeq + 1) % 2 ^ O.groupSyncSeq.width, s.now, s.hidden H.syncDue) ∧
      ∀ m ∈ s.syncMembers, s.groupReset.syncView m = s.restarted m := by
  rw [State.groupReset_eq]
  generalize s.now = w
  rw [State.groupMarks_syncMembers]
  obtain ⟨hkeeps, hviews⟩ := State.restartAll_spec s.syncMembers s.syncMembers_nodup (fun _ => State.syncMembers_lt) (s.groupMarks w)
  exact ⟨hkeeps.1.trans (s.groupMarks_groupView w), fun m hm => (hviews m hm).trans (s.groupMarks_restarted w m)⟩

theorem exec_groupReset (h : s.noCommit) (hdue : s.hidden H.syncDue ≠ 0) : exec .groupReset s = .next s.groupReset := by
  change execGroupReset s = _
  rw [execGroupReset, if_neg hdue, h.commitsDue]

/-- The group reset that a request calls for. -/
theorem State.syncRequest_does (h : s.noCommit) (b : Nat) (o : List Out) :
    ({ s.syncRequest b with out := o } : State).thenDoes .groupReset (fun u => (u.reg O.groupSyncSeq, u.reg O.groupLastCause)) =
      some ((s.reg O.groupSyncSeq + 1) % 2 ^ O.groupSyncSeq.width, s.hidden H.syncDue ||| 2 ^ b) := by
  generalize hu : ({ s.syncRequest b with out := o } : State) = u
  have hno : u.noCommit := hu ▸ h.syncRequest b
  have hdue : u.hidden H.syncDue = s.hidden H.syncDue ||| 2 ^ b := hu ▸ State.hidden_setHidden_same ..
  have hseq : u.reg O.groupSyncSeq = s.reg O.groupSyncSeq := hu ▸ rfl
  have hne : u.hidden H.syncDue ≠ 0 := by
    rw [hdue]
    intro h0
    simpa [Nat.testBit_two_pow_self] using congrArg (Nat.testBit · b) h0
  have hspec := u.groupReset_spec.1
  simp only [State.groupView, Prod.mk.injEq] at hspec
  obtain ⟨-, -, -, -, hcount, -, hcause⟩ := hspec
  rw [State.thenDoes_of_exec _ (exec_groupReset hno hne), hcount, hcause, hseq, hdue]

/-! ### A group none of whose members runs -/

/-- Objects, hidden scalars and raises alone differ. -/
def Quiet (s t : State) : Prop := t = { s with regs := t.regs, hid := t.hid, raises := t.raises }

theorem Quiet.trans {u : State} (h : Quiet s t) (h' : Quiet t u) : Quiet s u := by
  unfold Quiet at *
  rw [h', h]

theorem State.sliceCount_quiet (s : State) (m n cause : Nat) : Quiet s (s.sliceCount m n cause) := by
  obtain ⟨w, d, hcount⟩ := s.sliceCount_eq m n cause
  rw [hcount, State.raise_eq]
  rfl

/-- Members that do not run only count. -/
theorem State.restartIdle_quiet (members : List Nat) (hlt : ∀ m ∈ members, m < 32) (s : State)
    (hidle : ∀ m ∈ members, s.reg O.ddcState m = 0) : Quiet s (members.foldl (fun s m => s.sliceRestart m s.idx 1) s) := by
  induction members generalizing s with
  | nil => rfl
  | cons m ms ih =>
    have hm := hidle m List.mem_cons_self
    have hfirst : s.sliceRestart m s.idx 1 = s.sliceCount m s.idx 1 := by rw [State.sliceRestart, if_pos ⟨hm, rfl⟩]
    obtain ⟨hkeeps, hview⟩ := s.sliceCount_spec (hlt m List.mem_cons_self) s.idx 1
    have hstill : ∀ k ∈ m :: ms, (s.sliceCount m s.idx 1).reg O.ddcState k = 0 := by
      intro k hk
      by_cases hkm : k = m
      · subst hkm
        simp only [State.syncView, State.counted, Prod.mk.injEq] at hview
        exact hview.2.2.1.trans hm
      · have hother := hkeeps.2 k (hlt k hk) (by simpa using hkm)
        simp only [State.syncView, Prod.mk.injEq] at hother
        exact hother.2.2.1.trans (hidle k hk)
    rw [List.foldl_cons, hfirst]
    exact (s.sliceCount_quiet m s.idx 1).trans
      (ih (fun k hk => hlt k (List.mem_cons_of_mem _ hk)) _ fun k hk => hstill k (List.mem_cons_of_mem _ hk))

theorem State.groupMarks_quiet (s : State) (w : Nat) : Quiet s (s.groupMarks w) := rfl

theorem State.groupReset_quiet (s : State) (hidle : ∀ m ∈ s.syncMembers, s.reg O.ddcState m = 0) : Quiet s s.groupReset := by
  rw [State.groupReset_eq, State.groupMarks_syncMembers]
  refine (s.groupMarks_quiet s.now).trans (State.restartIdle_quiet _ (fun _ => State.syncMembers_lt) _ fun m hm => ?_)
  rw [s.groupMarks_reg _ (by decide) (key_ddcState m), hidle m hm]

/-! ### LIVE writes of a slice -/

theorem actLive_ok {r : Row} {i j : Nat} (h : s.plans.filterMap (s.liveBreaks r i j v) = []) :
    actLive r i j v s = .ok (s.livePut r i j v) := by
  simp only [actLive, h]

theorem exec_ncoRetune (sl : Fin 32) (hx : (s.slice sl.val).retune = true) (hrun : s.reg O.ddcState sl.val ≠ 0) :
    exec (.ncoRetune sl) s = .next (s.ncoRetune sl.val s.idx) := by
  change execNcoRetune sl s = _
  exact if_pos ⟨hx, hrun⟩

theorem exec_sliceGainApply (sl : Fin 32) (hx : (s.slice sl.val).gain = true) (hrun : s.reg O.ddcState sl.val ≠ 0) :
    exec (.sliceGainApply sl) s = .next (s.gainApply sl.val s.idx) := by
  change execSliceGainApply sl s = _
  exact if_pos ⟨hx, hrun⟩

theorem State.ncoRetune_slice (s : State) (m n : Nat) : (s.ncoRetune m n).slice m =
    { s.slice m with tunes := ⟨n, (tuneAt n (s.slice m).tunes).phaseAt n, s.plan O.ncoFtw m % 2 ^ 48⟩ :: (s.slice m).tunes,
                     nrs := (s.slice m).nrs ++ [n], retunes := n :: (s.slice m).retunes, retune := false } := by
  rw [State.ncoRetune, State.raise_eq]
  exact State.slice_setSlice_same ..

theorem State.ncoRetune_index (s : State) (m n : Nat) : (s.ncoRetune m n).reg O.retuneIndex m = n := by
  have hkey := key_retuneIndex m
  rw [State.ncoRetune, State.reg_raise_ne _ _ _ _ _ _ (by rw [key_merged]; omega), State.reg_setReg_same]

theorem tuneAt_head (n : Nat) (p w : Nat) (l : List Tune) : tuneAt n (⟨n, p, w⟩ :: l) = ⟨n, p, w⟩ := by
  cases l <;> simp [tuneAt]

theorem State.gainApply_slice (s : State) (m n : Nat) : (s.gainApply m n).slice m =
    { s.slice m with gain := false, gains := ⟨n, s.plan O.gainShift m, s.plan O.gainFine m⟩ :: (s.slice m).gains,
                     ngs := (s.slice m).ngs ++ [n], gainIdxs := n :: (s.slice m).gainIdxs } :=
  State.slice_setSlice_same ..

/-! ### Samples -/

/-- What the cascade makes of a code. -/
def State.sliceCascade (s : State) (m : Nat) (c : Int) : List (List (Int × Int)) × Option (Int × Int × Int) :=
  cascade (s.plan O.firTaps m) (s.slice m).stages (((s.slice m).inAt : Int) - (s.slice m).nSync)
    (mixOne c (ncoAt ((tuneAt (s.slice m).inAt (s.slice m).tunes).phaseAt (s.slice m).inAt)))

/-- The slice has taken a code. -/
def State.sliceTaken (s : State) (m : Nat) (c : Int) : State :=
  s.setSlice m { s.slice m with inAt := (s.slice m).inAt + 1, stages := (s.sliceCascade m c).1 }

theorem State.sliceSample_none {m : Nat} {c : Int} (h : (s.sliceCascade m c).2 = none) : s.sliceSample m c = s.sliceTaken m c := by
  change (match (s.sliceCascade m c).2 with
    | some o => (s.sliceTaken m c).sliceOut m o.1 o.2
    | none => s.sliceTaken m c) = _
  rw [h]

theorem State.sliceSample_some {m : Nat} {c : Int} {o : Int × Int × Int} (h : (s.sliceCascade m c).2 = some o) :
    s.sliceSample m c = (s.sliceTaken m c).sliceOut m o.1 o.2 := by
  change (match (s.sliceCascade m c).2 with
    | some o => (s.sliceTaken m c).sliceOut m o.1 o.2
    | none => s.sliceTaken m c) = _
  rw [h]

/-- The slice has formed the output sample of a cascade output. -/
def State.sliceFormed (s : State) (m : Nat) (p : Int × Int) : Slice :=
  let x := s.slice m
  let taps := s.plan O.firTaps m
  let hist := (p :: x.hist).take taps
  let g := gainAt (s.sliceIndex m x.q) x.gains
  let y := firGain ((List.range taps).map (s.firCoef m)) (s.plan O.outFormat m) (toI 16 g.shift) g.fine hist
  { x with hist := hist, q := x.q + 1, part := x.part ++ [y.1], sat := x.sat || y.2, outs := (y.1 :: x.outs).take 262144 }

theorem State.sliceOut_eq {m : Nat} {k : Int} (s : State) (hk : 0 ≤ k) (p : Int × Int) :
    s.sliceOut m k p = if (s.sliceFormed m p).part.length = 2 ^ s.plan O.frameExp m then
      (s.setSlice m (s.sliceFormed m p)).frameOut m false else s.setSlice m (s.sliceFormed m p) := by
  rw [State.sliceOut, if_neg (Int.not_lt.mpr hk)]
  rfl

/-- The slice after a code whose cascade output makes a sample. -/
def State.sliceStep (s : State) (m : Nat) (c : Int) : Slice :=
  { s.sliceFormed m ((s.sliceCascade m c).2.getD (0, 0, 0)).2 with inAt := (s.slice m).inAt + 1, stages := (s.sliceCascade m c).1 }

theorem State.sliceTaken_formed (s : State) (m : Nat) (c : Int) :
    (s.sliceTaken m c).sliceFormed m ((s.sliceCascade m c).2.getD (0, 0, 0)).2 = s.sliceStep m c := by
  have hslice : (s.sliceTaken m c).slice m = { s.slice m with inAt := (s.slice m).inAt + 1, stages := (s.sliceCascade m c).1 } :=
    State.slice_setSlice_same ..
  simp only [State.sliceFormed, State.sliceIndex, hslice]
  rfl

theorem State.sliceTaken_rest (s : State) (m : Nat) (c : Int) (y : Slice) :
    ({ (s.sliceTaken m c).setSlice m y with slices := s.slices } : State) = s := by
  dsimp only [State.sliceTaken, State.setSlice]

/-- A code whose cascade output makes a sample: a full frame leaves. -/
theorem State.sliceSample_output {m : Nat} {c : Int} (h : (s.sliceCascade m c).2.map (fun y => decide (0 ≤ y.1)) = some true) :
    ∃ u, ({ u with slices := s.slices } : State) = s ∧ u.slice m = s.sliceStep m c ∧
      s.sliceSample m c = if (s.slice m).part.length + 1 = 2 ^ s.plan O.frameExp m then u.frameOut m false else u := by
  obtain ⟨o, ho, hpos⟩ := Option.map_eq_some_iff.mp h
  have hget : (s.sliceCascade m c).2.getD (0, 0, 0) = o := by rw [ho]; rfl
  refine ⟨(s.sliceTaken m c).setSlice m (s.sliceStep m c), s.sliceTaken_rest m c _, State.slice_setSlice_same .., ?_⟩
  have hlen : (s.sliceStep m c).part.length = (s.slice m).part.length + 1 := List.length_append ..
  rw [State.sliceSample_some ho, State.sliceOut_eq _ (of_decide_eq_true hpos), ← hget, State.sliceTaken_formed, hlen]
  rfl

/-! ### Frames -/

theorem State.reg_of_slices {u : State} {r : Row} {i j : Nat} (h : ({ u with slices := s.slices } : State) = s) :
    u.reg r i j = s.reg r i j := by
  have hreg := congrArg (fun x => State.reg x r i j) h
  exact hreg

theorem State.streamsFree_of_slices {u : State} {kind src : Nat} (h : ({ u with slices := s.slices } : State) = s)
    (hfree : s.streamsFree kind src = true) : u.streamsFree kind src = true := by
  have hsame := congrArg (fun x => State.streamsFree x kind src) h
  exact hsame.trans hfree

theorem State.raise_quiet (s : State) (e d : Nat) : Quiet s (s.raise e d) := by
  rw [State.raise_eq]
  rfl

theorem State.raiseRare_quiet (s : State) (e d : Nat) : Quiet s (s.raiseRare e d) := by
  have hseen : Quiet s (s.setHidden H.rare (s.up + 1) e) := rfl
  unfold State.raiseRare
  dsimp only
  split
  · exact hseen.trans (State.raise_quiet ..)
  · exact hseen

theorem State.takesFrom_congr {n kind src : Nat} (hstate : t.reg O.stState n = s.reg O.stState n) (hactive : t.active = s.active)
    (hlag : t.lag = s.lag) : t.takesFrom n kind src = s.takesFrom n kind src := by
  simp only [State.takesFrom, State.streaming, State.plan, State.view, hstate, hactive, hlag]

theorem State.streamItem_free {kind src : Nat} {i : Item} (h : s.streamsFree kind src = true) : s.streamItem kind src i = s := by
  refine List.foldlRecOn _ _ (motive := fun u => u = s) rfl fun u hu n hn => ?_
  have hno : s.takesFrom n kind src = false := by simpa using List.all_eq_true.mp h n hn
  simp only [hu, hno, Bool.false_and, Bool.false_eq_true, if_false]

theorem State.vdifItem_free {kind src hdr w : Nat} {bad : Bool} {time : Nat → Nat} {i : Item} (h : s.streamsFree kind src = true) :
    s.vdifItem kind src hdr w bad time i = s := by
  refine List.foldlRecOn _ _ (motive := fun u => u = s) rfl fun u hu n hn => ?_
  have hno : s.takesFrom n kind src = false := by simpa using List.all_eq_true.mp h n hn
  simp only [hu, hno, Bool.false_and, Bool.false_eq_true, if_false]

theorem Quiet.ite {p : Prop} [Decidable p] {a b : State} (ha : Quiet s a) (hb : Quiet s b) : Quiet s (if p then a else b) := by
  split
  · exact ha
  · exact hb

theorem State.reg_raiseRare_ne {r : Row} {i j : Nat} (s : State) (e d : Nat) (h : r.key i j ≠ mergedKey) :
    (s.raiseRare e d).reg r i j = s.reg r i j := by
  unfold State.raiseRare
  dsimp only
  split
  · rw [State.reg_raise_ne _ _ _ _ _ _ h]
    rfl
  · rfl

/-- A frame that saturated is counted and told; no other object is touched. -/
theorem State.satFrame_quiet {p : Prop} [Decidable p] (s : State) (m first : Nat) :
    Quiet s (if p then (s.bumpSat O.satFrames m).raiseRare (ddcEvent m 3) first else s) := by
  have hcount : Quiet s (s.bumpSat O.satFrames m) := rfl
  exact Quiet.ite (hcount.trans (State.raiseRare_quiet ..)) rfl

theorem State.satFrame_stState {p : Prop} [Decidable p] (s : State) (m first n : Nat) :
    (if p then (s.bumpSat O.satFrames m).raiseRare (ddcEvent m 3) first else s).reg O.stState n = s.reg O.stState n := by
  have hstate : O.stState.key n 0 = (0x3202 + 4 * n) * 256 + 1 := rfl
  have hsat := key_satFrames m
  split
  · rw [State.reg_raiseRare_ne _ _ _ (by rw [key_merged]; omega), State.bumpSat, State.reg_setReg_ne _ _ _ _ _ _ _ _ (by omega)]
  · rfl

/-- A frame that no stream takes leaves alone. -/
theorem State.frameOut_free {m : Nat} {b : Bool} (hp : (s.slice m).part ≠ []) (hfree : s.streamsFree 2 m = true) :
    ∃ y o, Quiet ((s.setSlice m y).emit o) (s.frameOut m b) ∧ y.part = [] ∧ y.q = (s.slice m).q ∧
      y.frames.length = (s.slice m).frames.length + 1 := by
  unfold State.frameOut
  extract_lets x _ first _ _ _ _ _ _ y u1 u2
  rw [if_neg (by simpa using hp)]
  have hquiet : Quiet u1 u2 := State.satFrame_quiet u1 m first
  have hstill : u2.streamsFree 2 m = true := by
    rw [← hfree]
    refine congrArg (List.all (List.range 32)) (funext fun n => congrArg not ?_)
    exact State.takesFrom_congr (State.satFrame_stState u1 m first n) (hquiet ▸ rfl) (hquiet ▸ rfl)
  rw [State.streamItem_free hstill, State.vdifItem_free hstill]
  exact ⟨y, _, hquiet, rfl, rfl, by simp [y, x]⟩

/-- A state with what a frame of a slice may change taken from another. -/
def State.takeShown (x s : State) : State :=
  { x with slices := s.slices, regs := s.regs, hid := s.hid, raises := s.raises, out := s.out }

theorem State.takeShown_trans {x u : State} (h : x.takeShown u = u) (h' : u.takeShown s = s) : x.takeShown s = s := by
  have htwice : x.takeShown s = (x.takeShown u).takeShown s := rfl
  rw [htwice, h, h']

theorem State.takeShown_of_slices {u : State} (h : ({ u with slices := s.slices } : State) = s) : u.takeShown s = s := by
  have hshown := congrArg (fun x => State.takeShown x s) h
  exact hshown

theorem Quiet.takeShown {u : State} (h : Quiet t u) : u.takeShown s = t.takeShown s := by
  have hshown := congrArg (fun x => State.takeShown x s) (show u = _ from h)
  exact hshown

theorem State.takeShown_frame (s : State) (m : Nat) (y : Slice) (o : Out) : ((s.setSlice m y).emit o).takeShown s = s := by
  dsimp only [State.setSlice, State.emit, State.takeShown]

/-- What such a frame changes. -/
theorem State.frameOut_free_spec {m : Nat} (b : Bool) (hp : (s.slice m).part ≠ []) (hfree : s.streamsFree 2 m = true) :
    ((s.frameOut m b).slice m).part = [] ∧ ((s.frameOut m b).slice m).q = (s.slice m).q ∧
      ((s.frameOut m b).slice m).frames.length = (s.slice m).frames.length + 1 ∧ (s.frameOut m b).out.length = s.out.length + 1 ∧
      (s.frameOut m b).takeShown s = s := by
  obtain ⟨y, o, hquiet, hpart, hq, hframes⟩ := State.frameOut_free (b := b) hp hfree
  generalize s.frameOut m b = t at hquiet
  have hslice : t.slice m = y := by rw [hquiet]; exact State.slice_setSlice_same ..
  have hout : t.out = o :: s.out := by rw [hquiet]; rfl
  rw [hslice, hout]
  exact ⟨hpart, hq, hframes, rfl, hquiet.takeShown.trans (s.takeShown_frame m y o)⟩

/-- A slice that runs takes a code. -/
theorem exec_sliceFrame (sl : Fin 32) (c : Int) (hrun : s.reg O.ddcState sl.val = 2)
    (hstill : (s.sliceSample sl.val c).reg O.ddcState sl.val = 2) :
    exec (.sliceFrame sl [c]) s = .next (s.sliceSample sl.val c) := by
  change execSliceFrame sl [c] s = _
  simp [execSliceFrame, hrun, hstill]

theorem State.dom_setDom_ne {q r : Row} {b d : List Byte} {i j i' j' : Nat} (h : q.key i' j' ≠ r.key i j) :
    (s.setDom r b i j).dom q i' j' d = s.dom q i' j' d := by
  rw [State.dom, State.setDom, Map.get_ins_ne _ _ _ h, Map.get_del_ne _ _ h]
  rfl

theorem State.reach_all {ms : List Nat} (h : ms.all (fun m => bit (s.reg O.pwrDomainOn) (6 + m / 8)) = true) :
    ms.foldl (fun s m => s.reach (6 + m / 8)) s = s := by
  refine List.foldlRecOn _ _ (motive := fun u => u = s) rfl fun u hu m hm => ?_
  rw [hu, State.reach, if_pos (List.all_eq_true.mp h m hm)]

theorem State.syncRequest_effect (s : State) (b : Nat) : Effect s (s.syncRequest b) [] [] [hkey H.syncDue] :=
  Effect.refl.setHidden List.mem_cons_self

theorem State.restarted_count (s : State) (m : Nat) :
    (s.restarted m).1 = (s.reg O.syncSeq m + 1) % 2 ^ O.syncSeq.width ∧ (s.restarted m).2.1 = s.idx := by
  unfold State.restarted
  split
  · exact ⟨rfl, rfl⟩
  · exact ⟨rfl, rfl⟩

/-- The active gain applies from the present index. -/
theorem State.gainApply_does (sl : Fin 32) (hx : (s.slice sl.val).gain = true) (hrun : s.reg O.ddcState sl.val ≠ 0) :
    s.thenDoes (.sliceGainApply sl) (fun u => (u.slice sl.val).gains.head?) =
      some (some ⟨s.idx, s.plan O.gainShift sl.val, s.plan O.gainFine sl.val⟩) := by
  rw [State.thenDoes_of_exec _ (exec_sliceGainApply sl hx hrun), State.gainApply_slice]
  rfl

/-- A LIVE write of a slice's gain. -/
theorem gainWrite_spec {fine : Bool} {m : Master} {r : Row} (hr : (if fine then O.gainFine else O.gainShift) = r) (sl : Fin 32)
    (ho : Owner s m) (hv : v < 2 ^ r.width) (hmask : v &&& r.mask = v) (hhost : r.host = false) (hc : r.checks (v &&& r.mask) = true)
    (hfits : s.plans.filterMap (s.liveBreaks r sl.val 0 (v &&& r.mask)) = []) :
    ∃ t, exec (.sliceGainWrite m sl fine v) s = .next t ∧
      t.out = replied s m ∧
      t.active = putVal r sl.val 0 (v &&& r.mask) s.active ∧
      t.staged = putVal r sl.val 0 (v &&& r.mask) s.staged ∧
      t.awaiting = s.awaiting.map (putVal r sl.val 0 (v &&& r.mask)) ∧
      t.armed = s.armed.map (putVal r sl.val 0 (v &&& r.mask)) ∧
      t.slice sl.val = { s.slice sl.val with gain := true } ∧
      (s.reg O.ddcState sl.val ≠ 0 → t.thenDoes (.sliceGainApply sl) (fun u => (u.slice sl.val).gains.head?) =
        some (some ⟨s.idx, t.plan O.gainShift sl.val, t.plan O.gainFine sl.val⟩)) ∧
      ({ t with out := s.out, active := s.active, staged := s.staged, awaiting := s.awaiting, armed := s.armed,
                slices := s.slices } : State) = s := by
  subst hr
  rw [hmask] at hfits ⊢
  have hact : actSliceGain sl.val fine v s = .ok ((s.livePut (if fine then O.gainFine else O.gainShift) sl.val 0 v).setSlice sl.val
      { s.slice sl.val with gain := true }) := by
    rw [actSliceGain, actLive_ok hfits]
    rfl
  refine ⟨_, State.command_ok ho hhost hv hc hact, replied_congr m rfl, rfl, rfl, rfl, rfl, State.slice_setSlice_same .., ?_, rfl⟩
  exact fun hrun => State.gainApply_does sl (congrArg Slice.gain (State.slice_setSlice_same ..)) hrun

/-- A raise does not ask of the slices. -/
theorem State.raise_withSlices (u : State) (x : Map Slice) (e d : Nat) :
    ({ u.raise e d with slices := x } : State) = ({ u with slices := x } : State).raise e d := by
  rw [State.raise_eq, State.raise_eq]
  rfl

theorem State.ncoRetune_effect (s : State) {m : Nat} (hm : m < 32) (n : Nat) :
    Effect s { s.ncoRetune m n with slices := s.slices } [(ddcEvent m 2, n)] [O.retuneIndex.key m 0] [] := by
  have hwrite : Effect s (s.setReg O.retuneIndex n m) [] [O.retuneIndex.key m 0] [] := Effect.refl.setReg List.mem_cons_self
  have hspan : ∀ m < 32, ∀ k ∈ spanKeys, k ∉ mergedKey :: [O.retuneIndex.key m 0] := by decide +kernel
  rw [State.ncoRetune, State.raise_withSlices]
  exact hwrite.raise _ _ (hspan m hm)

theorem State.ncoRetune_idx (s : State) (m n : Nat) : (s.ncoRetune m n).idx = s.idx := by
  rw [State.ncoRetune, State.raise_eq]
  rfl

/-- A retune puts the active word in force at the present tick. -/
theorem State.ncoRetune_does (sl : Fin 32) (hx : (s.slice sl.val).retune = true) (hrun : s.reg O.ddcState sl.val ≠ 0) :
    s.thenDoes (.ncoRetune sl) (fun u => ((tuneAt u.idx (u.slice sl.val).tunes).word, u.reg O.retuneIndex sl.val)) =
      some (s.plan O.ncoFtw sl.val % 2 ^ 48, s.idx) := by
  rw [State.thenDoes_of_exec _ (exec_ncoRetune sl hx hrun), State.ncoRetune_slice, State.ncoRetune_idx, State.ncoRetune_index, tuneAt_head]

/-- Settles O16: what lies behind the slices touches nothing that a group reset shows (`Keeps`), so each member shows its own restart. -/
theorem slicesAndGroups : Obligations.SlicesAndGroups := by
  unfold Obligations.SlicesAndGroups
  refine ⟨?_, ?_, ?_, ?_, ?_, ?_, ?_, ?_, ?_, ?_, ?_, ?_, ?_⟩
  · intro s m ho htimed hsafe hcommit hmembers hon
    have hact : actSyncCmd 1 s = .ok (s.syncRequest 1) := by
      have hne : s.syncMembers.isEmpty = false := by simpa using hmembers
      have hreach := State.reach_all (s := s.syncRequest 1) (ms := s.syncMembers) hon
      simp [actSyncCmd, onlyOne, refuseIf, hne, hreach]
    refine ⟨_, State.command_ok ho rfl (by decide) (by decide) hact, rfl, State.hidden_setHidden_same .., ?_, s.syncRequest_effect 1⟩
    exact State.syncRequest_does ⟨htimed, hsafe, hcommit⟩ 1 _
  · intro s htimed hsafe hcommit hpin
    have hexec : exec .ddcSyncFall s = .next (s.syncRequest 0) := if_pos hpin
    exact ⟨_, hexec, State.hidden_setHidden_same .., State.syncRequest_does ⟨htimed, hsafe, hcommit⟩ 0 s.out,
      s.syncRequest_effect 0⟩
  · intro s htimed hsafe hcommit hdue
    obtain ⟨hgroup, hviews⟩ := s.groupReset_spec
    simp only [State.groupView, Prod.mk.injEq] at hgroup
    obtain ⟨-, -, -, hclear, hseq, htime, hcause⟩ := hgroup
    refine ⟨_, exec_groupReset ⟨htimed, hsafe, hcommit⟩ hdue, hclear, hseq, htime, hcause, ?_, ?_⟩
    · refine List.all_eq_true.mpr fun m hm => ?_
      have hview := hviews m hm
      have hcounted := s.restarted_count m
      rw [← hview] at hcounted
      simp only [State.syncView] at hcounted
      simp [hcounted.1, hcounted.2]
    · refine List.all_eq_true.mpr fun m hm => ?_
      obtain ⟨hm, hrun⟩ := List.mem_filter.mp hm
      have hview := hviews m hm
      rw [State.restarted, if_neg (by simpa using hrun)] at hview
      simp only [State.syncView, State.renewed, Prod.mk.injEq] at hview
      obtain ⟨-, -, hstate, hn, hq, htunes⟩ := hview
      simp [hstate, hn, hq, htunes]
  · intro s htimed hsafe hcommit hdue hidle
    have hgroup := s.groupReset_spec.1
    simp only [State.groupView, Prod.mk.injEq] at hgroup
    obtain ⟨-, -, -, hclear, -⟩ := hgroup
    refine ⟨_, exec_groupReset ⟨htimed, hsafe, hcommit⟩ hdue, hclear, ?_⟩
    have hquiet := s.groupReset_quiet hidle
    rw [hquiet]
  · intro s m sl v ho hv hc hfits
    have hact : actNcoFtw sl.val (v &&& O.ncoFtw.mask) s = .ok ((s.livePut O.ncoFtw sl.val 0 (v &&& O.ncoFtw.mask)).setSlice sl.val
        { s.slice sl.val with retune := true }) := by
      rw [actNcoFtw, actLive_ok hfits]
      rfl
    refine ⟨_, State.command_ok ho rfl hv hc hact, replied_congr m rfl, rfl, rfl, rfl, rfl, State.slice_setSlice_same .., ?_, rfl⟩
    intro hrun
    exact State.ncoRetune_does sl (congrArg Slice.retune (State.slice_setSlice_same ..)) hrun
  · intro s m sl v ho hv hc hfits
    exact gainWrite_spec (fine := true) rfl sl ho hv (Nat.and_two_pow_sub_one_of_lt_two_pow (n := 96) (hv.trans (by decide))) rfl hc hfits
  · intro s m sl v ho hv hc hfits
    exact gainWrite_spec (fine := false) rfl sl ho hv (Nat.and_two_pow_sub_one_of_lt_two_pow (n := 96) (hv.trans (by decide))) rfl hc hfits
  · intro s sl hx hrun
    exact ⟨_, exec_ncoRetune sl hx hrun, s.ncoRetune_slice sl.val s.idx, s.ncoRetune_index sl.val s.idx,
      s.ncoRetune_effect sl.isLt s.idx⟩
  · exact fun s sl hx hrun => ⟨_, exec_sliceGainApply sl hx hrun, s.gainApply_slice sl.val s.idx, rfl⟩
  · intro s sl c hrun hnone
    have hsample : s.sliceSample sl.val c = s.sliceTaken sl.val c := State.sliceSample_none (Option.isNone_iff_eq_none.mp hnone)
    refine ⟨_, exec_sliceFrame sl c hrun (by rw [hsample]; exact hrun), ?_, ?_⟩
    · rw [hsample]
      exact State.slice_setSlice_same ..
    · rw [hsample]
      rfl
  · intro s sl c hrun hsome hpart
    obtain ⟨u, hrest, hslice, hsample⟩ := State.sliceSample_output hsome
    rw [if_neg hpart.ne] at hsample
    have hstate : u.reg O.ddcState sl.val = s.reg O.ddcState sl.val := State.reg_of_slices hrest
    refine ⟨u, hsample ▸ exec_sliceFrame sl c hrun (hsample ▸ hstate.trans hrun), ?_⟩
    rw [hslice]
    exact ⟨rfl, rfl, rfl, rfl, List.length_append .., rfl, rfl, hrest⟩
  · intro s sl c hrun hsome hpart hfree
    obtain ⟨u, hrest, hslice, hsample⟩ := State.sliceSample_output hsome
    rw [if_pos hpart] at hsample
    have hpart' : (u.slice sl.val).part ≠ [] := by
      rw [hslice]
      exact List.concat_ne_nil _ _
    obtain ⟨hempty, hq, hframes, hout, hkept⟩ := State.frameOut_free_spec false hpart' (State.streamsFree_of_slices hrest hfree)
    have hview := (Keeps.refl (l := [])).frameOut (s := u) sl.isLt (truncated := false) |>.2 sl.val sl.isLt List.not_mem_nil
    simp only [State.syncView, Prod.mk.injEq] at hview
    obtain ⟨-, -, hstate, -⟩ := hview
    have hstill : (s.sliceSample sl.val c).reg O.ddcState sl.val = 2 := by
      rw [hsample, hstate, State.reg_of_slices hrest, hrun]
    refine ⟨_, exec_sliceFrame sl c hrun hstill, ?_⟩
    have hbefore : u.out = s.out := by have h := congrArg State.out hrest; exact h
    rw [hsample, hempty, hq, hframes, hout, hslice, hbefore]
    exact ⟨rfl, rfl, rfl, rfl, State.takeShown_trans hkept (State.takeShown_of_slices hrest)⟩
  · intro s m sl b ho hwords hne hlen hrange hoff
    have hact := actFirCoef_ok (t := s) hwords (List.length_pos_iff.mpr hne) hlen hrange hoff
    refine ⟨_, State.load_ok ho hact, replied_congr m rfl, State.dom_setDom_same .., ?_, rfl, rfl⟩
    intro r i j d hk
    exact State.dom_setDom_ne hk

end Sys2Proof.Machine
end

section
/-! SUPPORT. What a plan command notes of the segmented writes in progress (R121), which its statement leaves out. -/

namespace Sys2Proof.Machine

/-- A device that is ready in P0, PLL-A locked. The host is connected, owns it, and has a write of `FIR_COEF` of slice 0 in progress. -/
def loadingCoefs : State :=
  { hostOwns.setReg O.pllaState 2 with
    xfers := [{ master := 1, key := O.firCoef.key 0 0, write := true, total := 384, data := List.replicate 192 0 }] }

/-- Refutes O8: its first clause lets ADMIT change nothing but what it names. A plan command also notes the objects of which a segmented
write is open as it is issued (R121), for admission to refuse a plan that enables their units: here `FIR_COEF` of slice 0. -/
theorem not_planCommands : ¬ Obligations.PlanCommands := by
  unfold Obligations.PlanCommands
  rintro ⟨hadmit, -⟩
  obtain ⟨t, ht, -, -, -, -, -, hrest, -⟩ := hadmit loadingCoefs .host (by decide +kernel) (by decide +kernel) rfl (by decide +kernel)
    rfl (by decide +kernel) (by decide +kernel)
  have hkept : t.issued = [] := by have h := congrArg State.issued hrest; exact h
  have hnoted : loadingCoefs.thenDoes (.planAdmit .host) State.issued = some [O.firCoef.key 0 0] := by decide +kernel
  rw [State.thenDoes_of_exec _ ht, hkept] at hnoted
  simp at hnoted

end Sys2Proof.Machine
end

section
/-! SUPPORT. Streams (R366 to R382): an item that they take changes what they and their destinations hold, and no unit. -/

namespace Sys2Proof.Machine

variable {s : State} {n : Nat}

/-- The machine without what streams and their destinations write: objects, hidden scalars, raises, what leaves, their own state,
drive sets and DRAM. -/
def State.offStreams (s : State) : State :=
  { s with regs := [], hid := [], raises := [], out := [], streams := [], nvSets := [], nvCmds := [], mem := [], poison := [] }

/-! ### Writes -/

@[simp] theorem State.setReg_offStreams (r : Row) (v i j : Nat) : (s.setReg r v i j).offStreams = s.offStreams := rfl
@[simp] theorem State.bump_offStreams (r : Row) (i j n : Nat) : (s.bump r i j n).offStreams = s.offStreams := rfl
@[simp] theorem State.bumpSat_offStreams (r : Row) (i j n : Nat) : (s.bumpSat r i j n).offStreams = s.offStreams := rfl
@[simp] theorem State.setHidden_offStreams (n v i : Nat) : (s.setHidden n v i).offStreams = s.offStreams := rfl
@[simp] theorem State.emit_offStreams (o : Out) : (s.emit o).offStreams = s.offStreams := rfl
@[simp] theorem State.setStream_offStreams (x : Stream) : (s.setStream n x).offStreams = s.offStreams := rfl
@[simp] theorem State.setNvSet_offStreams (d : Nat) (x : NvSet) : (s.setNvSet d x).offStreams = s.offStreams := rfl
@[simp] theorem State.nvCmds_offStreams (l : List NvCmd) : ({ s with nvCmds := l } : State).offStreams = s.offStreams := rfl
@[simp] theorem State.nvFlush_offStreams (d c : Nat) : (s.nvFlush d c).offStreams = s.offStreams := rfl
@[simp] theorem State.portBytes_offStreams (port n : Nat) : (s.portBytes port n).offStreams = s.offStreams := rfl

theorem Quiet.offStreams {t : State} (h : Quiet s t) : t.offStreams = s.offStreams := by
  rw [h]
  rfl

@[simp] theorem State.raise_offStreams (e d : Nat) : (s.raise e d).offStreams = s.offStreams := (s.raise_quiet e d).offStreams
@[simp] theorem State.raiseRare_offStreams (e d : Nat) : (s.raiseRare e d).offStreams = s.offStreams := (s.raiseRare_quiet e d).offStreams
@[simp] theorem State.stEvent_offStreams (k : Nat) : (s.stEvent n k).offStreams = s.offStreams := State.raise_offStreams ..

theorem State.foldl_offStreams {α : Type} {f : State → α → State} (hf : ∀ u a, (f u a).offStreams = u.offStreams) (l : List α) :
    (l.foldl f s).offStreams = s.offStreams :=
  l.foldlRecOn f (motive := fun u => u.offStreams = s.offStreams) rfl fun u hu a _ => (hf u a).trans hu

theorem State.ite_offStreams {p : Prop} [Decidable p] {a b x : State} (ha : a.offStreams = x) (hb : b.offStreams = x) :
    (if p then a else b).offStreams = x := by
  split
  · exact ha
  · exact hb

/-! ### DRAM -/

@[simp] theorem State.writeLine_offStreams (a : Nat) (bs : List Byte) : (s.writeLine a bs).offStreams = s.offStreams := by
  unfold State.writeLine
  exact State.ite_offStreams (State.ite_offStreams rfl rfl) rfl

@[simp] theorem State.writeLines_offStreams (a : Nat) (bs : List Byte) : (s.writeLines n a bs).offStreams = s.offStreams := by
  induction n generalizing s a bs with
  | zero => rfl
  | succ n ih =>
    cases bs with
    | nil => rfl
    | cons b bs => exact (ih _ _).trans (State.writeLine_offStreams _ _)

@[simp] theorem State.writeMem_offStreams (a : Nat) (bs : List Byte) : (s.writeMem a bs).offStreams = s.offStreams :=
  State.writeLines_offStreams a bs

@[simp] theorem State.writeRing_offStreams (port base size off : Nat) (bs : List Byte) :
    (s.writeRing port base size off bs).1.offStreams = s.offStreams := by
  unfold State.writeRing
  split
  · rfl
  · exact State.ite_offStreams (by simp) (by simp)

@[simp] theorem State.readPort_offStreams (port a n : Nat) : (s.readPort port a n).2.2.offStreams = s.offStreams :=
  State.foldl_offStreams (fun _ _ => (State.raiseRare_offStreams ..).trans (State.bumpSat_offStreams ..)) _

/-! ### Drive sets -/

@[simp] theorem State.nvCatPut_offStreams (d st total : Nat) : (s.nvCatPut d st total).offStreams = s.offStreams := by
  unfold State.nvCatPut
  dsimp only
  split <;> simp

@[simp] theorem State.nvCatDone_offStreams (d : Nat) : (s.nvCatDone d).offStreams = s.offStreams := by
  unfold State.nvCatDone
  dsimp only
  split
  · rfl
  · simp [apply_ite State.offStreams]

@[simp] theorem State.nvCatStep_offStreams (d : Nat) : (s.nvCatStep d).offStreams = s.offStreams := by
  unfold State.nvCatStep
  refine State.ite_offStreams rfl ?_
  split
  · rfl
  · exact State.ite_offStreams (by simp) (by simp)

@[simp] theorem State.nvCatalogue_offStreams (d st : Nat) : (s.nvCatalogue d st).offStreams = s.offStreams :=
  (State.nvCatStep_offStreams d).trans (State.foldl_offStreams (fun _ _ => State.nvFlush_offStreams ..) _)

@[simp] theorem State.nvSubmit_offStreams (d len : Nat) : (s.nvSubmit d n len).offStreams = s.offStreams := by
  unfold State.nvSubmit
  dsimp only
  rw [State.setReg_offStreams, State.nvCmds_offStreams, State.setNvSet_offStreams]
  exact State.foldl_offStreams (fun _ _ => State.emit_offStreams _) _

@[simp] theorem State.nvDrain_offStreams (d fuel : Nat) : (s.nvDrain d n fuel).offStreams = s.offStreams := by
  induction fuel generalizing s with
  | zero => rfl
  | succ f ih => exact State.ite_offStreams rfl (State.ite_offStreams rfl (by simp [ih]))

@[simp] theorem State.nvFull_offStreams (d : Nat) : (s.nvFull d).offStreams = s.offStreams := by
  unfold State.nvFull
  split
  · rfl
  · exact State.ite_offStreams (by simp) rfl

@[simp] theorem State.nvPush_offStreams (r : StRec) : (s.nvPush n r).offStreams = s.offStreams := by
  simp [State.nvPush]

/-! ### Records and items -/

@[simp] theorem State.streamLost_offStreams (k : Nat) : (s.streamLost n k).offStreams = s.offStreams := by
  simp [State.streamLost]

@[simp] theorem State.readBack_offStreams (r : StRec) : (s.readBack n r).2.offStreams = s.offStreams := by
  unfold State.readBack
  dsimp only
  split
  · rfl
  · simp

@[simp] theorem State.hostPut_offStreams (bs : List Byte) : (s.hostPut n bs).offStreams = s.offStreams := by
  unfold State.hostPut
  dsimp only
  refine State.ite_offStreams ?_ ?_ <;> simp [apply_ite State.offStreams]

@[simp] theorem State.streamDrain_offStreams (fuel : Nat) : (s.streamDrain n fuel).offStreams = s.offStreams := by
  induction fuel generalizing s with
  | zero => rfl
  | succ f ih =>
    unfold State.streamDrain
    split
    · exact State.ite_offStreams rfl rfl
    · split
      · exact State.ite_offStreams (by simp [ih]) (State.ite_offStreams (by simp) rfl)
      · exact State.ite_offStreams (by simp [ih]) rfl
      · rfl

@[simp] theorem State.streamOut_offStreams : (s.streamOut n).offStreams = s.offStreams := State.streamDrain_offStreams _

@[simp] theorem State.stage_offStreams (r : StRec) : (s.stage n r).offStreams = s.offStreams := by
  unfold State.stage
  dsimp only
  refine State.ite_offStreams (State.ite_offStreams ?_ ?_) (State.ite_offStreams ?_ ?_) <;> simp

@[simp] theorem State.streamTake_offStreams (i : Item) : (s.streamTake n i).offStreams = s.offStreams := by
  unfold State.streamTake
  split <;> simp

/-- An item reaches streams and nothing but them. -/
@[simp] theorem State.streamItem_offStreams (kind src : Nat) (i : Item) : (s.streamItem kind src i).offStreams = s.offStreams :=
  State.foldl_offStreams (fun _ _ => State.ite_offStreams (State.streamTake_offStreams i) rfl) _

@[simp] theorem State.vdifItem_offStreams (kind src hdr w : Nat) (bad : Bool) (time : Nat → Nat) (i : Item) :
    (s.vdifItem kind src hdr w bad time i).offStreams = s.offStreams := by
  refine State.foldl_offStreams (fun u m => State.ite_offStreams ?_ rfl) _
  dsimp only
  split <;> rfl

end Sys2Proof.Machine
end

section
/-! SUPPORT. Converter channels: what a write of a channel's own state shows, and what it leaves alone. -/

namespace Sys2Proof.Machine

variable {s : State} {ch : Nat} {c : Conv}

@[simp] theorem State.cv_setCv_same : (s.setCv ch c).cv ch = c := Map.get_put_same ..
@[simp] theorem State.cv_offStreams : s.offStreams.cv ch = s.cv ch := rfl
@[simp] theorem State.cv_setReg (r : Row) (v i j : Nat) : (s.setReg r v i j).cv ch = s.cv ch := rfl
@[simp] theorem State.cv_setHidden (n v i : Nat) : (s.setHidden n v i).cv ch = s.cv ch := rfl
@[simp] theorem State.cv_unfault (n : Nat) : (s.unfault n).cv ch = s.cv ch := rfl

theorem Quiet.cv {t : State} (h : Quiet s t) : t.cv ch = s.cv ch := by
  rw [h]
  rfl

@[simp] theorem State.cv_raise (e d : Nat) : (s.raise e d).cv ch = s.cv ch := (s.raise_quiet e d).cv

@[simp] theorem State.reg_setCv (r : Row) (k i j : Nat) : (s.setCv k c).reg r i j = s.reg r i j := rfl
@[simp] theorem State.plan_setCv (r : Row) (k i j : Nat) : (s.setCv k c).plan r i j = s.plan r i j := rfl
@[simp] theorem State.hidden_setCv (k n i : Nat) : (s.setCv k c).hidden n i = s.hidden n i := rfl
@[simp] theorem State.idle_setCv (k : Nat) : (s.setCv k c).idle ch = s.idle ch := rfl

/-- The machine with other channels: effects are stated of the rest. -/
def State.withConv (s : State) (x : Map Conv) : State := { s with conv := x }

variable {x : Map Conv}

theorem State.withConv_eq : { s with conv := x } = s.withConv x := rfl

@[simp] theorem State.withConv_self : s.withConv s.conv = s := rfl
@[simp] theorem State.setCv_withConv (k : Nat) : (s.setCv k c).withConv x = s.withConv x := rfl
@[simp] theorem State.setReg_withConv (r : Row) (v i j : Nat) : (s.setReg r v i j).withConv x = (s.withConv x).setReg r v i j := rfl
@[simp] theorem State.setHidden_withConv (n v i : Nat) : (s.setHidden n v i).withConv x = (s.withConv x).setHidden n v i := rfl

@[simp] theorem State.raise_withConv (e d : Nat) : (s.raise e d).withConv x = (s.withConv x).raise e d := by
  rw [State.raise_eq, State.raise_eq]
  rfl

/-- An occurrence whose source shows a fault already only counts. -/
theorem State.occurrence_of_fault {src d : Nat} (h : s.faultRaw src = true) : s.occurrence src d = s.bumpSat O.frCount 0 src := by
  rw [State.occurrence, h]
  rfl

/-- An occurrence whose source shows no fault yet is held by its source alone. -/
theorem State.occurrence_spec {src d : Nat} (h : s.faultRaw src = false) : (s.occurrence src d).hidden H.held src = 1 ∧
    (s.occurrence src d).hidden H.driveData src = d ∧
    Effect s (s.occurrence src d) [] [] [hkey H.held src, hkey H.driveData src] := by
  have hne : H.held * 2 ^ 20 + src ≠ H.driveData * 2 ^ 20 + src := by simp only [H.held, H.driveData]; omega
  rw [State.occurrence_of_clear h]
  exact ⟨(State.hidden_setHidden_ne _ _ _ _ _ _ hne).trans (State.hidden_setHidden_same ..), State.hidden_setHidden_same ..,
    (Effect.refl.setHidden (by simp)).setHidden (by simp)⟩

@[simp] theorem State.cv_occurrence (src d : Nat) : (s.occurrence src d).cv ch = s.cv ch := by
  unfold State.occurrence
  split <;> rfl

@[simp] theorem State.occurrence_withConv (src d : Nat) : (s.occurrence src d).withConv x = (s.withConv x).occurrence src d :=
  apply_ite (State.withConv · x) ..

end Sys2Proof.Machine
end

section
/-! SUPPORT. Blocks of a channel (R83 to R94): what a block's delivery shows, and the parity failures of the two buses (R16). -/

namespace Sys2Proof.Machine

variable {s : State} {ch : Nat}

/-! ### Delivery -/

/-- The channel after its block in progress was delivered. -/
def State.blockDone (s : State) (ch : Nat) (ovr : Bool) : Conv :=
  { s.cv ch with
    next := (s.cv ch).next + 65536
    blocks := Map.ins ((s.cv ch).next / 65536) (s.blockFlags ch ovr + 65536 * s.reg O.calSeq ch)
      (Map.del (s.cv ch).blocks ((s.cv ch).next / 65536))
    marks := Map.del (s.cv ch).marks ((s.cv ch).next / 65536)
    scIn := 31, scOut := 31, slot := 0, parity := false, sent := (s.cv ch).gen, gen := s.reg O.planGen, fmt := s.plan O.cvFormat ch }

/-- The block's header has left. -/
def State.blockSent (s : State) (ch : Nat) (ovr : Bool) : State :=
  (s.setCv ch (s.blockDone ch ovr)).emit (.record 0 (leBytes (s.blockHeader ch (s.blockFlags ch ovr)) 32))

/-- A block with a code out of range is counted and told. -/
def State.blockTold (s : State) (ch first : Nat) (ovr : Bool) : State :=
  if ovr then (s.bumpSat O.ovrBlocks ch).raiseRare (cvEvent ch 6) first else s

/-- A delivered block leaves, reaches the streams that take it, and is told. -/
theorem State.blockOut_eq (s : State) (ch : Nat) (l : List Int) : ∃ (i : Item) (bad : Bool) (time : Nat → Nat),
    s.blockOut ch l = (((s.blockSent ch ((l.map roundSample).any (·.2))).streamItem 1 ch i).vdifItem 1 ch 32 2 bad time i).blockTold ch
      (s.cv ch).next ((l.map roundSample).any (·.2)) :=
  ⟨_, _, _, rfl⟩

theorem State.blockTold_quiet (s : State) (ch first : Nat) (ovr : Bool) : Quiet s (s.blockTold ch first ovr) := by
  have hcount : Quiet s (s.bumpSat O.ovrBlocks ch) := rfl
  exact Quiet.ite (hcount.trans (State.raiseRare_quiet ..)) rfl

theorem State.blockTold_ovrBlocks (s : State) (ch : Fin 4) (first : Nat) (ovr : Bool) :
    (s.blockTold ch.val first ovr).reg O.ovrBlocks ch.val =
      if ovr then satAdd O.ovrBlocks.width (s.reg O.ovrBlocks ch.val) 1 else s.reg O.ovrBlocks ch.val := by
  have hkey : O.ovrBlocks.key ch.val 0 ≠ mergedKey := by
    revert ch
    decide
  cases ovr
  · rfl
  · exact (State.reg_raiseRare_ne _ _ _ hkey).trans (State.reg_setReg_same ..)

/-- Whatever takes the block, its channel is the delivered one, and no unit behind it changes. -/
theorem State.blockOut_offStreams (s : State) (ch : Nat) (l : List Int) :
    (s.blockOut ch l).offStreams = (s.setCv ch (s.blockDone ch ((l.map roundSample).any (·.2)))).offStreams := by
  obtain ⟨i, bad, time, hout⟩ := s.blockOut_eq ch l
  rw [hout, (State.blockTold_quiet ..).offStreams, State.vdifItem_offStreams, State.streamItem_offStreams]
  rfl

theorem State.blockOut_cv (s : State) (ch : Nat) (l : List Int) :
    (s.blockOut ch l).cv ch = s.blockDone ch ((l.map roundSample).any (·.2)) := by
  rw [← State.cv_offStreams, State.blockOut_offStreams, State.cv_offStreams, State.cv_setCv_same]

/-- A block that no stream takes. -/
theorem State.blockOut_free (l : List Int) (h : s.streamsFree 1 ch = true) :
    s.blockOut ch l = (s.blockSent ch ((l.map roundSample).any (·.2))).blockTold ch (s.cv ch).next ((l.map roundSample).any (·.2)) := by
  obtain ⟨i, bad, time, hout⟩ := s.blockOut_eq ch l
  have hfree : (s.blockSent ch ((l.map roundSample).any (·.2))).streamsFree 1 ch = true := h
  rw [hout, State.streamItem_free hfree, State.vdifItem_free hfree]

theorem exec_sampleBlock {ch : Fin 4} (l : List Int) (hon : s.sampling ch.val = true) (hgap : (s.cv ch.val).now &&& BF.gap = 0)
    (hstep : (s.cv ch.val).now &&& BF.tstep = 0) (hstay : (s.cv ch.val).leaving = false) :
    exec (.sampleBlock ch l) s = .next (s.blockOut ch.val l) := by
  have hstill : ((s.blockOut ch.val l).cv ch.val).leaving = false := by
    rw [State.blockOut_cv]
    exact hstay
  change execSampleBlock ch l s = _
  simp [execSampleBlock, hon, hgap, hstep, hstill]

/-! ### Parity -/

theorem exec_sampleBusParityFail {ch : Fin 4} (hon : s.sampling ch.val = true) : exec (.sampleBusParityFail ch) s =
    .next ((s.setCv ch.val { s.cv ch.val with parity := true }).occurrence (0x20 + ch.val) (s.cv ch.val).next) :=
  if_pos hon

theorem exec_tagBusParityFail {ch : Fin 8} (hon : s.reg O.ticState ch.val = 1) : exec (.tagBusParityFail ch) s =
    .next ((s.setChan ch.val { s.chan ch.val with marks := (s.chan ch.val).marks ||| TG.queueOvf }).occurrence (0x40 + ch.val / 4)
      ch.val) :=
  if_pos hon

/-- A sampling channel's mark with the occurrence of its source, which shows no fault yet. -/
theorem State.parityMark_clear {src : Nat} (ch : Nat) (c : Conv) (d : Nat) (h : s.faultRaw src = false) :
    ((s.setCv ch c).occurrence src d).cv ch = c ∧ ((s.setCv ch c).occurrence src d).hidden H.held src = 1 ∧
      ((s.setCv ch c).occurrence src d).hidden H.driveData src = d ∧
      Effect s { (s.setCv ch c).occurrence src d with conv := s.conv } [] [] [hkey H.held src, hkey H.driveData src] := by
  obtain ⟨hheld, hdata, -⟩ := State.occurrence_spec (s := s.setCv ch c) (d := d) h
  refine ⟨State.cv_occurrence .. |>.trans State.cv_setCv_same, hheld, hdata, ?_⟩
  rw [State.withConv_eq, State.occurrence_withConv, State.setCv_withConv, State.withConv_self]
  exact (State.occurrence_spec h).2.2

/-- The same while its source shows a fault: the occurrence only counts. -/
theorem State.parityMark_fault {src : Nat} (ch : Nat) (c : Conv) (d : Nat) (h : s.faultRaw src = true) :
    ((s.setCv ch c).occurrence src d).cv ch = c ∧
      ((s.setCv ch c).occurrence src d).reg O.frCount 0 src = satAdd O.frCount.width (s.reg O.frCount 0 src) 1 ∧
      Effect s { (s.setCv ch c).occurrence src d with conv := s.conv } [] [O.frCount.key 0 src] [] := by
  refine ⟨State.cv_occurrence .. |>.trans State.cv_setCv_same, ?_, ?_⟩
  · rw [State.occurrence_of_fault (s := s.setCv ch c) h]
    exact State.reg_setReg_same ..
  · rw [State.withConv_eq, State.occurrence_withConv, State.setCv_withConv, State.withConv_self, State.occurrence_of_fault h]
    exact Effect.refl.setReg List.mem_cons_self

/-- The machine with other counter channels. -/
def State.withChans (s : State) (x : Map Chan) : State := { s with chans := x }

theorem State.withChans_eq {x : Map Chan} : { s with chans := x } = s.withChans x := rfl

theorem State.setChan_withChans (n : Nat) (c : Chan) : (s.setChan n c).withChans s.chans = s := rfl

theorem State.occurrence_withChans (src d : Nat) (x : Map Chan) : (s.occurrence src d).withChans x = (s.withChans x).occurrence src d :=
  apply_ite (State.withChans · x) ..

theorem State.chan_occurrence (src d n : Nat) : (s.occurrence src d).chan n = s.chan n := by
  unfold State.occurrence
  split <;> rfl

/-- A counter channel's mark with the occurrence of its source. -/
theorem State.tagMark_clear {src : Nat} (n : Nat) (c : Chan) (d : Nat) (h : s.faultRaw src = false) :
    ((s.setChan n c).occurrence src d).chan n = c ∧ ((s.setChan n c).occurrence src d).hidden H.held src = 1 ∧
      Effect s { (s.setChan n c).occurrence src d with chans := s.chans } [] [] [hkey H.held src, hkey H.driveData src] := by
  obtain ⟨hheld, -, -⟩ := State.occurrence_spec (s := s.setChan n c) (d := d) h
  refine ⟨(State.chan_occurrence ..).trans (Map.get_put_same ..), hheld, ?_⟩
  rw [State.withChans_eq, State.occurrence_withChans, State.setChan_withChans]
  exact (State.occurrence_spec h).2.2

/-- Settles O14: the streams that take a block leave its channel alone (`State.offStreams`), and a parity failure is an occurrence. -/
theorem converterBlocks : Obligations.ConverterBlocks := by
  unfold Obligations.ConverterBlocks
  refine ⟨?_, ?_, ?_, ?_, ?_⟩
  · intro s ch l hon hgap hstep hstay
    have hrest := s.blockOut_offStreams ch.val l
    have hidx := congrArg State.idx hrest
    have htc := congrArg State.tc hrest
    have hactive := congrArg State.active hrest
    exact ⟨_, exec_sampleBlock l hon hgap hstep hstay, s.blockOut_cv ch.val l, hidx, htc, hactive⟩
  · intro s ch l hon hgap hstep hstay hfree
    have hcv := s.blockOut_cv ch.val l
    have hexec := exec_sampleBlock l hon hgap hstep hstay
    rw [State.blockOut_free l hfree] at hcv hexec
    have hquiet := (s.blockSent ch.val ((l.map roundSample).any (·.2))).blockTold_quiet ch.val (s.cv ch.val).next
      ((l.map roundSample).any (·.2))
    refine ⟨_, hexec, hcv, congrArg State.out hquiet, State.blockTold_ovrBlocks .., ?_⟩
    exact congrArg (fun t : State => { t with conv := s.conv, out := s.out, regs := s.regs, hid := s.hid, raises := s.raises }) hquiet
  · intro s ch hon hclear
    obtain ⟨hcv, hheld, hdata, heff⟩ := State.parityMark_clear ch.val { s.cv ch.val with parity := true } (s.cv ch.val).next hclear
    exact ⟨_, exec_sampleBusParityFail hon, hcv, hheld, hdata, heff⟩
  · intro s ch hon hfault
    obtain ⟨hcv, hcount, heff⟩ := State.parityMark_fault ch.val { s.cv ch.val with parity := true } (s.cv ch.val).next hfault
    exact ⟨_, exec_sampleBusParityFail hon, hcv, hcount, heff⟩
  · intro s ch hon hclear
    exact ⟨_, exec_tagBusParityFail hon,
      State.tagMark_clear ch.val { s.chan ch.val with marks := (s.chan ch.val).marks ||| TG.queueOvf } ch.val hclear⟩

end Sys2Proof.Machine
end

section
/-! SUPPORT. Objects of converter channels (Table 4.8): where they lie, and which writes they are read through. -/

namespace Sys2Proof.Machine

variable {s t : State} {r q : Row} {ch i j v : Nat} {keys hids : List Nat}

/-! ### Keys -/

/-- One object of each converter channel, at its first index: those of its slots and sub-converters lie above. -/
abbrev Row.OfChannel (r : Row) : Prop := r.idx = 0x1000 ∧ r.ist = 0x100 ∧ r.sub < 0x100

theorem Row.OfChannel.key (h : r.OfChannel) (ch : Nat) : r.key ch 0 = (0x1000 + 0x100 * ch) * 256 + r.sub := by
  obtain ⟨hidx, hist, -⟩ := h
  simp [Row.key, hidx, hist]

theorem Row.OfChannel.sub_lt (h : r.OfChannel) : r.sub < 0x100 := h.2.2

theorem key_slotSc (ch j : Nat) : O.slotSc.key ch j = (0x1001 + 0x100 * ch) * 256 + j := by simp [Row.key, O.slotSc]
theorem key_scState (ch i : Nat) : O.scState.key ch i = (0x1002 + 0x100 * ch) * 256 + i := by simp [Row.key, O.scState]

theorem Row.key_ge (h : 0x1000 ≤ r.idx) : 0x100000 ≤ r.key i j := by
  unfold Row.key
  omega

/-! ### Reads -/

theorem State.reg_raise_unit (e d : Nat) (h : 0x1000 ≤ r.idx) : (s.raise e d).reg r i j = s.reg r i j :=
  State.reg_raise_ne _ _ _ _ _ _ fun hk => by
    have hge := Row.key_ge (i := i) (j := j) h
    rw [hk, key_merged] at hge
    omega

theorem State.reg_setReg_channel (hr : r.OfChannel) (hq : q.OfChannel) (h : q.sub ≠ r.sub) :
    (s.setReg r v ch).reg q ch = s.reg q ch :=
  State.reg_setReg_ne _ _ _ _ _ _ _ _ (by rw [hr.key, hq.key]; omega)

theorem State.slotSc_setReg_channel (hr : r.OfChannel) : (s.setReg r v ch).reg O.slotSc ch j = s.reg O.slotSc ch j :=
  State.reg_setReg_ne _ _ _ _ _ _ _ _ (by rw [hr.key, key_slotSc]; have hsub := hr.sub_lt; omega)

theorem State.scState_setReg_channel (hr : r.OfChannel) : (s.setReg r v ch).reg O.scState ch i = s.reg O.scState ch i :=
  State.reg_setReg_ne _ _ _ _ _ _ _ _ (by rw [hr.key, key_scState]; have hsub := hr.sub_lt; omega)

theorem State.reg_setReg_slotSc (hq : q.OfChannel) : (s.setReg O.slotSc v ch j).reg q ch = s.reg q ch :=
  State.reg_setReg_ne _ _ _ _ _ _ _ _ (by rw [hq.key, key_slotSc]; have hsub := hq.sub_lt; omega)

theorem State.reg_setReg_scState (hq : q.OfChannel) : (s.setReg O.scState v ch i).reg q ch = s.reg q ch :=
  State.reg_setReg_ne _ _ _ _ _ _ _ _ (by rw [hq.key, key_scState]; have hsub := hq.sub_lt; omega)

theorem State.slotSc_setReg_scState (hj : j < 16) : (s.setReg O.scState v ch i).reg O.slotSc ch j = s.reg O.slotSc ch j :=
  State.reg_setReg_ne _ _ _ _ _ _ _ _ (by rw [key_slotSc, key_scState]; omega)

theorem State.scState_setReg_ne {k : Nat} (h : i ≠ k) : (s.setReg O.scState v ch k).reg O.scState ch i = s.reg O.scState ch i :=
  State.reg_setReg_ne _ _ _ _ _ _ _ _ (by rw [key_scState, key_scState]; omega)

/-! ### Effects -/

/-- What a unit behind the clocks tells merges within the span of before. -/
theorem Effect.raise_unit (e d : Nat) (h : Effect s t [] keys hids) (hk : ∀ k ∈ keys, 0x100000 ≤ k) :
    Effect s (t.raise e d) [(e, d)] keys hids := by
  have hspan : ∀ k ∈ spanKeys, k < 0x100000 ∧ k ≠ mergedKey := by decide
  refine h.raise e d fun k hm => ?_
  obtain ⟨hlt, hne⟩ := hspan k hm
  exact fun hin => (List.mem_cons.mp hin).elim hne fun hin => absurd (hk k hin) (by omega)

/-! ### The rest of the machine -/

/-- The machine without its channels, objects, hidden scalars and raises: but for a record in the ledger, a swap leaves it alone. -/
def State.offConv (s : State) : State := { s with conv := [], regs := [], hid := [], raises := [] }

@[simp] theorem State.setCv_offConv (n : Nat) (c : Conv) : (s.setCv n c).offConv = s.offConv := rfl
@[simp] theorem State.setReg_offConv (r : Row) (v i j : Nat) : (s.setReg r v i j).offConv = s.offConv := rfl
@[simp] theorem State.setHidden_offConv (n v i : Nat) : (s.setHidden n v i).offConv = s.offConv := rfl
@[simp] theorem State.unfault_offConv (src : Nat) : (s.unfault src).offConv = s.offConv := rfl

@[simp] theorem State.raise_offConv (e d : Nat) : (s.raise e d).offConv = s.offConv := by
  rw [s.raise_quiet e d]
  rfl

/-- Device time goes by the rest. -/
theorem State.now_of_offConv (h : t.offConv = s.offConv) : t.now = s.now := by
  have htc := congrArg State.tc h
  exact State.now_congr htc

theorem State.ledgerDue_of_offConv (h : t.offConv = s.offConv) : t.ledgerDue = s.ledgerDue := by
  have hdue := congrArg State.ledgerDue h
  exact hdue

/-! ### The channel -/

theorem State.sampling_setCv {c : Conv} (h : c.isolated = (s.cv ch).isolated) : (s.setCv ch c).sampling ch = s.sampling ch := by
  simp only [State.sampling, State.cv_setCv_same, h]
  rfl

end Sys2Proof.Machine
end

section
/-! SUPPORT. Rotations (R88 to R93, R97): due, started, run by run, and stepped. -/

namespace Sys2Proof.Machine

variable {s : State} {ch : Fin 4} {i : Nat}

/-! ### A rotation falls due and starts -/

theorem State.calDue_idle {n : Nat} (cause : Nat) (hrun : (s.cv n).run = 0) (hdue : (s.cv n).due = 0) :
    s.calDue n cause = s.setCv n { s.cv n with due := cause } :=
  if_pos ⟨hrun, hdue⟩

theorem exec_calEvaluate_far (hon : s.sampling ch.val = true) (hmode : s.plan O.calMode ch.val ≠ 0)
    (hidle : (s.idle ch.val).isSome = true) (hfar : s.calFar ch.val = true) :
    exec (.calEvaluate ch) s = .next (s.calDue ch.val 1) :=
  (if_pos ⟨hon, hmode, hidle⟩).trans (if_pos hfar)

theorem actCalCmd_ok (hon : s.sampling ch.val = true) (hmode : s.plan O.calMode ch.val ≠ 0) (hidle : (s.idle ch.val).isSome = true)
    (hrun : (s.cv ch.val).run = 0) (hpower : bit (s.reg O.pwrDomainOn) (1 + ch.val) = true) :
    actCalCmd ch.val 1 s = .ok (s.calDue ch.val 3) := by
  obtain ⟨i, hi⟩ := Option.isSome_iff_exists.mp hidle
  simp only [actCalCmd, onlyOne, refuseIf, bne_self_eq_false, Bool.false_eq_true, if_false]
  refine reaching_on ?_ ?_
  · simp [hmode, hi, hon, hrun]
  · rw [← hpower, State.calDue]
    exact congrArg (fun x => bit x _) (apply_ite (State.reg · O.pwrDomainOn) .. |>.trans (ite_self _))

theorem exec_calRotStart (hon : s.sampling ch.val = true) (hmode : s.plan O.calMode ch.val ≠ 0) (hidle : s.idle ch.val = some i)
    (hrun : (s.cv ch.val).run = 0) (hdue : (s.cv ch.val).due ≠ 0) :
    exec (.calRotStart ch) s = .next (s.rotStart ch.val i (s.cv ch.val).due) := by
  change execCalRotStart ch s = _
  simp only [execCalRotStart, hidle]
  exact if_pos ⟨hdue, hrun, hon, hmode⟩

/-- What the start of run 1 shows, and what it leaves alone. -/
theorem State.rotStart_spec (s : State) (n i cause : Nat) :
    (s.rotStart n i cause).cv n =
      { s.cv n with run := 1, overlap := false, again := false, due := 0, tStart := s.reg O.dieTemp n } ∧
    (s.rotStart n i cause).reg O.scState n i = 2 ∧ (s.rotStart n i cause).reg O.calState n = 1 ∧
    Effect s { s.rotStart n i cause with conv := s.conv } [(cvEvent n 0, cause)] [O.scState.key n i, O.calState.key n 0] [] := by
  unfold State.rotStart
  refine ⟨by simp, ?_, ?_, ?_⟩
  · simp (disch := decide) [State.reg_raise_unit, State.scState_setReg_channel]
  · simp (disch := decide) [State.reg_raise_unit]
  · simp only [State.withConv_eq, State.raise_withConv, State.setReg_withConv, State.setCv_withConv, State.withConv_self]
    exact ((Effect.refl.setReg (by simp)).setReg (by simp)).raise_unit _ _ (by simp (disch := decide) [Row.key_ge])

/-- A rotation that is due starts at the next boundary. -/
theorem State.due_starts (hon : s.sampling ch.val = true) (hmode : s.plan O.calMode ch.val ≠ 0) (hidle : (s.idle ch.val).isSome = true)
    (hrun : (s.cv ch.val).run = 0) (hdue : (s.cv ch.val).due ≠ 0) :
    s.thenDoes (.calRotStart ch) (fun u => ((u.cv ch.val).run, (u.cv ch.val).due)) = some (1, 0) := by
  obtain ⟨i, hi⟩ := Option.isSome_iff_exists.mp hidle
  rw [State.thenDoes_of_exec _ (exec_calRotStart hon hmode hi hrun hdue), (s.rotStart_spec ch.val i _).1]

/-- A rotation that just fell due starts at the next boundary, whatever has left the device meanwhile. -/
theorem State.rotation_starts {cause : Nat} (o : List Out) (hcause : cause ≠ 0) (hon : s.sampling ch.val = true)
    (hmode : s.plan O.calMode ch.val ≠ 0) (hidle : (s.idle ch.val).isSome = true) (hrun : (s.cv ch.val).run = 0) :
    ({ s.setCv ch.val { s.cv ch.val with due := cause } with out := o } : State).thenDoes (.calRotStart ch)
      (fun u => ((u.cv ch.val).run, (u.cv ch.val).due)) = some (1, 0) := by
  have hon' : (s.setCv ch.val { s.cv ch.val with due := cause }).sampling ch.val = true :=
    (State.sampling_setCv (c := { s.cv ch.val with due := cause }) rfl).trans hon
  have hcv := State.cv_setCv_same (s := s) (ch := ch.val) (c := { s.cv ch.val with due := cause })
  refine State.due_starts (s := { s.setCv ch.val { s.cv ch.val with due := cause } with out := o }) hon' hmode hidle ?_ ?_
  · exact (congrArg Conv.run hcv).trans hrun
  · exact fun h0 => hcause ((congrArg Conv.due hcv).symm.trans h0)

/-! ### A run ends -/

theorem exec_calRunEnd {c : CalMeas} (hidle : s.idle ch.val = some i) (hrun : (s.cv ch.val).run ≠ 0)
    (hlap : (s.cv ch.val).overlap = false) : exec (.calRunEnd ch c) s = .next
      (if calReason c ≠ 0 then s.runFailed ch.val i (calReason c)
      else if (s.cv ch.val).run < 17 then (s.scCorrect ch.val i c).setCv ch.val { (s.scCorrect ch.val i c).cv ch.val with overlap := true }
      else (s.scCorrect ch.val i c).rotEnd ch.val i) := by
  change execCalRunEnd ch c s = _
  simp only [execCalRunEnd, hidle, hrun, hlap, Bool.false_eq_true, or_self, if_false]
  split
  · rfl
  · exact (apply_ite Host.Outcome.next ..).symm

@[simp] theorem State.reg_scCorrect (n i : Nat) (c : CalMeas) (r : Row) (k j : Nat) : (s.scCorrect n i c).reg r k j = s.reg r k j := by
  simp [State.scCorrect]

@[simp] theorem State.plan_scCorrect (n i : Nat) (c : CalMeas) (r : Row) (k j : Nat) : (s.scCorrect n i c).plan r k j = s.plan r k j := by
  simp [State.scCorrect]

theorem State.scCorrect_offConv (n i : Nat) (c : CalMeas) : (s.scCorrect n i c).offConv = s.offConv := by
  simp [State.scCorrect]

/-- A sub-converter's completed corrections, and what else they leave alone. -/
theorem State.scCorrect_spec (s : State) (n i : Nat) (c : CalMeas) :
    (s.scCorrect n i c).cv n =
      { s.cv n with age := Map.put (s.cv n).age 0 i ((s.cv n).ageLast + 1), ageLast := (s.cv n).ageLast + 1 } ∧
    ((s.scCorrect n i c).hidden H.scOffset (17 * n + i) = ofI 64 c.offset ∧
      (s.scCorrect n i c).hidden H.scGain (17 * n + i) = ofI 64 c.gain ∧
      (s.scCorrect n i c).hidden H.scSkew (17 * n + i) = ofI 64 c.skew ∧
      (s.scCorrect n i c).hidden H.scBandwidth (17 * n + i) = ofI 64 c.bandwidth) ∧
    Effect s ((s.scCorrect n i c).withConv s.conv) [] []
      [hkey H.scOffset (17 * n + i), hkey H.scGain (17 * n + i), hkey H.scSkew (17 * n + i), hkey H.scBandwidth (17 * n + i)] := by
  unfold State.scCorrect
  refine ⟨by simp, by simp [State.hidden_setHidden_ne, H.scOffset, H.scGain, H.scSkew, H.scBandwidth], ?_⟩
  simp only [State.setHidden_withConv, State.setCv_withConv, State.withConv_self]
  exact (((Effect.refl.setHidden (by simp)).setHidden (by simp)).setHidden (by simp)).setHidden (by simp)

end Sys2Proof.Machine
end

section
/-! SUPPORT. The end of a rotation and the calibration step (R90 to R93). -/

namespace Sys2Proof.Machine

variable {s : State} {ch : Fin 4} {n i slot : Nat} {keys hids : List Nat}

/-! ### The rotation ends -/

/-- What the end of a rotation shows, before its event. -/
def State.rotShown (s : State) (n i now state : Nat) : State :=
  (((((s.setCv n { s.cv n with run := 0, again := false }).setReg O.scState 1 n i).setReg O.calTref (s.reg O.dieTemp n) n).setReg
    O.calLastT96 now n).setReg O.calState state n).setHidden H.calStale 1

/-- The end of a rotation as its event is told. -/
def State.rotTold (s : State) (n i now state : Nat) : State := (s.rotShown n i now state).raise (cvEvent n 2) (s.reg O.dieTemp n)

theorem State.rotEnd_eq (s : State) (n i : Nat) : ∃ now state, now = s.now ∧ s.rotEnd n i =
    if f32 ((s.rotTold n i now state).plan O.calDt n) < ratAbs (f32 (s.reg O.dieTemp n) - f32 (s.cv n).tStart)
    then (s.rotTold n i now state).rotStart n i 1 else s.rotTold n i now state :=
  ⟨_, _, State.now_congr rfl, rfl⟩

/-- After a rotation within `CAL_DT` of the temperature at its start none follows. -/
theorem State.rotEnd_near (h : ratAbs (f32 (s.reg O.dieTemp n) - f32 (s.cv n).tStart) ≤ f32 (s.plan O.calDt n)) :
    ∃ now state, now = s.now ∧ s.rotEnd n i = s.rotTold n i now state := by
  obtain ⟨now, state, hnow, hend⟩ := s.rotEnd_eq n i
  have hdt : (s.rotTold n i now state).plan O.calDt n = s.plan O.calDt n := State.plan_raise ..
  rw [hdt, if_neg (Rat.not_lt.mpr h)] at hend
  exact ⟨now, state, hnow, hend⟩

theorem State.rotShown_reads (s : State) (n i now state : Nat) :
    ((s.rotShown n i now state).cv n).run = 0 ∧ (s.rotShown n i now state).reg O.scState n i = 1 ∧
    (s.rotShown n i now state).reg O.calTref n = s.reg O.dieTemp n ∧ (s.rotShown n i now state).reg O.calLastT96 n = now ∧
    (s.rotShown n i now state).hidden H.calStale = 1 := by
  unfold State.rotShown
  refine ⟨by simp, ?_, ?_, ?_, by simp⟩
  · simp (disch := decide) [State.scState_setReg_channel]
  · simp (disch := decide) [State.reg_setReg_channel]
  · simp (disch := decide) [State.reg_setReg_channel]

theorem State.rotShown_effect {t : State} (now state : Nat) (h : Effect s (t.withConv s.conv) [] keys hids)
    (hk : ∀ k ∈ [O.scState.key n i, O.calTref.key n 0, O.calLastT96.key n 0, O.calState.key n 0], k ∈ keys)
    (hh : hkey H.calStale ∈ hids) : Effect s ((t.rotShown n i now state).withConv s.conv) [] keys hids := by
  unfold State.rotShown
  simp only [State.setHidden_withConv, State.setReg_withConv, State.setCv_withConv]
  exact ((((h.setReg (hk _ (by simp))).setReg (hk _ (by simp))).setReg (hk _ (by simp))).setReg (hk _ (by simp))).setHidden hh

/-- What the end of a rotation shows and tells, and what it leaves alone beside the corrections of its last run. -/
theorem State.rotTold_spec {t : State} (now state : Nat) (h : Effect s (t.withConv s.conv) [] [] hids) :
    ((t.rotTold n i now state).cv n).run = 0 ∧ (t.rotTold n i now state).reg O.scState n i = 1 ∧
    (t.rotTold n i now state).reg O.calTref n = t.reg O.dieTemp n ∧ (t.rotTold n i now state).reg O.calLastT96 n = now ∧
    (t.rotTold n i now state).hidden H.calStale = 1 ∧
    Effect s { t.rotTold n i now state with conv := s.conv } [(cvEvent n 2, t.reg O.dieTemp n)]
      [O.scState.key n i, O.calTref.key n 0, O.calLastT96.key n 0, O.calState.key n 0] (hids ++ [hkey H.calStale]) := by
  obtain ⟨hrun, hstate, htref, hlast, hstale⟩ := t.rotShown_reads n i now state
  unfold State.rotTold
  refine ⟨by simp [hrun], ?_, ?_, ?_, by simp [hstale], ?_⟩
  · simp (disch := decide) [State.reg_raise_unit, hstate]
  · simp (disch := decide) [State.reg_raise_unit, htref]
  · simp (disch := decide) [State.reg_raise_unit, hlast]
  · rw [State.withConv_eq, State.raise_withConv]
    refine Effect.raise_unit _ _ (State.rotShown_effect now state (h.mono (by simp) (by simp +contextual)) (by simp) (by simp)) ?_
    simp (disch := decide) [Row.key_ge]

/-! ### The calibration step -/

theorem State.oldestSlot_lt (s : State) (n : Nat) : s.oldestSlot n < 16 := by
  refine List.foldlRecOn _ _ (motive := (· < 16)) (by decide) fun best hbest slot hslot => ?_
  split
  · exact List.mem_range.mp hslot
  · exact hbest

/-- A calibration step has exchanged the holder of its slot. -/
def State.stepPlaced (s : State) (n slot inc out marks : Nat) : State :=
  ((s.setCv n { (s.cv n).mark ((s.cv n).next / 65536) marks with scIn := inc, scOut := out, slot := slot }).setReg O.slotSc inc n
    slot).setReg O.scState 0 n inc

/-- What it shows, before its event. -/
def State.stepShown (s : State) (n slot inc out marks : Nat) : State :=
  (s.stepPlaced n slot inc out marks).setReg O.calSeq ((s.reg O.calSeq n + 1) % 2 ^ O.calSeq.width) n

/-- The data of its event. -/
def State.stepData (s : State) (n slot inc out : Nat) : Nat :=
  (s.reg O.calSeq n + 1) % 2 ^ O.calSeq.width + 2 ^ 16 * slot + 2 ^ 20 * inc + 2 ^ 25 * out

theorem State.calStep_eq (s : State) (n slot inc out marks : Nat) :
    s.calStep n slot inc out marks = (s.stepShown n slot inc out marks).raise (cvEvent n 1) (s.stepData n slot inc out) := by
  have hseq : (s.stepPlaced n slot inc out marks).reg O.calSeq n = s.reg O.calSeq n := by
    simp (disch := decide) [State.stepPlaced, State.reg_setReg_scState, State.reg_setReg_slotSc]
  have hbump : (s.stepPlaced n slot inc out marks).bump O.calSeq n = s.stepShown n slot inc out marks := by
    rw [State.bump, hseq, State.stepShown]
  have hcount : (s.stepShown n slot inc out marks).reg O.calSeq n = (s.reg O.calSeq n + 1) % 2 ^ O.calSeq.width :=
    State.reg_setReg_same ..
  rw [State.stepData, ← hcount, ← hbump]
  rfl

theorem State.stepShown_reads (s : State) {slot : Nat} (n inc out marks : Nat) (hslot : slot < 16) :
    (s.stepShown n slot inc out marks).cv n =
      { (s.cv n).mark ((s.cv n).next / 65536) marks with scIn := inc, scOut := out, slot := slot } ∧
    (s.stepShown n slot inc out marks).reg O.slotSc n slot = inc ∧ (s.stepShown n slot inc out marks).reg O.scState n inc = 0 ∧
    (s.stepShown n slot inc out marks).reg O.calSeq n = (s.reg O.calSeq n + 1) % 2 ^ O.calSeq.width := by
  unfold State.stepShown State.stepPlaced
  refine ⟨by simp, ?_, ?_, by simp⟩
  · simp (disch := decide) [State.slotSc_setReg_channel, State.slotSc_setReg_scState hslot]
  · simp (disch := decide) [State.scState_setReg_channel]

/-- The channel at its next run. -/
def State.nextRun (s : State) (n : Nat) : Conv := { s.cv n with run := (s.cv n).run + 1, overlap := false, again := false }

/-- What the step leaves, once the sub-converter that it took out is the idle one. -/
def State.stepped (s : State) (n slot inc out : Nat) : State :=
  ((s.calStep n slot inc out BF.cal).setReg O.scState 2 n out).setReg O.idleSc out n

theorem exec_calOverlapEnd {d g : Nat} (hidle : s.idle ch.val = some i) (hrun : (s.cv ch.val).run ≠ 0)
    (hlap : (s.cv ch.val).overlap = true) (hlimit : 100 * d ≤ 800 * 65536 + g) :
    exec (.calOverlapEnd ch d g) s =
      .next ((s.setCv ch.val (s.nextRun ch.val)).stepped ch.val (s.oldestSlot ch.val) i
        (s.reg O.slotSc ch.val (s.oldestSlot ch.val))) := by
  have hwithin : ¬ 800 * 65536 + g < 100 * d := not_lt.mpr hlimit
  change execCalOverlapEnd ch d g s = _
  simp only [execCalOverlapEnd, hidle, hrun, hlap, hwithin, Bool.not_true, Bool.false_eq_true, or_self, if_false]
  rfl

theorem State.stepped_reads (s : State) {slot inc out : Nat} (n : Nat) (hslot : slot < 16) (hne : inc ≠ out) :
    (s.stepped n slot inc out).cv n =
      { (s.cv n).mark ((s.cv n).next / 65536) BF.cal with scIn := inc, scOut := out, slot := slot } ∧
    (s.stepped n slot inc out).reg O.slotSc n slot = inc ∧ (s.stepped n slot inc out).reg O.scState n inc = 0 ∧
    (s.stepped n slot inc out).reg O.scState n out = 2 ∧ (s.stepped n slot inc out).reg O.idleSc n = out ∧
    (s.stepped n slot inc out).reg O.calSeq n = (s.reg O.calSeq n + 1) % 2 ^ O.calSeq.width := by
  obtain ⟨hcv, hslotSc, hstate, hseq⟩ := s.stepShown_reads n inc out BF.cal hslot
  unfold State.stepped
  rw [State.calStep_eq]
  refine ⟨by simp [hcv], ?_, ?_, ?_, by simp, ?_⟩
  · simp (disch := decide) [State.slotSc_setReg_channel, State.slotSc_setReg_scState hslot, State.reg_raise_unit, hslotSc]
  · simp (disch := decide) [State.scState_setReg_channel, State.scState_setReg_ne hne, State.reg_raise_unit, hstate]
  · simp (disch := decide) [State.scState_setReg_channel]
  · simp (disch := decide) [State.reg_setReg_channel, State.reg_setReg_scState, State.reg_raise_unit, hseq]

theorem State.stepped_effect {t : State} (slot inc out : Nat) (h : t.withConv s.conv = s) :
    Effect s ((t.stepped n slot inc out).withConv s.conv) [(cvEvent n 1, t.stepData n slot inc out)]
      [O.slotSc.key n slot, O.scState.key n inc, O.scState.key n out, O.idleSc.key n 0, O.calSeq.key n 0] [] := by
  unfold State.stepped
  rw [State.calStep_eq, State.stepShown, State.stepPlaced]
  simp only [State.setReg_withConv, State.raise_withConv, State.setCv_withConv, h]
  exact ((((Effect.refl.setReg (by simp)).setReg (by simp)).setReg (by simp)).raise_unit _ _
    (by simp (disch := decide) [Row.key_ge])).setReg (by simp) |>.setReg (by simp)

end Sys2Proof.Machine
end

section
/-! SUPPORT. Hard failures of sub-converters (R97, R98): reported, and swapped out at the block boundary. -/

namespace Sys2Proof.Machine

variable {s t : State} {ch : Fin 4} {n i f slot : Nat}

/-! ### A failure is reported -/

/-- The channel with its first failed sub-converter: it waits for its swap. -/
def State.firstFailed (s : State) (n sc : Nat) : Conv :=
  { s.cv n with failed := some sc, suspectFrom := if s.idx ≤ (s.cv n).next then (s.cv n).next else (s.cv n).next + 65536 }

theorem exec_scHardFailure_first {sc : Fin 17} (hactive : s.reg O.scState ch.val sc.val = 0) (hnone : (s.cv ch.val).failed = none)
    (hmore : (s.cv ch.val).more = []) : exec (.scHardFailure ch sc) s =
      .next (if (s.idle ch.val).isSome then s.setCv ch.val (s.firstFailed ch.val sc.val)
        else (s.setCv ch.val (s.firstFailed ch.val sc.val)).fault (0x20 + ch.val) (s.cv ch.val).next) := by
  change execScHardFailure ch sc s = _
  simp [execScHardFailure, hactive, hnone, hmore, State.firstFailed, apply_ite Host.Outcome.next]

theorem exec_scHardFailure_further {sc : Fin 17} (hactive : s.reg O.scState ch.val sc.val = 0) (hfailed : (s.cv ch.val).failed = some f)
    (hne : f ≠ sc.val) (hmore : (s.cv ch.val).more = []) : exec (.scHardFailure ch sc) s =
      .next ((s.setCv ch.val { s.cv ch.val with more := [sc.val] }).fault (0x20 + ch.val) (s.cv ch.val).next) := by
  change execScHardFailure ch sc s = _
  simp [execScHardFailure, hactive, hfailed, hmore, hne]

/-- A channel's own state with the fault of its source. -/
theorem State.setCv_fault_spec (s : State) (n : Nat) (c : Conv) (src d : Nat) :
    ((s.setCv n c).fault src d).cv n = c ∧ ((s.setCv n c).fault src d).hidden H.drive src = 1 ∧
      ((s.setCv n c).fault src d).hidden H.driveData src = d ∧
      Effect s { (s.setCv n c).fault src d with conv := s.conv } [] [] [hkey H.drive src, hkey H.driveData src] := by
  have hne : H.drive * 2 ^ 20 + src ≠ H.driveData * 2 ^ 20 + src := by simp only [H.drive, H.driveData]; omega
  unfold State.fault
  refine ⟨by simp, ?_, by simp, ?_⟩
  · simp [State.hidden_setHidden_ne _ _ _ _ _ _ hne]
  · simp only [State.withConv_eq, State.setHidden_withConv, State.setCv_withConv, State.withConv_self]
    exact (Effect.refl.setHidden (by simp)).setHidden (by simp)

/-! ### The forced swap -/

/-- The channel of an abandoned run. -/
def State.abandoned (s : State) (n : Nat) : State := s.setCv n { s.cv n with run := 0, overlap := false, again := false }

/-- An abandoned run touches its channel, the state of the idle sub-converter and `CAL_STATE` alone. -/
theorem State.runAbandon_cases (s : State) (n : Nat) : s.runAbandon n = s.abandoned n ∨
    (∃ v, s.runAbandon n = (s.abandoned n).setReg O.calState v n) ∨
    ∃ i v, s.runAbandon n = ((s.abandoned n).setReg O.scState 1 n i).setReg O.calState v n := by
  unfold State.runAbandon
  dsimp only
  split
  · split
    · exact .inr (.inr ⟨_, _, rfl⟩)
    · exact .inr (.inl ⟨_, rfl⟩)
  · exact .inl rfl

/-- A failure that waits goes on waiting. -/
theorem State.runAbandon_spec (s : State) (n : Nat) :
    (s.runAbandon n).cv n = { s.cv n with run := 0, overlap := false, again := false } ∧ (s.runAbandon n).offConv = s.offConv := by
  have hcv : (s.abandoned n).cv n = { s.cv n with run := 0, overlap := false, again := false } := State.cv_setCv_same
  have hrest : (s.abandoned n).offConv = s.offConv := State.setCv_offConv ..
  rcases s.runAbandon_cases n with h | ⟨v, h⟩ | ⟨i, v, h⟩
  all_goals simp [h, hcv, hrest]

/-- The mark of a retired unit and the counts of its pool. -/
def State.retirePooled (s : State) (pool group unit : Nat) : State :=
  let t := (s.setHidden H.retired 1 (unitKey pool group unit)).bumpSat O.poolRetired 0 (pool - 1)
  t.setReg O.poolSpares (t.reg O.poolSpares 0 (pool - 1) - 1) 0 (pool - 1)

/-- The record that retires a unit. -/
def State.retireRecord (s : State) (pool group unit reason : Nat) (hard : Bool) : LedgerRec :=
  { type := 1, pool := pool, group := group, unit := unit, t96 := s.now, data := reason + 256 * b2n hard }

/-- The machine with other happenings before its ledger. -/
def State.withLedger (s : State) (l : List LedgerRec) : State := { s with ledgerDue := l }

variable {l : List LedgerRec}

@[simp] theorem State.cv_withLedger : (s.withLedger l).cv n = s.cv n := rfl
@[simp] theorem State.reg_withLedger (r : Row) (i j : Nat) : (s.withLedger l).reg r i j = s.reg r i j := rfl
@[simp] theorem State.hidden_withLedger (n i : Nat) : (s.withLedger l).hidden n i = s.hidden n i := rfl
@[simp] theorem State.withLedger_offConv : (s.withLedger l).offConv = s.offConv.withLedger l := rfl

theorem State.retire_eq (s : State) (pool group unit reason : Nat) (hard : Bool) : s.retire pool group unit reason hard true =
    (s.retirePooled pool group unit).withLedger (s.ledgerDue ++ [s.retireRecord pool group unit reason hard]) := by
  have hnow : (s.retirePooled pool group unit).now = s.now := State.now_congr rfl
  rw [State.retireRecord, ← hnow]
  rfl

/-- A retirement of a spare unit marks it, puts its record before the ledger, and reaches no object below those of the pools. -/
theorem State.retire_spec (s : State) (pool group unit reason : Nat) (hard : Bool) :
    (s.retire pool group unit reason hard true).cv n = s.cv n ∧
    (s.retire pool group unit reason hard true).hidden H.retired (unitKey pool group unit) = 1 ∧
    (∀ (r : Row) (k j : Nat), r.key k j < 0x380200 → (s.retire pool group unit reason hard true).reg r k j = s.reg r k j) ∧
    (s.retire pool group unit reason hard true).offConv =
      s.offConv.withLedger (s.ledgerDue ++ [s.retireRecord pool group unit reason hard]) := by
  have hpools : 0x380200 ≤ O.poolRetired.key 0 (pool - 1) ∧ 0x380200 ≤ O.poolSpares.key 0 (pool - 1) := by
    simp only [Row.key, O.poolRetired, O.poolSpares]
    omega
  obtain ⟨hretired, hspares⟩ := hpools
  rw [State.retire_eq, State.retirePooled, State.bumpSat]
  refine ⟨by simp, by simp, fun r k j hlow => ?_, by simp⟩
  rw [State.reg_withLedger, State.reg_setReg_ne _ _ _ _ _ _ _ _ (by omega), State.reg_setReg_ne _ _ _ _ _ _ _ _ (by omega),
    State.reg_setHidden]

/-- A failed sub-converter is shown and told. -/
def State.scFailed (s : State) (n sc : Nat) : State := (s.setReg O.scState 3 n sc).raise (cvEvent n 3) (sc + 256 * 7)

theorem State.scFailed_reads (s : State) (n sc : Nat) : (s.scFailed n sc).reg O.scState n sc = 3 ∧
    (∀ k, k ≠ sc → (s.scFailed n sc).reg O.scState n k = s.reg O.scState n k) ∧
    (∀ k < 16, (s.scFailed n sc).reg O.slotSc n k = s.reg O.slotSc n k) := by
  unfold State.scFailed
  refine ⟨?_, fun k hne => ?_, fun k hk => ?_⟩
  · simp (disch := decide) [State.reg_raise_unit]
  · simp (disch := decide) [State.reg_raise_unit, State.scState_setReg_ne hne]
  · simp (disch := decide) [State.reg_raise_unit, State.slotSc_setReg_scState hk]

theorem State.scFailed_rest (s : State) (n sc : Nat) : (s.scFailed n sc).cv n = s.cv n ∧ (s.scFailed n sc).offConv = s.offConv := by
  simp [State.scFailed]

theorem State.retireRecord_congr (h : t.offConv = s.offConv) (pool group unit reason : Nat) (hard : Bool) :
    t.retireRecord pool group unit reason hard = s.retireRecord pool group unit reason hard := by
  simp only [State.retireRecord, State.now_of_offConv h]

/-- A sub-converter's retirement after a hard failure. -/
theorem State.scRetire_spec (s : State) {n sc : Nat} (hn : n < 4) (hsc : sc < 17) :
    (s.scRetire n sc 7).cv n = s.cv n ∧ (s.scRetire n sc 7).hidden H.retired (unitKey 1 n sc) = 1 ∧
    (s.scRetire n sc 7).reg O.scState n sc = 3 ∧
    (∀ k < 17, k ≠ sc → (s.scRetire n sc 7).reg O.scState n k = s.reg O.scState n k) ∧
    (∀ k < 16, (s.scRetire n sc 7).reg O.slotSc n k = s.reg O.slotSc n k) ∧
    (s.scRetire n sc 7).offConv = s.offConv.withLedger (s.ledgerDue ++ [s.retireRecord 1 n sc 7 true]) := by
  have hstate (k : Nat) (hk : k < 17) : O.scState.key n k < 0x380200 := by rw [key_scState]; omega
  have hslot (k : Nat) (hk : k < 16) : O.slotSc.key n k < 0x380200 := by rw [key_slotSc]; omega
  have hretire : s.scRetire n sc 7 = (s.scFailed n sc).retire 1 n sc 7 true true := rfl
  obtain ⟨hself, hothers, hslots⟩ := s.scFailed_reads n sc
  obtain ⟨hcv, hrest⟩ := s.scFailed_rest n sc
  obtain ⟨hcv', hmark, hreg, hrest'⟩ := (s.scFailed n sc).retire_spec (n := n) 1 n sc 7 true
  rw [State.retireRecord_congr hrest, State.ledgerDue_of_offConv hrest, hrest] at hrest'
  rw [hretire]
  exact ⟨hcv'.trans hcv, hmark, (hreg _ _ _ (hstate sc hsc)).trans hself,
    fun k hk hne => (hreg _ _ _ (hstate k hk)).trans (hothers k hne),
    fun k hk => (hreg _ _ _ (hslot k hk)).trans (hslots k hk), hrest'⟩

/-- Without a spare, its swaps done and not gap-free, a channel only shows so. -/
theorem State.cvNoSpare_eq (hfailed : (s.cv n).failed = none) (hmode : s.plan O.calMode n ≠ 1) : s.cvNoSpare n =
    ((((s.setCv n { s.cv n with run := 0, overlap := false, again := false, due := 0 }).setReg O.calState 3 n).setReg O.sparePresent 0
      n).setReg O.idleSc 0xFF n).raise (cvEvent n 4) (s.plan O.calMode n) := by
  unfold State.cvNoSpare
  simp [hfailed, hmode]

theorem State.cvNoSpare_spec (hfailed : (s.cv n).failed = none) (hmode : s.plan O.calMode n ≠ 1) :
    ((s.cvNoSpare n).cv n).failed = none ∧ (∀ k, (s.cvNoSpare n).reg O.slotSc n k = s.reg O.slotSc n k) ∧
    (∀ k, (s.cvNoSpare n).reg O.scState n k = s.reg O.scState n k) ∧ (s.cvNoSpare n).reg O.idleSc n = 0xFF ∧
    (s.cvNoSpare n).reg O.sparePresent n = 0 ∧ (∀ h k, (s.cvNoSpare n).hidden h k = s.hidden h k) ∧
    (s.cvNoSpare n).offConv = s.offConv := by
  rw [State.cvNoSpare_eq hfailed hmode]
  refine ⟨by simp [hfailed], fun k => ?_, fun k => ?_, ?_, ?_, fun h k => by simp, by simp⟩
  · simp (disch := decide) [State.reg_raise_unit, State.slotSc_setReg_channel]
  · simp (disch := decide) [State.reg_raise_unit, State.scState_setReg_channel]
  · simp (disch := decide) [State.reg_raise_unit]
  · simp (disch := decide) [State.reg_raise_unit, State.reg_setReg_channel]

/-- The channel's only failure has its swap: what waited is clear. -/
def State.swapBegun (s : State) (n : Nat) : State :=
  (s.runAbandon n).setCv n { (s.runAbandon n).cv n with failed := none, more := [] }

/-- The failed sub-converter is out and retired, and its source drops its fault. -/
def State.swapped (s : State) (n slot inc out : Nat) : State :=
  (((s.swapBegun n).calStep n slot inc out (BF.cal + BF.retire)).scRetire n out 7).unfault (0x20 + n)

theorem exec_scForcedSwap (hfailed : (s.cv ch.val).failed = some f) (hmore : (s.cv ch.val).more = [])
    (hidle : s.idle ch.val = some i) (hslot : (List.range 16).find? (fun k => s.reg O.slotSc ch.val k == f) = some slot) :
    exec (.scForcedSwap ch) s = .next ((s.swapped ch.val slot i f).cvNoSpare ch.val) := by
  have hmore' : ((s.runAbandon ch.val).cv ch.val).more = [] := by rw [(s.runAbandon_spec ch.val).1]; exact hmore
  change execScForcedSwap ch s = _
  simp only [execScForcedSwap, hfailed, hidle, hslot, hmore']
  rfl

/-- What a calibration step shows, and what it leaves alone. -/
theorem State.calStep_spec (s : State) {slot : Nat} (n inc out marks : Nat) (hslot : slot < 16) :
    ((s.calStep n slot inc out marks).cv n).failed = (s.cv n).failed ∧ (s.calStep n slot inc out marks).reg O.slotSc n slot = inc ∧
    (s.calStep n slot inc out marks).reg O.scState n inc = 0 ∧ (s.calStep n slot inc out marks).offConv = s.offConv := by
  obtain ⟨hcv, hslotSc, hstate, -⟩ := s.stepShown_reads n inc out marks hslot
  have hfailed := congrArg Conv.failed hcv
  rw [State.calStep_eq, State.cv_raise, State.reg_raise_unit _ _ (by decide), State.reg_raise_unit _ _ (by decide), State.raise_offConv]
  exact ⟨hfailed, hslotSc, hstate, by simp [State.stepShown, State.stepPlaced]⟩

/-- What a swap shows, whatever comes of its spare. -/
theorem State.swapped_spec (s : State) {n slot inc out : Nat} (hn : n < 4) (hslot : slot < 16) (hinc : inc < 17) (hout : out < 17)
    (hne : inc ≠ out) :
    ((s.swapped n slot inc out).cv n).failed = none ∧ (s.swapped n slot inc out).reg O.slotSc n slot = inc ∧
    (s.swapped n slot inc out).reg O.scState n inc = 0 ∧ (s.swapped n slot inc out).reg O.scState n out = 3 ∧
    (s.swapped n slot inc out).hidden H.retired (unitKey 1 n out) = 1 ∧ (s.swapped n slot inc out).hidden H.drive (0x20 + n) = 0 ∧
    (s.swapped n slot inc out).offConv = s.offConv.withLedger (s.ledgerDue ++ [s.retireRecord 1 n out 7 true]) := by
  have hkey : H.retired * 2 ^ 20 + unitKey 1 n out ≠ H.drive * 2 ^ 20 + (0x20 + n) := by
    simp only [H.retired, H.drive, unitKey]
    omega
  have hbegun : (s.swapBegun n).offConv = s.offConv := (State.setCv_offConv ..).trans (s.runAbandon_spec n).2
  have hnone : ((s.swapBegun n).cv n).failed = none := by rw [State.swapBegun, State.cv_setCv_same]
  obtain ⟨hfailed, hholder, hactive, hstep⟩ := (s.swapBegun n).calStep_spec n inc out (BF.cal + BF.retire) hslot
  rw [State.swapped]
  generalize (s.swapBegun n).calStep n slot inc out (BF.cal + BF.retire) = u at *
  rw [hbegun] at hstep
  obtain ⟨hcv, hretired, hgone, hothers, hslots, hrest⟩ := u.scRetire_spec hn hout
  rw [State.retireRecord_congr hstep, State.ledgerDue_of_offConv hstep, hstep] at hrest
  generalize u.scRetire n out 7 = v at *
  refine ⟨?_, (hslots slot hslot).trans hholder, (hothers inc hinc hne).trans hactive, hgone, ?_, State.hidden_setHidden_same .., ?_⟩
  · rw [State.cv_unfault, hcv, hfailed, hnone]
  · rw [State.unfault, State.hidden_setHidden_ne _ _ _ _ _ _ hkey, hretired]
  · rw [State.unfault_offConv, hrest]

/-- What a record in the ledger and a swap's own writes leave. -/
theorem State.swap_frame (h : t.offConv = s.offConv.withLedger l) :
    t.ledgerDue = l ∧ (∀ (r : Row) (k j : Nat), t.plan r k j = s.plan r k j) ∧
    ({ t with conv := s.conv, regs := s.regs, hid := s.hid, raises := s.raises, ledgerDue := s.ledgerDue } : State) = s := by
  have hdue := congrArg State.ledgerDue h
  have hplan (r : Row) (k j : Nat) := congrArg (fun u : State => u.plan r k j) h
  have hrest := congrArg (fun u : State =>
    { u with conv := s.conv, regs := s.regs, hid := s.hid, raises := s.raises, ledgerDue := s.ledgerDue }) h
  exact ⟨hdue, hplan, hrest⟩

/-- Settles O15: each row of a rotation does what its lemma above says, and a forced swap is a calibration step, a retirement and the
loss of the spare. -/
theorem backgroundCalibration : Obligations.BackgroundCalibration := by
  unfold Obligations.BackgroundCalibration
  refine ⟨?_, ?_, ?_, ?_, ?_, ?_, ?_, ?_, ?_, ?_, ?_⟩
  · intro s ch hon hmode hidle hfar hrun hdue
    have hexec := exec_calEvaluate_far hon hmode hidle hfar
    rw [State.calDue_idle 1 hrun hdue] at hexec
    exact ⟨_, hexec, State.cv_setCv_same, State.rotation_starts s.out (by decide) hon hmode hidle hrun, rfl⟩
  · intro s m ch hm hon hmode hidle hrun hdue hpower
    have hact := actCalCmd_ok hon hmode hidle hrun hpower
    rw [State.calDue_idle 3 hrun hdue] at hact
    exact ⟨_, State.command_ok hm rfl (by decide) (by decide) hact, replied_congr m rfl, State.cv_setCv_same,
      State.rotation_starts _ (by decide) hon hmode hidle hrun, rfl⟩
  · intro s ch i hon hmode hidle hrun hdue
    exact ⟨_, exec_calRotStart hon hmode hidle hrun hdue, s.rotStart_spec ch.val i _⟩
  · intro s ch c i hidle hrun hlast hlap hgood
    have hexec := exec_calRunEnd (c := c) hidle hrun hlap
    rw [if_neg (not_not_intro hgood), if_pos hlast] at hexec
    obtain ⟨hcv, hread, heff⟩ := s.scCorrect_spec ch.val i c
    obtain ⟨hoffset, hgain, hskew, hband⟩ := hread
    generalize s.scCorrect ch.val i c = u at *
    refine ⟨_, hexec, ?_, hoffset, hgain, hskew, hband, heff⟩
    rw [State.cv_setCv_same, hcv]
  · intro s ch c i hidle hrun hlap hgood hnear
    have hexec := exec_calRunEnd (c := c) hidle (by omega) hlap
    rw [if_neg (not_not_intro hgood), if_neg (by omega)] at hexec
    obtain ⟨hcv, -, heff⟩ := s.scCorrect_spec ch.val i c
    have htemp : (s.scCorrect ch.val i c).reg O.dieTemp ch.val = s.reg O.dieTemp ch.val := State.reg_scCorrect ..
    have hstart : ((s.scCorrect ch.val i c).cv ch.val).tStart = (s.cv ch.val).tStart := by rw [hcv]
    have hdt : (s.scCorrect ch.val i c).plan O.calDt ch.val = s.plan O.calDt ch.val := State.plan_scCorrect ..
    have hnow' : (s.scCorrect ch.val i c).now = s.now := State.now_of_offConv (State.scCorrect_offConv ..)
    generalize s.scCorrect ch.val i c = u at *
    rw [← htemp, ← hstart, ← hdt] at hnear
    obtain ⟨now, state, hnow, hend⟩ := State.rotEnd_near (i := i) hnear
    obtain ⟨hended, hstate, htref, hstamp, hstale, heff'⟩ := State.rotTold_spec (i := i) now state heff
    rw [hend] at hexec
    exact ⟨_, hexec, hended, hstate, htref.trans htemp, hstamp.trans (hnow.trans hnow'), hstale, htemp ▸ heff'⟩
  · intro s ch c hidle hrun hlap hbad hfirst
    obtain ⟨i, hi⟩ := Option.isSome_iff_exists.mp hidle
    have hexec := exec_calRunEnd (c := c) hi hrun hlap
    rw [if_pos hbad, State.runFailed, if_neg (ne_true_of_eq_false hfirst)] at hexec
    exact ⟨_, hexec, State.cv_setCv_same, rfl⟩
  · intro s ch d g i hidle _ _ hne hrun hlap hlimit
    obtain ⟨hcv, hslot, hin, hout, hidleSc, hseq⟩ := (s.setCv ch.val (s.nextRun ch.val)).stepped_reads ch.val
      (s.oldestSlot_lt ch.val) hne
    refine ⟨_, exec_calOverlapEnd hidle hrun hlap hlimit, ?_, hslot, hin, hout, hidleSc, hseq, State.stepped_effect _ _ _ rfl⟩
    rw [hcv, State.cv_setCv_same]
    rfl
  · intro s ch sc hactive hidle hnone hmore
    have hexec := exec_scHardFailure_first hactive hnone hmore
    rw [if_pos hidle] at hexec
    exact ⟨_, hexec, State.cv_setCv_same, rfl⟩
  · intro s ch sc hactive hidle hnone hmore
    have hexec := exec_scHardFailure_first hactive hnone hmore
    rw [if_neg (by simp [hidle])] at hexec
    obtain ⟨hcv, hdrive, hdata, heff⟩ := s.setCv_fault_spec ch.val (s.firstFailed ch.val sc.val) (0x20 + ch.val) (s.cv ch.val).next
    exact ⟨_, hexec, congrArg Conv.failed hcv, hdrive, hdata, heff⟩
  · intro s ch sc f hactive hfailed hne hmore
    obtain ⟨hcv, hdrive, -, heff⟩ := s.setCv_fault_spec ch.val { s.cv ch.val with more := [sc.val] } (0x20 + ch.val) (s.cv ch.val).next
    exact ⟨_, exec_scHardFailure_further hactive hfailed hne hmore, hcv, hdrive, heff⟩
  · intro s ch f i slot hfailed hmore hidle hi hf hne hslot hfind hmode
    obtain ⟨hnone, hholder, hin, hout, hretired, hdrive, hrest⟩ := s.swapped_spec ch.isLt hslot hi hf hne
    have hmode' : (s.swapped ch.val slot i f).plan O.calMode ch.val ≠ 1 := by rwa [(State.swap_frame hrest).2.1]
    obtain ⟨hnone', hslots, hstates, hidleSc, hspare, hhid, hrest'⟩ := State.cvNoSpare_spec hnone hmode'
    obtain ⟨hrecord, -, hframe⟩ := State.swap_frame (hrest'.trans hrest)
    exact ⟨_, exec_scForcedSwap hfailed hmore hidle hfind, hnone', (hslots slot).trans hholder, (hstates i).trans hin,
      (hstates f).trans hout, hidleSc, hspare, beq_iff_eq.mpr ((hhid _ _).trans hretired), (hhid _ _).trans hdrive, hrecord, hframe⟩

end Sys2Proof.Machine
end

section
/-! SUPPORT. The plan-commit entry of a pending plan (R64, R319), which `TA_VALID` = 0 does not free. -/

namespace Sys2Proof.Machine

variable {s : State} {m : Master}

/-- R508: once ownership, size and value pass, the object's own rule decides. -/
theorem State.judge_owner {r : Row} {v : Nat} {f : Act} (hr : r.host = false) (ho : s.owns m = true) (hv : v < 2 ^ r.width)
    (hc : r.checks (v &&& r.mask) = true) : s.judge m r v f = f s := by
  simp [State.judge, hr, ho, hc, Nat.not_le.mpr hv]

/-- R319: an armed entry of kind 1 belongs to the pending plan. -/
theorem actTaClear_planCommit {e : Nat} (harmed : s.reg O.taState e = 2) (hkind : s.reg O.taKind e = 1) :
    actTaClear e s = .error Abort.range := by
  simp only [actTaClear, harmed, if_pos hkind]

/-- The owner's `TA_VALID` = 0 on the entry of the pending plan is answered ACC_RANGE, and frees nothing. -/
theorem exec_taValidClear_planCommit {e : Fin 512} (h : Owner s m) (harmed : s.reg O.taState e.val = 2)
    (hkind : s.reg O.taKind e.val = 1) : exec (.taValidClear m e) s = .next (s.answer m Abort.range) := by
  have hjudge : s.judge m O.taValid 0 (actTaClear e.val) = .error Abort.range :=
    (State.judge_owner rfl h.2.2 (by decide) (by decide)).trans (actTaClear_planCommit harmed hkind)
  exact State.request_error (a := fun s => s.judge m O.taValid 0 (actTaClear e.val)) h.served hjudge

/-- A device that is ready, its host connected and the owner, its time set. An ARM of the empty staged plan has placed entry 0. -/
def planPending : State := (hostOwns.setReg O.tcValid 1).armPlan 0

/-- Refutes O35: its third clause frees every armed entry at `TA_VALID` = 0. The entry of kind 1 that an ARM placed belongs to the pending
plan: the write is refused (R319), and the entry stays armed. -/
theorem not_timedActions : ¬ Obligations.TimedActions := by
  unfold Obligations.TimedActions
  rintro ⟨-, -, hclear, -⟩
  have howner : Owner planPending .host := by decide +kernel
  have harmed : planPending.reg O.taState 0 = 2 := by decide +kernel
  have hkind : planPending.reg O.taKind 0 = 1 := by decide +kernel
  obtain ⟨t, ht, -, -, hfreed, -⟩ := hclear planPending .host 0 howner harmed
  rw [exec_taValidClear_planCommit (e := 0) howner harmed hkind] at ht
  obtain rfl := Host.Outcome.next.inj ht
  have hstays : (planPending.answer .host Abort.range).reg O.taState 0 = 2 := by decide +kernel
  exact absurd (hstays.symm.trans hfreed) (by decide)

end Sys2Proof.Machine
end

section
/-! SUPPORT. Transform engines (R130 to R145): what a completed spectrum shows of its engine and source, which no unit on the detector
bus writes. -/

namespace Sys2Proof.Machine

variable {s t : State} {e src : Nat}

/-! ### Engines and sources -/

/-- What the machine holds of the engines and their sources beside their objects. -/
def State.engView (s : State) : Map Eng × Map EngSrc := (s.engs, s.engSrcs)

theorem State.eng_congr (h : t.engView = s.engView) : t.eng e = s.eng e :=
  congrArg (fun x : Map Eng × Map EngSrc => Map.get x.1 {} e) h

theorem State.engSrc_congr (h : t.engView = s.engView) : t.engSrc e src = s.engSrc e src :=
  congrArg (fun x : Map Eng × Map EngSrc => Map.get x.2 {} (32 * e + src)) h

@[simp] theorem State.eng_setEng_same (x : Eng) : (s.setEng e x).eng e = x := Map.get_put_same ..

@[simp] theorem State.engSrc_setEngSrc_same (x : EngSrc) : (s.setEngSrc e src x).engSrc e src = x := Map.get_put_same ..

theorem State.foldl_engView {α : Type} {f : State → α → State} (hf : ∀ u a, (f u a).engView = u.engView) (l : List α) :
    (l.foldl f s).engView = s.engView :=
  l.foldlRecOn f (motive := fun u => u.engView = s.engView) rfl fun u hu a _ => (hf u a).trans hu

theorem State.ite_engView {p : Prop} [Decidable p] {a b x : State} (ha : a.engView = x.engView) (hb : b.engView = x.engView) :
    (if p then a else b).engView = x.engView := by
  split
  · exact ha
  · exact hb

theorem Quiet.engView (h : Quiet s t) : t.engView = s.engView := by
  rw [h]
  rfl

/-! ### The detector bus -/

theorem State.offStreams_engView : s.offStreams.engView = s.engView := rfl

theorem State.streamItem_engView (kind n : Nat) (i : Item) : (s.streamItem kind n i).engView = s.engView := by
  rw [← State.offStreams_engView, State.streamItem_offStreams, State.offStreams_engView]

theorem State.setSgLines_engView (n : Nat) (l : List Line) : (s.setSgLines n l).engView = s.engView := rfl
theorem State.withWindows_engView (x : Map Window) : ({ s with windows := x } : State).engView = s.engView := rfl
theorem State.setDnGroups_engView (n : Nat) (l : List Group) : (s.setDnGroups n l).engView = s.engView := rfl

theorem State.detOut_engView (r : DetOut) : (s.detOut r).engView = s.engView := by
  unfold State.detOut
  exact State.streamItem_engView ..

theorem State.sgRecord_engView (r : DetOut) : (s.sgRecord r).engView = s.engView :=
  State.foldl_engView (fun _ _ => State.ite_engView (State.setSgLines_engView ..) rfl) _

theorem State.benchHears_engView (r : DetOut) : (s.benchHears r).engView = s.engView :=
  State.foldl_engView (fun _ _ => State.ite_engView (State.withWindows_engView _) rfl) _

theorem State.busOut_engView (l : List DetOut) : (s.busOut l).engView = s.engView :=
  State.foldl_engView (fun _ r => (State.benchHears_engView r).trans ((State.sgRecord_engView r).trans (State.detOut_engView r))) l

theorem State.dnSpectrum_engView (index last flags : Nat) (bins : List (Int × Int)) :
    (s.dnSpectrum e src index last flags bins).engView = s.engView :=
  State.foldl_engView (fun _ _ => State.ite_engView (State.setDnGroups_engView ..) rfl) _

/-! ### A spectrum completes -/

/-- The source after a spectrum of it: its numbers have moved on by one and by a hop, and it holds the bins (R129, R143). -/
def State.Completed (s : State) (e src : Nat) (bins : List (Int × Int)) (x : EngSrc) : Prop :=
  x.seq = ((s.engSrc e src).seq + 1) % 2 ^ 32 ∧ x.next = (s.engSrc e src).next + s.teH e ∧ x.restart = false ∧ x.bins = bins

/-- The spectrum is in its source, whose interval starts afresh when it is complete. -/
def State.spectrumTaken (s : State) (e src : Nat) (x : EngSrc) (done : Bool) : State :=
  if done then (s.setEngSrc e src x).setEngSrc e src x.clear else s.setEngSrc e src x

/-- The events that a spectrum may tell: its engine has started, it is suspect, it saturated. -/
def State.spectrumTold (s : State) (e te index : Nat) (first : Bool) : State :=
  let t := if first then s.raise (teEvent e 0) index else s
  let u := if te &&& TF.suspect = 0 then t else (t.bumpSat O.teSuspect e).raiseRare (teEvent e 3) index
  if te &&& TF.sat = 0 then u else u.raiseRare (teEvent e 5) index

/-- The engine after a spectrum: the marks that the spectrum carried are used up. -/
def State.engMarked (s : State) (e : Nat) (starting : Bool) : Eng :=
  { s.eng e with starting := starting, swapMark := false, suspect := false }

theorem State.spectrum_eq (s : State) (e src : Nat) (bins : List (Int × Int)) :
    ∃ (x : EngSrc) (done starting first : Bool) (te index : Nat), s.Completed e src bins x ∧
      (s.spectrum e src bins).2 =
        ((s.spectrumTaken e src x done).spectrumTold e te index first).setEng e
          ((s.spectrumTaken e src x done).engMarked e starting) := by
  refine ⟨_, _, _, _, _, _, ?_, rfl⟩
  refine ⟨congrArg (fun n => (n + 1) % 2 ^ 32) ?_, congrArg (· + s.teH e) ?_, rfl, rfl⟩
  · exact (apply_ite EngSrc.seq ..).trans (ite_self _)
  · exact (apply_ite EngSrc.next ..).trans (ite_self _)

theorem State.spectrumTold_quiet (s : State) (e te index : Nat) (first : Bool) : Quiet s (s.spectrumTold e te index first) := by
  have hstarted : Quiet s (if first then s.raise (teEvent e 0) index else s) := Quiet.ite (s.raise_quiet ..) rfl
  unfold State.spectrumTold
  extract_lets u v
  have hcount : Quiet u (u.bumpSat O.teSuspect e) := rfl
  have hsuspect : Quiet s v := Quiet.ite hstarted (hstarted.trans (hcount.trans (State.raiseRare_quiet ..)))
  exact Quiet.ite hsuspect (hsuspect.trans (State.raiseRare_quiet ..))

theorem State.spectrumTaken_engSrc {bins : List (Int × Int)} {x : EngSrc} (h : s.Completed e src bins x) (done : Bool) :
    s.Completed e src bins ((s.spectrumTaken e src x done).engSrc e src) := by
  cases done
  · exact (State.engSrc_setEngSrc_same x).symm ▸ h
  · exact (State.engSrc_setEngSrc_same x.clear).symm ▸ h

theorem State.spectrumTaken_eng (x : EngSrc) (done : Bool) : (s.spectrumTaken e src x done).eng e = s.eng e := by
  cases done <;> rfl

/-- What a completed spectrum leaves in its source and its engine. -/
theorem State.spectrum_spec (s : State) (e src : Nat) (bins : List (Int × Int)) :
    s.Completed e src bins ((s.spectrum e src bins).2.engSrc e src) ∧
      ∃ starting, (s.spectrum e src bins).2.eng e = s.engMarked e starting := by
  obtain ⟨x, done, starting, first, te, index, hx, heq⟩ := s.spectrum_eq e src bins
  have htold := ((s.spectrumTaken e src x done).spectrumTold_quiet e te index first).engView
  rw [heq]
  constructor
  · have hsame := State.engSrc_congr (e := e) (src := src) htold
    exact (hsame ▸ State.spectrumTaken_engSrc hx done :)
  · exact ⟨starting, by rw [State.eng_setEng_same, State.engMarked, State.spectrumTaken_eng]; rfl⟩

/-- The spectrum with its records on the detector bus and in the density planes. -/
theorem exec_spectrumRecord {e : Fin 4} {src : Fin 32} {l : List Int} {x : List (Int × Int)} (hon : s.reg O.teState e.val = 1)
    (htakes : planTakes s.view e.val src.val = true) (hspan : s.spanSamples e.val src.val l = some x)
    (hstay : (s.eng e.val).leaving = false) :
    ∃ t, exec (.spectrumRecord e src l) s = .next t ∧
      t.engView = (s.spectrum e.val src.val (s.scaledBins e.val src.val x)).2.engView := by
  obtain ⟨-, starting, heng⟩ := s.spectrum_spec e.val src.val (s.scaledBins e.val src.val x)
  change ∃ t, execSpectrumRecord e src l s = .next t ∧ _
  unfold execSpectrumRecord
  dsimp only
  rw [if_pos ⟨hon, htakes⟩, hspan]
  dsimp only
  generalize s.spectrum e.val src.val (s.scaledBins e.val src.val x) = r at heng
  have hbehind (index last flags : Nat) (bins : List (Int × Int)) :
      ((r.2.busOut r.1).dnSpectrum e.val src.val index last flags bins).engView = r.2.engView :=
    (State.dnSpectrum_engView ..).trans (State.busOut_engView _)
  refine ⟨_, rfl, ?_⟩
  rw [State.eng_congr (hbehind ..), heng, State.engMarked, hstay]
  exact hbehind ..

end Sys2Proof.Machine
end

section
/-! SUPPORT. Lanes of the transform engines (R148, R149): a failed one is retired, and the spare takes its place. -/

namespace Sys2Proof.Machine

variable {s t : State} {n l : Nat}

/-! ### Objects of an engine -/

/-- One object of each engine, among those that show its state. -/
abbrev Row.OfEngine (r : Row) : Prop := r.idx = 0x1801 ∧ r.ist = 0x100 ∧ r.sub < 0x100

theorem Row.OfEngine.key {r : Row} (h : r.OfEngine) (n : Nat) : r.key n 0 = (0x1801 + 0x100 * n) * 256 + r.sub := by
  obtain ⟨hidx, hist, -⟩ := h
  simp [Row.key, hidx, hist]

theorem State.reg_setReg_engine {r q : Row} {v : Nat} (hr : r.OfEngine) (hq : q.OfEngine) (h : q.sub ≠ r.sub) :
    (s.setReg r v n).reg q n = s.reg q n :=
  State.reg_setReg_ne _ _ _ _ _ _ _ _ (by rw [hr.key, hq.key]; omega)

/-- The objects of the pools of spare units lie above those of the engines. -/
theorem Row.OfEngine.key_lt_pool {r q : Row} {i j : Nat} (h : r.OfEngine) (hn : n < 4) (hq : 0x3802 ≤ q.idx) : r.key n 0 < q.key i j := by
  have hkey := h.key n
  obtain ⟨-, -, hsub⟩ := h
  rw [hkey, Row.key]
  omega

theorem State.pool_setReg_engine {r q : Row} {v i j : Nat} (hr : r.OfEngine) (hn : n < 4) (hq : 0x3802 ≤ q.idx := by decide) :
    (s.setReg r v n).reg q i j = s.reg q i j :=
  State.reg_setReg_ne _ _ _ _ _ _ _ _ (hr.key_lt_pool hn hq).ne'

theorem State.engine_setReg_pool {r q : Row} {v i j : Nat} (hq : q.OfEngine) (hn : n < 4) (hr : 0x3802 ≤ r.idx := by decide) :
    (s.setReg r v i j).reg q n = s.reg q n :=
  State.reg_setReg_ne _ _ _ _ _ _ _ _ (hq.key_lt_pool hn hr).ne

/-- The machine with other engines. -/
def State.withEngs (s : State) (x : Map Eng) : State := { s with engs := x }

theorem State.raise_withEngs (x : Map Eng) (e d : Nat) : (s.raise e d).withEngs x = (s.withEngs x).raise e d := by
  rw [State.raise_eq, State.raise_eq]
  rfl

theorem State.reg_withEngs (x : Map Eng) (r : Row) (i j : Nat) : (s.withEngs x).reg r i j = s.reg r i j := rfl
theorem State.hidden_withEngs (x : Map Eng) (n i : Nat) : (s.withEngs x).hidden n i = s.hidden n i := rfl

theorem State.restored_engs_ledger (x : Map Eng) (d : List LedgerRec) (hengs : t.engs = s.engs) (hledger : t.ledgerDue = s.ledgerDue) :
    ({ (t.withEngs x).withLedger d with engs := s.engs, ledgerDue := s.ledgerDue } : State) = t := by
  rw [← hengs, ← hledger]
  rfl

theorem State.unfault_withEngs (x : Map Eng) (src : Nat) : (s.unfault src).withEngs x = (s.withEngs x).unfault src := rfl

theorem State.retirePooled_withEngs (x : Map Eng) (pool group unit : Nat) :
    (s.withEngs x).retirePooled pool group unit = (s.retirePooled pool group unit).withEngs x := rfl

/-! ### A retirement counts in its pool -/

theorem State.retirePooled_effect (s : State) (pool group unit : Nat) : Effect s (s.retirePooled pool group unit) []
    [O.poolRetired.key 0 (pool - 1), O.poolSpares.key 0 (pool - 1)] [hkey H.retired (unitKey pool group unit)] := by
  unfold State.retirePooled
  exact ((Effect.refl.setHidden (by simp)).setReg (by simp)).setReg (by simp)

theorem State.retirePooled_counts (s : State) (pool group unit : Nat) :
    (s.retirePooled pool group unit).reg O.poolRetired 0 (pool - 1) =
        satAdd O.poolRetired.width (s.reg O.poolRetired 0 (pool - 1)) 1 ∧
      (s.retirePooled pool group unit).reg O.poolSpares 0 (pool - 1) = s.reg O.poolSpares 0 (pool - 1) - 1 := by
  have hkeys : O.poolRetired.key 0 (pool - 1) ≠ O.poolSpares.key 0 (pool - 1) := by
    simp [Row.key, O.poolRetired, O.poolSpares]
  unfold State.retirePooled State.bumpSat
  dsimp only
  rw [State.reg_setReg_ne _ _ _ _ _ _ _ _ hkeys, State.reg_setReg_same, State.reg_setReg_same,
    State.reg_setReg_ne _ _ _ _ _ _ _ _ hkeys.symm, State.reg_setHidden, State.reg_setHidden]
  exact ⟨rfl, rfl⟩

/-! ### A check fails -/

/-- The engine's spectrum in progress is suspect. -/
def State.laneSuspect (s : State) (n : Nat) : State := s.setEng n { s.eng n with suspect := true }

/-- The engine with a retired lane that waits for the next spectrum boundary. -/
def State.laneFailed (s : State) (n l : Nat) : Eng :=
  { s.eng n with suspect := true, retired := setBit (s.eng n).retired l true, failing := some l }

/-- What the retirement of a lane shows: its pool's counts, and the capacity that is left (R149). -/
def State.laneCounted (s : State) (n l capacity : Nat) : State := (s.retirePooled 2 n l).setReg O.teCapacity capacity n

/-- The lane is retired, with its record before the ledger. -/
def State.laneRetired (s : State) (n l capacity : Nat) : State :=
  ((s.laneCounted n l capacity).withEngs ((s.laneSuspect n).setEng n (s.laneFailed n l)).engs).withLedger
    (s.ledgerDue ++ [s.retireRecord 2 n l 0 false])

theorem State.retire_withEngs (x : Map Eng) : (s.withEngs x).retire 2 n l 0 false true =
    ((s.retirePooled 2 n l).withEngs x).withLedger (s.ledgerDue ++ [s.retireRecord 2 n l 0 false]) := by
  rw [State.retire_eq, State.retirePooled_withEngs]
  rfl

theorem exec_laneCheckFail {e : Fin 4} {lane : Fin 9} (hon : s.reg O.teState e.val = 1)
    (hserves : bit (s.reg O.teLaneMap e.val) lane.val = true) (hnone : (s.eng e.val).failing = none)
    (hworks : bit (s.eng e.val).retired lane.val = false) (hspare : s.reg O.teSpareLane e.val ≠ 0xFF) :
    ∃ capacity, exec (.laneCheckFail e lane) s = .next (s.laneRetired e.val lane.val capacity) := by
  have hexec : execLaneCheckFail e lane s = .next (((s.withEngs ((s.laneSuspect e.val).setEng e.val
      (s.laneFailed e.val lane.val)).engs).retire 2 e.val lane.val 0 false true).setTeCapacity e.val) := by
    unfold execLaneCheckFail
    dsimp only
    rw [if_pos ⟨hon, hserves⟩, if_neg (by simp [hnone, hworks]), if_pos ⟨hspare, hnone⟩]
    rfl
  rw [State.retire_withEngs] at hexec
  exact ⟨_, hexec⟩

theorem State.laneRetired_eng (s : State) (n l capacity : Nat) : (s.laneRetired n l capacity).eng n = s.laneFailed n l :=
  State.eng_setEng_same (s := s.laneSuspect n) (s.laneFailed n l)

theorem State.laneRetired_isRetired (s : State) (n l capacity : Nat) : (s.laneRetired n l capacity).isRetired 2 n l = true := by
  rw [State.isRetired, State.laneRetired, State.hidden_withLedger, State.hidden_withEngs]
  simp [State.laneCounted, State.retirePooled, State.bumpSat]

/-- The lane's retirement is counted in the pool of lanes. -/
theorem State.laneRetired_counts (s : State) (hn : n < 4) (l capacity : Nat) :
    (s.laneRetired n l capacity).reg O.poolRetired 0 1 = satAdd O.poolRetired.width (s.reg O.poolRetired 0 1) 1 ∧
      (s.laneRetired n l capacity).reg O.poolSpares 0 1 = s.reg O.poolSpares 0 1 - 1 := by
  unfold State.laneRetired State.laneCounted
  simp only [State.reg_withLedger, State.reg_withEngs]
  rw [State.pool_setReg_engine (by decide) hn, State.pool_setReg_engine (by decide) hn]
  exact s.retirePooled_counts 2 n l

theorem State.laneCounted_effect (s : State) (n l capacity : Nat) : Effect s (s.laneCounted n l capacity) []
    [O.poolRetired.key 0 1, O.poolSpares.key 0 1, O.teCapacity.key n 0] [hkey H.retired (unitKey 2 n l)] :=
  ((s.retirePooled_effect 2 n l).mono (by simp) (by simp)).setReg (by simp)

/-- Beside its engine and the ledger, the machine is as what the retirement shows. -/
theorem State.laneRetired_rest (s : State) (n l capacity : Nat) :
    ({ s.laneRetired n l capacity with engs := s.engs, ledgerDue := s.ledgerDue } : State) = s.laneCounted n l capacity :=
  State.restored_engs_ledger _ _ rfl rfl

/-! ### The spare takes its place -/

/-- The engine once the spare serves in the failed lane's place. -/
def State.laneSwapped (s : State) (n l : Nat) : Eng :=
  { s.eng n with failing := none, serving := setBit (s.eng n).serving l false, swapMark := true }

/-- A lane that served though retired gives way to one that fitting returned, which is then no spare of its pool (R149). -/
def State.spareUsed (s : State) (served : Bool) : State := if served then s.spareTaken 2 else s

/-- What a swap of a lane for the spare shows, before its event. -/
def State.swapShown (s : State) (n l : Nat) : State :=
  let t := s.spareUsed (bit (s.eng n).serving l)
  ((t.setReg O.teLaneMap (setBit (setBit (t.reg O.teLaneMap n) l false) (s.reg O.teSpareLane n) true) n).setReg O.teSpareLane 0xFF
    n).bumpSat O.teLaneSwaps n

/-- The swap told, and the fault of a lane that served though retired ended with the last one (R149). -/
def State.swapTold (s : State) (n l : Nat) : State :=
  let t := (s.swapShown n l).raise (teEvent n 1) (l + 16 * s.reg O.teSpareLane n)
  if setBit (s.eng n).serving l false = 0 then t.unfault (0x28 + n) else t

theorem State.spareUsed_engine {q : Row} (hq : q.OfEngine) (hn : n < 4) (served : Bool) :
    (s.spareUsed served).reg q n = s.reg q n := by
  cases served
  · rfl
  · exact State.engine_setReg_pool hq hn

theorem State.spareUsed_poolSpares (s : State) (served : Bool) : (s.spareUsed served).reg O.poolSpares 0 1 =
    if served then s.reg O.poolSpares 0 1 - 1 else s.reg O.poolSpares 0 1 := by
  cases served
  · rfl
  · exact State.reg_setReg_same ..

theorem State.swapShown_reads (s : State) (hn : n < 4) (l : Nat) :
    (s.swapShown n l).reg O.teLaneMap n = setBit (setBit (s.reg O.teLaneMap n) l false) (s.reg O.teSpareLane n) true ∧
      (s.swapShown n l).reg O.poolSpares 0 1 =
        (if bit (s.eng n).serving l then s.reg O.poolSpares 0 1 - 1 else s.reg O.poolSpares 0 1) ∧
      (s.swapShown n l).reg O.teSpareLane n = 0xFF ∧
      (s.swapShown n l).reg O.teLaneSwaps n = satAdd O.teLaneSwaps.width (s.reg O.teLaneSwaps n) 1 := by
  have hmap : O.teLaneMap.OfEngine := by decide
  have hspare : O.teSpareLane.OfEngine := by decide
  have hswaps : O.teLaneSwaps.OfEngine := by decide
  unfold State.swapShown State.bumpSat
  dsimp only
  refine ⟨?_, ?_, ?_, ?_⟩
  · rw [State.reg_setReg_engine hswaps hmap (by decide), State.reg_setReg_engine hspare hmap (by decide), State.reg_setReg_same,
      State.spareUsed_engine hmap hn]
  · rw [State.pool_setReg_engine hswaps hn, State.pool_setReg_engine hspare hn, State.pool_setReg_engine hmap hn,
      State.spareUsed_poolSpares]
  · rw [State.reg_setReg_engine hswaps hspare (by decide), State.reg_setReg_same]
  · rw [State.reg_setReg_same, State.reg_setReg_engine hspare hswaps (by decide), State.reg_setReg_engine hmap hswaps (by decide),
      State.spareUsed_engine hswaps hn]

/-- The objects of units read as before the event and the end of the fault. -/
theorem State.reg_swapTold {q : Row} {i j : Nat} (s : State) (n l : Nat) (hq : 0x1000 ≤ q.idx) :
    (s.swapTold n l).reg q i j = (s.swapShown n l).reg q i j := by
  have hraise := State.reg_raise_unit (s := s.swapShown n l) (i := i) (j := j) (teEvent n 1) (l + 16 * s.reg O.teSpareLane n) hq
  unfold State.swapTold
  dsimp only
  split
  · exact hraise
  · exact hraise

/-- What a swap writes. -/
def swapKeys (n : Nat) : List Nat :=
  [O.teLaneMap.key n 0, O.poolSpares.key 0 1, O.teSpareLane.key n 0, O.teLaneSwaps.key n 0]

theorem swapKeys_unit {k : Nat} (h : k ∈ swapKeys n) : 0x100000 ≤ k := by
  simp only [swapKeys, List.mem_cons, List.not_mem_nil, or_false] at h
  rcases h with rfl | rfl | rfl | rfl <;> exact Row.key_ge (by decide)

theorem State.swapShown_effect (s : State) (n l : Nat) (hids : List Nat) : Effect s (s.swapShown n l) [] (swapKeys n) hids := by
  have hused (served : Bool) : Effect s (s.spareUsed served) [] (swapKeys n) hids := by
    cases served
    · exact Effect.refl
    · exact Effect.refl.setReg (by simp [swapKeys])
  exact (((hused _).setReg (by simp [swapKeys])).setReg (by simp [swapKeys])).setReg (by simp [swapKeys])

theorem State.swapTold_effect (s : State) (n l : Nat) : Effect s (s.swapTold n l)
    [(teEvent n 1, l + 16 * s.reg O.teSpareLane n)] (swapKeys n) [hkey H.drive (0x28 + n)] := by
  have htold := (s.swapShown_effect n l [hkey H.drive (0x28 + n)]).raise_unit (teEvent n 1) (l + 16 * s.reg O.teSpareLane n)
    fun _ => swapKeys_unit
  unfold State.swapTold
  dsimp only
  split
  · exact htold.setHidden List.mem_cons_self
  · exact htold

theorem State.swapTold_withEngs (s : State) (n l : Nat) : (s.swapTold n l).withEngs s.engs = s.swapTold n l := by
  rw [(s.swapTold_effect n l).1]
  rfl

/-- What a swap shows is read in the state that it answers. -/
theorem State.reg_swapped {q : Row} {i j v : Nat} (x : Map Eng) (hq : 0x1000 ≤ q.idx) (h : (s.swapShown n l).reg q i j = v) :
    ((s.swapTold n l).withEngs x).reg q i j = v :=
  (State.reg_withEngs ..).trans ((s.reg_swapTold n l hq).trans h)

/-- The engine's own state changes beside the objects of a swap. -/
theorem State.swapShown_withEngs (s : State) (n l : Nat) (x : Eng) : (s.swapShown n l).withEngs (s.setEng n x).engs =
    let t := s.spareUsed (bit (s.eng n).serving l)
    (((t.setEng n x).setReg O.teLaneMap (setBit (setBit (t.reg O.teLaneMap n) l false) (s.reg O.teSpareLane n) true) n).setReg
      O.teSpareLane 0xFF n).bumpSat O.teLaneSwaps n := by
  unfold State.swapShown
  cases bit (s.eng n).serving l <;> rfl

/-- An engine swaps a lane: its own state changes beside what is shown and told. -/
theorem exec_laneSwap {e : Fin 4} (hfailing : (s.eng e.val).failing = some l) (hspare : s.reg O.teSpareLane e.val ≠ 0xFF) :
    exec (.laneSwap e) s = .next ((s.swapTold e.val l).withEngs (s.setEng e.val (s.laneSwapped e.val l)).engs) := by
  change execLaneSwap e s = _
  unfold execLaneSwap
  dsimp only
  rw [hfailing]
  dsimp only
  rw [if_neg hspare]
  unfold State.swapTold
  dsimp only
  rw [apply_ite (State.withEngs · _), State.unfault_withEngs, State.raise_withEngs, State.swapShown_withEngs]
  rfl

end Sys2Proof.Machine
end

section
/-! SUPPORT. Window tables of the transform engines (R132, R136): a load puts the whole table and the figures of its window in place. -/

namespace Sys2Proof.Machine

variable {s t : State} {n : Nat} {b : List Byte}

/-! ### A window table is loaded -/

/-- The noise bandwidth goes by the plan in force and the tables alone. -/
theorem State.windowEnbw_eq (s : State) (n : Nat) :
    s.windowEnbw n = ({ active := s.active, lag := s.lag, doms := s.doms } : State).windowEnbw n := rfl

theorem State.windowEnbw_congr (hactive : t.active = s.active) (hlag : t.lag = s.lag) (hdoms : t.doms = s.doms) :
    t.windowEnbw n = s.windowEnbw n := by
  rw [t.windowEnbw_eq, s.windowEnbw_eq, hactive, hlag, hdoms]

/-- The window figures of an engine change objects alone. -/
theorem State.engWindow_eq (s : State) (n : Nat) : s.engWindow n = { s with regs := (s.engWindow n).regs } := rfl

theorem State.engWindow_teEnbw (s : State) (n : Nat) : (s.engWindow n).reg O.teEnbw n = (s.engWindow n).windowEnbw n := by
  have hsame : (s.engWindow n).windowEnbw n = s.windowEnbw n := State.windowEnbw_congr rfl rfl rfl
  rw [hsame]
  exact State.reg_setReg_same ..

/-- A table that R132 allows is loaded whole, and the engine's window figures go by it (R136). -/
theorem actWindowTable_ok (hwords : b.length % 4 = 0) (hne : b ≠ []) (hlen : b.length ≤ 524288)
    (hrange : ∀ c ∈ words32 b, -131072 ≤ c ∧ c ≤ 131071) (hsum : 0 < (words32 b).foldl (· + ·) 0)
    (hoff : s.anyPlan (fun p => planVal p O.teEnable n == 1) = false) :
    actWindowTable n b s = .ok ((s.setDom O.teWindowTable b n).engWindow n) := by
  have hin : (words32 b).any (fun c => decide (c < -131072 ∨ 131071 < c)) = false :=
    List.any_eq_false.mpr fun c hc => by
      obtain ⟨hlo, hhi⟩ := hrange c hc
      simp only [decide_eq_true_eq]
      omega
  simp only [actWindowTable, hwords, hin, hoff, Nat.not_lt.mpr hlen, Int.not_le.mpr hsum]
  simp [hne]

/-- The table then stands whole, the bandwidth shown is that of the table in place, and nothing but tables and objects has changed. -/
theorem State.windowLoaded_spec (s : State) (n : Nat) (b : List Byte) :
    ∃ t, (s.setDom O.teWindowTable b n).engWindow n = t ∧ t.dom O.teWindowTable n = b ∧ t.reg O.teEnbw n = t.windowEnbw n ∧
      t = { s with doms := t.doms, regs := t.regs } := by
  refine ⟨_, rfl, State.dom_setDom_same (s := s) .., State.engWindow_teEnbw .., ?_⟩
  rw [State.engWindow_eq]
  rfl

/-- Settles O17: what hears a spectrum leaves engines and sources alone (`State.engView`), a failed lane is a retirement, a swap writes
the objects of `swapKeys`, and a table is loaded with its figures. -/
theorem transformEngines : Obligations.TransformEngines := by
  unfold Obligations.TransformEngines
  refine ⟨?_, ?_, ?_, ?_⟩
  · intro s e src l x hon htakes hspan hstay
    obtain ⟨t, hexec, hview⟩ := exec_spectrumRecord hon htakes hspan hstay
    obtain ⟨⟨hseq, hnext, hrestart, hbins⟩, starting, heng⟩ := s.spectrum_spec e.val src.val (s.scaledBins e.val src.val x)
    refine ⟨t, hexec, ?_⟩
    rw [State.engSrc_congr hview, State.eng_congr hview, heng]
    exact ⟨hseq, hnext, hrestart, hbins, rfl, rfl⟩
  · intro s e lane hon hserves hnone hworks hspare
    obtain ⟨capacity, hexec⟩ := exec_laneCheckFail hon hserves hnone hworks hspare
    obtain ⟨hretired, hspares⟩ := s.laneRetired_counts e.isLt lane.val capacity
    have heffect := s.laneCounted_effect e.val lane.val capacity
    rw [← s.laneRetired_rest] at heffect
    exact ⟨_, hexec, s.laneRetired_eng .., s.laneRetired_isRetired .., rfl, hretired, hspares, heffect⟩
  · intro s e l hfailing hspare
    obtain ⟨hmap, hspares, hspareLane, hswaps⟩ := s.swapShown_reads e.isLt l
    have heffect := s.swapTold_effect e.val l
    rw [← s.swapTold_withEngs] at heffect
    exact ⟨_, exec_laneSwap hfailing hspare, State.eng_setEng_same _, State.reg_swapped _ (by decide) hmap,
      State.reg_swapped _ (by decide) hspares, State.reg_swapped _ (by decide) hspareLane, State.reg_swapped _ (by decide) hswaps,
      heffect⟩
  · intro s m e l ho hwords hne hlen hrange hsum hoff
    have hact := actWindowTable_ok (n := e.val) hwords hne hlen hrange hsum hoff
    obtain ⟨t, ht, hdom, henbw, hrest⟩ := s.windowLoaded_spec e.val l
    rw [ht] at hact
    have hout : t.out = s.out := by rw [hrest]
    have hxfers : t.xfers = s.xfers := by rw [hrest]
    refine ⟨_, State.load_ok ho hact, replied_congr m hout, hdom, henbw.trans (State.windowEnbw_congr rfl rfl rfl), ?_, ?_⟩
    · exact congrArg (fun x => ({ s with xfers := x } : State).breakReads (O.teWindowTable.key e.val 0) |>.xfers) hxfers
    · rw [hrest]
      rfl

end Sys2Proof.Machine
end

section
/-! SUPPORT. A segment that does not fit its ring where it stands (R171): it runs on at the ring's start. -/

namespace Sys2Proof.Machine

/-- A segment without samples, 128 bytes long, that stands 64 bytes before the end of a ring of 4096; its record is 1. -/
def endingSeg : Seg where
  cfg := { ringSize := 4096 }
  head := 0
  record := 1
  count := 0
  level := 0
  first := 0
  t96 := 0
  at_ := 4032

/-- A device in which context 0 waits for the samples of that segment. -/
def endingRing : State where
  ctxs := [(0, { ended := [endingSeg] })]

/-- Refutes O18: its seventh clause keeps every byte outside the segment's own length from its place on, also for a segment that its
ring's end cuts. R171 never places one so, but no hypothesis excludes it, and the model lets it run on at the ring's start: the
record, at byte 64 of the segment, is then written at byte 0 of the ring. -/
theorem not_triggersAndSegments : ¬ Obligations.TriggersAndSegments := by
  unfold Obligations.TriggersAndSegments
  rintro ⟨-, -, -, -, -, -, hwrite, -⟩
  obtain ⟨t, ht, -, hkept, -⟩ := hwrite endingRing 0 [] endingSeg [] rfl rfl (by decide) (by decide +kernel) (by decide +kernel)
  have hstays : t.readByte 0 = endingRing.readByte 0 := hkept 0 (.inl (by decide)) (.inr (by decide))
  have hwritten : endingRing.thenDoes (.segmentEnd 0 []) (fun u => u.readByte 0) = some 1 := by decide +kernel
  have hbefore : endingRing.readByte 0 = 0 := by decide +kernel
  rw [State.thenDoes_of_exec _ ht, hstays, hbefore] at hwritten
  exact absurd hwritten (by decide)

end Sys2Proof.Machine
end

section
/-! SUPPORT. Effects of commands beside what leaves the device, and what a raise leaves waiting (R425). -/

namespace Sys2Proof.Machine

variable {s t u : State} {evs : List (Nat × Nat)} {keys hids : List Nat}

theorem Effect.ite {p : Prop} [Decidable p] (h : Effect s t evs keys hids) (h' : Effect s u evs keys hids) :
    Effect s (if p then t else u) evs keys hids := by
  split
  · exact h
  · exact h'

/-- The machine with something else on its way out: effects are stated of the rest. -/
def State.withOut (s : State) (o : List Out) : State := { s with out := o }

variable {o : List Out}

@[simp] theorem State.withOut_self : s.withOut s.out = s := rfl
@[simp] theorem State.emit_withOut (x : Out) : (s.emit x).withOut o = s.withOut o := rfl
@[simp] theorem State.setReg_withOut (r : Row) (v i j : Nat) : (s.setReg r v i j).withOut o = (s.withOut o).setReg r v i j := rfl
@[simp] theorem State.setHidden_withOut (n v i : Nat) : (s.setHidden n v i).withOut o = (s.withOut o).setHidden n v i := rfl

@[simp] theorem State.raise_withOut (e d : Nat) : (s.raise e d).withOut o = (s.withOut o).raise e d := by
  rw [State.raise_eq, State.raise_eq]
  rfl

@[simp] theorem State.hidden_withOut (n i : Nat) : (s.withOut o).hidden n i = s.hidden n i := rfl

/-- What an effect leaves alone where objects, hidden scalars, raises and what leaves the device are set aside. -/
theorem Effect.rest (h : Effect s (t.withOut s.out) evs keys hids) :
    ({ t with regs := s.regs, hid := s.hid, raises := s.raises, out := s.out } : State) = s := by
  have hrest := congrArg (fun x : State => { x with regs := s.regs, hid := s.hid, raises := s.raises }) h.1
  exact hrest

theorem mem_insRaise (r : Raise) (l : List Raise) : r ∈ insRaise r l := by
  induction l with
  | nil => exact List.mem_cons_self
  | cons x l ih =>
    unfold insRaise
    split
    · exact List.mem_cons_self
    · exact List.mem_cons_of_mem _ ih

theorem any_event_of_mergeRaise {span now event data : Nat} {l l' : List Raise} (h : mergeRaise span now event data l = some l') :
    l'.any (fun r => r.event == event) = true := by
  induction l generalizing l' with
  | nil => cases h
  | cons r l ih =>
    unfold mergeRaise at h
    split at h
    · next hsame =>
      obtain rfl := Option.some.inj h
      simp [hsame.1]
    · obtain ⟨l'', hl, rfl⟩ := Option.map_eq_some_iff.mp h
      simp [ih hl]

/-- A raise waits, in a place of its own or merged. -/
theorem any_event_pushRaise (span now event data : Nat) (l : List Raise) :
    (pushRaise span now event data l).any (fun r => r.event == event) = true := by
  unfold pushRaise
  split
  · next hmerged => exact any_event_of_mergeRaise hmerged
  · exact List.any_eq_true.mpr ⟨_, mem_insRaise .., beq_self_eq_true event⟩

end Sys2Proof.Machine
end

section
/-! SUPPORT. The lacing bus (R324 to R330): which lines a part drives, what it counts and keeps, and what its commands answer. -/

namespace Sys2Proof.Machine

variable {s u : State} {evs : List (Nat × Nat)} {keys hids : List Nat} {q : Row} {i j n : Nat} {o : List Out}

/-! ### Lines -/

theorem State.laceRuns_of (hen : s.plan O.laceEn = 1) (hstate : s.reg O.laceState = 2) : s.laceRuns = true := by
  simp [State.laceRuns, hen, hstate]

/-- The lines of a mask as they are driven, the highest one last. -/
def laceDriven (mask : Nat) (level : Bool) (l : List Nat) : List Out :=
  (l.filter (fun n => mask.testBit n)).reverse.map (fun n => .ball (18 + n) level)

theorem State.laceBalls_eq (s : State) (mask : Nat) (level : Bool) :
    s.laceBalls mask level = s.withOut (laceDriven mask level (List.range 4) ++ s.out) := by
  unfold State.laceBalls
  generalize List.range 4 = l
  induction l generalizing s with
  | nil => rfl
  | cons n l ih =>
    rw [List.foldl_cons, ih]
    cases hn : mask.testBit n with
    | true => simp [laceDriven, hn, State.withOut, State.emit]
    | false => simp [laceDriven, hn]

@[simp] theorem State.laceBalls_zero (level : Bool) : s.laceBalls 0 level = s := by
  rw [State.laceBalls_eq]
  simp [laceDriven]

@[simp] theorem State.laceBalls_withOut (mask : Nat) (level : Bool) : (s.laceBalls mask level).withOut o = s.withOut o := by
  rw [State.laceBalls_eq]
  rfl

/-! ### The count of cycles -/

theorem State.laceCount_eq (s : State) (x : Nat) : s.laceCount x = { s with regs := (s.laceCount x).regs } := by
  unfold State.laceCount
  dsimp only
  split_ifs <;> rfl

theorem Effect.laceCount {t : State} (h : Effect s t evs keys hids) (x : Nat) (hk : O.laceCycle.key 0 0 ∈ keys) :
    Effect s (t.laceCount x) evs keys hids := by
  unfold State.laceCount
  exact Effect.ite (Effect.ite h (h.setReg hk)) h

@[simp] theorem State.hidden_laceCount (x : Nat) : (s.laceCount x).hidden n i = s.hidden n i := by
  rw [State.laceCount_eq]
  rfl

@[simp] theorem State.plan_laceCount (x : Nat) : (s.laceCount x).plan q i j = s.plan q i j := by
  rw [State.laceCount_eq]
  rfl

@[simp] theorem State.laceCount_withOut (x : Nat) : (s.laceCount x).withOut o = (s.withOut o).laceCount x := by
  unfold State.laceCount
  simp only [apply_ite (State.withOut · o)]
  rfl

theorem State.reg_laceCount_ne (x : Nat) (h : q.key i j ≠ O.laceCycle.key 0 0) : (s.laceCount x).reg q i j = s.reg q i j := by
  unfold State.laceCount
  dsimp only
  split_ifs <;> simp [State.reg_setReg_ne _ _ _ _ _ _ _ _ h]

/-! ### Accepted candidates -/

/-- No measurement slot is enabled, so none arms with a line. -/
def State.slotsOff (s : State) : Prop := (List.range 16).all (fun sl => s.plan O.msEnable sl != 1) = true

theorem State.slotsOff.slotsLace (h : s.slotsOff) (line x : Nat) : s.slotsLace line x = s := by
  refine List.foldlRecOn _ _ (motive := fun u => u = s) rfl ?_
  rintro u rfl sl hsl
  have hoff : u.plan O.msEnable sl ≠ 1 := by simpa using List.all_eq_true.mp h sl hsl
  rw [if_neg fun hand => hoff hand.1]

theorem State.slotsOff.bumpSat (h : s.slotsOff) (r : Row) (i j : Nat) : (s.bumpSat r i j).slotsOff := by
  unfold State.slotsOff State.bumpSat at *
  simpa only [State.plan_setReg] using h

theorem State.slotsOff.laceCount (h : s.slotsOff) (x : Nat) : (s.laceCount x).slotsOff := by
  unfold State.slotsOff at *
  simpa only [State.plan_laceCount] using h

theorem State.slotsOff.setHidden (h : s.slotsOff) (n v i : Nat) : (s.setHidden n v i).slotsOff := by
  unfold State.slotsOff at *
  simpa only [State.plan_setHidden] using h

/-- The lines of a mask are counted. -/
def State.laceCounted (s : State) (mask : Nat) (l : List Nat) : State :=
  l.foldl (fun s n => if mask.testBit n then s.bumpSat O.laceTCount 0 n else s) s

theorem State.slotsOff.laceAccept (h : s.slotsOff) (mask x : Nat) : s.laceAccept mask x = s.laceCounted mask (List.range 4) := by
  unfold State.laceAccept State.laceCounted
  generalize List.range 4 = l
  induction l generalizing s with
  | nil => rw [List.foldl_nil, List.foldl_nil]
  | cons n l ih =>
    have hcounted := h.bumpSat O.laceTCount 0 n
    rw [List.foldl_cons, List.foldl_cons, hcounted.slotsLace]
    split
    · exact ih hcounted
    · exact ih h

theorem key_laceTCount (n : Nat) : O.laceTCount.key 0 n = 0x861 * 256 + (5 + n) := by simp [Row.key, O.laceTCount]

theorem State.laceCounted_hidden (mask : Nat) (l : List Nat) : (s.laceCounted mask l).hidden n i = s.hidden n i := by
  refine List.foldlRecOn _ _ (motive := fun u : State => u.hidden n i = s.hidden n i) rfl fun u hu k _ => ?_
  split
  · exact hu
  · exact hu

theorem Effect.laceCounted {t : State} (h : Effect s t evs keys hids) (mask : Nat) {l : List Nat}
    (hk : ∀ n ∈ l, O.laceTCount.key 0 n ∈ keys) :
    Effect s (t.laceCounted mask l) evs keys hids :=
  List.foldlRecOn _ _ (motive := fun u => Effect s u evs keys hids) h fun _ hu n hn => (hu.setReg (hk n hn)).ite hu

/-- Each line of the mask counts once, and no other. -/
theorem State.laceCounted_reg (s : State) (mask n : Nat) {l : List Nat} (hl : l.Nodup) : (s.laceCounted mask l).reg O.laceTCount 0 n =
    if n ∈ l ∧ mask.testBit n then satAdd O.laceTCount.width (s.reg O.laceTCount 0 n) 1 else s.reg O.laceTCount 0 n := by
  induction l generalizing s with
  | nil => simp [State.laceCounted]
  | cons k l ih =>
    obtain ⟨hk, hl⟩ := List.nodup_cons.mp hl
    have hfirst : (s.laceCounted mask (k :: l)) = (if mask.testBit k then s.bumpSat O.laceTCount 0 k else s).laceCounted mask l := rfl
    rw [hfirst, ih _ hl]
    by_cases hn : n = k
    · subst hn
      cases mask.testBit n <;> simp [hk, State.bumpSat]
    · have hne : O.laceTCount.key 0 n ≠ O.laceTCount.key 0 k := by rw [key_laceTCount, key_laceTCount]; omega
      cases mask.testBit k <;> simp [hn, State.bumpSat, State.reg_setReg_ne _ _ _ _ _ _ _ _ hne]

theorem State.laceCounted_zero (l : List Nat) : s.laceCounted 0 l = s :=
  List.foldlRecOn _ _ (motive := fun u => u = s) rfl fun u hu n _ => by simpa using hu

theorem State.laceCounted_line (s : State) (m : BitVec 4) (n : Fin 4) : (s.laceCounted m.toNat (List.range 4)).reg O.laceTCount 0 n.val =
    if m.getLsbD n.val then satAdd O.laceTCount.width (s.reg O.laceTCount 0 n.val) 1 else s.reg O.laceTCount 0 n.val := by
  rw [State.laceCounted_reg _ _ _ List.nodup_range, BitVec.testBit_toNat]
  simp

/-! ### The bus stops -/

theorem State.laceIdle_effect (s : State) : Effect s (s.laceIdle.withOut s.out) []
    [] [hkey H.laceT, hkey H.laceLate, hkey H.lacePend, hkey H.laceOut, hkey H.laceCand, hkey H.laceVeto, hkey H.laceS] := by
  have hcleared : s.laceIdle.withOut s.out = ((((((s.setHidden H.laceT 0).setHidden H.laceLate 0).setHidden H.lacePend 0).setHidden
      H.laceOut 0).setHidden H.laceCand 0).setHidden H.laceVeto 0).setHidden H.laceS 0 := by
    simp [State.laceIdle, apply_ite (State.withOut · s.out)]
  rw [hcleared]
  iterate 7 refine Effect.setHidden ?_ (by decide)
  exact Effect.refl

theorem State.hidden_laceIdle_lacePend (s : State) : s.laceIdle.hidden H.lacePend = 0 := by
  simp (disch := decide) [State.laceIdle, State.hidden_setHidden_ne]

/-! ### Commands -/

/-- At an epoch the cycles up to it are counted, and a part that drives LACE_S drops it. -/
def State.laceDropped (s : State) (x : Nat) : State :=
  if s.hidden H.laceS = 1 then ((s.laceCount x).setHidden H.laceS 0).emit (.ball 17 false) else s.laceCount x

theorem State.laceDropped_effect (s : State) (x : Nat) (hk : O.laceCycle.key 0 0 ∈ keys) (hh : hkey H.laceS ∈ hids) :
    Effect s ((s.laceDropped x).withOut s.out) [] keys hids := by
  have hcount : Effect s (s.laceCount x) [] keys hids := Effect.refl.laceCount x hk
  unfold State.laceDropped
  rw [apply_ite (State.withOut · s.out), State.emit_withOut, State.setHidden_withOut, State.laceCount_withOut, State.withOut_self]
  exact (hcount.setHidden hh).ite hcount

theorem State.laceDropped_laceS (s : State) (x : Nat) : (s.laceDropped x).hidden H.laceS = 0 ∨ s.hidden H.laceS ≠ 1 := by
  unfold State.laceDropped
  split
  · exact .inl (by rw [State.hidden_emit, State.hidden_setHidden_same])
  · next hidle => exact .inr hidle

/-- The epoch is told with the last cycle's count, and its edge is cycle 0. -/
def State.laceBegun (s : State) (x : Nat) : State :=
  ((((s.laceDropped x).raise 0x0A2 ((s.laceDropped x).reg O.laceCycle)).setReg O.laceCycle 0).setReg O.laceST96
    (T96.ofTicks x)).setHidden H.laceCounting 1

theorem exec_laceEpoch (hruns : s.laceRuns = true) (cycle : Fin 8) :
    exec (.laceEpoch cycle) s = .next (s.laceBegun (s.laceTime cycle.val)) := by
  change execLaceEpoch cycle s = _
  unfold execLaceEpoch
  rw [if_pos hruns]
  dsimp only
  rw [State.hidden_laceCount]
  rfl

theorem State.laceBegun_effect (s : State) (x : Nat) : ∃ d, Effect s ((s.laceBegun x).withOut s.out) [(0x0A2, d)]
    [O.laceCycle.key 0 0, O.laceST96.key 0 0] [hkey H.laceS, hkey H.laceCounting] := by
  unfold State.laceBegun
  rw [State.setHidden_withOut, State.setReg_withOut, State.setReg_withOut, State.raise_withOut]
  generalize (s.laceDropped x).reg O.laceCycle = d
  have hdropped := s.laceDropped_effect x (keys := [O.laceCycle.key 0 0, O.laceST96.key 0 0])
    (hids := [hkey H.laceS, hkey H.laceCounting]) (by decide) (by decide)
  have htold := hdropped.raise 0x0A2 d (by decide)
  exact ⟨d, ((htold.setReg (by decide)).setReg (by decide)).setHidden (by decide)⟩

theorem State.laceBegun_reads (s : State) (x : Nat) : (s.laceBegun x).reg O.laceCycle = 0 ∧
    (s.laceBegun x).reg O.laceST96 = T96.ofTicks x ∧ (s.laceBegun x).hidden H.laceCounting = 1 ∧
    (s.laceBegun x).hidden H.laceS = (s.laceDropped x).hidden H.laceS := by
  unfold State.laceBegun
  generalize (s.laceDropped x).reg O.laceCycle = d
  refine ⟨?_, ?_, ?_, ?_⟩
  · rw [State.reg_setHidden, State.reg_setReg_ne _ _ _ _ _ _ _ _ (by decide), State.reg_setReg_same]
  · rw [State.reg_setHidden, State.reg_setReg_same]
  · exact State.hidden_setHidden_same ..
  · rw [State.hidden_setHidden_ne _ _ _ _ _ _ (by decide), State.hidden_setReg, State.hidden_setReg, State.hidden_raise]

theorem exec_laceLaunch {m : Nat} (hruns : s.laceRuns = true) (hpend : s.hidden H.lacePend = m) (hm : m ≠ 0) :
    exec .laceLaunch s = .next (((s.setHidden H.lacePend 0).setHidden H.laceOut m).laceBalls m true) := by
  subst hpend
  exact if_pos ⟨hruns, hm⟩

/-- The lines as sampled at an edge: those subject to the veto wait as candidates, the others reach the trigger units. -/
def State.laceSampled (s : State) (subject direct x : Nat) : State :=
  ((((((s.laceCount x).setHidden H.laceOut 0).setHidden H.laceCand subject).setHidden H.laceCandT x).setHidden H.laceVeto 0).setHidden
    H.laceT (direct ||| s.hidden H.laceLate)).setHidden H.laceLate 0

theorem State.slotsOff.laceSampled (h : s.slotsOff) (subject direct x : Nat) : (s.laceSampled subject direct x).slotsOff := by
  unfold State.laceSampled
  iterate 6 refine State.slotsOff.setHidden ?_ ..
  exact h.laceCount x

/-- The part drives no line, and no unit of it asks for a veto. -/
theorem exec_laceCandidate {lines : BitVec 4} {subject direct : Nat} (hruns : s.laceRuns = true) (hown : s.hidden H.laceOut = 0)
    (cycle : Fin 8) (hsubject : lines.toNat &&& s.plan O.laceVetoLines = subject)
    (hdirect : lines.toNat &&& (15 - s.plan O.laceVetoLines % 16) = direct) (hveto : subject = 0 ∨ s.plan O.laceVetoUnits = 0) :
    exec (.laceCandidate lines cycle) s =
      .next ((s.laceSampled subject direct (s.laceTime cycle.val)).laceAccept direct (s.laceTime cycle.val)) := by
  change execLaceCandidate lines cycle s = _
  unfold execLaceCandidate
  rw [if_pos hruns, hown]
  have hquiet : ∀ u : State, (subject != 0 &&
      (List.range 16).any fun k => (s.plan O.laceVetoUnits).testBit k && u.reg O.tuState k == 1) = false := by
    intro u
    rcases hveto with hveto | hveto <;> simp [hveto]
  simp (disch := decide) only [Nat.or_zero, State.laceBalls_zero, State.plan_setHidden, State.plan_laceCount, State.hidden_laceCount,
    State.hidden_setHidden_ne, hsubject, hdirect, hquiet, b2n, Bool.false_eq_true, if_false]
  rfl

theorem State.laceSampled_effect (s : State) (subject direct x : Nat) : Effect s (s.laceSampled subject direct x) []
    [O.laceCycle.key 0 0] [hkey H.laceOut, hkey H.laceCand, hkey H.laceCandT, hkey H.laceVeto, hkey H.laceT, hkey H.laceLate] := by
  unfold State.laceSampled
  iterate 6 refine Effect.setHidden ?_ (by decide)
  exact Effect.refl.laceCount x (by decide)

theorem State.laceSampled_reads (s : State) (subject direct x : Nat) :
    (s.laceSampled subject direct x).hidden H.laceCand = subject ∧ (s.laceSampled subject direct x).hidden H.laceCandT = x ∧
    (s.laceSampled subject direct x).hidden H.laceVeto = 0 ∧
    (s.laceSampled subject direct x).hidden H.laceT = direct ||| s.hidden H.laceLate := by
  simp (disch := decide) [State.laceSampled, State.hidden_setHidden_ne]

theorem State.laceSampled_count (s : State) (subject direct x n : Nat) :
    (s.laceSampled subject direct x).reg O.laceTCount 0 n = s.reg O.laceTCount 0 n := by
  have hcycle : O.laceCycle.key 0 0 = 0x861 * 256 + 2 := rfl
  have hcount := key_laceTCount n
  simp only [State.laceSampled, State.reg_setHidden]
  exact State.reg_laceCount_ne x (by omega)

/-- An event that has not occurred before is raised at its first occurrence. -/
theorem State.raiseRare_first {e d : Nat} (h : s.hidden H.rare e = 0) : s.raiseRare e d = (s.setHidden H.rare (s.up + 1) e).raise e d := by
  unfold State.raiseRare
  rw [h]
  exact if_pos (.inl rfl)

/-- Candidates that the line vetoed are dropped and told; this part's own units ask for no veto. -/
def State.laceVetoed (s : State) (m : Nat) : State := (s.setHidden H.laceCand 0).bumpSat O.laceVetoed 0 0 (popcount m 4)

theorem exec_laceVetoDecision_vetoed {m : Nat} (hruns : s.laceRuns = true) (hcand : s.hidden H.laceCand = m) (hm : m ≠ 0)
    (hveto : s.hidden H.laceVeto = 0) (hrare : s.hidden H.rare 0x0A3 = 0) : exec (.laceVetoDecision true) s =
      .next (((s.laceVetoed m).setHidden H.rare (s.up + 1) 0x0A3).raise 0x0A3 (s.reg O.laceCycle)) := by
  subst hcand
  have hfirst : (s.laceVetoed (s.hidden H.laceCand)).hidden H.rare 0x0A3 = 0 := by
    rw [State.laceVetoed, State.bumpSat, State.hidden_setReg, State.hidden_setHidden_ne _ _ _ _ _ _ (by decide), hrare]
  have hcycle : (s.laceVetoed (s.hidden H.laceCand)).reg O.laceCycle = s.reg O.laceCycle :=
    State.reg_setReg_ne _ O.laceVetoed O.laceCycle _ _ _ _ _ (by decide)
  have hdrop : exec (.laceVetoDecision true) s =
      .next ((s.laceVetoed (s.hidden H.laceCand)).raiseRare 0x0A3 ((s.laceVetoed (s.hidden H.laceCand)).reg O.laceCycle)) := by
    change execLaceVetoDecision true s = _
    unfold execLaceVetoDecision
    rw [if_pos ⟨hruns, hm⟩, hveto]
    rfl
  rw [hdrop, State.raiseRare_first hfirst, hcycle]
  rfl

/-- Candidates that no part vetoes reach the trigger units. -/
def State.lacePassed (s : State) (m : Nat) : State :=
  ((s.setHidden H.laceCand 0).setHidden H.laceT (s.hidden H.laceT ||| m)).setHidden H.laceLate m

theorem State.slotsOff.lacePassed (h : s.slotsOff) (m : Nat) : (s.lacePassed m).slotsOff :=
  ((h.setHidden _ _ _).setHidden _ _ _).setHidden _ _ _

theorem State.lacePassed_reads (s : State) (m : Nat) : (s.lacePassed m).hidden H.laceCand = 0 ∧
    (s.lacePassed m).hidden H.laceT = s.hidden H.laceT ||| m ∧ (s.lacePassed m).hidden H.laceLate = m := by
  simp (disch := decide) [State.lacePassed, State.hidden_setHidden_ne]

theorem State.lacePassed_effect (s : State) (m : Nat) :
    Effect s (s.lacePassed m) [] keys [hkey H.laceCand, hkey H.laceT, hkey H.laceLate] :=
  ((Effect.refl.setHidden (by decide)).setHidden (by decide)).setHidden (by decide)

theorem exec_laceVetoDecision_passed {m : Nat} (hruns : s.laceRuns = true) (hcand : s.hidden H.laceCand = m) (hm : m ≠ 0)
    (hveto : s.hidden H.laceVeto = 0) : exec (.laceVetoDecision false) s =
      .next ((s.lacePassed m).laceAccept m (s.hidden H.laceCandT)) := by
  subst hcand
  have hkept : (s.setHidden H.laceCand 0).hidden H.laceT = s.hidden H.laceT := State.hidden_setHidden_ne _ _ _ _ _ _ (by decide)
  change execLaceVetoDecision false s = _
  unfold execLaceVetoDecision State.lacePassed
  rw [if_pos ⟨hruns, hm⟩, hveto, ← hkept]
  rfl

theorem exec_laceClkLost (hruns : s.laceRuns = true) (cause : Fin 2) : exec (.laceClkLost cause) s = .next (s.laceLost cause.val) :=
  congrArg Host.Outcome.next (if_pos hruns)

theorem exec_laceClkOk {period : BitVec 64} (hen : s.plan O.laceEn = 1) (hstate : s.reg O.laceState = 1)
    (hgood : s.laceGood period.toNat = true) : exec (.laceClkOk period) s =
      .next (((s.setReg O.laceState 2).setReg O.lacePeriod period.toNat).raise 0x0A1 period.toNat) :=
  if_pos ⟨hen, hstate, hgood⟩

theorem State.laceLost_effect (s : State) (cause : Nat) : Effect s ((s.laceLost cause).withOut s.out) [(0x0A0, cause + 1)]
    [O.laceState.key 0 0] [hkey H.laceOut, hkey H.laceCand, hkey H.lacePend, hkey H.laceVeto, hkey H.laceS, hkey H.laceCounting,
      hkey H.laceT, hkey H.laceLate] := by
  have hidle := s.laceIdle_effect.mono (keys' := [O.laceState.key 0 0]) (hids' := [hkey H.laceOut, hkey H.laceCand, hkey H.lacePend,
    hkey H.laceVeto, hkey H.laceS, hkey H.laceCounting, hkey H.laceT, hkey H.laceLate]) (by decide) (by decide)
  unfold State.laceLost
  rw [State.raise_withOut, State.setHidden_withOut, State.setReg_withOut]
  exact ((hidle.setReg (by decide)).setHidden (by decide)).raise _ _ (by decide)

theorem State.laceLost_reads (s : State) (cause : Nat) : (s.laceLost cause).reg O.laceState = 1 ∧
    (s.laceLost cause).hidden H.laceCounting = 0 ∧ (s.laceLost cause).hidden H.lacePend = 0 := by
  unfold State.laceLost
  refine ⟨?_, ?_, ?_⟩
  · rw [State.reg_raise_ne _ _ _ _ _ _ (by decide), State.reg_setHidden, State.reg_setReg_same]
  · rw [State.hidden_raise, State.hidden_setHidden_same]
  · rw [State.hidden_raise, State.hidden_setHidden_ne _ _ _ _ _ _ (by decide), State.hidden_setReg, State.hidden_laceIdle_lacePend]

/-! ### The part that drives LACE_S -/

theorem exec_laceSCmd {m : Master} (ho : Owner s m) (hu : s.laceSDrive.getD s = u) :
    exec (.laceSCmd m 1) s = .next (u.withOut (replied u m)) := by
  subst hu
  exact State.command_ok ho rfl (by decide) (by decide) rfl

theorem State.laceSDrive_drives (hruns : s.laceRuns = true) (hdrive : s.plan O.laceSDrive = 1) (hsafe : s.reg O.frSafe = 0) :
    s.laceSDrive.getD s = (s.setHidden H.laceS 1).emit (.ball 17 true) := by
  rw [State.laceSDrive, if_pos ⟨hruns, hdrive, hsafe⟩, Option.getD_some]

theorem State.laceSDrive_idle (hdrive : s.plan O.laceSDrive = 0) : s.laceSDrive.getD s = s := by
  rw [State.laceSDrive, if_neg (by simp [hdrive]), Option.getD_none]

theorem toNat_ne_zero {m : BitVec 4} (h : m ≠ 0) : m.toNat ≠ 0 := fun h0 => h (BitVec.eq_of_toNat_eq h0)

theorem toNat_and_15 (m : BitVec 4) : m.toNat &&& 15 = m.toNat :=
  Nat.and_two_pow_sub_one_of_lt_two_pow (n := 4) m.isLt

/-- Settles O36: each command's answer is read off the writes that it makes, and lines reach no slot where none is enabled. -/
theorem lacing : Obligations.Lacing := by
  unfold Obligations.Lacing
  refine ⟨?_, ?_, ?_, ?_, ?_, ?_, ?_, ?_, ?_, ?_⟩
  · intro s m ho hen hstate hdrive hsafe
    have heffect : Effect s (s.setHidden H.laceS 1) [] [] [hkey H.laceS] := Effect.refl.setHidden List.mem_cons_self
    refine ⟨_, exec_laceSCmd ho (State.laceSDrive_drives (State.laceRuns_of hen hstate) hdrive hsafe), replied_congr m rfl, ?_, heffect⟩
    rw [State.hidden_withOut, State.hidden_emit, State.hidden_setHidden_same]
  · intro s m ho hdrive
    exact ⟨_, exec_laceSCmd ho (State.laceSDrive_idle hdrive), rfl, Effect.refl⟩
  · intro s cycle hen hstate
    obtain ⟨hcycle, htime, hcounting, hline⟩ := s.laceBegun_reads (s.laceTime cycle.val)
    obtain ⟨d, heffect⟩ := s.laceBegun_effect (s.laceTime cycle.val)
    have hraises : (s.laceBegun (s.laceTime cycle.val)).raises = told s s.raises [(0x0A2, d)] := heffect.2.1
    refine ⟨_, exec_laceEpoch (State.laceRuns_of hen hstate) cycle, hcycle, htime, hcounting, ?_, ?_, heffect.rest⟩
    · rw [hline]
      exact s.laceDropped_laceS _
    · rw [hraises]
      exact any_event_pushRaise ..
  · intro s m hen hstate hpend hm
    have hlaunched : Effect s ((s.setHidden H.lacePend 0).setHidden H.laceOut m.toNat) [] [] [hkey H.lacePend, hkey H.laceOut] :=
      (Effect.refl.setHidden (by decide)).setHidden (by decide)
    have hexec := exec_laceLaunch (State.laceRuns_of hen hstate) hpend (toNat_ne_zero hm)
    rw [State.laceBalls_eq] at hexec
    refine ⟨_, hexec, ?_, ?_, rfl, hlaunched⟩
    · rw [State.hidden_withOut, State.hidden_setHidden_ne _ _ _ _ _ _ (by decide), State.hidden_setHidden_same]
    · rw [State.hidden_withOut, State.hidden_setHidden_same]
  · intro s lines cycle hen hstate hown hoff hlines
    have hsubject : lines.toNat &&& s.plan O.laceVetoLines = 0 := by rw [hlines, Nat.and_zero]
    have hdirect : lines.toNat &&& (15 - s.plan O.laceVetoLines % 16) = lines.toNat := by
      rw [hlines]
      exact toNat_and_15 lines
    have hexec := exec_laceCandidate (State.laceRuns_of hen hstate) hown cycle hsubject hdirect (.inl rfl)
    obtain ⟨hcand, -, -, hline⟩ := s.laceSampled_reads 0 lines.toNat (s.laceTime cycle.val)
    rw [(State.slotsOff.laceSampled hoff ..).laceAccept] at hexec
    refine ⟨_, hexec, ?_, ?_, ?_, ?_⟩
    · intro n
      rw [State.laceCounted_line, State.laceSampled_count]
    · rw [State.laceCounted_hidden, hcand]
    · rw [State.laceCounted_hidden, hline]
    · exact ((s.laceSampled_effect ..).mono (by decide) (fun _ h => h)).laceCounted _ (by decide)
  · intro s lines cycle hen hstate hown hoff hlines hunits
    have hsubject : lines.toNat &&& s.plan O.laceVetoLines = lines.toNat := by rw [hlines, toNat_and_15]
    have hdirect : lines.toNat &&& (15 - s.plan O.laceVetoLines % 16) = 0 := by
      rw [hlines]
      exact Nat.and_zero _
    have hexec := exec_laceCandidate (State.laceRuns_of hen hstate) hown cycle hsubject hdirect (.inr hunits)
    obtain ⟨hcand, htime, hveto, hline⟩ := s.laceSampled_reads lines.toNat 0 (s.laceTime cycle.val)
    rw [(State.slotsOff.laceSampled hoff ..).laceAccept, State.laceCounted_zero] at hexec
    exact ⟨_, hexec, hcand, htime, hveto, hline.trans (Nat.zero_or _), s.laceSampled_effect ..⟩
  · intro s m hen hstate hcand hm hveto hrare
    refine ⟨_, exec_laceVetoDecision_vetoed (State.laceRuns_of hen hstate) hcand (toNat_ne_zero hm) hveto hrare, ?_, ?_, ?_⟩
    · rw [State.hidden_raise, State.hidden_setHidden_ne _ _ _ _ _ _ (by decide), State.laceVetoed, State.bumpSat, State.hidden_setReg,
        State.hidden_setHidden_same]
    · rw [State.reg_raise_ne _ _ _ _ _ _ (by decide), State.reg_setHidden, State.laceVetoed, State.bumpSat, State.reg_setReg_same,
        State.reg_setHidden]
    · exact (((Effect.refl.setHidden (by decide)).setReg (by decide)).setHidden (by decide)).raise _ _ (by decide)
  · intro s m hen hstate hcand hm hveto hoff
    have hexec := exec_laceVetoDecision_passed (State.laceRuns_of hen hstate) hcand (toNat_ne_zero hm) hveto
    obtain ⟨hnone, hline, hlate⟩ := s.lacePassed_reads m.toNat
    rw [(State.slotsOff.lacePassed hoff _).laceAccept] at hexec
    refine ⟨_, hexec, ?_, ?_, ?_, ?_, ?_⟩
    · rw [State.laceCounted_hidden, hnone]
    · exact State.laceCounted_line (s.lacePassed m.toNat) m
    · rw [State.laceCounted_hidden, hline]
    · rw [State.laceCounted_hidden, hlate]
    · exact (s.lacePassed_effect ..).laceCounted _ (by decide)
  · intro s cause hen hstate
    obtain ⟨hlost, hcounting, hpend⟩ := s.laceLost_reads cause.val
    exact ⟨_, exec_laceClkLost (State.laceRuns_of hen hstate) cause, hlost, hcounting, hpend, s.laceLost_effect cause.val⟩
  · intro s period hen hstate hgood
    refine ⟨_, exec_laceClkOk hen hstate hgood, ?_, ?_, ?_⟩
    · rw [State.reg_raise_ne _ _ _ _ _ _ (by decide), State.reg_setReg_ne _ _ _ _ _ _ _ _ (by decide), State.reg_setReg_same]
    · rw [State.reg_raise_ne _ _ _ _ _ _ (by decide), State.reg_setReg_same]
    · exact ((Effect.refl.setReg (by decide)).setReg (by decide)).raise _ _ (by decide)

end Sys2Proof.Machine
end

section
/-! SUPPORT. DRAM and what the density engine and the spectrogram generators hold: what a write leaves alone, and effects beside it. -/

namespace Sys2Proof.Machine

variable {s t : State}

/-! ### Lists of pairs in parts -/

/-- A part without a key is read past. -/
theorem Map.get_append_left {α : Type} (m m' : Map α) (d : α) {k : Nat} (h : ∀ p ∈ m, p.1 ≠ k) :
    Map.get (m ++ m') d k = Map.get m' d k := by
  induction m with
  | nil => rfl
  | cons p m ih =>
    obtain ⟨hp, hm⟩ := List.forall_mem_cons.mp h
    rw [List.cons_append, Map.get_cons, if_neg hp, ih hm]

/-- A part without a key changes nothing behind another. -/
theorem Map.get_append_right {α : Type} (m m' : Map α) (d : α) {k : Nat} (h : ∀ p ∈ m', p.1 ≠ k) :
    Map.get (m ++ m') d k = Map.get m d k := by
  induction m with
  | nil => simpa using Map.get_append_left m' [] d h
  | cons p m ih => rw [List.cons_append, Map.get_cons, Map.get_cons, ih]

/-- A key whose entries stay holds what it held. -/
theorem Map.get_filter {α : Type} (m : Map α) (d : α) {k : Nat} {f : Nat × α → Bool} (h : ∀ p, p.1 = k → f p = true) :
    Map.get (m.filter f) d k = Map.get m d k := by
  induction m with
  | nil => rfl
  | cons p m ih =>
    by_cases hp : f p = true
    · rw [List.filter_cons_of_pos hp, Map.get_cons, Map.get_cons, ih]
    · rw [List.filter_cons_of_neg hp, Map.get_cons, if_neg fun he => hp (h p he), ih]

/-! ### The machine with other holdings -/

/-- What the density engine and the spectrogram generators keep outside objects and hidden scalars, with DRAM. -/
structure Holdings where
  density : Density
  table : Map Nat
  lines : Map (List Line)
  mem : Map Byte
  poison : Map Nat

def State.holdings (s : State) : Holdings := ⟨s.density, s.table, s.lines, s.mem, s.poison⟩

def State.withHoldings (s : State) (x : Holdings) : State :=
  { s with density := x.density, table := x.table, lines := x.lines, mem := x.mem, poison := x.poison }

variable {x : Holdings}

@[simp] theorem State.reg_withHoldings (r : Row) (i j : Nat) : (s.withHoldings x).reg r i j = s.reg r i j := rfl
@[simp] theorem State.hidden_withHoldings (n i : Nat) : (s.withHoldings x).hidden n i = s.hidden n i := rfl
@[simp] theorem State.plan_withHoldings (r : Row) (i j : Nat) : (s.withHoldings x).plan r i j = s.plan r i j := rfl
@[simp] theorem State.streamsFree_withHoldings (kind src : Nat) : (s.withHoldings x).streamsFree kind src = s.streamsFree kind src := rfl

@[simp] theorem State.holdings_setReg (r : Row) (v i j : Nat) : (s.setReg r v i j).holdings = s.holdings := rfl

theorem State.setReg_withHoldings (r : Row) (v i j : Nat) : (s.withHoldings x).setReg r v i j = (s.setReg r v i j).withHoldings x := rfl
theorem State.bump_withHoldings (r : Row) (i j n : Nat) : (s.withHoldings x).bump r i j n = (s.bump r i j n).withHoldings x := rfl
theorem State.setHidden_withHoldings (n v i : Nat) : (s.withHoldings x).setHidden n v i = (s.setHidden n v i).withHoldings x := rfl
theorem State.portBytes_withHoldings (port n : Nat) : (s.withHoldings x).portBytes port n = (s.portBytes port n).withHoldings x := rfl

theorem State.raise_withHoldings (e d : Nat) : (s.withHoldings x).raise e d = (s.raise e d).withHoldings x := by
  rw [State.raise_eq, State.raise_eq]
  rfl

/-- With the holdings as they were, an effect is all that a command did. -/
theorem Effect.withHoldings {evs : List (Nat × Nat)} {keys hids : List Nat} (h : Effect s t evs keys hids) :
    Effect s (t.withHoldings s.holdings) evs keys hids := by
  have hsame : t.withHoldings s.holdings = t := by
    rw [h.1]
    rfl
  rw [hsame]
  exact h

/-! ### DRAM -/

/-- A byte reads by the memory, the poison and the order of addresses alone. -/
theorem State.readByte_congr {a : Nat} (hmem : t.mem = s.mem) (hpoison : t.poison = s.poison)
    (horder : t.hidden H.memOrder = s.hidden H.memOrder) : t.readByte a = s.readByte a := by
  unfold State.readByte State.poisoned State.orderMask
  rw [hmem, hpoison, horder]

/-- The holdings with other contents of DRAM: those that a machine holds. -/
def Holdings.dramOf (x : Holdings) (t : State) : Holdings := { x with mem := t.mem, poison := t.poison }

theorem State.writeLine_eq (s : State) (a : Nat) (bs : List Byte) :
    s.writeLine a bs = s.withHoldings (s.holdings.dramOf (s.writeLine a bs)) := by
  unfold State.writeLine
  split
  · split <;> rfl
  · rfl

theorem State.writeLines_eq (s : State) (n a : Nat) (bs : List Byte) :
    s.writeLines n a bs = s.withHoldings (s.holdings.dramOf (s.writeLines n a bs)) := by
  induction n generalizing s a bs with
  | zero => rfl
  | succ n ih =>
    cases bs with
    | nil => rfl
    | cons b bs =>
      unfold State.writeLines
      dsimp only
      rw [ih, State.writeLine_eq]
      rfl

/-- A write to DRAM changes the memory and its poison alone. -/
theorem State.writeMem_eq (s : State) (a : Nat) (bs : List Byte) :
    s.writeMem a bs = s.withHoldings (s.holdings.dramOf (s.writeMem a bs)) := s.writeLines_eq _ _ _

/-! ### A range replaced -/

theorem State.putRegion_eq (s : State) (a n : Nat) (b : List (Nat × Byte)) :
    s.putRegion a n b = s.withHoldings (s.holdings.dramOf (s.putRegion a n b)) := by
  unfold State.putRegion
  split
  · exact s.writeMem_eq _ _
  · rfl

/-- Whole lines replaced leave every byte outside them as it reads. -/
theorem State.putRegion_frame (s : State) {a n j : Nat} (b : List (Nat × Byte)) (ha : a % 64 = 0) (hn : n % 64 = 0)
    (h : j < a ∨ a + n ≤ j) : (s.putRegion a n b).readByte j = s.readByte j := by
  unfold State.putRegion
  split
  · exact s.writeMem_frame _ _ _ (by simpa using h)
  · have hput : ∀ p ∈ rising (a + n) a (b.map (fun e => (a + e.1, e.2))), p.1 ≠ j := fun p hp => by
      have hin := rising_mem _ _ _ p hp
      omega
    have hpoison : Map.get (s.poison.filter (fun e => decide (e.1 < a / 64 ∨ (a + n) / 64 ≤ e.1))) 0 (j / 64) =
        Map.get s.poison 0 (j / 64) := Map.get_filter _ _ fun p hp => by
      simp only [hp, decide_eq_true_eq]
      omega
    have hmem : Map.get (s.mem.filter (fun e => decide (e.1 < a)) ++ rising (a + n) a (b.map (fun e => (a + e.1, e.2))) ++
        s.mem.filter (fun e => decide (a + n ≤ e.1))) 0 j = Map.get s.mem 0 j := by
      rcases h with hbelow | habove
      · rw [Map.get_append_right _ _ _ (fun p hp => ?_), Map.get_append_right _ _ _ hput,
          Map.get_filter _ _ fun p hp => by simp [hp, hbelow]]
        have hin := (List.mem_filter.mp hp).2
        simp only [decide_eq_true_eq] at hin
        omega
      · rw [Map.get_append_left _ _ _ (fun p hp => ?_), Map.get_filter _ _ fun p hp => by simp [hp, habove]]
        rcases List.mem_append.mp hp with hp | hp
        · have hin := (List.mem_filter.mp hp).2
          simp only [decide_eq_true_eq] at hin
          omega
        · exact hput p hp
    simp only [State.readByte, State.poisoned, hmem, hpoison]
    rfl

end Sys2Proof.Machine
end

section
/-! SUPPORT. The hits of a group (R178, R180): what each does to the table, and where they fall in dot mode. -/

namespace Sys2Proof.Machine

variable {s t : State} {k w p : Nat}

/-! ### The table -/

/-- A count of 24 bits gains a weight, and its age becomes 0 (R178). -/
def hitEntry (v w : Nat) : Nat := min 16777215 (v / 256 + w) * 256

/-- A table after hits of a weight on a plane: `age` is what an entry reads as that is not listed. -/
def hitTable (age w p : Nat) (places : List (Nat × Nat)) (table : Map Nat) : Map Nat :=
  places.foldl (fun m q => Map.put m age (dnKey p q.1 q.2) (hitEntry (Map.get m age (dnKey p q.1 q.2)) w)) table

theorem get_hitTable_ne {age : Nat} {places : List (Nat × Nat)} (table : Map Nat) (h : ∀ q ∈ places, dnKey p q.1 q.2 ≠ k) :
    Map.get (hitTable age w p places table) age k = Map.get table age k := by
  induction places generalizing table with
  | nil => rfl
  | cons q places ih =>
    obtain ⟨hq, hrest⟩ := List.forall_mem_cons.mp h
    exact (ih _ hrest).trans (Map.get_put_ne _ _ _ _ hq.symm)

/-- Where no entry is hit twice, each entry hit gains the weight once. -/
theorem get_hitTable {age : Nat} {places : List (Nat × Nat)} {q : Nat × Nat} (table : Map Nat) (hq : q ∈ places)
    (h : places.Pairwise (fun a b => dnKey p a.1 a.2 ≠ dnKey p b.1 b.2)) :
    Map.get (hitTable age w p places table) age (dnKey p q.1 q.2) = hitEntry (Map.get table age (dnKey p q.1 q.2)) w := by
  induction places generalizing table with
  | nil => cases hq
  | cons x places ih =>
    obtain ⟨hx, hrest⟩ := List.pairwise_cons.mp h
    rcases List.mem_cons.mp hq with rfl | hin
    · exact (get_hitTable_ne _ fun b hb => (hx b hb).symm).trans (Map.get_put_same ..)
    · exact (ih _ hin hrest).trans (by rw [Map.get_put_ne _ _ _ _ (hx q hin).symm])

/-! ### The machine -/

/-- A hit puts its entry in place, and counts and tells a saturation (R178). -/
theorem State.dnHit_quiet (s : State) (p k w : Nat) : Quiet (s.dnPut k (hitEntry (s.dnGet k) w)) (s.dnHit p k w) := by
  unfold State.dnHit hitEntry
  dsimp only
  split
  · next hsat =>
    have hcount : ∀ u : State, Quiet u (u.bumpSat O.dnSatHits) := fun _ => rfl
    rw [Nat.min_eq_left hsat.le]
    exact (hcount _).trans (State.raiseRare_quiet ..)
  · next hfits =>
    rw [Nat.min_eq_right (Nat.not_lt.mp hfits)]
    rfl

theorem Quiet.foldl {α : Type} {f : State → α → State} (h : Quiet s t) (hf : ∀ u a, Quiet u (f u a)) (l : List α) :
    Quiet s (l.foldl f t) :=
  l.foldlRecOn f (motive := Quiet s) h fun u hu a _ => hu.trans (hf u a)

/-- The hits of a list of places change the table, and count and tell saturations. -/
theorem State.dnHits_quiet (s : State) (p w : Nat) (places : List (Nat × Nat)) :
    Quiet { s with table := hitTable s.density.age w p places s.table }
      (places.foldl (fun s q => s.dnHit p (dnKey p q.1 q.2) w) s) := by
  induction places generalizing s with
  | nil => rfl
  | cons q places ih =>
    have hhit := s.dnHit_quiet p (dnKey p q.1 q.2) w
    have hrest := ih (s.dnHit p (dnKey p q.1 q.2) w)
    rw [List.foldl_cons]
    generalize s.dnHit p (dnKey p q.1 q.2) w = u at hhit hrest
    refine Quiet.trans ?_ hrest
    rw [hhit]
    rfl

/-- Clamped points are counted and told (R177). -/
theorem State.dnClamps_quiet (s : State) (p : Nat) (rows : List (Nat × Bool)) :
    Quiet s (rows.foldl (fun s r => if r.2 then (s.bumpSat O.dnClamped).raiseRare 0x407 p else s) s) :=
  Quiet.foldl (t := s) rfl (fun u _ => by
    have hcount : Quiet u (u.bumpSat O.dnClamped) := rfl
    exact Quiet.ite (hcount.trans (State.raiseRare_quiet ..)) rfl) rows

/-! ### Dot mode -/

theorem dnRows_zero (r : Nat) (prev : Option Nat) : dnRows 0 r prev = [r] := by
  cases prev <;> rfl

/-- In dot mode each column is hit once, in its own row. -/
theorem dnPlaces_zero (rows : List Nat) : dnPlaces 0 rows = rows.zipIdx := by
  have hfst : (List.zip rows (none :: rows.map some)).map Prod.fst = rows := List.map_fst_zip (by simp)
  simp only [dnPlaces, dnRows_zero, List.map_cons, List.map_nil, ← List.map_eq_flatMap]
  conv_rhs => rw [← hfst, List.zipIdx_map]
  rfl

/-- The places that a group in dot mode hits on a plane of `width` columns. -/
def dotPlaces (g : Group) (width : Nat) : List (Nat × Nat) :=
  (dnPlaces 0 ((g.cols.map (dnRow g.top g.step)).map (·.1))).filter (fun q => decide (q.2 < width))

theorem mem_dotPlaces {g : Group} {width x : Nat} {l : Int} (hx : x < width) (hl : g.cols[x]? = some l) :
    ((dnRow g.top g.step l).1, x) ∈ dotPlaces g width := by
  rw [dotPlaces, dnPlaces_zero, List.mem_filter, List.mk_mem_zipIdx_iff_getElem?]
  simp [hl, hx]

/-- Different columns of a plane are different entries. -/
theorem dnKey_ne {r x r' x' : Nat} (hx : x < 2048) (hx' : x' < 2048) (h : x ≠ x') : dnKey p r x ≠ dnKey p r' x' := by
  unfold dnKey
  omega

theorem dotPlaces_pairwise (g : Group) {width : Nat} (hwidth : width ≤ 2048) :
    (dotPlaces g width).Pairwise (fun a b => dnKey p a.1 a.2 ≠ dnKey p b.1 b.2) := by
  have hcols : (dotPlaces g width).Pairwise (fun a b => a.2 ≠ b.2) := by
    rw [dotPlaces, dnPlaces_zero]
    refine List.Pairwise.filter _ (List.pairwise_map.mp ?_)
    rw [List.zipIdx_map_snd]
    exact List.nodup_range'
  refine hcols.imp_of_mem fun {a b} ha hb hne => ?_
  have hlt : ∀ q ∈ dotPlaces g width, q.2 < width := fun q hq => by simpa using (List.mem_filter.mp hq).2
  exact dnKey_ne ((hlt a ha).trans_le hwidth) ((hlt b hb).trans_le hwidth) hne

theorem State.dnW_le (s : State) : s.dnW ≤ 2048 := by
  unfold State.dnW
  split <;> decide

/-! ### A group -/

/-- The machine once a group in dot mode is plotted, but for objects, hidden scalars and raises. -/
def State.dotPlotted (s : State) (p : Nat) (g : Group) : State :=
  { s with table := hitTable s.density.age g.n p (dotPlaces g s.dnW) s.table,
           density := { s.density with plotted := Map.put s.density.plotted [] p [⟨g.first, g.last, g.n, dotPlaces g s.dnW⟩] } }

theorem State.dnPlot_quiet (g : Group) (hp : p < s.dnPlanes) (hmode : g.mode = 0) : Quiet (s.dotPlotted p g) (s.dnPlot p g) := by
  unfold State.dnPlot
  have hclamps := s.dnClamps_quiet p (g.cols.map (dnRow g.top g.step))
  dsimp only
  generalize (g.cols.map (dnRow g.top g.step)).foldl (fun s r => if r.2 then (s.bumpSat O.dnClamped).raiseRare 0x407 p else s) s = u
    at hclamps
  have hplanes : u.dnPlanes = s.dnPlanes := by
    rw [hclamps]
    rfl
  have hwidth : u.dnW = s.dnW := by
    rw [hclamps]
    rfl
  have hplaces : (dnPlaces g.mode ((g.cols.map (dnRow g.top g.step)).map (·.1))).filter
      (fun q => decide (p < u.dnPlanes ∧ q.2 < u.dnW)) = dotPlaces g s.dnW := by
    simp only [hplanes, hwidth, hp, true_and, hmode, dotPlaces]
  rw [hplaces]
  have hhits := u.dnHits_quiet p g.n (dotPlaces g s.dnW)
  generalize (dotPlaces g s.dnW).foldl (fun s q => s.dnHit p (dnKey p q.1 q.2) g.n) u = v at hhits
  unfold Quiet
  rw [hhits, hclamps]
  rfl

/-- The machine once a group in dot mode is written (R181): it leaves the queue, is plotted, and counts in the next header. -/
def State.dotWritten (s : State) (p : Fin 2) (g : Group) (rest : List Group) : State :=
  { s.dotPlotted p.val g with
    groups := Map.put s.groups [] p.val rest,
    density := { (s.dotPlotted p.val g).density with
      written := s.density.written.set p.val ((s.density.written.get p + 1) % 2 ^ 32), flags := s.density.flags ||| g.flags } }

theorem State.dnWrite_quiet {p : Fin 2} {g : Group} {rest : List Group} (hp : p.val < s.dnPlanes) (hg : s.dnGroups p.val = g :: rest)
    (hfull : g.full = true) (hmode : g.mode = 0) : Quiet (s.dotWritten p g rest) (s.dnWrite p) := by
  have hplot := State.dnPlot_quiet (s := s.setDnGroups p.val rest) g hp hmode
  unfold State.dnWrite
  rw [hg]
  simp only [hfull, if_true]
  generalize (s.setDnGroups p.val rest).dnPlot p.val g = u at hplot
  unfold Quiet
  rw [hplot]
  rfl

theorem State.dotWritten_get {p : Fin 2} {g : Group} {rest : List Group} {x : Nat} {l : Int} (hx : x < s.dnW) (hl : g.cols[x]? = some l) :
    (s.dotWritten p g rest).dnGet (dnKey p.val (dnRow g.top g.step l).1 x) =
      hitEntry (s.dnGet (dnKey p.val (dnRow g.top g.step l).1 x)) g.n := by
  have hget := get_hitTable (age := s.density.age) (w := g.n) s.table (mem_dotPlaces hx hl) (dotPlaces_pairwise (p := p.val) g s.dnW_le)
  exact hget

theorem Quiet.dnGet (h : Quiet s t) : t.dnGet k = s.dnGet k := by
  rw [h]
  rfl

end Sys2Proof.Machine
end

section
/-! SUPPORT. What is due at a tick of the density table (R183): a snapshot that freezes it, then a clear. -/

namespace Sys2Proof.Machine

variable {s : State}

/-! ### Snapshots -/

theorem State.dnSlots_congr {t : State} (h : t.plan O.dnSnapSize = s.plan O.dnSnapSize) : t.dnSlots = s.dnSlots := by
  rw [State.dnSlots, h, State.dnSlots]

theorem State.dnSnapNow_idle (h : s.density.snapDue = false) : s.dnSnapNow = s := if_neg (by simp [h])

theorem State.dnSnapNow_due (hdue : s.density.snapDue = true) (hnone : s.density.copying = none) (hslots : s.dnSlots ≠ 0) :
    s.dnSnapNow = s.dnFreeze := if_pos ⟨hdue, hnone, hslots⟩

/-- The objects that a freeze writes: the count of snapshots and the tick of the last. -/
def State.snapCounted (s : State) : State := (s.bump O.dnSnapSeq).setReg O.dnSnapT96 s.now

theorem State.snapCounted_reads (s : State) : s.snapCounted.reg O.dnSnapSeq = (s.reg O.dnSnapSeq + 1) % 2 ^ O.dnSnapSeq.width ∧
    s.snapCounted.reg O.dnSnapT96 = s.now := by
  unfold State.snapCounted
  rw [State.reg_setReg_ne _ _ _ _ _ _ _ _ (by decide), State.bump, State.reg_setReg_same, State.reg_setReg_same]
  exact ⟨rfl, rfl⟩

theorem State.snapCounted_effect (s : State) : Effect s s.snapCounted [] [O.dnSnapSeq.key 0 0, O.dnSnapT96.key 0 0] [] :=
  (Effect.refl.setReg (by decide)).setReg (by decide)

theorem State.snapCounted_plan (s : State) (r : Row) : s.snapCounted.plan r = s.plan r := by
  rw [State.snapCounted, State.plan_setReg, State.bump, State.plan_setReg]

theorem State.snapCounted_dnSlots (s : State) : s.snapCounted.dnSlots = s.dnSlots := by
  rw [State.dnSlots, State.snapCounted_plan, State.dnSlots]

theorem State.snapCounted_holdings (s : State) : s.snapCounted.holdings = s.holdings := by
  rw [State.snapCounted, State.holdings_setReg, State.bump, State.holdings_setReg]

theorem State.snapCounted_now (s : State) : s.snapCounted.now = s.now :=
  State.now_congr (by rw [State.snapCounted, State.setReg_tc, State.bump, State.setReg_tc])

/-- The table frozen, to be copied to a place; another slot is the next (R189). -/
def State.freezeTo (s : State) (place slot : Nat) : State :=
  { s with density := { s.density with
      snapDue := false, copying := some place, frozen := s.table, frozenAge := s.density.age, header := s.snapHeader, slot := slot,
      flags := 0, swapped := false } }

@[simp] theorem State.reg_freezeTo (place slot : Nat) (r : Row) (i j : Nat) : (s.freezeTo place slot).reg r i j = s.reg r i j := rfl
@[simp] theorem State.now_freezeTo (place slot : Nat) : (s.freezeTo place slot).now = s.now := rfl
@[simp] theorem State.freezeTo_clearDue (place slot : Nat) : (s.freezeTo place slot).density.clearDue = s.density.clearDue := rfl

/-- A freeze changes the density engine alone. -/
theorem State.freezeTo_restored (s : State) (place slot : Nat) : ({ s.freezeTo place slot with density := s.density } : State) = s := rfl

theorem State.freezeTo_frozen (s : State) (place slot : Nat) : (s.freezeTo place slot).density.copying = some place ∧
    (s.freezeTo place slot).density.frozen = s.table ∧ (s.freezeTo place slot).density.frozenAge = s.density.age ∧
    (s.freezeTo place slot).density.slot = slot := ⟨rfl, rfl, rfl, rfl⟩

/-- The place of the next snapshot, in a snapshot area of slots. -/
def State.snapPlace (s : State) : Nat := s.plan O.dnSnapBase + s.density.slot % s.dnSlots * 8388672

/-- The slot after it. -/
def State.snapNext (s : State) : Nat := (s.density.slot % s.dnSlots + 1) % s.dnSlots

theorem State.snapCounted_place (s : State) : s.snapCounted.snapPlace = s.snapPlace ∧ s.snapCounted.snapNext = s.snapNext := by
  have hslot : s.snapCounted.density.slot = s.density.slot := congrArg (·.density.slot) s.snapCounted_holdings
  rw [State.snapPlace, State.snapNext, hslot, State.snapCounted_plan, State.snapCounted_dnSlots]
  exact ⟨rfl, rfl⟩

theorem State.dnFreeze_eq (s : State) : s.dnFreeze = s.snapCounted.freezeTo s.snapPlace s.snapNext := by
  obtain ⟨hplace, hnext⟩ := s.snapCounted_place
  rw [← hplace, ← hnext]
  unfold State.dnFreeze State.freezeTo State.snapPlace State.snapNext State.snapCounted
  dsimp only

theorem exec_dnSnapTake (hdue : s.density.snapDue = true) (hnone : s.density.copying = none) (hslots : s.dnSlots ≠ 0) :
    exec .dnSnapTake s = .next s.dnFreeze := by
  change execDnSnapTake s = _
  rw [execDnSnapTake, State.dnSnapNow_due hdue hnone hslots]

/-- The snapshot that a request calls for (R189). -/
theorem State.dnSnapTake_does (hdue : s.density.snapDue = true) (hnone : s.density.copying = none) (hslots : s.dnSlots ≠ 0) :
    s.thenDoes .dnSnapTake (fun u => (u.density.frozen, u.density.copying, u.reg O.dnSnapSeq)) =
      some (s.table, some (s.plan O.dnSnapBase + s.density.slot % s.dnSlots * 8388672),
        (s.reg O.dnSnapSeq + 1) % 2 ^ O.dnSnapSeq.width) := by
  rw [State.thenDoes_of_exec _ (exec_dnSnapTake hdue hnone hslots), State.dnFreeze_eq, State.reg_freezeTo, s.snapCounted_reads.1]
  obtain ⟨hcopying, hfrozen, -, -⟩ := s.snapCounted.freezeTo_frozen s.snapPlace s.snapNext
  have htable : s.snapCounted.table = s.table := congrArg Holdings.table s.snapCounted_holdings
  rw [hcopying, hfrozen, htable, State.snapPlace]

/-- The machine with a snapshot due at the next tick. -/
def State.snapAsked (s : State) : State := { s with density := { s.density with snapDue := true } }

theorem actDnSnap_ok (hon : bit (s.reg O.pwrDomainOn) 30 = true) (hnone : s.density.copying = none) (hslots : s.dnSlots ≠ 0) :
    actDnSnap 1 s = .ok s.snapAsked := by
  rw [actDnSnap, onlyOne, refuseIf, if_neg (by decide)]
  refine reaching_on ?_ hon
  dsimp only
  rw [if_neg (by simp [hnone]), if_neg hslots]
  rfl

/-- What a snapshot asked for at one tick brings at the next. -/
theorem State.snapAsked_does (o : List Out) (hnone : s.density.copying = none) (hslots : s.dnSlots ≠ 0) :
    ({ s.snapAsked with out := o } : State).thenDoes .dnSnapTake (fun u => (u.density.frozen, u.density.copying, u.reg O.dnSnapSeq)) =
      some (s.table, some (s.plan O.dnSnapBase + s.density.slot % s.dnSlots * 8388672),
        (s.reg O.dnSnapSeq + 1) % 2 ^ O.dnSnapSeq.width) := by
  have hsame : ({ s.snapAsked with out := o } : State).dnSlots = s.dnSlots := State.dnSlots_congr rfl
  have hdoes := State.dnSnapTake_does (s := { s.snapAsked with out := o }) rfl hnone (hsame ▸ hslots)
  rw [hsame] at hdoes
  exact hdoes

theorem exec_dnSnapPeriodExpire_due (hperiod : s.plan O.dnSnapPeriod ≠ 0) (hslots : s.dnSlots ≠ 0) (hnone : s.density.copying = none) :
    exec .dnSnapPeriodExpire s = .next s.snapAsked := by
  change execDnSnapPeriodExpire s = _
  rw [execDnSnapPeriodExpire, if_neg (by simp [hperiod, hslots]), if_neg (by simp [hnone])]
  rfl

/-- A periodic snapshot that is due while another is copied is counted and told (R190). -/
theorem exec_dnSnapPeriodExpire_skipped (hperiod : s.plan O.dnSnapPeriod ≠ 0) (hslots : s.dnSlots ≠ 0)
    (hcopying : s.density.copying ≠ none) : exec .dnSnapPeriodExpire s =
      .next ((s.bumpSat O.dnSnapSkipped).raise 0x402 (satAdd O.dnSnapSkipped.width (s.reg O.dnSnapSkipped) 1)) := by
  change execDnSnapPeriodExpire s = _
  rw [execDnSnapPeriodExpire, if_neg (by simp [hperiod, hslots]), if_pos (Option.isSome_iff_ne_none.mpr hcopying)]
  dsimp only
  rw [State.bumpSat, State.reg_setReg_same]

/-! ### Clears -/

theorem State.dnDue_idle (hsnap : s.density.snapDue = false) (hclear : s.density.clearDue = false) : s.dnDue = s := by
  rw [State.dnDue, State.dnSnapNow_idle hsnap]
  exact if_neg (by simp [hclear])

/-- A snapshot that is due leaves a clear due, and takes no time. -/
theorem State.dnSnapNow_keeps (s : State) : s.dnSnapNow.density.clearDue = s.density.clearDue ∧ s.dnSnapNow.now = s.now := by
  unfold State.dnSnapNow
  split
  · rw [State.dnFreeze_eq, State.now_freezeTo, s.snapCounted_now, State.freezeTo_clearDue]
    exact ⟨congrArg (·.density.clearDue) s.snapCounted_holdings, rfl⟩
  · exact ⟨rfl, rfl⟩

theorem exec_dnClearApply (hdue : s.density.clearDue = true) : exec .dnClearApply s = .next (s.dnSnapNow.dnClear 1) := by
  change execDnClearApply s = _
  rw [execDnClearApply, if_pos hdue, State.dnDue]
  exact congrArg Host.Outcome.next (if_pos (s.dnSnapNow_keeps.1.trans hdue))

/-- An empty table (R184). -/
def Holdings.clear (x : Holdings) : Holdings :=
  { x with density := { x.density with age := 0, clearDue := false, written := Vector.replicate 2 0 }, table := [] }

theorem State.dnClear_eq (s : State) (cause : Nat) :
    s.dnClear cause = ((s.setReg O.dnClearT96 s.now).raise 0x403 cause).withHoldings s.holdings.clear := by
  rw [← State.raise_withHoldings, ← State.setReg_withHoldings]
  rfl

/-- A clear empties the table and records its tick. -/
theorem State.dnClear_reads (s : State) (cause : Nat) : (s.dnClear cause).table = [] ∧
    (s.dnClear cause).density.clearDue = false ∧ (s.dnClear cause).reg O.dnClearT96 = s.now := by
  rw [State.dnClear_eq, State.reg_withHoldings, State.reg_raise_unit _ _ (by decide), State.reg_setReg_same]
  exact ⟨rfl, rfl, rfl⟩

/-- The clear that a request calls for, after a snapshot that is due at the same tick. -/
theorem State.dnClearApply_does (hdue : s.density.clearDue = true) :
    s.thenDoes .dnClearApply (fun u => (u.table, u.density.clearDue, u.reg O.dnClearT96)) = some ([], false, s.now) := by
  obtain ⟨htable, hdone, ht96⟩ := s.dnSnapNow.dnClear_reads 1
  rw [State.thenDoes_of_exec _ (exec_dnClearApply hdue), htable, hdone, ht96, s.dnSnapNow_keeps.2]

theorem actDnClear_ok (hon : bit (s.reg O.pwrDomainOn) 30 = true) :
    actDnClear 1 s = .ok { s with density := { s.density with clearDue := true } } := reaching_on rfl hon

/-! ### Hits and decay at a tick with nothing else due -/

theorem exec_dnGroupWrite (hsnap : s.density.snapDue = false) (hclear : s.density.clearDue = false) (p : Fin 2) :
    exec (.dnGroupWrite p) s = .next (s.dnWrite p) := by
  change execDnGroupWrite p s = _
  rw [execDnGroupWrite, State.dnDue_idle hsnap hclear]

theorem exec_dnDecayTick (hsnap : s.density.snapDue = false) (hclear : s.density.clearDue = false) (hruns : s.reg O.dnState = 1) :
    exec .dnDecayTick s = .next { s with
      density := { s.density with age := min 255 (s.density.age + 1) },
      table := (s.table.map (fun e => (e.1, dnDecayed (s.plan O.dnDecay) (s.plan O.dnDecayAmount) (s.plan O.dnDecayShift)
        (s.plan O.dnPersist) e.2))).filter (fun e => e.2 != min 255 (s.density.age + 1)) } := by
  change execDnDecayTick s = _
  rw [execDnDecayTick, State.dnDue_idle hsnap hclear]
  exact if_pos hruns

end Sys2Proof.Machine
end

section
/-! SUPPORT. Copies of the density engine (R189, R191) and the lines of the spectrogram generators (R188). -/

namespace Sys2Proof.Machine

variable {s t : State}

/-! ### A snapshot copied -/

theorem State.streamRing_free {kind src base size off len index t96 : Nat} (h : s.streamsFree kind src = true) :
    s.streamRing kind src base size off len index t96 = s := by
  refine List.foldlRecOn _ _ (motive := fun u => u = s) rfl fun u hu n hn => ?_
  have hno : s.takesFrom n kind src = false := by simpa using List.all_eq_true.mp h n hn
  simp only [hu, hno, Bool.false_eq_true, if_false]

/-- The bytes moved on a port are no object of a stream. -/
theorem State.streamsFree_portBytes {kind src : Nat} (port n : Nat) (h : s.streamsFree kind src = true) :
    (s.portBytes port n).streamsFree kind src = true := by
  have hstate : ∀ m, (s.portBytes port n).reg O.stState m = s.reg O.stState m := fun m => by
    have hst : O.stState.key m 0 = (0x3202 + 4 * m) * 256 + 1 := rfl
    have hport : O.drPortBytes.key port 0 = (0x3020 + 1 * port) * 256 + 3 := rfl
    exact State.reg_setReg_ne _ _ _ _ _ _ _ _ (by omega)
  have htakes : ∀ m, (s.portBytes port n).takesFrom m kind src = s.takesFrom m kind src := fun m =>
    State.takesFrom_congr (hstate m) rfl rfl
  simpa only [State.streamsFree, htakes] using h

/-- What is held once a copied snapshot stands in its place in DRAM. -/
def Holdings.copied (x : Holdings) (t : State) : Holdings :=
  { x.dramOf t with density := { x.density with copying := none, frozen := [], frozenAge := 0 } }

/-- The bytes other than 0 of the snapshot that is copied, with their offsets: its header, then the frozen table (Table 8.2). -/
def Density.image (d : Density) : List (Nat × Byte) :=
  let two := decide (bits d.header 279 278 ≠ 0)
  ((leBytes d.header 64).zipIdx.filter (fun b => b.1 != 0)).map (fun b => (b.2, b.1)) ++
    (snapBytes (if two then 1024 else 2048) (if two then 2 else 1) d.frozenAge d.frozen).map (fun b => (64 + b.1, b.2))

/-- A snapshot that no stream follows is stored and told (R189). -/
theorem exec_dnSnapDone {base : Nat} (hcopying : s.density.copying = some base) (hfree : s.streamsFree 9 0 = true) :
    exec .dnSnapDone s = .next (((s.portBytes 11 8388672).raise 0x401 (bits s.density.header 511 480)).withHoldings
      (s.holdings.copied (s.putRegion base 8388672 s.density.image))) := by
  have hput : ∀ n b, ({ (s.putRegion base n b).portBytes 11 n with
      density := { s.density with copying := none, frozen := [], frozenAge := 0 } } : State) =
      (s.portBytes 11 n).withHoldings (s.holdings.copied (s.putRegion base n b)) := fun n b => by
    conv_lhs => rw [State.putRegion_eq, State.portBytes_withHoldings]
    rfl
  have hgone : ∀ b, ((s.portBytes 11 8388672).withHoldings (s.holdings.copied (s.putRegion base 8388672 b))).streamsFree 9 0 = true :=
    fun b => (State.streamsFree_withHoldings ..).trans (State.streamsFree_portBytes _ _ hfree)
  change execDnSnapDone s = _
  rw [← State.raise_withHoldings, execDnSnapDone, hcopying]
  dsimp only
  rw [hput, State.streamRing_free (hgone _)]
  rfl

/-- Its place alone is written. -/
theorem State.copied_readByte {u : State} {base n a : Nat} (b : List (Nat × Byte)) (hbase : base % 64 = 0) (hn : n % 64 = 0)
    (h : a < base ∨ base + n ≤ a) (horder : u.hidden H.memOrder = s.hidden H.memOrder) :
    (u.withHoldings (s.holdings.copied (s.putRegion base n b))).readByte a = s.readByte a := by
  have hkept : (s.putRegion base n b).hidden H.memOrder = s.hidden H.memOrder := by
    rw [State.putRegion_eq, State.hidden_withHoldings]
  rw [← s.putRegion_frame b hbase hn h]
  refine State.readByte_congr rfl rfl ?_
  rw [hkept, State.hidden_withHoldings, horder]

/-! ### Banks -/

/-- The errors that a bank has shown within the last second, with one at this tick. -/
def State.bankErrs (s : State) (b : Nat) : List Nat :=
  (Map.get s.density.errs [] b).filter (fun t => decide (s.up < t + secondTc)) ++ [s.up]

theorem State.bankErrs_length_le (s : State) (b : Nat) : (s.bankErrs b).length ≤ (Map.get s.density.errs [] b).length + 1 := by
  rw [State.bankErrs, List.length_append, List.length_singleton]
  exact Nat.add_le_add_right (List.length_filter_le _ _) 1

/-- What is held once an entry has failed its parity: it reads 0 (R191). -/
def State.entryFailed (s : State) (k b : Nat) : Holdings :=
  { (s.dnPut k 0).holdings with density := { s.density with errs := Map.put s.density.errs [] b (s.bankErrs b) } }

/-- A bank that has shown fewer than 15 errors in a second stays in service, and the error is counted (R191). -/
theorem exec_dnParityError {p : Fin 2} {col : Fin 2048} (row : Fin 1024) (hp : p.val < s.dnPlanes) (hcol : col.val < s.dnW)
    (hfew : (Map.get s.density.errs [] ((p.val * 1024 + col.val) % 64)).length < 15) :
    exec (.dnParityError p row col false) s = .next ((s.bumpSat O.dnParityErr).withHoldings
      (s.entryFailed (dnKey p.val row.val col.val) ((p.val * 1024 + col.val) % 64))) := by
  have hrecent := s.bankErrs_length_le ((p.val * 1024 + col.val) % 64)
  change execDnParityError p row col false s = _
  rw [execDnParityError, if_neg (by omega)]
  refine congrArg Host.Outcome.next (if_neg ?_)
  simp only [Bool.false_or, decide_eq_true_eq, Nat.not_le]
  exact hrecent.trans_lt (by omega)

/-- The density engine once a copied bank has taken its place. -/
def Density.bankCopied (d : Density) (b sp : Nat) (rest : List (Nat × Nat)) : Density :=
  { d with copies := rest, bankMap := Map.put d.bankMap 0 b (if sp = b then 0 else sp + 1), swapped := true,
           failing := d.failing.filter (· != b), errs := Map.put d.errs [] b [] }

/-- The fault of the banks ends where none fails any longer. -/
def State.banksUnfault (s : State) (failing : List Nat) : State := if failing.isEmpty then s.unfault 0x2C else s

theorem State.banksUnfault_effect (s : State) (failing : List Nat) :
    Effect s (s.banksUnfault failing) [] [] [hkey H.drive 0x2C] :=
  Effect.ite (Effect.refl.setHidden List.mem_cons_self) Effect.refl

theorem State.banksUnfault_withHoldings (x : Holdings) (failing : List Nat) :
    (s.withHoldings x).banksUnfault failing = (s.banksUnfault failing).withHoldings x := by
  unfold State.banksUnfault
  split <;> rfl

theorem exec_dnBankCopyDone {b sp : Nat} {rest : List (Nat × Nat)} (h : s.density.copies = (b, sp) :: rest) :
    exec .dnBankCopyDone s =
      .next (((s.banksUnfault (s.density.bankCopied b sp rest).failing).raise 0x404 (s.dnBank b + 256 * sp)).withHoldings
        { s.holdings with density := s.density.bankCopied b sp rest }) := by
  rw [← State.raise_withHoldings, ← State.banksUnfault_withHoldings]
  change execDnBankCopyDone s = _
  rw [execDnBankCopyDone, h]
  rfl

/-- The spare serves the bank. -/
theorem State.dnBank_bankCopied {d : Density} {b sp : Nat} {rest : List (Nat × Nat)} (h : s.density = d.bankCopied b sp rest) :
    s.dnBank b = sp := by
  have hmap : Map.get s.density.bankMap 0 b = if sp = b then 0 else sp + 1 := by
    rw [h]
    exact Map.get_put_same ..
  unfold State.dnBank
  dsimp only
  rw [hmap]
  by_cases hown : sp = b <;> simp [hown]

/-! ### The palette -/

theorem actPalette_ok {image : List Byte} (h : image.length = 4096) :
    actPalette image s = .ok (s.setDom O.dnPalette (paletteClean image)) := if_pos h

/-! ### Spectrogram lines -/

theorem key_sgLineSeq (n : Nat) : O.sgLineSeq.key n 0 = (0x2011 + 0x10 * n) * 256 + 1 := rfl
theorem key_sgWriteLine (n : Nat) : O.sgWriteLine.key n 0 = (0x2011 + 0x10 * n) * 256 + 2 := rfl

/-- The place of a generator's next line. -/
def State.sgPlace (s : State) (n : Nat) (x : Line) : Nat :=
  s.plan O.sgRingBase n + s.reg O.sgWriteLine n * (s.sgBytes n x).length

/-- What a line of so many bytes counts, and the place shown for the next. -/
def State.lineCounted (s : State) (n len : Nat) : State :=
  ((s.portBytes 4 len).setReg O.sgWriteLine ((s.reg O.sgWriteLine n + 1) % s.plan O.sgRingLines n) n).bump O.sgLineSeq n

/-- A generator's line is noted, and told where it is the first. -/
def State.lineTold (s : State) (n first : Nat) : State :=
  if s.hidden H.sgWrote n = 0 then (s.setHidden H.sgWrote (s.hidden H.sgWrote n + 1) n).raise (0x408 + n) first
  else s.setHidden H.sgWrote (s.hidden H.sgWrote n + 1) n

theorem State.lineCounted_withHoldings (x : Holdings) (n len : Nat) :
    (s.withHoldings x).lineCounted n len = (s.lineCounted n len).withHoldings x := by
  unfold State.lineCounted
  rw [State.portBytes_withHoldings, State.reg_withHoldings, State.plan_withHoldings, State.setReg_withHoldings,
    State.bump_withHoldings]

theorem State.lineTold_withHoldings (x : Holdings) (n first : Nat) :
    (s.withHoldings x).lineTold n first = (s.lineTold n first).withHoldings x := by
  unfold State.lineTold
  rw [State.hidden_withHoldings, State.setHidden_withHoldings, State.raise_withHoldings]
  split <;> rfl

/-- What is held once a line of a generator stands in its ring. -/
def State.lineStored (s : State) (n : Nat) (x : Line) (rest : List Line) : Holdings :=
  { s.holdings.dramOf ((s.setSgLines n rest).writeMem (s.sgPlace n x) (s.sgBytes n x)) with lines := Map.put s.lines [] n rest }

/-- A complete line is stored, counted, and told where it is the first (R188, Table 8.5). -/
theorem exec_sgLineWrite {g : Fin 2} {x : Line} {rest : List Line} (h : s.sgLines g.val = x :: rest) (hfull : x.full = true) :
    exec (.sgLineWrite g) s =
      .next (((s.lineCounted g.val (s.sgBytes g.val x).length).lineTold g.val x.first).withHoldings (s.lineStored g.val x rest)) := by
  have hstored : (s.setSgLines g.val rest).writeMem (s.sgPlace g.val x) (s.sgBytes g.val x) =
      s.withHoldings (s.lineStored g.val x rest) := State.writeMem_eq ..
  have hline : ((s.setSgLines g.val rest).writeMem (s.sgPlace g.val x) (s.sgBytes g.val x)).reg O.sgWriteLine g.val =
      s.reg O.sgWriteLine g.val := by
    rw [hstored, State.reg_withHoldings]
  have hlines : ∀ u : State, (u.portBytes 4 (s.sgBytes g.val x).length).plan O.sgRingLines g.val = u.plan O.sgRingLines g.val :=
    fun _ => rfl
  change execSgLineWrite g s = _
  rw [← State.lineTold_withHoldings, ← State.lineCounted_withHoldings, ← hstored, State.lineCounted, hline, execSgLineWrite,
    State.sgWrite, h]
  dsimp only
  rw [if_pos hfull, State.sgPlace, hlines]
  rfl

theorem State.lineCounted_reads (s : State) (n len : Nat) :
    (s.lineCounted n len).reg O.sgWriteLine n = (s.reg O.sgWriteLine n + 1) % s.plan O.sgRingLines n ∧
    (s.lineCounted n len).reg O.sgLineSeq n = (s.reg O.sgLineSeq n + 1) % 2 ^ O.sgLineSeq.width := by
  have hport : O.drPortBytes.key 4 0 = 0x3024 * 256 + 3 := rfl
  have hseq := key_sgLineSeq n
  have hline := key_sgWriteLine n
  have hbefore : ∀ v w, ((s.setReg O.drPortBytes v 4).setReg O.sgWriteLine w n).reg O.sgLineSeq n = s.reg O.sgLineSeq n := fun v w => by
    rw [State.reg_setReg_ne _ _ _ _ _ _ _ _ (by omega), State.reg_setReg_ne _ _ _ _ _ _ _ _ (by omega)]
  unfold State.lineCounted State.portBytes State.bump
  rw [State.reg_setReg_same, State.reg_setReg_ne _ _ _ _ _ _ _ _ (by omega), State.reg_setReg_same, hbefore]
  exact ⟨rfl, rfl⟩

theorem State.lineCounted_hidden (n len m i : Nat) : (s.lineCounted n len).hidden m i = s.hidden m i := by
  rw [State.lineCounted, State.bump, State.hidden_setReg, State.hidden_setReg, State.portBytes, State.bump, State.hidden_setReg]

/-- What is told of a line changes no object of a unit, and of hidden scalars the generator's own alone. -/
theorem State.lineTold_reg {r : Row} (s : State) (n first : Nat) (hr : 0x1000 ≤ r.idx) : (s.lineTold n first).reg r n = s.reg r n := by
  unfold State.lineTold
  split
  · exact State.reg_raise_unit _ _ hr
  · rfl

theorem State.lineTold_hidden {m i : Nat} (s : State) (n first : Nat) (h : hkey m i ≠ hkey H.sgWrote n) :
    (s.lineTold n first).hidden m i = s.hidden m i := by
  unfold State.lineTold
  split
  · rw [State.hidden_raise, State.hidden_setHidden_ne _ _ _ _ _ _ h]
  · exact State.hidden_setHidden_ne _ _ _ _ _ _ h

theorem State.lineTold_effect (s : State) (n len first : Nat) : Effect s ((s.lineCounted n len).lineTold n first)
    (if s.hidden H.sgWrote n = 0 then [(0x408 + n, first)] else [])
    [O.sgWriteLine.key n 0, O.sgLineSeq.key n 0, O.drPortBytes.key 4 0] [hkey H.sgWrote n] := by
  have hcounted : Effect s (s.lineCounted n len) []
      [O.sgWriteLine.key n 0, O.sgLineSeq.key n 0, O.drPortBytes.key 4 0] [hkey H.sgWrote n] :=
    ((Effect.refl.setReg (by simp)).setReg (by simp)).setReg (by simp)
  have hunit : ∀ k ∈ [O.sgWriteLine.key n 0, O.sgLineSeq.key n 0, O.drPortBytes.key 4 0], 0x100000 ≤ k := by
    simp only [List.forall_mem_cons, List.not_mem_nil, false_implies, implies_true, and_true]
    exact ⟨Row.key_ge (by decide), Row.key_ge (by decide), Row.key_ge (by decide)⟩
  rw [State.lineTold, State.lineCounted_hidden]
  have hnoted := hcounted.setHidden (n := H.sgWrote) (i := n) (v := s.hidden H.sgWrote n + 1) List.mem_cons_self
  split
  · exact hnoted.raise_unit _ _ hunit
  · exact hnoted

/-- The bytes of the line alone are written. -/
theorem State.lineStored_readByte {u : State} {n a : Nat} {x : Line} (rest : List Line)
    (h : a < s.sgPlace n x ∨ s.sgPlace n x + (s.sgBytes n x).length ≤ a) (horder : u.hidden H.memOrder = s.hidden H.memOrder) :
    (u.withHoldings (s.lineStored n x rest)).readByte a = s.readByte a := by
  have hframe : ((s.setSgLines n rest).writeMem (s.sgPlace n x) (s.sgBytes n x)).readByte a = s.readByte a :=
    State.writeMem_frame _ _ _ _ h
  have hkept : ((s.setSgLines n rest).writeMem (s.sgPlace n x) (s.sgBytes n x)).hidden H.memOrder = s.hidden H.memOrder := by
    rw [State.writeMem_eq, State.hidden_withHoldings]
    rfl
  rw [← hframe]
  refine State.readByte_congr rfl rfl ?_
  rw [hkept, State.hidden_withHoldings, horder]

/-! ### The statement -/

/-- Settles O19: hits are a fold over the table in which dot mode meets each entry once (`get_hitTable`), what is due at a tick is a
freeze or a clear, and every other command is a change of what is held (`Holdings`) beside an effect. -/
theorem densityAndSpectrograms : Obligations.DensityAndSpectrograms := by
  unfold Obligations.DensityAndSpectrograms
  refine ⟨?_, ?_, ?_, ?_, ?_, ?_, ?_, ?_, ?_, ?_, ?_, ?_, ?_⟩
  · intro s p g rest hsnap hclear hp hg hfull hmode
    have hquiet := State.dnWrite_quiet hp hg hfull hmode
    refine ⟨_, exec_dnGroupWrite hsnap hclear p, ?_, ?_, ?_, ?_⟩
    · rw [hquiet]
      exact Map.get_put_same ..
    · rw [hquiet]
      rfl
    · intro x l hx hl
      rw [hquiet.dnGet, State.dotWritten_get hx hl, hitEntry]
    · rw [hquiet]
      rfl
  · intro s hsnap hclear hruns
    exact ⟨_, exec_dnDecayTick hsnap hclear hruns, rfl, rfl, rfl⟩
  · intro s m ho hon
    refine ⟨_, State.command_ok ho rfl (by decide) (by decide) (actDnClear_ok hon), replied_congr m rfl, rfl, ?_, rfl⟩
    exact State.dnClearApply_does rfl
  · intro s hdue hsnap
    have hexec := exec_dnClearApply hdue
    rw [State.dnSnapNow_idle hsnap] at hexec
    obtain ⟨htable, -, ht96⟩ := s.dnClear_reads 1
    have heffect : Effect s ((s.setReg O.dnClearT96 s.now).raise 0x403 1) [(0x403, 1)] [O.dnClearT96.key 0 0] [] :=
      (Effect.refl.setReg List.mem_cons_self).raise_unit _ _ (by decide)
    refine ⟨_, hexec, htable, ?_, ht96, ?_⟩
    · rw [State.dnClear_eq]
      rfl
    · rw [State.dnClear_eq]
      exact heffect.withHoldings
  · intro s m ho hon hnone hslots
    exact ⟨_, State.command_ok ho rfl (by decide) (by decide) (actDnSnap_ok hon hnone hslots), replied_congr m rfl, rfl,
      State.snapAsked_does _ hnone hslots, rfl⟩
  · intro s hperiod hslots hnone
    exact ⟨_, exec_dnSnapPeriodExpire_due hperiod hslots hnone, rfl, State.snapAsked_does s.out hnone hslots, rfl⟩
  · intro s hperiod hslots hcopying
    refine ⟨_, exec_dnSnapPeriodExpire_skipped hperiod hslots hcopying, ?_, ?_⟩
    · rw [State.reg_raise_unit _ _ (by decide), State.bumpSat, State.reg_setReg_same]
    · have hcounted : Effect s (s.bumpSat O.dnSnapSkipped) [] [O.dnSnapSkipped.key 0 0] [] := Effect.refl.setReg List.mem_cons_self
      exact hcounted.raise_unit _ _ (by decide)
  · intro s hdue hnone hslots
    have hexec := exec_dnSnapTake hdue hnone hslots
    rw [State.dnFreeze_eq] at hexec
    obtain ⟨hseq, ht96⟩ := s.snapCounted_reads
    obtain ⟨hcopying, hfrozen, hage, hslot⟩ := s.snapCounted.freezeTo_frozen s.snapPlace s.snapNext
    have hdensity : s.snapCounted.density = s.density := congrArg Holdings.density s.snapCounted_holdings
    have htable : s.snapCounted.table = s.table := congrArg Holdings.table s.snapCounted_holdings
    refine ⟨_, hexec, ?_, ?_, rfl, ?_, ?_, ?_, ?_, htable, ?_⟩
    · rw [State.reg_freezeTo, hseq]
    · rw [State.reg_freezeTo, ht96]
    · rw [hcopying, State.snapPlace]
    · rw [hfrozen, htable]
    · rw [hage, hdensity]
    · rw [hslot, State.snapNext]
    · rw [← hdensity, State.freezeTo_restored]
      exact s.snapCounted_effect
  · intro s base hcopying hbase hfree
    refine ⟨_, exec_dnSnapDone hcopying hfree, rfl, ?_, ?_⟩
    · intro a ha
      refine State.copied_readByte _ hbase (by decide) ha ?_
      rw [State.hidden_raise, State.portBytes, State.bump, State.hidden_setReg]
    · have hcounted : Effect s (s.portBytes 11 8388672) [] [O.drPortBytes.key 11 0] [] := Effect.refl.setReg List.mem_cons_self
      exact (hcounted.raise_unit _ _ (by decide)).withHoldings
  · intro s p row col hp hcol hfew
    have heffect : Effect s (s.bumpSat O.dnParityErr) [] [O.dnParityErr.key 0 0] [] := Effect.refl.setReg List.mem_cons_self
    exact ⟨_, exec_dnParityError row hp hcol hfew, Map.get_put_same .., State.reg_setReg_same .., rfl, heffect.withHoldings⟩
  · intro s b sp rest hcopies
    have heffect := s.banksUnfault_effect (s.density.bankCopied b sp rest).failing
    exact ⟨_, exec_dnBankCopyDone hcopies, rfl, State.dnBank_bankCopied rfl, rfl, (heffect.raise_unit _ _ (by simp)).withHoldings⟩
  · intro s m l ho hlen
    exact ⟨_, State.load_ok ho (actPalette_ok hlen), replied_congr m rfl, State.dom_setDom_same .., rfl, rfl⟩
  · intro s g x rest hlines hfull
    obtain ⟨hplace, hseq⟩ := s.lineCounted_reads g.val (s.sgBytes g.val x).length
    refine ⟨_, exec_sgLineWrite hlines hfull, Map.get_put_same .., ?_, ?_, ?_, (s.lineTold_effect ..).withHoldings⟩
    · rw [State.reg_withHoldings, State.lineTold_reg _ _ _ (by decide), hplace]
    · rw [State.reg_withHoldings, State.lineTold_reg _ _ _ (by decide), hseq]
    · intro a ha
      refine State.lineStored_readByte rest ha ?_
      rw [State.lineTold_hidden _ _ _ ?_, State.lineCounted_hidden]
      simp only [hkey, H.memOrder, H.sgWrote]
      omega

end Sys2Proof.Machine
end

section
/-! SUPPORT. Status bits of an awl core (Table 10.2). -/

namespace Sys2Proof.Machine

variable {a b : BitVec 16} {l : List (Nat × Bool)} {i n : Nat} {v : Bool}

theorem getLsbD_bit (i : Nat) (hn : n < 16) : (1#16 <<< i).getLsbD n = decide (n = i) := by
  simp only [BitVec.getLsbD_shiftLeft, BitVec.getLsbD_one, hn, decide_true, Bool.true_and, ← Bool.decide_and, ← decide_not]
  exact decide_eq_decide.mpr (by omega)

theorem getLsbD_srSet (sr : BitVec 16) (v : Bool) (hn : n < 16) : (srSet sr i v).getLsbD n = if n = i then v else sr.getLsbD n := by
  unfold srSet
  cases v
  · simp only [Bool.false_eq_true, if_false, BitVec.getLsbD_and, BitVec.getLsbD_not, getLsbD_bit i hn, hn]
    split <;> simp_all
  · simp only [if_true, BitVec.getLsbD_or, getLsbD_bit i hn]
    split <;> simp_all

theorem srSets_iff : SrSets a b l ↔ ∀ n < 16, b.getLsbD n = (l.lookup n).getD (a.getLsbD n) := by
  simp [SrSets, List.all_eq_true]

theorem SrSets.refl (a : BitVec 16) : SrSets a a [] := srSets_iff.mpr fun _ _ => rfl

theorem SrSets.of_eq (h : b = a) : SrSets a b [] := h ▸ SrSets.refl a

/-- One bit more is set, or cleared. -/
theorem SrSets.set (h : SrSets a b l) (v : Bool) (hi : l.lookup i = none) : SrSets a (srSet b i v) (l ++ [(i, v)]) := by
  refine srSets_iff.mpr fun n hn => ?_
  rw [getLsbD_srSet _ _ hn, List.lookup_append, srSets_iff.mp h n hn]
  by_cases hni : n = i
  · simp [hni, hi]
  · have hne : (n == i) = false := by simpa using hni
    simp [List.lookup_cons, hne, hni]

/-- A sticky bit keeps what it held. -/
theorem srSets_srStick (a : BitVec 16) (i : Nat) (v : Bool) : SrSets a (srStick a i v) [(i, srBit a i || v)] := by
  cases v with
  | true =>
    rw [Bool.or_true]
    exact (SrSets.refl a).set true rfl
  | false =>
    refine srSets_iff.mpr fun n _ => ?_
    by_cases hni : n = i
    · simp [srStick, srBit, hni]
    · have hne : (n == i) = false := by simpa using hni
      simp [srStick, List.lookup_cons, hne]

end Sys2Proof.Machine
end

section
/-! SUPPORT. Bench positions: what is read of one after another is set, where its objects lie (Table 9.5), and what an instruction
that retires leaves (R234). -/

namespace Sys2Proof.Machine

variable {s t u : State} {p : Pos} {i : Instr} {cost k : Nat} {c : Core}

/-! ### Positions -/

@[simp] theorem posKey_bench (p : Pos) : posKey p / 16 = p.bench.val := by
  unfold posKey
  omega

@[simp] theorem posKey_pos (p : Pos) : posKey p % 16 = p.pos.val := by
  unfold posKey
  omega

@[simp] theorem State.aw_setAw_same (s : State) (k : Nat) (q : Position) : (s.setAw k q).aw k = q := Map.get_put_same ..

theorem State.aw_setAw_ne (s : State) (q : Position) {k j : Nat} (h : j ≠ k) : (s.setAw k q).aw j = s.aw j :=
  Map.get_put_ne _ _ _ _ h

/-! ### The machine with other positions -/

def State.withPositions (s : State) (m : Map Position) : State := { s with positions := m }

theorem State.raise_withPositions (s : State) (m : Map Position) (e d : Nat) :
    (s.withPositions m).raise e d = (s.raise e d).withPositions m := by
  rw [State.raise_eq, State.raise_eq]
  rfl

/-- An event of a core leaves the positions alone. -/
@[simp] theorem State.aw_raise (s : State) (e d k : Nat) : (s.raise e d).aw k = s.aw k := by simp [State.aw]

/-- With the positions as they were, an effect is all that a command did. -/
theorem Effect.withPositions {evs : List (Nat × Nat)} {keys hids : List Nat} (h : Effect s t evs keys hids) :
    Effect s (t.withPositions s.positions) evs keys hids := by
  have hsame : t.withPositions s.positions = t := by
    rw [h.1]
    rfl
  rw [hsame]
  exact h

/-! ### Objects of positions and benches -/

/-- One object of each position. -/
abbrev Row.OfPosition (r : Row) : Prop := r.idx = 0x2600 ∧ r.ist = 1 ∧ r.sub < 0x100

theorem Row.OfPosition.key {r : Row} (h : r.OfPosition) (k : Nat) : r.key k 0 = (0x2600 + k) * 256 + r.sub := by
  obtain ⟨hidx, hist, -⟩ := h
  simp [Row.key, hidx, hist]

theorem State.reg_setReg_position {r q : Row} {v : Nat} (hr : r.OfPosition) (hq : q.OfPosition) (h : q.sub ≠ r.sub) :
    (s.setReg r v k).reg q k = s.reg q k :=
  State.reg_setReg_ne _ _ _ _ _ _ _ _ (by rw [hr.key, hq.key]; omega)

/-! ### Retiring -/

/-- An instruction at its place within the budget retires: `u` is what it does to the machine beside its core. -/
theorem State.awIssue_retires {x : Writes} {f : State → State} (h : AtInstr s p i cost) (hf : f s = u.setCore (posKey p) c)
    (hcycles : (u.aw (posKey p)).cycles = (s.aw (posKey p)).cycles) :
    ∃ t, s.awIssue p i cost x f = .next t ∧ Retires u t p cost c ∧ (t.core p).sr = c.sr := by
  obtain ⟨hready, hbudget⟩ := h
  let q : Position := { u.aw (posKey p) with cycles := (s.aw (posKey p)).cycles + cost, core := c.shift x }
  have hnext : s.awIssue p i cost x f = .next ((u.setCore (posKey p) c).setAw (posKey p) q) := by
    simp only [State.awIssue, hready, hbudget, if_true, hf, State.setCore, State.aw_setAw_same, q]
  have hcore : ((u.setCore (posKey p) c).setAw (posKey p) q).core p = c.shift x := by simp [State.core, q]
  refine ⟨_, hnext, ⟨rfl, fun k hk => ?_, ?_, ?_⟩, ?_⟩
  · rw [State.aw_setAw_ne _ _ hk, State.setCore, State.aw_setAw_ne _ _ hk]
  · rw [hcore, State.aw_setAw_same, hcycles]
  · rw [hcore]
    rfl
  · rw [hcore]
    rfl

/-- An instruction of the core alone. -/
theorem State.awIssue_core {x : Writes} (g : Core → Core) (h : AtInstr s p i cost) :
    ∃ t, s.awIssue p i cost x (fun u => u.setCore (posKey p) (g (u.core p))) = .next t ∧ Retires s t p cost (g (s.core p)) ∧
      (t.core p).sr = (g (s.core p)).sr :=
  State.awIssue_retires h rfl rfl

/-- An instruction that acts beyond the core and goes on to the next. -/
theorem State.awActs_retires {x : Writes} {f : State → State} (h : AtInstr s p i cost)
    (hcycles : ((f s).aw (posKey p)).cycles = (s.aw (posKey p)).cycles) :
    ∃ t, s.awActs p i cost x f = .next t ∧ Retires (f s) t p cost ((f s).core p).advance ∧
      (t.core p).sr = ((f s).core p).sr :=
  State.awIssue_retires h rfl hcycles

theorem Retires.regs (h : Retires u t p cost c) (hsr : (t.core p).sr = c.sr) : (t.core p).regs = c.regs := by
  rw [h.2.2.2, hsr]
  rfl

/-- What has retired is told from what it did by its positions alone. -/
theorem Retires.withPositions (h : Retires u t p cost c) (m : Map Position) : t.withPositions m = u.withPositions m := by
  rw [h.1]
  rfl

end Sys2Proof.Machine
end

section
/-! Control flow of the awl cores (R201, R222, R230 to R232): the cores after a transfer of control, and a frame that ends at WAIT. -/

namespace Sys2Proof.Machine

variable {s : State} {p : Pos} {k : Nat}

/-! ### Transfers of control -/

theorem Core.ret_of_nil {c : Core} (h : c.stack = []) : c.ret = { c with pc := c.pc + 1, sr := srSet c.sr SR.stk true } := by
  rw [Core.ret, h]

theorem Core.ret_of_cons {c : Core} {a : BitVec 12} {l : List (BitVec 12)} (h : c.stack = a :: l) :
    c.ret = { c with pc := a, stack := l } := by
  rw [Core.ret, h]

theorem Core.rep_sr (c : Core) (level : Fin 3) (count : BitVec 16) (last : BitVec 12) : (c.rep level count last).sr = c.sr := by
  unfold Core.rep
  dsimp only
  split <;> rfl

/-! ### The end of a frame -/

theorem State.awShadowed_none (wait : Bool) (h : s.shadows = []) : s.awShadowed k wait = s := by
  unfold State.awShadowed
  rw [h, List.map_nil, ← h]

theorem State.awTake_none (h : (s.aw k).token = none) : s.awTake k = s := by
  unfold State.awTake
  dsimp only
  rw [h]

/-- A position whose frame has ended. -/
def Position.ended (q : Position) : Position :=
  { q with running := false, core := { q.core with hazA1 := 0, hazA2 := 0, hazD1 := 0, hazD2 := 0, hazW1 := 0 } }

/-- The objects of a position at the end of a frame of so many cycles. -/
def State.frameCounted (s : State) (k cycles : Nat) : State :=
  ((s.bump O.awFrames k).setReg O.awCycMax (max (s.reg O.awCycMax k) cycles) k).setReg O.awState 1 k

theorem State.frameCounted_reads (s : State) (k cycles : Nat) : (s.frameCounted k cycles).reg O.awState k = 1 ∧
    (s.frameCounted k cycles).reg O.awFrames k = (s.reg O.awFrames k + 1) % 2 ^ O.awFrames.width ∧
    (s.frameCounted k cycles).reg O.awCycMax k = max (s.reg O.awCycMax k) cycles := by
  have hstate : O.awState.OfPosition := by decide
  have hframes : O.awFrames.OfPosition := by decide
  have hcycles : O.awCycMax.OfPosition := by decide
  refine ⟨State.reg_setReg_same .., ?_, ?_⟩
  · rw [State.frameCounted, State.reg_setReg_position hstate hframes (by decide),
      State.reg_setReg_position hcycles hframes (by decide), State.bump, State.reg_setReg_same]
  · rw [State.frameCounted, State.reg_setReg_position hstate hcycles (by decide), State.reg_setReg_same]

theorem State.frameCounted_withPositions (s : State) (m : Map Position) (k cycles : Nat) :
    (s.withPositions m).frameCounted k cycles = (s.frameCounted k cycles).withPositions m := rfl

theorem State.frameCounted_effect (s : State) (k cycles : Nat) :
    Effect s (s.frameCounted k cycles) [] [O.awState.key k 0, O.awFrames.key k 0, O.awCycMax.key k 0] [] :=
  ((Effect.refl.setReg (by simp)).setReg (by simp)).setReg (by simp)

/-- The frame of a position ends with no restart, token or fitting waiting for it. -/
theorem State.awFrameEnd_counted {q : Position} (wait : Bool) (hq : s.aw k = q) (hrestart : q.restart = false) (htoken : q.token = none)
    (hshadows : s.shadows = []) : s.awFrameEnd k wait = (s.setAw k q.ended).frameCounted k q.cycles := by
  have hframes : O.awFrames.OfPosition := by decide
  have hcycles : O.awCycMax.OfPosition := by decide
  have hmax : ((s.setAw k q.ended).bump O.awFrames k).reg O.awCycMax k = (s.setAw k q.ended).reg O.awCycMax k :=
    State.reg_setReg_position hframes hcycles (by decide)
  have hnone : (((s.setAw k q.ended).frameCounted k q.cycles).aw k).token = none :=
    (congrArg Position.token (s.aw_setAw_same k q.ended)).trans htoken
  have hsame : ((s.setAw k q.ended).frameCounted k q.cycles).awShadowed k wait = (s.setAw k q.ended).frameCounted k q.cycles :=
    State.awShadowed_none wait hshadows
  rw [← State.awTake_none hnone, ← hsame, State.frameCounted, ← hmax, ← hq]
  exact congrArg (State.awTake · k) (if_neg (by simp [hq, hrestart]))

/-- The position at a WAIT that retires. -/
def Position.waited (q : Position) : Position :=
  { q with cycles := q.cycles + 1, core := q.core.advance, afterWait := some q.core.advance.pc }

/-- The machine once a position waits. -/
def State.awWaits (s : State) (k : Nat) : State := (s.setAw k (s.aw k).waited).setAw k (s.aw k).waited.ended

theorem State.awWaits_rest (s : State) (k cycles : Nat) :
    ((s.awWaits k).frameCounted k cycles).withPositions s.positions = s.frameCounted k cycles := by
  have hrest : (s.awWaits k).withPositions s.positions = s := by
    dsimp only [State.awWaits, State.setAw, State.withPositions]
  rw [← State.frameCounted_withPositions, hrest]

theorem State.aw_awWaits_same (s : State) (k : Nat) : (s.awWaits k).aw k = (s.aw k).waited.ended := State.aw_setAw_same ..

theorem State.aw_awWaits_ne (s : State) {j : Nat} (h : j ≠ k) : (s.awWaits k).aw j = s.aw j :=
  (State.aw_setAw_ne _ _ h).trans (State.aw_setAw_ne _ _ h)

theorem exec_wait (h : AtInstr s p (.wait p) 1) (hrestart : (s.aw (posKey p)).restart = false)
    (htoken : (s.aw (posKey p)).token = none) (hshadows : s.shadows = []) :
    exec (.wait p) s = .next ((s.awWaits (posKey p)).frameCounted (posKey p) ((s.aw (posKey p)).cycles + 1)) := by
  obtain ⟨hready, hbudget⟩ := h
  change execWait p s = _
  rw [execWait]
  dsimp only
  rw [if_pos hready, if_pos hbudget]
  exact congrArg _ (State.awFrameEnd_counted true (State.aw_setAw_same ..) hrestart htoken hshadows)

/-- Settles O20: a register instruction or a transfer of control retires by `State.awIssue_retires`, and a WAIT ends its frame. -/
theorem awlControl : Obligations.AwlControl := by
  refine ⟨?_, ?_, ?_, ?_, ?_, ?_, ?_, ?_⟩
  · intro s p h
    obtain ⟨t, hexec, hretires, hsr⟩ := State.awIssue_core (x := {}) Core.advance h
    exact ⟨t, hexec, hretires, SrSets.of_eq hsr⟩
  · intro s p h hrestart htoken hshadows
    have haw := s.aw_awWaits_same (posKey p)
    obtain ⟨hstate, hframes, hcycles⟩ := (s.awWaits (posKey p)).frameCounted_reads (posKey p) ((s.aw (posKey p)).cycles + 1)
    have heffect := s.frameCounted_effect (posKey p) ((s.aw (posKey p)).cycles + 1)
    refine ⟨_, exec_wait h hrestart htoken hshadows, hstate, hframes, hcycles, ?_, ?_, ?_, ?_, ?_⟩
    · exact congrArg Position.running haw
    · exact congrArg Position.afterWait haw
    · exact congrArg (fun q => q.core.regs) haw
    · exact fun k hk => s.aw_awWaits_ne hk
    · rw [← State.awWaits_rest] at heffect
      exact heffect
  · intro s p cond target h hcond
    obtain ⟨t, hissue, hretires, hsr⟩ := State.awIssue_core (x := {}) (Core.branch · target) h
    exact ⟨t, (if_pos hcond).trans hissue, hretires, SrSets.of_eq hsr⟩
  · intro s p cond target h hcond
    obtain ⟨t, hissue, hretires, hsr⟩ := State.awIssue_core (x := {}) Core.advance h
    exact ⟨t, (if_neg (by simp [hcond])).trans hissue, hretires, SrSets.of_eq hsr⟩
  · intro s p target h
    obtain ⟨t, hexec, hretires, hsr⟩ := State.awIssue_core (x := {}) (Core.call · target) h
    refine ⟨t, hexec, hretires, ?_⟩
    rw [hsr]
    exact srSets_srStick ..
  · intro s p a l h hstack
    obtain ⟨t, hexec, hretires, hsr⟩ := State.awIssue_core (x := {}) Core.ret h
    rw [Core.ret_of_cons hstack] at hretires hsr
    exact ⟨t, hexec, hretires, SrSets.of_eq hsr⟩
  · intro s p h hstack
    obtain ⟨t, hexec, hretires, hsr⟩ := State.awIssue_core (x := {}) Core.ret h
    rw [Core.ret_of_nil hstack] at hretires hsr
    refine ⟨t, hexec, hretires, ?_⟩
    rw [hsr]
    exact (SrSets.refl _).set true rfl
  · intro s p lv n last h
    obtain ⟨t, hexec, hretires, hsr⟩ := State.awIssue_core (x := {}) (fun c => c.rep lv (c.repCount n) last) h
    exact ⟨t, hexec, hretires, SrSets.of_eq (hsr.trans (Core.rep_sr ..))⟩

end Sys2Proof.Machine
end

section
/-! SUPPORT. Awl instructions that act on the device (R204 to R207, R233): each as a change of the machine and one of its position. -/

namespace Sys2Proof.Machine

variable {s t v : State} {p : Pos} {i : Instr} {cost k n : Nat} {q : Position}

/-! ### Retiring with a change of the device -/

theorem Core.sr_of_regs {c d : Core} (h : c.regs = d.regs) : c.sr = d.sr := by
  have hsr := congrArg Core.sr h
  exact hsr

/-- An instruction that changes its position to `q` and the machine beside the positions to `v` goes on to the next. -/
theorem State.awActs_setAw {x : Writes} {f : State → State} (h : AtInstr s p i cost) (hf : f s = v.setAw (posKey p) q)
    (hv : v.positions = s.positions) (hq : q.cycles = (s.aw (posKey p)).cycles) :
    ∃ t, s.awActs p i cost x f = .next t ∧ t.withPositions s.positions = v ∧ (∀ k, k ≠ posKey p → t.aw k = s.aw k) ∧
      t.aw (posKey p) = { q with cycles := q.cycles + cost, core := t.core p } ∧ (t.core p).regs = q.core.advance.regs := by
  have hself : (v.setAw (posKey p) q).aw (posKey p) = q := State.aw_setAw_same ..
  have hcore : (v.setAw (posKey p) q).core p = q.core := congrArg Position.core hself
  obtain ⟨t, hexec, hretires, hsr⟩ := State.awActs_retires (x := x) (f := f) h (by rw [hf, hself, hq])
  rw [hf] at hretires hsr
  rw [hcore] at hretires hsr
  have hregs := hretires.regs hsr
  have hplaces := hretires.withPositions s.positions
  obtain ⟨-, hothers, hown, -⟩ := hretires
  refine ⟨t, hexec, ?_, fun k hk => ?_, ?_, hregs⟩
  · rw [hplaces, ← hv]
    dsimp only [State.withPositions, State.setAw]
  · rw [hothers k hk, State.aw_setAw_ne _ _ hk, State.aw, hv, State.aw]
  · rw [hown, hself]

/-- A machine with the positions of another sets one as the other does. -/
theorem State.withPositions_put (q : Position) (h : v.positions = s.positions) :
    v.withPositions (Map.put s.positions {} k q) = v.setAw k q := by
  rw [← h]
  rfl

theorem State.raise_setAw (s : State) (k : Nat) (q : Position) (e d : Nat) : (s.setAw k q).raise e d = (s.raise e d).setAw k q :=
  (s.raise_withPositions _ e d).trans (State.withPositions_put q (State.raise_positions ..))

/-! ### Events of a core (R216) -/

theorem State.awEvent_eq (s : State) (p : Pos) (kind value : Nat) : s.awEvent (posKey p) kind value =
    s.raise (0x480 + 17 * p.bench.val + s.reg O.awPhys (posKey p)) (awData (posKey p) kind value) := by
  rw [State.awEvent, posKey_bench]

theorem awData_word (p : Pos) (kind : Nat) (w : BitVec 16) :
    awData (posKey p) kind w.toNat = kind + 256 * p.pos.val + 65536 * w.toNat := by
  rw [awData, posKey_pos, Nat.mod_eq_of_lt w.isLt]

/-- An instruction that tells an event retires as one that tells none, but for the objects and the raises. -/
theorem Retires.of_raise {c : Core} {e d : Nat} (h : Retires (s.raise e d) t p cost c) :
    Retires s { t with regs := s.regs, raises := s.raises } p cost c := by
  obtain ⟨hrest, hothers, hown, hregs⟩ := h
  simp only [State.aw_raise] at hothers hown
  refine ⟨?_, hothers, hown, hregs⟩
  rw [hrest, State.raise_eq]

/-- An instruction that tells one event and goes on to the next. -/
theorem State.awActs_raise {x : Writes} {f : State → State} {e d : Nat} (h : AtInstr s p i cost) (hf : f s = s.raise e d) :
    ∃ t, s.awActs p i cost x f = .next t ∧ (t.core p).sr = (s.core p).sr ∧
      Retires s { t with regs := s.regs, raises := s.raises } p cost (s.core p).advance ∧
      Effect s (t.withPositions s.positions) [(e, d)] [] [] := by
  have hcore : (s.raise e d).core p = s.core p := congrArg Position.core (s.aw_raise e d _)
  have htold : Effect s (s.raise e d) [(e, d)] [] [] := Effect.refl.raise_unit e d (by simp)
  obtain ⟨t, hexec, hretires, hsr⟩ := State.awActs_retires (x := x) (f := f) h (by rw [hf, State.aw_raise])
  rw [hf] at hretires hsr
  rw [hcore] at hretires hsr
  refine ⟨t, hexec, hsr, hretires.of_raise, ?_⟩
  rw [hretires.withPositions]
  exact htold.withPositions

/-! ### Flag lines (R204) -/

/-- A position with a bit of a line. -/
def Position.withFlag (q : Position) (line : Nat) (b : Bool) : Position := { q with flags := setBit q.flags line b }

/-- The OR of the flag bits over a bench. -/
def State.benchFlags (s : State) (b : Nat) : Nat := (List.range 16).foldl (fun a i => a ||| (s.aw (16 * b + i)).flags) 0

theorem State.benchFlags_congr (b : Nat) (h : ∀ k, (t.aw k).flags = (s.aw k).flags) : t.benchFlags b = s.benchFlags b := by
  simp only [State.benchFlags, h]

/-- SETFLAG and CLRFLAG: the position's bit of the line, and `BN_FLAGS`. -/
theorem State.awFlag_retires (line : Fin 4) (b : Bool) (h : AtInstr s p i 1) :
    ∃ t, s.awActs p i 1 {} (fun s => s.setAwFlags (posKey p) (setBit (s.aw (posKey p)).flags line.val b)) = .next t ∧
      SrSets (s.core p).sr (t.core p).sr [] ∧
      (t.aw (posKey p)).flags = setBit (s.aw (posKey p)).flags line.val b ∧
      t.reg O.bnFlags p.bench.val = t.benchFlags p.bench.val ∧
      (t.core p).regs = (s.core p).advance.regs ∧
      (∀ k, k ≠ posKey p → t.aw k = s.aw k) ∧
      Effect s (t.withPositions s.positions) [] [O.bnFlags.key p.bench.val 0] [] := by
  let u := s.setAw (posKey p) ((s.aw (posKey p)).withFlag line.val b)
  have hf : s.setAwFlags (posKey p) (setBit (s.aw (posKey p)).flags line.val b) =
      (s.setReg O.bnFlags (u.benchFlags p.bench.val) p.bench.val).setAw (posKey p) ((s.aw (posKey p)).withFlag line.val b) := by
    rw [← posKey_bench p]
    rfl
  obtain ⟨t, hexec, hrest, hothers, hown, hregs⟩ :=
    State.awActs_setAw (x := {}) (f := fun s => s.setAwFlags (posKey p) (setBit (s.aw (posKey p)).flags line.val b)) h hf rfl rfl
  have hflags : ∀ k, (t.aw k).flags = (u.aw k).flags := fun k => by
    by_cases hk : k = posKey p
    · rw [hk, hown, State.aw_setAw_same]
    · rw [hothers k hk, State.aw_setAw_ne _ _ hk]
  have hshown : t.reg O.bnFlags p.bench.val = u.benchFlags p.bench.val :=
    (congrArg (fun w : State => w.reg O.bnFlags p.bench.val) hrest).trans (State.reg_setReg_same ..)
  have hsr : (t.core p).sr = (s.core p).advance.sr := Core.sr_of_regs hregs
  refine ⟨t, hexec, SrSets.of_eq hsr, congrArg Position.flags hown, ?_, hregs, hothers, ?_⟩
  · rw [hshown, State.benchFlags_congr _ hflags]
  · rw [hrest]
    exact Effect.refl.setReg List.mem_cons_self

/-! ### EMIT (R205, R233) -/

/-- The position once its EMIT is refused. -/
def Position.refused (q : Position) : Position :=
  { q with core := { q.core with sr := srSet q.core.sr SR.ref true }, recFlags := q.recFlags ||| 8 }

/-- A refused EMIT is counted and told. -/
theorem State.awRefused_eq (s : State) (p : Pos) : s.awRefused (posKey p) =
    ((s.bumpSat O.awRecRefused (posKey p)).raise (0x480 + 17 * p.bench.val + s.reg O.awPhys (posKey p))
      (awData (posKey p) 3 (s.aw (posKey p)).frame)).setAw (posKey p) (s.aw (posKey p)).refused := by
  have hphys : (s.bumpSat O.awRecRefused (posKey p)).reg O.awPhys (posKey p) = s.reg O.awPhys (posKey p) :=
    State.reg_setReg_position (by decide) (by decide) (by decide)
  rw [← State.raise_setAw, ← hphys]
  exact State.awEvent_eq ((s.setAw (posKey p) (s.aw (posKey p)).refused).bumpSat O.awRecRefused (posKey p)) p 3 (s.aw (posKey p)).frame

theorem State.writeLine_withPositions (s : State) (m : Map Position) (a : Nat) (bs : List Byte) :
    (s.withPositions m).writeLine a bs = (s.writeLine a bs).withPositions m := by
  unfold State.writeLine
  split
  · rename_i hpoisoned
    rw [if_pos (show s.poisoned (a / 64) = true from hpoisoned)]
    split <;> rfl
  · rename_i hclean
    rw [if_neg (show ¬ s.poisoned (a / 64) = true from hclean)]
    rfl

theorem State.writeLines_withPositions (s : State) (m : Map Position) (n a : Nat) (bs : List Byte) :
    (s.withPositions m).writeLines n a bs = (s.writeLines n a bs).withPositions m := by
  induction n generalizing s a bs with
  | zero => rfl
  | succ n ih =>
    cases bs with
    | nil => rfl
    | cons b bs =>
      unfold State.writeLines
      dsimp only
      rw [State.writeLine_withPositions, ih]

/-- A write to DRAM takes no heed of positions. -/
theorem State.writeMem_withPositions (s : State) (m : Map Position) (a : Nat) (bs : List Byte) :
    (s.withPositions m).writeMem a bs = (s.writeMem a bs).withPositions m := s.writeLines_withPositions ..

/-- A machine whose streams take nothing from a source goes on so through a write of an object that is no stream's. -/
theorem State.streamsFree_setReg {r : Row} {w i j kind src : Nat} (hr : ∀ m, O.stState.key m 0 ≠ r.key i j)
    (h : s.streamsFree kind src = true) : (s.setReg r w i j).streamsFree kind src = true := by
  have htakes : ∀ m, (s.setReg r w i j).takesFrom m kind src = s.takesFrom m kind src := fun m =>
    State.takesFrom_congr (State.reg_setReg_ne _ _ _ _ _ _ _ _ (hr m)) rfl rfl
  simpa only [State.streamsFree, htakes] using h

theorem State.streamsFree_setAw (s : State) (k : Nat) (q : Position) (kind src : Nat) :
    (s.setAw k q).streamsFree kind src = s.streamsFree kind src := by
  have htakes : ∀ m, (s.setAw k q).takesFrom m kind src = s.takesFrom m kind src := fun _ => State.takesFrom_congr rfl rfl rfl
  simp only [State.streamsFree, htakes]

@[simp] theorem State.awBytes_length (s : State) (k a n : Nat) : (s.awBytes k a n).length = n := by
  induction n generalizing a with
  | zero => rfl
  | succ n ih => rw [State.awBytes, List.length_cons, ih]

/-- What a record of `n` payload bytes is in the ring of its bench (Table 9.3). -/
def State.recordImage (s : State) (k a n tag : Nat) : List Byte :=
  leBytes (s.awHeader k tag n) 64 ++ s.awBytes k a n ++ List.replicate (recordBytes n - 64 - n) 0

theorem State.recordImage_length (s : State) (k a n tag : Nat) : (s.recordImage k a n tag).length = recordBytes n := by
  simp only [State.recordImage, List.length_append, leBytes_length, State.awBytes_length, List.length_replicate, recordBytes]
  omega

/-- The offset of the next record in the ring of a bench. -/
def State.recordOffset (s : State) (b n : Nat) : Nat :=
  ringStart (s.reg O.bnRecWritePtr b) (recordBytes n) (s.plan O.bnRecSize b)

/-- A record stored at a place, with the offset of the next one. -/
def State.putRecord (s : State) (b place n next : Nat) (image : List Byte) (o : Out) : State :=
  (((s.writeMem place image).portBytes 4 n).setReg O.bnRecWritePtr next b).emit o

theorem State.putRecord_withPositions (s : State) (m : Map Position) (b place n next : Nat) (image : List Byte) (o : Out) :
    (s.withPositions m).putRecord b place n next image o = (s.putRecord b place n next image o).withPositions m := by
  unfold State.putRecord
  rw [State.writeMem_withPositions]
  rfl

/-- The machine beside its positions once a record stands in the ring. -/
def State.recordStored (s : State) (k a n tag : Nat) : State :=
  s.putRecord (k / 16) (s.plan O.bnRecBase (k / 16) + s.recordOffset (k / 16) n) (recordBytes n)
    ((s.recordOffset (k / 16) n + recordBytes n) % s.plan O.bnRecSize (k / 16)) (s.recordImage k a n tag)
    (.record 6 (leBytes (s.awHeader k tag n) 64))

theorem State.recordStored_positions (s : State) (k a n tag : Nat) : (s.recordStored k a n tag).positions = s.positions := by
  rw [State.recordStored, State.putRecord, State.writeMem_eq]
  rfl

theorem State.recordStored_bench (s : State) (k a n tag : Nat) : (s.recordStored k a n tag).bench = s.bench := by
  rw [State.recordStored, State.putRecord, State.writeMem_eq]
  rfl

theorem State.recordStored_next (s : State) (k a n tag : Nat) : (s.recordStored k a n tag).reg O.bnRecWritePtr (k / 16) =
    (s.recordOffset (k / 16) n + recordBytes n) % s.plan O.bnRecSize (k / 16) := by
  rw [State.recordStored, State.putRecord, State.reg_emit, State.reg_setReg_same]

theorem State.recordStored_streamsFree (a tag : Nat) (h : s.streamsFree 8 (k / 16) = true) :
    (s.recordStored k a n tag).streamsFree 8 (k / 16) = true := by
  have hptr : ∀ m, O.stState.key m 0 ≠ O.bnRecWritePtr.key (k / 16) 0 := fun m => by
    have hstream : O.stState.key m 0 = (0x3202 + 4 * m) * 256 + 1 := rfl
    have hbench : O.bnRecWritePtr.key (k / 16) 0 = (0x2410 + 1 * (k / 16)) * 256 + 2 := rfl
    omega
  rw [State.recordStored, State.putRecord, State.writeMem_eq]
  exact State.streamsFree_setReg hptr (State.streamsFree_portBytes _ _ h)

/-- The record's bytes alone are written. -/
theorem State.recordStored_readByte {j : Nat} (a tag : Nat) (h : j < s.plan O.bnRecBase (k / 16) + s.recordOffset (k / 16) n ∨
    s.plan O.bnRecBase (k / 16) + s.recordOffset (k / 16) n + recordBytes n ≤ j) :
    (s.recordStored k a n tag).readByte j = s.readByte j := by
  rw [← s.recordImage_length k a n tag] at h
  rw [State.recordStored, State.putRecord, ← s.writeMem_frame _ _ _ h]
  exact State.readByte_congr (by simp [State.portBytes]) (by simp [State.portBytes]) (by simp [State.portBytes, State.bump])

/-- The position once it has emitted a record of `n` payload bytes. -/
def Position.emitted (q : Position) (n : Nat) : Position := { q with recBytes := q.recBytes + recordBytes n, recFlags := 0 }

/-- A record that no stream follows. -/
theorem State.awRecord_free (a tag : Nat) (h : s.streamsFree 8 (k / 16) = true) :
    s.awRecord k a n tag = (s.recordStored k a n tag).setAw k ((s.aw k).emitted n) := by
  have hput := s.putRecord_withPositions (Map.put s.positions {} k ((s.aw k).emitted n)) (k / 16)
    (s.plan O.bnRecBase (k / 16) + s.recordOffset (k / 16) n) (recordBytes n)
    ((s.recordOffset (k / 16) n + recordBytes n) % s.plan O.bnRecSize (k / 16)) (s.recordImage k a n tag)
    (.record 6 (leBytes (s.awHeader k tag n) 64))
  rw [← State.recordStored, State.withPositions_put _ (s.recordStored_positions ..)] at hput
  have hfree : ((s.recordStored k a n tag).setAw k ((s.aw k).emitted n)).streamsFree 8 (k / 16) = true :=
    (State.streamsFree_setAw ..).trans (State.recordStored_streamsFree a tag h)
  rw [← hput] at hfree ⊢
  unfold State.putRecord at hfree ⊢
  exact State.streamRing_free hfree

theorem State.awEmit_record {a : Nat} (tag : Nat) (hlow : 1 ≤ n) (hhigh : n ≤ 4096) (hpayload : payloadOk a n = true)
    (hmax : (s.aw k).recBytes + recordBytes n ≤ (s.aw k).recMax) (hsize : recordBytes n ≤ s.plan O.bnRecSize (k / 16)) :
    s.awEmit k a n tag = s.awRecord k a n tag := by
  unfold State.awEmit
  dsimp only
  rw [if_neg (by omega), if_neg (by simp [hpayload]), if_neg (by omega)]

theorem State.awEmit_refused {a : Nat} (tag : Nat) (h : n = 0 ∨ 4096 < n) : s.awEmit k a n tag = s.awRefused k :=
  if_pos (by omega)

/-! ### SPILL (R207, R233) -/

/-- The position once its spill has begun. -/
def Position.spilling (q : Position) : Position :=
  { q with core := { q.core with sr := srSet (srSet q.core.sr SR.spl false) SR.spb true } }

theorem State.awSpill_started {a off len : Nat} (back : Bool) (hlow : 1 ≤ len) (hhigh : len ≤ 1024) (hregion : awRegion a = 2)
    (halign : a % 64 = 0) (hend : a + 64 * len ≤ 2 ^ 20) (hsize : 64 * off + 64 * len ≤ s.plan O.bnSpillSize (k / 16))
    (hidle : srBit (s.aw k).core.sr SR.spb = false) : s.awSpill k a off len back =
      ({ s with spills := s.spills ++ [{ pos := k, out := !back, bench := a - 0x80000, off := 64 * off, len := 64 * len }] } :
        State).setAw k (s.aw k).spilling := by
  unfold State.awSpill
  dsimp only
  rw [if_neg (by simp only [hregion, halign, hidle, ne_eq, not_true_eq_false, Bool.false_eq_true, false_or, or_false]; omega)]
  rfl

end Sys2Proof.Machine
end

section
/-! The awl instructions that act on the device. -/

namespace Sys2Proof.Machine

/-- Settles O21: an event, and positions and objects changed beside it, are read off what each instruction does to the machine
(`State.awActs_setAw`). -/
theorem awlDevice : Obligations.AwlDevice := by
  refine ⟨?_, ?_, ?_, ?_, ?_, ?_⟩
  · intro s p v h
    have hevent := s.awEvent_eq p 1 ((s.core p).op2 v).toNat
    rw [awData_word] at hevent
    obtain ⟨t, hexec, hsr, hretires, heffect⟩ := State.awActs_raise (x := {})
      (f := fun s => s.awEvent (posKey p) 1 ((s.core p).op2 v).toNat) h hevent
    exact ⟨t, hexec, SrSets.of_eq hsr, hretires, heffect⟩
  · exact fun s p line h => State.awFlag_retires line true h
  · exact fun s p line h => State.awFlag_retires line false h
  · intro s p jp dl tag waits h hlow hhigh hpayload hmax hsize hfree
    rw [← posKey_bench] at hsize hfree ⊢
    have hf := (State.awEmit_record tag.toNat hlow hhigh hpayload hmax hsize).trans (State.awRecord_free _ _ hfree)
    obtain ⟨t, hexec, hrest, -, hown, hregs⟩ := State.awActs_setAw (x := {})
      (f := fun u => u.awEmit (posKey p) ((s.core p).j.get jp).toNat ((s.core p).d.get dl).toNat tag.toNat) h hf
      (s.recordStored_positions ..) rfl
    have hsr : (t.core p).sr = (s.core p).advance.sr := Core.sr_of_regs hregs
    refine ⟨t, hexec, SrSets.of_eq hsr, ?_, congrArg Position.recBytes hown, congrArg Position.recFlags hown, hregs, ?_, fun j hj => ?_⟩
    · have hnext := congrArg (fun u : State => u.reg O.bnRecWritePtr (posKey p / 16)) hrest
      exact hnext.trans (s.recordStored_next ..)
    · have hbench := congrArg State.bench hrest
      exact hbench.trans (s.recordStored_bench ..)
    · have hbyte := congrArg (State.readByte · j) hrest
      exact hbyte.trans (State.recordStored_readByte _ _ hj)
  · intro s p jp dl tag waits h hlen
    obtain ⟨t, hexec, hrest, -, -, hregs⟩ := State.awActs_setAw (x := {})
      (f := fun u => u.awEmit (posKey p) ((s.core p).j.get jp).toNat ((s.core p).d.get dl).toNat tag.toNat) h
      ((State.awEmit_refused tag.toNat hlen).trans (s.awRefused_eq p)) (State.raise_positions ..) rfl
    have hsr : (t.core p).sr = srSet (s.core p).sr SR.ref true := Core.sr_of_regs hregs
    have hcounted : Effect s (s.bumpSat O.awRecRefused (posKey p)) [] [O.awRecRefused.key (posKey p) 0] [] :=
      Effect.refl.setReg List.mem_cons_self
    have heffect := hcounted.raise_unit (0x480 + 17 * p.bench.val + s.reg O.awPhys (posKey p))
      (awData (posKey p) 3 (s.aw (posKey p)).frame) (by simpa using Row.key_ge (by decide))
    refine ⟨t, hexec, ?_, ?_, ?_⟩
    · rw [hsr]
      exact (SrSets.refl _).set true rfl
    · have hcount := congrArg (fun u : State => u.reg O.awRecRefused (posKey p)) hrest
      refine hcount.trans ?_
      rw [State.reg_raise_unit _ _ (by decide), State.bumpSat, State.reg_setReg_same]
    · rw [← hrest] at heffect
      exact heffect
  · intro s p jp dof dl back h hlow hhigh hregion halign hend hsize hidle
    rw [← posKey_bench] at hsize
    obtain ⟨t, hexec, hrest, hothers, -, hregs⟩ := State.awActs_setAw (x := {})
      (f := fun u => u.awSpill (posKey p) ((s.core p).j.get jp).toNat ((s.core p).d.get dof).toNat ((s.core p).d.get dl).toNat back) h
      (State.awSpill_started back hlow hhigh hregion halign hend hsize hidle) rfl rfl
    have hsr : (t.core p).sr = srSet (srSet (s.core p).sr SR.spl false) SR.spb true := Core.sr_of_regs hregs
    refine ⟨t, hexec, ?_, congrArg State.spills hrest, ?_, hothers, ?_⟩
    · rw [hsr]
      exact ((SrSets.refl _).set false rfl).set true rfl
    · rw [hregs, hsr]
      rfl
    · have hspills := congrArg (fun u : State => { u with spills := s.spills }) hrest
      exact hspills

end Sys2Proof.Machine
end

section
/-! SUPPORT. Fields of a word: splitting it and joining it again undo each other (Table 10.3). -/

namespace Sys2Proof.Machine

/-- Each field's value fits its width. -/
abbrev Fits (ks vs : List Nat) : Prop := List.Forall₂ (fun k v => v < 2 ^ k) ks vs

theorem fits_cons {k v : Nat} {ks vs : List Nat} : Fits (k :: ks) (v :: vs) ↔ v < 2 ^ k ∧ Fits ks vs := List.forall₂_cons

theorem fits_nil : Fits [] [] ↔ True := iff_true_intro .nil

theorem joinFields_lt {ks vs : List Nat} : joinFields ks vs < 2 ^ ks.sum := by
  induction ks generalizing vs with
  | nil => simp [joinFields]
  | cons k ks ih =>
    cases vs with
    | nil => simp [joinFields]
    | cons v vs =>
      have hlast := ih (vs := vs)
      have hfirst : v % 2 ^ k + 1 ≤ 2 ^ k := Nat.mod_lt _ (by positivity)
      calc v % 2 ^ k * 2 ^ ks.sum + joinFields ks vs < (v % 2 ^ k + 1) * 2 ^ ks.sum := by rw [Nat.succ_mul]; omega
        _ ≤ 2 ^ (k :: ks).sum := by
          rw [List.sum_cons, Nat.pow_add]
          exact Nat.mul_le_mul_right _ hfirst

/-- What lies above the fields does not show in them. -/
theorem splitFields_add (ks : List Nat) (c w : Nat) : splitFields ks (c * 2 ^ ks.sum + w) = splitFields ks w := by
  induction ks generalizing c with
  | nil => rfl
  | cons k ks ih =>
    have hmove : c * 2 ^ (k :: ks).sum + w = c * 2 ^ k * 2 ^ ks.sum + w := by rw [List.sum_cons, Nat.pow_add, Nat.mul_assoc]
    rw [hmove, splitFields, splitFields, ih, Nat.add_comm, Nat.add_mul_div_right _ _ (by positivity), Nat.add_mul_mod_self_right]

theorem splitFields_joinFields {ks vs : List Nat} (h : Fits ks vs) : splitFields ks (joinFields ks vs) = vs := by
  induction h with
  | nil => rfl
  | @cons k v ks vs hv _ ih =>
    have hdiv : (v * 2 ^ ks.sum + joinFields ks vs) / 2 ^ ks.sum = v := by
      rw [Nat.add_comm, Nat.add_mul_div_right _ _ (by positivity), Nat.div_eq_of_lt joinFields_lt, Nat.zero_add]
    rw [joinFields, Nat.mod_eq_of_lt hv, splitFields, splitFields_add, ih, hdiv, Nat.mod_eq_of_lt hv]

theorem fits_splitFields (ks : List Nat) (w : Nat) : Fits ks (splitFields ks w) := by
  induction ks with
  | nil => exact .nil
  | cons k ks ih => exact .cons (Nat.mod_lt _ (by positivity)) ih

theorem joinFields_splitFields (ks : List Nat) (w : Nat) : joinFields ks (splitFields ks w) = w % 2 ^ ks.sum := by
  induction ks with
  | nil => simp [joinFields, Nat.mod_one]
  | cons k ks ih =>
    rw [splitFields, joinFields, ih, Nat.mod_mod, List.sum_cons, Nat.add_comm k, Nat.pow_add, Nat.mod_mul]
    ring

/-- The fields below an opcode fill 26 bits. -/
theorem opLayout_sum : ∀ op < 64, (opLayout op).sum = 26 := by decide

/-- Widths of format L. -/
def formatL : List Nat := [3, 3, 2, 2, 1, 3, 12]

/-- Widths of format R. -/
def formatR : List Nat := [3, 3, 1, 3, 16]

/-- Widths of format A. -/
def formatA : List Nat := [1, 2, 3, 3, 1, 1, 7, 8]

/-- Widths of format X. -/
def formatX : List Nat := [1, 2, 3, 3, 3, 2, 2, 3, 2, 2, 1, 1, 1]

/-- So many fields below an opcode are those of one format; five are those of SPILL or of format R. -/
theorem opLayout_of_length : ∀ op < 64,
    ((opLayout op).length = 5 → op = 9 ∨ opLayout op = formatR) ∧ ((opLayout op).length = 7 → opLayout op = formatL) ∧
    ((opLayout op).length = 8 → opLayout op = formatA) ∧ ((opLayout op).length = 13 → opLayout op = formatX) := by decide

/-! ### Operands as fields -/

theorem amodeOf_fields (a : AMode) : amodeOf (amodeFields a).1 (amodeFields a).2.1 (amodeFields a).2.2 = some a := by
  cases a <;> simp [amodeFields, amodeOf]

theorem amodeFields_of {mode jm imm : Nat} {a : AMode} (hmode : mode < 4) (hjm : jm < 4) (himm : imm < 2 ^ 12)
    (h : amodeOf mode jm imm = some a) : amodeFields a = (mode, jm, imm) := by
  interval_cases mode <;> obtain ⟨rfl, rfl⟩ := by simpa [amodeOf] using h
  · simpa [amodeFields] using himm
  · simpa [amodeFields] using himm
  · simpa [amodeFields] using hjm
  · simpa [amodeFields] using hjm

theorem op2Of_fields (o : Op2) : op2Of (op2Fields o).1 (op2Fields o).2.1 (op2Fields o).2.2 = some o := by
  cases o <;> simp [op2Fields, op2Of]

theorem op2Fields_of {i dt imm : Nat} {o : Op2} (hi : i < 2) (hdt : dt < 8) (himm : imm < 2 ^ 16) (h : op2Of i dt imm = some o) :
    op2Fields o = (i, dt, imm) := by
  interval_cases i <;> obtain ⟨rfl, rfl⟩ := by simpa [op2Of] using h
  · simpa [op2Fields] using hdt
  · simpa [op2Fields] using himm

theorem mmodeOf_field (m : MMode) : mmodeOf (mmodeField m) = m := by cases m <;> rfl

theorem mmodeField_of {n : Nat} (h : n < 4) : mmodeField (mmodeOf n) = n := by interval_cases n <;> rfl

theorem fieldOf_beq_one (b : Bool) : (fieldOf b == 1) = b := by cases b <;> rfl

theorem fieldOf_of {n : Nat} (h : n < 2) : fieldOf (n == 1) = n := by interval_cases n <;> rfl

theorem mmodeField_lt (m : MMode) : mmodeField m < 4 := by cases m <;> decide

theorem fieldOf_lt (b : Bool) : fieldOf b < 2 := by cases b <;> decide

theorem xloadOf_fields {x : XLoad} (h : wfXLoad x = true) : xloadOf x.dst.val x.unit.val x.md.val (fieldOf x.skip) = some x := by
  obtain ⟨dst, unit, md, skip⟩ := x
  cases skip
  · simp [xloadOf, fieldOf]
  · obtain ⟨⟨rfl, rfl⟩, rfl⟩ := by simpa [wfXLoad] using h
    rfl

/-- The fields of a load are those that it was read from. -/
theorem xload_fields_of {dst unit md skip : Nat} {x : XLoad} (hdst : dst < 8) (hunit : unit < 4) (hmd : md < 4) (hskip : skip < 2)
    (h : xloadOf dst unit md skip = some x) :
    x.dst.val = dst ∧ x.unit.val = unit ∧ x.md.val = md ∧ fieldOf x.skip = skip := by
  unfold xloadOf at h
  split at h
  · obtain rfl := by simpa using h
    simp_all [fieldOf, Nat.mod_eq_of_lt]
  · obtain ⟨⟨rfl, rfl, rfl⟩, rfl⟩ := by simpa using h
    obtain rfl : skip = 1 := by omega
    simp [fieldOf]

end Sys2Proof.Machine
end

section
/-! SUPPORT. Formats of awl words (Table 10.3): what the decoder makes of the fields that the encoder gives. -/

namespace Sys2Proof.Machine

variable {i : Instr} {op : Nat} {f : List Nat}

/-- Opcode and fields spell an instruction: they fit a word, and the decoder reads it from them. -/
def Spells (op : Nat) (f : List Nat) (i : Instr) : Prop :=
  op < 64 ∧ Fits (opLayout op) f ∧ ∃ (p : Pos) (n : Nat), decodeFields p n op f = some i

theorem Spells.of_some (h : Spells op f i) : ∀ e, some (op, f) = some e → Spells e.1 e.2 i := by
  rintro _ ⟨⟩
  exact h

theorem spells_A (p : Pos) {wn mode d1 d2 rnd sat imm : Nat} (hop : op < 64 ∧ opLayout op = formatA)
    (hfits : wn < 2 ∧ mode < 4 ∧ d1 < 8 ∧ d2 < 8 ∧ rnd < 2 ∧ sat < 2 ∧ imm < 2 ^ 7)
    (hdec : decodeA p op wn mode d1 d2 rnd sat imm = some i) : Spells op [wn, mode, d1, d2, rnd, sat, imm, 0] i := by
  obtain ⟨hlt, hlayout⟩ := hop
  refine ⟨hlt, ?_, p, 0, hdec⟩
  rw [hlayout]
  simpa [formatA] using hfits

/-- A product, by its mode. -/
theorem spells_product (p : Pos) (wn : Fin 2) (dx dy : Fin 8) (m : MMode) (hop : op < 64 ∧ opLayout op = formatA)
    (hdec : decodeA p op wn.val (mmodeField m) dx.val dy.val 0 0 0 = some i) :
    Spells op [wn.val, mmodeField m, dx.val, dy.val, 0, 0, 0, 0] i :=
  spells_A p hop ⟨by omega, mmodeField_lt m, by omega, by omega, by omega⟩ hdec

theorem spells_L (p : Pos) (n : Nat) {dd : Nat} {jp : Fin 8} {a : AMode} {sat : Bool} (hop : op < 64 ∧ opLayout op = formatL)
    (hdd : dd < 8) (hdec : decodeL p n op dd jp a (fieldOf sat) = some i) : Spells op (fieldsL dd jp.val a sat) i := by
  obtain ⟨hlt, hlayout⟩ := hop
  refine ⟨hlt, ?_, p, n, ?_⟩
  · rw [hlayout]
    have hsat := fieldOf_lt sat
    cases a <;> simp only [formatL, fieldsL, amodeFields, fits_cons, fits_nil, and_true] <;> omega
  · simp [fieldsL, decodeFields, amodeOf_fields, hdec]

theorem spells_R (p : Pos) {dd ds : Fin 8} {o : Op2} (hop : op < 64 ∧ opLayout op = formatR)
    (hdec : decodeR p op dd ds o = some i) : Spells op (fieldsR dd.val ds.val o) i := by
  obtain ⟨hlt, hlayout⟩ := hop
  refine ⟨hlt, ?_, p, 0, ?_⟩
  · rw [hlayout]
    cases o <;> simp only [formatR, fieldsR, op2Fields, fits_cons, fits_nil, and_true] <;> omega
  · have hspill : op ≠ 9 := by
      rintro rfl
      exact absurd hlayout (by decide)
    simp [fieldsR, decodeFields, op2Of_fields, hspill, hdec]

theorem spells_X (p : Pos) (n : Nat) {wn mode dx dy : Nat} {x y : XLoad} {sub : Bool} (hop : op < 64 ∧ opLayout op = formatX)
    (hfits : wn < 2 ∧ mode < 4 ∧ dx < 8 ∧ dy < 8)
    (hdec : decodeFields p n op (fieldsX wn mode dx dy x y sub) = some i) : Spells op (fieldsX wn mode dx dy x y sub) i := by
  obtain ⟨hlt, hlayout⟩ := hop
  refine ⟨hlt, ?_, p, n, hdec⟩
  rw [hlayout]
  have hsub := fieldOf_lt sub
  have hx := fieldOf_lt x.skip
  have hy := fieldOf_lt y.skip
  simp only [formatX, fieldsX, fits_cons, fits_nil, and_true]
  omega

theorem xloadOf_pair {x y : XLoad} (h : wfPair x y = true) :
    xloadOf x.dst.val x.unit.val x.md.val (fieldOf x.skip) = some x ∧
      xloadOf y.dst.val y.unit.val y.md.val (fieldOf y.skip) = some y ∧ xpairOk x y = true := by
  simp only [wfPair, Bool.and_eq_true] at h
  obtain ⟨⟨hx, hy⟩, hpair⟩ := h
  exact ⟨xloadOf_fields hx, xloadOf_fields hy, hpair⟩

/-- The fields of a well-formed instruction spell it. -/
theorem spells_awFields (hwf : i.wf = true) : ∀ e, awFields i = some e → Spells e.1 e.2 i := by
  cases i with
  | nop p => exact Spells.of_some ⟨by decide, .cons (by decide) .nil, p, 0, rfl⟩
  | wait p => exact Spells.of_some ⟨by decide, .cons (by decide) .nil, p, 0, rfl⟩
  | ret p => exact Spells.of_some ⟨by decide, .cons (by decide) .nil, p, 0, rfl⟩
  | br p c t => exact Spells.of_some ⟨by decide, .cons c.isLt (.cons (by decide) (.cons t.isLt .nil)), p, 0, by simp [decodeFields]⟩
  | call p t => exact Spells.of_some ⟨by decide, .cons (by decide) (.cons t.isLt .nil), p, 0, by simp [decodeFields]⟩
  | rep p l c e =>
    have hlevel : l.val ≠ 3 := by omega
    have hfield : l.val < 2 ^ 2 := by omega
    cases c with
    | reg r =>
      have hcount : r.val < 2 ^ 11 := by omega
      exact Spells.of_some ⟨by decide, .cons hfield (.cons (by decide) (.cons hcount (.cons e.isLt .nil))), p, 0,
        by simp [decodeFields, hlevel]⟩
    | imm v =>
      exact Spells.of_some ⟨by decide, .cons hfield (.cons (by decide) (.cons v.isLt (.cons e.isLt .nil))), p, 0,
        by simp [decodeFields, hlevel]⟩
  | evt p v =>
    cases v with
    | reg t =>
      exact Spells.of_some ⟨by decide, .cons (by decide) (.cons t.isLt (.cons (by decide) (.cons (by decide) .nil))), p, 0,
        by simp [decodeFields]⟩
    | imm v =>
      exact Spells.of_some ⟨by decide, .cons (by decide) (.cons (by decide) (.cons (by decide) (.cons v.isLt .nil))), p, 0,
        by simp [decodeFields]⟩
  | setflag p l =>
    exact Spells.of_some ⟨by decide, .cons (by decide) (.cons l.isLt (.cons (by decide) .nil)), p, 0, by simp [decodeFields]⟩
  | clrflag p l =>
    exact Spells.of_some ⟨by decide, .cons (by decide) (.cons l.isLt (.cons (by decide) .nil)), p, 0, by simp [decodeFields]⟩
  | emit p jp dl tag n =>
    exact Spells.of_some ⟨by decide, .cons jp.isLt (.cons dl.isLt (.cons (by decide) (.cons tag.isLt .nil))), p, n,
      by simp [decodeFields]⟩
  | spill p jp dOff dLen back =>
    exact Spells.of_some ⟨by decide, .cons (fieldOf_lt back) (.cons jp.isLt (.cons dOff.isLt (.cons dLen.isLt (.cons (by decide) .nil)))),
      p, 0, by simp [decodeFields, fieldOf_beq_one]⟩
  | mov p rd rs =>
    obtain ⟨hrd, hrs⟩ := by simpa [Instr.wf, wfCode] using hwf
    exact Spells.of_some ⟨by decide, .cons rd.isLt (.cons rs.isLt (.cons (by decide) .nil)), p, 0, by simp [decodeFields, hrd, hrs]⟩
  | movi p rd imm =>
    obtain ⟨hrd, himm⟩ := by simpa [Instr.wf, wfCode] using hwf
    have hwidth : imm.toNat < 2 ^ codeWidth rd.val := himm
    exact Spells.of_some ⟨by decide, .cons rd.isLt (.cons imm.isLt .nil), p, 0, by simp [decodeFields, hrd, hwidth]⟩
  | ld p dd jp a n => exact Spells.of_some (spells_L p n (by decide) dd.isLt (by simp [decodeL, fieldOf]))
  | st p dd jp a n => exact Spells.of_some (spells_L p n (by decide) dd.isLt (by simp [decodeL, fieldOf]))
  | ldw p wn jp a n => exact Spells.of_some (spells_L p n (by decide) (by omega) (by simp [decodeL, fieldOf]))
  | stw p wn jp a sat n => exact Spells.of_some (spells_L p n (by decide) (by omega) (by simp [decodeL, fieldOf_beq_one]))
  | modj p jp a =>
    cases a with
    | offset _ => exact nomatch hwf
    | indexed _ => exact nomatch hwf
    | postInc _ => exact Spells.of_some (spells_L p 0 (by decide) (by decide) rfl)
    | postMod _ => exact Spells.of_some (spells_L p 0 (by decide) (by decide) rfl)
  | ld2 p x y n =>
    obtain ⟨hpair, -⟩ := by simpa only [Instr.wf, Bool.and_eq_true] using hwf
    obtain ⟨hx, hy, hxy⟩ := xloadOf_pair hpair
    refine Spells.of_some (spells_X p n (by decide) (by decide) ?_)
    simp [decodeFields, fieldsX, hx, hy, hxy, show fieldOf false = 0 from rfl]
  | macx p wn dx dy m sub x y n =>
    obtain ⟨hpair, -⟩ := by simpa only [Instr.wf, Bool.and_eq_true] using hwf
    obtain ⟨hx, hy, hxy⟩ := xloadOf_pair hpair
    refine Spells.of_some (spells_X p n (by decide) ⟨by omega, mmodeField_lt m, by omega, by omega⟩ ?_)
    simp [decodeFields, fieldsX, hx, hy, hxy, fieldOf_beq_one, mmodeOf_field]
  | add p dd ds o => exact Spells.of_some (spells_R p (by decide) rfl)
  | adds p dd ds o => exact Spells.of_some (spells_R p (by decide) rfl)
  | sub p dd ds o => exact Spells.of_some (spells_R p (by decide) rfl)
  | subs p dd ds o => exact Spells.of_some (spells_R p (by decide) rfl)
  | and p dd ds o => exact Spells.of_some (spells_R p (by decide) rfl)
  | or p dd ds o => exact Spells.of_some (spells_R p (by decide) rfl)
  | xor p dd ds o => exact Spells.of_some (spells_R p (by decide) rfl)
  | cmp p ds o => exact Spells.of_some (spells_R p (dd := 0) (by decide) rfl)
  | min p dd ds o => exact Spells.of_some (spells_R p (by decide) rfl)
  | max p dd ds o => exact Spells.of_some (spells_R p (by decide) rfl)
  | abs p dd ds => exact Spells.of_some (spells_R p (o := .reg 0) (by decide) rfl)
  | neg p dd ds => exact Spells.of_some (spells_R p (o := .reg 0) (by decide) rfl)
  | shl p dd ds o => exact Spells.of_some (spells_R p (by decide) (if_pos hwf))
  | shr p dd ds o => exact Spells.of_some (spells_R p (by decide) (if_pos hwf))
  | sra p dd ds o => exact Spells.of_some (spells_R p (by decide) (if_pos hwf))
  | mul p wn dx dy m => exact Spells.of_some (spells_product p wn dx dy m (by decide) (by simp [decodeA, mmodeOf_field]))
  | mac p wn dx dy m => exact Spells.of_some (spells_product p wn dx dy m (by decide) (by simp [decodeA, mmodeOf_field]))
  | msu p wn dx dy m => exact Spells.of_some (spells_product p wn dx dy m (by decide) (by simp [decodeA, mmodeOf_field]))
  | clrw p wn => exact Spells.of_some (spells_A p (by decide) (by omega) (by simp [decodeA]))
  | rdw p dd wn part rnd sat =>
    have hplain : part = 1 ∨ rnd = false ∧ sat = false := by simpa [Instr.wf] using hwf
    refine Spells.of_some (spells_A p (by decide) ⟨by omega, by omega, by omega, by omega, fieldOf_lt _, fieldOf_lt _, by omega⟩ ?_)
    have hread : part.val = 1 ∨ fieldOf rnd = 0 ∧ fieldOf sat = 0 := by
      rcases hplain with rfl | ⟨rfl, rfl⟩
      · exact .inl rfl
      · exact .inr ⟨rfl, rfl⟩
    simp [decodeA, fieldOf_beq_one, hread]
  | movdw p wn ds => exact Spells.of_some (spells_A p (by decide) (by omega) (by simp [decodeA]))
  | addw p wn => exact Spells.of_some (spells_A p (by decide) (by omega) (by simp [decodeA]))
  | subw p wn => exact Spells.of_some (spells_A p (by decide) (by omega) (by simp [decodeA]))
  | cmpw p => exact Spells.of_some (spells_A p (by decide) (by omega) (by simp [decodeA]))
  | ash p wn c =>
    cases c with
    | imm v => exact Spells.of_some (spells_A p (by decide) (by omega) (by simp [decodeA]))
    | reg r => exact Spells.of_some (spells_A p (by decide) (by omega) (by simp [decodeA]))
  | negw p wn => exact Spells.of_some (spells_A p (by decide) (by omega) (by simp [decodeA]))
  | absw p wn => exact Spells.of_some (spells_A p (by decide) (by omega) (by simp [decodeA]))
  | norm p dd wn => exact Spells.of_some (spells_A p (by decide) (by omega) (by simp [decodeA]))
  | _ => exact fun _ h => nomatch h

end Sys2Proof.Machine
end

section
/-! SUPPORT. What the decoder reads (R219, R221): the fields of an instruction that it answers are those that it was given. -/

namespace Sys2Proof.Machine

variable {p : Pos} {i : Instr} {op n : Nat} {f : List Nat}

/-- An instruction, where there is one, has this opcode and these fields. -/
def Reads (op : Nat) (f : List Nat) (o : Option Instr) : Prop := ∀ i, o = some i → awFields i = some (op, f)

theorem Reads.of_none : Reads op f none := nofun

theorem Reads.of_some (h : awFields i = some (op, f)) : Reads op f (some i) := by
  rintro _ ⟨⟩
  exact h

theorem Reads.of_ite {c : Prop} [Decidable c] (h : c → awFields i = some (op, f)) : Reads op f (if c then some i else none) := by
  split
  · rename_i hc
    exact Reads.of_some (h hc)
  · exact Reads.of_none

theorem Reads.of_bind {α : Type} {o : Option α} {g : α → Option Instr} (h : ∀ a, o = some a → Reads op f (g a)) :
    Reads op f (o.bind g) := by
  cases o with
  | none => exact .of_none
  | some a => exact h a rfl

theorem reads_decodeR (dd ds : Fin 8) (o : Op2) : Reads op (fieldsR dd.val ds.val o) (decodeR p op dd ds o) := by
  unfold decodeR
  dsimp only
  split
  · exact .of_some rfl
  · exact .of_some rfl
  · exact .of_some rfl
  · exact .of_some rfl
  · exact .of_some rfl
  · exact .of_some rfl
  · exact .of_some rfl
  · exact .of_ite fun hdd => by rw [hdd]; rfl
  · exact .of_some rfl
  · exact .of_some rfl
  · exact .of_ite fun ho => by rw [ho]; rfl
  · exact .of_ite fun ho => by rw [ho]; rfl
  · exact .of_ite fun _ => rfl
  · exact .of_ite fun _ => rfl
  · exact .of_ite fun _ => rfl
  · exact .of_none

theorem reads_decodeL {dd sat : Nat} (hdd : dd < 8) (hsat : sat < 2) (jp : Fin 8) (a : AMode) :
    Reads op (fieldsL dd jp.val a (sat == 1)) (decodeL p n op dd jp a sat) := by
  have hreg : (Fin.ofNat 8 dd).val = dd := Nat.mod_eq_of_lt hdd
  have hacc : dd % 4 = 0 → 4 * (Fin.ofNat 2 (dd / 4)).val = dd := fun h => by simp only [Fin.val_ofNat]; omega
  unfold decodeL
  split
  · exact .of_ite fun h => by rw [awFields, hreg, h]; rfl
  · exact .of_ite fun h => by rw [awFields, hreg, h]; rfl
  · exact .of_ite fun ⟨h, hdd⟩ => by rw [awFields, hacc hdd, h]; rfl
  · exact .of_ite fun hdd => by rw [awFields, hacc hdd]
  · split
    · rename_i h
      obtain ⟨rfl, rfl⟩ := h
      split
      · exact .of_some rfl
      · exact .of_some rfl
      · exact .of_none
    · exact .of_none
  · exact .of_none

theorem reads_decodeA {wn mode d1 d2 rnd sat imm : Nat} (hwn : wn < 2) (hmode : mode < 4) (hd1 : d1 < 8) (hd2 : d2 < 8)
    (hrnd : rnd < 2) (hsat : sat < 2) (himm : imm < 2 ^ 7) :
    Reads op [wn, mode, d1, d2, rnd, sat, imm, 0] (decodeA p op wn mode d1 d2 rnd sat imm) := by
  have hw : (Fin.ofNat 2 wn).val = wn := Nat.mod_eq_of_lt hwn
  have ha : (Fin.ofNat 8 d1).val = d1 := Nat.mod_eq_of_lt hd1
  have hb : (Fin.ofNat 8 d2).val = d2 := Nat.mod_eq_of_lt hd2
  have hm := mmodeField_of hmode
  unfold decodeA
  simp only [Bool.and_eq_true, beq_iff_eq, and_assoc]
  split
  · exact .of_ite fun h => by simp only [awFields, hw, ha, hb, hm, h]
  · exact .of_ite fun h => by simp only [awFields, hw, ha, hb, hm, h]
  · exact .of_ite fun h => by simp only [awFields, hw, ha, hb, hm, h]
  · exact .of_ite fun h => by simp only [awFields, hw, h]
  · refine .of_ite fun ⟨hpart, hd2, himm, _⟩ => ?_
    have hp : (Fin.ofNat 3 mode).val = mode := Nat.mod_eq_of_lt hpart
    rw [awFields, hw, ha, hp, fieldOf_of hrnd, fieldOf_of hsat, hd2, himm]
  · exact .of_ite fun h => by simp only [awFields, hw, ha, h]
  · exact .of_ite fun h => by simp only [awFields, hw, h]
  · exact .of_ite fun h => by simp only [awFields, hw, h]
  · exact .of_ite fun h => by simp only [awFields, h]
  · split
    · rename_i h
      obtain ⟨rfl, rfl, rfl⟩ := h
      split
      · have hc : (BitVec.ofNat 7 imm).toNat = imm := Nat.mod_eq_of_lt himm
        exact .of_ite fun h => by rw [awFields, hw, hc, h]
      · exact .of_ite fun h => by rw [awFields, hw, ha, h]
      · exact .of_none
    · exact .of_none
  · exact .of_ite fun h => by simp only [awFields, hw, h]
  · exact .of_ite fun h => by simp only [awFields, hw, h]
  · exact .of_ite fun h => by simp only [awFields, hw, ha, h]
  · exact .of_none

theorem reads_oneField {z : Nat} : Reads op [z] (decodeFields p n op [z]) := by
  unfold decodeFields
  dsimp only
  split
  · exact .of_none
  · rename_i hz
    rw [not_not.mp hz]
    split
    · exact .of_some rfl
    · exact .of_some rfl
    · exact .of_some rfl
    · exact .of_none

theorem reads_twoFields {a b : Nat} (h : Fits (opLayout op) [a, b]) : Reads op [a, b] (decodeFields p n op [a, b]) := by
  unfold decodeFields
  dsimp only
  split
  · obtain ⟨-, hb⟩ : a < 2 ^ 14 ∧ b < 2 ^ 12 := by simpa [opLayout] using h
    have htarget : (BitVec.ofNat 12 b).toNat = b := Nat.mod_eq_of_lt hb
    exact .of_ite fun ha => by rw [awFields, htarget, ha]
  · obtain ⟨ha, hb⟩ : a < 2 ^ 6 ∧ b < 2 ^ 20 := by simpa [opLayout] using h
    have hrd : (Fin.ofNat 64 a).val = a := Nat.mod_eq_of_lt ha
    have himm : (BitVec.ofNat 20 b).toNat = b := Nat.mod_eq_of_lt hb
    exact .of_ite fun _ => by rw [awFields, hrd, himm]
  · exact .of_none

theorem reads_threeFields {a b c : Nat} (h : Fits (opLayout op) [a, b, c]) : Reads op [a, b, c] (decodeFields p n op [a, b, c]) := by
  unfold decodeFields
  dsimp only
  split
  · obtain ⟨ha, -, hc⟩ : a < 2 ^ 4 ∧ b < 2 ^ 10 ∧ c < 2 ^ 12 := by simpa [opLayout] using h
    have hcond : (BitVec.ofNat 4 a).toNat = a := Nat.mod_eq_of_lt ha
    have htarget : (BitVec.ofNat 12 c).toNat = c := Nat.mod_eq_of_lt hc
    exact .of_ite fun hb => by rw [awFields, hcond, htarget, hb]
  · obtain ⟨ha, hb, -⟩ : a < 2 ^ 1 ∧ b < 2 ^ 2 ∧ c < 2 ^ 23 := by simpa [opLayout] using h
    have hline : (Fin.ofNat 4 b).val = b := Nat.mod_eq_of_lt hb
    split
    · rename_i hc
      split
      · rename_i hset
        exact .of_some (by rw [awFields, hline, hset, hc])
      · rename_i hset
        obtain rfl : a = 0 := by omega
        exact .of_some (by rw [awFields, hline, hc])
    · exact .of_none
  · obtain ⟨ha, hb, -⟩ : a < 2 ^ 6 ∧ b < 2 ^ 6 ∧ c < 2 ^ 14 := by simpa [opLayout] using h
    have hrd : (Fin.ofNat 64 a).val = a := Nat.mod_eq_of_lt ha
    have hrs : (Fin.ofNat 64 b).val = b := Nat.mod_eq_of_lt hb
    exact .of_ite fun ⟨_, _, hc⟩ => by rw [awFields, hrd, hrs, hc]
  · exact .of_none

theorem reads_fourFields {a b c d : Nat} (h : Fits (opLayout op) [a, b, c, d]) :
    Reads op [a, b, c, d] (decodeFields p n op [a, b, c, d]) := by
  unfold decodeFields
  dsimp only
  split
  · obtain ⟨ha, hb, hc, hd⟩ : a < 2 ^ 2 ∧ b < 2 ^ 1 ∧ c < 2 ^ 11 ∧ d < 2 ^ 12 := by simpa [opLayout] using h
    have hlast : (BitVec.ofNat 12 d).toNat = d := Nat.mod_eq_of_lt hd
    split
    · exact .of_none
    · have hlevel : (Fin.ofNat 3 a).val = a := Nat.mod_eq_of_lt (by omega)
      split
      · rename_i himm
        have hcount : (BitVec.ofNat 11 c).toNat = c := Nat.mod_eq_of_lt hc
        exact .of_some (by rw [awFields, hlevel, hlast, hcount, himm])
      · obtain rfl : b = 0 := by omega
        refine .of_ite fun hreg => ?_
        have hcount : (Fin.ofNat 8 c).val = c := Nat.mod_eq_of_lt hreg
        rw [awFields, hlevel, hlast, hcount]
  · obtain ⟨ha, hb, -, hd⟩ : a < 2 ^ 1 ∧ b < 2 ^ 3 ∧ c < 2 ^ 6 ∧ d < 2 ^ 16 := by simpa [opLayout] using h
    split
    · exact .of_none
    · rename_i hc
      obtain rfl := not_not.mp hc
      split
      · rename_i himm
        have hvalue : (BitVec.ofNat 16 d).toNat = d := Nat.mod_eq_of_lt hd
        exact .of_ite fun hb => by rw [awFields, hvalue, himm, hb]
      · obtain rfl : a = 0 := by omega
        have hreg : (Fin.ofNat 8 b).val = b := Nat.mod_eq_of_lt hb
        exact .of_ite fun hd => by rw [awFields, hreg, hd]
  · obtain ⟨ha, hb, -, hd⟩ : a < 2 ^ 3 ∧ b < 2 ^ 3 ∧ c < 2 ^ 4 ∧ d < 2 ^ 16 := by simpa [opLayout] using h
    have hjp : (Fin.ofNat 8 a).val = a := Nat.mod_eq_of_lt ha
    have hdl : (Fin.ofNat 8 b).val = b := Nat.mod_eq_of_lt hb
    have htag : (BitVec.ofNat 16 d).toNat = d := Nat.mod_eq_of_lt hd
    exact .of_ite fun hc => by rw [awFields, hjp, hdl, htag, hc]
  · exact .of_none

theorem reads_fiveFields (hop : op < 64) {a b c d e : Nat} (h : Fits (opLayout op) [a, b, c, d, e]) :
    Reads op [a, b, c, d, e] (decodeFields p n op [a, b, c, d, e]) := by
  unfold decodeFields
  dsimp only
  split
  · rename_i hspill
    obtain rfl := hspill
    obtain ⟨ha, hb, hc, hd, -⟩ : a < 2 ^ 1 ∧ b < 2 ^ 3 ∧ c < 2 ^ 3 ∧ d < 2 ^ 3 ∧ e < 2 ^ 16 := by simpa [opLayout] using h
    have hjp : (Fin.ofNat 8 b).val = b := Nat.mod_eq_of_lt hb
    have hoff : (Fin.ofNat 8 c).val = c := Nat.mod_eq_of_lt hc
    have hlen : (Fin.ofNat 8 d).val = d := Nat.mod_eq_of_lt hd
    exact .of_ite fun he => by rw [awFields, fieldOf_of ha, hjp, hoff, hlen, he]
  · rename_i hspill
    obtain ⟨hfive, -⟩ := opLayout_of_length op hop
    rw [(hfive h.length_eq).resolve_left hspill] at h
    obtain ⟨ha, hb, hc, hd, he⟩ : a < 2 ^ 3 ∧ b < 2 ^ 3 ∧ c < 2 ^ 1 ∧ d < 2 ^ 3 ∧ e < 2 ^ 16 := by simpa [formatR] using h
    refine .of_bind fun o ho => ?_
    have hdd : (Fin.ofNat 8 a).val = a := Nat.mod_eq_of_lt ha
    have hds : (Fin.ofNat 8 b).val = b := Nat.mod_eq_of_lt hb
    have hread := reads_decodeR (op := op) (p := p) (Fin.ofNat 8 a) (Fin.ofNat 8 b) o
    rw [fieldsR, op2Fields_of hc hd he ho, hdd, hds] at hread
    exact hread

theorem reads_sevenFields (hop : op < 64) {dd jp mode jm sat z imm : Nat} (h : Fits (opLayout op) [dd, jp, mode, jm, sat, z, imm]) :
    Reads op [dd, jp, mode, jm, sat, z, imm] (decodeFields p n op [dd, jp, mode, jm, sat, z, imm]) := by
  obtain ⟨-, hseven, -⟩ := opLayout_of_length op hop
  rw [hseven h.length_eq] at h
  obtain ⟨hdd, hjp, hmode, hjm, hsat, -, himm⟩ :
    dd < 2 ^ 3 ∧ jp < 2 ^ 3 ∧ mode < 2 ^ 2 ∧ jm < 2 ^ 2 ∧ sat < 2 ^ 1 ∧ z < 2 ^ 3 ∧ imm < 2 ^ 12 := by simpa [formatL] using h
  unfold decodeFields
  dsimp only
  split
  · exact .of_none
  · rename_i hz
    obtain rfl := not_not.mp hz
    refine .of_bind fun a ha => ?_
    have hunit : (Fin.ofNat 8 jp).val = jp := Nat.mod_eq_of_lt hjp
    have hread := reads_decodeL (op := op) (p := p) (n := n) hdd hsat (Fin.ofNat 8 jp) a
    rw [fieldsL, amodeFields_of hmode hjm himm ha, fieldOf_of hsat, hunit] at hread
    exact hread

theorem reads_eightFields (hop : op < 64) {wn mode d1 d2 rnd sat imm z : Nat}
    (h : Fits (opLayout op) [wn, mode, d1, d2, rnd, sat, imm, z]) :
    Reads op [wn, mode, d1, d2, rnd, sat, imm, z] (decodeFields p n op [wn, mode, d1, d2, rnd, sat, imm, z]) := by
  obtain ⟨-, -, height, -⟩ := opLayout_of_length op hop
  rw [height h.length_eq] at h
  obtain ⟨hwn, hmode, hd1, hd2, hrnd, hsat, himm, -⟩ :
    wn < 2 ^ 1 ∧ mode < 2 ^ 2 ∧ d1 < 2 ^ 3 ∧ d2 < 2 ^ 3 ∧ rnd < 2 ^ 1 ∧ sat < 2 ^ 1 ∧ imm < 2 ^ 7 ∧ z < 2 ^ 8 := by
    simpa [formatA] using h
  unfold decodeFields
  dsimp only
  split
  · exact .of_none
  · rename_i hz
    obtain rfl := not_not.mp hz
    exact reads_decodeA hwn hmode hd1 hd2 hrnd hsat himm

theorem reads_thirteenFields (hop : op < 64) {wn mode dx dy da ji xm db jj ym sub nx ny : Nat}
    (h : Fits (opLayout op) [wn, mode, dx, dy, da, ji, xm, db, jj, ym, sub, nx, ny]) :
    Reads op [wn, mode, dx, dy, da, ji, xm, db, jj, ym, sub, nx, ny]
      (decodeFields p n op [wn, mode, dx, dy, da, ji, xm, db, jj, ym, sub, nx, ny]) := by
  obtain ⟨-, -, -, hthirteen⟩ := opLayout_of_length op hop
  rw [hthirteen h.length_eq] at h
  obtain ⟨hwn, hmode, hdx, hdy, hda, hji, hxm, hdb, hjj, hym, hsub, hnx, hny⟩ :
    wn < 2 ^ 1 ∧ mode < 2 ^ 2 ∧ dx < 2 ^ 3 ∧ dy < 2 ^ 3 ∧ da < 2 ^ 3 ∧ ji < 2 ^ 2 ∧ xm < 2 ^ 2 ∧ db < 2 ^ 3 ∧ jj < 2 ^ 2 ∧
      ym < 2 ^ 2 ∧ sub < 2 ^ 1 ∧ nx < 2 ^ 1 ∧ ny < 2 ^ 1 := by simpa [formatX] using h
  unfold decodeFields
  dsimp only
  split
  · rename_i x y hx hy
    obtain ⟨hxdst, hxunit, hxmd, hxskip⟩ := xload_fields_of hda hji hxm hnx hx
    obtain ⟨hydst, hyunit, hymd, hyskip⟩ := xload_fields_of hdb hjj hym hny hy
    split
    · exact .of_none
    · split
      · rename_i hop
        obtain rfl := hop
        refine .of_ite fun h => ?_
        simp only [awFields, fieldsX, hxdst, hxunit, hxmd, hxskip, hydst, hyunit, hymd, hyskip, h]
        rfl
      · split
        · rename_i hop
          obtain rfl := hop
          have hw : (Fin.ofNat 2 wn).val = wn := Nat.mod_eq_of_lt hwn
          have ha : (Fin.ofNat 8 dx).val = dx := Nat.mod_eq_of_lt hdx
          have hb : (Fin.ofNat 8 dy).val = dy := Nat.mod_eq_of_lt hdy
          refine .of_some ?_
          rw [awFields, fieldsX, hw, ha, hb, mmodeField_of hmode, fieldOf_of hsub, hxdst, hxunit, hxmd, hxskip, hydst, hyunit, hymd, hyskip]
        · exact .of_none
  · exact .of_none

/-- Whatever the decoder reads from fields that fit has those fields. -/
theorem reads_decodeFields (hop : op < 64) (h : Fits (opLayout op) f) : Reads op f (decodeFields p n op f) := by
  match f, h with
  | [_], _ => exact reads_oneField
  | [_, _], h => exact reads_twoFields h
  | [_, _, _], h => exact reads_threeFields h
  | [_, _, _, _], h => exact reads_fourFields h
  | [_, _, _, _, _], h => exact reads_fiveFields hop h
  | [_, _, _, _, _, _, _], h => exact reads_sevenFields hop h
  | [_, _, _, _, _, _, _, _], h => exact reads_eightFields hop h
  | [_, _, _, _, _, _, _, _, _, _, _, _, _], h => exact reads_thirteenFields hop h
  | [], _ => exact .of_none
  | [_, _, _, _, _, _], _ => exact .of_none
  | [_, _, _, _, _, _, _, _, _], _ => exact .of_none
  | [_, _, _, _, _, _, _, _, _, _], _ => exact .of_none
  | [_, _, _, _, _, _, _, _, _, _, _], _ => exact .of_none
  | [_, _, _, _, _, _, _, _, _, _, _, _], _ => exact .of_none
  | _ :: _ :: _ :: _ :: _ :: _ :: _ :: _ :: _ :: _ :: _ :: _ :: _ :: _ :: _, _ => exact .of_none

end Sys2Proof.Machine
end

section
/-! Words of awl instructions (R218 to R221): encoding and decoding. -/

namespace Sys2Proof.Machine

theorem awEncode_of_fields {i : Instr} {op : Nat} {f : List Nat} (h : awFields i = some (op, f)) :
    awEncode i = some (op * 2 ^ 26 + joinFields (opLayout op) f) := by
  rw [awEncode, h]
  rfl

/-- The word of an opcode and fields has 32 bits, and the decoder finds them in it. -/
theorem awDecode_join {op : Nat} {f : List Nat} (p : Pos) (n : Nat) (hop : op < 64) (h : Fits (opLayout op) f) :
    op * 2 ^ 26 + joinFields (opLayout op) f < 2 ^ 32 ∧
      awDecode p n (op * 2 ^ 26 + joinFields (opLayout op) f) = decodeFields p n op f := by
  have hsum := opLayout_sum op hop
  have hlow : joinFields (opLayout op) f < 2 ^ 26 := hsum ▸ joinFields_lt
  have hopcode : (op * 2 ^ 26 + joinFields (opLayout op) f) / 2 ^ 26 % 64 = op := by omega
  have hfields : splitFields (opLayout op) (op * 2 ^ 26 + joinFields (opLayout op) f) = f := by
    rw [← hsum, splitFields_add, splitFields_joinFields h]
  refine ⟨by omega, ?_⟩
  rw [awDecode, hopcode, hfields]

/-- Settles O54: a word is its opcode and fields (`awDecode_join`, `joinFields_splitFields`); the fields of a well-formed instruction spell
it (`spells_awFields`), and an instruction that is read has the fields that it was read from (`reads_decodeFields`). -/
theorem awlRoundTrip : Obligations.AwlRoundTrip := by
  constructor
  · intro i w hwf hencode
    obtain ⟨⟨op, f⟩, hfields, rfl⟩ := Option.map_eq_some_iff.mp hencode
    obtain ⟨hop, hfits, p, n, hdecode⟩ := spells_awFields hwf _ hfields
    obtain ⟨hlt, hword⟩ := awDecode_join p n hop hfits
    exact ⟨hlt, p, n, hword.trans hdecode⟩
  · intro p n w i hw hdecode
    have hop : w / 2 ^ 26 % 64 < 64 := Nat.mod_lt _ (by decide)
    rw [awEncode_of_fields (reads_decodeFields hop (fits_splitFields _ w) i hdecode), joinFields_splitFields, opLayout_sum _ hop]
    exact congrArg some (by omega)

/-- Settles O55: the decoder reads each of the words. -/
theorem awlWords : Obligations.AwlWords := fun _ _ => ⟨rfl, rfl, rfl, rfl, rfl, rfl⟩

end Sys2Proof.Machine
end

section
/-! SUPPORT. Instructions of an awl core that act on its registers alone: how each retires (R234), and the flags of the shared
result forms (R218, R226, R229). -/

namespace Sys2Proof.Machine

variable {s : State} {p : Pos} {i : Instr} {cost : Nat} {c : Core} {a b : BitVec 16} {l l' : List (Nat × Bool)}

/-- A register instruction retires with the registers that it writes, told without SR, and with the bits that it sets in SR. -/
theorem exec_awRegs {x : Writes} {g : Core → Core} (hexec : exec i s = s.awRegs p i cost x g) (h : AtInstr s p i cost)
    (hcore : g (s.core p) = { c with sr := (g (s.core p)).sr }) (hsr : SrSets (s.core p).sr (g (s.core p)).sr l) :
    ∃ t, exec i s = .next t ∧ Retires s t p cost c.advance ∧ SrSets (s.core p).sr (t.core p).sr l := by
  obtain ⟨t, hnext, hretires, ht⟩ := State.awIssue_core (x := x) (fun c => (g c).advance) h
  refine ⟨t, hexec.trans hnext, ?_, ?_⟩
  · rw [hcore] at hretires
    exact hretires
  · rw [ht]
    exact hsr

/-! ### Bits of SR -/

/-- A sticky bit more keeps what it held. -/
theorem SrSets.stick {i : Nat} (h : SrSets a b l) (v : Bool) (hi : l.lookup i = none) :
    SrSets a (srStick b i v) (l ++ [(i, srBit a i || v)]) := by
  cases v with
  | true =>
    rw [Bool.or_true]
    exact h.set true hi
  | false =>
    refine srSets_iff.mpr fun n hn => (srSets_iff.mp h n hn).trans ?_
    rw [List.lookup_append]
    by_cases hni : n = i
    · simp [hni, hi, srBit]
    · have hne : (n == i) = false := by simpa using hni
      simp [List.lookup_cons, hne]

/-- Lists that name the same bits say the same of SR. -/
theorem SrSets.congr (h : SrSets a b l) (hl : ∀ n < 16, l.lookup n = l'.lookup n) : SrSets a b l' :=
  srSets_iff.mpr fun n hn => (srSets_iff.mp h n hn).trans (by rw [hl n hn])

/-- A bit set again holds what it was set to last. -/
theorem SrSets.reset {i : Nat} (h : SrSets a b l) (v : Bool) : SrSets a (srSet b i v) ((i, v) :: l) := by
  refine srSets_iff.mpr fun n hn => ?_
  rw [getLsbD_srSet _ _ hn, srSets_iff.mp h n hn, List.lookup_cons]
  by_cases hni : n = i
  · simp [hni]
  · have hne : (n == i) = false := by simpa using hni
    simp [hni, hne]

theorem srSets_srZN (sr r : BitVec 16) : SrSets sr (srZN sr r) [(SR.z, r == 0), (SR.n, r.msb)] :=
  ((SrSets.refl sr).set _ rfl).set _ rfl

theorem srSets_srZNCV (sr r : BitVec 16) (c v : Bool) : SrSets sr (srZNCV sr r c v)
    [(SR.z, r == 0), (SR.n, r.msb), (SR.c, c), (SR.v, v), (SR.vs, srBit sr SR.vs || v)] :=
  (((srSets_srZN sr r).set _ rfl).set _ rfl).stick _ rfl

theorem srSets_srAcc (sr : BitVec 16) (r : BitVec 40) (v : Bool) : SrSets sr (srAcc sr r v)
    [(SR.z, r == 0), (SR.n, r.msb), (SR.c, false), (SR.v, v), (SR.wv, decide (r.toInt < -(2 ^ 31) ∨ 2 ^ 31 ≤ r.toInt)),
      (SR.vs, srBit sr SR.vs || v)] := by
  have hwv : decide (r.toInt < -(2 ^ 31) ∨ 2 ^ 31 ≤ r.toInt) = decide (r.toInt < -(2 ^ 31) ∨ 2 ^ 31 - 1 < r.toInt) :=
    decide_eq_decide.mpr (by omega)
  rw [hwv]
  exact ((((((SrSets.refl sr).set _ rfl).set _ rfl).set _ rfl).set _ rfl).set _ rfl).stick _ rfl

/-! ### Results out of range (R226, R229) -/

theorem over16_eq (v : Int) : over16 v = decide (v < -(2 ^ 15) ∨ 2 ^ 15 ≤ v) := decide_eq_decide.mpr (by omega)

theorem over40_eq (v : Int) : over40 v = decide (v < -(2 ^ 39) ∨ 2 ^ 39 ≤ v) := decide_eq_decide.mpr (by omega)

theorem clampI_eq (v : Int) {lo hi : Int} (h : lo ≤ hi) : clampI lo hi v = max lo (min hi v) := by
  unfold clampI
  split
  · omega
  · split <;> omega

theorem sat16_eq (v : Int) : sat16 v = BitVec.ofInt 16 (max (-(2 ^ 15)) (min (2 ^ 15 - 1) v)) :=
  congrArg _ (clampI_eq v (by decide))

end Sys2Proof.Machine
end

section
/-! Arithmetic on the data registers of the awl cores (R229). -/

namespace Sys2Proof.Machine

theorem srSets_sum (sr a b : BitVec 16) : SrSets sr (srZNCV sr (a + b) (sum16 a b).2.1 (sum16 a b).2.2)
    [(SR.z, a + b == 0), (SR.n, (a + b).msb), (SR.c, decide (2 ^ 16 ≤ a.toNat + b.toNat)),
      (SR.v, decide (a.toInt + b.toInt < -(2 ^ 15) ∨ 2 ^ 15 ≤ a.toInt + b.toInt)),
      (SR.vs, srBit sr SR.vs || decide (a.toInt + b.toInt < -(2 ^ 15) ∨ 2 ^ 15 ≤ a.toInt + b.toInt))] := by
  rw [← over16_eq]
  exact srSets_srZNCV ..

theorem srSets_diff (sr a b : BitVec 16) : SrSets sr (srZNCV sr (a - b) (diff16 a b).2.1 (diff16 a b).2.2)
    [(SR.z, a - b == 0), (SR.n, (a - b).msb), (SR.c, decide (b.toNat ≤ a.toNat)),
      (SR.v, decide (a.toInt - b.toInt < -(2 ^ 15) ∨ 2 ^ 15 ≤ a.toInt - b.toInt)),
      (SR.vs, srBit sr SR.vs || decide (a.toInt - b.toInt < -(2 ^ 15) ∨ 2 ^ 15 ≤ a.toInt - b.toInt))] := by
  rw [← over16_eq]
  exact srSets_srZNCV ..

/-- A saturated result, with the exact result and the carry. -/
theorem srSets_saturated (sr : BitVec 16) (v : Int) (c : Bool) :
    SrSets sr (srStick (srZNCV sr (sat16 v) c (over16 v)) SR.sat (over16 v))
      [(SR.z, BitVec.ofInt 16 (max (-(2 ^ 15)) (min (2 ^ 15 - 1) v)) == 0),
        (SR.n, (BitVec.ofInt 16 (max (-(2 ^ 15)) (min (2 ^ 15 - 1) v))).msb), (SR.c, c),
        (SR.v, decide (v < -(2 ^ 15) ∨ 2 ^ 15 ≤ v)), (SR.vs, srBit sr SR.vs || decide (v < -(2 ^ 15) ∨ 2 ^ 15 ≤ v)),
        (SR.sat, srBit sr SR.sat || decide (v < -(2 ^ 15) ∨ 2 ^ 15 ≤ v))] := by
  rw [← over16_eq, ← sat16_eq]
  exact (srSets_srZNCV ..).stick _ rfl

/-- The most negative number, by its value. -/
theorem eq_lowest_iff {a : BitVec 16} : a = 0x8000 ↔ a.toInt = -(2 ^ 15) := BitVec.toInt_inj.symm

/-- A negation overflows at the most negative number alone. -/
theorem over16_neg (a : BitVec 16) : over16 (-a.toInt) = (a == 0x8000) := by
  have hlow := a.le_toInt
  have hhigh := a.toInt_lt
  rw [over16_eq, beq_eq_decide, decide_eq_decide, eq_lowest_iff]
  omega

/-- So does an absolute value. -/
theorem over16_natAbs (a : BitVec 16) : over16 (a.toInt.natAbs : Int) = (a == 0x8000) := by
  have hhigh := a.toInt_lt
  rw [← over16_neg, over16_eq, over16_eq, decide_eq_decide]
  omega

theorem sat16_of_not_over {v : Int} (h : over16 v = false) : sat16 v = BitVec.ofInt 16 v := by
  rw [over16_eq, decide_eq_false_iff_not] at h
  rw [sat16_eq]
  exact congrArg _ (by omega)

theorem sat16_natAbs (a : BitVec 16) :
    sat16 (a.toInt.natAbs : Int) = if a = 0x8000 then 0x7FFF else if a.msb then -a else a := by
  by_cases ha : a = 0x8000
  · rw [if_pos ha, ha]
    rfl
  · rw [if_neg ha, sat16_of_not_over ((over16_natAbs a).trans (beq_false_of_ne ha))]
    split
    · rename_i hneg
      rw [BitVec.msb_eq_toInt, decide_eq_true_iff] at hneg
      rw [Int.ofNat_natAbs_of_nonpos hneg.le, BitVec.ofInt_neg, BitVec.ofInt_toInt]
    · rename_i hpos
      rw [BitVec.msb_eq_toInt, decide_eq_true_iff, Int.not_lt] at hpos
      rw [Int.natAbs_of_nonneg hpos, BitVec.ofInt_toInt]

/-- Settles O23: each row is a register instruction (`exec_awRegs`), with the flags of its result form. -/
theorem awlSums : Obligations.AwlSums := by
  refine ⟨?_, ?_, ?_, ?_, ?_, ?_, ?_, ?_, ?_⟩
  · exact fun s p dd ds o h => exec_awRegs (g := fun c => c.putZNCV dd (sum16 (c.d.get ds) (c.op2 o))) rfl h rfl (srSets_sum ..)
  · exact fun s p dd ds o h => exec_awRegs (g := fun c => c.putZNCV dd (diff16 (c.d.get ds) (c.op2 o))) rfl h rfl (srSets_diff ..)
  · intro s p dd ds o h
    have hresult := sat16_eq (((s.core p).d.get ds).toInt + ((s.core p).op2 o).toInt)
    refine exec_awRegs (g := fun c => c.putSat dd (sum16 (c.d.get ds) (c.op2 o)) ((c.d.get ds).toInt + (c.op2 o).toInt)) rfl h ?_
      (srSets_saturated ..)
    rw [← hresult]
    rfl
  · intro s p dd ds o h
    have hresult := sat16_eq (((s.core p).d.get ds).toInt - ((s.core p).op2 o).toInt)
    refine exec_awRegs (g := fun c => c.putSat dd (diff16 (c.d.get ds) (c.op2 o)) ((c.d.get ds).toInt - (c.op2 o).toInt)) rfl h ?_
      (srSets_saturated ..)
    rw [← hresult]
    rfl
  · exact fun s p ds o h => exec_awRegs
      (g := fun c => { c with
        sr := srZNCV c.sr (c.d.get ds - c.op2 o) (diff16 (c.d.get ds) (c.op2 o)).2.1 (diff16 (c.d.get ds) (c.op2 o)).2.2 })
      rfl h rfl (srSets_diff ..)
  · intro s p dd ds h
    rw [← over16_neg]
    exact exec_awRegs (g := fun c => { c.putZN dd (-c.d.get ds) with
      sr := srStick (srSet (srZN c.sr (-c.d.get ds)) SR.v (over16 (-(c.d.get ds).toInt))) SR.vs (over16 (-(c.d.get ds).toInt)) })
      rfl h rfl (((srSets_srZN ..).set _ rfl).stick _ rfl)
  · intro s p dd ds h
    rw [← sat16_natAbs, ← over16_natAbs]
    exact exec_awRegs (g := fun c => { c.putZN dd (sat16 ((c.d.get ds).toInt.natAbs : Int)) with
      sr := srStick (srZN c.sr (sat16 ((c.d.get ds).toInt.natAbs : Int))) SR.sat (over16 ((c.d.get ds).toInt.natAbs : Int)) })
      rfl h rfl ((srSets_srZN ..).stick _ rfl)
  · exact fun s p dd ds o h => exec_awRegs
      (g := fun c => c.putZN dd (if (c.op2 o).toInt < (c.d.get ds).toInt then c.op2 o else c.d.get ds)) rfl h rfl (srSets_srZN ..)
  · exact fun s p dd ds o h => exec_awRegs
      (g := fun c => c.putZN dd (if (c.d.get ds).toInt < (c.op2 o).toInt then c.op2 o else c.d.get ds)) rfl h rfl (srSets_srZN ..)

end Sys2Proof.Machine
end

section
/-! Logic and shifts on the data registers of the awl cores (R229). -/

namespace Sys2Proof.Machine

theorem Core.putLogic_sr (c : Core) (dd : Fin 8) (r : BitVec 16) :
    SrSets c.sr (c.putLogic dd r).sr [(SR.z, r == 0), (SR.n, r.msb), (SR.c, false), (SR.v, false)] :=
  ((srSets_srZN ..).set _ rfl).set _ rfl

theorem Core.putShift_sr (c : Core) (dd : Fin 8) (r : BitVec 16 × Bool) :
    SrSets c.sr (c.putShift dd r).sr [(SR.z, r.1 == 0), (SR.n, r.1.msb), (SR.c, r.2)] :=
  (srSets_srZN ..).set _ rfl

/-- Settles O24: each row is a register instruction (`exec_awRegs`), with the flags of a logic result or of a shifted one. -/
theorem awlLogic : Obligations.AwlLogic := by
  refine ⟨?_, ?_, ?_, ?_, ?_, ?_⟩
  · exact fun s p dd ds o h => exec_awRegs (g := fun c => c.putLogic dd (c.d.get ds &&& c.op2 o)) rfl h rfl (Core.putLogic_sr ..)
  · exact fun s p dd ds o h => exec_awRegs (g := fun c => c.putLogic dd (c.d.get ds ||| c.op2 o)) rfl h rfl (Core.putLogic_sr ..)
  · exact fun s p dd ds o h => exec_awRegs (g := fun c => c.putLogic dd (c.d.get ds ^^^ c.op2 o)) rfl h rfl (Core.putLogic_sr ..)
  · exact fun s p dd ds o h => exec_awRegs (g := fun c => c.putShift dd (shl16 (c.d.get ds) (shiftCount (c.op2 o)))) rfl h rfl
      (Core.putShift_sr ..)
  · exact fun s p dd ds o h => exec_awRegs (g := fun c => c.putShift dd (shr16 (c.d.get ds) (shiftCount (c.op2 o)))) rfl h rfl
      (Core.putShift_sr ..)
  · exact fun s p dd ds o h => exec_awRegs (g := fun c => c.putShift dd (sra16 (c.d.get ds) (shiftCount (c.op2 o)))) rfl h rfl
      (Core.putShift_sr ..)

end Sys2Proof.Machine
end

section
/-! Arithmetic on the accumulators of the awl cores (R226, R228). -/

namespace Sys2Proof.Machine

theorem Core.putAcc_sr (c : Core) (wn : Fin 2) (v : Int) : SrSets c.sr (c.putAcc wn v).sr
    [(SR.z, BitVec.ofInt 40 v == 0), (SR.n, (BitVec.ofInt 40 v).msb), (SR.c, false), (SR.v, decide (v < -(2 ^ 39) ∨ 2 ^ 39 ≤ v)),
      (SR.wv, decide ((BitVec.ofInt 40 v).toInt < -(2 ^ 31) ∨ 2 ^ 31 ≤ (BitVec.ofInt 40 v).toInt)),
      (SR.vs, srBit c.sr SR.vs || decide (v < -(2 ^ 39) ∨ 2 ^ 39 ≤ v))] := by
  rw [← over40_eq]
  exact srSets_srAcc ..

/-- Flags of a comparison of accumulators: those of the difference, with C. -/
theorem srSets_cmpw (sr : BitVec 16) (v : Int) (c : Bool) : SrSets sr (srSet (srAcc sr (BitVec.ofInt 40 v) (over40 v)) SR.c c)
    [(SR.z, BitVec.ofInt 40 v == 0), (SR.n, (BitVec.ofInt 40 v).msb), (SR.c, c), (SR.v, decide (v < -(2 ^ 39) ∨ 2 ^ 39 ≤ v)),
      (SR.wv, decide ((BitVec.ofInt 40 v).toInt < -(2 ^ 31) ∨ 2 ^ 31 ≤ (BitVec.ofInt 40 v).toInt)),
      (SR.vs, srBit sr SR.vs || decide (v < -(2 ^ 39) ∨ 2 ^ 39 ≤ v))] := by
  rw [← over40_eq]
  exact ((srSets_srAcc ..).reset c).congr fun n hn => by interval_cases n <;> rfl

/-- An absolute value overflows at the most negative number alone. -/
theorem over40_natAbs (a : BitVec 40) : over40 (a.toInt.natAbs : Int) = decide (a.toInt = -(2 ^ 39)) := by
  have hlow := a.le_toInt
  have hhigh := a.toInt_lt
  rw [over40_eq, decide_eq_decide]
  omega

/-- An absolute value that saturates is not negative. -/
theorem msb_clampedAbs (v : Int) : (BitVec.ofInt 40 (min (v.natAbs : Int) (2 ^ 39 - 1))).msb = false := by
  rw [BitVec.msb_eq_toInt, decide_eq_false_iff_not, BitVec.toInt_ofInt_eq_self (by decide) (by omega) (by omega)]
  omega

/-- Settles O26: each row is a register instruction (`exec_awRegs`), with the flags of an accumulator result. -/
theorem awlAccumulators : Obligations.AwlAccumulators := by
  refine ⟨?_, ?_, ?_, ?_, ?_, ?_, ?_⟩
  · exact fun s p wn h => exec_awRegs (g := fun c => c.putAcc wn ((c.w.get 0).toInt + (c.w.get 1).toInt)) rfl h rfl (Core.putAcc_sr ..)
  · exact fun s p wn h => exec_awRegs (g := fun c => c.putAcc wn ((c.w.get wn).toInt - (c.w.get (1 - wn)).toInt)) rfl h rfl
      (Core.putAcc_sr ..)
  · exact fun s p h => exec_awRegs (g := fun c => { c with
      sr := srSet (srAcc c.sr (BitVec.ofInt 40 ((c.w.get 0).toInt - (c.w.get 1).toInt)) (over40 ((c.w.get 0).toInt - (c.w.get 1).toInt)))
        SR.c (decide ((c.w.get 1).toNat ≤ (c.w.get 0).toNat)) }) rfl h rfl (srSets_cmpw ..)
  · exact fun s p wn n h => exec_awRegs (g := fun c => c.putAcc wn (ashift (c.w.get wn).toInt (c.ashCount n))) rfl h rfl
      (Core.putAcc_sr ..)
  · exact fun s p wn h => exec_awRegs (g := fun c => c.putAcc wn (-(c.w.get wn).toInt)) rfl h rfl (Core.putAcc_sr ..)
  · intro s p wn h
    have hflags := srSets_srAcc (s.core p).sr (BitVec.ofInt 40 (min (((s.core p).w.get wn).toInt.natAbs : Int) (2 ^ 39 - 1)))
      (over40 (((s.core p).w.get wn).toInt.natAbs : Int))
    rw [msb_clampedAbs] at hflags
    rw [← over40_natAbs]
    exact exec_awRegs (g := fun c => { c.setW wn (BitVec.ofInt 40 (min ((c.w.get wn).toInt.natAbs : Int) (2 ^ 39 - 1))) with
      sr := srAcc c.sr (BitVec.ofInt 40 (min ((c.w.get wn).toInt.natAbs : Int) (2 ^ 39 - 1))) (over40 ((c.w.get wn).toInt.natAbs : Int)) })
      rfl h rfl hflags
  · exact fun s p dd wn h => exec_awRegs (g := fun c => c.putZN dd (BitVec.ofInt 16 (normCount (c.w.get wn).toInt))) rfl h rfl
      (srSets_srZN ..)

end Sys2Proof.Machine
end

section
/-! The return stack of an awl core (R232): what CALL and RET do at its two ends. -/

namespace Sys2Proof.Machine

variable {s t : State} {p : Pos} {cost : Nat} {c : Core}

theorem Retires.stack (h : Retires s t p cost c) : (t.core p).stack = c.stack := by
  obtain ⟨-, -, -, hregs⟩ := h
  have hstack := congrArg Core.stack hregs
  exact hstack

/-- A bit that is set to what it held is left alone. -/
theorem SrSets.of_held {a b : BitVec 16} {i : Nat} (h : SrSets a b [(i, srBit a i)]) : SrSets a b [] := by
  refine srSets_iff.mpr fun n hn => (srSets_iff.mp h n hn).trans ?_
  by_cases hni : n = i
  · simp [hni, srBit]
  · have hne : (n == i) = false := by simpa using hni
    simp [List.lookup_cons, hne]

/-- Settles O57: what `awlControl` says of CALL and RET, with 8 entries held, with fewer, and with none. -/
theorem returnStack : Obligations.ReturnStack := by
  obtain ⟨-, -, -, -, hcall, -, hempty, -⟩ := awlControl
  refine ⟨?_, ?_, hempty⟩
  · intro s p target h hfull
    obtain ⟨t, hexec, hretires, hsr⟩ := hcall s p target h
    rw [hfull, decide_eq_true (Nat.le_refl 8), Bool.or_true] at hsr
    exact ⟨t, hexec, hretires, hsr⟩
  · intro s p target h hroom
    obtain ⟨t, hexec, hretires, hsr⟩ := hcall s p target h
    rw [decide_eq_false (Nat.not_le.mpr hroom), Bool.or_false] at hsr
    rw [List.take_of_length_le hroom] at hretires
    refine ⟨t, hexec, hretires, hsr.of_held, ?_⟩
    rw [hretires.stack]
    exact hroom

end Sys2Proof.Machine
end

section
/-! SUPPORT. A load of format X with modifier select 0 (R219) leaves its address register as it is, wherever that stands. What two
statements have it leave, `xLoaded`, steps by 0 instead, which R225 takes back into a circular buffer that the register is outside of. -/

namespace Sys2Proof.Machine

/-- The core of position 0 of bench 0 is at an instruction; its address registers stand at 100, outside of their buffers of 10 bytes
at 0. -/
def outsideBuffers (i : Instr) : State :=
  { State.reset with positions := [(0, { ({} : Position) with
      running := true, budget := 10, ilen := 1, imem := [(0, (awEncode i).getD 0)],
      core := { j := Vector.replicate 8 100, jl := Vector.replicate 8 10 } })] }

/-- A load into D0 at J0, which stays. -/
def stayingLoad : XLoad := ⟨0, 0, 0, false⟩

/-- No second load. -/
def noLoad : XLoad := ⟨0, 0, 0, true⟩

theorem Retires.j {s t : State} {p : Pos} {cost : Nat} {c : Core} (h : Retires s t p cost c) : (t.core p).j = c.j := by
  obtain ⟨-, -, -, hregs⟩ := h
  have hj := congrArg Core.j hregs
  exact hj

/-- An instruction that leaves J0 at `v` does not retire with another J0. -/
theorem not_retires_of_j {i : Instr} {s : State} {p : Pos} {cost : Nat} {c : Core} {v : BitVec 20}
    (hmodel : s.thenDoes i (fun t => (t.core p).j.get 0) = some v) (hother : c.j.get 0 ≠ v) :
    ¬ ∃ t, exec i s = .next t ∧ Retires s t p cost c := by
  rintro ⟨t, hexec, hretires⟩
  rw [State.thenDoes, hexec] at hmodel
  exact hother ((congrArg (·.get 0) hretires.j).symm.trans (Option.some.inj hmodel))

/-- LD2 with the load that stays alone. -/
def stayingLd2 : Instr := .ld2 ⟨0, 0⟩ stayingLoad noLoad 0

/-- MACX with it. -/
def stayingMacx : Instr := .macx ⟨0, 0⟩ 0 0 0 .ss false stayingLoad noLoad 0

/-- Refutes O22: its last clause has LD2 step J0 by 0 for modifier select 0, from 100 to 0 here; the model leaves it at 100, as R219
says. -/
theorem not_awlMoves : ¬ Obligations.AwlMoves := by
  intro h
  obtain ⟨-, -, -, -, -, -, -, -, -, -, hld2⟩ := h
  obtain ⟨t, hexec, hretires, -⟩ := hld2 (outsideBuffers stayingLd2) ⟨0, 0⟩ stayingLoad noLoad 0
    (by decide +kernel) (by decide +kernel) (by decide +kernel)
  have hstays : (outsideBuffers stayingLd2).thenDoes stayingLd2 (fun t => (t.core ⟨0, 0⟩).j.get 0) = some 100 := by decide +kernel
  exact not_retires_of_j hstays (by decide +kernel) ⟨t, hexec, hretires⟩

/-- Refutes O25: the clauses of MACX, which makes the same loads, have J0 step likewise. -/
theorem not_awlProducts : ¬ Obligations.AwlProducts := by
  intro h
  obtain ⟨-, -, -, hmacx, -⟩ := h
  obtain ⟨t, hexec, hretires, -⟩ := hmacx (outsideBuffers stayingMacx) ⟨0, 0⟩ 0 0 0 .ss stayingLoad noLoad 0
    (by decide +kernel) (by decide +kernel) (by decide +kernel)
  have hstays : (outsideBuffers stayingMacx).thenDoes stayingMacx (fun t => (t.core ⟨0, 0⟩).j.get 0) = some 100 := by decide +kernel
  exact not_retires_of_j hstays (by decide +kernel) ⟨t, hexec, hretires⟩

end Sys2Proof.Machine
end

section
/-! SUPPORT. Steps with and without a command waiting, the reset state, and lines that do not exist (R301, R303, R334). -/

namespace Sys2Proof.Machine

variable {s t : State}

/-- Settles O49: `step` takes the queue apart. -/
theorem stepRunsTheFront : Obligations.StepRunsTheFront := by
  unfold Obligations.StepRunsTheFront
  intro s c rest hpending
  rw [step, hpending]

/-- Settles O52. -/
theorem resetKeepsInv : Obligations.ResetKeepsInv := by
  unfold Obligations.ResetKeepsInv
  exact State.reset_mem_wf

/-- Settles O38: each of the three commands judges its line first. -/
theorem noSuchLine : Obligations.NoSuchLine := by
  unfold Obligations.NoSuchLine
  exact ⟨fun _ _ _ h => if_pos (decide_eq_true h), fun _ _ _ h => if_pos (decide_eq_true h), fun _ _ _ h => if_pos (decide_eq_true h)⟩

/-! ### The tick -/

/-- A pattern of an integer in range reads back as the integer. -/
theorem toI_ofI_128 {i : Int} (hlo : -2 ^ 127 ≤ i) (hhi : i < 2 ^ 127) : toI 128 (ofI 128 i) = i := by
  have hpow : ((2 ^ 128 : Nat) : Int) = 2 ^ 128 := by norm_num
  simp only [toI, ofI, hpow]
  have hmod := Int.emod_emod_of_dvd i (dvd_refl (2 ^ 128 : Int))
  split_ifs <;> omega

theorem toI_128_range (v : Nat) : -2 ^ 127 ≤ toI 128 v ∧ toI 128 v < 2 ^ 127 := by
  simp only [toI]
  split <;> omega

/-- What a tick slews lies between nothing and what is left (R303). -/
theorem State.slewOffset_range (s : State) :
    s.slewOffset.natAbs ≤ s.slewMax ∧ (0 ≤ s.slewOffset ∧ s.slewOffset ≤ s.slewLeft ∨ s.slewLeft ≤ s.slewOffset ∧ s.slewOffset ≤ 0) := by
  simp only [State.slewOffset]
  split <;> omega

/-- The time line after a tick with an increment (R25). -/
def State.bent (s : State) (inc : Nat) : List Anchor :=
  if !s.locked ∨ (anchorAt s.idx s.timeline ⟨s.idx, s.tc, s.inc⟩).inc = inc ∧ !s.timeline.isEmpty then s.timeline
  else pushAnchor ⟨s.idx, s.tc, inc⟩ s.timeline

theorem State.bend_eq (s : State) (inc : Nat) : s.bend inc = { s with timeline := s.bent inc } := by
  unfold State.bend State.bent
  split <;> rfl

/-- The state that a tick begins its writes from: counter, elapsed time, index and time line have moved. -/
def State.moved (s : State) : State :=
  { s with timeline := s.bent (s.tickAdd s.slewOffset).toNat, tc := ((s.tc : Int) + s.tickAdd s.slewOffset).toNat,
           up := s.up + (s.tickAdd s.slewOffset).toNat, idx := if s.locked then s.idx + 32 else s.idx }

/-- What a tick shows of the increment and of the slew. -/
def State.tickShown (s : State) : State :=
  ((s.moved.setReg O.tcInc ((s.tickAdd s.slewOffset).toNat / 2 ^ 32 % 2 ^ 40)).setReg O.tcIncExt
    ((s.tickAdd s.slewOffset).toNat % 2 ^ 32)).setSlew (s.slewLeft - s.slewOffset)

/-- The state that a tick leaves, before the event that ends a slew. -/
def State.ticked (s : State) : State := s.tickShown.countActive (s.tickAdd s.slewOffset).toNat

theorem tick_eq (h : s.hidden H.boot ≠ 0) :
    tick s = if s.slewLeft ≠ 0 ∧ s.slewLeft - s.slewOffset = 0 then s.ticked.raise 0x063 0 else s.ticked := by
  simp only [tick, if_neg h, State.bend_eq]
  rfl

/-- The objects and hidden scalars that a tick writes. -/
def tickKeys : List Nat := [O.tcInc.key 0 0, O.tcIncExt.key 0 0, O.tcSlewRemain.key 0 0, O.hoursActive.key 0 0]

theorem Effect.countActive {keys hids : List Nat} {n : Nat} (h : Effect s t [] keys hids) (hk : O.hoursActive.key 0 0 ∈ keys)
    (hh : hkey H.activeAcc ∈ hids) : Effect s (t.countActive n) [] keys hids := by
  unfold State.countActive
  dsimp only
  split_ifs
  · exact h
  · exact (h.setHidden hh).setReg hk
  · exact h.setHidden hh

theorem State.ticked_effect (s : State) : Effect s.moved s.ticked [] tickKeys [hkey H.slew, hkey H.activeAcc] := by
  have hslew : Effect s.moved s.tickShown [] tickKeys [hkey H.slew, hkey H.activeAcc] :=
    (((Effect.refl.setReg (by simp [tickKeys])).setReg (by simp [tickKeys])).setHidden (by simp)).setReg (by simp [tickKeys])
  exact hslew.countActive (by simp [tickKeys]) (by simp)

theorem State.countActive_slewLeft (s : State) (n : Nat) : (s.countActive n).slewLeft = s.slewLeft := by
  have hacc (v : Nat) : (s.setHidden H.activeAcc v).hidden H.slew = s.hidden H.slew := State.hidden_setHidden_ne _ _ _ _ _ _ (by decide)
  unfold State.countActive
  dsimp only
  split_ifs
  · rfl
  · simp only [State.slewLeft, State.bumpSat, State.hidden_setReg, hacc]
  · simp only [State.slewLeft, hacc]

theorem State.ticked_slewLeft (s : State) : s.ticked.slewLeft = s.slewLeft - s.slewOffset := by
  have hrange := toI_128_range (s.hidden H.slew)
  have hoff := s.slewOffset_range.2
  rw [State.ticked, State.countActive_slewLeft, State.tickShown, State.slewLeft, State.setSlew, State.hidden_setReg,
    State.hidden_setHidden_same]
  rw [State.slewLeft] at hoff ⊢
  exact toI_ofI_128 (by omega) (by omega)

theorem step_idle (hp : s.pending = []) : step s = .next (tick s).chansTick.visitsEnd.timeouts := by
  rw [step, hp]

/-- An effect on the state whose counters have moved, read against the state before. -/
theorem Effect.ofMoved {evs : List (Nat × Nat)} {keys hids : List Nat} (h : Effect s.moved t evs keys hids) :
    t.tc = s.moved.tc ∧ t.up = s.moved.up ∧ t.idx = s.moved.idx ∧ t.timeline = s.moved.timeline ∧
    Effect { s with tc := t.tc, up := t.up } { t with timeline := s.timeline, idx := s.idx } evs keys hids := by
  obtain ⟨hrest, hraises, hregs, hhid⟩ := h
  have htc : t.tc = s.moved.tc := by have h := congrArg State.tc hrest; exact h
  have hup : t.up = s.moved.up := by have h := congrArg State.up hrest; exact h
  have hidx : t.idx = s.moved.idx := by have h := congrArg State.idx hrest; exact h
  have hline : t.timeline = s.moved.timeline := by have h := congrArg State.timeline hrest; exact h
  refine ⟨htc, hup, hidx, hline, ?_, ?_, hregs, hhid⟩
  · rw [htc, hup, hrest]
    rfl
  · rw [hup]
    exact hraises

/-- Settles O50: a tick's writes follow the move of the counters. -/
theorem idleTick : Obligations.IdleTick := by
  unfold Obligations.IdleTick
  refine ⟨?_, ?_, ?_⟩
  · intro s hp hboot
    rw [step_idle hp, tick, if_pos hboot]
  · intro s hp hboot hlocked hleft
    have hoff : s.slewOffset = 0 := by have h := s.slewOffset_range.2; omega
    have hadd : s.tickAdd 0 = s.incBase := by simp [State.tickAdd, hlocked]
    obtain ⟨htc, hup, hidx, hline, hrest, hraises, hregs, hhid⟩ := s.ticked_effect.ofMoved
    have htick : tick s = s.ticked := by rw [tick_eq hboot, if_neg (by simp [hleft])]
    refine ⟨s.ticked, by rw [step_idle hp, htick], ?_, ?_, ?_, ?_, ?_, ?_, hregs, hhid⟩
    · rw [hline, State.bend_eq]
      rfl
    · rw [htc, State.moved, hoff, hadd]
    · rw [hup, State.moved, hoff, hadd]
    · rw [hidx, State.moved, hlocked]
      rfl
    · have h := congrArg (fun u : State => { u with tc := s.tc, up := s.up }) hrest
      exact h
    · exact hraises
  · intro s hp hboot hleft
    have hslew := s.ticked_slewLeft
    have hends : (s.slewLeft ≠ 0 ∧ s.slewLeft - s.slewOffset = 0) ↔ s.slewLeft = s.slewOffset := by omega
    rw [step_idle hp, tick_eq hboot]
    simp only [hends]
    by_cases h : s.slewLeft = s.slewOffset
    · rw [if_pos h, if_pos h]
      obtain ⟨htc, hup, hidx, hline, heff⟩ := (s.ticked_effect.raise 0x063 0 (by decide)).ofMoved
      refine ⟨_, rfl, ?_, htc, hidx, s.slewOffset_range.1, ?_, heff⟩
      · rw [hline, State.bend_eq]
        rfl
      · rw [← hslew, State.slewLeft, State.hidden_raise]
        rfl
    · rw [if_neg h, if_neg h]
      obtain ⟨htc, hup, hidx, hline, heff⟩ := s.ticked_effect.ofMoved
      refine ⟨_, rfl, ?_, htc, hidx, s.slewOffset_range.1, hslew, heff⟩
      rw [hline, State.bend_eq]
      rfl

end Sys2Proof.Machine
end

section
/-! SUPPORT. The bytes of a DMA transfer (R360, R361): their order, and where each lies. -/

namespace Sys2Proof.Machine

/-! ### Order -/

theorem swapUnits_length (n : Nat) (hn : 0 < n) (fuel : Nat) (l : List Byte) (h : l.length ≤ fuel) : (swapUnits n fuel l).length = l.length := by
  induction fuel generalizing l with
  | zero =>
    obtain rfl : l = [] := List.length_eq_zero_iff.mp (by omega)
    rfl
  | succ f ih =>
    unfold swapUnits
    split_ifs with he
    · simp [List.isEmpty_iff.mp he]
    · rw [List.length_append, List.length_reverse, List.length_take, ih _ (by rw [List.length_drop]; omega), List.length_drop]
      omega

/-- Each unit is reversed (R360). -/
theorem swapUnits_getElem? (n : Nat) (hn : 0 < n) (fuel : Nat) (l : List Byte) (h : l.length ≤ fuel) (hunit : l.length % n = 0) (i : Nat)
    (hi : i < l.length) : (swapUnits n fuel l)[i]? = l[i / n * n + (n - 1 - i % n)]? := by
  induction fuel generalizing l i with
  | zero => omega
  | succ f ih =>
    have hle : n ≤ l.length := Nat.le_of_dvd (by omega) (Nat.dvd_of_mod_eq_zero hunit)
    have hne : ¬ l.isEmpty = true := fun he => by simp [List.isEmpty_iff.mp he] at hi
    have htake : (l.take n).reverse.length = n := by simp [hle]
    rw [swapUnits, if_neg hne]
    by_cases hin : i < n
    · rw [List.getElem?_append_left (by omega), Nat.div_eq_of_lt hin, Nat.mod_eq_of_lt hin, List.getElem?_reverse (by simp; omega),
        List.getElem?_take]
      simp only [List.length_take, Nat.min_eq_left hle]
      rw [if_pos (by omega)]
      simp
    · have hdiv : i / n = (i - n) / n + 1 := by rw [← Nat.add_div_right _ hn]; congr 1; omega
      have hmod : i % n = (i - n) % n := (Nat.mod_eq_sub_mod (by omega))
      rw [List.getElem?_append_right (by omega), htake, ih (l.drop n) (by rw [List.length_drop]; omega)
        (by rw [List.length_drop, ← Nat.mod_eq_sub_mod hle]; exact hunit) (i - n) (by rw [List.length_drop]; omega), List.getElem?_drop, hdiv, hmod]
      congr 1
      ring_nf

theorem swapHalves_length (l : List Byte) : (swapHalves l).length = l.length := by
  induction l using swapHalves.induct with
  | case1 a b c d r ih => simp [swapHalves, ih]
  | case2 l h => rw [swapHalves]; exact h

/-- The 16-bit halves of each 4-byte unit are exchanged (R360). -/
theorem swapHalves_getElem? (l : List Byte) (hunit : l.length % 4 = 0) (i : Nat) (hi : i < l.length) :
    (swapHalves l)[i]? = l[i / 4 * 4 + (i % 4 + 2) % 4]? := by
  induction l using swapHalves.induct generalizing i with
  | case1 a b c d r ih =>
    rw [swapHalves]
    match i with
    | 0 | 1 | 2 | 3 => rfl
    | i + 4 =>
      have hk : (i + 4) / 4 * 4 + ((i + 4) % 4 + 2) % 4 = i / 4 * 4 + (i % 4 + 2) % 4 + 4 := by omega
      simp only [List.length_cons] at hunit hi
      simp only [hk, List.getElem?_cons_succ]
      exact ih (by omega) i (by omega)
  | case2 l h =>
    match l with
    | [] => simp at hi
    | [_] | [_, _] | [_, _, _] => simp at hunit
    | a :: b :: c :: d :: r => exact absurd rfl (h a b c d r)

/-- The bytes after SWAP alone. -/
def swapAlone (d : Desc) (l : List Byte) : List Byte := if descSwap d = 0 then l else swapUnits (2 ^ descSwap d) l.length l

theorem swapData_eq (d : Desc) (l : List Byte) : swapData d l = if descHswap d then swapHalves (swapAlone d l) else swapAlone d l := rfl

theorem swapAlone_length (d : Desc) (l : List Byte) : (swapAlone d l).length = l.length := by
  unfold swapAlone
  split_ifs
  · rfl
  · exact swapUnits_length _ (by positivity) _ _ le_rfl

theorem swapAlone_getElem? (d : Desc) (l : List Byte) (hunit : l.length % 2 ^ descSwap d = 0) (i : Nat) (hi : i < l.length) :
    (swapAlone d l)[i]? = l[i / 2 ^ descSwap d * 2 ^ descSwap d + (2 ^ descSwap d - 1 - i % 2 ^ descSwap d)]? := by
  unfold swapAlone
  split_ifs with h0
  · simp [h0]
  · exact swapUnits_getElem? _ (by positivity) _ _ le_rfl hunit i hi

/-- Settles O59: SWAP's order, read through HSWAP's. -/
theorem swapOrder : Obligations.SwapOrder := by
  unfold Obligations.SwapOrder
  constructor
  · intro d l hunit hhalves
    rw [swapData_eq]
    split_ifs with hswap
    · have h4 := hhalves hswap
      rw [swapHalves_length, swapAlone_length]
      refine ⟨rfl, fun i hi => ?_⟩
      rw [swapHalves_getElem? _ (by rw [swapAlone_length]; exact h4) i (by rw [swapAlone_length]; exact hi)]
      exact swapAlone_getElem? d l hunit _ (by omega)
    · exact ⟨swapAlone_length d l, fun i hi => swapAlone_getElem? d l hunit i hi⟩
  · intro d b0 b1 b2 b3 hswap hhswap
    rw [swapData_eq, if_pos hhswap, swapAlone, if_neg (by omega), hswap]
    rfl

/-! ### Place -/

/-- The addresses of pieces, byte by byte. -/
def placed (ps : List (Nat × Nat)) : List Nat := ps.flatMap (fun p => (List.range p.2).map (fun j => p.1 + j))

/-- A circular side runs round its aligned block (R361). -/
theorem placed_circular (k fuel addr n i : Nat) (hk : k ≠ 0) (hfuel : n + addr % 2 ^ k ≤ fuel * 2 ^ k) (hi : i < n) :
    (placed (pieces addr k fuel n))[i]? = some (addr / 2 ^ k * 2 ^ k + (addr % 2 ^ k + i) % 2 ^ k) := by
  induction fuel generalizing addr n i with
  | zero => omega
  | succ f ih =>
    have hpos : 0 < 2 ^ k := by positivity
    rw [pieces, if_neg (by omega), if_neg hk]
    dsimp only
    generalize hB : 2 ^ k = B at *
    have haddr : addr / B * B + addr % B = addr := Nat.div_add_mod' _ _
    have hlt : addr % B < B := Nat.mod_lt _ hpos
    rw [Nat.succ_mul] at hfuel
    rw [show addr / B * B + B - addr = B - addr % B by omega, placed, List.flatMap_cons]
    by_cases hin : i < min n (B - addr % B)
    · rw [List.getElem?_append_left (by simpa using hin), List.getElem?_map, List.getElem?_range hin,
        Nat.mod_eq_of_lt (a := addr % B + i) (by omega), Option.map_some]
      exact congrArg some (by omega)
    · have hm : min n (B - addr % B) = B - addr % B := by omega
      have hrest := ih (addr / B * B) (n - (B - addr % B)) (i - (B - addr % B)) (by rw [Nat.mul_mod_left]; omega) (by omega)
      rw [Nat.mul_mod_left, Nat.mul_div_left _ hpos, Nat.zero_add] at hrest
      have hround : addr % B + i = i - (B - addr % B) + B := by omega
      rw [hm, List.getElem?_append_right (by simpa using by omega), hround, Nat.add_mod_right, List.length_map, List.length_range]
      exact hrest

theorem placed_linear (fuel addr n i : Nat) (hi : i < n) : (placed (pieces addr 0 (fuel + 1) n))[i]? = some (addr + i) := by
  rw [pieces, if_neg (by omega), if_pos rfl]
  simp [placed, hi]

end Sys2Proof.Machine
end

section
/-! SUPPORT. What a chain of writes and events leaves in the objects, the hidden scalars and the queue of raises, whatever else it changes. -/

namespace Sys2Proof.Machine

variable {s t : State} {evs : List (Nat × Nat)} {keys hids : List Nat}

/-- Objects of different subindices are kept apart by their keys. -/
theorem key_ne_of_sub {r q : Row} {i j : Nat} (h : r.sub % 256 ≠ q.sub % 256) : r.key i 0 ≠ q.key j 0 := by
  simp only [Row.key, Nat.mul_zero, Nat.add_zero]
  omega

/-- Objects of different indices are kept apart by their keys. -/
theorem key_ne_of_idx {r q : Row} {i j : Nat} (hr : r.sub < 256) (hq : q.sub < 256) (h : r.idx + r.ist * i ≠ q.idx + q.ist * j) :
    r.key i 0 ≠ q.key j 0 := by
  simp only [Row.key, Nat.mul_zero, Nat.add_zero]
  omega

/-- What a command did to the objects, the hidden scalars and the queue of raises: the parts of `Effect` that do not ask of the rest. -/
def Wrote (s t : State) (evs : List (Nat × Nat)) (keys hids : List Nat) : Prop :=
  t.up = s.up ∧ t.raises = told s s.raises evs ∧ Agree t.regs s.regs (if evs = [] then keys else mergedKey :: keys) ∧
  Agree t.hid s.hid hids

theorem Wrote.refl : Wrote s s [] keys hids := ⟨rfl, rfl, Agree.refl _ _, Agree.refl _ _⟩

/-- Where nothing else changed, it is the effect. -/
theorem Wrote.effect (h : Wrote s t evs keys hids) (hrest : t = { s with regs := t.regs, hid := t.hid, raises := t.raises }) :
    Effect s t evs keys hids := ⟨hrest, h.2⟩

theorem Effect.wrote (h : Effect s t evs keys hids) : Wrote s t evs keys hids := ⟨h.up, h.2⟩

theorem Wrote.setReg {r : Row} {v i j : Nat} (h : Wrote s t evs keys hids) (hk : r.key i j ∈ keys) :
    Wrote s (t.setReg r v i j) evs keys hids := by
  obtain ⟨hup, hraises, hregs, hhid⟩ := h
  exact ⟨hup, hraises, hregs.setReg r v i j (Effect.mem_keys hk), hhid⟩

theorem Wrote.setHidden {n v i : Nat} (h : Wrote s t evs keys hids) (hk : hkey n i ∈ hids) : Wrote s (t.setHidden n v i) evs keys hids := by
  obtain ⟨hup, hraises, hregs, hhid⟩ := h
  exact ⟨hup, hraises, hregs, hhid.setHidden n v i hk⟩

theorem Wrote.reg {q : Row} {i j : Nat} (h : Wrote s t evs keys hids) (hk : q.key i j ∉ mergedKey :: keys) : t.reg q i j = s.reg q i j := by
  refine h.2.2.1 _ _ fun hm => hk ?_
  split at hm
  · exact List.mem_cons_of_mem _ hm
  · exact hm

theorem Wrote.hidden {n i : Nat} (h : Wrote s t evs keys hids) (hk : hkey n i ∉ hids) : t.hidden n i = s.hidden n i := h.2.2.2 _ _ hk

/-- The span within which raises merge goes by none of the keys. -/
abbrev SpanFree (keys : List Nat) : Prop := ∀ k ∈ spanKeys, k ∉ mergedKey :: keys

theorem spanFree_nil : SpanFree [] := by decide

theorem SpanFree.cons {k : Nat} (hl : SpanFree keys) (h : k ∉ spanKeys) : SpanFree (k :: keys) := by
  intro c hc hm
  rcases List.mem_cons.mp hm with rfl | hm
  · exact hl _ hc List.mem_cons_self
  · rcases List.mem_cons.mp hm with rfl | hm
    · exact h hc
    · exact hl _ hc (List.mem_cons_of_mem _ hm)

/-- An object of a later index than PLL-A's. -/
theorem key_not_span {r : Row} {i j : Nat} (h : 0x805 ≤ r.idx) : r.key i j ∉ spanKeys := by
  have hlt : ∀ k ∈ spanKeys, k < 0x80500 := by decide
  have hidx : 0x805 * 256 ≤ (r.idx + r.ist * i) * 256 := Nat.mul_le_mul_right 256 (h.trans (Nat.le_add_right _ _))
  have hge : 0x80500 ≤ r.key i j := hidx.trans (Nat.le_add_right _ _)
  exact fun hm => absurd (hlt _ hm) (by omega)

theorem SpanFree.key {r : Row} {i j : Nat} (hl : SpanFree keys) (h : 0x805 ≤ r.idx) : SpanFree (r.key i j :: keys) :=
  hl.cons (key_not_span h)

theorem Wrote.cycleP (h : Wrote s t evs keys hids) (hk : SpanFree keys) : t.cycleP = s.cycleP := by
  have hstate : t.reg O.pllaState = s.reg O.pllaState := h.reg (hk _ (by simp [spanKeys]))
  have hfroot : t.reg O.frootActual = s.reg O.frootActual := h.reg (hk _ (by simp [spanKeys]))
  unfold State.cycleP State.locked State.froot
  rw [hstate, hfroot]

/-- A further event comes after those before it. -/
theorem Wrote.raise {e d : Nat} (h : Wrote s t evs keys hids) (hk : SpanFree keys) : Wrote s (t.raise e d) (evs ++ [(e, d)]) keys hids := by
  have hspan := h.cycleP hk
  obtain ⟨hup, hraises, hregs, hhid⟩ := h
  refine ⟨by simpa using hup, ?_, ?_, by simpa using hhid⟩
  · rw [State.raise_raises, hspan, hup, hraises, told, told, List.foldl_append]
    rfl
  · rw [if_neg (by simp)]
    refine Agree.raise e d (hregs.mono fun k hk => ?_) List.mem_cons_self
    split at hk
    · exact List.mem_cons_of_mem _ hk
    · exact hk

theorem Wrote.trans {u : State} {evs' : List (Nat × Nat)} (h : Wrote s t evs keys hids) (h' : Wrote t u evs' keys hids) (hk : SpanFree keys) :
    Wrote s u (evs ++ evs') keys hids := by
  have hspan := h.cycleP hk
  obtain ⟨hup, hraises, hregs, hhid⟩ := h
  obtain ⟨hup', hraises', hregs', hhid'⟩ := h'
  refine ⟨hup'.trans hup, ?_, ?_, fun k d hk => (hhid' k d hk).trans (hhid k d hk)⟩
  · rw [hraises', hraises, told, told, told, List.foldl_append]
    simp only [hspan, hup]
  · have hmem {e : List (Nat × Nat)} {k : Nat} (he : e = evs ∨ e = evs') (hk : k ∈ if e = [] then keys else mergedKey :: keys) :
        k ∈ if evs ++ evs' = [] then keys else mergedKey :: keys := by
      by_cases h0 : evs ++ evs' = []
      · obtain ⟨h1, h2⟩ := List.append_eq_nil_iff.mp h0
        rcases he with rfl | rfl <;> simpa [h1, h2] using hk
      · rw [if_neg h0]
        split at hk
        · exact List.mem_cons_of_mem _ hk
        · exact hk
    exact fun k d hk => (hregs' k d fun hm => hk (hmem (.inr rfl) hm)).trans (hregs k d fun hm => hk (hmem (.inl rfl) hm))

theorem Wrote.mono {keys' hids' : List Nat} (h : Wrote s t evs keys hids)
    (hk : ∀ k ∈ keys, k ∈ keys') (hh : ∀ k ∈ hids, k ∈ hids') : Wrote s t evs keys' hids' := by
  obtain ⟨hup, hraises, hregs, hhid⟩ := h
  refine ⟨hup, hraises, hregs.mono fun k hm => ?_, hhid.mono hh⟩
  by_cases he : evs = []
  · rw [if_pos he] at hm ⊢
    exact hk k hm
  · rw [if_neg he] at hm ⊢
    exact List.cons_subset_cons _ hk hm

/-- A further event, after the writes that follow the events before it. -/
theorem Effect.append {e d : Nat} (h : Effect s t evs keys hids) (hk : SpanFree keys) : Effect s (t.raise e d) (evs ++ [(e, d)]) keys hids := by
  refine (h.wrote.raise hk).effect ?_
  rw [h.1, State.raise_eq]

/-- What has left the device asks for nothing else. -/
theorem Effect.withOut (o : List Out) (h : Effect s t evs keys hids) : Effect { s with out := o } { t with out := o } evs keys hids := by
  obtain ⟨hrest, hraises, hregs, hhid⟩ := h
  refine ⟨?_, hraises, hregs, hhid⟩
  have ho := congrArg (fun u : State => { u with out := o }) hrest
  exact ho

/-- The span within which raises merge goes by the objects, and by elapsed time. -/
theorem told_congr {u : State} {l : List Raise} (hregs : u.regs = s.regs) (hup : u.up = s.up) : told u l evs = told s l evs := by
  unfold told State.cycleP State.locked State.froot State.reg
  rw [hregs, hup]

/-- An effect on a state that a command has changed elsewhere, where what it changed there is set aside by `F`. -/
theorem Effect.over {u : State} (F : State → State) (h : Effect u t evs keys hids)
    (hF : ∀ r hid q, F { u with regs := r, hid := hid, raises := q } = { s with regs := r, hid := hid, raises := q })
    (hregs : u.regs = s.regs) (hhid : u.hid = s.hid) (hraises : u.raises = s.raises) (hup : u.up = s.up) : Effect s (F t) evs keys hids := by
  obtain ⟨hrest, ht, hr, hh⟩ := h
  have hout := hF t.regs t.hid t.raises
  rw [← hrest] at hout
  unfold Effect
  rw [hout]
  refine ⟨rfl, ?_, hregs ▸ hr, hhid ▸ hh⟩
  rw [← hraises, ← told_congr hregs hup]
  exact ht

end Sys2Proof.Machine
end

section
/-! SUPPORT. DMA channels (R357 to R364): requests, the end of a descriptor and what follows it. -/

namespace Sys2Proof.Machine

variable {s t : State} {evs : List (Nat × Nat)} {keys hids : List Nat} {c n code : Nat} {d : Desc} {l : List Byte}

/-! ### The end of a descriptor -/

/-- What STATUS a descriptor that ends after `n` bytes has (R358, R361). -/
def statusOf (d : Desc) (n code : Nat) : Nat :=
  0x8000 + 0x4000 * b2n (descK d != 0 && decide (2 ^ descK d < (if descCircDst d then d.dst else d.src) % 2 ^ descK d + n)) + code

theorem State.descDone_eq (s : State) (c : Nat) (d : Desc) (n code : Nat) : s.descDone c d n code =
    if descNoEvt d then s.writeStatus c (statusOf d n code)
    else (s.writeStatus c (statusOf d n code)).raise (0x700 + 2 * c)
      (statusOf d n code + 65536 * (s.writeStatus c (statusOf d n code)).reg O.dmaDoneCount c) := rfl

theorem State.descDone_status (s : State) (c : Nat) (d : Desc) (n code : Nat) :
    (s.descDone c d n code).reg O.dmaLastStatus c = statusOf d n code := by
  have hstatus : (s.writeStatus c (statusOf d n code)).reg O.dmaLastStatus c = statusOf d n code := by
    rw [State.writeStatus, State.bump, State.reg_setReg_ne _ _ _ _ _ _ _ _ (key_ne_of_sub (by decide)), State.reg_setReg_same]
  rw [State.descDone_eq]
  split_ifs
  · exact hstatus
  · rw [State.reg_raise_ne _ _ _ _ _ _ (key_ne_of_sub (by decide)), hstatus]

theorem State.dmaNext_status (s : State) (c : Nat) (d : Desc) : (s.dmaNext c d).reg O.dmaLastStatus c = s.reg O.dmaLastStatus c := by
  have hstate (u : State) (v : Nat) : (u.setReg O.dmaState v c).reg O.dmaLastStatus c = u.reg O.dmaLastStatus c :=
    State.reg_setReg_ne _ _ _ _ _ _ _ _ (key_ne_of_sub (by decide))
  unfold State.dmaNext
  dsimp only
  split_ifs
  · exact hstate _ _
  · rfl
  · exact hstate _ _
  · exact hstate _ _

/-- A descriptor ends with STATUS of its code, or of code 1 where it read poison (R362). -/
theorem State.descEnd_status (s : State) (c : Nat) (d : Desc) (n code : Nat) (host : List Byte) :
    (s.descEnd c d n code host).reg O.dmaLastStatus c = statusOf d n code ∨
    code = 0 ∧ (s.descEnd c d n code host).reg O.dmaLastStatus c = statusOf d n 1 := by
  unfold State.descEnd
  dsimp only
  rw [State.descDone_status]
  generalize (if descSrc d = 1 then s.readSide (sidePieces d false n) else (host.take n, false, s)).2.1 = bad
  by_cases h : code = 0 ∧ bad = true
  · exact .inr ⟨h.1, by rw [if_pos h]⟩
  · exact .inl (by rw [if_neg h])

theorem statusOf_testBit (d : Desc) (n : Nat) {code : Nat} (h : code < 16) : (statusOf d n code).testBit 14 =
    decide (descK d ≠ 0 ∧ 2 ^ descK d < (if descCircDst d then d.dst else d.src) % 2 ^ descK d + n) := by
  have hlap (b : Bool) : (0x8000 + 0x4000 * b2n b + code).testBit 14 = b := by
    cases b
    all_goals
      simp only [b2n, Nat.testBit_eq_decide_div_mod_eq]
      simp
      omega
  rw [statusOf, hlap, Bool.decide_and, decide_not]
  rfl

/-- Settles O60. -/
theorem circularSide : Obligations.CircularSide := by
  unfold Obligations.CircularSide
  constructor
  · intro d dst i hlegal hi
    dsimp only
    rw [sidePieces]
    by_cases hk : sideK d dst = 0
    · rw [hk, if_pos rfl]
      exact placed_linear _ _ _ _ hi
    · have h64 : 2 ^ 6 ≤ 2 ^ sideK d dst := Nat.pow_le_pow_right (by decide) (by omega)
      have hlt : (if dst then d.dst else d.src) % 2 ^ sideK d dst < 2 ^ sideK d dst := Nat.mod_lt _ (by positivity)
      have hroom := Nat.mul_le_mul_left (d.count / 64 + 1) h64
      rw [if_neg hk]
      exact placed_circular _ _ _ _ _ hk (by rw [Nat.succ_mul]; omega) hi
  · intro s ch moved data d hdesc hstop
    have hexec : exec (.dmaDescEnd ch moved data) s = .next ((s.descEnd ch.val d d.count 0 data).dmaNext ch.val d) := by
      change execDmaDescEnd ch moved data s = _
      simp [execDmaDescEnd, hdesc, hstop]
    refine ⟨_, hexec, ?_⟩
    rw [State.dmaNext_status]
    rcases s.descEnd_status ch.val d d.count 0 data with h | ⟨-, h⟩
    · rw [h, statusOf_testBit _ _ (by decide)]
    · rw [h, statusOf_testBit _ _ (by decide)]

end Sys2Proof.Machine
end

section
/-! SUPPORT. DRAM without poisoned lines (R339, R342): what is written reads back, and nothing but memory changes. -/

namespace Sys2Proof.Machine

variable {s t : State}

/-- Bytes written read back. -/
theorem Map.get_putBytes_inside (m : Map Byte) (a i : Nat) (bs : List Byte) (h : i < bs.length) :
    Map.get (Map.putBytes m a bs) 0 (a + i) = bs[i] := by
  induction bs generalizing m a i with
  | nil => simp at h
  | cons b r ih =>
    cases i with
    | zero => rw [Map.putBytes, Map.get_putBytes_outside _ _ _ _ (by omega), Nat.add_zero, Map.get_put_same, List.getElem_cons_zero]
    | succ i => rw [Map.putBytes, List.getElem_cons_succ, ← ih (Map.put m 0 a b) (a + 1) i (by simpa using h), Nat.add_right_comm, Nat.add_assoc]

theorem State.poisoned_of_clean (h : s.poison = []) (line : Nat) : s.poisoned line = false := by
  rw [State.poisoned, h]
  rfl

theorem State.writeLine_clean (h : s.poison = []) (a : Nat) (bs : List Byte) :
    s.writeLine a bs = { s with mem := Map.putBytes s.mem a (s.held a bs) } := by
  rw [State.writeLine, if_neg (by simp [State.poisoned_of_clean h])]

/-- A write to memory without poison changes memory alone. -/
theorem State.writeLines_clean (h : s.poison = []) (n a : Nat) (bs : List Byte) :
    s.writeLines n a bs = { s with mem := (s.writeLines n a bs).mem } := by
  induction n generalizing s a bs with
  | zero => rfl
  | succ n ih =>
    cases bs with
    | nil => rfl
    | cons b r =>
      rw [State.writeLines]
      · rw [ih (by rw [State.writeLine_clean h]; exact h), State.writeLine_clean h]
      · simp

theorem State.writeMem_clean (h : s.poison = []) (a : Nat) (bs : List Byte) :
    s.writeMem a bs = { s with mem := (s.writeMem a bs).mem } := s.writeLines_clean h _ _ _

theorem State.held_getElem (s : State) (a i : Nat) (bs : List Byte) (h : i < bs.length) :
    (s.held a bs)[i]'(by simpa using h) ^^^ s.orderMask (a + i) = bs[i] := by
  unfold State.held State.orderMask
  split
  · simp
  · simp

theorem State.readByte_writeLine (h : s.poison = []) (a i : Nat) (bs : List Byte) (hi : i < bs.length) :
    (s.writeLine a bs).readByte (a + i) = bs[i] := by
  have hread := Map.get_putBytes_inside s.mem a i (s.held a bs) (by simpa using hi)
  have hclean : ({ s with mem := Map.putBytes s.mem a (s.held a bs) } : State).poisoned ((a + i) / 64) = false :=
    State.poisoned_of_clean h _
  rw [State.writeLine_clean h, State.readByte, if_neg (by simp [hclean]), hread]
  exact s.held_getElem a i bs hi

theorem State.readByte_writeLines (h : s.poison = []) (n a i : Nat) (bs : List Byte) (hi : i < bs.length) (hn : bs.length + a % 64 ≤ 64 * n) :
    (s.writeLines n a bs).readByte (a + i) = bs[i] := by
  induction n generalizing s a bs i with
  | zero => omega
  | succ n ih =>
    cases bs with
    | nil => simp at hi
    | cons b r =>
      rw [State.writeLines]
      · generalize b :: r = bs at hi hn
        by_cases hk : i < 64 - a % 64
        · rw [State.writeLines_frame _ _ _ _ _ (by omega), State.readByte_writeLine h a i _ (by simp; omega), List.getElem_take]
        · have hrest := ih (s := s.writeLine a (bs.take (64 - a % 64))) (by rw [State.writeLine_clean h]; exact h) (a + (64 - a % 64))
            (i - (64 - a % 64)) (bs.drop (64 - a % 64)) (by rw [List.length_drop]; omega) (by rw [List.length_drop]; omega)
          rw [show a + i = a + (64 - a % 64) + (i - (64 - a % 64)) by omega, hrest, List.getElem_drop]
          congr 1
          omega
      · simp

theorem State.readByte_writeMem (h : s.poison = []) (a i : Nat) (bs : List Byte) (hi : i < bs.length) :
    (s.writeMem a bs).readByte (a + i) = bs[i] := s.readByte_writeLines h _ _ _ _ hi (by omega)

/-- Bytes that read one by one as listed read as the list. -/
theorem State.readMem_of_readByte (s : State) (a : Nat) (bs : List Byte) (h : ∀ i (hi : i < bs.length), s.readByte (a + i) = bs[i]) :
    s.readMem a bs.length = bs := by
  induction bs generalizing a with
  | nil => rfl
  | cons b r ih =>
    rw [List.length_cons, State.readMem]
    refine congrArg₂ _ (h 0 (by simp)) (ih (a + 1) fun i hi => ?_)
    rw [Nat.add_assoc, Nat.add_comm 1 i]
    exact h (i + 1) (by simpa using hi)

/-- A range reads by its bytes. -/
theorem State.readMem_congr (h : ∀ a, t.readByte a = s.readByte a) (a n : Nat) : t.readMem a n = s.readMem a n := by
  induction n generalizing a with
  | zero => rfl
  | succ n ih => rw [State.readMem, State.readMem, h, ih]

end Sys2Proof.Machine
end

section
/-! SUPPORT. DMA channels (R357 to R364): requests, fetches, and a linear transfer from the host to DRAM. -/

namespace Sys2Proof.Machine

variable {s t u : State} {evs : List (Nat × Nat)} {keys hids : List Nat} {c n code : Nat} {d : Desc} {x : Dma} {m : Master}

@[simp] theorem State.dma_setDma_same (s : State) (c : Nat) (x : Dma) : (s.setDma c x).dma c = x := Map.get_put_same ..

/-! ### Requests -/

/-- A wake while PLL-A runs (R450) starts a transition to P0, or keeps to P0. -/
theorem Effect.wake {cause : Nat} (h : Effect s t [] keys hids) (hplla : t.reg O.pllaState ≠ 0) (hk : O.pwrWakes.key 0 0 ∈ keys)
    (hdwell : hkey H.dwelling ∈ hids) (hnext : hkey H.pwrNext ∈ hids) (hcause : hkey H.pwrCause ∈ hids) :
    Effect s (t.wake cause) [] keys hids := by
  have hkeep : ((((t.setHidden H.dwelling 1).bumpSat O.pwrWakes).setHidden H.pwrNext 1).setHidden H.pwrCause cause).reg O.pllaState ≠ 0 := by
    rw [State.reg_setHidden, State.reg_setHidden, State.bumpSat, State.reg_setReg_ne _ _ _ _ _ _ _ _ (by decide)]
    exact hplla
  simp only [State.wake, State.pwrTo]
  split_ifs with hstay hoff
  · exact h.setHidden hdwell
  · exact absurd hoff.2 hkeep
  · exact (((h.setHidden hdwell).setReg hk).setHidden hnext).setHidden hcause

/-- A wake writes none of the objects of a later index than PLL-A's but `PWR_WAKES` and `PHASE_REMAIN`. -/
theorem State.reg_wake {q : Row} {i : Nat} (s : State) (cause : Nat)
    (hq : ∀ k ∈ [O.pwrWakes.key 0 0, O.pllaState.key 0 0, O.phaseRemain.key 0 0, mergedKey], q.key i 0 ≠ k) :
    (s.wake cause).reg q i = s.reg q i := by
  simp only [List.forall_mem_cons, List.not_mem_nil, false_implies, implies_true, and_true] at hq
  obtain ⟨hwakes, hplla, hphase, hmerged⟩ := hq
  have hshow (v : State) : v.clkoutShow.reg q i = v.reg q i := by
    unfold State.clkoutShow
    dsimp only
    split_ifs <;> rfl
  have hstop (v : State) : (v.pllaStop false).reg q i = v.reg q i := by
    unfold State.pllaStop
    dsimp only
    split_ifs
    all_goals simp only [State.reg_raise_ne _ _ _ _ _ _ hmerged, hshow, State.reg_setReg_ne _ _ _ _ _ _ _ _ hphase, State.reg_setHidden,
      State.reg_setReg_ne _ _ _ _ _ _ _ _ hplla]
  simp only [State.wake, State.pwrTo]
  split_ifs <;> simp only [hstop, State.reg_setHidden, State.bumpSat, State.reg_setReg_ne _ _ _ _ _ _ _ _ hwakes]

/-- Two states agree but for objects, hidden scalars, raises, and what left the device. -/
def Aired (s t : State) : Prop := t = { s with regs := t.regs, hid := t.hid, raises := t.raises, out := t.out }

theorem Aired.dmas (h : Aired s t) : t.dmas = s.dmas := by
  have hd := congrArg State.dmas h
  exact hd

theorem Aired.refl : Aired s s := rfl

theorem Aired.trans (h : Aired s t) (h' : Aired t u) : Aired s u := by
  unfold Aired at h' ⊢
  rw [h', h]

theorem Aired.raise {e d : Nat} (h : Aired s t) : Aired s (t.raise e d) := h.trans (by rw [State.raise_eq]; rfl)

theorem Aired.ite {p : Prop} [Decidable p] (h : Aired s t) (h' : Aired s u) : Aired s (if p then t else u) := by
  split_ifs
  · exact h
  · exact h'

theorem Quiet.aired (h : Quiet s t) : Aired s t := by
  unfold Aired
  rw [h]

theorem Aired.clkoutShow (h : Aired s t) : Aired s t.clkoutShow := Aired.ite h (h.trans rfl)

theorem Aired.pllaStop {b : Bool} (h : Aired s t) : Aired s (t.pllaStop b) := by
  have hshow {v : Nat} : Aired s ((((t.setReg O.pllaState v).setHidden H.restarting 1).setHidden H.frootOld
    (t.reg O.frootActual)).setReg O.phaseRemain 0).clkoutShow := Aired.clkoutShow (h.trans rfl)
  exact Aired.ite hshow hshow.raise

theorem Aired.pwrTo {st cause : Nat} (h : Aired s t) : Aired s (t.pwrTo st cause) :=
  Aired.ite (Aired.pllaStop (h.trans rfl)) (h.trans rfl)

/-- What a wake changes: objects, hidden scalars, raises, and what left the device. -/
theorem Aired.wake {cause : Nat} (h : Aired s t) : Aired s (t.wake cause) :=
  Aired.ite (h.trans rfl) (Aired.pwrTo (h.trans rfl))

end Sys2Proof.Machine
end

section
/-! SUPPORT. DMA channels (R357 to R364): what each command leaves. -/

namespace Sys2Proof.Machine

variable {s t u : State} {evs : List (Nat × Nat)} {keys hids : List Nat} {c n code : Nat} {d : Desc} {x : Dma} {m : Master}

/-- The state in which a started channel waits for its first descriptor (R357). -/
def State.dmaStarted (s : State) (c v : Nat) : State :=
  ((s.setDma c { fetch := some (v / 16 * 16) }).setReg O.dmaState 1 c).setReg O.dmaCur (v / 16 * 16) c

theorem exec_dmaStart {ch : Fin 64} {v : Nat} (h : Owner s m) (hv : v < 2 ^ 64) (hc : O.dmaStart.checks (v &&& O.dmaStart.mask) = true)
    (hen : s.plan O.dmaEnable ch.val ≠ 0) (hidle : s.reg O.dmaState ch.val ≠ 1) :
    exec (.dmaStart m ch v) s =
      .next { (s.dmaStarted ch.val v).wake 3 with out := replied ((s.dmaStarted ch.val v).wake 3) m } := by
  refine State.command_ok h rfl hv hc ?_
  rw [actDmaStart, if_neg hen, if_neg hidle]
  rfl

theorem State.reg_wake_dma {q : Row} (s : State) (cause : Nat) (hq : q.sub % 256 = 0x10 ∨ q.sub % 256 = 0x11 := by decide) :
    (s.wake cause).reg q c = s.reg q c := by
  refine s.reg_wake cause ?_
  simp only [List.forall_mem_cons, List.not_mem_nil, false_implies, implies_true, and_true]
  have hsub {r : Row} (hr : r.sub % 256 < 0x10) : q.key c 0 ≠ r.key 0 0 := key_ne_of_sub (by omega)
  exact ⟨hsub (by decide), hsub (by decide), hsub (by decide), hsub (by decide)⟩

theorem State.dmaStarted_shown (s : State) (c v : Nat) :
    ((s.dmaStarted c v).wake 3).reg O.dmaState c = 1 ∧ ((s.dmaStarted c v).wake 3).reg O.dmaCur c = v / 16 * 16 := by
  rw [State.reg_wake_dma, State.reg_wake_dma, State.dmaStarted, State.reg_setReg_ne _ _ _ _ _ _ _ _ (key_ne_of_sub (by decide)),
    State.reg_setReg_same, State.reg_setReg_same]
  exact ⟨rfl, rfl⟩

theorem State.dmaStarted_dma (s : State) (c v : Nat) : ((s.dmaStarted c v).wake 3).dma c = { fetch := some (v / 16 * 16) } := by
  rw [State.dma, ((Aired.refl (s := s.dmaStarted c v)).wake (cause := 3)).dmas]
  exact State.dma_setDma_same s c { fetch := some (v / 16 * 16) }

/-- The answer of a request that has been served comes last. -/
theorem replied_head (h : m ≠ .host) : (replied s m).head? = some (.answer m.id 0) := by
  cases m with
  | host => exact absurd rfl h
  | eth n => rfl
  | can => rfl

/-- A request that changes the channel alone. -/
theorem command_setDma {r : Row} {f : Act} (h : Owner s m) (hr : r.host = false) (hw : 1 < 2 ^ r.width) (hc : r.checks (1 &&& r.mask) = true)
    (hf : f s = .ok (s.setDma c x)) : s.command m r 1 f = .next { s.setDma c x with out := replied s m } :=
  State.command_ok h hr hw hc hf

theorem actDmaNudge_parked (h : s.reg O.dmaState c = 2) (hr : (s.dma c).reread = false) : actDmaNudge c 1 s =
    .ok (s.setDma c { s.dma c with reread := true, nudge := false, fetch := some (s.reg O.dmaCur c) }) := by
  simp [actDmaNudge, onlyOne, refuseIf, h, hr]

theorem actDmaNudge_other (h : s.reg O.dmaState c ≠ 2) : actDmaNudge c 1 s = .ok (s.setDma c { s.dma c with nudge := true }) := by
  simp [actDmaNudge, onlyOne, refuseIf, h]

theorem actDmaStop_running (h : s.reg O.dmaState c = 1) : actDmaStop c 1 s = .ok (s.setDma c { s.dma c with stop := true }) := by
  simp [actDmaStop, onlyOne, refuseIf, h]

theorem dma_setDma_out (s : State) (c : Nat) (x : Dma) (o : List Out) : ({ s.setDma c x with out := o } : State).dma c = x :=
  State.dma_setDma_same s c x

theorem dmaOnly_effect (s : State) (c : Nat) (x : Dma) (o : List Out) :
    Effect s { ({ s.setDma c x with out := o } : State) with out := s.out, dmas := s.dmas } [] [] [] :=
  Effect.refl

/-! ### Fetches -/

theorem exec_dmaDescFetch {ch : Fin 64} {a : Nat} {bytes : List Byte} (hf : (s.dma ch.val).fetch = some a) (hd : (s.dma ch.val).desc = none)
    (hr : (s.dma ch.val).reread = false) (ha : bit a 4 = false) : exec (.dmaDescFetch ch bytes) s =
      .next (if (s.setReg O.dmaCur (a / 16 * 16) ch.val).descRefused ch.val (parseDesc bytes)
        then ((s.setReg O.dmaCur (a / 16 * 16) ch.val).writeStatus ch.val 0x8002).dmaHalt ch.val 0x8002
        else (s.setReg O.dmaCur (a / 16 * 16) ch.val).setDma ch.val { s.dma ch.val with fetch := none, desc := some (parseDesc bytes) }) := by
  change execDmaDescFetch ch bytes s = _
  simp only [execDmaDescFetch, hf, hd, hr, ha, Bool.false_eq_true, if_false]
  split_ifs <;> rfl

/-- STATUS written to host memory. -/
theorem State.writeStatus_host (h : bit (s.reg O.dmaCur c) 4 = false) (st : Nat) : s.writeStatus c st =
    ((s.emit (.hostWrite (s.reg O.dmaCur c / 32 * 32 + 30) (leBytes st 2))).setReg O.dmaLastStatus st c).bump O.dmaDoneCount c := by
  simp only [State.writeStatus, h]
  rfl

theorem State.dmaHalt_spec (s : State) (c st : Nat) (h : (s.dma c).leaving = false) :
    (s.dmaHalt c st).reg O.dmaState c = 3 ∧ (s.dmaHalt c st).dma c = {} ∧
    (s.dmaHalt c st).reg O.dmaLastStatus c = s.reg O.dmaLastStatus c := by
  have hdma : ((((s.setDma c {}).setReg O.dmaState 3 c).raise (0x701 + 2 * c) st)).dma c = {} := by
    rw [State.raise_eq]
    exact State.dma_setDma_same s c {}
  rw [State.dmaHalt, h]
  refine ⟨?_, hdma, ?_⟩
  · rw [State.reg_raise_ne _ _ _ _ _ _ (key_ne_of_sub (by decide))]
    exact State.reg_setReg_same ..
  · rw [State.reg_raise_ne _ _ _ _ _ _ (key_ne_of_sub (by decide)), State.reg_setReg_ne _ _ _ _ _ _ _ _ (key_ne_of_sub (by decide))]
    rfl

theorem State.dmaHalt_reg (s : State) {q : Row} (c st : Nat) (hq : 0x11 ≤ q.sub % 256) : (s.dmaHalt c st).reg q c = s.reg q c := by
  have hsub {r : Row} {i : Nat} (hr : r.sub % 256 < 0x11) : q.key c 0 ≠ r.key i 0 := key_ne_of_sub (by omega)
  rw [State.dmaHalt, State.reg_raise_ne _ _ _ _ _ _ (hsub (by decide)), State.reg_setReg_ne _ _ _ _ _ _ _ _ (hsub (by decide))]
  rfl

theorem State.dmaHalt_out (s : State) (c st : Nat) : (s.dmaHalt c st).out = s.out := by
  rw [State.dmaHalt, State.raise_out]
  rfl

theorem State.setDma_readByte (s : State) (c : Nat) (x : Dma) (a : Nat) : (s.setDma c x).readByte a = s.readByte a := rfl

theorem State.dmaHalt_readByte (s : State) (c st a : Nat) : (s.dmaHalt c st).readByte a = s.readByte a := by
  have hraise (u : State) (e v : Nat) : (u.raise e v).readByte a = u.readByte a :=
    State.readByte_congr (State.raise_mem ..) (State.raise_poison ..) (State.hidden_raise ..)
  rw [State.dmaHalt, hraise]
  rfl

theorem Effect.setDma (h : Effect s t evs keys hids) : Effect (s.setDma c x) (t.setDma c x) evs keys hids := by
  have hdmas : t.dmas = s.dmas := by have h := congrArg State.dmas h.1; exact h
  obtain ⟨hrest, hraises, hregs, hhid⟩ := h
  refine ⟨?_, hraises, hregs, hhid⟩
  have ho := congrArg (fun u : State => { u with dmas := Map.put s.dmas {} c x }) hrest
  rw [State.setDma, hdmas]
  exact ho

theorem Effect.dmaHalt {st : Nat} (h : Effect s t evs keys hids) (hleaving : (t.dma c).leaving = false) (hk : O.dmaState.key c 0 ∈ keys)
    (hspan : SpanFree keys) : Effect (s.setDma c {}) (t.dmaHalt c st) (evs ++ [(0x701 + 2 * c, st)]) keys hids := by
  have hset : Effect (s.setDma c {}) ((t.setDma c {}).setReg O.dmaState 3 c) evs keys hids := by
    have h' := h.setDma (c := c) (x := {})
    exact (h'.wrote.setReg hk).effect (by rw [h'.1]; rfl)
  rw [State.dmaHalt, hleaving]
  exact hset.append hspan

/-- A refused descriptor (R359): STATUS 2. -/
theorem State.refused_spec {a : Nat} (ha : bit a 4 = false) :
    ((s.setReg O.dmaCur (a / 16 * 16) c).writeStatus c 0x8002).reg O.dmaCur c = a / 16 * 16 ∧
    ((s.setReg O.dmaCur (a / 16 * 16) c).writeStatus c 0x8002).reg O.dmaLastStatus c = 0x8002 ∧
    ((s.setReg O.dmaCur (a / 16 * 16) c).writeStatus c 0x8002).out = .hostWrite (a / 32 * 32 + 30) (leBytes 0x8002 2) :: s.out ∧
    ((s.setReg O.dmaCur (a / 16 * 16) c).writeStatus c 0x8002).dmas = s.dmas ∧
    Effect { s with out := .hostWrite (a / 32 * 32 + 30) (leBytes 0x8002 2) :: s.out } ((s.setReg O.dmaCur (a / 16 * 16) c).writeStatus c 0x8002) []
      [O.dmaCur.key c 0, O.dmaState.key c 0, O.dmaLastStatus.key c 0, O.dmaDoneCount.key c 0] [] := by
  have hdisj {r q : Row} {i j : Nat} (h : r.sub % 256 ≠ q.sub % 256) : r.key i 0 ≠ q.key j 0 := key_ne_of_sub h
  have hcur : (s.setReg O.dmaCur (a / 16 * 16) c).reg O.dmaCur c = a / 16 * 16 := State.reg_setReg_same ..
  have hbit : bit (a / 16 * 16) 4 = false := by
    simp only [bit, Nat.testBit_eq_decide_div_mod_eq] at ha ⊢
    simpa [show a / 16 * 16 / 2 ^ 4 % 2 = a / 2 ^ 4 % 2 by omega] using ha
  rw [State.writeStatus_host (by rw [hcur]; exact hbit), hcur, show a / 16 * 16 / 32 = a / 32 by omega]
  refine ⟨?_, ?_, rfl, rfl, ?_⟩
  · rw [State.bump, State.reg_setReg_ne _ _ _ _ _ _ _ _ (hdisj (by decide)), State.reg_setReg_ne _ _ _ _ _ _ _ _ (hdisj (by decide)),
      State.reg_emit, hcur]
  · rw [State.bump, State.reg_setReg_ne _ _ _ _ _ _ _ _ (hdisj (by decide)), State.reg_setReg_same]
  · have h : Effect s (((s.setReg O.dmaCur (a / 16 * 16) c).setReg O.dmaLastStatus 0x8002 c).bump O.dmaDoneCount c) []
        [O.dmaCur.key c 0, O.dmaState.key c 0, O.dmaLastStatus.key c 0, O.dmaDoneCount.key c 0] [] :=
      ((Effect.refl.setReg (by simp)).setReg (by simp)).setReg (by simp)
    exact h.withOut _

theorem refusedKeys_spanFree (c : Nat) : SpanFree [O.dmaCur.key c 0, O.dmaState.key c 0, O.dmaLastStatus.key c 0, O.dmaDoneCount.key c 0] :=
  (((spanFree_nil.key (by decide)).key (by decide)).key (by decide)).key (by decide)

/-- The keys that the end of a descriptor writes. -/
def dmaEndKeys (c : Nat) : List Nat := [O.dmaBytes.key c 0, O.dmaLastStatus.key c 0, O.dmaDoneCount.key c 0, O.drPortBytes.key 10 0]

theorem dmaEndKeys_spanFree (c : Nat) : SpanFree (dmaEndKeys c) :=
  ((((spanFree_nil.key (by decide)).key (by decide)).key (by decide)).key (by decide))

theorem dmaErrorKeys_spanFree (c : Nat) : SpanFree (dmaEndKeys c ++ [O.dmaState.key c 0]) :=
  ((((spanFree_nil.key (by decide)).key (by decide)).key (by decide)).key (by decide)).key (by decide)

/-! ### A linear transfer from the host to DRAM -/

/-- Bytes from the host written to DRAM through the port of the DMA channels. -/
def State.landed (s : State) (a : Nat) (l : List Byte) : State := if l = [] then s else (s.writeMem a l).portBytes 10 l.length

theorem State.landed_effect (h : s.poison = []) (a : Nat) (l : List Byte) :
    Effect { s with mem := (s.landed a l).mem } (s.landed a l) [] [O.drPortBytes.key 10 0] [] := by
  unfold State.landed
  split_ifs
  · exact Effect.refl
  · rw [State.writeMem_clean h]
    have hwrite (y : Map Byte) : Effect { s with mem := y } (({ s with mem := y } : State).portBytes 10 l.length) [] [O.drPortBytes.key 10 0] [] :=
      Effect.refl.setReg (by simp)
    exact hwrite _

/-- The landing writes no object of a channel. -/
theorem State.landed_reg (h : s.poison = []) {q : Row} (a : Nat) (l : List Byte) (hq : 0x10 ≤ q.sub % 256) :
    (s.landed a l).reg q c = s.reg q c := by
  have hsub {r : Row} {i : Nat} (hr : r.sub % 256 < 0x10) : q.key c 0 ≠ r.key i 0 := key_ne_of_sub (by omega)
  have hm : q.key c 0 ≠ mergedKey := hsub (by decide)
  have hp : q.key c 0 ≠ O.drPortBytes.key 10 0 := hsub (by decide)
  exact (State.landed_effect h a l).reg (by simp [hm, hp])

theorem State.landed_readByte (s : State) (a j : Nat) (l : List Byte) : (s.landed a l).readByte j = (s.writeMem a l).readByte j := by
  unfold State.landed
  split_ifs with hl
  · rw [hl]
    rfl
  · rfl

/-- The transfer of a descriptor whose bytes are those of the host, in order. -/
def State.transferred (s : State) (c : Nat) (d : Desc) (l : List Byte) : State := (s.landed d.dst l).bump O.dmaBytes c 0 l.length

theorem State.descEnd_linear (hsrc : descSrc d = 0) (hdst : descDst d = 1) (hk : descK d = 0) (hswap : descSwap d = 0)
    (hhswap : descHswap d = false) : s.descEnd c d l.length code l = (s.transferred c d l).descDone c d l.length code := by
  have hbytes : swapData d l = l := by simp [swapData_eq, hhswap, swapAlone, hswap]
  have hside : sideK d true = 0 := by unfold sideK; split_ifs <;> simp [hk]
  have hpieces : sidePieces d true l.length = if l = [] then [] else [(d.dst, l.length)] := by
    rw [sidePieces, hside, if_pos rfl, pieces, if_pos rfl]
    simp only [List.length_eq_zero_iff]
  have hwrite (b : List Byte) : s.writeSide 1 ((if l = [] then [] else [(d.dst, l.length)]).map (fun p => (p.1, p.2, false))) l =
      s.landed d.dst l := by
    unfold State.landed
    split_ifs
    · rfl
    · simp [State.writeSide]
  unfold State.descEnd
  simp only [hsrc, hdst, hpieces, hbytes, List.take_length, if_false, Bool.false_eq_true, and_false, zero_ne_one]
  rw [hwrite l]
  rfl

/-- What the end of a linear transfer from the host to DRAM leaves, before what follows it (R358, R362). -/
theorem State.transfer_spec (hpoison : s.poison = []) (hbit : bit (s.reg O.dmaCur c) 4 = false) (hk : descK d = 0) (code : Nat) (l : List Byte) :
    ((s.transferred c d l).descDone c d l.length code).readMem d.dst l.length = l ∧
    (∀ a, (a < d.dst ∨ d.dst + l.length ≤ a) → ((s.transferred c d l).descDone c d l.length code).readByte a = s.readByte a) ∧
    ((s.transferred c d l).descDone c d l.length code).reg O.dmaBytes c = (s.reg O.dmaBytes c + l.length) % 2 ^ O.dmaBytes.width ∧
    ((s.transferred c d l).descDone c d l.length code).reg O.dmaLastStatus c = 0x8000 + code ∧
    ((s.transferred c d l).descDone c d l.length code).reg O.dmaDoneCount c = (s.reg O.dmaDoneCount c + 1) % 2 ^ O.dmaDoneCount.width ∧
    ((s.transferred c d l).descDone c d l.length code).out =
      .hostWrite (s.reg O.dmaCur c / 32 * 32 + 30) (leBytes (0x8000 + code) 2) :: s.out ∧
    ((s.transferred c d l).descDone c d l.length code).dmas = s.dmas ∧
    Effect { s with mem := (s.landed d.dst l).mem, out := ((s.transferred c d l).descDone c d l.length code).out }
      ((s.transferred c d l).descDone c d l.length code)
      (if descNoEvt d then [] else [(0x700 + 2 * c, 0x8000 + code + 65536 * ((s.reg O.dmaDoneCount c + 1) % 2 ^ O.dmaDoneCount.width))])
      (dmaEndKeys c) [] := by
  have hst : statusOf d l.length code = 0x8000 + code := by simp [statusOf, hk, b2n]
  have hdisj {r q : Row} {i j : Nat} (h : r.sub % 256 ≠ q.sub % 256) : r.key i 0 ≠ q.key j 0 := key_ne_of_sub h
  have hmove : Effect { s with mem := (s.landed d.dst l).mem } (s.transferred c d l) [] (dmaEndKeys c) [] :=
    ((State.landed_effect hpoison d.dst l).mono (keys' := dmaEndKeys c) (by simp [dmaEndKeys]) (by simp)).setReg (by simp [dmaEndKeys])
  have hcur : (s.transferred c d l).reg O.dmaCur c = s.reg O.dmaCur c := by
    rw [State.transferred, State.bump, State.reg_setReg_ne _ _ _ _ _ _ _ _ (hdisj (by decide)), State.landed_reg hpoison _ _ (by decide)]
  have hdone : (s.transferred c d l).reg O.dmaDoneCount c = s.reg O.dmaDoneCount c := by
    rw [State.transferred, State.bump, State.reg_setReg_ne _ _ _ _ _ _ _ _ (hdisj (by decide)), State.landed_reg hpoison _ _ (by decide)]
  have hbytes : (s.transferred c d l).reg O.dmaBytes c = (s.reg O.dmaBytes c + l.length) % 2 ^ O.dmaBytes.width := by
    rw [State.transferred, State.bump, State.reg_setReg_same, State.landed_reg hpoison _ _ (by decide)]
  have hout : (s.transferred c d l).out = s.out := by have h := congrArg State.out hmove.1; exact h
  have hdmas : (s.transferred c d l).dmas = s.dmas := by have h := congrArg State.dmas hmove.1; exact h
  have hread (v : State) (hv : v.mem = (s.landed d.dst l).mem ∧ v.poison = (s.landed d.dst l).poison ∧ v.hid = (s.landed d.dst l).hid) (a : Nat) :
      v.readByte a = (s.writeMem d.dst l).readByte a := by
    rw [← State.landed_readByte]
    exact State.readByte_congr hv.1 hv.2.1 (congrArg (Map.get · 0 (H.memOrder * 2 ^ 20 + 0)) hv.2.2)
  have hstatus := State.writeStatus_host (s := s.transferred c d l) (c := c) (by rw [hcur]; exact hbit) (0x8000 + code)
  rw [hcur] at hstatus
  generalize hw : (s.transferred c d l).writeStatus c (0x8000 + code) = w at hstatus
  have hwcount : w.reg O.dmaDoneCount c = (s.reg O.dmaDoneCount c + 1) % 2 ^ O.dmaDoneCount.width := by
    rw [hstatus, State.bump, State.reg_setReg_same, State.reg_setReg_ne _ _ _ _ _ _ _ _ (hdisj (by decide)), State.reg_emit, hdone]
  have hwbytes : w.reg O.dmaBytes c = (s.reg O.dmaBytes c + l.length) % 2 ^ O.dmaBytes.width := by
    rw [hstatus, State.bump, State.reg_setReg_ne _ _ _ _ _ _ _ _ (hdisj (by decide)),
      State.reg_setReg_ne _ _ _ _ _ _ _ _ (hdisj (by decide)), State.reg_emit, hbytes]
  have hwout : w.out = .hostWrite (s.reg O.dmaCur c / 32 * 32 + 30) (leBytes (0x8000 + code) 2) :: s.out := by
    rw [hstatus, ← hout]
    rfl
  have hweff : Effect { s with mem := (s.landed d.dst l).mem, out := w.out } w [] (dmaEndKeys c) [] := by
    have hnext : Effect { s with mem := (s.landed d.dst l).mem } (((s.transferred c d l).setReg O.dmaLastStatus (0x8000 + code) c).bump O.dmaDoneCount c)
        [] (dmaEndKeys c) [] := (hmove.setReg (by simp [dmaEndKeys])).setReg (by simp [dmaEndKeys])
    have heff := hnext.withOut w.out
    rw [hstatus] at heff ⊢
    exact heff
  have hwmem : w.mem = (s.landed d.dst l).mem ∧ w.poison = (s.landed d.dst l).poison ∧ w.hid = (s.landed d.dst l).hid ∧ w.dmas = s.dmas := by
    rw [hstatus]
    exact ⟨rfl, rfl, rfl, hdmas⟩
  obtain ⟨hmem, hpois, hhid, hwdmas⟩ := hwmem
  have hend : (s.transferred c d l).descDone c d l.length code =
      if descNoEvt d then w else w.raise (0x700 + 2 * c) (0x8000 + code + 65536 * w.reg O.dmaDoneCount c) := by
    rw [State.descDone_eq, hst, hw]
  have hwlast : w.reg O.dmaLastStatus c = 0x8000 + code := by
    rw [hstatus, State.bump, State.reg_setReg_ne _ _ _ _ _ _ _ _ (hdisj (by decide)), State.reg_setReg_same]
  have hseen (a : Nat) : ((s.transferred c d l).descDone c d l.length code).readByte a = (s.writeMem d.dst l).readByte a := by
    rw [hend]
    refine hread _ ?_ a
    split_ifs
    · exact ⟨hmem, hpois, hhid⟩
    · rw [State.raise_mem, State.raise_poison, State.raise_hid]
      exact ⟨hmem, hpois, hhid⟩
  refine ⟨?_, ?_, ?_⟩
  · exact State.readMem_of_readByte _ _ _ fun i hi => (hseen _).trans (State.readByte_writeMem hpoison _ _ _ hi)
  · exact fun a ha => (hseen a).trans (State.writeMem_frame _ _ _ _ ha)
  · rw [hend, hwcount]
    split_ifs
    · exact ⟨hwbytes, hwlast, hwcount, hwout, hwdmas, hweff⟩
    · rw [State.reg_raise_ne _ _ _ _ _ _ (hdisj (by decide)), State.reg_raise_ne _ _ _ _ _ _ (hdisj (by decide)),
        State.reg_raise_ne _ _ _ _ _ _ (hdisj (by decide)), State.raise_out, State.raise_dmas]
      exact ⟨hwbytes, hwlast, hwcount, hwout, hwdmas, hweff.append (dmaEndKeys_spanFree c)⟩

/-- A descriptor that a stop ends (R362). -/
theorem exec_dmaDescEnd_stopped {ch : Fin 64} {moved : Nat} {l : List Byte} (hd : (t.dma ch.val).desc = some d) (hs : (t.dma ch.val).stop = true) :
    exec (.dmaDescEnd ch moved l) t = .next ((t.descEnd ch.val d (min d.count ((moved + 63) / 64 * 64)) 4 l).dmaHalt ch.val
      ((t.descEnd ch.val d (min d.count ((moved + 63) / 64 * 64)) 4 l).reg O.dmaLastStatus ch.val)) := by
  change execDmaDescEnd ch moved l t = _
  simp [execDmaDescEnd, hd, hs]

/-- A descriptor that ends whole (R362). -/
theorem exec_dmaDescEnd_whole {ch : Fin 64} {moved : Nat} {l : List Byte} (hd : (s.dma ch.val).desc = some d) (hs : (s.dma ch.val).stop = false) :
    exec (.dmaDescEnd ch moved l) s = .next ((s.descEnd ch.val d d.count 0 l).dmaNext ch.val d) := by
  change execDmaDescEnd ch moved l s = _
  simp only [execDmaDescEnd, hd, hs]
  rfl

theorem exec_dmaHostError {ch : Fin 64} {l : List Byte} (hd : (s.dma ch.val).desc = some d) (hsrc : descSrc d = 0) :
    exec (.dmaHostError ch l) s = .next ((s.descEnd ch.val d (min d.count l.length) 3 l).dmaHalt ch.val
      ((s.descEnd ch.val d (min d.count l.length) 3 l).reg O.dmaLastStatus ch.val)) := by
  change execDmaHostError ch l s = _
  simp only [execDmaHostError, hd]
  rw [if_neg (by omega)]

/-- The chain follows NEXT (R357). -/
theorem State.dmaNext_link (hleaving : (s.dma c).leaving = false) (hlink : descLink d = true) :
    s.dmaNext c d = s.setDma c { s.dma c with desc := none, fetch := some d.next } := by
  simp only [State.dmaNext, hleaving, hlink, if_true]
  rfl

theorem statusOf_mod (d : Desc) (n : Nat) {code : Nat} (h : code < 16) : statusOf d n code % 16 = code := by
  unfold statusOf
  generalize (descK d != 0 && _) = b
  cases b <;> simp only [b2n] <;> omega

/-! ### A stop while a descriptor is in progress -/

@[simp] theorem State.poisonRead_dmas (s : State) (port line : Nat) : (s.poisonRead port line).dmas = s.dmas := by
  unfold State.poisonRead State.raiseRare
  dsimp only
  split_ifs
  · rw [State.raise_dmas]
    rfl
  · rfl

theorem State.foldl_dmas {α : Type} {f : State → α → State} (hf : ∀ u a, (f u a).dmas = u.dmas) (l : List α) : (l.foldl f s).dmas = s.dmas :=
  l.foldlRecOn f (motive := fun u => u.dmas = s.dmas) rfl fun u hu a _ => (hf u a).trans hu

theorem State.readPort_dmas (s : State) (port a n : Nat) : (s.readPort port a n).2.2.dmas = s.dmas :=
  State.foldl_dmas (fun _ _ => State.poisonRead_dmas _ _ _) _

theorem State.readSide_dmas (s : State) (ps : List (Nat × Nat)) : (s.readSide ps).2.2.dmas = s.dmas := by
  unfold State.readSide
  exact ps.foldlRecOn _ (motive := fun u : List Byte × Bool × State => u.2.2.dmas = s.dmas) rfl
    fun u hu a _ => (State.readPort_dmas _ _ _ _).trans hu

@[simp] theorem State.writeMem_dmas (s : State) (a : Nat) (bs : List Byte) : (s.writeMem a bs).dmas = s.dmas := by
  rw [State.writeMem_eq]
  rfl

theorem State.writeSide_dmas (s : State) (space : Nat) (ps : List (Nat × Nat × Bool)) (b : List Byte) :
    (s.writeSide space ps b).dmas = s.dmas := by
  induction ps generalizing s b with
  | nil => rfl
  | cons p ps ih =>
    rw [State.writeSide, ih]
    split_ifs
    · rfl
    · rfl
    · exact s.writeMem_dmas p.1 (b.take p.2.1)

theorem State.writeStatus_dmas (s : State) (c st : Nat) : (s.writeStatus c st).dmas = s.dmas := by
  unfold State.writeStatus
  dsimp only
  split_ifs
  · exact s.writeMem_dmas (s.reg O.dmaCur c / 32 * 32 + 30) (leBytes st 2)
  · rfl

/-- The end of a descriptor leaves the channels as they are. -/
theorem State.descEnd_dmas (s : State) (c : Nat) (d : Desc) (n code : Nat) (l : List Byte) : (s.descEnd c d n code l).dmas = s.dmas := by
  have hread (p : Prop) [Decidable p] (b : List Byte) (ps : List (Nat × Nat)) :
      (if p then s.readSide ps else (b, false, s)).2.2.dmas = s.dmas := by
    split_ifs
    · exact s.readSide_dmas ps
    · rfl
  unfold State.descEnd
  extract_lets from_ src dst m cut u
  have hu : u.dmas = s.dmas := (State.writeSide_dmas _ _ _ _).trans (hread _ _ _)
  rw [State.descDone_eq]
  split_ifs
  all_goals
    try rw [State.raise_dmas]
    rw [State.writeStatus_dmas]
    exact hu

/-- Settles O39. -/
theorem dmaChannels : Obligations.DmaChannels := by
  unfold Obligations.DmaChannels
  refine ⟨?_, ?_, ?_, ?_, ?_, ?_, ?_, ?_, ?_, ?_⟩
  · intro s m ch v hm hv hc hen hidle hplla
    obtain ⟨hstate, hcur⟩ := s.dmaStarted_shown ch.val v
    have hstarted : Effect (s.setDma ch.val { fetch := some (v / 16 * 16) }) (s.dmaStarted ch.val v) []
        [O.dmaState.key ch.val 0, O.dmaCur.key ch.val 0, O.pwrWakes.key 0 0] [hkey H.dwelling, hkey H.pwrNext, hkey H.pwrCause] :=
      (Effect.refl.setReg (by simp)).setReg (by simp)
    have hon : (s.dmaStarted ch.val v).reg O.pllaState ≠ 0 := by
      rw [State.dmaStarted, State.reg_setReg_ne _ _ _ _ _ _ _ _ (key_ne_of_sub (by decide)),
        State.reg_setReg_ne _ _ _ _ _ _ _ _ (key_ne_of_sub (by decide))]
      exact hplla
    have hwake := hstarted.wake (cause := 3) hon (by simp) (by simp) (by simp) (by simp)
    have hout : ((s.dmaStarted ch.val v).wake 3).out = s.out := by have h := congrArg State.out hwake.1; exact h
    exact ⟨_, exec_dmaStart hm hv hc hen hidle, replied_congr m hout, s.dmaStarted_dma ch.val v, hstate, hcur,
      hwake.over (fun t => { t with out := s.out, dmas := s.dmas }) (fun _ _ _ => rfl) rfl rfl rfl rfl⟩
  · intro s m ch v hm hv hc hen hidle hplla
    obtain ⟨hstate, hcur⟩ := s.dmaStarted_shown ch.val v
    refine ⟨_, exec_dmaStart hm hv hc hen hidle, replied_head, s.dmaStarted_dma ch.val v, hstate, hcur, ?_⟩
    have hrest := (Aired.refl (s := s.dmaStarted ch.val v)).wake (cause := 3)
    have h := congrArg (fun u : State => { u with regs := s.regs, hid := s.hid, raises := s.raises, dmas := s.dmas, out := s.out }) hrest
    exact h
  · intro s m ch hm hstate hreread
    exact ⟨_, command_setDma hm rfl (by decide) (by decide) (actDmaNudge_parked hstate hreread), rfl, dma_setDma_out .., dmaOnly_effect ..⟩
  · intro s m ch hm hstate
    exact ⟨_, command_setDma hm rfl (by decide) (by decide) (actDmaNudge_other hstate), rfl, dma_setDma_out .., dmaOnly_effect ..⟩
  · intro s m ch hm hstate
    exact ⟨_, command_setDma hm rfl (by decide) (by decide) (actDmaStop_running hstate), rfl, dma_setDma_out .., dmaOnly_effect ..⟩
  · intro s m ch d moved data hm hstate hdesc hleaving
    refine ⟨_, command_setDma hm rfl (by decide) (by decide) (actDmaStop_running hstate), rfl, ?_, rfl⟩
    generalize ht : ({ s.setDma ch.val { s.dma ch.val with stop := true } with out := replied s m } : State) = t
    have hx : t.dma ch.val = { s.dma ch.val with stop := true } := by
      rw [← ht]
      exact State.dma_setDma_same s ch.val { s.dma ch.val with stop := true }
    rw [State.thenDoes_of_exec _ (exec_dmaDescEnd_stopped (d := d) (by rw [hx]; exact hdesc) (by rw [hx]))]
    obtain ⟨hst, hdma, hlast⟩ := State.dmaHalt_spec (t.descEnd ch.val d (min d.count ((moved + 63) / 64 * 64)) 4 data) ch.val
      ((t.descEnd ch.val d (min d.count ((moved + 63) / 64 * 64)) 4 data).reg O.dmaLastStatus ch.val)
      (by rw [State.dma, State.descEnd_dmas]; exact (congrArg Dma.leaving hx).trans hleaving)
    rw [hst, hdma, hlast]
    rcases State.descEnd_status t ch.val d (min d.count ((moved + 63) / 64 * 64)) 4 data with h | ⟨h, -⟩
    · rw [h, statusOf_mod _ _ (by decide)]
    · exact absurd h (by decide)
  · intro s ch a bytes hfetch hdesc hreread ha hok
    rw [exec_dmaDescFetch hfetch hdesc hreread ha, hok]
    have hcur : Effect (s.setDma ch.val { s.dma ch.val with fetch := none, desc := some (parseDesc bytes) })
        ((s.setReg O.dmaCur (a / 16 * 16) ch.val).setDma ch.val { s.dma ch.val with fetch := none, desc := some (parseDesc bytes) }) []
        [O.dmaCur.key ch.val 0] [] := Effect.refl.setReg (t := s.setDma ch.val { s.dma ch.val with fetch := none, desc := some (parseDesc bytes) }) (by simp)
    exact ⟨_, rfl, State.reg_setReg_same .., State.dma_setDma_same .., hcur.over (fun t => { t with dmas := s.dmas }) (fun _ _ _ => rfl) rfl rfl rfl rfl⟩
  · intro s ch a bytes hfetch hdesc hreread ha hleaving hrefused
    rw [exec_dmaDescFetch hfetch hdesc hreread ha, if_pos hrefused]
    obtain ⟨hcur, hlast, hout, hdmas, heff⟩ := State.refused_spec (c := ch.val) ha
    obtain ⟨hst, hdma, hkept⟩ := State.dmaHalt_spec (((s.setReg O.dmaCur (a / 16 * 16) ch.val)).writeStatus ch.val 0x8002) ch.val 0x8002
      (by rw [State.dma, hdmas]; exact hleaving)
    refine ⟨_, rfl, ?_, hdma, hst, hkept.trans hlast, ?_, ?_⟩
    · rw [State.dmaHalt_reg _ _ _ (by decide), hcur]
    · rw [State.dmaHalt_out, hout]
    · have hhalt := heff.dmaHalt (st := 0x8002) (by rw [State.dma, hdmas]; exact hleaving) (by simp) (refusedKeys_spanFree ch.val)
      exact hhalt.over (fun t => { t with dmas := s.dmas, out := s.out }) (fun _ _ _ => rfl) rfl rfl rfl rfl
  · intro s ch d data hdesc hsrc hdst hk hswap hhswap hlen hcur hpoison hstop hleaving hlink
    obtain ⟨hread, hframe, hbytes, hlast, hcount, hout, hdmas, heff⟩ := State.transfer_spec (c := ch.val) (d := d) hpoison hcur hk 0 data
    have hdma : ((s.transferred ch.val d data).descDone ch.val d data.length 0).dma ch.val = s.dma ch.val := by rw [State.dma, hdmas]; rfl
    have hexec := exec_dmaDescEnd_whole (moved := 0) (l := data) hdesc hstop
    rw [← hlen, State.descEnd_linear hsrc hdst hk hswap hhswap, State.dmaNext_link (by rw [hdma]; exact hleaving) hlink, hdma] at hexec
    generalize (s.transferred ch.val d data).descDone ch.val d data.length 0 = w at *
    rw [hlen] at hread hframe hbytes
    refine ⟨_, hexec, ?_, hframe, hbytes, hlast, hcount, hout, State.dma_setDma_same .., ?_⟩
    · rw [State.readMem_congr (State.setDma_readByte _ _ _), hread]
    · exact heff.over (fun t => { t with dmas := s.dmas, mem := s.mem, out := s.out }) (fun _ _ _ => rfl) rfl rfl rfl rfl
  · intro s ch d data hdesc hsrc hdst hk hswap hhswap hlen hcur hpoison hleaving
    obtain ⟨hread, hframe, hbytes, hlast, hcount, hout, hdmas, heff⟩ := State.transfer_spec (c := ch.val) (d := d) hpoison hcur hk 3 data
    have hdma : ((s.transferred ch.val d data).descDone ch.val d data.length 3).dma ch.val = s.dma ch.val := by rw [State.dma, hdmas]; rfl
    have hexec := exec_dmaHostError (l := data) hdesc hsrc
    rw [← hlen, Nat.min_self, State.descEnd_linear hsrc hdst hk hswap hhswap, hlast] at hexec
    generalize (s.transferred ch.val d data).descDone ch.val d data.length 3 = w at *
    rw [hlen] at hread hframe hbytes
    have hstays : (w.dma ch.val).leaving = false := by rw [hdma]; exact hleaving
    obtain ⟨hst, hnone, hkept⟩ := State.dmaHalt_spec _ ch.val (0x8000 + 3) hstays
    have hhalt := (heff.mono (keys' := dmaEndKeys ch.val ++ [O.dmaState.key ch.val 0]) (hids' := []) (by simp +contextual) (by simp)).dmaHalt
      (st := 0x8000 + 3) hstays (by simp) (dmaErrorKeys_spanFree ch.val)
    refine ⟨_, hexec, ?_, ?_, ?_, hkept.trans hlast, ?_, ?_, hnone, hst, ?_⟩
    · rw [State.readMem_congr (State.dmaHalt_readByte _ _ _), hread]
    · exact fun a ha => (State.dmaHalt_readByte ..).trans (hframe a ha)
    · rw [State.dmaHalt_reg _ _ _ (by decide), hbytes]
    · rw [State.dmaHalt_reg _ _ _ (by decide), hcount]
    · rw [State.dmaHalt_out, hout]
    · exact hhalt.over (fun t => { t with dmas := s.dmas, mem := s.mem, out := s.out }) (fun _ _ _ => rfl) rfl rfl rfl rfl

end Sys2Proof.Machine
end

section
/-! SUPPORT. Counter channels (R237 to R258): edges, decimation, tags, and the loupe's calibration. -/

namespace Sys2Proof.Machine

variable {s t u : State} {evs : List (Nat × Nat)} {keys hids : List Nat} {n stop code : Nat} {rising : Bool}

/-! ### A channel's state -/

@[simp] theorem State.chan_setChan_same (s : State) (n : Nat) (x : Chan) : (s.setChan n x).chan n = x := Map.get_put_same ..
@[simp] theorem State.chan_setReg (s : State) (r : Row) (v i j n : Nat) : (s.setReg r v i j).chan n = s.chan n := rfl
@[simp] theorem State.chan_raise (s : State) (e d n : Nat) : (s.raise e d).chan n = s.chan n := by simp [State.chan]
@[simp] theorem State.reg_setChan (s : State) (q : Row) (n : Nat) (x : Chan) (i j : Nat) : (s.setChan n x).reg q i j = s.reg q i j := rfl
@[simp] theorem State.plan_setChan (s : State) (q : Row) (n : Nat) (x : Chan) (i j : Nat) : (s.setChan n x).plan q i j = s.plan q i j := rfl

theorem State.setChan_setChan_same (s : State) (n : Nat) (x y : Chan) : ((s.setChan n x).setChan n y).chan n = y := Map.get_put_same ..

/-! ### Comparators -/

theorem setBit_same {v i : Nat} {b : Bool} (h : v.testBit i = b) : setBit v i b = v := by
  subst h
  cases hb : v.testBit i <;> simp [setBit, hb]

theorem State.raiseRare_reg (s : State) {q : Row} {i j : Nat} (e d : Nat) (h : q.key i j ≠ mergedKey) : (s.raiseRare e d).reg q i j = s.reg q i j :=
  State.reg_raiseRare_ne s e d h

/-- With no generator in use a monitor trips none (R418). -/
theorem State.pgMonitors_idle (l : List Nat) (h : ∀ g ∈ l, s.plan O.pgMode g = 0) (mon : Nat) : l.foldl (fun s g => s.pgMonitor g mon) s = s := by
  induction l with
  | nil => rfl
  | cons g l ih =>
    have hg : s.pgMonitor g mon = s := by
      have h0 := h g List.mem_cons_self
      simp [State.pgMonitor, h0]
    rw [List.foldl_cons, hg]
    exact ih fun k hk => h k (List.mem_cons_of_mem _ hk)

/-- A monitor's change is shown (R415), and with no generator in use that is all. -/
theorem State.wmSet_idle (s : State) (mon : Nat) (up : Bool) (h : (List.range 16).all (fun g => s.plan O.pgMode g == 0) = true) :
    (s.wmSet mon up).reg O.wmState = setBit (s.reg O.wmState) mon up ∧ Quiet s (s.wmSet mon up) ∧
    (∀ n, (s.wmSet mon up).hidden H.comp n = s.hidden H.comp n) ∧
    (∀ (q : Row) (i : Nat), q.key i 0 ≠ O.wmState.key 0 0 → q.key i 0 ≠ mergedKey → (s.wmSet mon up).reg q i = s.reg q i) := by
  have hmodes : ∀ g ∈ List.range 16, s.plan O.pgMode g = 0 := fun g hg => by simpa using List.all_eq_true.mp h g hg
  by_cases hsame : (s.reg O.wmState).testBit mon = up
  · have hw : s.wmSet mon up = s := if_pos hsame
    rw [hw, setBit_same hsame]
    exact ⟨rfl, rfl, fun _ => rfl, fun _ _ _ _ => rfl⟩
  · generalize hv : setBit (s.reg O.wmState) mon up = v
    generalize hu : (if up then (s.setReg O.wmState v).raiseRare 0x7E3 ((s.setReg O.wmState v).reg O.wmState) else s.setReg O.wmState v) = u
    have hquiet : Quiet s u := by
      rw [← hu]
      exact Quiet.ite (Quiet.trans (t := s.setReg O.wmState v) rfl (State.raiseRare_quiet _ _ _)) rfl
    have hplan : ∀ g ∈ List.range 16, u.plan O.pgMode g = 0 := by
      rw [hquiet]
      exact hmodes
    have hw : s.wmSet mon up = u := by
      rw [State.wmSet, if_neg hsame]
      dsimp only
      rw [hv, hu, State.pgMonitors_idle _ hplan]
    rw [hw]
    refine ⟨?_, hquiet, fun n => ?_, fun q i hw hm => ?_⟩
    · rw [← hu]
      split_ifs
      · rw [State.raiseRare_reg _ _ _ (by decide), State.reg_setReg_same]
      · exact State.reg_setReg_same ..
    · rw [← hu]
      split_ifs
      · unfold State.raiseRare
        dsimp only
        split_ifs
        · rw [State.hidden_raise, State.hidden_setHidden_ne _ _ _ _ _ _ (by simp [H.comp, H.rare]; omega)]
          rfl
        · rw [State.hidden_setHidden_ne _ _ _ _ _ _ (by simp [H.comp, H.rare]; omega)]
          rfl
      · rfl
    · rw [← hu]
      split_ifs
      · rw [State.raiseRare_reg _ _ _ hm, State.reg_setReg_ne _ _ _ _ _ _ _ _ hw]
      · exact State.reg_setReg_ne _ _ _ _ _ _ _ _ hw

/-! ### Edges -/

/-- A counted edge enters the count and the decision window (R244, R246). -/
def Chan.counted (c : Chan) (cycle : Nat) : Chan := { c with inWindow := c.inWindow + 1, lastStop := cycle + 1 }

theorem State.changeK_none (h : (s.chan n).pendK = none) : s.changeK n = s := by
  simp only [State.changeK, h]

/-- The state after an edge was counted, no exponent pending. -/
def State.edgeCounted (s : State) (n stop : Nat) : State :=
  (s.bump O.ticCount n).setChan n ((s.chan n).counted (s.idx / 8 + stop))

theorem State.countOne_eq (h : (s.chan n).pendK = none) : s.countOne n stop = s.edgeCounted n stop := by
  have hpend : ((s.edgeCounted n stop).chan n).pendK = none := by
    rw [State.edgeCounted, State.chan_setChan_same]
    exact h
  exact State.changeK_none hpend

theorem State.edgeCounted_count (s : State) (n stop : Nat) :
    (s.edgeCounted n stop).reg O.ticCount n = (s.reg O.ticCount n + 1) % 2 ^ O.ticCount.width := State.reg_setReg_same ..

theorem State.edgeCounted_reg (s : State) {q : Row} (n stop : Nat) (h : q.sub % 256 ≠ O.ticCount.sub % 256) :
    (s.edgeCounted n stop).reg q n = s.reg q n := State.reg_setReg_ne _ _ _ _ _ _ _ _ (key_ne_of_sub h)

@[simp] theorem State.edgeCounted_chan (s : State) (n stop : Nat) :
    (s.edgeCounted n stop).chan n = (s.chan n).counted (s.idx / 8 + stop) := State.chan_setChan_same ..

/-- An edge of a channel that runs and counts another source than TIN (R237, R242). -/
theorem exec_tinEdge_tap {ch : Fin 8} {up : Bool} {stop : Fin 4} {code : BitVec 12} (hon : bit (s.reg O.pwrDomainOn) 32 = true)
    (hsrc : s.plan O.ticSrc ch.val ≠ 0) (hrun : s.reg O.ticState ch.val = 1) (hcounts : countsEdge (s.plan O.ticPolarity ch.val) up = true)
    (hpend : (s.chan ch.val).pendK = none) : exec (.tinEdge ch true up stop code) s =
      .next (if (s.reg O.ticCount ch.val + 1) % 2 ^ O.ticCount.width % 2 ^ s.reg O.ticK ch.val = 0
        then (s.edgeCounted ch.val stop.val).tagEdge ch.val up stop.val code.toNat else s.edgeCounted ch.val stop.val) := by
  have hheld : s.heldOff ch.val stop.val = false := by simp [State.heldOff, hsrc]
  have hdue : (s.edgeCounted ch.val stop.val).edgeDue ch.val =
      ((s.reg O.ticCount ch.val + 1) % 2 ^ O.ticCount.width % 2 ^ s.reg O.ticK ch.val == 0) := by
    rw [State.edgeDue, State.edgeCounted_count, State.edgeCounted_reg _ _ _ (by decide)]
  change execTinEdge ch true up stop code s = _
  simp only [execTinEdge, hon, hsrc, State.sourceEdge, hrun, hheld, hcounts, State.countEdge, State.countOne_eq hpend, hdue, beq_iff_eq,
    Bool.not_true, Bool.false_eq_true, if_true, if_false]

/-! ### Tags -/

theorem tagFlags_bit (ticks ch : Nat) (up : Bool) (k flags seq : Nat) :
    tagFlags (tagRecord ticks ch up k flags seq) &&& TG.pairMerge = flags &&& TG.pairMerge := by
  have hone (v : Nat) : v &&& 1 = v % 2 := Nat.and_one_is_mod v
  simp only [tagFlags, tagRecord, bits, TG.pairMerge, hone, Nat.shiftRight_eq_div_pow]
  omega

/-- A channel whose edge was stamped (R243). -/
def Chan.tagged (c : Chan) (ip pos : Nat) : Chan := { c with turn := c.turn.drop 1 ++ [ip], lastTag := pos + 1 }

/-- A channel whose empty queue took a record (R251). -/
def Chan.queued (c : Chan) (idx size : Nat) (q : QTag) : Chan :=
  { c with drainFrom := idx, drained := 0, queue := [q], marks := 0, ringNext := if size = 0 then 0 else (c.ringNext + 16) % size }

/-- The record of a channel as its queue holds it. -/
def State.qtag (s : State) (n r : Nat) (c : Chan) : QTag :=
  { tag := r, rate := s.plan O.ticDeclRate n, base := s.plan O.ticRingBase n, size := s.plan O.ticRingSize n, off := c.ringNext, run := c.ringRun }

theorem State.queueTag_empty {r : Nat} (hq : (s.chan n).queue = []) (hflag : tagFlags r &&& TG.pairMerge = 0) : s.queueTag n r =
    ((s.setChan n ((s.chan n).queued s.idx (s.plan O.ticRingSize n) (s.qtag n r (s.chan n)))).setReg O.ticQueueFill 1 n).bump O.ticRecords n := by
  have hdrain : s.drainTags n = s := by simp only [State.drainTags, hq]
  unfold State.queueTag
  simp only [hdrain, hq, hflag, List.length_nil, List.isEmpty_nil, if_true, List.nil_append]
  rfl

/-- The tag record of an edge (R242, Table 11.3). -/
def State.edgeRecord (s : State) (n ip : Nat) (up : Bool) (stop code count marks : Nat) : Nat :=
  tagRecord (s.tagTime n ip stop code) n up (s.reg O.ticK n)
    (marks ||| flagIf s.clkUnqual TG.clkUnqual ||| flagIf s.timeUnset TG.timeUnset) count

theorem edgeRecord_flag {ip count marks : Nat} (h : marks &&& TG.pairMerge = 0) :
    tagFlags (s.edgeRecord n ip rising stop code count marks) &&& TG.pairMerge = 0 := by
  have hclk (b : Bool) : flagIf b TG.clkUnqual &&& TG.pairMerge = 0 := by cases b <;> rfl
  have htime (b : Bool) : flagIf b TG.timeUnset &&& TG.pairMerge = 0 := by cases b <;> rfl
  rw [State.edgeRecord, tagFlags_bit, Nat.and_or_distrib_right, Nat.and_or_distrib_right, h, hclk, htime]
  rfl

theorem State.tagEdge_merged (h : taggable (s.chan n) (s.edgePos n ((s.chan n).turn.headD 0) stop code) = false) :
    s.tagEdge n rising stop code = s.mergeEdge n := by
  simp only [State.tagEdge, h]
  rfl

theorem State.tagEdge_tagged (h : taggable (s.chan n) (s.edgePos n ((s.chan n).turn.headD 0) stop code) = true) :
    s.tagEdge n rising stop code =
      (s.setChan n ((s.chan n).tagged ((s.chan n).turn.headD 0) (s.edgePos n ((s.chan n).turn.headD 0) stop code))).queueTag n
        (s.edgeRecord n ((s.chan n).turn.headD 0) rising stop code (s.reg O.ticCount n) (s.chan n).marks) := by
  unfold State.tagEdge
  dsimp only
  rw [if_pos h, Chan.tagged, State.edgeRecord]

/-! ### Edges read the plan, the time and the tables, not the count -/

/-- The objects of PLL-A, of time and of the time counter lie before those of the counter channels. -/
theorem State.edgeCounted_reg_time (s : State) {q : Row} (n stop : Nat) (h : q.idx + q.ist * 0 < 0x2801 ∧ q.sub < 256) :
    (s.edgeCounted n stop).reg q = s.reg q :=
  State.reg_setReg_ne _ _ _ _ _ _ _ _ (key_ne_of_idx h.2 (by decide) (by
    have hidx : O.ticCount.idx = 0x2801 := rfl
    omega))

theorem State.edgeCounted_froot (s : State) (n stop : Nat) : (s.edgeCounted n stop).froot = s.froot := by
  unfold State.froot
  rw [State.edgeCounted_reg_time _ _ _ (by decide)]

theorem State.edgeCounted_loupe (s : State) (n m k ip code : Nat) : (s.edgeCounted n m).loupe k ip code = s.loupe k ip code := rfl

theorem State.edgeCounted_edgePos (s : State) (n m ip stop code : Nat) : (s.edgeCounted n m).edgePos n ip stop code = s.edgePos n ip stop code := by
  have hidx : (s.edgeCounted n m).idx = s.idx := rfl
  simp only [State.edgePos, State.edgeCounted_froot, State.edgeCounted_loupe, hidx]

theorem State.edgeCounted_tagTime (s : State) (n m ip stop code : Nat) : (s.edgeCounted n m).tagTime n ip stop code = s.tagTime n ip stop code := by
  have hinc : (s.edgeCounted n m).inc = s.inc := by
    unfold State.inc
    rw [State.edgeCounted_reg_time _ _ _ (by decide), State.edgeCounted_reg_time _ _ _ (by decide)]
  have htc : (s.edgeCounted n m).tc = s.tc := rfl
  have hlat : (s.edgeCounted n m).hidden H.tagLat (8 * n + (s.edgeCounted n m).plan O.ticSrc n) = s.hidden H.tagLat (8 * n + s.plan O.ticSrc n) := rfl
  simp only [State.tagTime, State.incNom, State.edgeCounted_froot, State.edgeCounted_loupe, hinc, htc, hlat]

theorem State.edgeCounted_edgeRecord (s : State) (n m ip stop code count marks : Nat) (up : Bool) :
    (s.edgeCounted n m).edgeRecord n ip up stop code count marks = s.edgeRecord n ip up stop code count marks := by
  have hclk : (s.edgeCounted n m).clkUnqual = s.clkUnqual := by
    unfold State.clkUnqual
    rw [State.edgeCounted_reg_time _ _ _ (by decide)]
  have htime : (s.edgeCounted n m).timeUnset = s.timeUnset := by
    unfold State.timeUnset
    rw [State.edgeCounted_reg_time _ _ _ (by decide)]
  simp only [State.edgeRecord, State.edgeCounted_tagTime, State.edgeCounted_reg _ _ _ (show O.ticK.sub % 256 ≠ O.ticCount.sub % 256 by decide),
    hclk, htime]

/-- Settles O28. -/
theorem taggedEdges : Obligations.TaggedEdges := by
  unfold Obligations.TaggedEdges
  refine ⟨?_, ?_, ?_, ?_, ?_⟩
  · intro s ch up stop code hon hund hcomp hsrc hmodes
    obtain ⟨hwm, hquiet, hhid, hregs⟩ := (s.setHidden H.comp (b2n up) ch.val).wmSet_idle ch.val up hmodes
    have hstate := hregs O.ticState ch.val (key_ne_of_idx (by decide) (by decide) (by simp only [O.ticState, O.wmState]; omega))
      (key_ne_of_idx (by decide) (by decide) (by simp only [O.ticState, O.evMerged]; omega))
    generalize hu : (s.setHidden H.comp (b2n up) ch.val).wmSet ch.val up = u at hwm hquiet hhid hstate
    have hplan : u.plan O.ticSrc ch.val = s.plan O.ticSrc ch.val := by
      rw [hquiet]
      rfl
    have hexec : exec (.tinEdge ch false up stop code) s = .next u := by
      change execTinEdge ch false up stop code s = _
      simp only [execTinEdge, hon, hund, hcomp, State.compSet, hu, hplan, State.sourceEdge, hstate, State.reg_setHidden, Bool.not_true,
        Bool.false_eq_true, zero_ne_one, if_false]
      rcases hsrc with h | h
      · rw [if_neg h]
      · rw [if_neg h, ite_self]
    refine ⟨u, hexec, (hhid _).trans (State.hidden_setHidden_same ..), hwm, ?_⟩
    have hrest := congrArg (fun v : State => { v with regs := s.regs, hid := s.hid, raises := s.raises }) hquiet
    exact hrest
  · intro s ch up stop code hon hsrc hrun hcounts hpend hdue
    refine ⟨_, exec_tinEdge_tap hon hsrc hrun hcounts hpend, ?_⟩
    rw [if_neg hdue]
    refine ⟨s.edgeCounted_count .., s.edgeCounted_chan .., ?_⟩
    have heff : Effect s (s.bump O.ticCount ch.val) [] [O.ticCount.key ch.val 0] [] := Effect.refl.setReg (by simp)
    exact heff
  · intro s ch up stop code ip l hon hsrc hrun hcounts hpend hdue hturn htag hqueue hmarks
    refine ⟨_, exec_tinEdge_tap hon hsrc hrun hcounts hpend, ?_⟩
    have hhead : ((s.edgeCounted ch.val stop.val).chan ch.val).turn.headD 0 = ip := by
      rw [State.edgeCounted_chan, Chan.counted, hturn]
      rfl
    rw [if_pos hdue, State.tagEdge_tagged (by rw [hhead, State.edgeCounted_edgePos, State.edgeCounted_chan]; exact htag), hhead,
      State.edgeCounted_edgePos, State.edgeCounted_edgeRecord]
    rw [State.queueTag_empty (by rw [State.chan_setChan_same]; simpa [Chan.tagged, Chan.counted] using hqueue)
      (edgeRecord_flag (by simpa [Chan.counted] using hmarks)), State.edgeCounted_count]
    have hchan (x : Chan) : ((s.edgeCounted ch.val stop.val).setChan ch.val x).chan ch.val = x := State.chan_setChan_same ..
    refine ⟨?_, ?_, ?_, ?_, ?_⟩
    · rw [State.bump, State.reg_setReg_ne _ _ _ _ _ _ _ _ (key_ne_of_sub (by decide)),
        State.reg_setReg_ne _ _ _ _ _ _ _ _ (key_ne_of_sub (by decide)), State.reg_setChan, State.reg_setChan, State.edgeCounted_count]
    · rw [State.bump, State.chan_setReg, State.chan_setReg, State.chan_setChan_same, hchan, State.edgeCounted_chan]
      simp only [Chan.queued, Chan.tagged, Chan.counted, State.qtag, hturn, State.edgeRecord]
      rfl
    · rw [State.bump, State.reg_setReg_ne _ _ _ _ _ _ _ _ (key_ne_of_sub (by decide)), State.reg_setReg_same]
    · rw [State.bump, State.reg_setReg_same, State.reg_setReg_ne _ _ _ _ _ _ _ _ (key_ne_of_sub (by decide)), State.reg_setChan,
        State.reg_setChan, State.edgeCounted_reg _ _ _ (by decide)]
    · have heff (v : Nat) : Effect s (((s.bump O.ticCount ch.val).setReg O.ticQueueFill 1 ch.val).setReg O.ticRecords v ch.val) []
          [O.ticCount.key ch.val 0, O.ticQueueFill.key ch.val 0, O.ticRecords.key ch.val 0] [] :=
        ((Effect.refl.setReg (by simp)).setReg (by simp)).setReg (by simp)
      exact heff _
  · intro s ch up stop code ip l hon hsrc hrun hcounts hpend hdue hturn htag
    refine ⟨_, exec_tinEdge_tap hon hsrc hrun hcounts hpend, ?_⟩
    have hhead : ((s.edgeCounted ch.val stop.val).chan ch.val).turn.headD 0 = ip := by
      rw [State.edgeCounted_chan, Chan.counted, hturn]
      rfl
    rw [if_pos hdue, State.tagEdge_merged (by rw [hhead, State.edgeCounted_edgePos, State.edgeCounted_chan]; exact htag)]
    refine ⟨?_, ?_, ?_, ?_⟩
    · rw [State.mergeEdge, State.bumpSat, State.reg_setReg_ne _ _ _ _ _ _ _ _ (key_ne_of_sub (by decide))]
      exact s.edgeCounted_count ch.val stop.val
    · rw [State.mergeEdge, State.bumpSat, State.chan_setReg, State.chan_setChan_same, State.edgeCounted_chan, Chan.counted]
    · rw [State.mergeEdge, State.bumpSat, State.reg_setReg_same]
      exact congrArg (satAdd O.ticMerged.width · 1) (s.edgeCounted_reg ch.val stop.val (by decide))
    · have heff (v : Nat) : Effect s ((s.bump O.ticCount ch.val).setReg O.ticMerged v ch.val) []
          [O.ticCount.key ch.val 0, O.ticMerged.key ch.val 0] [] := (Effect.refl.setReg (by simp)).setReg (by simp)
      exact heff _
  · intro s ch hrun hqueue hmore
    refine ⟨s.setChan ch.val _, ?_, State.chan_setChan_same .., rfl⟩
    change execTicDecisionWindow ch s = _
    unfold execTicDecisionWindow
    simp [hrun, hqueue, hmore]

end Sys2Proof.Machine
end

section
/-! SUPPORT. The replacement of a failed interpolator (R255) while the channel holds a second idle one. -/

namespace Sys2Proof.Machine

/-- Channel 0 with two idle interpolators, 1 and the default 4; its rotation is frozen by the plan. -/
def twoIdle : State where
  regs := [(O.ipState.key 0 1, 1)]
  active := [(O.ticCalMode.key 0 0, 0)]

/-- Refutes O29: its last clause shows TIC_CAL_STATE 3, no spare, whenever the idle interpolator replaces a failed one. Where the
channel has another idle one it still has a spare, and shows 2, frozen. -/
theorem not_loupeCalibration : ¬ Obligations.LoupeCalibration := by
  unfold Obligations.LoupeCalibration
  rintro ⟨-, -, -, -, -, -, hfailure⟩
  obtain ⟨t, ht, -, -, -, hnoSpare, -⟩ := hfailure twoIdle 0 0 1 (by decide +kernel) (by decide +kernel) (by decide +kernel)
  have hfrozen : twoIdle.thenDoes (.ipHardFailure 0 0 none) (fun t => t.reg O.ticCalState) = some 2 := by decide +kernel
  rw [State.thenDoes_of_exec _ ht] at hfrozen
  exact absurd ((Option.some.inj hfrozen).symm.trans hnoSpare) (by decide)

end Sys2Proof.Machine
end

section
/-! SUPPORT. The level of a TIN gate source (R263), which is that of its comparator. -/

namespace Sys2Proof.Machine

/-- Refutes O30: its third clause lets the command's level stand for any gate source. A TIN gate follows its comparator, so with the
comparator of TIN0 deasserted a level of 1 moves nothing. -/
theorem not_measurementSlots : ¬ Obligations.MeasurementSlots := by
  unfold Obligations.MeasurementSlots
  rintro ⟨-, -, hgate, -⟩
  obtain ⟨t, ht, hmoved, -⟩ := hgate {} 0 true 0 (by decide +kernel)
  have hstays : State.thenDoes {} (.msExtGateChange 0 true 0) (fun t => t.hidden H.gateSrc) = some 0 := by decide +kernel
  rw [State.thenDoes_of_exec _ ht] at hstays
  exact absurd ((Option.some.inj hstays).symm.trans hmoved) (by decide)

end Sys2Proof.Machine
end

section
/-! SUPPORT. A raise of an event number that no word of `EV_PENDING` holds (R425, R426). -/

namespace Sys2Proof.Machine

/-- Event 4096 waits, which is beyond the 2048 sources of the dictionary: word 128 of `EV_PENDING` has the key of `EV_RING_SIZE`. The ring's
next entry is its last. -/
def strayRaise : State where
  regs := [(O.evRingSize.key 0 0, 4096), (O.evRoute.key 128 0, 2048)]
  hid := [(hkey H.hostUp, 1), (hkey H.unmasked, 1), (hkey H.ringOff, 4064)]
  raises := [⟨0, 4096, 0, 0⟩]

/-- Refutes O3: its second clause takes a raise of every event number. Of one beyond 2048 the pending bit is written over another
object: here it makes `EV_RING_SIZE` 4097, and the ring does not start again after its last entry. -/
theorem not_eventDelivery : ¬ Obligations.EventDelivery := by
  unfold Obligations.EventDelivery
  rintro ⟨-, hring, -⟩
  obtain ⟨t, ht, -, -, hwraps, -⟩ := hring strayRaise ⟨0, 4096, 0, 0⟩ [] 0 rfl (by decide +kernel) (by decide) (by decide +kernel)
    (by decide +kernel) (by decide +kernel) (by decide +kernel) (by decide +kernel) (by decide +kernel) rfl
  have hgoesOn : strayRaise.thenDoes .eventRaise (fun t => t.hidden H.ringOff) = some 4096 := by decide +kernel
  have hstart : (strayRaise.hidden H.ringOff + 32) % strayRaise.reg O.evRingSize = 0 := by decide +kernel
  rw [State.thenDoes_of_exec _ ht] at hgoesOn
  exact absurd ((Option.some.inj hgoesOn).symm.trans (hwraps.trans hstart)) (by decide)

end Sys2Proof.Machine
end

section
/-! SUPPORT. A counter domain that comes on (R238): its comparators start deasserted, which may trip a generator (R415, R418). -/

namespace Sys2Proof.Machine

/-- A device that is ready, its host connected and the owner, with every domain off in P0. The monitor of TIN0 shows its comparator asserted,
and generator 0 trips when it does not. -/
def trippingComparator : State where
  regs := hostOwns.regs ++ [(O.pwrDomainOn.key 0 0, 0), (O.wmState.key 0 0, 1), (O.pllaState.key 0 0, 2)]
  hid := hostOwns.hid
  active := [(O.pgMode.key 0 0, 1), (O.pgTripMask.key 0 0, 1), (O.pgTripInv.key 0 0, 1),
    (O.pgTripLevel.key 0 0, 1)]

/-- Refutes O10: its first clause lets a change of a floor change registers, hidden state and raises alone. Where the counter's domain comes
on by it, a generator that the comparators' start trips ends its pulses and goes to its trip level. -/
theorem not_powerStates : ¬ Obligations.PowerStates := by
  unfold Obligations.PowerStates
  rintro ⟨hfloor, -⟩
  obtain ⟨t, ht, -, -, -, -, hrest⟩ := hfloor trippingComparator (by decide +kernel)
  have hkept : t.pgs = [] := by have h := congrArg State.pgs hrest; exact h
  have htrips : trippingComparator.thenDoes .pwrFloorChange (fun t => t.pgs.isEmpty) = some false := by decide +kernel
  rw [State.thenDoes_of_exec _ ht, hkept] at htrips
  exact absurd htrips (by decide)

/-- Refutes O11: its first clause leaves out the same trip, where the command switches the counter's domain on. -/
theorem not_powerDomains : ¬ Obligations.PowerDomains := by
  unfold Obligations.PowerDomains
  rintro ⟨hon, -⟩
  obtain ⟨t, ht, -, -, -, hrest⟩ := hon trippingComparator .host 32 (by decide +kernel) (by decide) (by decide)
  have hkept : t.pgs = [] := by have h := congrArg State.pgs hrest; exact h
  have htrips : trippingComparator.thenDoes (.pwrDomainOn .host 32) (fun t => t.pgs.isEmpty) = some false := by decide +kernel
  rw [State.thenDoes_of_exec _ ht, hkept] at htrips
  exact absurd htrips (by decide)

end Sys2Proof.Machine
end

section
/-! SUPPORT. A fitting of a counter's interpolator (R465), which brings the counter's domain on. -/

namespace Sys2Proof.Machine

/-- As before, with interpolator 0 of channel 0 retired. -/
def trippingFit : State := { trippingComparator with hid := trippingComparator.hid ++ [(hkey H.retired (unitKey 4 0 0), 1)] }

/-- Refutes O12: its first clause lets FIT_CMD change no generator. The domain that comes on for the test may trip one. -/
theorem not_serviceAndLedger : ¬ Obligations.ServiceAndLedger := by
  unfold Obligations.ServiceAndLedger
  rintro ⟨hfit, -⟩
  obtain ⟨t, ht, -, -, -, -, -, hrest⟩ := hfit trippingFit .host 4 (by decide +kernel) (by decide) (by decide) (by decide +kernel)
    (by decide +kernel) (by decide +kernel) (by decide +kernel)
  have hkept : t.pgs = [] := by have h := congrArg State.pgs hrest; exact h
  have htrips : trippingFit.thenDoes (.fitCmd .host 4) (fun t => t.pgs.isEmpty) = some false := by decide +kernel
  rw [State.thenDoes_of_exec _ ht, hkept] at htrips
  exact absurd htrips (by decide)

end Sys2Proof.Machine
end

section
/-! SUPPORT. The parameter store at `DICTIONARY_READY` (R36, R487): its LIVE values become the active plan's. -/

namespace Sys2Proof.Machine

/-- An image runs, after a warm reset that kept `PLLC_SRC`. The parameter store holds a slot without a value. -/
def storedParameters : State where
  hid := [(hkey H.boot, 2)]
  active := [(O.pllcSrc.key 0 0, 2)]
  flash := { param := (Vector.replicate 2 {}).set 0 { state := 1 } }

/-- Refutes O47: its clause of DICTIONARY_READY leaves the active plan as it is. Where the parameter store holds a slot, the active plan
becomes the LIVE values of that slot. -/
theorem not_startUp : ¬ Obligations.StartUp := by
  unfold Obligations.StartUp
  rintro ⟨-, -, -, -, -, -, -, hready, -⟩
  obtain ⟨t, ht, -, -, -, hkept, -⟩ := hready storedParameters (by decide +kernel)
  have hloaded : storedParameters.thenDoes .dictionaryReady State.active = some [] := by decide +kernel
  rw [State.thenDoes_of_exec _ ht, hkept] at hloaded
  exact absurd hloaded (by decide)

end Sys2Proof.Machine
end

section
/-! SUPPORT. PTP and ESMC messages sent and forwarded (R311 to R316). -/

namespace Sys2Proof.Machine

variable {s : State} {p : Fin 2}

@[simp] theorem State.ptpPort_setPtp_same (s : State) (n : Nat) (x : PtpPort) : (s.setPtp n x).ptpPort n = x := Map.get_put_same ..

/-- The machine with other ports, and something else on its way out. -/
def State.withPtp (s : State) (m : Map PtpPort) (o : List Out) : State := { s with out := o, ptp := m }

section
variable {m : Map PtpPort} {o : List Out}

@[simp] theorem State.withPtp_self (s : State) : s.withPtp s.ptp s.out = s := rfl
@[simp] theorem State.setPtp_withPtp (s : State) (n : Nat) (x : PtpPort) : (s.setPtp n x).withPtp m o = s.withPtp m o := rfl
@[simp] theorem State.emit_withPtp (s : State) (x : Out) : (s.emit x).withPtp m o = s.withPtp m o := rfl
@[simp] theorem State.setReg_withPtp (s : State) (r : Row) (v i j : Nat) : (s.setReg r v i j).withPtp m o = (s.withPtp m o).setReg r v i j := rfl
@[simp] theorem State.bumpSat_withPtp (s : State) (r : Row) (i j k : Nat) : (s.bumpSat r i j k).withPtp m o = (s.withPtp m o).bumpSat r i j k := rfl

@[simp] theorem State.raise_withPtp (s : State) (e d : Nat) : (s.raise e d).withPtp m o = (s.withPtp m o).raise e d := by
  rw [State.raise_eq, State.raise_eq]
  rfl

@[simp] theorem State.nextSeq_withPtp (s : State) (n : Nat) (k : Fin 4) : (s.nextSeq n k).2.withPtp m o = s.withPtp m o := rfl

end

theorem exec_syncTx {depart : Nat} (hon : s.ptpOn p.val = true) (hmaster : s.reg O.ptpPortState p.val = PS.master) :
    exec (.syncTx p depart true) s = .next ((s.nextSeq p.val 0).2.emit (.ptp (s.ptpHead p.val 0x0 (s.nextSeq p.val 0).1)
      (splitTime (s.departure p.val depart)).2 (splitTime (s.departure p.val depart)).1 0 0)) :=
  if_pos ⟨hon, hmaster⟩

theorem exec_syncTx_missed {depart : Nat} (hon : s.ptpOn p.val = true) (hmaster : s.reg O.ptpPortState p.val = PS.master) :
    exec (.syncTx p depart false) s = .next ((s.nextSeq p.val 0).2.txAbort p.val 0x0) :=
  if_pos ⟨hon, hmaster⟩

theorem exec_delayReqTx {depart : Nat} (hon : s.ptpOn p.val = true) (hslave : s.isSlave p.val = true) (hpeer : s.ptpPeer p.val = false) :
    exec (.delayReqTx p depart true) s = .next (((s.nextSeq p.val 1).2.setPtp p.val { (s.nextSeq p.val 1).2.ptpPort p.val with
      delay := some { seq := (s.nextSeq p.val 1).1, t := s.departure p.val depart } }).emit
        (.ptp (s.ptpHead p.val 0x1 (s.nextSeq p.val 1).1) 0 0 0 0)) :=
  if_pos ⟨hon, hslave, by simp [hpeer]⟩

theorem exec_pdelayReqTx {depart : Nat} (hpeer : s.ptpPeer p.val = true) (hon : s.plan O.ptpMode = 1 ∨ s.ptpOn p.val = true) :
    exec (.pdelayReqTx p depart true) s = .next (((s.nextSeq p.val 2).2.setPtp p.val { (s.nextSeq p.val 2).2.ptpPort p.val with
      pdelay := some { seq := (s.nextSeq p.val 2).1, t := s.departure p.val depart } }).emit
        (.ptp (s.ptpHead p.val 0x2 (s.nextSeq p.val 2).1) 0 0 0 0)) :=
  if_pos ⟨hpeer, hon⟩

theorem exec_announceTx (hon : s.ptpOn p.val = true) (hmaster : s.reg O.ptpPortState p.val = PS.master) :
    exec (.announceTx p) s = .next ((s.nextSeq p.val 3).2.emit (.announce (s.ptpHead p.val 0xB (s.nextSeq p.val 3).1)
      (toI 16 (s.plan O.ptpUtcOffset)) (s.announced p.val))) :=
  if_pos ⟨hon, hmaster⟩

/-- The head of a message that a transparent clock forwards: the message's own, on the other port. -/
def forwardHead (p : Fin 2) (q : PtpMsg) : PtpHead :=
  { port := 1 - p.val, transport := q.transport.val, checksum := q.transport.val == 2 || (q.transport.val == 1 && !q.noChecksum),
    domain := q.domain.toNat, type := q.type.val, seq := q.seq.toNat }

/-- Event messages are of types 0 to 3; the delay of the link enters a Sync between peers. -/
theorem exec_ptpTcForward {q : PtpMsg} {ingress egress : Nat} (hmode : s.plan O.ptpMode = 1)
    (hpeer : (decide (q.type.val = 2 ∨ q.type.val = 3 ∨ q.type.val = 0xA) && s.plan O.ptpTcDelay == 1) = false) :
    exec (.ptpTcForward p q ingress egress true) s = .next (if q.type.val < 4 then
      s.emit (.ptp (forwardHead p q) (q.correction + (s.departure (1 - p.val) egress - s.arrival p.val ingress) +
        (if s.plan O.ptpTcDelay = 1 ∧ q.type.val = 0 then rneDiv (s.ptpPort p.val).mpd2 2 else 0)) q.time q.requester.toNat q.requesterPort.toNat)
      else s.emit (.ptp (forwardHead p q) q.correction q.time q.requester.toNat q.requesterPort.toNat)) := by
  change execPtpTcForward p q ingress egress true s = _
  unfold execPtpTcForward
  dsimp only
  rw [if_pos ⟨hmode, by rw [hpeer]; rfl⟩]
  split <;> rfl

/-- The objects of a PTP port have later indices than PLL-A's. -/
theorem spanFree_ptp {r : Row} {n : Nat} (h : 0x805 ≤ r.idx) : SpanFree [r.key n 0] := spanFree_nil.key h

/-- An event frame that misses its instant (R312) is dropped, counted and told. -/
theorem txAbort_effect (s : State) (n type : Nat) (x : PtpPort) :
    ((s.setPtp n x).txAbort n type).out = .badFrame n :: s.out ∧
      ((s.setPtp n x).txAbort n type).reg O.ptpDropCount n = satAdd O.ptpDropCount.width (s.reg O.ptpDropCount n) 1 ∧
      Effect s (((s.setPtp n x).txAbort n type).withPtp s.ptp s.out) [(ptpEvent n 2, type)] [O.ptpDropCount.key n 0] [] := by
  refine ⟨?_, ?_, ?_⟩
  · rw [State.txAbort, State.raise_eq]
    rfl
  · rw [State.txAbort, State.reg_raise_ne _ _ _ _ _ _ (key_ne_of_idx (by decide) (by decide) (by simp only [O.ptpDropCount, O.evMerged]; omega)),
      State.ptpDrop, State.bumpSat, State.reg_setReg_same]
    rfl
  · simp only [State.txAbort, State.ptpDrop, State.raise_withPtp, State.bumpSat_withPtp, State.emit_withPtp, State.setPtp_withPtp,
      State.withPtp_self]
    exact Effect.raise _ _ (Effect.refl.setReg (by simp)) (spanFree_ptp (by decide))

theorem exec_esmcTx (h : s.plan O.synceEsmc p.val = 1) :
    exec (.esmcTx p) s = .next (s.emit (.esmc p.val (s.plan O.synceTxQl p.val % 16))) :=
  congrArg Host.Outcome.next (if_pos h)

theorem exec_esmcReceived {ql : Fin 16} (h : s.plan O.synceEsmc p.val = 1) (hnew : s.reg O.synceRxQl p.val ≠ ql.val) :
    exec (.esmcReceived p ql) s = .next ((s.setReg O.synceRxQl ql.val p.val).raise (ptpEvent p.val 3)
      (ql.val + 16 * (s.reg O.synceRxQl p.val % 16))) :=
  if_pos ⟨h, hnew⟩

/-- What leaves a port changes nothing but the port. -/
theorem Effect.of_withPtp {t : State} {keys hids : List Nat} (h : t.withPtp s.ptp s.out = s) :
    Effect s (t.withPtp s.ptp s.out) [] keys hids := by
  rw [h]
  exact Effect.refl

/-- Settles O34. -/
theorem ptpSent : Obligations.PtpSent := by
  unfold Obligations.PtpSent
  refine ⟨?_, ?_, ?_, ?_, ?_, ?_, ?_, ?_, ?_, ?_⟩
  · intro s p depart hon hmaster
    exact ⟨_, exec_syncTx hon hmaster, rfl, State.ptpPort_setPtp_same .., Effect.of_withPtp (by simp)⟩
  · intro s p depart hon hmaster
    exact ⟨_, exec_syncTx_missed hon hmaster, txAbort_effect s p.val 0 _⟩
  · intro s p depart hon hslave hpeer
    refine ⟨_, exec_delayReqTx hon hslave hpeer, rfl, ?_, Effect.of_withPtp (by simp)⟩
    exact (State.ptpPort_setPtp_same ..).trans (by rw [State.nextSeq, State.ptpPort_setPtp_same]; rfl)
  · intro s p depart hpeer hon
    refine ⟨_, exec_pdelayReqTx hpeer hon, rfl, ?_, Effect.of_withPtp (by simp)⟩
    exact (State.ptpPort_setPtp_same ..).trans (by rw [State.nextSeq, State.ptpPort_setPtp_same]; rfl)
  · intro s p hon hmaster
    exact ⟨_, exec_announceTx hon hmaster, rfl, State.ptpPort_setPtp_same .., Effect.of_withPtp (by simp)⟩
  · intro s p q ingress egress hmode hend htype
    refine ⟨_, exec_ptpTcForward hmode (by simp [hend]), ?_, ?_⟩
    · rw [if_pos htype, if_neg (by simp [hend]), add_zero]
      rfl
    · rw [if_pos htype]
      exact Effect.refl
  · intro s p q ingress egress hmode hpeer htype
    have hevent : q.type.val < 4 := by omega
    refine ⟨_, exec_ptpTcForward hmode (by simp [htype]), ?_, ?_⟩
    · rw [if_pos hevent, if_pos ⟨hpeer, htype⟩]
      rfl
    · rw [if_pos hevent]
      exact Effect.refl
  · intro s p q ingress egress hmode hend htype
    have hgeneral : ¬ q.type.val < 4 := by omega
    refine ⟨_, exec_ptpTcForward hmode (by simp [hend]), ?_, ?_⟩
    · rw [if_neg hgeneral]
      rfl
    · rw [if_neg hgeneral]
      exact Effect.refl
  · intro s p h
    exact ⟨_, exec_esmcTx h, rfl, Effect.refl⟩
  · intro s p ql h hnew
    refine ⟨_, exec_esmcReceived h hnew, ?_, ?_⟩
    · rw [State.reg_raise_ne _ _ _ _ _ _ (key_ne_of_idx (by decide) (by decide) (by simp only [O.synceRxQl, O.evMerged]; omega)),
        State.reg_setReg_same]
    · exact Effect.raise _ _ (Effect.refl.setReg (by simp)) (spanFree_ptp (by decide))

end Sys2Proof.Machine
end

section
/-! SUPPORT. PTP messages received (R310 to R314): the objects of a port, and what a completed exchange shows. -/

namespace Sys2Proof.Machine

variable {s t u : State} {n : Nat} {p : Fin 2} {q : PtpMsg} {x y : PtpPort} {evs evs' : List (Nat × Nat)} {keys hids : List Nat}

/-- What two commands do after each other, on the same objects and hidden scalars. -/
theorem Effect.trans (h : Effect s t evs keys hids) (h' : Effect t u evs' keys hids) (hk : SpanFree keys) :
    Effect s u (evs ++ evs') keys hids := by
  refine (h.wrote.trans h'.wrote hk).effect ?_
  rw [h'.1, h.1]

/-! ### Objects of a port -/

/-- One object of each port. -/
abbrev Row.OfPort (r : Row) : Prop := r.idx = 0x838 ∧ r.ist = 1

theorem Row.OfPort.key {r : Row} (h : r.OfPort) (i j : Nat) : r.key i j = (0x838 + i) * 256 + (r.sub + r.sst * j) := by
  obtain ⟨hidx, hist⟩ := h
  simp [Row.key, hidx, hist]

theorem State.reg_setReg_port {r q : Row} {v j j' : Nat} (hr : r.OfPort) (hq : q.OfPort) (h : q.sub + q.sst * j' ≠ r.sub + r.sst * j) :
    (s.setReg r v n j).reg q n j' = s.reg q n j' :=
  State.reg_setReg_ne _ _ _ _ _ _ _ _ (by rw [hr.key, hq.key]; omega)

theorem State.reg_raise_port {r : Row} {e d j : Nat} (hr : r.OfPort) : (s.raise e d).reg r n j = s.reg r n j :=
  State.reg_raise_ne _ _ _ _ _ _ (by
    have hmerged : mergedKey = 0x58005 := rfl
    rw [hr.key, hmerged]
    omega)

/-- What a message of the profile leaves before it is handled: it is counted. -/
def State.ptpCounted (s : State) (n : Nat) : State := s.bumpSat O.ptpRxCount n

theorem State.ptpCounted_reg {r : Row} {j : Nat} (hr : r.OfPort) (h : r.sub + r.sst * j ≠ 9) : (s.ptpCounted n).reg r n j = s.reg r n j :=
  State.reg_setReg_port ⟨rfl, rfl⟩ hr (by simpa [O.ptpRxCount] using h)

theorem State.ptpCounted_count : (s.ptpCounted n).reg O.ptpRxCount n = satAdd O.ptpRxCount.width (s.reg O.ptpRxCount n) 1 :=
  State.reg_setReg_same ..

theorem State.ptpTake_counted (f : State → State) (hon : s.ptpOn n = true) (hversion : q.version.val = 2)
    (hdomain : q.domain.toNat = s.plan O.ptpDomain) : s.ptpTake n q f = .next (f (s.ptpCounted n)) := by
  simp [State.ptpTake, hon, hversion, hdomain, State.ptpCounted]

theorem State.ptpCounted_isSlave : (s.ptpCounted n).isSlave n = s.isSlave n := by
  simp only [State.isSlave, State.ptpCounted_reg (r := O.ptpPortState) (j := 0) ⟨rfl, rfl⟩ (by decide)]

theorem State.ptpCounted_fromParent : (s.ptpCounted n).fromParent n q = s.fromParent n q := by
  simp only [State.fromParent, State.ptpCounted_reg (r := O.ptpParent) (j := 0) ⟨rfl, rfl⟩ (by decide)]

theorem State.ptpCounted_forUs : (s.ptpCounted n).forUs n q = s.forUs n q := by
  have hid : (s.ptpCounted n).reg O.ptpClockId = s.reg O.ptpClockId :=
    State.reg_setReg_ne _ _ _ _ _ _ _ _ (key_ne_of_sub (by decide))
  simp only [State.forUs, hid]

/-! ### A completed exchange (R313) -/

/-- `PTP_T1` to `PTP_T4` show the exchange of a port that measures its path, and not of one that measures its link. -/
def State.timesShown (s : State) (n : Nat) (x : PtpPort) : State := if s.ptpPeer n then s else s.ptpTimes n x.t1 x.t2 x.t3 x.t4

/-- Twice the offset from the parent. -/
def State.offsetTwice (s : State) (n : Nat) (x : PtpPort) : Int := 2 * (x.t2 - x.t1 - psTicks (toI 32 (s.plan O.ptpAsym n))) - x.mpd2

/-- The status objects of a port with its offset known. -/
def State.offsetShown (s : State) (n : Nat) (x : PtpPort) : State :=
  ((s.timesShown n x).setReg O.ptpMpd (toF64 ((x.mpd2 : Rat) / (131072 : Nat))) n).setReg O.ptpOffset
    (toF64 ((s.offsetTwice n x : Rat) / (131072 : Nat))) n

/-- The objects that they are. -/
abbrev statusKeys (n : Nat) : List Nat :=
  [O.ptpRxCount.key n 0, O.ptpT.key n 0, O.ptpT.key n 1, O.ptpT.key n 2, O.ptpT.key n 3, O.ptpMpd.key n 0, O.ptpOffset.key n 0, O.ptpPortState.key n 0]

theorem statusKeys_span : SpanFree (statusKeys n) :=
  (((((((spanFree_nil.key (by decide)).key (by decide)).key (by decide)).key (by decide)).key (by decide)).key (by decide)).key (by decide)).key
    (by decide)

/-- The exchange's times stand in subindices 4 to 7. -/
theorem State.ptpTimes_reg {r : Row} {j : Nat} {t1 t2 t3 t4 : Int} (hr : r.OfPort) (h : ¬(4 ≤ r.sub + r.sst * j ∧ r.sub + r.sst * j ≤ 7)) :
    (s.ptpTimes n t1 t2 t3 t4).reg r n j = s.reg r n j := by
  have hkept (u : State) (v : Nat) (k : Nat) (hk : k < 4) : (u.setReg O.ptpT v n k).reg r n j = u.reg r n j :=
    State.reg_setReg_port ⟨rfl, rfl⟩ hr (by simp only [O.ptpT]; omega)
  unfold State.ptpTimes
  rw [hkept _ _ _ (by decide), hkept _ _ _ (by decide), hkept _ _ _ (by decide), hkept _ _ _ (by decide)]

theorem State.ptpTimes_effect {t1 t2 t3 t4 : Int} : Effect s (s.ptpTimes n t1 t2 t3 t4) [] (statusKeys n) [] :=
  (((Effect.refl.setReg (by simp)).setReg (by simp)).setReg (by simp)).setReg (by simp)

theorem State.timesShown_reg {r : Row} {j : Nat} (hr : r.OfPort) (h : ¬(4 ≤ r.sub + r.sst * j ∧ r.sub + r.sst * j ≤ 7)) :
    (s.timesShown n x).reg r n j = s.reg r n j := by
  unfold State.timesShown
  split
  · rfl
  · exact State.ptpTimes_reg hr h

theorem State.timesShown_times (hpeer : s.ptpPeer n = false) :
    (s.timesShown n x).reg O.ptpT n 0 = t96Of x.t1 ∧ (s.timesShown n x).reg O.ptpT n 1 = t96Of x.t2 ∧
    (s.timesShown n x).reg O.ptpT n 2 = t96Of x.t3 ∧ (s.timesShown n x).reg O.ptpT n 3 = t96Of x.t4 := by
  have hkept (u : State) (v j k : Nat) (hk : j ≠ k) : (u.setReg O.ptpT v n k).reg O.ptpT n j = u.reg O.ptpT n j :=
    State.reg_setReg_port ⟨rfl, rfl⟩ ⟨rfl, rfl⟩ (by simp only [O.ptpT]; omega)
  simp [State.timesShown, State.ptpTimes, hpeer, hkept]

theorem State.timesShown_effect : Effect s (s.timesShown n x) [] (statusKeys n) [] := by
  unfold State.timesShown
  split
  · exact Effect.refl
  · exact State.ptpTimes_effect

theorem State.offsetShown_effect : Effect s (s.offsetShown n x) [] (statusKeys n) [] :=
  (State.timesShown_effect.setReg (by simp)).setReg (by simp)

/-- The status objects stand in subindices 2 to 7. -/
theorem State.offsetShown_reg {r : Row} {j : Nat} (hr : r.OfPort) (h : ¬(2 ≤ r.sub + r.sst * j ∧ r.sub + r.sst * j ≤ 7)) :
    (s.offsetShown n x).reg r n j = s.reg r n j := by
  unfold State.offsetShown
  rw [State.reg_setReg_port ⟨rfl, rfl⟩ hr (by simp only [O.ptpOffset]; omega), State.reg_setReg_port ⟨rfl, rfl⟩ hr (by simp only [O.ptpMpd]; omega),
    State.timesShown_reg hr (by omega)]

theorem State.offsetShown_times {j : Nat} (hj : j < 4) : (s.offsetShown n x).reg O.ptpT n j = (s.timesShown n x).reg O.ptpT n j := by
  unfold State.offsetShown
  rw [State.reg_setReg_port ⟨rfl, rfl⟩ ⟨rfl, rfl⟩ (by simp only [O.ptpOffset, O.ptpT]; omega),
    State.reg_setReg_port ⟨rfl, rfl⟩ ⟨rfl, rfl⟩ (by simp only [O.ptpMpd, O.ptpT]; omega)]

theorem State.offsetShown_offset : (s.offsetShown n x).reg O.ptpOffset n = toF64 ((s.offsetTwice n x : Rat) / (131072 : Nat)) :=
  State.reg_setReg_same ..

theorem State.offsetShown_mpd : (s.offsetShown n x).reg O.ptpMpd n = toF64 ((x.mpd2 : Rat) / (131072 : Nat)) := by
  unfold State.offsetShown
  rw [State.reg_setReg_port ⟨rfl, rfl⟩ ⟨rfl, rfl⟩ (by decide), State.reg_setReg_same]

/-- A port that waited for its offset is a slave with it (R314). -/
def State.settled (s : State) (n : Nat) (x : PtpPort) : State :=
  if s.reg O.ptpPortState n = PS.uncalibrated then
    ((s.offsetShown n x).setReg O.ptpPortState PS.slave n).raise (ptpEvent n 0) (PS.slave + 16 * PS.uncalibrated)
  else s.offsetShown n x

theorem State.plan_of_effect {r : Row} {i j : Nat} (h : Effect s t evs keys hids) : t.plan r i j = s.plan r i j := by
  rw [h.1]
  rfl

theorem State.ptpPort_of_effect (h : Effect s t evs keys hids) : t.ptpPort n = s.ptpPort n := by
  rw [h.1]
  rfl

theorem State.settled_effect : Effect s (s.settled n x)
    (if s.reg O.ptpPortState n = PS.uncalibrated then [(ptpEvent n 0, PS.slave + 16 * PS.uncalibrated)] else []) (statusKeys n) [] := by
  unfold State.settled
  split
  · exact (State.offsetShown_effect.setReg (by simp)).raise _ _ statusKeys_span
  · exact State.offsetShown_effect

theorem State.settled_reg {r : Row} {j : Nat} (hr : r.OfPort) (h : r.sub + r.sst * j ≠ 1) : (s.settled n x).reg r n j = (s.offsetShown n x).reg r n j := by
  unfold State.settled
  split
  · rw [State.reg_raise_port hr, State.reg_setReg_port ⟨rfl, rfl⟩ hr (by simpa [O.ptpPortState] using h)]
  · rfl

/-- With the servo on another source the offset settles the port, once a Sync and a delay are at hand. -/
theorem State.ptpStatus_eq (hsrc : s.plan O.servoSrc ≠ 0) :
    s.ptpStatus n = if (s.ptpPort n).haveSync = true ∧ (s.ptpPort n).haveDelay = true then s.settled n (s.ptpPort n) else s := by
  by_cases hx : (s.ptpPort n).haveSync = true ∧ (s.ptpPort n).haveDelay = true
  · have hkept : (s.offsetShown n (s.ptpPort n)).reg O.ptpPortState n = s.reg O.ptpPortState n := State.offsetShown_reg ⟨rfl, rfl⟩ (by decide)
    have hplan (v : State) (h : v = s.offsetShown n (s.ptpPort n)) : (if v.reg O.ptpPortState n = PS.uncalibrated then v.setPortState n PS.slave else v)
        = s.settled n (s.ptpPort n) := by
      subst h
      unfold State.settled State.setPortState
      rw [hkept]
      by_cases hu : s.reg O.ptpPortState n = PS.uncalibrated
      · rw [if_pos hu, if_pos hu, if_neg (by rw [hu]; decide), hu]
      · rw [if_neg hu, if_neg hu]
    unfold State.ptpStatus
    dsimp only
    rw [if_pos (by rw [hx.1, hx.2]; rfl), if_pos hx]
    have hfed (v : State) (o : Int) (h : v = s.settled n (s.ptpPort n)) :
        (if v.plan O.servoSrc = 0 ∧ v.isSlave n = true then v.servoOffset o else v) = s.settled n (s.ptpPort n) := by
      rw [if_neg, h]
      rw [h, State.plan_of_effect State.settled_effect]
      exact fun h => hsrc h.1
    exact hfed _ _ (hplan _ rfl)
  · unfold State.ptpStatus
    rw [if_neg hx, if_neg (by simpa using hx)]

theorem Effect.ptpAside (h : Effect (s.setPtp n x) t evs keys hids) : Effect s { t with ptp := s.ptp } evs keys hids :=
  h.over (fun v => { v with ptp := s.ptp }) (fun _ _ _ => rfl) rfl rfl rfl rfl

theorem Effect.ports (h : Effect s t evs keys hids) : { t with ptp := s.ptp } = t := by
  rw [h.1]

/-- What a port is left with by a message that gives it the exchange `x`. -/
structure Exchanged (s t : State) (n : Nat) (x : PtpPort) : Prop where
  port : t.ptpPort n = x
  times : x.haveSync = true → x.haveDelay = true → s.ptpPeer n = false → t.reg O.ptpT n 0 = t96Of x.t1 ∧ t.reg O.ptpT n 1 = t96Of x.t2 ∧
    t.reg O.ptpT n 2 = t96Of x.t3 ∧ t.reg O.ptpT n 3 = t96Of x.t4
  mpd : x.haveSync = true → x.haveDelay = true → t.reg O.ptpMpd n = toF64 ((x.mpd2 : Rat) / (131072 : Nat))
  offset : x.haveSync = true → x.haveDelay = true → t.reg O.ptpOffset n = toF64 ((s.offsetTwice n x : Rat) / (131072 : Nat))
  count : t.reg O.ptpRxCount n = s.reg O.ptpRxCount n
  effect : Effect s { t with ptp := s.ptp } (if (x.haveSync = true ∧ x.haveDelay = true) ∧ s.reg O.ptpPortState n = PS.uncalibrated then
    [(ptpEvent n 0, PS.slave + 16 * PS.uncalibrated)] else []) (statusKeys n) []

theorem State.ptpStatus_exchanged (hsrc : s.plan O.servoSrc ≠ 0) (hx : s.ptpPort n = x) : Exchanged s (s.ptpStatus n) n x := by
  subst hx
  rw [State.ptpStatus_eq hsrc]
  by_cases hh : (s.ptpPort n).haveSync = true ∧ (s.ptpPort n).haveDelay = true
  · rw [if_pos hh]
    have hshown (j : Nat) (hj : j < 4) : (s.settled n (s.ptpPort n)).reg O.ptpT n j = (s.timesShown n (s.ptpPort n)).reg O.ptpT n j :=
      (State.settled_reg ⟨rfl, rfl⟩ (by simp only [O.ptpT]; omega)).trans (State.offsetShown_times hj)
    refine ⟨State.ptpPort_of_effect State.settled_effect, fun _ _ hpeer => ?_, fun _ _ => ?_, fun _ _ => ?_, ?_, ?_⟩
    · rw [hshown 0 (by decide), hshown 1 (by decide), hshown 2 (by decide), hshown 3 (by decide)]
      exact State.timesShown_times hpeer
    · exact (State.settled_reg ⟨rfl, rfl⟩ (by decide)).trans State.offsetShown_mpd
    · exact (State.settled_reg ⟨rfl, rfl⟩ (by decide)).trans State.offsetShown_offset
    · exact (State.settled_reg ⟨rfl, rfl⟩ (by decide)).trans (State.offsetShown_reg ⟨rfl, rfl⟩ (by decide))
    · have heffect := State.settled_effect (s := s) (n := n) (x := s.ptpPort n)
      simp only [hh, and_self, true_and]
      exact heffect.ports.symm ▸ heffect
  · rw [if_neg hh]
    refine ⟨rfl, fun h h' => absurd ⟨h, h'⟩ hh, fun h h' => absurd ⟨h, h'⟩ hh, fun h h' => absurd ⟨h, h'⟩ hh, rfl, ?_⟩
    rw [if_neg fun h => hh h.1]
    exact Effect.refl

/-- The same of the machine that the message was counted by, and given the exchange. -/
theorem Exchanged.of_setPtp (h : Exchanged (s.setPtp n y) t n x) : Exchanged s t n x :=
  { h with effect := (show Effect (s.setPtp n y) { t with ptp := (s.setPtp n y).ptp } _ _ _ from h.effect).ptpAside }

/-- The event of a port that its offset settles. -/
def State.settling (s : State) (n : Nat) (x : PtpPort) : List (Nat × Nat) :=
  if (x.haveSync = true ∧ x.haveDelay = true) ∧ s.reg O.ptpPortState n = PS.uncalibrated then [(ptpEvent n 0, PS.slave + 16 * PS.uncalibrated)]
  else []

theorem State.settling_of_sync (h : x.haveSync = true) : s.settling n x =
    if x.haveDelay = true ∧ s.reg O.ptpPortState n = PS.uncalibrated then [(ptpEvent n 0, PS.slave + 16 * PS.uncalibrated)] else [] := by
  simp [State.settling, h]

theorem State.settling_of_delay (h : x.haveDelay = true) : s.settling n x =
    if x.haveSync = true ∧ s.reg O.ptpPortState n = PS.uncalibrated then [(ptpEvent n 0, PS.slave + 16 * PS.uncalibrated)] else [] := by
  simp [State.settling, h]

/-- A counted message. -/
theorem Exchanged.counted (h : Exchanged (s.ptpCounted n) t n x) :
    t.reg O.ptpRxCount n = satAdd O.ptpRxCount.width (s.reg O.ptpRxCount n) 1 ∧
    Effect s { t with ptp := s.ptp } (s.settling n x) (statusKeys n) [] := by
  have hstate : (s.ptpCounted n).reg O.ptpPortState n = s.reg O.ptpPortState n := State.ptpCounted_reg ⟨rfl, rfl⟩ (by decide)
  have heffect := h.effect
  rw [hstate] at heffect
  exact ⟨h.count.trans State.ptpCounted_count,
    (show Effect s (s.ptpCounted n) [] (statusKeys n) [] from Effect.refl.setReg (by simp)).trans heffect statusKeys_span⟩

/-- A Sync with its time: the exchange of a port that has it. -/
theorem State.syncDone_exchanged {t1 t2 : Int} (hsrc : s.plan O.servoSrc ≠ 0) :
    Exchanged s (s.syncDone n t1 t2) n { s.ptpPort n with t1 := t1, t2 := t2, haveSync := true, sync := none } :=
  Exchanged.of_setPtp (State.ptpStatus_exchanged (s := s.setPtp n { s.ptpPort n with t1 := t1, t2 := t2, haveSync := true, sync := none }) hsrc
    (State.ptpPort_setPtp_same ..))

/-- A peer exchange. -/
def PtpPort.measured (x : PtpPort) (t1 t2 t3 t4 : Int) : PtpPort :=
  { x with pdelay := none, t3 := t3, t4 := t4, haveDelay := true, mpd2 := (t4 - t1) - (t3 - t2) }

/-- The objects with a peer exchange at hand, before its offset. -/
def State.measured (s : State) (n : Nat) (t1 t2 t3 t4 : Int) : State :=
  ((s.setPtp n ((s.ptpPort n).measured t1 t2 t3 t4)).ptpTimes n t1 t2 t3 t4).setReg O.ptpMpd
    (toF64 ((((t4 - t1) - (t3 - t2) : Int) : Rat) / (131072 : Nat))) n

variable {t1 t2 t3 t4 : Int}

theorem State.pdelayDone_eq : s.pdelayDone n t1 t2 t3 t4 = (s.measured n t1 t2 t3 t4).ptpStatus n := rfl

theorem State.measured_effect : Effect (s.setPtp n ((s.ptpPort n).measured t1 t2 t3 t4)) (s.measured n t1 t2 t3 t4) [] (statusKeys n) [] :=
  State.ptpTimes_effect.setReg (by simp)

theorem State.measured_port : (s.measured n t1 t2 t3 t4).ptpPort n = (s.ptpPort n).measured t1 t2 t3 t4 :=
  (State.ptpPort_of_effect State.measured_effect).trans (State.ptpPort_setPtp_same ..)

theorem State.measured_plan {r : Row} {i j : Nat} : (s.measured n t1 t2 t3 t4).plan r i j = s.plan r i j :=
  (State.plan_of_effect State.measured_effect).trans rfl

theorem State.measured_mpd : (s.measured n t1 t2 t3 t4).reg O.ptpMpd n = toF64 ((((t4 - t1) - (t3 - t2) : Int) : Rat) / (131072 : Nat)) :=
  State.reg_setReg_same ..

theorem State.measured_reg {r : Row} {j : Nat} (hr : r.OfPort) (h : ¬(3 ≤ r.sub + r.sst * j ∧ r.sub + r.sst * j ≤ 7)) :
    (s.measured n t1 t2 t3 t4).reg r n j = s.reg r n j :=
  (State.reg_setReg_port ⟨rfl, rfl⟩ hr (by simp only [O.ptpMpd]; omega)).trans (State.ptpTimes_reg hr (by omega))

theorem State.pdelayDone_spec (hsrc : s.plan O.servoSrc ≠ 0) :
    (s.pdelayDone n t1 t2 t3 t4).ptpPort n = (s.ptpPort n).measured t1 t2 t3 t4 ∧
    (s.pdelayDone n t1 t2 t3 t4).reg O.ptpMpd n = toF64 ((((t4 - t1) - (t3 - t2) : Int) : Rat) / (131072 : Nat)) ∧
    (s.pdelayDone n t1 t2 t3 t4).reg O.ptpRxCount n = s.reg O.ptpRxCount n ∧
    Effect s { s.pdelayDone n t1 t2 t3 t4 with ptp := s.ptp } (s.settling n ((s.ptpPort n).measured t1 t2 t3 t4)) (statusKeys n) [] := by
  rw [State.pdelayDone_eq]
  have hsrc' : (s.measured n t1 t2 t3 t4).plan O.servoSrc ≠ 0 := by rwa [State.measured_plan]
  have hx := State.ptpStatus_exchanged hsrc' State.measured_port
  have heffect := hx.effect
  rw [State.measured_reg (r := O.ptpPortState) (j := 0) ⟨rfl, rfl⟩ (by decide)] at heffect
  refine ⟨hx.port, ?_, hx.count.trans (State.measured_reg ⟨rfl, rfl⟩ (by decide)), (State.measured_effect.trans heffect statusKeys_span).ptpAside⟩
  by_cases hsync : (s.ptpPort n).haveSync = true
  · exact hx.mpd hsync rfl
  · rw [State.ptpStatus_eq hsrc', if_neg (by rw [State.measured_port]; exact fun h => hsync h.1), State.measured_mpd]

theorem State.pdelayDone_counted (hsrc : s.plan O.servoSrc ≠ 0) :
    ((s.ptpCounted n).pdelayDone n t1 t2 t3 t4).ptpPort n = (s.ptpPort n).measured t1 t2 t3 t4 ∧
    ((s.ptpCounted n).pdelayDone n t1 t2 t3 t4).reg O.ptpMpd n = toF64 ((((t4 - t1) - (t3 - t2) : Int) : Rat) / (131072 : Nat)) ∧
    ((s.ptpCounted n).pdelayDone n t1 t2 t3 t4).reg O.ptpRxCount n = satAdd O.ptpRxCount.width (s.reg O.ptpRxCount n) 1 ∧
    Effect s { (s.ptpCounted n).pdelayDone n t1 t2 t3 t4 with ptp := s.ptp }
      (if (s.ptpPort n).haveSync = true ∧ s.reg O.ptpPortState n = PS.uncalibrated then [(ptpEvent n 0, PS.slave + 16 * PS.uncalibrated)] else [])
      (statusKeys n) [] := by
  obtain ⟨hport, hmpd, hcount, heffect⟩ := State.pdelayDone_spec (s := s.ptpCounted n) (n := n) (t1 := t1) (t2 := t2) (t3 := t3) (t4 := t4) hsrc
  have hstate : (s.ptpCounted n).reg O.ptpPortState n = s.reg O.ptpPortState n := State.ptpCounted_reg ⟨rfl, rfl⟩ (by decide)
  rw [State.settling_of_delay rfl, hstate] at heffect
  exact ⟨hport, hmpd, hcount.trans State.ptpCounted_count,
    (show Effect s (s.ptpCounted n) [] (statusKeys n) [] from Effect.refl.setReg (by simp)).trans heffect statusKeys_span⟩

/-! ### The messages -/

variable {after : Nat} {e : Exchange}

theorem State.ptpCounted_takes (hslave : s.isSlave n = true) (hparent : s.fromParent n q = true) :
    ((s.ptpCounted n).isSlave n && (s.ptpCounted n).fromParent n q) = true := by
  rw [State.ptpCounted_isSlave, State.ptpCounted_fromParent, hslave, hparent]
  rfl

theorem exec_syncReceived_oneStep (hon : s.ptpOn p.val = true) (hversion : q.version.val = 2) (hdomain : q.domain.toNat = s.plan O.ptpDomain)
    (hslave : s.isSlave p.val = true) (hparent : s.fromParent p.val q = true) (hstep : q.twoStep = false) :
    exec (.syncReceived p q after) s = .next ((s.ptpCounted p.val).syncDone p.val (ptpTicks q + q.correction) (s.arrival p.val after)) := by
  refine (State.ptpTake_counted _ hon hversion hdomain).trans ?_
  exact congrArg Host.Outcome.next ((if_pos (State.ptpCounted_takes hslave hparent)).trans (if_neg (by simp [hstep])))

theorem exec_syncReceived_twoStep (hon : s.ptpOn p.val = true) (hversion : q.version.val = 2) (hdomain : q.domain.toNat = s.plan O.ptpDomain)
    (hslave : s.isSlave p.val = true) (hparent : s.fromParent p.val q = true) (hstep : q.twoStep = true) :
    exec (.syncReceived p q after) s = .next ((s.ptpCounted p.val).setPtp p.val { s.ptpPort p.val with
      sync := some { seq := q.seq.toNat, t := s.arrival p.val after, corr := q.correction } }) := by
  refine (State.ptpTake_counted _ hon hversion hdomain).trans ?_
  exact congrArg Host.Outcome.next ((if_pos (State.ptpCounted_takes hslave hparent)).trans (if_pos hstep))

theorem exec_followUpReceived (hon : s.ptpOn p.val = true) (hversion : q.version.val = 2) (hdomain : q.domain.toNat = s.plan O.ptpDomain)
    (hsync : (s.ptpPort p.val).sync = some e) (hseq : e.seq = q.seq.toNat) :
    exec (.followUpReceived p q) s = .next ((s.ptpCounted p.val).syncDone p.val (ptpTicks q + q.correction + e.corr) e.t) := by
  change execFollowUpReceived p q s = _
  refine (State.ptpTake_counted _ hon hversion hdomain).trans ?_
  have hport : (s.ptpCounted p.val).ptpPort p.val = s.ptpPort p.val := rfl
  rw [hport, hsync]
  exact congrArg Host.Outcome.next (if_pos hseq)

theorem State.forUs_iff : s.forUs n q = true ↔ q.requester.toNat = s.reg O.ptpClockId ∧ q.requesterPort.toNat = n + 1 := by
  simp [State.forUs]

theorem exec_delayRespReceived (hon : s.ptpOn p.val = true) (hversion : q.version.val = 2) (hdomain : q.domain.toNat = s.plan O.ptpDomain)
    (hdelay : (s.ptpPort p.val).delay = some e) (hseq : e.seq = q.seq.toNat) (hus : s.forUs p.val q = true) :
    exec (.delayRespReceived p q) s = .next (if (s.ptpPort p.val).haveSync then
      ((s.ptpCounted p.val).setPtp p.val { s.ptpPort p.val with
        delay := none, t3 := e.t, t4 := ptpTicks q - q.correction, haveDelay := true,
        mpd2 := ((s.ptpPort p.val).t2 - (s.ptpPort p.val).t1) + (ptpTicks q - q.correction - e.t) }).ptpStatus p.val
      else (s.ptpCounted p.val).setPtp p.val { s.ptpPort p.val with delay := none }) := by
  change execDelayRespReceived p q s = _
  refine (State.ptpTake_counted _ hon hversion hdomain).trans ?_
  have hport : (s.ptpCounted p.val).ptpPort p.val = s.ptpPort p.val := rfl
  dsimp only
  rw [hport, hdelay]
  exact congrArg Host.Outcome.next (if_pos ⟨hseq, State.ptpCounted_forUs.trans hus⟩)

theorem exec_pdelayRespReceived_oneStep (hversion : q.version.val = 2) (hdomain : q.domain.toNat = s.plan O.ptpDomain)
    (hpdelay : (s.ptpPort p.val).pdelay = some e) (hseq : e.seq = q.seq.toNat) (hus : s.forUs p.val q = true) (hstep : q.twoStep = false) :
    exec (.pdelayRespReceived p q after) s = .next ((s.ptpCounted p.val).pdelayDone p.val e.t 0 q.correction (s.arrival p.val after)) := by
  change execPdelayRespReceived p q after s = _
  simp only [execPdelayRespReceived, hpdelay, hversion, hdomain, hseq, hus, hstep, ne_eq, not_true_eq_false, or_self, if_false, and_self, if_true,
    Bool.false_eq_true]
  rfl

theorem exec_pdelayRespReceived_twoStep (hversion : q.version.val = 2) (hdomain : q.domain.toNat = s.plan O.ptpDomain)
    (hpdelay : (s.ptpPort p.val).pdelay = some e) (hseq : e.seq = q.seq.toNat) (hus : s.forUs p.val q = true) (hstep : q.twoStep = true) :
    exec (.pdelayRespReceived p q after) s = .next ((s.ptpCounted p.val).setPtp p.val { s.ptpPort p.val with
      pdelay := some { e with t2 := ptpTicks q, t4 := s.arrival p.val after, corr := q.correction, waits := true } }) := by
  change execPdelayRespReceived p q after s = _
  simp only [execPdelayRespReceived, hpdelay, hversion, hdomain, hseq, hus, hstep, ne_eq, not_true_eq_false, or_self, if_false, and_self, if_true]
  rfl

theorem exec_pdelayRespFollowUpReceived (hversion : q.version.val = 2) (hdomain : q.domain.toNat = s.plan O.ptpDomain)
    (hpdelay : (s.ptpPort p.val).pdelay = some e) (hseq : e.seq = q.seq.toNat) (hus : s.forUs p.val q = true) (hwaits : e.waits = true) :
    exec (.pdelayRespFollowUpReceived p q) s =
      .next ((s.ptpCounted p.val).pdelayDone p.val e.t e.t2 (ptpTicks q + q.correction + e.corr) e.t4) := by
  change execPdelayRespFollowUpReceived p q s = _
  simp only [execPdelayRespFollowUpReceived, hpdelay, hversion, hdomain, hseq, hus, hwaits, ne_eq, not_true_eq_false, or_self, if_false, and_self, if_true]
  rfl

theorem exec_delayReqReceived (hon : s.ptpOn p.val = true) (hversion : q.version.val = 2) (hdomain : q.domain.toNat = s.plan O.ptpDomain)
    (hmaster : s.reg O.ptpPortState p.val = PS.master) (hpeer : s.ptpPeer p.val = false) :
    exec (.delayReqReceived p q after) s = .next ((s.ptpCounted p.val).emit (.ptp (s.ptpHead p.val 0x9 q.seq.toNat q.noChecksum)
      (q.correction - (splitTime (s.arrival p.val after)).2) (splitTime (s.arrival p.val after)).1 q.source.toNat q.sourcePort.toNat)) := by
  refine (State.ptpTake_counted _ hon hversion hdomain).trans ?_
  have hstate : (s.ptpCounted p.val).reg O.ptpPortState p.val = PS.master := (State.ptpCounted_reg ⟨rfl, rfl⟩ (by decide)).trans hmaster
  have hlink : (!(s.ptpCounted p.val).ptpPeer p.val) = true := congrArg (!·) hpeer
  exact congrArg Host.Outcome.next (if_pos ⟨hstate, hlink⟩)

theorem exec_pdelayReqReceived {depart : Nat} (hmode : s.plan O.ptpMode = 0) (hdelay : s.plan O.ptpDelay p.val = 1)
    (hdisabled : s.reg O.ptpPortState p.val ≠ PS.disabled) (hfaulty : s.reg O.ptpPortState p.val ≠ 2) (hrole : s.plan O.ptpRole p.val ≠ 0)
    (hversion : q.version.val = 2) (hdomain : q.domain.toNat = s.plan O.ptpDomain) :
    exec (.pdelayReqReceived p q after depart true) s = .next ((s.ptpCounted p.val).emit (.ptp (s.ptpHead p.val 0x3 q.seq.toNat q.noChecksum)
      (q.correction + (s.departure p.val depart - s.arrival p.val after)) 0 q.source.toNat q.sourcePort.toNat)) := by
  change execPdelayReqReceived p q after depart true s = _
  simp only [execPdelayReqReceived, hmode, hdelay, hversion, hdomain]
  rw [if_neg (by simp [hdisabled, hfaulty, hrole]), if_neg (by simp)]
  rfl

theorem execSignaling (hon : s.ptpOn p.val = true) : exec (.signalingReceived p) s = .next (s.ptpDrop p.val) :=
  congrArg Host.Outcome.next (if_pos hon)

theorem execManagement (hon : s.ptpOn p.val = true) : exec (.managementReceived p) s = .next (s.ptpDrop p.val) :=
  congrArg Host.Outcome.next (if_pos hon)

/-! ### Announce messages (R314) -/

/-- The first Announce of a port makes its sender the foreign master. -/
def State.ptpForeign (s : State) (n : Nat) (q : PtpMsg) : State :=
  (s.ptpCounted n).setPtp n { s.ptpPort n with foreign := some (ptpDataSet q) }

theorem exec_announceReceived (hon : s.ptpOn p.val = true) (hversion : q.version.val = 2) (hdomain : q.domain.toNat = s.plan O.ptpDomain)
    (hforeign : (s.ptpPort p.val).foreign = none) :
    exec (.announceReceived p q) s = .next (if s.plan O.ptpMode = 1 ∨ s.plan O.ptpRole p.val = 3 then
      (s.ptpForeign p.val q).setParent p.val ((((s.ptpForeign p.val q).ptpPort p.val).foreign.map (fun (f : List Nat) => f.getD 7 0)).getD 0)
      else (s.ptpForeign p.val q).bmca) := by
  change execAnnounceReceived p q s = _
  refine (State.ptpTake_counted _ hon hversion hdomain).trans ?_
  have hport : (s.ptpCounted p.val).ptpPort p.val = s.ptpPort p.val := rfl
  dsimp only
  rw [hport, hforeign]
  rfl

theorem State.ptpForeign_effect (hcount : O.ptpRxCount.key n 0 ∈ keys) :
    Effect (s.setPtp n { s.ptpPort n with foreign := some (ptpDataSet q) }) (s.ptpForeign n q) [] keys [] :=
  Effect.refl.setReg hcount

theorem State.setParent_effect {id : Nat} (hk : SpanFree keys) (hparent : O.ptpParent.key n 0 ∈ keys) :
    Effect s (s.setParent n id) (if s.reg O.ptpParent n = id then [] else [(ptpEvent n 1, id)]) keys [] := by
  unfold State.setParent
  split
  · exact Effect.refl
  · exact (Effect.refl.setReg hparent).raise _ _ hk

theorem State.setParent_parent {id : Nat} : (s.setParent n id).reg O.ptpParent n = id := by
  unfold State.setParent
  split
  · assumption
  · rw [State.reg_raise_port ⟨rfl, rfl⟩, State.reg_setReg_same]

theorem State.setPortState_state {st : Nat} : (s.setPortState n st).reg O.ptpPortState n = st := by
  unfold State.setPortState
  dsimp only
  split
  · assumption
  · rw [State.reg_raise_port ⟨rfl, rfl⟩, State.reg_setReg_same]

theorem State.setPortState_effect {st : Nat} : Effect s (s.setPortState n st)
    (if s.reg O.ptpPortState n = st then [] else [(ptpEvent n 0, st + 16 * s.reg O.ptpPortState n)]) (statusKeys n) [] := by
  unfold State.setPortState
  dsimp only
  split
  · exact Effect.refl
  · exact (Effect.refl.setReg (by simp)).raise _ _ statusKeys_span

theorem State.setPortState_rest {st : Nat} :
    s.setPortState n st = { s with regs := (s.setPortState n st).regs, raises := (s.setPortState n st).raises } := by
  unfold State.setPortState
  dsimp only
  split
  · rfl
  · rw [State.raise_eq]
    rfl

theorem State.setPortState_reg {st j : Nat} {r : Row} (hr : r.OfPort) (h : r.sub + r.sst * j ≠ 1) : (s.setPortState n st).reg r n j = s.reg r n j := by
  unfold State.setPortState
  dsimp only
  split
  · rfl
  · rw [State.reg_raise_port hr, State.reg_setReg_port ⟨rfl, rfl⟩ hr (by simpa [O.ptpPortState] using h)]

theorem State.setParent_reg {id j : Nat} {r : Row} (hr : r.OfPort) (h : r.sub + r.sst * j ≠ 8) : (s.setParent n id).reg r n j = s.reg r n j := by
  unfold State.setParent
  split
  · rfl
  · rw [State.reg_raise_port hr, State.reg_setReg_port ⟨rfl, rfl⟩ hr (by simpa [O.ptpParent] using h)]

/-- A port of another role, or of transparent mode, takes no decision. -/
theorem State.bmcaPort_idle (h : s.plan O.ptpMode = 1 ∨ s.plan O.ptpRole n ≠ 1) : s.bmcaPort n = s :=
  if_neg (by rintro ⟨h0, h1⟩; rcases h with h | h <;> simp_all)

theorem State.bmcaPort_class (hmode : s.plan O.ptpMode = 0) (hrole : s.plan O.ptpRole n = 1) (hclass : s.plan O.ptpClockClass < 128) {f : List Nat}
    (hforeign : (s.ptpPort n).foreign = some f) : s.bmcaPort n = s.setPortState n (if better f s.dataSet0 then PS.passive else PS.master) := by
  unfold State.bmcaPort
  rw [if_pos ⟨hmode, hrole⟩]
  dsimp only
  rw [if_pos hclass, hforeign]

theorem State.bmca_idle (h : s.plan O.ptpMode = 1 ∨ s.plan O.ptpRole 0 ≠ 1 ∧ s.plan O.ptpRole 1 ≠ 1) : s.bmca = s := by
  unfold State.bmca
  rw [State.bmcaPort_idle (n := 0) (h.imp_right And.left), State.bmcaPort_idle (n := 1) (h.imp_right And.right)]

/-- Where one port takes the decision, it is the decision of both. -/
theorem State.bmca_one (hp : n < 2) (hother : s.plan O.ptpRole (1 - n) ≠ 1) (hplan : (s.bmcaPort n).plan O.ptpRole (1 - n) = s.plan O.ptpRole (1 - n)) :
    s.bmca = s.bmcaPort n := by
  unfold State.bmca
  interval_cases n
  · exact State.bmcaPort_idle (.inr (by rw [hplan]; exact hother))
  · rw [State.bmcaPort_idle (n := 0) (.inr hother)]

theorem Effect.countPort (h : O.ptpRxCount.key n 0 ∈ keys) : Effect s (s.ptpCounted n) [] keys [] := Effect.refl.setReg h

/-- Settles O33: each message's equation, and for a completed exchange the objects that its offset shows. -/
theorem ptpReceived : Obligations.PtpReceived := by
  unfold Obligations.PtpReceived
  refine ⟨?_, ?_, ?_, ?_, ?_, ?_, ?_, ?_, ?_, ?_, ?_, ?_, ?_, ?_, ?_, ?_⟩
  · intro s p q after hon hversion hdomain hslave hparent hstep hsrc
    have hx := State.syncDone_exchanged (s := s.ptpCounted p.val) (n := p.val) (t1 := ptpTicks q + q.correction) (t2 := s.arrival p.val after) hsrc
    have hc := hx.counted
    refine ⟨_, exec_syncReceived_oneStep hon hversion hdomain hslave hparent hstep, hx.port, fun hd hpeer => ?_, fun hd => hx.offset rfl hd, hc.1, ?_⟩
    · obtain ⟨h1, h2, _⟩ := hx.times rfl hd hpeer
      exact ⟨h1, h2⟩
    · exact State.settling_of_sync (s := s) (x := { s.ptpPort p.val with haveSync := true }) rfl ▸ hc.2
  · intro s p q after hon hversion hdomain hslave hparent hstep
    exact ⟨_, exec_syncReceived_twoStep hon hversion hdomain hslave hparent hstep, State.ptpPort_setPtp_same .., State.ptpCounted_count,
      Effect.countPort (by simp)⟩
  · intro s p q e hon hversion hdomain hsync hseq hsrc
    have hx := State.syncDone_exchanged (s := s.ptpCounted p.val) (n := p.val) (t1 := ptpTicks q + q.correction + e.corr) (t2 := e.t) hsrc
    have hc := hx.counted
    refine ⟨_, exec_followUpReceived hon hversion hdomain hsync hseq, hx.port, fun hd hpeer => ?_, fun hd => hx.offset rfl hd, hc.1, ?_⟩
    · obtain ⟨h1, h2, _⟩ := hx.times rfl hd hpeer
      exact ⟨h1, h2⟩
    · exact State.settling_of_sync (s := s) (x := { s.ptpPort p.val with haveSync := true }) rfl ▸ hc.2
  · intro s p
    exact ⟨_, rfl, State.ptpPort_setPtp_same .., Effect.refl⟩
  · intro s p q e hon hversion hdomain hdelay hseq hid hnumber hsrc hsync
    have hexec := exec_delayRespReceived hon hversion hdomain hdelay hseq (State.forUs_iff.mpr ⟨hid, hnumber⟩)
    rw [if_pos hsync] at hexec
    have hx := Exchanged.of_setPtp (State.ptpStatus_exchanged
      (s := (s.ptpCounted p.val).setPtp p.val { s.ptpPort p.val with
        delay := none, t3 := e.t, t4 := ptpTicks q - q.correction, haveDelay := true,
        mpd2 := ((s.ptpPort p.val).t2 - (s.ptpPort p.val).t1) + (ptpTicks q - q.correction - e.t) }) hsrc (State.ptpPort_setPtp_same ..))
    have hc := hx.counted
    refine ⟨_, hexec, hx.port, fun hpeer => ?_, ?_, hx.offset hsync rfl, hc.1, ?_⟩
    · obtain ⟨_, _, h3, h4⟩ := hx.times hsync rfl hpeer
      exact ⟨h3, h4⟩
    · have hmpd := hx.mpd hsync rfl
      push_cast at hmpd ⊢
      exact hmpd
    · have heffect := hc.2
      rw [State.settling_of_delay rfl] at heffect
      simpa [hsync] using heffect
  · intro s p q e hon hversion hdomain hdelay hseq hid hnumber hsync
    have hexec := exec_delayRespReceived hon hversion hdomain hdelay hseq (State.forUs_iff.mpr ⟨hid, hnumber⟩)
    rw [if_neg (by simp [hsync])] at hexec
    exact ⟨_, hexec, State.ptpPort_setPtp_same .., State.ptpCounted_count, Effect.countPort (by simp)⟩
  · intro s p q after e hversion hdomain hpdelay hseq hid hnumber hstep hsrc
    obtain ⟨hport, hmpd, hcount, heffect⟩ := State.pdelayDone_counted (s := s) (n := p.val) (t1 := e.t) (t2 := 0) (t3 := q.correction)
      (t4 := s.arrival p.val after) hsrc
    rw [Int.sub_zero] at hmpd
    exact ⟨_, exec_pdelayRespReceived_oneStep hversion hdomain hpdelay hseq (State.forUs_iff.mpr ⟨hid, hnumber⟩) hstep,
      hport.trans (by rw [PtpPort.measured, Int.sub_zero]), hmpd, hcount, heffect⟩
  · intro s p q after e hversion hdomain hpdelay hseq hid hnumber hstep
    exact ⟨_, exec_pdelayRespReceived_twoStep hversion hdomain hpdelay hseq (State.forUs_iff.mpr ⟨hid, hnumber⟩) hstep,
      State.ptpPort_setPtp_same .., State.ptpCounted_count, Effect.countPort (by simp)⟩
  · intro s p q e hversion hdomain hpdelay hseq hid hnumber hwaits hsrc
    obtain ⟨hport, -, hcount, heffect⟩ := State.pdelayDone_counted (s := s) (n := p.val) (t1 := e.t) (t2 := e.t2)
      (t3 := ptpTicks q + q.correction + e.corr) (t4 := e.t4) hsrc
    exact ⟨_, exec_pdelayRespFollowUpReceived hversion hdomain hpdelay hseq (State.forUs_iff.mpr ⟨hid, hnumber⟩) hwaits, hport, hcount, heffect⟩
  · intro s p q after hon hversion hdomain hmaster hpeer
    exact ⟨_, exec_delayReqReceived hon hversion hdomain hmaster hpeer, rfl, State.ptpCounted_count, Effect.countPort (by simp)⟩
  · intro s p q after depart hmode hdelay hdisabled hfaulty hrole hversion hdomain
    exact ⟨_, exec_pdelayReqReceived hmode hdelay hdisabled hfaulty hrole hversion hdomain, rfl, State.ptpCounted_count, Effect.countPort (by simp)⟩
  · intro s p q hon hversion hdomain hmode hrole hforeign
    have hexec := exec_announceReceived hon hversion hdomain hforeign
    rw [if_pos (.inr hrole), show (s.ptpForeign p.val q).ptpPort p.val = _ from State.ptpPort_setPtp_same ..] at hexec
    have hk : SpanFree [O.ptpRxCount.key p.val 0, O.ptpParent.key p.val 0] := (spanFree_nil.key (by decide)).key (by decide)
    have hmine := State.setParent_effect (s := s.ptpForeign p.val q) (n := p.val) (id := q.source.toNat) hk (by simp)
    have hkept : (s.ptpForeign p.val q).reg O.ptpParent p.val = s.reg O.ptpParent p.val := State.ptpCounted_reg ⟨rfl, rfl⟩ (by decide)
    have hcount : (s.ptpForeign p.val q).reg O.ptpRxCount p.val = _ := State.ptpCounted_count
    refine ⟨_, hexec, (State.ptpPort_of_effect hmine).trans (State.ptpPort_setPtp_same ..), State.setParent_parent, ?_, ?_⟩
    · exact (State.setParent_reg ⟨rfl, rfl⟩ (by decide)).trans hcount
    · have heffect := (State.ptpForeign_effect (by simp)).trans hmine hk
      rw [hkept] at heffect
      exact heffect.ptpAside
  · intro s p q hon hversion hdomain hmode hrole hclass hother hforeign
    have hexec := exec_announceReceived hon hversion hdomain hforeign
    rw [if_neg (by rw [hmode, hrole]; decide)] at hexec
    have hport : (s.ptpForeign p.val q).ptpPort p.val = { s.ptpPort p.val with foreign := some (ptpDataSet q) } := State.ptpPort_setPtp_same ..
    have hdata : (s.ptpForeign p.val q).dataSet0 = s.dataSet0 := by
      have hid : (s.ptpForeign p.val q).reg O.ptpClockId = s.reg O.ptpClockId :=
        State.reg_setReg_ne _ _ _ _ _ _ _ _ (key_ne_of_sub (by decide))
      unfold State.dataSet0
      rw [hid]
      rfl
    have hdecided := State.bmcaPort_class (s := s.ptpForeign p.val q) (n := p.val) hmode hrole hclass (congrArg PtpPort.foreign hport)
    rw [State.bmca_one (s := s.ptpForeign p.val q) p.isLt hother (by rw [hdecided]; exact State.plan_of_effect State.setPortState_effect), hdecided,
      hdata] at hexec
    refine ⟨_, hexec, (State.ptpPort_of_effect State.setPortState_effect).trans hport, State.setPortState_state,
      (State.setPortState_reg ⟨rfl, rfl⟩ (by decide)).trans State.ptpCounted_count, ?_⟩
    rw [State.setPortState_rest]
    rfl
  · intro s p hon hmode
    refine ⟨s.setPtp p.val { s.ptpPort p.val with foreign := none }, ?_, State.ptpPort_setPtp_same .., Effect.refl⟩
    exact (if_pos hon).trans (congrArg Host.Outcome.next (State.bmca_idle (s := s.setPtp p.val { s.ptpPort p.val with foreign := none }) hmode))
  · intro s p hon
    exact ⟨_, execSignaling hon, State.reg_setReg_same .., Effect.refl.setReg (by simp)⟩
  · intro s p hon
    exact ⟨_, execManagement hon, State.reg_setReg_same .., Effect.refl.setReg (by simp)⟩

end Sys2Proof.Machine
end

section
/-! SUPPORT. The capture memory (R341 to R352): errors, poison, migration, activate counts, temperatures and training. -/

namespace Sys2Proof.Machine

variable {s t u : State} {ch pos line n : Nat} {evs : List (Nat × Nat)} {keys hids : List Nat}

/-! ### Corrected errors (R341) -/

/-- The times of a position's corrected errors within the last hour, with one now. -/
def State.ceRecent (s : State) (ch pos : Nat) : List Nat :=
  (Map.get s.ceTimes [] (4 * ch + pos)).filter (fun x => decide (s.upTicks < x + 3600 * T96.second)) ++ [s.upTicks]

/-- A corrected error counted. -/
def State.ceCounted (s : State) (ch pos : Nat) : State :=
  { s.bumpSat O.drCeCount ch with ceTimes := Map.put s.ceTimes [] (4 * ch + pos) (s.ceRecent ch pos) }

theorem State.ceCounted_reg {r : Row} {i j : Nat} (h : r.key i j ≠ O.drCeCount.key ch 0) : (s.ceCounted ch pos).reg r i j = s.reg r i j :=
  State.reg_setReg_ne _ _ _ _ _ _ _ _ h

theorem State.ceCounted_count : (s.ceCounted ch pos).reg O.drCeCount ch = satAdd O.drCeCount.width (s.reg O.drCeCount ch) 1 :=
  State.reg_setReg_same ..

theorem State.ceCounted_times : Map.get (s.ceCounted ch pos).ceTimes [] (4 * ch + pos) = s.ceRecent ch pos := Map.get_put_same ..

theorem State.ceCounted_effect (h : O.drCeCount.key ch 0 ∈ keys) : Effect s { s.ceCounted ch pos with ceTimes := s.ceTimes } [] keys hids :=
  (Effect.refl (s := s)).setReg h

/-- The count of channel `ch` and a position's state lie in different places. -/
theorem key_drCeCount_ne {r : Row} {i j : Nat} (h : (r.sub + r.sst * j) % 256 ≠ 5) : r.key i j ≠ O.drCeCount.key ch 0 := by
  simp only [Row.key, O.drCeCount]
  omega

theorem State.drCorrected_eq (hactive : s.reg O.drPosState ch pos = 1) : s.drCorrected ch pos =
    if s.reg O.drCeRetire ≠ 0 ∧ s.reg O.drCeRetire ≤ (s.ceRecent ch pos).length then (s.ceCounted ch pos).drRetire ch pos else s.ceCounted ch pos := by
  have hlimit : (s.ceCounted ch pos).reg O.drCeRetire = s.reg O.drCeRetire := State.ceCounted_reg (key_drCeCount_ne (by decide))
  unfold State.drCorrected
  dsimp only
  rw [if_neg (by rw [hactive]; decide), ← hlimit]
  rfl

theorem State.drCorrected_few (hactive : s.reg O.drPosState ch pos = 1)
    (hfew : s.reg O.drCeRetire = 0 ∨ (s.ceRecent ch pos).length < s.reg O.drCeRetire) : s.drCorrected ch pos = s.ceCounted ch pos := by
  rw [State.drCorrected_eq hactive, if_neg (by omega)]

/-! ### Positions and the migration queue (R344) -/

theorem State.drSpare_congr (h : ∀ p < 3, t.reg O.drPosState ch p = s.reg O.drPosState ch p) : t.drSpare ch = s.drSpare ch := by
  unfold State.drSpare
  simp only [show List.range 3 = [0, 1, 2] from rfl, List.find?, h 0 (by decide), h 1 (by decide), h 2 (by decide)]

theorem State.drSpare_some {sp : Nat} (h : s.drSpare ch = some sp) : sp < 3 ∧ s.reg O.drPosState ch sp = DP.spare := by
  obtain hmem := List.mem_of_find?_eq_some h
  have hfound := List.find?_some h
  exact ⟨List.mem_range.mp hmem, by simpa using hfound⟩

/-- Some position migrates from. -/
def State.migRunning (s : State) : Bool := (List.range 4).any (fun ch => (List.range 3).any (fun p => s.reg O.drPosState ch p == DP.from_))

theorem State.migRunning_iff : s.migRunning = true ↔ ∃ ch < 4, ∃ p < 3, s.reg O.drPosState ch p = DP.from_ := by
  simp [State.migRunning]

theorem State.setMigState_state : s.setMigState.reg O.drMigState = if s.migRunning then 1 else if s.migQueue.isEmpty then 0 else 2 :=
  State.reg_setReg_same ..

theorem State.drRetire_queued (hactive : s.reg O.drPosState ch pos = 1) (hnew : (ch, pos) ∉ s.migQueue) (hspare : (s.drSpare ch).isSome = true) :
    s.drRetire ch pos = { s with migQueue := s.migQueue ++ [(ch, pos)] }.setMigState := by
  unfold State.drRetire
  rw [if_neg (by rintro (h | h); exacts [h hactive, hnew h]), if_pos hspare]

theorem State.drRetire_spareless (hactive : s.reg O.drPosState ch pos = 1) (hnew : (ch, pos) ∉ s.migQueue) (hspare : s.drSpare ch = none) :
    s.drRetire ch pos = s.drNoSpare ch pos := by
  unfold State.drRetire
  rw [if_neg (by rintro (h | h); exacts [h hactive, hnew h]), hspare]
  rfl

theorem State.drRetire_other (h : s.reg O.drPosState ch pos ≠ 1) : s.drRetire ch pos = s := if_pos (.inl h)

/-! ### Uncorrectable errors (R342, R343) -/

/-- Channel of a line, and the position that serves it. -/
abbrev State.drAt (s : State) (line : Nat) : Nat × Nat := (s.drSub (64 * line) / 2, s.drServes line)

/-- An error at a line not poisoned before: the line is poisoned, the error counted and told. -/
def State.lineLost (s : State) (line : Nat) : State :=
  ((((s.setPoison line true).bumpSat O.drPoisonLines).bumpSat O.drUeCount (s.drAt line).1).raise 0x7C2
    ((s.drAt line).1 + 4 * (s.drAt line).2 + 256 * line))

theorem State.drLost_eq (h : s.poisoned line = false) : s.drLost line = (s.lineLost line).drRetire (s.drAt line).1 (s.drAt line).2 := by
  unfold State.drLost State.lineLost
  rw [h]
  rfl

/-- The machine with other poison. -/
def State.withPoison (s : State) (m : Map Nat) : State := { s with poison := m }

section
variable (s : State) (m : Map Nat)

@[simp] theorem State.setReg_withPoison (r : Row) (v i j : Nat) : (s.setReg r v i j).withPoison m = (s.withPoison m).setReg r v i j := rfl
@[simp] theorem State.bumpSat_withPoison (r : Row) (i j k : Nat) : (s.bumpSat r i j k).withPoison m = (s.withPoison m).bumpSat r i j k := rfl
@[simp] theorem State.portBytes_withPoison (p k : Nat) : (s.portBytes p k).withPoison m = (s.withPoison m).portBytes p k := rfl
@[simp] theorem State.setPoison_withPoison (l : Nat) (b : Bool) : (s.setPoison l b).withPoison m = s.withPoison m := rfl
@[simp] theorem State.fault_withPoison (src d : Nat) : (s.fault src d).withPoison m = (s.withPoison m).fault src d := rfl
@[simp] theorem State.withPoison_self : s.withPoison s.poison = s := rfl

@[simp] theorem State.raise_withPoison (e d : Nat) : (s.raise e d).withPoison m = (s.withPoison m).raise e d := by
  rw [State.raise_eq, State.raise_eq]
  rfl

end

/-- The objects that a lost line counts in. -/
abbrev lostKeys (s : State) (line : Nat) : List Nat := [O.drPoisonLines.key 0 0, O.drUeCount.key (s.drAt line).1 0]

theorem SpanFree.dram : SpanFree (lostKeys s line) := (spanFree_nil.key (by decide)).key (by decide)

theorem State.lineLost_effect (hp : O.drPoisonLines.key 0 0 ∈ keys) (hu : O.drUeCount.key (s.drAt line).1 0 ∈ keys) (hk : SpanFree keys) :
    Effect s ((s.lineLost line).withPoison s.poison) [(0x7C2, (s.drAt line).1 + 4 * (s.drAt line).2 + 256 * line)] keys hids := by
  unfold State.lineLost
  simp only [State.raise_withPoison, State.bumpSat_withPoison, State.setPoison_withPoison, State.withPoison_self]
  exact ((Effect.refl.setReg hp).setReg hu).raise _ _ hk

theorem mergedKey_dram {r : Row} {i j : Nat} (h : 0x3000 ≤ r.idx) : r.key i j ≠ mergedKey := by
  have hmerged : mergedKey = 0x58005 := rfl
  simp only [Row.key, hmerged]
  have := Nat.mul_le_mul_right 256 (h.trans (Nat.le_add_right r.idx (r.ist * i)))
  omega

theorem State.lineLost_reg {r : Row} {i j : Nat} (hr : 0x3000 ≤ r.idx) (hp : r.key i j ≠ O.drPoisonLines.key 0 0)
    (hu : r.key i j ≠ O.drUeCount.key (s.drAt line).1 0) : (s.lineLost line).reg r i j = s.reg r i j := by
  unfold State.lineLost
  rw [State.reg_raise_ne _ _ _ _ _ _ (mergedKey_dram hr)]
  exact (State.reg_setReg_ne _ _ _ _ _ _ _ _ hu).trans (State.reg_setReg_ne _ _ _ _ _ _ _ _ hp)

theorem State.lineLost_lines : (s.lineLost line).reg O.drPoisonLines = satAdd O.drPoisonLines.width (s.reg O.drPoisonLines) 1 := by
  unfold State.lineLost
  rw [State.reg_raise_ne _ _ _ _ _ _ (mergedKey_dram (by decide))]
  exact (State.reg_setReg_ne _ _ _ _ _ _ _ _ (key_ne_of_sub (by decide))).trans (State.reg_setReg_same ..)

theorem State.lineLost_errors : (s.lineLost line).reg O.drUeCount (s.drAt line).1 = satAdd O.drUeCount.width (s.reg O.drUeCount (s.drAt line).1) 1 := by
  have hkept : ((s.setPoison line true).bumpSat O.drPoisonLines).reg O.drUeCount (s.drAt line).1 = s.reg O.drUeCount (s.drAt line).1 :=
    State.reg_setReg_ne _ _ _ _ _ _ _ _ (key_ne_of_sub (by decide))
  unfold State.lineLost
  rw [State.reg_raise_ne _ _ _ _ _ _ (mergedKey_dram (by decide)), State.bumpSat, State.reg_setReg_same, hkept]

theorem State.poisoned_setPoison (s : State) (l line : Nat) : (s.setPoison line true).poisoned l = (decide (l = line) || s.poisoned l) := by
  by_cases h : l = line
  · simp [State.poisoned, State.setPoison, h, b2n]
  · simp [State.poisoned, State.setPoison, Map.get_put_ne _ _ _ _ h, h]

/-- A machine whose poison is that of one line more reads 0 there, and elsewhere as before. -/
theorem State.readByte_poisoned (hmem : t.mem = s.mem) (hpoison : t.poison = (s.setPoison line true).poison)
    (horder : t.hidden H.memOrder = s.hidden H.memOrder) (a : Nat) : t.readByte a = if a / 64 = line then 0 else s.readByte a := by
  have hat : t.poisoned (a / 64) = (decide (a / 64 = line) || s.poisoned (a / 64)) := by
    rw [← State.poisoned_setPoison]
    exact congrArg (fun m => Map.get m 0 (a / 64) == 1) hpoison
  unfold State.readByte State.orderMask
  rw [hat, hmem, horder]
  by_cases h : a / 64 = line
  · simp [h]
  · simp [h]

/-- What a command of the memory controller leaves of a line that it has lost. -/
theorem State.lost_reads (h : Effect s (t.withPoison s.poison) evs keys hids) (horder : hkey H.memOrder ∉ hids)
    (hpoison : t.poison = (s.setPoison line true).poison) :
    t.poisoned line = true ∧ ∀ a, t.readByte a = if a / 64 = line then 0 else s.readByte a := by
  have hmem : (t.withPoison s.poison).mem = s.mem := by rw [h.1]
  have hkept : (t.withPoison s.poison).hidden H.memOrder = s.hidden H.memOrder := h.hidden horder
  refine ⟨?_, State.readByte_poisoned hmem hpoison hkept⟩
  have hat := State.poisoned_setPoison s line line
  rw [decide_eq_true rfl, Bool.true_or] at hat
  exact (congrArg (fun m => Map.get m 0 line == 1) hpoison).trans hat

/-- The channel, the failing position and the spare of a migration. -/
theorem State.migrating_some {f g : Nat} (h : s.migrating = some (ch, f, g)) :
    ch < 4 ∧ f < 3 ∧ g < 3 ∧ s.reg O.drPosState ch f = DP.from_ ∧ s.reg O.drPosState ch g = DP.to_ := by
  obtain ⟨c, hc, hfound⟩ := List.exists_of_findSome?_eq_some h
  split at hfound
  · rename_i f' g' hf hg
    obtain ⟨rfl, rfl, rfl⟩ : c = ch ∧ f' = f ∧ g' = g := by simpa using hfound
    have hf' := List.find?_some hf
    have hg' := List.find?_some hg
    exact ⟨List.mem_range.mp hc, List.mem_range.mp (List.mem_of_find?_eq_some hf), List.mem_range.mp (List.mem_of_find?_eq_some hg),
      by simpa using hf', by simpa using hg'⟩
  · simp at hfound

theorem State.drPos_lt (rank : Nat) : s.drPos ch rank < 4 := by
  unfold State.drPos bits
  have hwidth : 2 * rank + 1 + 1 - 2 * rank = 2 := by omega
  rw [hwidth]
  exact Nat.mod_lt _ (by decide)

theorem State.drServes_lt : s.drServes line < 4 := by
  unfold State.drServes
  dsimp only
  split
  · rename_i c f g hmig
    have hspare := (State.migrating_some hmig).2.2.1
    split
    · omega
    · exact State.drPos_lt _
  · exact State.drPos_lt _

/-- A position's state is no object that a lost line counts in. -/
theorem State.lineLost_posState (hn : n < 4) : (s.lineLost line).reg O.drPosState (s.drAt line).1 n = s.reg O.drPosState (s.drAt line).1 n := by
  refine State.lineLost_reg (by decide) ?_ ?_
  · simp only [Row.key, O.drPosState, O.drPoisonLines]
    omega
  · simp only [Row.key, O.drPosState, O.drUeCount]
    omega

theorem State.lineLost_spare : (s.lineLost line).drSpare (s.drAt line).1 = s.drSpare (s.drAt line).1 :=
  State.drSpare_congr fun _ hp => State.lineLost_posState (Nat.lt_succ_of_lt hp)

theorem State.drLost_other (h : s.poisoned line = false) (hpos : s.reg O.drPosState (s.drAt line).1 (s.drAt line).2 ≠ 1) :
    s.drLost line = s.lineLost line := by
  rw [State.drLost_eq h]
  exact State.drRetire_other (by rw [State.lineLost_posState State.drServes_lt]; exact hpos)

theorem State.drLost_spareless (h : s.poisoned line = false) (hpos : s.reg O.drPosState (s.drAt line).1 (s.drAt line).2 = 1)
    (hnew : ((s.drAt line).1, (s.drAt line).2) ∉ s.migQueue) (hspare : s.drSpare (s.drAt line).1 = none) :
    s.drLost line = (s.lineLost line).drNoSpare (s.drAt line).1 (s.drAt line).2 := by
  have hqueue : (s.lineLost line).migQueue = s.migQueue := by
    unfold State.lineLost
    rw [State.raise_eq]
    rfl
  rw [State.drLost_eq h]
  exact State.drRetire_spareless (by rw [State.lineLost_posState State.drServes_lt]; exact hpos) (by rw [hqueue]; exact hnew)
    (by rw [State.lineLost_spare]; exact hspare)

theorem State.lineLost_poison : (s.lineLost line).poison = (s.setPoison line true).poison := by
  unfold State.lineLost
  rw [State.raise_eq]
  rfl

theorem State.portBytes_reg {r : Row} {i j p k : Nat} (h : r.key i j ≠ O.drPortBytes.key p 0) : (s.portBytes p k).reg r i j = s.reg r i j :=
  State.reg_setReg_ne _ _ _ _ _ _ _ _ h

/-- A line lost without its rank retiring, as a port or a command meets it: `t` is what the port's count leaves, or nothing. -/
theorem State.lineLost_spec (hcount : t = s.lineLost line ∨ ∃ p, O.drPortBytes.key p 0 ∈ keys ∧ t = (s.lineLost line).portBytes p 64)
    (hp : O.drPoisonLines.key 0 0 ∈ keys) (hu : O.drUeCount.key (s.drAt line).1 0 ∈ keys) (hk : SpanFree keys) :
    t.poisoned line = true ∧
    t.reg O.drPoisonLines = satAdd O.drPoisonLines.width (s.reg O.drPoisonLines) 1 ∧
    t.reg O.drUeCount (s.drAt line).1 = satAdd O.drUeCount.width (s.reg O.drUeCount (s.drAt line).1) 1 ∧
    (∀ a, t.readByte a = if a / 64 = line then 0 else s.readByte a) ∧
    Effect s { t with poison := s.poison } [(0x7C2, (s.drAt line).1 + 4 * (s.drAt line).2 + 256 * line)] keys [] := by
  have hlost : Effect s ((s.lineLost line).withPoison s.poison) _ keys [] := State.lineLost_effect hp hu hk
  have hfacts : Effect s (t.withPoison s.poison) [(0x7C2, (s.drAt line).1 + 4 * (s.drAt line).2 + 256 * line)] keys [] ∧
      t.poison = (s.setPoison line true).poison ∧ t.reg O.drPoisonLines = (s.lineLost line).reg O.drPoisonLines ∧
      t.reg O.drUeCount (s.drAt line).1 = (s.lineLost line).reg O.drUeCount (s.drAt line).1 := by
    rcases hcount with rfl | ⟨p, hport, rfl⟩
    · exact ⟨hlost, State.lineLost_poison, rfl, rfl⟩
    · exact ⟨hlost.setReg hport, State.lineLost_poison, State.portBytes_reg (key_ne_of_sub (by decide)),
        State.portBytes_reg (key_ne_of_sub (by decide))⟩
  obtain ⟨heffect, hpoison, hlines, herrors⟩ := hfacts
  obtain ⟨hline, hreads⟩ := State.lost_reads heffect (by simp) hpoison
  exact ⟨hline, hlines.trans State.lineLost_lines, herrors.trans State.lineLost_errors, hreads, heffect⟩

end Sys2Proof.Machine
end

section
/-! SUPPORT. Migration (R344 to R346), activate counts, temperatures and training of the capture memory. -/

namespace Sys2Proof.Machine

variable {s t u : State} {ch pos line n : Nat} {evs : List (Nat × Nat)} {keys hids : List Nat}

theorem Effect.fault {src d : Nat} (h : Effect s t evs keys hids) (hdrive : hkey H.drive src ∈ hids) (hdata : hkey H.driveData src ∈ hids) :
    Effect s (t.fault src d) evs keys hids := (h.setHidden hdrive).setHidden hdata

theorem Effect.portBytes {p k : Nat} (h : Effect s t evs keys hids) (hp : O.drPortBytes.key p 0 ∈ keys) :
    Effect s (t.portBytes p k) evs keys hids := h.setReg hp

@[simp] theorem State.hidden_fault_drive (src d : Nat) : (s.fault src d).hidden H.drive src = 1 := by
  rw [State.fault, State.hidden_setHidden_ne _ _ _ _ _ _ (by simp only [H.drive, H.driveData]; omega), State.hidden_setHidden_same]

/-- A line lost whose rank has no spare, found by a read at a port. -/
def State.lastLost (s : State) (line p : Nat) : State := ((s.lineLost line).drNoSpare (s.drAt line).1 (s.drAt line).2).portBytes p 64

theorem State.lastLost_effect {p : Nat} (hk : SpanFree keys) (hlines : O.drPoisonLines.key 0 0 ∈ keys)
    (herrors : O.drUeCount.key (s.drAt line).1 0 ∈ keys) (hport : O.drPortBytes.key p 0 ∈ keys)
    (hdrive : hkey H.drive (0x50 + (s.drAt line).1) ∈ hids) (hdata : hkey H.driveData (0x50 + (s.drAt line).1) ∈ hids) :
    Effect s ((s.lastLost line p).withPoison s.poison)
      [(0x7C2, (s.drAt line).1 + 4 * (s.drAt line).2 + 256 * line), (0x7C6, (s.drAt line).1 + 4 * (s.drAt line).2)] keys hids := by
  unfold State.lastLost State.drNoSpare
  simp only [State.portBytes_withPoison, State.fault_withPoison, State.raise_withPoison]
  exact (((State.lineLost_effect hlines herrors hk).append hk).fault hdrive hdata).portBytes hport

theorem State.lastLost_reg {r : Row} {i j p : Nat} (hr : 0x3000 ≤ r.idx) (h : r.key i j ≠ O.drPortBytes.key p 0) :
    (s.lastLost line p).reg r i j = (s.lineLost line).reg r i j := by
  unfold State.lastLost State.drNoSpare
  rw [State.portBytes_reg h, State.reg_fault, State.reg_raise_ne _ _ _ _ _ _ (mergedKey_dram hr)]

theorem State.lastLost_poison {p : Nat} : (s.lastLost line p).poison = (s.setPoison line true).poison := by
  unfold State.lastLost State.drNoSpare
  rw [State.raise_eq]
  exact State.lineLost_poison

/-! ### Migration -/

/-- A rank's move: where it is, and where to. -/
def State.migMoved (s : State) (ch pos sp : Nat) : State :=
  (((s.setReg O.drPosState DP.from_ ch pos).setReg O.drPosState DP.to_ ch sp).setReg O.drMigRank (ch + 4 * s.drLogical ch pos + 16 * pos))

/-- The oldest rank's migration begun, before its state is shown. -/
def State.migPlaced (s : State) (ch pos sp : Nat) (rest : List (Nat × Nat)) : State :=
  (({ s with migQueue := rest }.migMoved ch pos sp).setHidden H.migStart s.upTicks).setReg O.drMigPtr 0

/-- The oldest rank's migration begun. -/
def State.migBegun (s : State) (ch pos sp : Nat) (rest : List (Nat × Nat)) : State :=
  (s.migPlaced ch pos sp rest).setMigState.raise 0x7C3 (ch + 4 * s.drLogical ch pos + 16 * pos)

theorem exec_drMigStart {sp : Nat} {rest : List (Nat × Nat)} (hqueue : s.migQueue = (ch, pos) :: rest) (hidle : s.reg O.drMigState ≠ 1)
    (hspare : s.drSpare ch = some sp) : exec .drMigStart s = .next (s.migBegun ch pos sp rest) := by
  change execDrMigStart s = _
  unfold execDrMigStart
  rw [hqueue]
  have hkept : ({ s with migQueue := rest } : State).drSpare ch = some sp := hspare
  dsimp only
  rw [if_neg hidle, hkept]
  rfl

theorem State.reg_raise_dram {r : Row} {i j e d : Nat} (hr : 0x3000 ≤ r.idx) : (s.raise e d).reg r i j = s.reg r i j :=
  State.reg_raise_ne _ _ _ _ _ _ (mergedKey_dram hr)

/-- Two objects of the memory controller in different places. -/
theorem State.reg_setReg_dram {r q : Row} {v i j i' j' : Nat} (h : q.key i' j' ≠ r.key i j) : (s.setReg r v i j).reg q i' j' = s.reg q i' j' :=
  State.reg_setReg_ne _ _ _ _ _ _ _ _ h

section
variable {sp : Nat} {rest : List (Nat × Nat)}

/-- The machine with another migration queue. -/
def State.withMigs (s : State) (l : List (Nat × Nat)) : State := { s with migQueue := l }

section
variable (s) (l : List (Nat × Nat))
@[simp] theorem State.setReg_withMigs (r : Row) (v i j : Nat) : (s.setReg r v i j).withMigs l = (s.withMigs l).setReg r v i j := rfl
@[simp] theorem State.setHidden_withMigs (k v i : Nat) : (s.setHidden k v i).withMigs l = (s.withMigs l).setHidden k v i := rfl
@[simp] theorem State.raise_withMigs (e d : Nat) : (s.raise e d).withMigs l = (s.withMigs l).raise e d := by
  rw [State.raise_eq, State.raise_eq]
  rfl
end

/-- The objects that the start of a migration writes. -/
abbrev startKeys (ch pos sp : Nat) : List Nat :=
  [O.drPosState.key ch pos, O.drPosState.key ch sp, O.drMigRank.key 0 0, O.drMigPtr.key 0 0, O.drMigState.key 0 0]

theorem startKeys_span : SpanFree (startKeys ch pos sp) :=
  ((((spanFree_nil.key (by decide)).key (by decide)).key (by decide)).key (by decide)).key (by decide)

theorem State.migMoved_effect : Effect s (s.migMoved ch pos sp) [] (startKeys ch pos sp) hids :=
  ((Effect.refl.setReg (by simp)).setReg (by simp)).setReg (by simp)

theorem State.migPlaced_effect : Effect s ((s.migPlaced ch pos sp rest).withMigs s.migQueue) [] (startKeys ch pos sp) [hkey H.migStart] := by
  have h : Effect s (((s.migMoved ch pos sp).setHidden H.migStart s.upTicks).setReg O.drMigPtr 0) [] (startKeys ch pos sp) [hkey H.migStart] :=
    (State.migMoved_effect.setHidden (by simp)).setReg (by simp)
  exact h

theorem State.migBegun_effect : Effect s ((s.migBegun ch pos sp rest).withMigs s.migQueue)
    [(0x7C3, ch + 4 * s.drLogical ch pos + 16 * pos)] (startKeys ch pos sp) [hkey H.migStart] := by
  unfold State.migBegun State.setMigState
  rw [State.raise_withMigs, State.setReg_withMigs]
  exact (State.migPlaced_effect.setReg (by simp)).raise _ _ startKeys_span

theorem State.migPlaced_posState {p : Nat} (hp : p < 3) :
    (s.migPlaced ch pos sp rest).reg O.drPosState ch p = if p = sp then DP.to_ else if p = pos then DP.from_ else s.reg O.drPosState ch p := by
  unfold State.migPlaced State.migMoved
  rw [State.reg_setReg_dram (by simp only [Row.key, O.drPosState, O.drMigPtr]; omega), State.reg_setHidden,
    State.reg_setReg_dram (by simp only [Row.key, O.drPosState, O.drMigRank]; omega)]
  by_cases hsp : p = sp
  · rw [if_pos hsp, hsp, State.reg_setReg_same]
  · rw [if_neg hsp, State.reg_setReg_dram (by simp only [Row.key, O.drPosState]; omega)]
    by_cases hpos : p = pos
    · rw [if_pos hpos, hpos, State.reg_setReg_same]
    · rw [if_neg hpos, State.reg_setReg_dram (by simp only [Row.key, O.drPosState]; omega)]
      rfl

theorem State.migBegun_reg {r : Row} {i j : Nat} (hr : 0x3000 ≤ r.idx) (h : r.key i j ≠ O.drMigState.key 0 0) :
    (s.migBegun ch pos sp rest).reg r i j = (s.migPlaced ch pos sp rest).reg r i j := by
  unfold State.migBegun State.setMigState
  rw [State.reg_raise_dram hr, State.reg_setReg_dram h]

theorem State.migBegun_posState {p : Nat} (hp : p < 3) :
    (s.migBegun ch pos sp rest).reg O.drPosState ch p = if p = sp then DP.to_ else if p = pos then DP.from_ else s.reg O.drPosState ch p :=
  (State.migBegun_reg (by decide) (by simp only [Row.key, O.drPosState, O.drMigState]; omega)).trans (State.migPlaced_posState hp)

theorem State.migBegun_state (hch : ch < 4) (hpos : pos < 3) (h : pos ≠ sp) : (s.migBegun ch pos sp rest).reg O.drMigState = 1 := by
  have hrunning : (s.migPlaced ch pos sp rest).migRunning = true :=
    State.migRunning_iff.mpr ⟨ch, hch, pos, hpos, by rw [State.migPlaced_posState hpos, if_neg h, if_pos rfl]⟩
  unfold State.migBegun
  rw [State.reg_raise_dram (by decide), State.setMigState_state, hrunning, if_pos rfl]

theorem State.migBegun_rank : (s.migBegun ch pos sp rest).reg O.drMigRank = ch + 4 * s.drLogical ch pos + 16 * pos := by
  rw [State.migBegun_reg (by decide) (key_ne_of_sub (by decide)), State.migPlaced, State.reg_setReg_dram (key_ne_of_sub (by decide)),
    State.reg_setHidden, State.migMoved, State.reg_setReg_same]
  rfl

theorem State.migBegun_ptr : (s.migBegun ch pos sp rest).reg O.drMigPtr = 0 := by
  rw [State.migBegun_reg (by decide) (key_ne_of_sub (by decide)), State.migPlaced, State.reg_setReg_same]

theorem State.migBegun_start : (s.migBegun ch pos sp rest).hidden H.migStart = s.upTicks := by
  unfold State.migBegun State.setMigState State.migPlaced
  rw [State.hidden_raise]
  exact State.hidden_setHidden_same ..

theorem State.migBegun_queue : (s.migBegun ch pos sp rest).migQueue = rest := by
  unfold State.migBegun
  rw [State.raise_eq]
  rfl

end

/-! ### The end of a migration -/

/-- The machine without its objects, its hidden scalars, the events that wait and what the ledger is due: what no write, no event and no
retirement changes. -/
def State.bare (s : State) : State := { s with regs := [], hid := [], raises := [], ledgerDue := [] }

@[simp] theorem State.setReg_bare (r : Row) (v i j : Nat) : (s.setReg r v i j).bare = s.bare := rfl
@[simp] theorem State.bumpSat_bare (r : Row) (i j k : Nat) : (s.bumpSat r i j k).bare = s.bare := rfl
@[simp] theorem State.setHidden_bare (k v i : Nat) : (s.setHidden k v i).bare = s.bare := rfl
@[simp] theorem State.fault_bare (src d : Nat) : (s.fault src d).bare = s.bare := rfl
@[simp] theorem State.happen_bare (x : LedgerRec) : (s.happen x).bare = s.bare := rfl

@[simp] theorem State.raise_bare (e d : Nat) : (s.raise e d).bare = s.bare := by
  rw [State.raise_eq]
  rfl

@[simp] theorem State.retire_bare (pool group unit reason : Nat) (hard spare : Bool) : (s.retire pool group unit reason hard spare).bare = s.bare := by
  unfold State.retire
  split <;> rfl

/-- With those given back, it is the machine before. -/
theorem State.of_bare (h : t.bare = s.bare) :
    ({ t with regs := s.regs, hid := s.hid, raises := s.raises, ledgerDue := s.ledgerDue } : State) = s :=
  congrArg (fun u : State => { u with regs := s.regs, hid := s.hid, raises := s.raises, ledgerDue := s.ledgerDue }) h

theorem State.any_event_raise (s : State) (e d : Nat) : (s.raise e d).raises.any (fun r => r.event == e) = true := by
  rw [State.raise_raises]
  exact any_event_pushRaise ..

section
variable {f g : Nat}

theorem State.reg_retire {pool group unit reason : Nat} {hard : Bool} {r : Row} {i j : Nat} (hr : r.key i j < 0x380200) :
    (s.retire pool group unit reason hard true).reg r i j = s.reg r i j := by
  have hspares : r.key i j ≠ O.poolSpares.key 0 (pool - 1) := by
    simp only [Row.key, O.poolSpares] at hr ⊢
    omega
  have hretired : r.key i j ≠ O.poolRetired.key 0 (pool - 1) := by
    simp only [Row.key, O.poolRetired] at hr ⊢
    omega
  exact (State.reg_setReg_ne _ _ _ _ _ _ _ _ hspares).trans (State.reg_setReg_ne _ _ _ _ _ _ _ _ hretired)

theorem State.isRetired_retire {pool group unit reason : Nat} {hard spare : Bool} :
    (s.retire pool group unit reason hard spare).isRetired pool group unit = true := by
  have h : (s.retire pool group unit reason hard spare).hidden H.retired (unitKey pool group unit) = 1 := by
    unfold State.retire
    split
    · exact State.hidden_setHidden_same s H.retired 1 _
    · exact State.hidden_setHidden_same s H.retired 1 _
  simp [State.isRetired, h]

theorem State.isRetired_happen {pool group unit : Nat} {x : LedgerRec} : (s.happen x).isRetired pool group unit = s.isRetired pool group unit := rfl

theorem State.reg_happen {r : Row} {i j : Nat} {x : LedgerRec} : (s.happen x).reg r i j = s.reg r i j := rfl

/-- The objects of an ended migration, before its states are shown: the map moved. -/
def State.migMapped (s : State) (ch f g : Nat) : State :=
  (((s.setReg O.drRankMap (mapRank (s.reg O.drRankMap ch) (s.drLogical ch f) g) ch).setReg O.drPosState DP.retired ch f).setReg
    O.drPosState DP.active ch g).setReg O.drMigPtr (s.reg O.drRankBytes)

/-- The failing position retired. -/
def State.migRetired (s : State) (ch f g : Nat) : State :=
  ((s.migMapped ch f g).retire 6 ch f 0 false true).happen
    { type := 6, pool := 6, group := ch, data := mapRank (s.reg O.drRankMap ch) (s.drLogical ch f) g }

/-- What the two states that the memory controller shows are made of, and the event that goes with them. -/
def State.migShown (s : State) (e : Nat) : State := s.setMigState.setDrBw.raise e (s.reg O.drMigRank)

theorem State.migShown_reg {r : Row} {i j e : Nat} (hr : 0x3000 ≤ r.idx) (hstate : r.key i j ≠ O.drMigState.key 0 0)
    (hbw : r.key i j ≠ O.drBwCapacity.key 0 0) : (s.migShown e).reg r i j = s.reg r i j := by
  unfold State.migShown State.setDrBw State.setMigState
  rw [State.reg_raise_dram hr, State.reg_setReg_dram hbw, State.reg_setReg_dram hstate]

theorem State.migShown_isRetired {pool group unit e : Nat} : (s.migShown e).isRetired pool group unit = s.isRetired pool group unit := by
  unfold State.migShown State.isRetired
  rw [State.hidden_raise]
  rfl

@[simp] theorem State.setMigState_bare : s.setMigState.bare = s.bare := rfl
@[simp] theorem State.setDrBw_bare : s.setDrBw.bare = s.bare := rfl

@[simp] theorem State.migShown_bare {e : Nat} : (s.migShown e).bare = s.bare := by
  simp [State.migShown]

theorem exec_drMigDone (h : s.migrating = some (ch, f, g)) : exec .drMigDone s = .next ((s.migRetired ch f g).migShown 0x7C4) := by
  change execDrMigDone s = _
  unfold execDrMigDone
  rw [h]
  rfl

theorem State.migRetired_reg {r : Row} {i j : Nat} (hr : r.key i j < 0x380200) :
    (s.migRetired ch f g).reg r i j = (s.migMapped ch f g).reg r i j := by
  rw [State.migRetired, State.reg_happen, State.reg_retire hr]

theorem State.migMapped_posState {p : Nat} (hp : p < 3) :
    (s.migMapped ch f g).reg O.drPosState ch p = if p = g then DP.active else if p = f then DP.retired else s.reg O.drPosState ch p := by
  unfold State.migMapped
  rw [State.reg_setReg_dram (by simp only [Row.key, O.drPosState, O.drMigPtr]; omega)]
  by_cases hg : p = g
  · rw [if_pos hg, hg, State.reg_setReg_same]
  · rw [if_neg hg, State.reg_setReg_dram (by simp only [Row.key, O.drPosState]; omega)]
    by_cases hf : p = f
    · rw [if_pos hf, hf, State.reg_setReg_same]
    · rw [if_neg hf, State.reg_setReg_dram (by simp only [Row.key, O.drPosState]; omega),
        State.reg_setReg_dram (by simp only [Row.key, O.drPosState, O.drRankMap]; omega)]

theorem State.migMapped_map (hf : f < 3) (hg : g < 3) :
    (s.migMapped ch f g).reg O.drRankMap ch = mapRank (s.reg O.drRankMap ch) (s.drLogical ch f) g := by
  unfold State.migMapped
  rw [State.reg_setReg_dram (by simp only [Row.key, O.drRankMap, O.drMigPtr]; omega),
    State.reg_setReg_dram (by simp only [Row.key, O.drRankMap, O.drPosState]; omega),
    State.reg_setReg_dram (by simp only [Row.key, O.drRankMap, O.drPosState]; omega), State.reg_setReg_same]

@[simp] theorem State.migRetired_bare : (s.migRetired ch f g).bare = s.bare := by
  simp [State.migRetired, State.migMapped]

/-- The map moved, the failing position retired and the event told: what DR_MIG_DONE leaves. -/
theorem State.migDone_spec (h : s.migrating = some (ch, f, g)) (ht : t = (s.migRetired ch f g).migShown 0x7C4) :
    t.reg O.drRankMap ch = mapRank (s.reg O.drRankMap ch) (s.drLogical ch f) g ∧
    t.reg O.drPosState ch f = 3 ∧
    t.reg O.drPosState ch g = 1 ∧
    t.reg O.drMigPtr = s.reg O.drRankBytes ∧
    t.isRetired 6 ch f = true ∧
    t.raises.any (fun r => r.event == 0x7C4) = true ∧
    ({ t with regs := s.regs, hid := s.hid, raises := s.raises, ledgerDue := s.ledgerDue } : State) = s := by
  obtain ⟨hch, hf, hg, hfrom, hto⟩ := State.migrating_some h
  have hne : f ≠ g := fun heq => absurd (hfrom.symm.trans (heq ▸ hto)) (by decide)
  have hpos {p : Nat} (hp : p < 3) : t.reg O.drPosState ch p = if p = g then DP.active else if p = f then DP.retired else s.reg O.drPosState ch p := by
    rw [ht, State.migShown_reg (by decide) (by simp only [Row.key, O.drPosState, O.drMigState]; omega)
      (by simp only [Row.key, O.drPosState, O.drBwCapacity]; omega), State.migRetired_reg (by simp only [Row.key, O.drPosState]; omega),
      State.migMapped_posState hp]
  refine ⟨?_, ?_, ?_, ?_, ?_, ?_, ?_⟩
  · rw [ht, State.migShown_reg (by decide) (by simp only [Row.key, O.drRankMap, O.drMigState]; omega)
      (by simp only [Row.key, O.drRankMap, O.drBwCapacity]; omega), State.migRetired_reg (by simp only [Row.key, O.drRankMap]; omega),
      State.migMapped_map hf hg]
  · rw [hpos hf, if_neg hne, if_pos rfl]
    rfl
  · rw [hpos hg, if_pos rfl]
    rfl
  · rw [ht, State.migShown_reg (by decide) (by decide) (by decide), State.migRetired_reg (by decide)]
    exact State.reg_setReg_same ..
  · rw [ht, State.migShown_isRetired, State.migRetired, State.isRetired_happen, State.isRetired_retire]
  · rw [ht]
    exact State.any_event_raise ..
  · exact State.of_bare (by simp [ht])

end

end Sys2Proof.Machine
end

section
/-! SUPPORT. A migration that is given up (R346), and the training of the capture memory (R334, R350 to R352). -/

namespace Sys2Proof.Machine

variable {s t u : State} {ch pos line n f g : Nat} {evs : List (Nat × Nat)} {keys hids : List Nat}

/-! ### Events that wait -/

theorem mem_insRaise_of_mem {r q : Raise} {l : List Raise} (h : q ∈ l) : q ∈ insRaise r l := by
  induction l with
  | nil => exact absurd h List.not_mem_nil
  | cons x l ih =>
    unfold insRaise
    split
    · exact List.mem_cons_of_mem _ h
    · rcases List.mem_cons.mp h with rfl | h
      · exact List.mem_cons_self
      · exact List.mem_cons_of_mem _ (ih h)

/-- A merge changes no raise's event. -/
theorem events_mergeRaise {span now event data : Nat} {l l' : List Raise} (h : mergeRaise span now event data l = some l') :
    l'.map Raise.event = l.map Raise.event := by
  induction l generalizing l' with
  | nil => cases h
  | cons r l ih =>
    unfold mergeRaise at h
    split at h
    · obtain rfl := Option.some.inj h
      rfl
    · obtain ⟨l'', hl, rfl⟩ := Option.map_eq_some_iff.mp h
      simp [ih hl]

/-- An event that waits still waits after a further raise. -/
theorem State.any_event_raise_of {e d e' : Nat} (h : s.raises.any (fun r => r.event == e') = true) :
    (s.raise e d).raises.any (fun r => r.event == e') = true := by
  rw [State.raise_raises]
  unfold pushRaise
  split
  · next hmerged =>
    have hevents := events_mergeRaise hmerged
    have hany (m : List Raise) : m.any (fun r => r.event == e') = (m.map Raise.event).any (· == e') := by rw [List.any_map]; rfl
    rw [hany, hevents, ← hany]
    exact h
  · obtain ⟨r, hr, hevent⟩ := List.any_eq_true.mp h
    exact List.any_eq_true.mpr ⟨r, mem_insRaise_of_mem hr, hevent⟩

/-- A raise waits with its data. -/
theorem mem_mergeRaise {span now event data : Nat} {l l' : List Raise} (h : mergeRaise span now event data l = some l') :
    ∃ r ∈ l', r.event = event ∧ r.data = data := by
  induction l generalizing l' with
  | nil => cases h
  | cons r l ih =>
    unfold mergeRaise at h
    split at h
    · next hsame =>
      obtain rfl := Option.some.inj h
      exact ⟨_, List.mem_cons_self, hsame.1, rfl⟩
    · obtain ⟨l'', hl, rfl⟩ := Option.map_eq_some_iff.mp h
      obtain ⟨q, hq, hfacts⟩ := ih hl
      exact ⟨q, List.mem_cons_of_mem _ hq, hfacts⟩

theorem State.any_data_raise (s : State) (e d : Nat) : (s.raise e d).raises.any (fun r => r.event == e && r.data == d) = true := by
  have hmem : ∃ r ∈ (s.raise e d).raises, r.event = e ∧ r.data = d := by
    rw [State.raise_raises]
    unfold pushRaise
    split
    · next hmerged => exact mem_mergeRaise hmerged
    · exact ⟨_, mem_insRaise .., rfl, rfl⟩
  obtain ⟨r, hr, he, hd⟩ := hmem
  exact List.any_eq_true.mpr ⟨r, hr, by simp [he, hd]⟩

/-! ### A migration given up -/

/-- A line written only to the spare is lost, and counted where it was not before. -/
def State.lineGone (s : State) (line : Nat) : State :=
  if s.poisoned line then s else (s.setPoison line true).bumpSat O.drPoisonLines

theorem State.lineGone_reg {r : Row} {i j : Nat} (h : r.key i j ≠ O.drPoisonLines.key 0 0) : (s.lineGone line).reg r i j = s.reg r i j := by
  unfold State.lineGone
  split
  · rfl
  · exact State.reg_setReg_ne _ _ _ _ _ _ _ _ h

theorem State.lineGone_poisoned : (s.lineGone line).poisoned line = true := by
  unfold State.lineGone
  split
  · assumption
  · have h := State.poisoned_setPoison s line line
    rw [decide_eq_true rfl, Bool.true_or] at h
    exact h

/-- The failing position stays in service, and the spare is retired. -/
def State.migGivenUp (s : State) (ch f g : Nat) : State :=
  ((s.setReg O.drPosState DP.active ch f).setReg O.drPosState DP.retired ch g).retire 6 ch g 0 true true

theorem exec_drMigAbort (h : s.migrating = some (ch, f, g)) (hline : 64 * line < s.reg O.drCapacity) (hbelow : s.belowPtr line = true) :
    exec (.drMigAbort [line]) s = .next ((((s.lineGone line).migGivenUp ch f g).migShown 0x7C5).drNoSpare ch f) := by
  change execDrMigAbort [line] s = _
  unfold execDrMigAbort
  rw [h]
  have hlost : (if (s.noLine line || s.poisoned line || !s.belowPtr line) = true then s else (s.setPoison line true).bumpSat O.drPoisonLines)
      = s.lineGone line := by
    simp [State.lineGone, State.noLine, hbelow, Nat.not_le.mpr hline]
  simp only [List.foldl, hlost]
  rfl

theorem State.migGivenUp_posState {p : Nat} (hch : ch < 4) (hp : p < 3) :
    (s.migGivenUp ch f g).reg O.drPosState ch p = if p = g then DP.retired else if p = f then DP.active else s.reg O.drPosState ch p := by
  unfold State.migGivenUp
  rw [State.reg_retire (by simp only [Row.key, O.drPosState]; omega)]
  by_cases hg : p = g
  · rw [if_pos hg, hg, State.reg_setReg_same]
  · rw [if_neg hg, State.reg_setReg_dram (by simp only [Row.key, O.drPosState]; omega)]
    by_cases hf : p = f
    · rw [if_pos hf, hf, State.reg_setReg_same]
    · rw [if_neg hf, State.reg_setReg_dram (by simp only [Row.key, O.drPosState]; omega)]

theorem State.drNoSpare_reg {r : Row} {i j : Nat} (hr : 0x3000 ≤ r.idx) : (s.drNoSpare ch pos).reg r i j = s.reg r i j := by
  unfold State.drNoSpare
  rw [State.reg_fault, State.reg_raise_dram hr]

theorem State.drNoSpare_isRetired {pool group unit : Nat} (hch : ch < 4) : (s.drNoSpare ch pos).isRetired pool group unit = s.isRetired pool group unit := by
  have h : ((s.raise 0x7C6 (ch + 4 * pos)).fault (0x50 + ch) pos).hidden H.retired (unitKey pool group unit) =
      s.hidden H.retired (unitKey pool group unit) := by
    rw [State.fault, State.hidden_setHidden_ne _ _ _ _ _ _ (by simp only [H.retired, H.driveData]; omega),
      State.hidden_setHidden_ne _ _ _ _ _ _ (by simp only [H.retired, H.drive]; omega), State.hidden_raise]
  unfold State.drNoSpare State.isRetired
  rw [h]

@[simp] theorem State.drNoSpare_bare : (s.drNoSpare ch pos).bare = s.bare := by
  simp [State.drNoSpare]

@[simp] theorem State.migGivenUp_bare : (s.migGivenUp ch f g).bare = s.bare := by
  simp [State.migGivenUp]

theorem State.setMigState_withPoison (m : Map Nat) : s.setMigState.withPoison m = (s.withPoison m).setMigState := rfl

/-- What poison there is, is not what the rest goes by. -/
theorem State.bare_withPoison (m : Map Nat) : (s.withPoison m).bare = s.bare.withPoison m := rfl

theorem State.lineGone_bare : (s.lineGone line).bare.withPoison s.poison = s.bare := by
  unfold State.lineGone
  split <;> rfl

theorem State.poisoned_of_bare (h : t.bare = u.bare) (l : Nat) : t.poisoned l = u.poisoned l := by
  change (Map.get t.bare.poison 0 l == 1) = (Map.get u.bare.poison 0 l == 1)
  rw [h]

theorem State.migAbort_spec (h : s.migrating = some (ch, f, g))
    (ht : t = (((s.lineGone line).migGivenUp ch f g).migShown 0x7C5).drNoSpare ch f) :
    t.poisoned line = true ∧
    t.reg O.drPosState ch f = 1 ∧
    t.reg O.drPosState ch g = 3 ∧
    t.isRetired 6 ch g = true ∧
    t.raises.any (fun r => r.event == 0x7C5) = true ∧
    ({ t with regs := s.regs, hid := s.hid, raises := s.raises, ledgerDue := s.ledgerDue, poison := s.poison } : State) = s := by
  obtain ⟨hch, hf, hg, hfrom, hto⟩ := State.migrating_some h
  have hne : f ≠ g := fun heq => absurd (hfrom.symm.trans (heq ▸ hto)) (by decide)
  have hbare : t.bare = (s.lineGone line).bare := by rw [ht]; simp
  have hpos {p : Nat} (hp : p < 3) : t.reg O.drPosState ch p =
      if p = g then DP.retired else if p = f then DP.active else (s.lineGone line).reg O.drPosState ch p := by
    rw [ht, State.drNoSpare_reg (by decide), State.migShown_reg (by decide) (by simp only [Row.key, O.drPosState, O.drMigState]; omega)
      (by simp only [Row.key, O.drPosState, O.drBwCapacity]; omega), State.migGivenUp_posState hch hp]
  refine ⟨(State.poisoned_of_bare hbare line).trans State.lineGone_poisoned, ?_, ?_, ?_, ?_, ?_⟩
  · rw [hpos hf, if_neg hne, if_pos rfl]
    rfl
  · rw [hpos hg, if_pos rfl]
    rfl
  · rw [ht, State.drNoSpare_isRetired hch, State.migShown_isRetired, State.migGivenUp, State.isRetired_retire]
  · rw [ht]
    exact State.any_event_raise_of (State.any_event_raise ..)
  · have hrest : (t.withPoison s.poison).bare = s.bare := by rw [State.bare_withPoison, hbare, State.lineGone_bare]
    exact State.of_bare hrest

end Sys2Proof.Machine
end

section
/-! SUPPORT. The training of the capture memory (R334, R350 to R352), and what its commands leave. -/

namespace Sys2Proof.Machine

variable {s t u : State} {ch pos p line n f g : Nat} {evs : List (Nat × Nat)} {keys hids : List Nat} {found : List RankTrain}

/-! ### Training -/

/-- Twelve ranks of 8 GiB sub-channels, all of them good. -/
def twelveGood : List RankTrain := List.replicate 12 { populated := true, sizeLog := 3, failed := 0 }

/-- No position retired, and every channel keeps a spare. -/
structure AllFit (s : State) : Prop where
  unretired : ∀ ch < 4, ∀ p < 3, s.isRetired 6 ch p = false
  spares : s.reg O.drSpareCfg = 15

theorem AllFit.setReg {r : Row} {v i j : Nat} (h : AllFit s) (hr : O.drSpareCfg.key 0 0 ≠ r.key i j) : AllFit (s.setReg r v i j) :=
  ⟨h.unretired, (State.reg_setReg_dram hr).trans h.spares⟩

theorem foundAt_twelveGood (hch : ch < 4) (hp : p < 3) : foundAt twelveGood ch p = { populated := true, sizeLog := 3, failed := 0 } := by
  interval_cases ch <;> interval_cases p <;> rfl

theorem AllFit.works (h : AllFit s) (hch : ch < 4) (hp : p < 3) : s.drWorks twelveGood ch p = true := by
  simp [State.drWorks, foundAt_twelveGood hch hp, h.unretired ch hch p hp]

theorem AllFit.spareBit (h : AllFit s) (hch : ch < 4) : s.drSpareBit twelveGood ch = true := by
  have hbit : bit 15 ch = true := by interval_cases ch <;> rfl
  rw [State.drSpareBit, h.spares, h.works hch (by decide), hbit]
  rfl

theorem AllFit.logicals (h : AllFit s) (hch : ch < 4) : s.drLogicals twelveGood ch false = [0, 1] := by
  have hranks : List.range 3 = [0, 1, 2] := rfl
  simp [State.drLogicals, hranks, h.spareBit hch, foundAt_twelveGood hch, h.works hch]

theorem AllFit.trained (h : AllFit s) (hch : ch < 4) (hp : p < 3) :
    s.drTrained twelveGood ch p 2 [0, 1] false = if p = 2 then DP.spare else DP.active := by
  unfold State.drTrained
  rw [h.unretired ch hch p hp, foundAt_twelveGood hch hp, h.spareBit hch]
  interval_cases p <;> rfl

/-- The states of the twelve positions: two active, one spare. -/
def State.allPlaced (s : State) : State :=
  (List.range 4).foldl (fun s ch => (List.range 3).foldl (fun s p => s.setReg O.drPosState (if p = 2 then DP.spare else DP.active) ch p) s) s

/-- A fold over numbers below a bound whose steps agree on what keeps an invariant. -/
theorem State.foldl_range_congr {P : State → Prop} {f g : State → Nat → State} {k : Nat} (hs : P s) (hstep : ∀ u, P u → ∀ a < k, f u a = g u a ∧ P (g u a)) :
    (List.range k).foldl f s = (List.range k).foldl g s ∧ P ((List.range k).foldl g s) := by
  have hmem : ∀ l : List Nat, (∀ a ∈ l, a < k) → ∀ u, P u → l.foldl f u = l.foldl g u ∧ P (l.foldl g u) := by
    intro l
    induction l with
    | nil => exact fun _ u hu => ⟨rfl, hu⟩
    | cons a l ih =>
      intro hl u hu
      obtain ⟨heq, hkept⟩ := hstep u hu a (hl a List.mem_cons_self)
      rw [List.foldl_cons, List.foldl_cons, heq]
      exact ih (fun b hb => hl b (List.mem_cons_of_mem _ hb)) _ hkept
  exact hmem _ (fun a ha => List.mem_range.mp ha) s hs

/-- What training shows at each position. -/
def State.posShown (s : State) (found : List RankTrain) (n : Nat) (two : Bool) : State :=
  (List.range 4).foldl (fun s ch => (List.range 3).foldl (fun s p =>
    let f := foundAt found ch p
    let s := if f.populated && f.failed.val != 0 then s.raise 0x7C1 (ch + 4 * p + 16 * f.failed.val) else s
    s.setReg O.drPosState (s.drTrained found ch p n (s.drLogicals found ch two) two) ch p) s) s

theorem AllFit.posShown (h : AllFit s) : s.posShown twelveGood 2 false = s.allPlaced ∧ AllFit s.allPlaced := by
  refine State.foldl_range_congr h fun u hu ch hch => State.foldl_range_congr hu fun v hv p hp => ⟨?_, hv.setReg ?_⟩
  · rw [foundAt_twelveGood hch hp]
    dsimp only
    rw [if_neg (by decide), hv.logicals hch, hv.trained hch hp]
  · simp only [Row.key, O.drSpareCfg, O.drPosState]
    omega

/-- The map of a channel's ranks: rank 0 at position 0, rank 1 at position 1. -/
def State.allMapped (s : State) : State := (List.range 4).foldl (fun s ch => s.setReg O.drRankMap 0x24 ch) s

/-- What training maps, with `n` ranks in use. -/
def State.ranksMapped (s : State) (found : List RankTrain) (n : Nat) (two : Bool) : State :=
  (List.range 4).foldl (fun s ch =>
    let l := s.drLogicals found ch two
    s.setReg O.drRankMap ((List.range (min n l.length)).foldl (fun v i => mapRank v i (l.getD i 0)) 0x24) ch) s

theorem AllFit.ranksMapped (h : AllFit s) : s.ranksMapped twelveGood 2 false = s.allMapped := by
  refine (State.foldl_range_congr (P := AllFit) h fun u hu ch hch => ⟨?_, hu.setReg ?_⟩).1
  · rw [hu.logicals hch]
    rfl
  · simp only [Row.key, O.drSpareCfg, O.drRankMap]
    omega

/-- A channel's logical ranks in a count over all. -/
theorem AllFit.count (h : AllFit s) : ((List.range 4).map (fun ch => (s.drLogicals twelveGood ch false).length)).foldl min 3 = 2 := by
  have hchannels : List.range 4 = [0, 1, 2, 3] := rfl
  simp [hchannels, h.logicals]

/-- Capacity and ranks, after the positions and their map. -/
def State.sized (s : State) (cap sub n : Nat) : State :=
  (((s.setReg O.drState 2).setReg O.drCapacity cap).setReg O.drRankBytes (2 * sub)).setReg O.drActiveRanks n

/-- Zeroing starts, unless the contents stay (R488). -/
def State.zeroing (s : State) (cap : Nat) : State :=
  if s.hidden H.drWarm = 1 then s.setReg O.drZeroPtr cap
  else (({ s with mem := [], poison := [] }.setReg O.drZeroPtr 0).setHidden H.memOrder 0).setHidden H.zeroStart (s.upTicks + 1)

/-- The memory is ready. -/
def State.drReady (s : State) (cap : Nat) : State :=
  ((s.setReg O.poolSpares ((List.range 12).filter (fun k => s.reg O.drPosState (k / 3) (k % 3) == DP.spare)).length 0 5).setDrBw).raise 0x7C0 cap

/-- Ranks that every channel can give. -/
def State.ranksOf (s : State) (found : List RankTrain) (two : Bool) : Nat :=
  ((List.range 4).map (fun ch => (s.drLogicals found ch two).length)).foldl min 3

/-- Bytes of a sub-channel of a rank. -/
def subBytes (found : List RankTrain) : Nat := 2 ^ (found.map (fun f => if f.populated then f.sizeLog.val else 0)).foldl max 0 * 2 ^ 30

/-- All ranks would be more than the device addresses. -/
def State.ranksTwo (s : State) (found : List RankTrain) : Bool := decide (512 * 2 ^ 30 < 8 * s.ranksOf found false * subBytes found)

/-- Training with `n` ranks. -/
def State.trainedWith (s : State) (found : List RankTrain) (two : Bool) (n cap : Nat) : State :=
  if n = 0 then (((s.posShown found n two).setReg O.drState 3).setReg O.drCapacity 0).fault 0x58 0
  else ((((s.posShown found n two).ranksMapped found n two).sized cap (subBytes found) n).zeroing cap).drReady cap

theorem exec_drTrainingDone (hstate : s.reg O.drState = 1) : exec (.drTrainingDone found) s =
    .next (s.trainedWith found (s.ranksTwo found) (s.ranksOf found (s.ranksTwo found))
      (8 * s.ranksOf found (s.ranksTwo found) * subBytes found)) := by
  change execDrTrainingDone found s = _
  unfold execDrTrainingDone
  rw [if_neg (by rw [hstate]; decide)]
  exact (apply_ite Host.Outcome.next _ _ _).symm

theorem exec_drTrainingDone_good (hstate : s.reg O.drState = 1) (h : AllFit s) :
    exec (.drTrainingDone twelveGood) s = .next (((s.allPlaced.allMapped.sized (2 ^ 37) (2 ^ 33) 2).zeroing (2 ^ 37)).drReady (2 ^ 37)) := by
  have hsub : subBytes twelveGood = 2 ^ 33 := rfl
  have hranks : s.ranksOf twelveGood false = 2 := h.count
  have htwo : s.ranksTwo twelveGood = false := by
    rw [State.ranksTwo, hranks, hsub]
    decide
  obtain ⟨hshown, hfit⟩ := h.posShown
  rw [exec_drTrainingDone hstate, htwo, hranks, hsub, State.trainedWith, if_neg (by decide), hshown, hfit.ranksMapped, hsub,
    show 8 * 2 * 2 ^ 33 = 2 ^ 37 by decide]

/-! ### What is left -/

theorem State.drReady_reg {r : Row} {i j cap : Nat} (hr : 0x3000 ≤ r.idx) (hbw : r.key i j ≠ O.drBwCapacity.key 0 0)
    (hspares : r.key i j ≠ O.poolSpares.key 0 5) : (s.drReady cap).reg r i j = s.reg r i j := by
  unfold State.drReady State.setDrBw
  rw [State.reg_raise_dram hr, State.reg_setReg_dram hbw, State.reg_setReg_dram hspares]

theorem State.zeroing_reg {r : Row} {i j cap : Nat} (h : r.key i j ≠ O.drZeroPtr.key 0 0) : (s.zeroing cap).reg r i j = s.reg r i j := by
  unfold State.zeroing
  split
  · exact State.reg_setReg_dram h
  · have hkept := State.reg_setReg_dram (s := { s with mem := [], poison := [] }) (v := 0) h
    exact hkept

theorem State.zeroing_contents {cap : Nat} (h : s.hidden H.drWarm ≠ 1) : (s.zeroing cap).mem = [] ∧ (s.zeroing cap).poison = [] := by
  unfold State.zeroing
  rw [if_neg h]
  exact ⟨rfl, rfl⟩

/-- The machine without its objects, hidden scalars, events and DRAM contents. -/
def State.empty (s : State) : State := { s with regs := [], hid := [], raises := [], mem := [], poison := [] }

@[simp] theorem State.setReg_empty (r : Row) (v i j : Nat) : (s.setReg r v i j).empty = s.empty := rfl

@[simp] theorem State.raise_empty (e d : Nat) : (s.raise e d).empty = s.empty := by
  rw [State.raise_eq]
  rfl

@[simp] theorem State.zeroing_empty {cap : Nat} : (s.zeroing cap).empty = s.empty := by
  unfold State.zeroing
  split <;> rfl

@[simp] theorem State.drReady_empty {cap : Nat} : (s.drReady cap).empty = s.empty := by
  simp [State.drReady, State.setDrBw]

@[simp] theorem State.sized_empty {cap sub k : Nat} : (s.sized cap sub k).empty = s.empty := rfl

theorem State.of_empty (h : t.empty = s.empty) :
    ({ t with regs := s.regs, hid := s.hid, raises := s.raises, mem := s.mem, poison := s.poison } : State) = s :=
  congrArg (fun u : State => { u with regs := s.regs, hid := s.hid, raises := s.raises, mem := s.mem, poison := s.poison }) h

theorem State.allPlaced_eq : s.allPlaced =
    ([(0, 0), (0, 1), (0, 2), (1, 0), (1, 1), (1, 2), (2, 0), (2, 1), (2, 2), (3, 0), (3, 1), (3, 2)] : List (Nat × Nat)).foldl
      (fun s c => s.setReg O.drPosState (if c.2 = 2 then DP.spare else DP.active) c.1 c.2) s := rfl

theorem State.allPlaced_three : s.allPlaced.reg O.drPosState 3 0 = 1 ∧ s.allPlaced.reg O.drPosState 3 1 = 1 ∧ s.allPlaced.reg O.drPosState 3 2 = 2 := by
  rw [State.allPlaced_eq]
  simp only [List.foldl]
  refine ⟨?_, ?_, State.reg_setReg_same ..⟩
  · rw [State.reg_setReg_dram (by decide), State.reg_setReg_dram (by decide), State.reg_setReg_same]
    rfl
  · rw [State.reg_setReg_dram (by decide), State.reg_setReg_same]
    rfl

theorem State.allMapped_reg {r : Row} {i j : Nat} (h : ∀ ch < 4, r.key i j ≠ O.drRankMap.key ch 0) : s.allMapped.reg r i j = s.reg r i j := by
  change (((((s.setReg O.drRankMap 0x24 0).setReg O.drRankMap 0x24 1).setReg O.drRankMap 0x24 2).setReg O.drRankMap 0x24 3)).reg r i j = _
  rw [State.reg_setReg_dram (h 3 (by decide)), State.reg_setReg_dram (h 2 (by decide)), State.reg_setReg_dram (h 1 (by decide)),
    State.reg_setReg_dram (h 0 (by decide))]

theorem State.allMapped_three : s.allMapped.reg O.drRankMap 3 = 0x24 := State.reg_setReg_same ..

theorem State.sized_reg {r : Row} {i j cap sub k : Nat} (h : r.key i j ∉ [O.drState.key 0 0, O.drCapacity.key 0 0, O.drRankBytes.key 0 0,
    O.drActiveRanks.key 0 0]) : (s.sized cap sub k).reg r i j = s.reg r i j := by
  simp only [List.mem_cons, List.not_mem_nil, or_false, not_or] at h
  obtain ⟨hstate, hcap, hbytes, hranks⟩ := h
  unfold State.sized
  rw [State.reg_setReg_dram hranks, State.reg_setReg_dram hbytes, State.reg_setReg_dram hcap, State.reg_setReg_dram hstate]

theorem State.sized_objects {cap sub k : Nat} : (s.sized cap sub k).reg O.drState = 2 ∧ (s.sized cap sub k).reg O.drCapacity = cap ∧
    (s.sized cap sub k).reg O.drRankBytes = 2 * sub ∧ (s.sized cap sub k).reg O.drActiveRanks = k := by
  unfold State.sized
  refine ⟨?_, ?_, ?_, State.reg_setReg_same ..⟩
  · rw [State.reg_setReg_dram (by decide), State.reg_setReg_dram (by decide), State.reg_setReg_dram (by decide), State.reg_setReg_same]
  · rw [State.reg_setReg_dram (by decide), State.reg_setReg_dram (by decide), State.reg_setReg_same]
  · rw [State.reg_setReg_dram (by decide), State.reg_setReg_same]

theorem State.drReady_bare {cap : Nat} : (s.drReady cap).bare = s.bare := by
  simp [State.drReady]

@[simp] theorem State.allMapped_empty : s.allMapped.empty = s.empty := rfl

@[simp] theorem State.allPlaced_empty : s.allPlaced.empty = s.empty := by
  rw [State.allPlaced_eq]
  simp only [List.foldl, State.setReg_empty]

theorem State.allPlaced_hidden {k i : Nat} : s.allPlaced.hidden k i = s.hidden k i := by
  rw [State.allPlaced_eq]
  simp only [List.foldl, State.hidden_setReg]

theorem State.allMapped_hidden {k i : Nat} : s.allMapped.hidden k i = s.hidden k i := rfl
theorem State.sized_hidden {k i cap sub m : Nat} : (s.sized cap sub m).hidden k i = s.hidden k i := rfl

/-- What training leaves of twelve good ranks. -/
def State.allTrained (s : State) : State := ((s.allPlaced.allMapped.sized (2 ^ 37) (2 ^ 33) 2).zeroing (2 ^ 37)).drReady (2 ^ 37)

theorem State.allTrained_reg {r : Row} {i j : Nat} (hr : 0x3000 ≤ r.idx) (hbw : r.key i j ≠ O.drBwCapacity.key 0 0)
    (hspares : r.key i j ≠ O.poolSpares.key 0 5) (hptr : r.key i j ≠ O.drZeroPtr.key 0 0) :
    s.allTrained.reg r i j = (s.allPlaced.allMapped.sized (2 ^ 37) (2 ^ 33) 2).reg r i j := by
  rw [State.allTrained, State.drReady_reg hr hbw hspares, State.zeroing_reg hptr]

theorem State.allTrained_empty : s.allTrained.empty = s.empty := by
  simp [State.allTrained]

/-! ### No ranks found -/

/-- The machine without its objects and hidden scalars. -/
def State.unwritten (s : State) : State := { s with regs := [], hid := [] }

@[simp] theorem State.setReg_unwritten (r : Row) (v i j : Nat) : (s.setReg r v i j).unwritten = s.unwritten := rfl
@[simp] theorem State.fault_unwritten (src d : Nat) : (s.fault src d).unwritten = s.unwritten := rfl

theorem State.of_unwritten (h : t.unwritten = s.unwritten) : ({ t with regs := s.regs, hid := s.hid } : State) = s :=
  congrArg (fun v : State => { v with regs := s.regs, hid := s.hid }) h

theorem State.mem_of_unwritten (h : t.unwritten = s.unwritten) : t.mem = s.mem := by
  change t.unwritten.mem = s.unwritten.mem
  rw [h]

theorem State.posShown_none {two : Bool} : (s.posShown [] n two).unwritten = s.unwritten := by
  unfold State.posShown
  refine List.foldlRecOn (motive := fun u : State => u.unwritten = s.unwritten) _ _ rfl fun u hu ch _ => ?_
  refine List.foldlRecOn (motive := fun u : State => u.unwritten = s.unwritten) _ _ hu fun v hv p _ => ?_
  have hnone : foundAt [] ch p = ⟨false, 0, 0⟩ := rfl
  simp only [hnone, Bool.false_and, Bool.false_eq_true, if_false]
  exact hv

theorem State.drLogicals_none {two : Bool} : s.drLogicals [] ch two = [] := by
  simp [State.drLogicals, foundAt]

theorem State.ranksOf_none {two : Bool} : s.ranksOf [] two = 0 := by
  have hchannels : List.range 4 = [0, 1, 2, 3] := rfl
  simp [State.ranksOf, hchannels, State.drLogicals_none]

/-- The memory without a rank that works. -/
def State.noRanks (s : State) (two : Bool) : State := (((s.posShown [] 0 two).setReg O.drState 3).setReg O.drCapacity 0).fault 0x58 0

theorem exec_drTrainingDone_none (hstate : s.reg O.drState = 1) : exec (.drTrainingDone []) s = .next (s.noRanks (s.ranksTwo [])) := by
  rw [exec_drTrainingDone hstate, State.ranksOf_none, State.trainedWith, if_pos rfl, State.noRanks]

theorem State.noRanks_unwritten {two : Bool} : (s.noRanks two).unwritten = s.unwritten := by
  rw [State.noRanks, State.fault_unwritten, State.setReg_unwritten, State.setReg_unwritten, State.posShown_none]

/-! ### The statement -/

/-- A position's table of activates, where a command writes it. -/
theorem Map.get_put_tables (m : Map (List (Nat × Nat))) (k : Nat) (v : List (Nat × Nat)) :
    Map.get (Map.put m [] k v) [] k = v ∧ ∀ j, j ≠ k → Map.get (Map.put m [] k v) [] j = Map.get m [] j :=
  ⟨Map.get_put_same .., fun _ h => Map.get_put_ne _ _ _ _ h⟩

theorem exec_drRowActivate_few {sub : Fin 8} {pos : Fin 3} {bank : Fin 32} {row : Nat}
    (h : (activate (Map.get s.activates [] ((sub.val * 3 + pos.val) * 32 + bank.val)) row).2 < s.reg O.drRhThreshold) :
    exec (.drRowActivate sub pos bank row) s = .next { s with
      activates := Map.put s.activates [] ((sub.val * 3 + pos.val) * 32 + bank.val) (activate (Map.get s.activates [] ((sub.val * 3 + pos.val) * 32 + bank.val)) row).1 } :=
  if_neg (Nat.not_le.mpr h)

theorem exec_drRowActivate_many {sub : Fin 8} {pos : Fin 3} {bank : Fin 32} {row : Nat}
    (h : s.reg O.drRhThreshold ≤ (activate (Map.get s.activates [] ((sub.val * 3 + pos.val) * 32 + bank.val)) row).2) :
    exec (.drRowActivate sub pos bank row) s = .next (({ s with
      activates := Map.put s.activates [] ((sub.val * 3 + pos.val) * 32 + bank.val) ((activate (Map.get s.activates [] ((sub.val * 3 + pos.val) * 32 + bank.val)) row).1.map (fun x => if x.1 = row then (row, 0) else x)) } : State).bumpSat
        O.drRhRefreshes (sub.val / 2) 0 (neighbours s.drRows row (s.reg O.drRhRadius))) :=
  if_pos h

/-- What a position reports. -/
def State.tempTaken (s : State) (ch pos temp : Nat) : State :=
  (s.setHidden H.rankTemp (temp + 1) (4 * ch + pos)).setHidden H.refreshTwice (b2n (decide (85 < f32 temp))) (4 * ch + pos)

theorem State.tempTaken_hottest {temp : Nat} (hpos : pos < 3) : (s.tempTaken ch pos temp).drHottest ch = (s.setHidden H.rankTemp (temp + 1) (4 * ch + pos)).drHottest ch := by
  have hkept (p : Nat) (hp : p < 3) : (s.tempTaken ch pos temp).hidden H.rankTemp (4 * ch + p) =
      (s.setHidden H.rankTemp (temp + 1) (4 * ch + pos)).hidden H.rankTemp (4 * ch + p) :=
    State.hidden_setHidden_ne _ _ _ _ _ _ (by simp only [H.rankTemp, H.refreshTwice]; omega)
  unfold State.drHottest
  simp only [show List.range 3 = [0, 1, 2] from rfl, List.map, hkept 0 (by decide), hkept 1 (by decide), hkept 2 (by decide)]

theorem exec_drTempReport {ch : Fin 4} {pos : Fin 3} {temp : BitVec 32} :
    exec (.drTempReport ch pos temp) s = .next (if f32 ((s.tempTaken ch.val pos.val temp.toNat).drHottest ch.val) ≤ 95 then
      ((s.tempTaken ch.val pos.val temp.toNat).setReg O.drTemp ((s.tempTaken ch.val pos.val temp.toNat).drHottest ch.val) ch.val).unfault (0x54 + ch.val)
      else (s.tempTaken ch.val pos.val temp.toNat).setReg O.drTemp ((s.tempTaken ch.val pos.val temp.toNat).drHottest ch.val) ch.val) := rfl

theorem State.tempTaken_reports {temp : Nat} :
    (s.tempTaken ch pos temp).hidden H.rankTemp (4 * ch + pos) = temp + 1 ∧
    (s.tempTaken ch pos temp).hidden H.refreshTwice (4 * ch + pos) = b2n (decide (85 < f32 temp)) := by
  refine ⟨?_, State.hidden_setHidden_same ..⟩
  rw [State.tempTaken, State.hidden_setHidden_ne _ _ _ _ _ _ (by simp only [H.rankTemp, H.refreshTwice]; omega), State.hidden_setHidden_same]

theorem exec_drTempReport_cool {ch : Fin 4} {pos : Fin 3} {temp : BitVec 32}
    (h : f32 ((s.tempTaken ch.val pos.val temp.toNat).drHottest ch.val) ≤ 95) : exec (.drTempReport ch pos temp) s =
      .next (((s.tempTaken ch.val pos.val temp.toNat).setReg O.drTemp ((s.tempTaken ch.val pos.val temp.toNat).drHottest ch.val) ch.val).unfault
        (0x54 + ch.val)) :=
  exec_drTempReport.trans (congrArg Host.Outcome.next (if_pos h))

theorem exec_drTempReport_hot {ch : Fin 4} {pos : Fin 3} {temp : BitVec 32}
    (h : ¬f32 ((s.tempTaken ch.val pos.val temp.toNat).drHottest ch.val) ≤ 95) : exec (.drTempReport ch pos temp) s =
      .next ((s.tempTaken ch.val pos.val temp.toNat).setReg O.drTemp ((s.tempTaken ch.val pos.val temp.toNat).drHottest ch.val) ch.val) :=
  exec_drTempReport.trans (congrArg Host.Outcome.next (if_neg h))

theorem State.tempTaken_effect {temp : Nat} (hrank : hkey H.rankTemp (4 * ch + pos) ∈ hids) (htwice : hkey H.refreshTwice (4 * ch + pos) ∈ hids) :
    Effect s (s.tempTaken ch pos temp) [] keys hids := (Effect.refl.setHidden hrank).setHidden htwice

theorem State.hidden_unfault {k i src : Nat} (h : k * 2 ^ 20 + i ≠ H.drive * 2 ^ 20 + src) : (s.unfault src).hidden k i = s.hidden k i :=
  State.hidden_setHidden_ne _ _ _ _ _ _ h

/-- A first read of a poisoned line, as its event tells it. -/
def State.poisonTold (s : State) (port line : Nat) : State :=
  (((s.bumpSat O.drPoisonReads).setHidden H.rare (s.up + 1) 0x7C7).raise 0x7C7 (port + 256 * line)).portBytes port 64

theorem exec_drPoisonRead {port : Fin 12} (hline : 64 * line < s.reg O.drCapacity) (hpoisoned : s.poisoned line = true)
    (hrare : s.hidden H.rare 0x7C7 = 0) : exec (.drPoisonRead port line) s = .next (s.poisonTold port.val line) := by
  have hkept : (s.bumpSat O.drPoisonReads).hidden H.rare 0x7C7 = 0 := hrare
  change execDrPoisonRead port line s = _
  unfold execDrPoisonRead
  rw [if_neg (by simpa [State.noLine] using hline), if_pos hpoisoned, State.poisonRead, State.raiseRare]
  rw [hkept, if_pos (.inl rfl)]
  rfl

theorem State.poisonTold_effect {port : Nat} : Effect s (s.poisonTold port line) [(0x7C7, port + 256 * line)]
    [O.drPoisonReads.key 0 0, O.drPortBytes.key port 0] [hkey H.rare 0x7C7] := by
  have hk : SpanFree [O.drPoisonReads.key 0 0, O.drPortBytes.key port 0] := (spanFree_nil.key (by decide)).key (by decide)
  have htold : Effect s (((s.bumpSat O.drPoisonReads).setHidden H.rare (s.up + 1) 0x7C7).raise 0x7C7 (port + 256 * line)) [(0x7C7, port + 256 * line)]
      [O.drPoisonReads.key 0 0, O.drPortBytes.key port 0] [hkey H.rare 0x7C7] :=
    Effect.raise _ _ ((Effect.refl.setReg (by simp)).setHidden (by simp)) hk
  exact htold.portBytes (by simp)

/-- A device above 95 °C. -/
def State.hotTold (s : State) (ch temp : Nat) : State :=
  ((s.setReg O.drTemp temp ch).raise 0x7C9 (ch + 2 ^ 32 * temp)).fault (0x54 + ch) (toF64 (f32 temp))

theorem State.hotTold_effect {temp : Nat} : Effect s (s.hotTold ch temp) [(0x7C9, ch + 2 ^ 32 * temp)] [O.drTemp.key ch 0]
    [hkey H.drive (0x54 + ch), hkey H.driveData (0x54 + ch)] :=
  Effect.fault (Effect.raise _ _ (Effect.refl.setReg (by simp)) (spanFree_nil.key (by decide))) (by simp) (by simp)

theorem AllFit.of_statement (hspares : s.reg O.drSpareCfg = 15) (h : (List.range 12).all (fun k => !s.isRetired 6 (k / 3) (k % 3)) = true) : AllFit s := by
  refine ⟨fun ch hch p hp => ?_, hspares⟩
  have hk := List.all_eq_true.mp h (3 * ch + p) (List.mem_range.mpr (by omega))
  rw [show (3 * ch + p) / 3 = ch by omega, show (3 * ch + p) % 3 = p by omega] at hk
  simpa using hk

theorem State.allTrained_spec : s.allTrained.reg O.drState = 2 ∧ s.allTrained.reg O.drActiveRanks = 2 ∧ s.allTrained.reg O.drRankBytes = 2 ^ 34 ∧
    s.allTrained.reg O.drCapacity = 2 ^ 37 ∧ s.allTrained.reg O.drRankMap 3 % 16 = 4 ∧ s.allTrained.reg O.drPosState 3 0 = 1 ∧
    s.allTrained.reg O.drPosState 3 1 = 1 ∧ s.allTrained.reg O.drPosState 3 2 = 2 := by
  obtain ⟨hstate, hcap, hbytes, hranks⟩ := State.sized_objects (s := s.allPlaced.allMapped) (cap := 2 ^ 37) (sub := 2 ^ 33) (k := 2)
  obtain ⟨h0, h1, h2⟩ := State.allPlaced_three (s := s)
  have hpos (p : Nat) (hp : p < 3) : s.allTrained.reg O.drPosState 3 p = s.allPlaced.reg O.drPosState 3 p := by
    have hmap (ch : Nat) (_ : ch < 4) : O.drPosState.key 3 p ≠ O.drRankMap.key ch 0 := by
      simp only [Row.key, O.drPosState, O.drRankMap]
      omega
    rw [State.allTrained_reg (by decide) (by interval_cases p <;> decide) (by interval_cases p <;> decide) (by interval_cases p <;> decide),
      State.sized_reg (by interval_cases p <;> decide), State.allMapped_reg hmap]
  refine ⟨?_, ?_, ?_, ?_, ?_, (hpos 0 (by decide)).trans h0, (hpos 1 (by decide)).trans h1, (hpos 2 (by decide)).trans h2⟩
  · rw [State.allTrained_reg (by decide) (by decide) (by decide) (by decide), hstate]
  · rw [State.allTrained_reg (by decide) (by decide) (by decide) (by decide), hranks]
  · rw [State.allTrained_reg (by decide) (by decide) (by decide) (by decide), hbytes]
    decide
  · rw [State.allTrained_reg (by decide) (by decide) (by decide) (by decide), hcap]
  · rw [State.allTrained_reg (by decide) (by decide) (by decide) (by decide), State.sized_reg (by decide), State.allMapped_three]

theorem State.allTrained_contents (h : s.hidden H.drWarm ≠ 1) : s.allTrained.mem = [] ∧ s.allTrained.poison = [] := by
  have hkept : (s.allPlaced.allMapped.sized (2 ^ 37) (2 ^ 33) 2).hidden H.drWarm = s.hidden H.drWarm := by
    rw [State.sized_hidden, State.allMapped_hidden, State.allPlaced_hidden]
  have hzero := State.zeroing_contents (s := s.allPlaced.allMapped.sized (2 ^ 37) (2 ^ 33) 2) (cap := 2 ^ 37) (by rw [hkept]; exact h)
  have hbare := State.drReady_bare (s := (s.allPlaced.allMapped.sized (2 ^ 37) (2 ^ 33) 2).zeroing (2 ^ 37)) (cap := 2 ^ 37)
  exact ⟨(show s.allTrained.bare.mem = _ from congrArg State.mem hbare).trans hzero.1,
    (show s.allTrained.bare.poison = _ from congrArg State.poison hbare).trans hzero.2⟩

/-- Sub-channels of the addresses that exist are few. -/
theorem State.drSub_lt {a : Nat} (h : a < s.reg O.drCapacity) : s.drSub a < 16 := by
  have hbits (hi lo : Nat) (hw : hi + 1 - lo = 3) : bits a hi lo < 16 := by
    rw [bits, hw]
    omega
  unfold State.drSub
  split
  · exact hbits 14 12 rfl
  · split
    · decide
    · rcases Nat.lt_or_ge (s.reg O.drCapacity) 8 with hsmall | hlarge
      · rw [Nat.div_eq_of_lt hsmall, Nat.div_zero]
        decide
      · rw [Nat.div_lt_iff_lt_mul (by omega)]
        omega
  · exact hbits 8 6 rfl

theorem memOrder_not_driven {c : Nat} (h : c < 16) :
    hkey H.memOrder ∉ [hkey H.drive (0x50 + c / 2), hkey H.driveData (0x50 + c / 2)] := by
  simp only [hkey, H.memOrder, H.drive, H.driveData, List.mem_cons, List.not_mem_nil, or_false]
  omega

/-- Settles O37: a retirement, a migration and training are each stated once for what they read and leave; every other command is a write
or two. -/
theorem captureMemory : Obligations.CaptureMemory := by
  unfold Obligations.CaptureMemory
  refine ⟨?_, ?_, ?_, ?_, ?_, ?_, ?_, ?_, ?_, ?_, ?_, ?_, ?_, ?_, ?_, ?_, ?_, ?_, ?_, ?_, ?_, ?_⟩
  · intro s ch pos hactive hfew
    exact ⟨_, congrArg Host.Outcome.next (State.drCorrected_few hactive hfew), State.ceCounted_count, State.ceCounted_times,
      State.ceCounted_effect (by simp)⟩
  · intro s ch pos hactive hmany hspare hnew hstate
    have hkept {p : Nat} (hp : p < 3) : (s.ceCounted ch.val pos.val).reg O.drPosState ch.val p = s.reg O.drPosState ch.val p :=
      State.ceCounted_reg (key_drCeCount_ne (by simp only [O.drPosState]; omega))
    have hretired := State.drRetire_queued (s := s.ceCounted ch.val pos.val) (ch := ch.val) (pos := pos.val) ((hkept pos.isLt).trans hactive) hnew
      (by rw [State.drSpare_congr fun p hp => hkept hp]; exact hspare)
    refine ⟨_, congrArg Host.Outcome.next ((State.drCorrected_eq hactive).trans ((if_pos hmany).trans hretired)), ?_, State.ceCounted_times, rfl, ?_⟩
    · exact (State.reg_setReg_dram (key_ne_of_sub (by decide))).trans (State.ceCounted_count (pos := pos.val))
    · have heffect (v : Nat) : Effect s (({ s.ceCounted ch.val pos.val with ceTimes := s.ceTimes } : State).setReg O.drMigState v) []
        [O.drCeCount.key ch.val 0, O.drMigState.key 0 0] [] := (State.ceCounted_effect (by simp)).setReg (by simp)
      exact heffect _
  · intro s ch pos hstate hscrub hactive hlimit
    refine ⟨_, (if_pos ⟨hstate, hscrub⟩).trans (congrArg Host.Outcome.next (State.drCorrected_few hactive (.inl hlimit))), State.ceCounted_count,
      State.ceCounted_times, State.ceCounted_effect (by simp)⟩
  · intro s port line hline hclean hpos
    have hexec : exec (.drUe port line) s = .next ((s.lineLost line).portBytes port.val 64) := by
      change execDrUe port line s = _
      unfold execDrUe
      rw [if_neg (by simpa [State.noLine] using hline), hclean, if_neg (by decide), State.drLost_other hclean hpos]
    exact ⟨_, hexec, State.lineLost_spec (.inr ⟨port.val, by simp, rfl⟩) (by simp) (by simp)
      (((spanFree_nil.key (by decide)).key (by decide)).key (by decide))⟩
  · intro s port line hline hclean hpos hnew hspare
    have hexec : exec (.drUe port line) s = .next (s.lastLost line port.val) := by
      change execDrUe port line s = _
      unfold execDrUe
      rw [if_neg (by simpa [State.noLine] using hline), hclean, if_neg (by decide), State.drLost_spareless hclean hpos hnew hspare]
      rfl
    have hk : SpanFree [O.drPoisonLines.key 0 0, O.drUeCount.key (s.drAt line).1 0, O.drPortBytes.key port.val 0] :=
      ((spanFree_nil.key (by decide)).key (by decide)).key (by decide)
    have heffect := State.lastLost_effect (s := s) (line := line) (p := port.val)
      (hids := [hkey H.drive (0x50 + (s.drAt line).1), hkey H.driveData (0x50 + (s.drAt line).1)]) hk (by simp) (by simp) (by simp) (by simp) (by simp)
    obtain ⟨hlost, hreads⟩ := State.lost_reads heffect (memOrder_not_driven (State.drSub_lt hline)) State.lastLost_poison
    refine ⟨_, hexec, hlost, ?_, ?_, hreads, State.hidden_fault_drive .., heffect⟩
    · exact (State.lastLost_reg (by decide) (key_ne_of_sub (by decide))).trans State.lineLost_lines
    · exact (State.lastLost_reg (by decide) (key_ne_of_sub (by decide))).trans State.lineLost_errors
  · intro s line write hline hclean hpos
    have hexec : exec (.drCommandError line write) s = .next (s.lineLost line) := by
      change execDrCommandError line write s = _
      unfold execDrCommandError
      rw [if_neg (by simpa [State.noLine] using hline), State.drLost_other hclean hpos]
    exact ⟨_, hexec, State.lineLost_spec (.inl rfl) (by simp) (by simp) ((spanFree_nil.key (by decide)).key (by decide))⟩
  · intro s port line hline hpoisoned hrare
    refine ⟨_, exec_drPoisonRead hline hpoisoned hrare, ?_, State.poisonTold_effect⟩
    rw [State.poisonTold, State.portBytes_reg (key_ne_of_sub (by decide)), State.reg_raise_dram (by decide), State.reg_setHidden]
    exact State.reg_setReg_same ..
  · intro s ch pos sp rest hqueue hidle hch hpos hspare
    have hsp := (State.drSpare_some hspare).1
    refine ⟨_, exec_drMigStart hqueue hidle hspare, State.migBegun_queue, ?_, ?_, ?_, State.migBegun_rank, State.migBegun_ptr, State.migBegun_start,
      State.migBegun_effect⟩
    · rw [State.migBegun_posState hpos]
      by_cases h : pos = sp
      · exact .inr h
      · exact .inl (by rw [if_neg h, if_pos rfl]; rfl)
    · rw [State.migBegun_posState hsp, if_pos rfl]
      rfl
    · by_cases h : pos = sp
      · exact .inr h
      · exact .inl (State.migBegun_state hch hpos h)
  · intro s ch f g hmig
    exact ⟨_, exec_drMigDone hmig, State.migDone_spec hmig rfl⟩
  · intro s ch f g line hmig hline hbelow
    exact ⟨_, exec_drMigAbort hmig hline hbelow, State.migAbort_spec hmig rfl⟩
  · intro s ch
    exact ⟨s, rfl, Effect.refl⟩
  · intro s
    exact ⟨s, rfl, Effect.refl⟩
  · intro s
    exact ⟨_, rfl, rfl, Effect.refl⟩
  · intro s sub pos bank row hfew
    exact ⟨_, exec_drRowActivate_few hfew, (Map.get_put_tables ..).1, (Map.get_put_tables ..).2, Effect.refl⟩
  · intro s sub pos bank row hmany
    refine ⟨_, exec_drRowActivate_many hmany, (Map.get_put_tables ..).1, (Map.get_put_tables ..).2, State.reg_setReg_same .., ?_⟩
    exact (Effect.refl (s := s)).setReg (by simp)
  · intro s ch temp hhot
    refine ⟨s.hotTold ch.val temp.toNat, if_pos hhot, ?_, State.hidden_fault_drive .., State.hidden_setHidden_same .., State.hotTold_effect⟩
    rw [State.hotTold, State.reg_fault, State.reg_raise_dram (by decide), State.reg_setReg_same]
  · intro s ch pos temp hcool
    rw [← State.tempTaken_hottest pos.isLt] at hcool
    obtain ⟨hrank, htwice⟩ := State.tempTaken_reports (s := s) (ch := ch.val) (pos := pos.val) (temp := temp.toNat)
    refine ⟨_, exec_drTempReport_cool hcool, ?_, ?_, ?_, State.hidden_setHidden_same .., ?_⟩
    · rw [State.hidden_unfault (by simp only [H.rankTemp, H.drive]; omega), State.hidden_setReg, hrank]
    · rw [← State.tempTaken_hottest pos.isLt]
      exact State.reg_setReg_same ..
    · rw [State.hidden_unfault (by simp only [H.refreshTwice, H.drive]; omega), State.hidden_setReg, htwice]
    · exact ((State.tempTaken_effect (by simp) (by simp)).setReg (by simp)).setHidden (by simp)
  · intro s ch pos temp hhot
    rw [← State.tempTaken_hottest pos.isLt] at hhot
    obtain ⟨hrank, htwice⟩ := State.tempTaken_reports (s := s) (ch := ch.val) (pos := pos.val) (temp := temp.toNat)
    refine ⟨_, exec_drTempReport_hot (not_le.mpr hhot), hrank, ?_, htwice, (State.tempTaken_effect (by simp) (by simp)).setReg (by simp)⟩
    rw [← State.tempTaken_hottest pos.isLt]
    exact State.reg_setReg_same ..
  · intro s port hport
    refine ⟨_, if_pos hport, ?_, (Effect.refl.setReg (by simp)).raise _ _ (spanFree_nil.key (by decide))⟩
    rw [State.reg_raise_dram (by decide)]
    exact State.reg_setReg_same ..
  · intro s hstate
    refine ⟨_, if_pos hstate, ?_, State.hidden_setHidden_same .., (Effect.refl.setReg (by simp)).setHidden (by simp)⟩
    exact State.reg_setReg_same ..
  · intro s hstate hspares hfit
    obtain ⟨hready, hranks, hbytes, hcap, hmap, h0, h1, h2⟩ := State.allTrained_spec (s := s)
    exact ⟨_, exec_drTrainingDone_good hstate (AllFit.of_statement hspares hfit), hready, hranks, hbytes, hcap, hmap, h0, h1, h2,
      State.allTrained_contents, State.any_data_raise .., State.of_empty State.allTrained_empty⟩
  · intro s hstate
    refine ⟨_, exec_drTrainingDone_none hstate, ?_, ?_, State.hidden_fault_drive .., State.mem_of_unwritten State.noRanks_unwritten,
      State.of_unwritten State.noRanks_unwritten⟩
    · rw [State.noRanks, State.reg_fault, State.reg_setReg_dram (by decide), State.reg_setReg_same]
    · rw [State.noRanks, State.reg_fault, State.reg_setReg_same]

end Sys2Proof.Machine
end

section
/-! SUPPORT. Records and frames of a stream to Ethernet without a ring (R366 to R374), and the host ring that follows its consumer. -/

namespace Sys2Proof.Machine

variable {s t u : State} {n : Nat} {x : Stream} {r : StRec} {evs : List (Nat × Nat)} {keys hids : List Nat}

/-! ### A stream -/

@[simp] theorem State.stream_setStream (s : State) (n : Nat) (x : Stream) : (s.setStream n x).stream n = x := Map.get_put_same ..

theorem State.hidden_setStream {k i : Nat} : (s.setStream n x).hidden k i = s.hidden k i := rfl

/-- The item that a record begins with stays its first. -/
theorem takeItems_first {room : Nat} {acc : Taken} {f : Nat × Item} (h : acc.first = some f) (l : List Item) : (takeItems room acc l).first = some f := by
  induction l generalizing acc with
  | nil => exact h
  | cons i is ih =>
    unfold takeItems
    dsimp only
    split
    · exact h
    · split
      · simp only [h]
        split <;> rfl
      · refine ih ?_
        simp only [h]
        split <;> rfl

/-- A record whose first item begins in it begins with that item. -/
theorem takeItems_begins {room : Nat} {i : Item} (hroom : 0 < room) (hbegun : i.begun = false) (is : List Item) :
    (takeItems room {} (i :: is)).first = some (0, i) := by
  unfold takeItems
  dsimp only
  rw [if_neg (show ¬room ≤ ([] : List Byte).length from Nat.not_le.mpr hroom)]
  split
  · simp [hbegun]
  · exact takeItems_first (by simp [hbegun]) _

/-- A stream to Ethernet waits for its datagrams: nothing drains. -/
theorem State.streamOut_udp (h : s.plan O.stDest n = 2) (hready : (s.stream n).ready ≠ []) : s.streamOut n = s := by
  unfold State.streamOut State.streamDrain
  split
  · contradiction
  · rw [h]
    rfl

/-- What is ready, behind those that wait, with its turn. -/
def State.queued (s : State) (n : Nat) (r : StRec) : State :=
  (s.setHidden H.turn (s.hidden H.turn + 1)).setStream n { s.stream n with ready := (s.stream n).ready ++ [{ r with turn := s.hidden H.turn }] }

theorem State.stage_udp (hdest : s.plan O.stDest n = 2) (hring : s.plan O.stRingSize n = 0) (hsrc : s.srcRing n = 0) :
    s.stage n r = s.queued n r := by
  have hout : (s.queued n r).streamOut n = s.queued n r := State.streamOut_udp hdest (by simp [State.queued])
  have hkept (v : State) (hv : v = s.queued n r) (w : State) :
      (if v.srcRing n ≠ 0 ∧ v.srcRing n < (v.stream n).waiting then w else v) = s.queued n r := by
    have hnone : v.srcRing n = 0 := by
      rw [hv]
      exact hsrc
    rw [if_neg (fun h => h.1 hnone), hv]
  exact (if_neg (not_not.mpr hring)).trans (hkept _ hout _)

/-! ### Closing a record -/

/-- What a closed record takes of the items that wait. -/
abbrev State.recTaken (s : State) (n : Nat) : Taken := takeItems (s.plan O.stRecMax n - 64) {} (s.stream n).items

/-- A record that begins with item `i`, without a CRC. -/
def State.recClosed (s : State) (n : Nat) (i : Item) : StRec where
  bytes := leBytes (s.recHeader n i.index i.t96 (s.recTaken n).payload.length 0 (s.recTaken n).begins
    ((s.stream n).flags ||| flagIf (s.recTaken n).poison 4) 0) 64 ++ (s.recTaken n).payload ++
      List.replicate ((64 - (s.recTaken n).payload.length % 64) % 64) 0
  ends := (s.recTaken n).ends.map (fun e => (64 + e.1, e.2))
  count := (s.recTaken n).begins

/-- A stream with items taken, as its next record is numbered. -/
def State.numbered (s : State) (n : Nat) (x : Stream) : State := (s.setStream n x).bump O.stRecSeq n

theorem State.closeRecord_eq {i : Item} {is : List Item} (hitems : (s.stream n).items = i :: is) (hbegun : i.begun = false) (hcrc : s.plan O.stCrc n = 0)
    (hroom : 64 < s.plan O.stRecMax n) :
    s.closeRecord n = (s.numbered n { s.stream n with items := (s.recTaken n).rest, flags := 0 }).stage n (s.recClosed n i) := by
  have hfirst : (s.recTaken n).first = some (0, i) := by
    rw [State.recTaken, hitems]
    exact takeItems_begins (by omega) hbegun is
  unfold State.closeRecord
  dsimp only
  split
  · next hnone => exact absurd (hnone.symm.trans hitems) (by simp)
  · next i' is' hitems' =>
    obtain ⟨rfl, rfl⟩ : i' = i ∧ is' = is := by simpa using hitems'.symm.trans hitems
    rw [hfirst, hbegun, hcrc, show flagIf false 8 = 0 from rfl, Nat.or_zero, if_neg (by decide)]
    rfl

/-- What a stream to Ethernet without rings is left with by a record: it waits, numbered. -/
theorem State.recorded (hdest : s.plan O.stDest n = 2) (hring : s.plan O.stRingSize n = 0) (hsrc : s.srcRing n = 0)
    (ht : t = (s.numbered n x).stage n r) :
    t.stream n = { x with ready := x.ready ++ [{ r with turn := s.hidden H.turn }] } ∧
    t.reg O.stRecSeq n = (s.reg O.stRecSeq n + 1) % 2 ^ O.stRecSeq.width ∧
    t.hidden H.turn = s.hidden H.turn + 1 ∧
    Effect s { t with streams := s.streams } [] [O.stRecSeq.key n 0] [hkey H.turn] := by
  have hqueued := State.stage_udp (s := s.numbered n x) (r := r) hdest hring hsrc
  have hstream : (s.numbered n x).stream n = x := State.stream_setStream ..
  subst ht
  rw [hqueued, State.queued, hstream]
  have heffect : Effect s ((s.bump O.stRecSeq n).setHidden H.turn (s.hidden H.turn + 1)) [] [O.stRecSeq.key n 0] [hkey H.turn] :=
    (Effect.refl.setReg (by simp)).setHidden (by simp)
  exact ⟨State.stream_setStream .., State.reg_setReg_same s O.stRecSeq _ n 0, State.hidden_setStream.trans (State.hidden_setHidden_same ..), heffect⟩

/-! ### The host ring (R372, R373) -/

theorem State.readBack_noRing (h : s.plan O.stRingSize n = 0) : s.readBack n r = (r.bytes, s) := by
  unfold State.readBack
  dsimp only
  rw [if_pos h]

/-- The machine without its objects, hidden scalars, events, streams and what has left it. -/
def State.offHost (s : State) : State := { s with regs := [], hid := [], raises := [], out := [], streams := [] }

@[simp] theorem State.setReg_offHost (k : Row) (v i j : Nat) : (s.setReg k v i j).offHost = s.offHost := rfl
@[simp] theorem State.bump_offHost (k : Row) (i j v : Nat) : (s.bump k i j v).offHost = s.offHost := rfl
@[simp] theorem State.emit_offHost (o : Out) : (s.emit o).offHost = s.offHost := rfl
@[simp] theorem State.setStream_offHost : (s.setStream n x).offHost = s.offHost := rfl

theorem Quiet.offHost (h : Quiet s t) : t.offHost = s.offHost := by
  rw [h]
  rfl

@[simp] theorem State.stEvent_offHost (k : Nat) : (s.stEvent n k).offHost = s.offHost := (s.raise_quiet ..).offHost

@[simp] theorem State.hostPut_offHost (bs : List Byte) : (s.hostPut n bs).offHost = s.offHost := by
  unfold State.hostPut
  dsimp only
  split_ifs <;> simp

theorem State.readPort_offHost (port a k : Nat) : (s.readPort port a k).2.2.offHost = s.offHost := by
  unfold State.readPort
  exact List.foldlRecOn (motive := fun u : State => u.offHost = s.offHost) _ _ rfl fun u hu _ _ => ((u.bumpSat O.drPoisonReads).raiseRare_quiet ..).offHost.trans hu

theorem State.readBack_offHost : (s.readBack n r).2.offHost = s.offHost := by
  unfold State.readBack
  dsimp only
  split
  · rfl
  · exact (State.readPort_offHost ..).trans (State.readPort_offHost ..)

theorem State.hostLeft_offHost (k : Nat) : (s.hostLeft n k).offHost = s.offHost := by
  induction k generalizing s with
  | zero => rfl
  | succ k ih =>
    unfold State.hostLeft
    split
    · rfl
    · split
      · exact (ih).trans ((State.hostPut_offHost _).trans (State.setStream_offHost.trans State.readBack_offHost))
      · rfl

end Sys2Proof.Machine
end

section
/-! SUPPORT. The host ring, the datagrams (R372 to R374), and what their commands leave. -/

namespace Sys2Proof.Machine

variable {s t u : State} {n p : Nat} {x : Stream} {r : StRec} {evs : List (Nat × Nat)} {keys hids : List Nat}

/-- Records left by a stopped stream, taken further under their own plan: the rest of the machine is as it was. -/
theorem State.fromDrain_offHost (d : Drain) (l : List Drain) (f : State → State) (hf : ∀ v, (f v).offHost = v.offHost) :
    ({ ({ s with drains := l } : State).fromDrain n d f with
      regs := s.regs, hid := s.hid, raises := s.raises, out := s.out, streams := s.streams, drains := s.drains } : State) = s :=
  congrArg (fun u : State => { u with
    regs := s.regs, hid := s.hid, raises := s.raises, out := s.out, streams := s.streams, active := s.active, drains := s.drains })
    (hf ({ s with drains := l, active := d.plan }.setStream n d.left))

/-- The consumer offset, as it was read. -/
def State.polled (s : State) (n consumer : Nat) : State := s.setStream n { s.stream n with rp := consumer }

theorem State.polled_stream {consumer : Nat} : (s.polled n consumer).stream n = { s.stream n with rp := consumer } := State.stream_setStream ..

theorem exec_stHostRpPoll_drain {st : Fin 32} {consumer : Nat} {d : Drain} (h : s.drainOf st.val 0 = some d) :
    exec (.stHostRpPoll st consumer) s = .next ({ s with
      drains := s.drains.map (fun e => if e = d then { d with left := { d.left with rp := consumer } } else e) }.fromDrain st.val
        { d with left := { d.left with rp := consumer } } (·.hostLeft st.val (d.left.ready.length + 1))) := by
  change execStHostRpPoll st consumer s = _
  unfold execStHostRpPoll
  dsimp only
  rw [h]

theorem exec_stHostRpPoll {st : Fin 32} {consumer : Nat} (h : s.drainOf st.val 0 = none) (hdest : s.plan O.stDest st.val = 0)
    (hmode : s.plan O.stHostMode st.val = 1) (hup : s.hidden H.hostUp = 1) (hstate : s.reg O.stState st.val = 1) :
    exec (.stHostRpPoll st consumer) s = .next ((s.polled st.val consumer).streamOut st.val) := by
  change execStHostRpPoll st consumer s = _
  unfold execStHostRpPoll
  dsimp only
  rw [h]
  exact if_pos ⟨hdest, hmode, hup, by rw [hstate]; decide⟩

theorem State.streamDrain_idle (hready : (s.stream n).ready = []) (hstate : s.reg O.stState n = 1) (k : Nat) : s.streamDrain n k = s := by
  cases k with
  | zero => rfl
  | succ k =>
    unfold State.streamDrain
    rw [hready]
    dsimp only
    rw [hstate, if_neg (by decide)]

/-- A record that fits before the end of the host ring, with no event due for it. -/
def State.hostWritten (s : State) (n : Nat) (bs : List Byte) : State :=
  (((s.emit (.hostWrite (s.plan O.stHostBase n + (s.stream n).wp) bs)).emit
    (.hostWrite (s.plan O.stHostWpAddr n) (leBytes (((s.stream n).wp + bs.length) % s.plan O.stHostSize n) 8))).bump O.stBytes n 0 bs.length).setStream n
      { s.stream n with wp := ((s.stream n).wp + bs.length) % s.plan O.stHostSize n, evtBytes := (s.stream n).evtBytes + bs.length }

theorem State.hostWritten_bytes {bs : List Byte} :
    (s.hostWritten n bs).reg O.stBytes n = (s.reg O.stBytes n + bs.length) % 2 ^ O.stBytes.width :=
  State.reg_setReg_same s O.stBytes _ n 0

/-- The machine with other streams, and something else on its way out. -/
def State.sentAs (s : State) (m : Map Stream) (o : List Out) : State := { s with streams := m, out := o }

section
variable {m : Map Stream} {o : List Out}
theorem State.sentAs_setStream : (s.setStream n x).sentAs m o = s.sentAs m o := rfl
theorem State.sentAs_emit {e : Out} : (s.emit e).sentAs m o = s.sentAs m o := rfl
theorem State.sentAs_bump {k : Row} {i j v : Nat} : (s.bump k i j v).sentAs m o = (s.sentAs m o).bump k i j v := rfl
end

theorem State.hostWritten_effect {bs : List Byte} (h : u.sentAs s.streams s.out = s) :
    Effect s { u.hostWritten n bs with streams := s.streams, out := s.out } [] [O.stBytes.key n 0] [] := by
  change Effect s ((u.hostWritten n bs).sentAs s.streams s.out) _ _ _
  rw [State.hostWritten, State.sentAs_setStream, State.sentAs_bump, State.sentAs_emit, State.sentAs_emit, h]
  exact Effect.refl.setReg (by simp)

theorem State.sentAs_polled {consumer : Nat} : ((s.polled n consumer).setStream n x).sentAs s.streams s.out = s := rfl

theorem State.hostPut_fits {bs : List Byte} (hfits : (s.stream n).wp + bs.length ≤ s.plan O.stHostSize n) (hdue : s.plan O.stEvtBytes n = 0) :
    s.hostPut n bs = s.hostWritten n bs := by
  unfold State.hostPut
  simp only [decide_eq_true hfits, if_true]
  exact if_neg fun h => h.1 hdue

theorem State.hostTakes_congr {k : Nat} (hreg : t.reg O.frSafe = s.reg O.frSafe) (hhid : t.hidden H.hostUp = s.hidden H.hostUp)
    (hplan : ∀ q, t.plan q n = s.plan q n) (hwp : (t.stream n).wp = (s.stream n).wp) (hrp : (t.stream n).rp = (s.stream n).rp) :
    t.hostTakes n k = s.hostTakes n k := by
  simp only [State.hostTakes, hreg, hhid, hplan, hwp, hrp]

/-- The one record that waits goes to the host ring. -/
theorem State.streamOut_host (hready : (s.stream n).ready = [r]) (hdest : s.plan O.stDest n = 0) (htakes : s.hostTakes n r.bytes.length = true)
    (hring : s.plan O.stRingSize n = 0) (hstate : s.reg O.stState n = 1)
    (hfits : (s.stream n).wp + r.bytes.length ≤ s.plan O.stHostSize n) (hdue : s.plan O.stEvtBytes n = 0) :
    s.streamOut n = (s.setStream n (s.stream n).pop).hostWritten n r.bytes := by
  have hpop : (s.setStream n (s.stream n).pop).stream n = (s.stream n).pop := State.stream_setStream ..
  have hput : (s.setStream n (s.stream n).pop).hostPut n r.bytes = (s.setStream n (s.stream n).pop).hostWritten n r.bytes :=
    State.hostPut_fits (by rw [hpop]; exact hfits) hdue
  have hleft : ((s.setStream n (s.stream n).pop).hostWritten n r.bytes).stream n =
      { (s.stream n).pop with wp := ((s.stream n).wp + r.bytes.length) % s.plan O.stHostSize n, evtBytes := (s.stream n).evtBytes + r.bytes.length } := by
    rw [State.hostWritten, State.stream_setStream, hpop]
    rfl
  have hkept : ((s.setStream n (s.stream n).pop).hostWritten n r.bytes).reg O.stState n = 1 :=
    (State.reg_setReg_ne _ _ _ _ _ _ _ _ (key_ne_of_sub (by decide))).trans hstate
  unfold State.streamOut State.streamDrain
  rw [hready]
  dsimp only
  rw [hdest, htakes, if_pos rfl, State.readBack_noRing hring, hput]
  exact State.streamDrain_idle (by rw [hleft, Stream.pop, hready]; rfl) hkept _

/-- A datagram sent (R374). -/
def State.udpSent (s : State) (n : Nat) (r : StRec) : State :=
  ((s.setStream n (s.stream n).pop).bump O.stBytes n 0 r.bytes.length).emit (.udp (s.plan O.stUdpEth n) (s.plan O.stUdpDstMac n) false
    (s.plan O.stUdpDstIpLo n % 2 ^ 32) (s.plan O.stUdpPorts n) (s.plan O.stUdpDscp n) r.bytes)

theorem exec_stUdpSend {st : Fin 32} {rest : List StRec} (hready : (s.stream st.val).ready = r :: rest) (hdrain : s.drainOf st.val 2 = none)
    (hfirst : (List.range 32).all (fun m => match s.udpTurn (s.plan O.stUdpEth st.val) m with | some v => decide (r.turn ≤ v) | none => true) = true)
    (hdest : s.plan O.stDest st.val = 2) (hlink : s.reg O.ethLink (s.plan O.stUdpEth st.val) ≠ 0) (hsafe : s.reg O.frSafe = 0)
    (hring : s.plan O.stRingSize st.val = 0) (hv4 : s.plan O.stUdpIpv6 st.val = 0) : exec (.stUdpSend st) s = .next (s.udpSent st.val r) := by
  change execStUdpSend st s = _
  unfold execStUdpSend State.udpSend
  dsimp only
  rw [hdrain]
  dsimp only
  rw [hready]
  dsimp only
  rw [if_pos ⟨hdest, hlink, hsafe, hfirst⟩, State.readBack_noRing hring, hv4]
  rfl

/-- Settles O40: a stream to Ethernet without rings only queues (`stage_udp`), and a record to the host ring that fits is `hostWritten`. -/
theorem streamRecords : Obligations.StreamRecords := by
  unfold Obligations.StreamRecords
  refine ⟨?_, ?_, ?_, ?_, ?_, ?_, ?_⟩
  · intro s st i is hstate hdest hring hsrc hformat hitems hbegun hcrc hfull hroom
    have hexec : exec (.stRecordClose st) s = .next (s.closeRecord st.val) := by
      change execStRecordClose st s = _
      unfold execStRecordClose
      dsimp only
      rw [if_neg (by simp [State.streaming, hstate]), if_pos ⟨hformat, hfull⟩]
    rw [State.closeRecord_eq hitems hbegun hcrc hroom] at hexec
    exact ⟨_, hexec, State.recorded hdest hring hsrc rfl⟩
  · intro s st i is hstate hdest hring hsrc hformat hitems hbegun hcrc hroom
    have hexec : exec (.stFlushTimeout st) s = .next (s.closeRecord st.val) :=
      if_pos ⟨by simp [State.streaming, hstate], hformat⟩
    rw [State.closeRecord_eq hitems hbegun hcrc hroom] at hexec
    exact ⟨_, hexec, State.recorded hdest hring hsrc rfl⟩
  · intro s st hstate hdest hring hsrc hformat hpayload hfull
    exact ⟨_, if_pos ⟨by simp [State.streaming, hstate], hformat, hpayload, hfull⟩, State.recorded hdest hring hsrc rfl⟩
  · intro s st consumer hdrain hdest hmode hup hstate hready
    have hexec := exec_stHostRpPoll (consumer := consumer) hdrain hdest hmode hup hstate
    have hidle : (s.polled st.val consumer).streamOut st.val = s.polled st.val consumer :=
      State.streamDrain_idle (s := s.polled st.val consumer) (by rw [State.polled_stream]; exact hready) hstate _
    rw [hidle] at hexec
    exact ⟨_, hexec, State.polled_stream, Effect.refl⟩
  · intro s st consumer d hdrain
    exact ⟨_, exec_stHostRpPoll_drain hdrain, Map.get_put_same .., rfl, State.fromDrain_offHost _ _ _ fun v => State.hostLeft_offHost (s := v) _⟩
  · intro s st consumer r hdrain hdest hmode hup hstate hring hdue hsafe hready htakes hfits
    have hexec := exec_stHostRpPoll (consumer := consumer) hdrain hdest hmode hup hstate
    have hat := State.polled_stream (s := s) (n := st.val) (consumer := consumer)
    have hout := State.streamOut_host (s := s.polled st.val consumer) (n := st.val) (r := r) (by rw [hat]; exact hready) hdest htakes hring hstate
      (by rw [hat]; exact hfits) hdue
    have hpop : ((s.polled st.val consumer).setStream st.val ((s.polled st.val consumer).stream st.val).pop).stream st.val =
        { s.stream st.val with rp := consumer, ready := [] } := by
      rw [State.stream_setStream, hat, Stream.pop, hready]
      rfl
    rw [hout] at hexec
    refine ⟨_, hexec, ?_, ?_, State.hostWritten_bytes, ?_⟩
    · rw [State.hostWritten, State.stream_setStream, hpop]
      rfl
    · rw [State.hostWritten, hpop]
      rfl
    · exact State.hostWritten_effect State.sentAs_polled
  · intro s st r rest hready hdrain hfirst hdest hlink hsafe hring hv4
    refine ⟨_, exec_stUdpSend hready hdrain hfirst hdest hlink hsafe hring hv4, ?_, rfl, State.reg_setReg_same .., ?_⟩
    · exact (State.stream_setStream ..).trans (by rw [Stream.pop, hready]; rfl)
    · exact (Effect.refl (s := s)).setReg (by simp)

end Sys2Proof.Machine
end

section
/-! SUPPORT. NVMe drive sets (R375 to R381): enumeration, commands that complete or fail, catalogues, deallocation. -/

namespace Sys2Proof.Machine

variable {s t u : State} {n d : Nat} {c : NvCmd} {rest : List NvCmd} {evs : List (Nat × Nat)} {keys hids : List Nat}

/-! ### Enumeration (R375, R376) -/

/-- Blocks of commands, one for each of a count. -/
theorem State.foldl_emits (a b : Out) (k : Nat) : (List.range k).foldl (fun s _ => (s.emit a).emit b) s =
    s.withOut ((List.range k).flatMap (fun _ => [b, a]) ++ s.out) := by
  have hblocks (m : Nat) : (List.range m).flatMap (fun _ => [b, a]) = (List.replicate m [b, a]).flatten := by
    rw [List.flatMap_def, List.map_const', List.length_range]
  induction k with
  | zero => rfl
  | succ k ih =>
    have hsucc : (List.range (k + 1)).flatMap (fun _ => [b, a]) = b :: a :: (List.range k).flatMap (fun _ => [b, a]) := by
      rw [hblocks, hblocks, List.replicate_succ, List.flatten_cons]
      rfl
    rw [List.range_succ, List.foldl_append, ih, ← List.range_succ, hsucc]
    rfl

/-- A controller that is used, after its commands. -/
def State.nvEnabled (s : State) (f : NvFound) : State :=
  ((((s.setReg O.nvCtrlQueues f.queues.toNat 0).setReg O.nvCtrlMdts f.mdts.toNat 0).setHidden H.lbaShift f.lbaShift.val 0).setReg O.nvCtrlState 2 0).raise
    0x7A2 (0 + 256 * 2)

theorem exec_nvEnumerate {f : NvFound} (hdram : s.reg O.drState = 2) (hnew : s.hidden H.enumerated = 0) :
    exec (.nvEnumerate [f]) s = .next ((s.setHidden H.enumerated 1).nvFound 0 f) := if_pos ⟨hdram, hnew⟩

theorem State.nvFound_used {f : NvFound} (h : f.qualifies = true) : s.nvFound 0 f =
    (s.withOut ((List.range (min 16 f.queues.toNat)).flatMap (fun _ => [.nvme 0 0x101 0 0, .nvme 0 0x105 0 0]) ++
      .nvme 0 0x109 0 0 :: .nvme 0 0x106 0 0 :: s.out)).nvEnabled f := by
  unfold State.nvFound
  dsimp only
  rw [if_pos h, State.foldl_emits]
  rfl

theorem State.reg_raise_drive {r : Row} {i j e k : Nat} (hr : 0x3000 ≤ r.idx) : (s.raise e k).reg r i j = s.reg r i j := State.reg_raise_dram hr

theorem State.nvEnabled_objects {f : NvFound} : (s.nvEnabled f).reg O.nvCtrlState 0 = 2 ∧ (s.nvEnabled f).reg O.nvCtrlQueues 0 = f.queues.toNat ∧
    (s.nvEnabled f).reg O.nvCtrlMdts 0 = f.mdts.toNat ∧ (s.nvEnabled f).hidden H.lbaShift 0 = f.lbaShift.val := by
  unfold State.nvEnabled
  refine ⟨?_, ?_, ?_, ?_⟩
  · rw [State.reg_raise_dram (by decide), State.reg_setReg_same]
  · rw [State.reg_raise_dram (by decide), State.reg_setReg_dram (by decide), State.reg_setHidden, State.reg_setReg_dram (by decide),
      State.reg_setReg_same]
  · rw [State.reg_raise_dram (by decide), State.reg_setReg_dram (by decide), State.reg_setHidden, State.reg_setReg_same]
  · rw [State.hidden_raise, State.hidden_setReg, State.hidden_setHidden_same]

theorem State.nvEnabled_effect {f : NvFound} (h : Effect s t [] keys hids) (hk : SpanFree keys) (hstate : O.nvCtrlState.key 0 0 ∈ keys)
    (hqueues : O.nvCtrlQueues.key 0 0 ∈ keys) (hmdts : O.nvCtrlMdts.key 0 0 ∈ keys) (hshift : hkey H.lbaShift ∈ hids) :
    Effect s (t.nvEnabled f) [(0x7A2, 0 + 256 * 2)] keys hids :=
  Effect.raise _ _ ((((h.setReg hqueues).setReg hmdts).setHidden hshift).setReg hstate) hk

theorem State.nvEnabled_withOut {f : NvFound} {o : List Out} : (s.nvEnabled f).withOut o = (s.withOut o).nvEnabled f := by
  simp [State.nvEnabled]

@[simp] theorem State.out_nvEnabled {f : NvFound} : (s.nvEnabled f).out = s.out := by
  unfold State.nvEnabled
  rw [State.raise_eq]
  rfl

/-! ### Commands that complete (R379, R380) -/

theorem State.nvFull_unnamed (h : planSetStream s.active d = none) : s.nvFull d = s := by
  unfold State.nvFull
  rw [h]

theorem exec_nvCmdComplete {ctrl : Fin 8} (h : oldestOf ctrl.val s.nvCmds = some (c, rest)) (hclosing : (u.nvSet c.set).closing = false)
    (hstep : ({ s with nvCmds := rest } : State).nvCatStep c.set = u) (hplan : planSetStream u.active c.set = none) :
    exec (.nvCmdComplete ctrl true) s = .next u := by
  change execNvCmdComplete ctrl true s = _
  unfold execNvCmdComplete
  rw [if_neg (by decide), h]
  dsimp only
  rw [hstep, hclosing, if_neg (by decide), State.nvFull_unnamed hplan]

theorem State.nvCatStep_none (h : (s.nvSet d).cat = none) : s.nvCatStep d = s := by
  unfold State.nvCatStep
  rw [h]
  split <;> rfl

/-- The catalogue of a set that stays open is valid. -/
def State.nvCatValid (s : State) (d : Nat) (q : NvCat) : State :=
  ((s.setNvSet d { s.nvSet d with
    slot := 1 - (s.nvSet d).slot, gen := (s.nvSet d).gen + 1, cut := false, cat := none, closing := false,
    run := { (s.nvSet d).run with done := q.total } }).setReg O.nvCatGen ((s.nvSet d).gen + 1) d).setReg O.nvBytesDone
      (if (s.nvSet d).run.wrap ∧ (s.nvSet d).run.cap ≠ 0 then q.total % (s.nvSet d).run.cap else q.total) d

theorem State.nvCatStep_put {q : NvCat} (hcat : (s.nvSet d).cat = some q) (hput : q.put = true) (hopen : q.state ≠ 2)
    (hclosing : (s.nvSet d).closing = false) (hflush : s.nvCmds.any (fun y => y.set == d && y.op == 0) = false) :
    s.nvCatStep d = s.nvCatValid d q := by
  unfold State.nvCatStep
  rw [hflush, if_neg (by decide), hcat]
  dsimp only
  rw [hput, if_pos rfl]
  unfold State.nvCatDone
  dsimp only
  rw [hcat]
  dsimp only
  rw [if_neg hopen, hclosing, Bool.false_and]
  rfl

@[simp] theorem State.nvSet_setNvSet (s : State) (d : Nat) (x : NvSet) : (s.setNvSet d x).nvSet d = x := Map.get_put_same ..

theorem State.nvCatValid_set {q : NvCat} (hclosing : (s.nvSet d).closing = false) : (s.nvCatValid d q).nvSet d =
    { s.nvSet d with
      slot := 1 - (s.nvSet d).slot, gen := (s.nvSet d).gen + 1, cut := false, cat := none,
      run := { (s.nvSet d).run with done := q.total } } := by
  refine (State.nvSet_setNvSet ..).trans ?_
  rw [← hclosing]

theorem State.nvCatValid_gen {q : NvCat} : (s.nvCatValid d q).reg O.nvCatGen d = (s.nvSet d).gen + 1 :=
  (State.reg_setReg_dram (key_ne_of_sub (by decide))).trans (State.reg_setReg_same ..)

/-- The machine with other commands outstanding, other sets, and something else on its way out. -/
def State.withDrives (s : State) (l : List NvCmd) (m : Map NvSet) (o : List Out) : State := { s with nvCmds := l, nvSets := m, out := o }

section
variable {l l' : List NvCmd} {m : Map NvSet} {o : List Out}
@[simp] theorem State.withDrives_self : s.withDrives s.nvCmds s.nvSets s.out = s := rfl
@[simp] theorem State.setNvSet_withDrives (x : NvSet) : (s.setNvSet d x).withDrives l m o = s.withDrives l m o := rfl
@[simp] theorem State.emit_withDrives (x : Out) : (s.emit x).withDrives l m o = s.withDrives l m o := rfl
@[simp] theorem State.nvCmds_withDrives : ({ s with nvCmds := l' } : State).withDrives l m o = s.withDrives l m o := rfl
@[simp] theorem State.setReg_withDrives (r : Row) (v i j : Nat) : (s.setReg r v i j).withDrives l m o = (s.withDrives l m o).setReg r v i j := rfl
@[simp] theorem State.bumpSat_withDrives (r : Row) (v i j : Nat) : (s.bumpSat r v i j).withDrives l m o = (s.withDrives l m o).bumpSat r v i j := rfl
@[simp] theorem State.fault_withDrives (src v : Nat) : (s.fault src v).withDrives l m o = (s.withDrives l m o).fault src v := rfl
@[simp] theorem State.nvFlush_withDrives (k : Nat) : (s.nvFlush d k).withDrives l m o = s.withDrives l m o := rfl

@[simp] theorem State.raise_withDrives (e v : Nat) : (s.raise e v).withDrives l m o = (s.withDrives l m o).raise e v := by
  rw [State.raise_eq, State.raise_eq]
  rfl
end

theorem State.nvCatValid_effect {q : NvCat} (h : u.withDrives s.nvCmds s.nvSets s.out = s) (hgen : O.nvCatGen.key d 0 ∈ keys) (hdone : O.nvBytesDone.key d 0 ∈ keys) :
    Effect s ((u.nvCatValid d q).withDrives s.nvCmds s.nvSets s.out) [] keys hids := by
  unfold State.nvCatValid
  rw [State.setReg_withDrives, State.setReg_withDrives, State.setNvSet_withDrives, h]
  exact (Effect.refl.setReg hgen).setReg hdone

/-! ### Commands that fail (R381) -/

/-- The error of a controller, counted, with its log read. -/
def State.nvErred (s : State) (ctrl : Nat) : State := (s.bumpSat O.nvCtrlErrors ctrl).emit (.nvme ctrl 0x102 0 0)

theorem State.nvBad_first {ctrl : Nat} (h : oldestOf ctrl s.nvCmds = some (c, rest)) (hfirst : c.again = false) :
    s.nvBad ctrl = { (s.nvErred ctrl).emit (.nvme ctrl c.op c.lba c.len) with nvCmds := { c with again := true } :: rest } := by
  unfold State.nvBad
  rw [h]
  dsimp only
  rw [hfirst, if_neg (by decide)]
  rfl

/-- A command that failed twice is outstanding no longer. -/
def State.nvDropped (s : State) (ctrl : Nat) (rest : List NvCmd) : State := { s.nvErred ctrl with nvCmds := rest }

theorem State.nvBad_again {ctrl : Nat} (h : oldestOf ctrl s.nvCmds = some (c, rest)) (hagain : c.again = true) :
    s.nvBad ctrl = (s.nvDropped ctrl rest).nvFail c := by
  unfold State.nvBad
  rw [h]
  dsimp only
  rw [hagain, if_pos rfl]
  rfl

/-- A failed set, before its catalogue: its controller and its commands. -/
def State.nvHalted (s : State) (c : NvCmd) : State :=
  { (s.setReg O.nvCtrlState 3 c.ctrl).raise 0x7A2 (c.ctrl + 256 * 3) with
    nvCmds := ((s.setReg O.nvCtrlState 3 c.ctrl).raise 0x7A2 (c.ctrl + 256 * 3)).nvCmds.filter (fun q => q.set != c.set) }.setReg O.nvSetState 3 c.set

/-- The set has no catalogue in progress. -/
def State.nvCut (s : State) (c : NvCmd) : State :=
  s.setNvSet c.set { s.nvSet c.set with
    closing := false, cat := none, cut := (s.nvSet c.set).cut || (match (s.nvSet c.set).cat with | some q => q.put | none => false) }

/-- The controller of member 0. -/
abbrev State.nvFirst (s : State) (d : Nat) : Nat := (((s.nvSet d).run.members.head?).map nvCtrlOf).getD 8

theorem State.nvHalted_ctrl {k : Nat} : (s.nvHalted c).reg O.nvCtrlState k = if k = c.ctrl then 3 else s.reg O.nvCtrlState k := by
  have hkept : (s.nvHalted c).reg O.nvCtrlState k = (s.setReg O.nvCtrlState 3 c.ctrl).reg O.nvCtrlState k := by
    unfold State.nvHalted
    rw [State.reg_setReg_dram (key_ne_of_sub (by decide))]
    exact State.reg_raise_dram (by decide)
  rw [hkept]
  by_cases h : k = c.ctrl
  · rw [if_pos h, h, State.reg_setReg_same]
  · rw [if_neg h, State.reg_setReg_dram (by simp only [Row.key, O.nvCtrlState]; omega)]

/-- What the failure of a set does then: its catalogue where member 0 still answers, its stream in error, and the fault. -/
def State.nvFailed (s : State) (c : NvCmd) (first done : Nat) : State :=
  let s := if s.reg O.nvCtrlState first = 2 then s.nvCatPut c.set 4 done else s
  let s := match planSetStream s.active c.set with
    | none => s
    | some n => ((s.setReg O.stState 3 n).setStream n { s.stream n with items := [], ready := [], nvBuf := 0 }).stEvent n 4
  s.fault (0x68 + c.set) c.ctrl

theorem State.nvHalted_set : (s.nvHalted c).reg O.nvSetState c.set = 3 := State.reg_setReg_same ..

theorem State.nvFail_eq (hplan : planSetStream s.active c.set = none) (hfirst : s.nvFirst c.set = c.ctrl ∨ s.reg O.nvCtrlState (s.nvFirst c.set) ≠ 2) :
    s.nvFail c = ((s.nvHalted c).nvCut c).fault (0x68 + c.set) c.ctrl := by
  have hset : (s.nvHalted c).nvSet c.set = s.nvSet c.set := by
    unfold State.nvHalted
    rw [State.raise_eq]
    rfl
  have hactive : (s.nvHalted c).active = s.active := by
    unfold State.nvHalted
    rw [State.raise_eq]
    rfl
  have hstate : (s.nvHalted c).reg O.nvCtrlState (s.nvFirst c.set) ≠ 2 := by
    rw [State.nvHalted_ctrl]
    split
    · decide
    · next h => exact hfirst.resolve_left h
  have hhere : ¬((s.nvHalted c).nvCut c).reg O.nvCtrlState ((s.nvHalted c).nvFirst c.set) = 2 := by
    rw [State.nvFirst, hset]
    exact hstate
  have hnone : planSetStream ((s.nvHalted c).nvCut c).active c.set = none := (congrArg (planSetStream · c.set) hactive).trans hplan
  have hfail : s.nvFail c = ((s.nvHalted c).nvCut c).nvFailed c ((s.nvHalted c).nvFirst c.set) ((s.nvHalted c).nvSet c.set).run.done := rfl
  rw [hfail, State.nvFailed]
  dsimp only
  rw [if_neg hhere, hnone]

end Sys2Proof.Machine
end

section
/-! SUPPORT. What a failed set is left with, catalogues and deallocation (R379, R381), and the drive sets' statement. -/

namespace Sys2Proof.Machine

variable {s t u : State} {n d : Nat} {c : NvCmd} {rest : List NvCmd} {evs : List (Nat × Nat)} {keys hids : List Nat}

@[simp] theorem State.nvCmds_raise (e k : Nat) : (s.raise e k).nvCmds = s.nvCmds := by
  rw [State.raise_eq]

@[simp] theorem State.out_raise (e k : Nat) : (s.raise e k).out = s.out := by
  rw [State.raise_eq]

/-- A set that failed, its controller's error counted before. -/
def State.nvLost (s : State) (c : NvCmd) (rest : List NvCmd) : State :=
  (((s.nvDropped c.ctrl rest).nvHalted c).nvCut c).fault (0x68 + c.set) c.ctrl

theorem exec_nvCmdTimeout {ctrl : Fin 8} (hold : oldestOf ctrl.val s.nvCmds = some (c, rest)) (hagain : c.again = true) (hctrl : c.ctrl = ctrl.val)
    (hplan : planSetStream s.active c.set = none) (hfirst : s.nvFirst c.set = ctrl.val ∨ s.reg O.nvCtrlState (s.nvFirst c.set) ≠ 2) :
    exec (.nvCmdTimeout ctrl) s = .next (s.nvLost c rest) := by
  have hkept : (s.nvDropped ctrl.val rest).reg O.nvCtrlState (s.nvFirst c.set) = s.reg O.nvCtrlState (s.nvFirst c.set) :=
    State.reg_setReg_dram (key_ne_of_sub (by decide))
  have hbad := State.nvBad_again hold hagain
  have hfirst' : (s.nvDropped ctrl.val rest).nvFirst c.set = c.ctrl ∨
      (s.nvDropped ctrl.val rest).reg O.nvCtrlState ((s.nvDropped ctrl.val rest).nvFirst c.set) ≠ 2 := by
    rw [hctrl]
    exact hfirst.imp_right fun h => by rw [← hkept] at h; exact h
  rw [State.nvFail_eq (s := s.nvDropped ctrl.val rest) hplan hfirst'] at hbad
  refine (congrArg Host.Outcome.next hbad).trans ?_
  rw [← hctrl, State.nvLost]

theorem State.nvHalted_effect (hk : SpanFree keys) (hctrl : O.nvCtrlState.key c.ctrl 0 ∈ keys) (hset : O.nvSetState.key c.set 0 ∈ keys)
    (h : Effect s t [] keys hids) {l : List NvCmd} {m : Map NvSet} {o : List Out} (hu : u.withDrives l m o = t) :
    Effect s ((u.nvHalted c).withDrives l m o) [(0x7A2, c.ctrl + 256 * 3)] keys hids := by
  unfold State.nvHalted
  rw [State.setReg_withDrives, State.nvCmds_withDrives, State.raise_withDrives, State.setReg_withDrives, hu]
  exact ((h.setReg hctrl).raise _ _ hk).setReg hset

theorem State.nvHalted_nvCmds : (s.nvHalted c).nvCmds = s.nvCmds.filter (fun q => q.set != c.set) := by
  change ((s.setReg O.nvCtrlState 3 c.ctrl).raise 0x7A2 (c.ctrl + 256 * 3)).nvCmds.filter _ = _
  rw [State.nvCmds_raise]
  rfl

theorem State.nvHalted_out : (s.nvHalted c).out = s.out := by
  change ((s.setReg O.nvCtrlState 3 c.ctrl).raise 0x7A2 (c.ctrl + 256 * 3)).out = _
  rw [State.out_raise]
  rfl

theorem State.nvLost_spec (ht : t = s.nvLost c rest) :
    t.nvCmds = rest.filter (fun q => q.set != c.set) ∧
    t.reg O.nvCtrlState c.ctrl = 3 ∧
    t.reg O.nvSetState c.set = 3 ∧
    t.hidden H.drive (0x68 + c.set) = 1 ∧
    (t.nvSet c.set).cat = none ∧
    (t.nvSet c.set).closing = false ∧
    t.out = .nvme c.ctrl 0x102 0 0 :: s.out ∧
    Effect s { t with nvCmds := s.nvCmds, out := s.out, nvSets := s.nvSets } [(0x7A2, c.ctrl + 256 * 3)]
      [O.nvCtrlErrors.key c.ctrl 0, O.nvCtrlState.key c.ctrl 0, O.nvSetState.key c.set 0]
      [hkey H.drive (0x68 + c.set), hkey H.driveData (0x68 + c.set)] := by
  subst ht
  have hk : SpanFree [O.nvCtrlErrors.key c.ctrl 0, O.nvCtrlState.key c.ctrl 0, O.nvSetState.key c.set 0] :=
    ((spanFree_nil.key (by decide)).key (by decide)).key (by decide)
  have hset : (s.nvLost c rest).nvSet c.set = _ := State.nvSet_setNvSet _ _ _
  refine ⟨State.nvHalted_nvCmds, ?_, State.nvHalted_set, State.hidden_fault_drive .., congrArg NvSet.cat hset, congrArg NvSet.closing hset,
    State.nvHalted_out, ?_⟩
  · refine (State.nvHalted_ctrl (k := c.ctrl)).trans (if_pos rfl)
  · have hhalted := State.nvHalted_effect (c := c) (u := (s.nvDropped c.ctrl rest)) (l := s.nvCmds) (m := s.nvSets) (o := s.out)
      (hids := [hkey H.drive (0x68 + c.set), hkey H.driveData (0x68 + c.set)]) hk (by simp) (by simp)
      ((Effect.refl (s := s)).setReg (r := O.nvCtrlErrors) (i := c.ctrl) (j := 0) (by simp)) rfl
    exact hhalted.fault (by simp) (by simp)

/-! ### Catalogues and deallocation -/

theorem State.foldl_nvFlush (l : List (Nat × Nat × Nat)) : l.foldl (fun s q => s.nvFlush d (nvCtrlOf q)) s =
    { s with
      out := (l.map (fun q => Out.nvme (nvCtrlOf q) 0 0 0)).reverse ++ s.out,
      nvCmds := s.nvCmds ++ l.map (fun q => { ctrl := nvCtrlOf q, set := d, op := 0 }) } := by
  induction l generalizing s with
  | nil => simp
  | cons q l ih =>
    rw [List.foldl_cons, ih]
    simp [State.nvFlush, State.emit]

/-- A catalogue begun: its members' Flushes are outstanding. -/
def State.nvCatBegun (s : State) (d st : Nat) : State :=
  { s.setNvSet d { s.nvSet d with cat := some ⟨st, s.nvDone d, false⟩ } with
    out := ((s.nvSet d).run.members.map (fun q => Out.nvme (nvCtrlOf q) 0 0 0)).reverse ++ s.out,
    nvCmds := s.nvCmds ++ (s.nvSet d).run.members.map (fun q => { ctrl := nvCtrlOf q, set := d, op := 0 }) }

theorem State.nvCatalogue_eq {st : Nat} (h : (s.nvSet d).run.members ≠ []) : s.nvCatalogue d st = s.nvCatBegun d st := by
  have hmembers : ((s.setNvSet d { s.nvSet d with cat := some ⟨st, s.nvDone d, false⟩ }).nvSet d).run.members = (s.nvSet d).run.members := by
    rw [State.nvSet_setNvSet]
  have hflush : (s.nvCatBegun d st).nvCmds.any (fun c => c.set == d && c.op == 0) = true := by
    obtain ⟨q, l, hl⟩ := List.exists_cons_of_ne_nil h
    simp [State.nvCatBegun, hl]
  have hall : (s.setNvSet d { s.nvSet d with cat := some ⟨st, s.nvDone d, false⟩ }).nvFlushAll d = s.nvCatBegun d st := by
    unfold State.nvFlushAll
    rw [hmembers, State.foldl_nvFlush]
    rfl
  unfold State.nvCatalogue
  dsimp only
  rw [hall, State.nvCatStep, if_pos hflush]

theorem exec_nvTrimCmd {m : Master} {d : Fin 8} (h : Owner s m) (hon : bit (s.reg O.pwrDomainOn) 35 = true) (hactive : planSetStream s.active d.val = none)
    (hawaiting : s.awaiting = none) (harmed : s.armed = none) (hmembers : s.plan O.nvMembers d.val = 1) :
    exec (.nvTrimCmd m d 1) s = .next { s with
      out := replied { s with
        out := .nvme (s.nvCtrl d.val 0) 9 (s.plan O.nvMStart d.val 0) (s.plan O.nvMCount d.val 0 * 2 ^ s.nvShift d.val 0) :: s.out } m } := by
  refine State.command_ok (s' := s.emit (.nvme (s.nvCtrl d.val 0) 9 (s.plan O.nvMStart d.val 0) (s.plan O.nvMCount d.val 0 * 2 ^ s.nvShift d.val 0)))
    h rfl (by decide) (by decide) ?_
  unfold actNvTrim onlyOne refuseIf
  rw [if_neg (by decide)]
  refine reaching_on ?_ hon
  refine (if_neg (by simp [hactive, hawaiting, harmed])).trans ?_
  rw [hmembers]
  rfl

theorem exec_nvSmartPoll {ctrl : Fin 8} {temp : BitVec 32} {warn : Byte} (h : s.reg O.nvCtrlState ctrl.val = 2) :
    exec (.nvSmartPoll ctrl temp warn) s = .next (if warn = 0 then
      ((s.emit (.nvme ctrl.val 0x102 0 0)).setReg O.nvCtrlTemp temp.toNat ctrl.val).setReg O.nvCtrlWarn warn.toNat ctrl.val else
      (((s.emit (.nvme ctrl.val 0x102 0 0)).setReg O.nvCtrlTemp temp.toNat ctrl.val).setReg O.nvCtrlWarn warn.toNat ctrl.val).raise 0x7A3
        (ctrl.val + 256 * warn.toNat)) := if_pos h

/-- Settles O41: enumeration is a chain of writes, a completed or failed command one of its set's cases, and a catalogue begins with its
members' Flushes. -/
theorem driveSets : Obligations.DriveSets := by
  unfold Obligations.DriveSets
  refine ⟨?_, ?_, ?_, ?_, ?_, ?_, ?_, ?_, ?_⟩
  · intro s f hdram hnew hused
    have hexec := exec_nvEnumerate (f := f) hdram hnew
    rw [State.nvFound_used hused] at hexec
    obtain ⟨hstate, hqueues, hmdts, hshift⟩ := State.nvEnabled_objects (f := f) (s := (s.setHidden H.enumerated 1).withOut
      ((List.range (min 16 f.queues.toNat)).flatMap (fun _ => [.nvme 0 0x101 0 0, .nvme 0 0x105 0 0]) ++
        .nvme 0 0x109 0 0 :: .nvme 0 0x106 0 0 :: s.out))
    refine ⟨_, hexec, hstate, hqueues, hmdts, hshift, ?_, ?_, ?_⟩
    · rw [State.out_nvEnabled]
      rfl
    · have hkept : (((s.setHidden H.enumerated 1).withOut ((List.range (min 16 f.queues.toNat)).flatMap (fun _ => [.nvme 0 0x101 0 0, .nvme 0 0x105 0 0]) ++
          .nvme 0 0x109 0 0 :: .nvme 0 0x106 0 0 :: s.out)).nvEnabled f).hidden H.enumerated = (s.setHidden H.enumerated 1).hidden H.enumerated := by
        rw [State.nvEnabled, State.hidden_raise, State.hidden_setReg, State.hidden_setHidden_ne _ _ _ _ _ _ (by decide), State.hidden_setReg,
          State.hidden_setReg, State.hidden_withOut]
      exact hkept.trans (State.hidden_setHidden_same ..)
    · change Effect s (State.withOut _ s.out) _ _ _
      rw [State.nvEnabled_withOut]
      have hnew : Effect s (s.setHidden H.enumerated 1) [] [O.nvCtrlState.key 0 0, O.nvCtrlQueues.key 0 0, O.nvCtrlMdts.key 0 0]
        [hkey H.lbaShift, hkey H.enumerated] := Effect.refl.setHidden (by simp)
      exact State.nvEnabled_effect hnew (((spanFree_nil.key (by decide)).key (by decide)).key (by decide)) (by simp)
        (by simp) (by simp) (by simp)
  · intro s f hdram hnew hunused
    have hexec := exec_nvEnumerate (f := f) hdram hnew
    have hfound : (s.setHidden H.enumerated 1).nvFound 0 f =
        (((s.setHidden H.enumerated 1).emit (.nvme 0 0x106 0 0)).setReg O.nvCtrlState 3 0).raise 0x7A2 (0 + 256 * 3) := by
      unfold State.nvFound
      dsimp only
      rw [if_neg (by simp [hunused])]
    rw [hfound] at hexec
    refine ⟨_, hexec, ?_, ?_, ?_, ?_⟩
    · rw [State.reg_raise_dram (by decide), State.reg_setReg_same]
    · rw [State.hidden_raise, State.hidden_setReg]
      exact State.hidden_setHidden_same s H.enumerated 1 0
    · rw [State.out_raise]
      rfl
    · change Effect s (State.withOut _ s.out) _ _ _
      rw [State.raise_withOut]
      have hfailed : Effect s ((s.setHidden H.enumerated 1).setReg O.nvCtrlState 3 0) [] [O.nvCtrlState.key 0 0] [hkey H.enumerated] :=
        (Effect.refl.setHidden (by simp)).setReg (by simp)
      exact hfailed.raise _ _ (spanFree_nil.key (by decide))
  · intro s ctrl c rest hold hclosing hcat hplan
    exact ⟨_, exec_nvCmdComplete (u := { s with nvCmds := rest }) hold hclosing (State.nvCatStep_none (s := { s with nvCmds := rest }) hcat) hplan, rfl, Effect.refl⟩
  · intro s ctrl c rest q hold hclosing hcat hput hopen hflush hplan hset
    have hstep := State.nvCatStep_put (s := { s with nvCmds := rest }) (d := c.set) hcat hput hopen hclosing hflush
    have hvalid := State.nvCatValid_set (s := { s with nvCmds := rest }) (d := c.set) (q := q) hclosing
    refine ⟨_, exec_nvCmdComplete hold ((congrArg NvSet.closing hvalid).trans hclosing) hstep hplan, rfl, hvalid, State.nvCatValid_gen, ?_⟩
    have hbegun : ({ s with nvCmds := rest } : State).withDrives s.nvCmds s.nvSets s.out = s := rfl
    exact State.nvCatValid_effect hbegun (by simp) (by simp)
  · intro s ctrl c rest hold hfirst
    refine ⟨_, congrArg Host.Outcome.next (State.nvBad_first hold hfirst), rfl, rfl, State.reg_setReg_same s O.nvCtrlErrors _ ctrl.val 0, ?_⟩
    exact (Effect.refl (s := s)).setReg (by simp)
  · intro s ctrl c rest hold hagain hop hset hctrl hplan hfirst
    refine ⟨_, exec_nvCmdTimeout hold hagain hctrl hplan hfirst, ?_⟩
    rw [← hctrl]
    exact State.nvLost_spec rfl
  · intro s d hrecording hclosing hcat hmembers
    refine ⟨_, (if_pos ⟨hrecording, hclosing, hcat⟩).trans (congrArg Host.Outcome.next (State.nvCatalogue_eq hmembers)), ?_, rfl, rfl, Effect.refl⟩
    exact State.nvSet_setNvSet _ _ _
  · intro s m d howner hon hactive hawaiting harmed hmembers
    exact ⟨_, exec_nvTrimCmd howner hon hactive hawaiting harmed hmembers, rfl, Effect.refl⟩
  · intro s ctrl temp warn hstate
    have hexec := exec_nvSmartPoll (temp := temp) (warn := warn) hstate
    have hk : SpanFree [O.nvCtrlTemp.key ctrl.val 0, O.nvCtrlWarn.key ctrl.val 0] := (spanFree_nil.key (by decide)).key (by decide)
    have hread : Effect s ((s.setReg O.nvCtrlTemp temp.toNat ctrl.val).setReg O.nvCtrlWarn warn.toNat ctrl.val) []
      [O.nvCtrlTemp.key ctrl.val 0, O.nvCtrlWarn.key ctrl.val 0] [] := (Effect.refl.setReg (by simp)).setReg (by simp)
    by_cases hwarn : warn = 0
    · rw [if_pos hwarn] at hexec
      refine ⟨_, hexec, ?_, State.reg_setReg_same .., rfl, ?_⟩
      · exact (State.reg_setReg_dram (key_ne_of_sub (by decide))).trans (State.reg_setReg_same ..)
      · rw [if_pos hwarn]
        exact hread
    · rw [if_neg hwarn] at hexec
      refine ⟨_, hexec, ?_, ?_, ?_, ?_⟩
      · rw [State.reg_raise_dram (by decide), State.reg_setReg_dram (key_ne_of_sub (by decide)), State.reg_setReg_same]
      · rw [State.reg_raise_dram (by decide), State.reg_setReg_same]
      · rw [State.out_raise]
        rfl
      · change Effect s (State.withOut _ s.out) _ _ _
        rw [if_neg hwarn, State.raise_withOut]
        exact hread.raise _ _ hk

end Sys2Proof.Machine
end

section
/-! SUPPORT. The display heads (R390 to R403): the link, clasp points, flips and hallmarks. -/

namespace Sys2Proof.Machine

variable {s t u : State} {n h : Nat} {x : Head} {evs : List (Nat × Nat)} {keys hids : List Nat}

/-- Objects after the event unit's own are no counter of merged raises. -/
theorem State.reg_raise_late {r : Row} {i j e d : Nat} (hr : 0x581 ≤ r.idx) : (s.raise e d).reg r i j = s.reg r i j := by
  refine State.reg_raise_ne _ _ _ _ _ _ ?_
  have hmerged : mergedKey = 0x58005 := rfl
  have := Nat.mul_le_mul_right 256 (hr.trans (Nat.le_add_right r.idx (r.ist * i)))
  simp only [Row.key, hmerged]
  omega

@[simp] theorem State.head_setHead (s : State) (h : Nat) (x : Head) : (s.setHead h x).head h = x := Map.get_put_same ..

/-- The machine with other heads, and something else on its way out. -/
def State.withHeads (s : State) (m : Map Head) (o : List Out) : State := { s with heads := m, out := o }

section
variable {m : Map Head} {o : List Out}
@[simp] theorem State.withHeads_self : s.withHeads s.heads s.out = s := rfl
@[simp] theorem State.setHead_withHeads : (s.setHead h x).withHeads m o = s.withHeads m o := rfl
@[simp] theorem State.emit_withHeads (e : Out) : (s.emit e).withHeads m o = s.withHeads m o := rfl
@[simp] theorem State.setReg_withHeads (r : Row) (v i j : Nat) : (s.setReg r v i j).withHeads m o = (s.withHeads m o).setReg r v i j := rfl
@[simp] theorem State.bump_withHeads (r : Row) (v i j : Nat) : (s.bump r v i j).withHeads m o = (s.withHeads m o).bump r v i j := rfl
@[simp] theorem State.bumpSat_withHeads (r : Row) (v i j : Nat) : (s.bumpSat r v i j).withHeads m o = (s.withHeads m o).bumpSat r v i j := rfl
@[simp] theorem State.setHidden_withHeads (k v i : Nat) : (s.setHidden k v i).withHeads m o = (s.withHeads m o).setHidden k v i := rfl
@[simp] theorem State.raise_withHeads (e d : Nat) : (s.raise e d).withHeads m o = (s.withHeads m o).raise e d := by
  rw [State.raise_eq, State.raise_eq]
  rfl
end

theorem State.head_raise (e d : Nat) : (s.raise e d).head h = s.head h := by
  rw [State.raise_eq]
  rfl

/-! ### The link (R390) -/

theorem State.dpQuiet_spec (v : Nat) : (s.dpQuiet h v).head h = { s.head h with retrain := false } ∧ (s.dpQuiet h v).reg O.dpState h = v ∧
    (s.dpQuiet h v).reg O.dpLayerState h = s.reg O.dpLayerState h / 16 * 16 := by
  refine ⟨State.head_setHead .., ?_, State.reg_setReg_same ..⟩
  exact (State.reg_setReg_ne _ _ _ _ _ _ _ _ (key_ne_of_sub (by decide))).trans (State.reg_setReg_same ..)

theorem State.dpQuiet_effect {m : Map Head} {o : List Out} {v : Nat} (hstate : O.dpState.key h 0 ∈ keys) (hlayer : O.dpLayerState.key h 0 ∈ keys)
    (hu : Effect s (u.withHeads m o) [] keys hids) : Effect s ((u.dpQuiet h v).withHeads m o) [] keys hids := by
  unfold State.dpQuiet
  rw [State.setReg_withHeads, State.setReg_withHeads, State.setHead_withHeads]
  exact (hu.setReg hstate).setReg hlayer

/-- The objects of a head's link. -/
abbrev linkKeys (h : Nat) : List Nat := [O.dpState.key h 0, O.dpLayerState.key h 0, O.dpLink.key h 0]

theorem linkKeys_span : SpanFree (linkKeys h) := ((spanFree_nil.key (by decide)).key (by decide)).key (by decide)

theorem State.dpLost_spec (cause : Nat) : (s.dpLost h cause).head h = { s.head h with retrain := false } ∧ (s.dpLost h cause).reg O.dpState h = 4 ∧
    (s.dpLost h cause).reg O.dpLink h = 0 ∧ (s.dpLost h cause).reg O.dpLayerState h = s.reg O.dpLayerState h / 16 * 16 := by
  obtain ⟨hhead, hstate, hlayer⟩ := State.dpQuiet_spec (s := s) (h := h) 4
  unfold State.dpLost
  refine ⟨?_, ?_, ?_, ?_⟩
  · rw [State.head_raise]
    exact hhead
  · rw [State.reg_raise_late (by decide), State.reg_setReg_ne _ _ _ _ _ _ _ _ (key_ne_of_sub (by decide)), hstate]
  · rw [State.reg_raise_late (by decide), State.reg_setReg_same]
  · rw [State.reg_raise_late (by decide), State.reg_setReg_ne _ _ _ _ _ _ _ _ (key_ne_of_sub (by decide)), hlayer]

theorem State.dpLost_effect {m : Map Head} {o : List Out} {cause : Nat} (hu : Effect s (u.withHeads m o) [] (linkKeys h) []) :
    Effect s ((u.dpLost h cause).withHeads m o) [(dpEvent h 6, cause)] (linkKeys h) [] := by
  unfold State.dpLost
  rw [State.raise_withHeads, State.setReg_withHeads]
  exact ((State.dpQuiet_effect (by simp) (by simp) hu).setReg (by simp)).raise _ _ linkKeys_span

/-- A trained link (R390): its two blank frames. -/
def State.dpTrained (s : State) (h : Nat) : State :=
  (((s.setHead h { s.head h with blanks := 2, clasped := false, blank := true, retrain := false, marked := true }).setReg O.dpLink
    (cfgAt (s.head h).cfg 0 + 256 * cfgAt (s.head h).cfg 1) h).setReg O.dpState 2 h).raise (dpEvent h 5)
      (cfgAt (s.head h).cfg 0 + 256 * cfgAt (s.head h).cfg 1)

theorem exec_dpLinkTrained {h : Fin 2} (hwait : s.reg O.dpState h.val = 1 ∨ (s.head h.val).retrain = true) :
    exec (.dpLinkTrained h true) s = .next (s.dpTrained h.val) := by
  change execDpLinkTrained h true s = _
  unfold execDpLinkTrained
  dsimp only
  rw [if_neg (by rintro ⟨h1, h2⟩; rcases hwait with h3 | h3 <;> simp_all), if_pos rfl]
  rfl

theorem exec_dpLinkTrained_failed {h : Fin 2} (hwait : s.reg O.dpState h.val = 1 ∨ (s.head h.val).retrain = true) :
    exec (.dpLinkTrained h false) s = .next (s.dpLost h.val 2) := by
  change execDpLinkTrained h false s = _
  unfold execDpLinkTrained
  dsimp only
  rw [if_neg (by rintro ⟨h1, h2⟩; rcases hwait with h3 | h3 <;> simp_all), if_neg (by decide)]

/-! ### Commits and clasp points (R397, R398) -/

/-- A head at its clasp point, sending a live frame under its plan's settings. -/
structure Clasping (s : State) (h : Nat) : Prop where
  sends : s.reg O.dpState h = 3
  open_ : (s.head h).clasped = false
  plan : (s.head h).cfg = dpPlan s.active h
  usual : (s.head h).safe = false
  steady : (s.head h).timing = false

/-- What is latched at the end of a clasp point. -/
def State.dpLatched (s : State) (h : Nat) : State := s.setHead h { s.head h with latch := s.dpLatchNow h }

/-- The pending set at a clasp point: it applies, or waits for the second blank frame of a timing change. -/
def State.dpTaken (s : State) (h : Nat) (was : Bool) : State :=
  if !(s.head h).timing then s.dpClaspPend h
  else if was && (s.head h).blanks == 0 then (s.dpClaspPend h).dpMisfit h
  else s

/-- The clasp point reached. -/
def State.dpAtClasp (s : State) (h : Nat) : State := s.setHead h { s.head h with clasped := true }

theorem State.dpAtClasp_head : (s.dpAtClasp h).head h = { s.head h with clasped := true } := State.head_setHead ..

theorem State.dpClaspPlan_same (hcfg : (s.head h).cfg = dpPlan s.active h) : s.dpClaspPlan h = s := if_pos hcfg.symm

theorem State.dpClaspSafe_usual (husual : (s.head h).safe = false) : s.dpClaspSafe h = s := by
  unfold State.dpClaspSafe
  rw [husual, if_neg (by decide)]

theorem exec_dpClasp {h : Fin 2} (hc : Clasping s h.val) :
    exec (.dpClasp h) s = .next (((s.dpAtClasp h.val).dpClaspPend h.val).dpLatched h.val) := by
  have hhead := State.dpAtClasp_head (s := s) (h := h.val)
  have hplan := State.dpClaspPlan_same (s := s.dpAtClasp h.val) (h := h.val) (by rw [hhead]; exact hc.plan)
  have hsafe := State.dpClaspSafe_usual (s := s.dpAtClasp h.val) (h := h.val) (by rw [hhead]; exact hc.usual)
  have hclasp : exec (.dpClasp h) s = .next ((((s.dpAtClasp h.val).dpClaspPlan h.val).dpClaspSafe h.val).dpTaken h.val ((s.head h.val).timing && (s.head h.val).blank) |>.dpLatched
      h.val) := by
    change execDpClasp h s = _
    unfold execDpClasp
    dsimp only
    rw [if_neg (by simp [State.dpSends, hc.sends, hc.open_])]
    rfl
  have htaken : (s.dpAtClasp h.val).dpTaken h.val ((s.head h.val).timing && (s.head h.val).blank) = (s.dpAtClasp h.val).dpClaspPend h.val := by
    unfold State.dpTaken
    rw [hhead, if_pos (by rw [hc.steady]; rfl)]
  rw [hclasp, hplan, hsafe, htaken]

theorem State.dpClaspPend_none (hpend : (s.head h).pend = none) : s.dpClaspPend h = s := by
  unfold State.dpClaspPend
  dsimp only
  rw [hpend]

/-- A pending set in force from the next frame (R398). -/
def State.dpPended (s : State) (h : Nat) (p : DpSet) (late : Bool) : State :=
  let s := (((s.setHead h { (s.head h).setLive p with pend := none }).bump O.dpCommitSeq h).setReg O.dpLayerState (s.reg O.dpLayerState h % 16) h)
  if late then s.bumpSat O.dpLate h else s

theorem State.dpClaspPend_some {p : DpSet} {late : Bool} (hpend : (s.head h).pend = some (p, late)) :
    s.dpClaspPend h = (s.dpPended h p late).raise (dpEvent h 1) ((s.dpPended h p late).reg O.dpCommitSeq h + 2 ^ 32 * b2n late) := by
  unfold State.dpClaspPend
  dsimp only
  rw [hpend]
  rfl

end Sys2Proof.Machine
end

section
/-! SUPPORT. What clasp points, flips and hallmarks leave (R391, R398 to R403), and the heads' statement. -/

namespace Sys2Proof.Machine

variable {s t u : State} {n h : Nat} {x : Head} {evs : List (Nat × Nat)} {keys hids : List Nat} {p : DpSet} {late : Bool}

/-! ### What a clasp point leaves -/

/-- The latch goes by the settings, the newest lines and the newest records. -/
theorem State.dpLatchNow_congr (hcfg : (t.head h).cfg = (s.head h).cfg) (hhid : t.hidden H.sgWrote h = s.hidden H.sgWrote h)
    (hreg : t.reg O.sgWriteLine h = s.reg O.sgWriteLine h) (hnew : t.newest = s.newest) : t.dpLatchNow h = s.dpLatchNow h := by
  simp only [State.dpLatchNow, hcfg, hhid, hreg, hnew]

theorem State.dpLatched_head : (s.dpLatched h).head h = { s.head h with latch := s.dpLatchNow h } := State.head_setHead ..

theorem State.dpPended_head : (s.dpPended h p late).head h = { (s.head h).setLive p with pend := none } := by
  unfold State.dpPended
  dsimp only
  split <;> exact State.head_setHead ..

theorem State.dpPended_seq : (s.dpPended h p late).reg O.dpCommitSeq h = (s.reg O.dpCommitSeq h + 1) % 2 ^ O.dpCommitSeq.width := by
  have hlayer : (((s.setHead h { (s.head h).setLive p with pend := none }).bump O.dpCommitSeq h).setReg O.dpLayerState
      (s.reg O.dpLayerState h % 16) h).reg O.dpCommitSeq h = (s.reg O.dpCommitSeq h + 1) % 2 ^ O.dpCommitSeq.width :=
    (State.reg_setReg_ne _ _ _ _ _ _ _ _ (key_ne_of_sub (by decide))).trans (State.reg_setReg_same ..)
  unfold State.dpPended
  dsimp only
  split
  · exact (State.reg_setReg_ne _ _ _ _ _ _ _ _ (key_ne_of_sub (by decide))).trans hlayer
  · exact hlayer

theorem State.dpPended_late : (s.dpPended h p late).reg O.dpLate h =
    if late then satAdd O.dpLate.width (s.reg O.dpLate h) 1 else s.reg O.dpLate h := by
  have hkept : (((s.setHead h { (s.head h).setLive p with pend := none }).bump O.dpCommitSeq h).setReg O.dpLayerState
      (s.reg O.dpLayerState h % 16) h).reg O.dpLate h = s.reg O.dpLate h :=
    (State.reg_setReg_ne _ _ _ _ _ _ _ _ (key_ne_of_sub (by decide))).trans (State.reg_setReg_ne _ _ _ _ _ _ _ _ (key_ne_of_sub (by decide)))
  unfold State.dpPended
  dsimp only
  cases late
  · exact hkept
  · refine (State.reg_setReg_same ..).trans ?_
    rw [hkept, if_pos rfl]

/-- A later raise is no object of the spectrograms, nor of the heads. -/
theorem State.dpPended_kept {r : Row} {i j : Nat} (hseq : r.key i j ≠ O.dpCommitSeq.key h 0) (hlayer : r.key i j ≠ O.dpLayerState.key h 0)
    (hlate : r.key i j ≠ O.dpLate.key h 0) : (s.dpPended h p late).reg r i j = s.reg r i j := by
  have hkept : (((s.setHead h { (s.head h).setLive p with pend := none }).bump O.dpCommitSeq h).setReg O.dpLayerState
      (s.reg O.dpLayerState h % 16) h).reg r i j = s.reg r i j :=
    (State.reg_setReg_ne _ _ _ _ _ _ _ _ hlayer).trans (State.reg_setReg_ne _ _ _ _ _ _ _ _ hseq)
  unfold State.dpPended
  dsimp only
  split
  · exact (State.reg_setReg_ne _ _ _ _ _ _ _ _ hlate).trans hkept
  · exact hkept

/-- The objects of a commit. -/
abbrev commitKeys (h : Nat) : List Nat := [O.dpCommitSeq.key h 0, O.dpLayerState.key h 0, O.dpLate.key h 0]

theorem commitKeys_span : SpanFree (commitKeys h) := ((spanFree_nil.key (by decide)).key (by decide)).key (by decide)

theorem State.dpPended_effect {m : Map Head} {o : List Out} (hu : u.withHeads m o = s) :
    Effect s ((u.dpPended h p late).withHeads m o) [] (commitKeys h) [] := by
  unfold State.dpPended
  dsimp only
  split
  · rw [State.bumpSat_withHeads, State.setReg_withHeads, State.bump_withHeads, State.setHead_withHeads, hu]
    exact ((Effect.refl.setReg (by simp)).setReg (by simp)).setReg (by simp)
  · rw [State.setReg_withHeads, State.bump_withHeads, State.setHead_withHeads, hu]
    exact (Effect.refl.setReg (by simp)).setReg (by simp)

/-- What a clasp point does with a pending set. -/
def State.dpApplied (s : State) (h : Nat) (p : DpSet) (late : Bool) : State :=
  ((s.dpAtClasp h).dpPended h p late).raise (dpEvent h 1) (((s.dpAtClasp h).dpPended h p late).reg O.dpCommitSeq h + 2 ^ 32 * b2n late)

theorem State.dpApplied_head : (s.dpApplied h p late).head h = { ({ s.head h with clasped := true } : Head).setLive p with pend := none } := by
  unfold State.dpApplied
  rw [State.head_raise, State.dpPended_head, State.dpAtClasp_head]

theorem State.dpApplied_reg {r : Row} {i j : Nat} (hr : 0x581 ≤ r.idx) :
    (s.dpApplied h p late).reg r i j = ((s.dpAtClasp h).dpPended h p late).reg r i j := State.reg_raise_late hr

theorem State.dpApplied_seq : (s.dpApplied h p late).reg O.dpCommitSeq h = (s.reg O.dpCommitSeq h + 1) % 2 ^ O.dpCommitSeq.width :=
  (State.dpApplied_reg (by decide)).trans State.dpPended_seq

theorem State.dpPended_rest : ((s.dpPended h p late).hid, (s.dpPended h p late).newest) = (s.hid, s.newest) := by
  unfold State.dpPended
  dsimp only
  split <;> rfl

theorem State.dpApplied_latch : (s.dpApplied h p late).dpLatchNow h = s.dpLatchNow h := by
  have hrest := State.dpPended_rest (s := s.dpAtClasp h) (h := h) (p := p) (late := late)
  obtain ⟨hhid, hnew⟩ := Prod.mk.inj hrest
  have hraised : (s.dpApplied h p late).hid = s.hid ∧ (s.dpApplied h p late).newest = s.newest := by
    unfold State.dpApplied
    rw [State.raise_eq]
    exact ⟨hhid, hnew⟩
  refine State.dpLatchNow_congr ?_ ?_ ?_ hraised.2
  · rw [State.dpApplied_head, Head.setLive]
    split <;> rfl
  · rw [State.hidden, hraised.1]
    rfl
  · rw [State.dpApplied_reg (by decide)]
    exact State.dpPended_kept (by simp only [Row.key, O.sgWriteLine, O.dpCommitSeq]; omega) (by simp only [Row.key, O.sgWriteLine, O.dpLayerState]; omega)
      (by simp only [Row.key, O.sgWriteLine, O.dpLate]; omega)

theorem exec_dpClasp_pending {h : Fin 2} (hc : Clasping s h.val) (hpend : (s.head h.val).pend = some (p, late)) :
    exec (.dpClasp h) s = .next ((s.dpApplied h.val p late).dpLatched h.val) := by
  rw [exec_dpClasp hc, State.dpClaspPend_some (s := s.dpAtClasp h.val) (p := p) (late := late) (by rw [State.dpAtClasp_head]; exact hpend)]
  rfl

theorem State.dpApplied_effect : Effect s { (s.dpApplied h p late).dpLatched h with heads := s.heads }
    [(dpEvent h 1, (s.reg O.dpCommitSeq h + 1) % 2 ^ O.dpCommitSeq.width + 2 ^ 32 * b2n late)] (commitKeys h) [] := by
  have hseq : ((s.dpAtClasp h).dpPended h p late).reg O.dpCommitSeq h = (s.reg O.dpCommitSeq h + 1) % 2 ^ O.dpCommitSeq.width := State.dpPended_seq
  have hout : (s.dpApplied h p late).out = s.out := by
    unfold State.dpApplied State.dpPended
    rw [State.out_raise]
    dsimp only
    split <;> rfl
  have heffect : Effect s ((s.dpApplied h p late).withHeads s.heads s.out)
      [(dpEvent h 1, (s.reg O.dpCommitSeq h + 1) % 2 ^ O.dpCommitSeq.width + 2 ^ 32 * b2n late)] (commitKeys h) [] := by
    unfold State.dpApplied
    rw [State.raise_withHeads, hseq]
    exact (State.dpPended_effect (u := s.dpAtClasp h) rfl).raise _ _ commitKeys_span
  rw [← hout] at heffect
  exact heffect

/-! ### Commits -/

/-- The shadow set waits for the clasp point. -/
def State.dpCommitted (s : State) (h : Nat) : State :=
  s.setHead h { s.head h with pend := some (s.dpShadow h, (s.reg O.dpState h == 2 || s.reg O.dpState h == 3) && (s.head h).clasped) }

theorem exec_dpCommit {m : Master} {h : Fin 2} (howner : Owner s m) (hon : bit (s.reg O.pwrDomainOn) 33 = true) (henable : s.plan O.dpEnable h.val = 1)
    (hok : (s.dpShadow h.val).ok (s.head h.val).cfg = true) (hpend : (s.head h.val).pend = none) :
    exec (.dpCommit m h 1) s = .next { s.dpCommitted h.val with out := replied s m } := by
  have hdrop : s.dpDropPend h.val (s.dpShadow h.val).buffer = s := by
    unfold State.dpDropPend
    dsimp only
    rw [hpend]
  have hact : actDpCommit h.val 1 s = .ok (s.dpCommitted h.val) := by
    unfold actDpCommit onlyOne refuseIf
    rw [if_neg (by decide)]
    refine reaching_on ?_ hon
    refine (if_neg (by simp [henable, hok])).trans ?_
    rw [hdrop]
    rfl
  exact State.command_ok howner rfl (by decide) (by decide) hact

/-! ### Flips -/

/-- A frame's settings at its flip. -/
def State.dpFlipped (s : State) (h : Nat) : Head :=
  { s.head h with
    blanks := (s.head h).blanks - 1, blank := decide (0 < (s.head h).blanks) || s.reg O.frSafe == 1, clasped := false, marked := false,
    shown := (s.head h).live, shownLatch := (s.head h).latch, shownCfg := (s.head h).cfg, shownPal := s.dom O.dnPalette }

/-- Layers of a frame. -/
def layersOf (l : DpSet) : Nat := (List.range 4).foldl (fun m k => if l.on k then m + 2 ^ k else m) 0

/-- A frame counted and timed. -/
def State.dpCounted (s : State) (h : Nat) : State := ((s.setHead h (s.dpFlipped h)).bump O.dpFrame h).setReg O.dpFlipT96 s.now h

/-- A frame's state shown. -/
def State.dpFramed (s : State) (h : Nat) : State :=
  ((s.dpCounted h).setReg O.dpState (if (s.dpFlipped h).blank then 2 else 3) h).setReg O.dpLayerState
    ((s.dpCounted h).reg O.dpLayerState h / 16 * 16 + (if (s.dpFlipped h).blank then 0 else layersOf (s.dpFlipped h).live)) h

/-- A frame told. -/
def State.dpTold (s : State) (h : Nat) : State :=
  ((s.dpFramed h).raise (dpEvent h 0) ((s.dpFramed h).reg O.dpFrame h)).emit
    (.flip h ((s.dpFramed h).reg O.dpFrame h))

theorem exec_dpFlip {h : Fin 2} (hstate : s.reg O.dpState h.val = 3) (hretrain : (s.head h.val).retrain = false) :
    exec (.dpFlip h) s = .next ((s.dpTold h.val).dpAge h.val) := by
  change execDpFlip h s = _
  unfold execDpFlip
  dsimp only
  rw [if_neg (by simp [State.dpSends, hstate]), if_neg (by rw [hretrain]; decide)]
  rfl

/-- The objects of a flip. -/
abbrev flipKeys (h : Nat) : List Nat := [O.dpFrame.key h 0, O.dpFlipT96.key h 0, O.dpState.key h 0, O.dpLayerState.key h 0]

theorem flipKeys_span : SpanFree (flipKeys h) := (((spanFree_nil.key (by decide)).key (by decide)).key (by decide)).key (by decide)

theorem State.dpFramed_objects : (s.dpFramed h).reg O.dpFrame h = (s.reg O.dpFrame h + 1) % 2 ^ O.dpFrame.width ∧
    (s.dpFramed h).reg O.dpFlipT96 h = s.now ∧ (s.dpFramed h).reg O.dpState h = if (s.dpFlipped h).blank then 2 else 3 := by
  unfold State.dpFramed State.dpCounted
  refine ⟨?_, ?_, ?_⟩
  · rw [State.reg_setReg_ne _ _ _ _ _ _ _ _ (key_ne_of_sub (by decide)), State.reg_setReg_ne _ _ _ _ _ _ _ _ (key_ne_of_sub (by decide)),
      State.reg_setReg_ne _ _ _ _ _ _ _ _ (key_ne_of_sub (by decide))]
    exact State.reg_setReg_same ..
  · rw [State.reg_setReg_ne _ _ _ _ _ _ _ _ (key_ne_of_sub (by decide)), State.reg_setReg_ne _ _ _ _ _ _ _ _ (key_ne_of_sub (by decide)),
      State.reg_setReg_same]
  · rw [State.reg_setReg_ne _ _ _ _ _ _ _ _ (key_ne_of_sub (by decide)), State.reg_setReg_same]

theorem State.dpTold_reg {r : Row} {i j : Nat} (hr : 0x581 ≤ r.idx) : (s.dpTold h).reg r i j = (s.dpFramed h).reg r i j := State.reg_raise_late hr

theorem State.head_setReg (r : Row) (v i j : Nat) : (s.setReg r v i j).head h = s.head h := rfl

theorem State.head_bump (r : Row) (v i j : Nat) : (s.bump r v i j).head h = s.head h := rfl

theorem State.dpFramed_head : (s.dpFramed h).head h = s.dpFlipped h := by
  unfold State.dpFramed State.dpCounted
  rw [State.head_setReg, State.head_setReg, State.head_setReg, State.head_bump]
  exact State.head_setHead ..

theorem State.head_emit (e : Out) : (s.emit e).head h = s.head h := rfl

theorem State.dpTold_head : (s.dpTold h).head h = s.dpFlipped h := by
  unfold State.dpTold
  rw [State.head_emit, State.head_raise]
  exact State.dpFramed_head

theorem State.out_setReg (r : Row) (v i j : Nat) : (s.setReg r v i j).out = s.out := rfl

theorem State.out_bump (r : Row) (v i j : Nat) : (s.bump r v i j).out = s.out := rfl

theorem State.dpFramed_out : (s.dpFramed h).out = s.out := by
  unfold State.dpFramed State.dpCounted
  rw [State.out_setReg, State.out_setReg, State.out_setReg, State.out_bump]
  rfl

theorem State.out_emit (e : Out) : (s.emit e).out = e :: s.out := rfl

theorem State.dpTold_out : (s.dpTold h).out = .flip h ((s.reg O.dpFrame h + 1) % 2 ^ O.dpFrame.width) :: s.out := by
  unfold State.dpTold
  rw [State.out_emit, State.out_raise, State.dpFramed_out, State.dpFramed_objects.1]

theorem State.dpFramed_effect {m : Map Head} {o : List Out} (hu : u.withHeads m o = s) :
    Effect s ((u.dpFramed h).withHeads m o) [] (flipKeys h) [] := by
  unfold State.dpFramed State.dpCounted
  rw [State.setReg_withHeads, State.setReg_withHeads, State.setReg_withHeads, State.bump_withHeads, State.setHead_withHeads, hu]
  exact (((Effect.refl.setReg (by simp)).setReg (by simp)).setReg (by simp)).setReg (by simp)

theorem State.dpTold_effect : Effect s ((s.dpTold h).withHeads s.heads s.out) [(dpEvent h 0, (s.reg O.dpFrame h + 1) % 2 ^ O.dpFrame.width)]
    (flipKeys h) [] := by
  unfold State.dpTold
  rw [State.emit_withHeads, State.raise_withHeads, State.dpFramed_objects.1]
  exact (State.dpFramed_effect rfl).raise _ _ flipKeys_span

/-- No buffer waits for its retirement. -/
theorem State.dpAge_none (h0 : (s.head h).retiring = []) : s.dpAge h = s.setHead h { s.head h with retiring := [] } := by
  unfold State.dpAge
  dsimp only
  rw [h0]
  rfl

/-- The one buffer that waits is retired at this flip. -/
theorem State.dpAge_due {a : Nat} (h1 : (s.head h).retiring = [(a, 1)]) : s.dpAge h = (s.setHead h { s.head h with retiring := [] }).dpRetire h a := by
  unfold State.dpAge
  dsimp only
  rw [h1]
  rfl

/-- The machine without its heads, objects, events and what has left it. -/
def State.offHeads (s : State) : State := { s with heads := [], out := [], regs := [], raises := [] }

@[simp] theorem State.setHead_offHeads : (s.setHead h x).offHeads = s.offHeads := rfl
@[simp] theorem State.emit_offHeads (e : Out) : (s.emit e).offHeads = s.offHeads := rfl
@[simp] theorem State.setReg_offHeads (r : Row) (v i j : Nat) : (s.setReg r v i j).offHeads = s.offHeads := rfl
@[simp] theorem State.bump_offHeads (r : Row) (v i j : Nat) : (s.bump r v i j).offHeads = s.offHeads := rfl
@[simp] theorem State.raise_offHeads (e d : Nat) : (s.raise e d).offHeads = s.offHeads := by
  rw [State.raise_eq]
  rfl

theorem State.dpTold_offHeads : (s.dpTold h).offHeads = s.offHeads := by
  unfold State.dpTold State.dpFramed State.dpCounted
  rw [State.emit_offHeads, State.raise_offHeads, State.setReg_offHeads, State.setReg_offHeads, State.setReg_offHeads, State.bump_offHeads,
    State.setHead_offHeads]

theorem State.of_offHeads (h0 : t.offHeads = s.offHeads) : ({ t with heads := s.heads, out := s.out, regs := s.regs, raises := s.raises } : State) = s :=
  congrArg (fun v : State => { v with heads := s.heads, out := s.out, regs := s.regs, raises := s.raises }) h0

/-! ### Hallmarks (R403) -/

/-- A frame's hallmark taken. -/
def State.dpMarking (s : State) (h : Nat) : State := s.setHead h { s.head h with marked := true }

theorem State.dpMarking_head : (s.dpMarking h).head h = { s.head h with marked := true } := State.head_setHead ..

/-- The hallmark as it is shown. -/
def State.dpMarked (s : State) (h hm : Nat) : State :=
  ((s.dpMarking h).setReg O.dpHmLast hm h).setReg O.dpHmFrame (s.reg O.dpFrame h) h

theorem State.dpFrameBytes_blank (hblank : (s.head h).blank = true) : s.dpFrameBytes h =
    (List.replicate (3 * cfgAt (s.head h).shownCfg 3 * cfgAt (s.head h).shownCfg 7) 0, s) := by
  unfold State.dpFrameBytes
  dsimp only
  rw [hblank, if_pos rfl]

/-- A frame without the layers that are read from memory reads nothing. -/
theorem State.dpFrameBytes_unread (hblank : (s.head h).blank = false) (h1 : (s.head h).shown.on 1 = false) (h3 : (s.head h).shown.on 3 = false) :
    (s.dpFrameBytes h).2 = s := by
  unfold State.dpFrameBytes
  dsimp only
  rw [hblank, if_neg (by decide), h1, h3]
  rfl

theorem State.dpMarking_bytes (hblank : (s.head h).blank = false) (h1 : (s.head h).shown.on 1 = false) (h3 : (s.head h).shown.on 3 = false) :
    ((s.dpMarking h).dpFrameBytes h).1 = (s.dpFrameBytes h).1 := by
  have hpixel (l1 l3 : List (List Byte)) (y : DpSet) (c : List Nat) (l : DpLatch) (tr : List (Nat × List (List Nat))) (px py : Nat) :
      (s.dpMarking h).dpPixel h y c l l1 l3 tr px py = s.dpPixel h y c l l1 l3 tr px py := by
    unfold State.dpPixel
    rw [State.dpMarking_head]
    rfl
  unfold State.dpFrameBytes
  simp only [State.dpMarking_head, hblank, h1, h3, hpixel]
  rfl

end Sys2Proof.Machine
end

section
/-! SUPPORT. The statement of the display heads, command by command (R390 to R403). -/

namespace Sys2Proof.Machine

variable {s t u : State} {n : Nat} {h : Fin 2} {x : Head} {evs : List (Nat × Nat)} {keys hids : List Nat} {p : DpSet} {late : Bool}

/-! ### Hot plug and training (R390) -/

/-- A display connected to an enabled head. -/
def State.dpRisen (s : State) (n : Nat) (edid : List Byte) : State :=
  ((s.setHead n { s.head n with hpd := true, sink := edid }).setDom O.dpEdid edid n).dpQuiet n 1

theorem exec_dpHpdRise {edid : List Byte} (henable : s.plan O.dpEnable h.val = 1) :
    exec (.dpHpdRise h edid) s = .next (s.dpRisen h.val edid) := if_pos henable

theorem State.dpRisen_effect {edid : List Byte} : Effect s { s.dpRisen n edid with heads := s.heads, doms := s.doms } [] [O.dpState.key n 0, O.dpLayerState.key n 0] [] := by
  have hpair : Effect s ((s.setReg O.dpState 1 n).setReg O.dpLayerState (s.reg O.dpLayerState n / 16 * 16) n) [] [O.dpState.key n 0, O.dpLayerState.key n 0] [] :=
    (Effect.refl.setReg (by simp)).setReg (by simp)
  have hlayer : (((s.setHead n { s.head n with hpd := true, sink := edid }).setDom O.dpEdid edid n).setReg O.dpState 1 n).reg O.dpLayerState n =
      s.reg O.dpLayerState n := State.reg_setReg_ne _ _ _ _ _ _ _ _ (key_ne_of_sub (by decide))
  exact hpair

theorem dpHpdRise_states {edid : List Byte} (henable : s.plan O.dpEnable h.val = 1) : ∃ t, exec (.dpHpdRise h edid) s = .next t ∧
      t.head h.val = { s.head h.val with hpd := true, sink := edid, retrain := false } ∧
      t.dom O.dpEdid h.val = edid ∧
      t.reg O.dpState h.val = 1 ∧
      t.reg O.dpLayerState h.val = s.reg O.dpLayerState h.val / 16 * 16 ∧
      Effect s { t with heads := s.heads, doms := s.doms } [] [O.dpState.key h.val 0, O.dpLayerState.key h.val 0] [] := by
  obtain ⟨hhead, hstate, hlayer⟩ := State.dpQuiet_spec (h := h.val)
    (s := (s.setHead h.val { s.head h.val with hpd := true, sink := edid }).setDom O.dpEdid edid h.val) 1
  refine ⟨_, exec_dpHpdRise henable, ?_, State.dom_setDom_same .., hstate, hlayer, State.dpRisen_effect⟩
  refine hhead.trans ?_
  have hrisen : ((s.setHead h.val { s.head h.val with hpd := true, sink := edid }).setDom O.dpEdid edid h.val).head h.val =
    { s.head h.val with hpd := true, sink := edid } := State.head_setHead ..
  rw [hrisen]

theorem State.dpQuiet_out (v : Nat) : (s.dpQuiet n v).out = s.out := rfl

theorem State.dpLost_out (cause : Nat) : (s.dpLost n cause).out = s.out := by
  unfold State.dpLost
  rw [State.out_raise]
  rfl

/-- A frame of the heads is one of the heads alone where nothing left the machine. -/
theorem Effect.heads (hout : t.out = s.out) (heffect : Effect s (t.withHeads s.heads s.out) evs keys hids) :
    Effect s { t with heads := s.heads } evs keys hids := by
  rw [← hout] at heffect
  exact heffect

theorem dpHpdFall_states (henable : s.plan O.dpEnable h.val = 1) : ∃ t, exec (.dpHpdFall h) s = .next t ∧
      t.head h.val = { s.head h.val with hpd := false, retrain := false } ∧
      t.reg O.dpState h.val = 4 ∧
      t.reg O.dpLink h.val = 0 ∧
      t.reg O.dpLayerState h.val = s.reg O.dpLayerState h.val / 16 * 16 ∧
      Effect s { t with heads := s.heads } [(dpEvent h.val 6, 1)] (linkKeys h.val) [] := by
  obtain ⟨hhead, hstate, hlink, hlayer⟩ := State.dpLost_spec (h := h.val) (s := s.setHead h.val { s.head h.val with hpd := false }) 1
  refine ⟨_, if_pos henable, ?_, hstate, hlink, hlayer, Effect.heads (State.dpLost_out ..) (State.dpLost_effect Effect.refl)⟩
  rw [hhead, State.head_setHead]

theorem dpLinkTrained_failed_states (hwait : s.reg O.dpState h.val = 1 ∨ (s.head h.val).retrain = true) :
    ∃ t, exec (.dpLinkTrained h false) s = .next t ∧
      t.head h.val = { s.head h.val with retrain := false } ∧
      t.reg O.dpState h.val = 4 ∧
      t.reg O.dpLink h.val = 0 ∧
      t.reg O.dpLayerState h.val = s.reg O.dpLayerState h.val / 16 * 16 ∧
      Effect s { t with heads := s.heads } [(dpEvent h.val 6, 2)] (linkKeys h.val) [] := by
  obtain ⟨hhead, hstate, hlink, hlayer⟩ := State.dpLost_spec (h := h.val) (s := s) 2
  exact ⟨_, exec_dpLinkTrained_failed hwait, hhead, hstate, hlink, hlayer, Effect.heads (State.dpLost_out ..) (State.dpLost_effect Effect.refl)⟩

theorem dpLinkTrained_states (hwait : s.reg O.dpState h.val = 1 ∨ (s.head h.val).retrain = true) :
    ∃ t, exec (.dpLinkTrained h true) s = .next t ∧
      t.head h.val = { s.head h.val with blanks := 2, clasped := false, blank := true, retrain := false, marked := true } ∧
      t.reg O.dpState h.val = 2 ∧
      t.reg O.dpLink h.val = (cfgAt (s.head h.val).cfg 0 + 256 * cfgAt (s.head h.val).cfg 1) ∧
      Effect s { t with heads := s.heads } [(dpEvent h.val 5, (cfgAt (s.head h.val).cfg 0 + 256 * cfgAt (s.head h.val).cfg 1))] [O.dpState.key h.val 0, O.dpLink.key h.val 0] [] := by
  refine ⟨_, exec_dpLinkTrained hwait, ?_, ?_, ?_, Effect.heads ?_ ?_⟩
  · unfold State.dpTrained
    rw [State.head_raise, State.head_setReg, State.head_setReg, State.head_setHead]
  · unfold State.dpTrained
    rw [State.reg_raise_late (by decide), State.reg_setReg_same]
  · unfold State.dpTrained
    rw [State.reg_raise_late (by decide), State.reg_setReg_ne _ _ _ _ _ _ _ _ (key_ne_of_sub (by decide)), State.reg_setReg_same]
  · unfold State.dpTrained
    rw [State.out_raise]
    rfl
  · unfold State.dpTrained
    rw [State.raise_withHeads, State.setReg_withHeads, State.setReg_withHeads, State.setHead_withHeads]
    exact ((Effect.refl.setReg (by simp)).setReg (by simp)).raise _ _ ((spanFree_nil.key (by decide)).key (by decide))

/-! ### Commits and clasp points (R397, R398) -/

theorem State.dpCommitted_head : (s.dpCommitted n).head n = { s.head n with
    pend := some (s.dpShadow n, (s.reg O.dpState n == 2 || s.reg O.dpState n == 3) && (s.head n).clasped) } := State.head_setHead ..

theorem State.dpClasp_pending_live (hc : Clasping s h.val) (hpend : (s.head h.val).pend = some (p, late)) :
    s.thenDoes (.dpClasp h) (fun u => ((u.head h.val).live, u.reg O.dpCommitSeq h.val)) = some (p, (s.reg O.dpCommitSeq h.val + 1) % 2 ^ O.dpCommitSeq.width) := by
  have hlive : (((s.dpApplied h.val p late).dpLatched h.val).head h.val).live = p := by
    rw [State.dpLatched_head, State.dpApplied_head, Head.setLive]
    split <;> rfl
  have hseq : ((s.dpApplied h.val p late).dpLatched h.val).reg O.dpCommitSeq h.val = (s.reg O.dpCommitSeq h.val + 1) % 2 ^ O.dpCommitSeq.width :=
    State.dpApplied_seq
  rw [State.thenDoes_of_exec _ (exec_dpClasp_pending hc hpend), hlive, hseq]

theorem State.dpCommitted_clasping {o : List Out} (hc : Clasping s h.val) : Clasping { s.dpCommitted h.val with out := o } h.val := by
  have hhead : ({ s.dpCommitted h.val with out := o } : State).head h.val = { s.head h.val with
    pend := some (s.dpShadow h.val, (s.reg O.dpState h.val == 2 || s.reg O.dpState h.val == 3) && (s.head h.val).clasped) } := State.dpCommitted_head
  constructor
  · exact hc.sends
  · rw [hhead]
    exact hc.open_
  · rw [hhead]
    exact hc.plan
  · rw [hhead]
    exact hc.usual
  · rw [hhead]
    exact hc.steady

theorem dpClasp_plain_states (hc : Clasping s h.val) (hpend : (s.head h.val).pend = none) : ∃ t, exec (.dpClasp h) s = .next t ∧
      t.head h.val = { s.head h.val with clasped := true, latch := s.dpLatchNow h.val } ∧
      Effect s { t with heads := s.heads } [] [] [] := by
  refine ⟨_, exec_dpClasp hc, ?_, ?_⟩ <;> rw [State.dpClaspPend_none (s := s.dpAtClasp h.val) (by rw [State.dpAtClasp_head]; exact hpend)]
  · have hlatch : (s.dpAtClasp h.val).dpLatchNow h.val = s.dpLatchNow h.val :=
      State.dpLatchNow_congr (by rw [State.dpAtClasp_head]) rfl rfl rfl
    rw [State.dpLatched_head, hlatch, State.dpAtClasp_head]
  · exact Effect.refl

theorem dpClasp_pending_states (hc : Clasping s h.val) (hpend : (s.head h.val).pend = some (p, late)) (hfree : (s.head h.val).live.buffer = none) :
    ∃ t, exec (.dpClasp h) s = .next t ∧
      t.head h.val = { s.head h.val with clasped := true, live := p, pend := none, latch := s.dpLatchNow h.val } ∧
      t.reg O.dpCommitSeq h.val = ((s.reg O.dpCommitSeq h.val + 1) % 2 ^ O.dpCommitSeq.width) ∧
      t.reg O.dpLate h.val = (if late then satAdd O.dpLate.width (s.reg O.dpLate h.val) 1 else s.reg O.dpLate h.val) ∧
      Effect s { t with heads := s.heads } [(dpEvent h.val 1, ((s.reg O.dpCommitSeq h.val + 1) % 2 ^ O.dpCommitSeq.width) + 2 ^ 32 * b2n late)] (commitKeys h.val) [] := by
  refine ⟨_, exec_dpClasp_pending hc hpend, ?_, State.dpApplied_seq, (State.dpApplied_reg (by decide)).trans State.dpPended_late, State.dpApplied_effect⟩
  have hlive : ({ s.head h.val with clasped := true } : Head).setLive p = { s.head h.val with clasped := true, live := p } := by
    unfold Head.setLive
    dsimp only
    rw [hfree]
  rw [State.dpLatched_head, State.dpApplied_latch, State.dpApplied_head, hlive]

/-! ### Flips (R391) -/

theorem dpFlip_states (hstate : s.reg O.dpState h.val = 3) (hretrain : (s.head h.val).retrain = false) (hnone : (s.head h.val).retiring = []) :
    ∃ t, exec (.dpFlip h) s = .next t ∧
      t.head h.val = s.dpFlipped h.val ∧
      t.reg O.dpFrame h.val = ((s.reg O.dpFrame h.val + 1) % 2 ^ O.dpFrame.width) ∧
      t.reg O.dpFlipT96 h.val = s.now ∧
      t.reg O.dpState h.val = (if (s.dpFlipped h.val).blank then 2 else 3) ∧
      t.out = .flip h.val ((s.reg O.dpFrame h.val + 1) % 2 ^ O.dpFrame.width) :: s.out ∧
      Effect s { t with heads := s.heads, out := s.out } [(dpEvent h.val 0, ((s.reg O.dpFrame h.val + 1) % 2 ^ O.dpFrame.width))] (flipKeys h.val) [] := by
  obtain ⟨hframe, ht96, hshow⟩ := State.dpFramed_objects (s := s) (h := h.val)
  have hwait : ((s.dpTold h.val).head h.val).retiring = [] := by
    rw [State.dpTold_head]
    exact hnone
  have hage : (s.dpTold h.val).dpAge h.val = (s.dpTold h.val).setHead h.val (s.dpFlipped h.val) := by
    rw [State.dpAge_none hwait, State.dpTold_head]
    exact congrArg (fun l => (s.dpTold h.val).setHead h.val { s.dpFlipped h.val with retiring := l }) hnone.symm
  refine ⟨_, exec_dpFlip hstate hretrain, ?_⟩
  rw [hage]
  exact ⟨State.head_setHead .., (State.dpTold_reg (by decide)).trans hframe, (State.dpTold_reg (by decide)).trans ht96, (State.dpTold_reg (by decide)).trans hshow,
    State.dpTold_out, State.dpTold_effect⟩

theorem State.dpRetire_offHeads (a : Nat) : (s.dpRetire n a).offHeads = s.offHeads := by
  unfold State.dpRetire
  rw [State.raise_offHeads, State.setReg_offHeads]

theorem dpFlip_retiring_states {a : Nat} (hstate : s.reg O.dpState h.val = 3) (hretrain : (s.head h.val).retrain = false)
    (hone : (s.head h.val).retiring = [(a, 1)]) : ∃ t, exec (.dpFlip h) s = .next t ∧
      (t.head h.val).retiring = [] ∧
      t.reg O.dpRetiredAddr h.val = a ∧
      t.raises.any (fun r => r.event == dpEvent h.val 2 && r.data == a) = true ∧
      ({ t with heads := s.heads, out := s.out, regs := s.regs, raises := s.raises } : State) = s := by
  have hwait : ((s.dpTold h.val).head h.val).retiring = [(a, 1)] := by
    rw [State.dpTold_head]
    exact hone
  refine ⟨_, exec_dpFlip hstate hretrain, ?_⟩
  rw [State.dpAge_due hwait]
  refine ⟨?_, ?_, State.any_data_raise .., State.of_offHeads ?_⟩
  · unfold State.dpRetire
    rw [State.head_raise, State.head_setReg, State.head_setHead]
  · unfold State.dpRetire
    rw [State.reg_raise_late (by decide), State.reg_setReg_same]
  · rw [State.dpRetire_offHeads, State.setHead_offHeads, State.dpTold_offHeads]

/-! ### Hallmarks (R403) -/

/-- What follows from a frame's bytes, of a head that stood in `s`. -/
def hallmarkTaken (s : State) (n : Nat) (r : List Byte × State) : Result :=
  let v := (r.2.setReg O.dpHmLast (crc32 r.1) n).setReg O.dpHmFrame (s.reg O.dpFrame n) n
  if !(v.head n).blank ∧ bit (v.head n).shown.expect 32 ∧ (v.head n).shown.expect % 2 ^ 32 ≠ crc32 r.1 then
    .next ((v.bumpSat O.dpHmMismatch n).raiseRare (dpEvent n 3) (v.reg O.dpFrame n + 2 ^ 32 * crc32 r.1))
  else .next v

theorem exec_dpHallmark (hsends : s.dpSends h.val = true) (hmarked : (s.head h.val).marked = false) :
    exec (.dpHallmark h []) s = hallmarkTaken s h.val ((s.dpMarking h.val).dpFrameBytes h.val) := by
  change execDpHallmark h [] s = _
  unfold execDpHallmark
  dsimp only
  rw [if_neg (by rw [hsends, hmarked]; decide)]
  rfl

theorem State.dpMarked_head (hm : Nat) : (s.dpMarked n hm).head n = { s.head n with marked := true } := by
  unfold State.dpMarked
  rw [State.head_setReg, State.head_setReg, State.dpMarking_head]

/-- A frame read without a change, whose hallmark is not the one expected. -/
theorem hallmarkTaken_mismatch {l : List Byte} (hblank : (s.head n).blank = false) (hexpect : bit (s.head n).shown.expect 32 = true)
    (hother : (s.head n).shown.expect % 2 ^ 32 ≠ crc32 l) : hallmarkTaken s n (l, s.dpMarking n) =
      .next (((s.dpMarked n (crc32 l)).bumpSat O.dpHmMismatch n).raiseRare (dpEvent n 3) (s.reg O.dpFrame n + 2 ^ 32 * crc32 l)) := by
  have hframe : (s.dpMarked n (crc32 l)).reg O.dpFrame n = s.reg O.dpFrame n :=
    (State.reg_setReg_ne _ _ _ _ _ _ _ _ (key_ne_of_sub (by decide))).trans (State.reg_setReg_ne _ _ _ _ _ _ _ _ (key_ne_of_sub (by decide)))
  rw [← hframe]
  refine if_pos ?_
  change (!((s.dpMarked n (crc32 l)).head n).blank) = true ∧ bit ((s.dpMarked n (crc32 l)).head n).shown.expect 32 = true ∧
    ((s.dpMarked n (crc32 l)).head n).shown.expect % 2 ^ 32 ≠ crc32 l
  rw [State.dpMarked_head]
  exact ⟨by rw [hblank]; rfl, hexpect, hother⟩

theorem hallmarkTaken_blank {l : List Byte} (hblank : (s.head n).blank = true) : hallmarkTaken s n (l, s.dpMarking n) = .next (s.dpMarked n (crc32 l)) := by
  refine if_neg ?_
  change ¬((!((s.dpMarked n (crc32 l)).head n).blank) = true ∧ _)
  rw [State.dpMarked_head, hblank]
  exact fun h => absurd h.1 (by decide)

abbrev hallmarkKeys (n : Nat) : List Nat := [O.dpHmLast.key n 0, O.dpHmFrame.key n 0, O.dpHmMismatch.key n 0]

theorem State.dpMarked_objects (hm : Nat) : (s.dpMarked n hm).reg O.dpHmLast n = hm ∧ (s.dpMarked n hm).reg O.dpHmFrame n = s.reg O.dpFrame n ∧
    (s.dpMarked n hm).reg O.dpHmMismatch n = s.reg O.dpHmMismatch n :=
  ⟨(State.reg_setReg_ne _ _ _ _ _ _ _ _ (key_ne_of_sub (by decide))).trans (State.reg_setReg_same ..), State.reg_setReg_same ..,
    (State.reg_setReg_ne _ _ _ _ _ _ _ _ (key_ne_of_sub (by decide))).trans (State.reg_setReg_ne _ _ _ _ _ _ _ _ (key_ne_of_sub (by decide)))⟩

theorem State.dpMarked_effect {hm : Nat} (hlast : O.dpHmLast.key n 0 ∈ keys) (hframe : O.dpHmFrame.key n 0 ∈ keys) :
    Effect s ((s.dpMarked n hm).withHeads s.heads s.out) [] keys hids := by
  unfold State.dpMarked State.dpMarking
  rw [State.setReg_withHeads, State.setReg_withHeads, State.setHead_withHeads]
  exact (Effect.refl.setReg hlast).setReg hframe

theorem dpHallmark_blank_states (hstate : s.reg O.dpState h.val = 2) (hmarked : (s.head h.val).marked = false) (hblank : (s.head h.val).blank = true) :
    ∃ t, exec (.dpHallmark h []) s = .next t ∧
      t.head h.val = { s.head h.val with marked := true } ∧
      t.reg O.dpHmLast h.val = crc32 (List.replicate (3 * cfgAt (s.head h.val).shownCfg 3 * cfgAt (s.head h.val).shownCfg 7) (0 : Byte)) ∧
      t.reg O.dpHmFrame h.val = s.reg O.dpFrame h.val ∧
      Effect s { t with heads := s.heads } [] [O.dpHmLast.key h.val 0, O.dpHmFrame.key h.val 0] [] := by
  have hbytes := State.dpFrameBytes_blank (s := s.dpMarking h.val) (h := h.val) (by rw [State.dpMarking_head]; exact hblank)
  rw [State.dpMarking_head] at hbytes
  have hexec := exec_dpHallmark (s := s) (h := h) (by rw [State.dpSends, hstate]; rfl) hmarked
  rw [hbytes, hallmarkTaken_blank hblank] at hexec
  obtain ⟨hlast, hframe, -⟩ := State.dpMarked_objects (s := s) (n := h.val)
    (crc32 (List.replicate (3 * cfgAt (s.head h.val).shownCfg 3 * cfgAt (s.head h.val).shownCfg 7) (0 : Byte)))
  exact ⟨_, hexec, State.dpMarked_head _, hlast, hframe, Effect.heads rfl (State.dpMarked_effect (by simp) (by simp))⟩

theorem dpHallmark_mismatch_states (hstate : s.reg O.dpState h.val = 3) (hmarked : (s.head h.val).marked = false) (hblank : (s.head h.val).blank = false)
    (h1 : (s.head h.val).shown.on 1 = false) (h3 : (s.head h.val).shown.on 3 = false) (hexpect : bit (s.head h.val).shown.expect 32 = true)
    (hother : (s.head h.val).shown.expect % 2 ^ 32 ≠ (crc32 (s.dpFrameBytes h.val).1)) (hrare : s.hidden H.rare (dpEvent h.val 3) = 0) :
    ∃ t, exec (.dpHallmark h []) s = .next t ∧
      t.head h.val = { s.head h.val with marked := true } ∧
      t.reg O.dpHmLast h.val = (crc32 (s.dpFrameBytes h.val).1) ∧
      t.reg O.dpHmFrame h.val = s.reg O.dpFrame h.val ∧
      t.reg O.dpHmMismatch h.val = satAdd O.dpHmMismatch.width (s.reg O.dpHmMismatch h.val) 1 ∧
      Effect s { t with heads := s.heads } [(dpEvent h.val 3, s.reg O.dpFrame h.val + 2 ^ 32 * (crc32 (s.dpFrameBytes h.val).1))] (hallmarkKeys h.val)
        [hkey H.rare (dpEvent h.val 3)] := by
  have hread : (s.dpMarking h.val).dpFrameBytes h.val = ((s.dpFrameBytes h.val).1, s.dpMarking h.val) :=
    Prod.ext (State.dpMarking_bytes hblank h1 h3) (State.dpFrameBytes_unread (by rw [State.dpMarking_head]; exact hblank)
      (by rw [State.dpMarking_head]; exact h1) (by rw [State.dpMarking_head]; exact h3))
  have hexec := exec_dpHallmark (s := s) (h := h) (by rw [State.dpSends, hstate]; rfl) hmarked
  rw [hread, hallmarkTaken_mismatch hblank hexpect hother] at hexec
  generalize crc32 (s.dpFrameBytes h.val).1 = hm at hexec ⊢
  have hrare' : ((s.dpMarked h.val hm).bumpSat O.dpHmMismatch h.val).hidden H.rare (dpEvent h.val 3) = 0 := hrare
  have htold : ((s.dpMarked h.val hm).bumpSat O.dpHmMismatch h.val).raiseRare (dpEvent h.val 3) (s.reg O.dpFrame h.val + 2 ^ 32 * hm) =
    (((s.dpMarked h.val hm).bumpSat O.dpHmMismatch h.val).setHidden H.rare (s.up + 1) (dpEvent h.val 3)).raise (dpEvent h.val 3)
      (s.reg O.dpFrame h.val + 2 ^ 32 * hm) := by
    unfold State.raiseRare
    rw [hrare', if_pos (Or.inl rfl)]
    rfl
  rw [htold] at hexec
  obtain ⟨hlast, hframe, hcount⟩ := State.dpMarked_objects (s := s) (n := h.val) hm
  refine ⟨_, hexec, ?_, ?_, ?_, ?_, Effect.heads ?_ ?_⟩
  · rw [State.head_raise]
    exact State.dpMarked_head hm
  · rw [State.reg_raise_late (by decide), State.reg_setHidden]
    exact (State.reg_setReg_ne _ _ _ _ _ _ _ _ (key_ne_of_sub (by decide))).trans hlast
  · rw [State.reg_raise_late (by decide), State.reg_setHidden]
    exact (State.reg_setReg_ne _ _ _ _ _ _ _ _ (key_ne_of_sub (by decide))).trans hframe
  · rw [State.reg_raise_late (by decide), State.reg_setHidden]
    refine (State.reg_setReg_same ..).trans ?_
    rw [hcount]
  · rw [State.out_raise]
    rfl
  · rw [State.raise_withHeads, State.setHidden_withHeads, State.bumpSat_withHeads]
    have hmarkedEffect : Effect s ((s.dpMarked h.val hm).withHeads s.heads s.out) [] (hallmarkKeys h.val) [hkey H.rare (dpEvent h.val 3)] :=
      State.dpMarked_effect (by simp) (by simp)
    exact ((hmarkedEffect.setReg (by simp)).setHidden (by simp)).raise _ _ (((spanFree_nil.key (by decide)).key (by decide)).key (by decide))

/-- Settles O43: each command of a head by its own effect; a commit's pending set is followed through its clasp point. -/
theorem displayHeads : Obligations.DisplayHeads := by
  refine ⟨fun s h edid => dpHpdRise_states, fun s h => dpHpdFall_states, fun s h => dpLinkTrained_states, fun s h => dpLinkTrained_failed_states,
    ?_, ?_, ?_, ?_, ?_, fun s h => dpFlip_states, fun s h a => dpFlip_retiring_states, fun s h => dpHallmark_blank_states, fun s h => dpHallmark_mismatch_states⟩
  · intro s h henable hdown
    exact ⟨_, if_pos ⟨hdown, henable⟩, State.reg_setReg_same .., Effect.refl.setReg (by simp)⟩
  · intro s m h howner hon henable hok hpend
    exact ⟨_, exec_dpCommit howner hon henable hok hpend, rfl, State.dpCommitted_head, Effect.refl⟩
  · intro s m h howner hon henable hok hpend hsends hopen hplan husual hsteady
    have hclasping : Clasping { s.dpCommitted h.val with out := replied s m } h.val := State.dpCommitted_clasping ⟨hsends, hopen, hplan, husual, hsteady⟩
    exact ⟨_, exec_dpCommit howner hon henable hok hpend, rfl, State.dpClasp_pending_live hclasping (congrArg Head.pend State.dpCommitted_head), rfl⟩
  · intro s h hsends hopen hplan husual hsteady hpend
    exact dpClasp_plain_states ⟨hsends, hopen, hplan, husual, hsteady⟩ hpend
  · intro s h p late hsends hopen hplan husual hsteady hpend hfree
    exact dpClasp_pending_states ⟨hsends, hopen, hplan, husual, hsteady⟩ hpend hfree

end Sys2Proof.Machine
end

section
/-! SUPPORT. General timers, window monitors and pulse generators (R409, R415 to R419). -/

namespace Sys2Proof.Machine

variable {s t u : State} {n g k : Nat} {x : Pg} {evs : List (Nat × Nat)} {keys hids : List Nat}

@[simp] theorem State.pg_setPg (s : State) (g : Nat) (x : Pg) : (s.setPg g x).pg g = x := Map.get_put_same ..

theorem State.pg_setPg_ne (s : State) (x : Pg) (h : k ≠ g) : (s.setPg g x).pg k = s.pg k := Map.get_put_ne _ _ _ _ h

/-- The machine with other generators, and something else on its way out. -/
def State.withPgs (s : State) (m : Map Pg) (o : List Out) : State := { s with pgs := m, out := o }

section
variable {m : Map Pg} {o : List Out}
@[simp] theorem State.withPgs_self : s.withPgs s.pgs s.out = s := rfl
@[simp] theorem State.setPg_withPgs : (s.setPg g x).withPgs m o = s.withPgs m o := rfl
@[simp] theorem State.emit_withPgs (e : Out) : (s.emit e).withPgs m o = s.withPgs m o := rfl
@[simp] theorem State.setReg_withPgs (r : Row) (v i j : Nat) : (s.setReg r v i j).withPgs m o = (s.withPgs m o).setReg r v i j := rfl
@[simp] theorem State.bump_withPgs (r : Row) (v i j : Nat) : (s.bump r v i j).withPgs m o = (s.withPgs m o).bump r v i j := rfl
@[simp] theorem State.setHidden_withPgs (k v i : Nat) : (s.setHidden k v i).withPgs m o = (s.withPgs m o).setHidden k v i := rfl
@[simp] theorem State.raise_withPgs (e d : Nat) : (s.raise e d).withPgs m o = (s.withPgs m o).raise e d := by
  rw [State.raise_eq, State.raise_eq]
  rfl
@[simp] theorem State.pgPulse_withPgs (e : Nat) : (s.pgPulse g e).withPgs m o = s.withPgs m o := rfl
@[simp] theorem State.pgOut_withPgs (level : Bool) : (s.pgOut g level).withPgs m o = s.withPgs m o := by
  unfold State.pgOut
  dsimp only
  split <;> rfl
end

theorem State.pg_raise (e d : Nat) : (s.raise e d).pg g = s.pg g := by
  rw [State.raise_eq]
  rfl

/-! ### Generators -/

/-- An output's level is the generator's own, whatever ball it drives. -/
theorem State.pgOut_pg (level : Bool) : (s.pgOut g level).pg g = { s.pg g with level := level } := by
  unfold State.pgOut
  dsimp only
  split <;> exact State.pg_setPg ..

theorem State.pgOut_pg_ne (level : Bool) (h : k ≠ g) : (s.pgOut g level).pg k = s.pg k := by
  unfold State.pgOut
  dsimp only
  split <;> exact State.pg_setPg_ne _ _ h

theorem State.pgOut_reg (level : Bool) (r : Row) (i j : Nat) : (s.pgOut g level).reg r i j = s.reg r i j := by
  unfold State.pgOut
  dsimp only
  split <;> rfl

/-- A generator with its own ball drives it. -/
theorem State.pgOut_own (level : Bool) (h0 : s.plan O.pgBall g = 0) : (s.pgOut g level).out = .ball g level :: s.out := by
  have hplan : (s.setPg g { s.pg g with level := level }).plan O.pgBall g = 0 := h0
  unfold State.pgOut
  dsimp only
  rw [hplan]
  rfl

/-- A generator with no ball drives none. -/
theorem State.pgOut_none (level : Bool) (h3 : s.plan O.pgBall g = 3) : (s.pgOut g level).out = s.out := by
  have hplan : (s.setPg g { s.pg g with level := level }).plan O.pgBall g = 3 := h3
  unfold State.pgOut
  dsimp only
  rw [hplan]
  rfl

/-- The edges of one pulse on a generator without any. -/
theorem State.pgPulse_first {e : Nat} (h0 : (s.pg g).edges = []) :
    (s.pgPulse g e).pg g = { s.pg g with edges := [(e, true), (e + s.pgTime (s.plan O.pgWidth g), false)] } := by
  unfold State.pgPulse
  rw [State.pg_setPg, h0, insEdge, insEdge, if_neg (by simp), insEdge]

/-- A source that no slot names starts none. -/
theorem State.hkSource_none {start : Nat} {byPg : Bool} (h : ∀ n, n < 32 → s.plan O.hkSlotStart n ≠ start) : s.hkSource start byPg = s := by
  have hnone : ∀ l : List Nat, (∀ n ∈ l, s.plan O.hkSlotStart n ≠ start) →
      l.foldl (fun s n => if s.plan O.hkSlotStart n = start then s.hkStart n byPg else s) s = s := by
    intro l hl
    induction l with
    | nil => rfl
    | cons n l ih =>
      rw [List.foldl_cons, if_neg (hl n List.mem_cons_self)]
      exact ih fun k hk => hl k (List.mem_cons_of_mem _ hk)
  exact hnone _ fun n hn => h n (List.mem_range.mp hn)

theorem State.slotStarts_free {start : Nat} (h : (List.range 32).all (fun n => s.plan O.hkSlotStart n != start) = true) (n : Nat) (hn : n < 32) :
    s.plan O.hkSlotStart n ≠ start := by
  simpa using List.all_eq_true.mp h n (List.mem_range.mpr hn)

/-! ### Timers (R409) -/

/-- The earliest due time not yet served. -/
def State.gtNext (s : State) (n : Nat) : Nat :=
  ((T96.toTicks (s.plan O.gtOrigin n) : Int) + s.plan O.gtPeriod n *
    (((s.hidden H.gtServed n : Int) - T96.toTicks (s.plan O.gtOrigin n)) / s.plan O.gtPeriod n + 1)).toNat

/-- A due time served and counted. -/
def State.gtServe (s : State) (n due : Nat) : State := (s.setHidden H.gtServed due n).bump O.gtTicks n

/-- The periodic generators of a timer start. -/
def State.gtPulses (s : State) (n due : Nat) (l : List Nat) : State :=
  l.foldl (fun s g => if s.plan O.pgMode g = 4 ∧ s.plan O.pgTimer g = n then s.pgDue g due else s) s

theorem State.gtServe_effect : Effect s (s.gtServe n k) [] [O.gtTicks.key n 0] [hkey H.gtServed n] := (Effect.refl.setHidden (by simp)).setReg (by simp)

theorem State.gtServe_plan {r : Row} {i j : Nat} : (s.gtServe n k).plan r i j = s.plan r i j := State.plan_of_effect State.gtServe_effect

theorem State.gtServe_ticks : (s.gtServe n k).reg O.gtTicks n = (s.reg O.gtTicks n + 1) % 2 ^ O.gtTicks.width := State.reg_setReg_same ..

theorem State.gtServe_served : (s.gtServe n k).hidden H.gtServed n = k := by
  unfold State.gtServe
  exact State.hidden_setHidden_same ..

theorem exec_gtDue {t8 : Fin 8} (hper : s.plan O.gtPeriod t8.val ≠ 0) (hcome : s.gtNext t8.val ≤ s.nowTicks)
    (hslots : (List.range 32).all (fun n => s.plan O.hkSlotStart n != t8.val + 1) = true) :
    exec (.gtDue t8) s = .next ((s.gtServe t8.val (s.gtNext t8.val)).gtPulses t8.val (s.gtNext t8.val) (List.range 16)) := by
  have hsource : (s.gtServe t8.val (s.gtNext t8.val)).hkSource (t8.val + 1) false = s.gtServe t8.val (s.gtNext t8.val) := State.hkSource_none fun n hn => State.gtServe_plan.trans_ne (State.slotStarts_free (s := s) hslots n hn)
  have hdue : s.gtNext t8.val = ((T96.toTicks (s.plan O.gtOrigin t8.val) : Int) + s.plan O.gtPeriod t8.val *
    (((s.hidden H.gtServed t8.val : Int) - T96.toTicks (s.plan O.gtOrigin t8.val)) / s.plan O.gtPeriod t8.val + 1)).toNat := rfl
  change execGtDue t8 s = _
  unfold execGtDue
  dsimp only
  rw [← hdue, if_neg hper, if_neg (Nat.not_lt.mpr hcome)]
  change Host.Outcome.next (((s.gtServe t8.val (s.gtNext t8.val)).hkSource (t8.val + 1) false).gtPulses t8.val (s.gtNext t8.val) (List.range 16)) = _
  rw [hsource]

theorem State.gtPulses_none {due : Nat} {l : List Nat} (h : ∀ g ∈ l, s.plan O.pgMode g ≠ 4) : s.gtPulses n due l = s := by
  induction l with
  | nil => rfl
  | cons g l ih =>
    unfold State.gtPulses
    rw [List.foldl_cons, if_neg (fun hg => h g List.mem_cons_self hg.1)]
    exact ih fun k hk => h k (List.mem_cons_of_mem _ hk)

/-- The timer's one periodic generator starts. -/
theorem State.gtPulses_one {due : Nat} (hg : g < 16) (hmode : s.plan O.pgMode g = 4) (htimer : s.plan O.pgTimer g = n)
    (hothers : (List.range 16).all (fun i => i == g || s.plan O.pgMode i != 4) = true) : s.gtPulses n due (List.range 16) = s.pgDue g due := by
  have hsplit : List.range 16 = List.range g ++ g :: (List.range (15 - g)).map (g + 1 + ·) := by
    have h16 : 16 = g + (1 + (15 - g)) := by omega
    conv_lhs => rw [h16, List.range_add, List.range_add]
    simp [Nat.add_assoc]
  have hplan (i : Nat) : (s.pgDue g due).plan O.pgMode i = s.plan O.pgMode i := by
    unfold State.pgDue State.pgIgnore
    split
    · have hquiet := State.raiseRare_quiet (s.bumpSat O.pgIgnored g) 0x7E6 g
      rw [hquiet]
      rfl
    · rfl
  have hoff : ∀ i, i < 16 → i ≠ g → s.plan O.pgMode i ≠ 4 := by
    intro i hi hne
    have := List.all_eq_true.mp hothers i (List.mem_range.mpr hi)
    simpa [hne] using this
  rw [hsplit]
  have hbefore : s.gtPulses n due (List.range g) = s := State.gtPulses_none fun i hi => by
    have := List.mem_range.mp hi
    exact hoff i (by omega) (by omega)
  have hafter : (s.pgDue g due).gtPulses n due ((List.range (15 - g)).map (g + 1 + ·)) = s.pgDue g due := State.gtPulses_none fun i hi => by
    obtain ⟨k, hk, rfl⟩ := List.mem_map.mp hi
    have := List.mem_range.mp hk
    rw [hplan]
    exact hoff _ (by omega) (by omega)
  unfold State.gtPulses at hbefore hafter ⊢
  rw [List.foldl_append, hbefore, List.foldl_cons, if_pos ⟨hmode, htimer⟩, hafter]

/-! ### Timers' clauses -/

theorem gtDue_states {t8 : Fin 8} (hper : s.plan O.gtPeriod t8.val ≠ 0) (hcome : s.gtNext t8.val ≤ s.nowTicks)
    (hslots : (List.range 32).all (fun n => s.plan O.hkSlotStart n != t8.val + 1) = true) (hmodes : (List.range 16).all (fun g => s.plan O.pgMode g != 4) = true) :
    ∃ t, exec (.gtDue t8) s = .next t ∧
      t.reg O.gtTicks t8.val = (s.reg O.gtTicks t8.val + 1) % 2 ^ O.gtTicks.width ∧
      t.hidden H.gtServed t8.val = s.gtNext t8.val ∧
      Effect s t [] [O.gtTicks.key t8.val 0] [hkey H.gtServed t8.val] := by
  have hnone : (s.gtServe t8.val (s.gtNext t8.val)).gtPulses t8.val (s.gtNext t8.val) (List.range 16) = s.gtServe t8.val (s.gtNext t8.val) := State.gtPulses_none fun g hg => by
    rw [State.gtServe_plan]
    simpa using List.all_eq_true.mp hmodes g hg
  refine ⟨_, exec_gtDue hper hcome hslots, ?_⟩
  rw [hnone]
  exact ⟨State.gtServe_ticks, State.gtServe_served, State.gtServe_effect⟩

theorem State.pgTime_gtServe (v : Nat) : (s.gtServe n k).pgTime v = s.pgTime v := by
  have hreg {r : Row} (hr : r.key 0 0 ≠ O.gtTicks.key n 0) : (s.gtServe n k).reg r = s.reg r := State.reg_setReg_ne _ _ _ _ _ _ _ _ hr
  have hinc : (s.gtServe n k).inc = s.inc := by
    unfold State.inc
    rw [hreg (by simp only [Row.key, O.tcInc, O.gtTicks]; omega), hreg (by simp only [Row.key, O.tcIncExt, O.gtTicks]; omega)]
  unfold State.pgTime
  rw [hinc]

/-- The one periodic generator of a timer served. -/
theorem State.gtServe_pulses {g due : Nat} (hg : g < 16) (hmode : s.plan O.pgMode g = 4) (htimer : s.plan O.pgTimer g = n)
    (hothers : (List.range 16).all (fun i => i == g || s.plan O.pgMode i != 4) = true) (hstate : s.reg O.pgState g ≠ 2) :
    (s.gtServe n k).gtPulses n due (List.range 16) = (s.gtServe n k).pgPulse g (due + s.pgTime (s.plan O.pgDelay g)) := by
  have hkept : (s.gtServe n k).reg O.pgState g = s.reg O.pgState g := State.reg_setReg_ne _ _ _ _ _ _ _ _ (key_ne_of_sub (by decide))
  rw [State.gtPulses_one hg (by rw [State.gtServe_plan]; exact hmode) (by rw [State.gtServe_plan]; exact htimer)
    (by simpa only [State.gtServe_plan] using hothers)]
  unfold State.pgDue
  rw [if_neg (by rw [hkept]; exact hstate), State.pgTime_gtServe, State.gtServe_plan]

theorem State.gtServe_pulse {g e : Nat} (hnone : (s.pg g).edges = []) :
    ((s.gtServe n k).pgPulse g e).pg g = { s.pg g with edges := [(e, true), (e + s.pgTime (s.plan O.pgWidth g), false)] } ∧
    ((s.gtServe n k).pgPulse g e).reg O.gtTicks n = (s.reg O.gtTicks n + 1) % 2 ^ O.gtTicks.width ∧
    ((s.gtServe n k).pgPulse g e).hidden H.gtServed n = k ∧
    Effect s { (s.gtServe n k).pgPulse g e with pgs := s.pgs } [] [O.gtTicks.key n 0] [hkey H.gtServed n] := by
  have hpg : (s.gtServe n k).pg g = s.pg g := rfl
  have hfirst := State.pgPulse_first (s := s.gtServe n k) (e := e) (by rw [hpg]; exact hnone)
  rw [hpg, State.pgTime_gtServe, State.gtServe_plan] at hfirst
  exact ⟨hfirst, State.gtServe_ticks, State.gtServe_served, State.gtServe_effect⟩

theorem gtDue_pulse_states {t8 : Fin 8} {g : Fin 16} (hper : s.plan O.gtPeriod t8.val ≠ 0) (hcome : s.gtNext t8.val ≤ s.nowTicks)
    (hslots : (List.range 32).all (fun n => s.plan O.hkSlotStart n != t8.val + 1) = true) (hmode : s.plan O.pgMode g.val = 4)
    (htimer : s.plan O.pgTimer g.val = t8.val) (hothers : (List.range 16).all (fun i => i == g.val || s.plan O.pgMode i != 4) = true)
    (hstate : s.reg O.pgState g.val ≠ 2) (hnone : (s.pg g.val).edges = []) :
    ∃ t, exec (.gtDue t8) s = .next t ∧
      t.reg O.gtTicks t8.val = (s.reg O.gtTicks t8.val + 1) % 2 ^ O.gtTicks.width ∧
      t.hidden H.gtServed t8.val = s.gtNext t8.val ∧
      t.pg g.val = { s.pg g.val with edges := [(s.gtNext t8.val + s.pgTime (s.plan O.pgDelay g.val), true),
        (s.gtNext t8.val + s.pgTime (s.plan O.pgDelay g.val) + s.pgTime (s.plan O.pgWidth g.val), false)] } ∧
      Effect s { t with pgs := s.pgs } [] [O.gtTicks.key t8.val 0] [hkey H.gtServed t8.val] := by
  obtain ⟨hpg, hticks, hserved, heffect⟩ := State.gtServe_pulse (n := t8.val) (k := s.gtNext t8.val)
    (e := s.gtNext t8.val + s.pgTime (s.plan O.pgDelay g.val)) hnone
  refine ⟨_, ?_, hticks, hserved, hpg, heffect⟩
  rw [exec_gtDue hper hcome hslots, State.gtServe_pulses g.isLt hmode htimer hothers hstate]

end Sys2Proof.Machine
end

section
/-! SUPPORT. Starts, edges, monitors and trips of the pulse generators (R415 to R419), and their statement. -/

namespace Sys2Proof.Machine

variable {s t u : State} {n : Nat} {g : Fin 16} {x : Pg} {evs : List (Nat × Nat)} {keys hids : List Nat}

/-! ### Starts (R417) -/

theorem State.pgRun_single {k e : Nat} (hmode : s.plan O.pgMode k = 2) :
    s.pgRun k e = (s.pgPulse k (e + s.pgTime (0 * s.plan O.pgSpacing k))).setReg O.pgState 1 k := by
  unfold State.pgRun
  rw [if_neg (by rw [hmode]; decide)]
  rfl

/-- A start that a single generator takes. -/
def State.pgStarted (s : State) (k e delay : Nat) : State :=
  ((s.setHidden H.pgStart (e + 1) k).pgPulse k (e + delay + s.pgTime (0 * s.plan O.pgSpacing k))).setReg O.pgState 1 k

theorem State.pgStartAt_single {k e delay : Nat} (hmode : s.plan O.pgMode k = 2) (hidle : s.reg O.pgState k = 0) (hfirst : s.hidden H.pgStart k = 0) :
    s.pgStartAt k e delay = s.pgStarted k e delay := by
  unfold State.pgStartAt
  dsimp only
  rw [if_neg (fun h => h.1 hfirst), if_pos ⟨Or.inl hmode, hidle⟩, State.pgRun_single (s := s.setHidden H.pgStart (e + 1) k) hmode]
  rfl

theorem State.pgStarted_spec {k e delay : Nat} (hnone : (s.pg k).edges = []) :
    (s.pgStarted k e delay).pg k = { s.pg k with edges := [(e + delay + s.pgTime (0 * s.plan O.pgSpacing k), true),
      (e + delay + s.pgTime (0 * s.plan O.pgSpacing k) + s.pgTime (s.plan O.pgWidth k), false)] } ∧
    (s.pgStarted k e delay).reg O.pgState k = 1 ∧ (s.pgStarted k e delay).hidden H.pgStart k = e + 1 ∧
    Effect s { s.pgStarted k e delay with out := s.out, pgs := s.pgs } [] [O.pgState.key k 0] [hkey H.pgStart k] := by
  refine ⟨State.pgPulse_first (s := s.setHidden H.pgStart (e + 1) k) hnone, State.reg_setReg_same .., ?_, ?_⟩
  · unfold State.pgStarted
    rw [State.hidden_setReg]
    exact State.hidden_setHidden_same s H.pgStart (e + 1) k
  · change Effect s ((s.pgStarted k e delay).withPgs s.pgs s.out) _ _ _
    unfold State.pgStarted
    rw [State.setReg_withPgs, State.pgPulse_withPgs, State.setHidden_withPgs, State.withPgs_self]
    exact (Effect.refl.setHidden (by simp)).setReg (by simp)

theorem State.pgFireNow_single {k : Nat} (hmode : s.plan O.pgMode k = 2) (hidle : s.reg O.pgState k = 0) (hfirst : s.hidden H.pgStart k = 0) :
    s.pgFireNow k = s.pgStarted k (s.after 8 1) (s.pgTime (s.plan O.pgDelay k)) := by
  unfold State.pgFireNow
  rw [State.pgStartAt_single hmode hidle hfirst]

/-- PG_FIRE of a generator that takes the start. -/
theorem pgFire_started {m : Master} {e delay : Nat} (howner : Owner s m) (hon : bit (s.reg O.pwrDomainOn) 31 = true)
    (hstart : s.pgFireNow g.val = s.pgStarted g.val e delay) :
    exec (.pgFire m g 1) s = .next { s.pgStarted g.val e delay with out := replied s m } := by
  have hkept : (s.pgStarted g.val e delay).reg O.pwrDomainOn = s.reg O.pwrDomainOn :=
    State.reg_setReg_ne _ _ _ _ _ _ _ _ (by simp only [Row.key, O.pwrDomainOn, O.pgState]; omega)
  have hact : actPgFire g.val 1 s = .ok (s.pgStarted g.val e delay) := by
    unfold actPgFire onlyOne refuseIf
    rw [if_neg (by decide)]
    refine reaching_on ?_ (by rw [hkept]; exact hon)
    rw [hstart]
  have hreplied : replied (s.pgStarted g.val e delay) m = replied s m := replied_congr m rfl
  rw [← hreplied]
  exact State.command_ok howner rfl (by decide) (by decide) hact

/-- What a start that is taken leaves, whenever it came. -/
theorem pgFire_started_states {m : Master} {e delay : Nat} (hexec : exec (.pgFire m g 1) s = .next { s.pgStarted g.val e delay with out := replied s m })
    (hnone : (s.pg g.val).edges = []) : ∃ t, exec (.pgFire m g 1) s = .next t ∧
      t.out = replied s m ∧
      t.pg g.val = { s.pg g.val with edges := [(e + delay + s.pgTime (0 * s.plan O.pgSpacing g.val), true),
        (e + delay + s.pgTime (0 * s.plan O.pgSpacing g.val) + s.pgTime (s.plan O.pgWidth g.val), false)] } ∧
      t.reg O.pgState g.val = 1 ∧
      t.hidden H.pgStart g.val = e + 1 ∧
      Effect s { t with out := s.out, pgs := s.pgs } [] [O.pgState.key g.val 0] [hkey H.pgStart g.val] := by
  obtain ⟨hpg, hstate, hhid, heffect⟩ := State.pgStarted_spec (e := e) (delay := delay) hnone
  exact ⟨_, hexec, rfl, hpg, hstate, hhid, heffect⟩

/-! ### Edges (R416) -/

/-- A generator drives a level, with the edges that remain. -/
def State.pgDrive (s : State) (k : Nat) (rest : List (Nat × Bool)) (level : Bool) : State := (s.setPg k { s.pg k with edges := rest }).pgOut k level

theorem State.pgDrive_pg {k : Nat} {rest : List (Nat × Bool)} {level : Bool} :
    (s.pgDrive k rest level).pg k = { s.pg k with edges := rest, level := level } := by
  unfold State.pgDrive
  rw [State.pgOut_pg, State.pg_setPg]

theorem State.pgDrive_out {k : Nat} {rest : List (Nat × Bool)} {level : Bool} (hball : s.plan O.pgBall k = 0) :
    (s.pgDrive k rest level).out = .ball k level :: s.out := State.pgOut_own level hball

theorem State.pgDrive_withPgs {k : Nat} {rest : List (Nat × Bool)} {level : Bool} {m : Map Pg} {o : List Out} :
    (s.pgDrive k rest level).withPgs m o = s.withPgs m o := State.pgOut_withPgs level

theorem State.pgDrive_reg {k : Nat} {rest : List (Nat × Bool)} {level : Bool} (r : Row) (i j : Nat) :
    (s.pgDrive k rest level).reg r i j = s.reg r i j := State.pgOut_reg ..

/-- The command at the edge that has come. -/
theorem exec_pgPulseEdge {e : Nat} {lead : Bool} {rest : List (Nat × Bool)} (hedges : (s.pg g.val).edges = (e, lead) :: rest) (hcome : e ≤ s.after 32 1) :
    exec (.pgPulseEdge g) s = .next (if lead then
      ((((s.pgDrive g.val rest (lead != s.pgIdleLevel g.val)).bump O.pgPulses g.val).setReg O.pgLastT96 (T96.ofTicks e) g.val).setReg O.pgState 1 g.val).hkSource
        (9 + g.val) true
      else
        if ((s.pgDrive g.val rest (lead != s.pgIdleLevel g.val)).plan O.pgMode g.val = 2 ∨ (s.pgDrive g.val rest (lead != s.pgIdleLevel g.val)).plan O.pgMode g.val = 3) ∧
          (!rest.isEmpty) = true then s.pgDrive g.val rest (lead != s.pgIdleLevel g.val)
        else (s.pgDrive g.val rest (lead != s.pgIdleLevel g.val)).setReg O.pgState 0 g.val) := by
  change execPgPulseEdge g s = _
  unfold execPgPulseEdge
  dsimp only
  rw [hedges]
  dsimp only
  rw [if_neg (Nat.not_lt.mpr hcome)]
  cases lead <;> rfl

/-- A leading edge shown. -/
def State.pgLed (s : State) (k e : Nat) (rest : List (Nat × Bool)) (level : Bool) : State :=
  (((s.pgDrive k rest level).bump O.pgPulses k).setReg O.pgLastT96 (T96.ofTicks e) k).setReg O.pgState 1 k

/-- The objects of a leading edge. -/
abbrev ledKeys (k : Nat) : List Nat := [O.pgPulses.key k 0, O.pgLastT96.key k 0, O.pgState.key k 0]

theorem State.pgLed_spec {k e : Nat} {rest : List (Nat × Bool)} {level : Bool} :
    (s.pgLed k e rest level).reg O.pgPulses k = (s.reg O.pgPulses k + 1) % 2 ^ O.pgPulses.width ∧
    (s.pgLed k e rest level).reg O.pgLastT96 k = T96.ofTicks e ∧ (s.pgLed k e rest level).reg O.pgState k = 1 := by
  unfold State.pgLed
  refine ⟨?_, ?_, State.reg_setReg_same ..⟩
  · rw [State.reg_setReg_ne _ _ _ _ _ _ _ _ (key_ne_of_sub (by decide)), State.reg_setReg_ne _ _ _ _ _ _ _ _ (key_ne_of_sub (by decide))]
    refine (State.reg_setReg_same ..).trans ?_
    rw [State.pgDrive_reg]
  · rw [State.reg_setReg_ne _ _ _ _ _ _ _ _ (key_ne_of_sub (by decide)), State.reg_setReg_same]

theorem State.pgLed_effect {k e : Nat} {rest : List (Nat × Bool)} {level : Bool} :
    Effect s { s.pgLed k e rest level with pgs := s.pgs, out := s.out } [] (ledKeys k) [] := by
  change Effect s ((s.pgLed k e rest level).withPgs s.pgs s.out) _ _ _
  unfold State.pgLed
  rw [State.setReg_withPgs, State.setReg_withPgs, State.bump_withPgs, State.pgDrive_withPgs, State.withPgs_self]
  exact ((Effect.refl.setReg (by simp)).setReg (by simp)).setReg (by simp)

theorem State.pgLed_out {k e : Nat} {rest : List (Nat × Bool)} {level : Bool} (hball : s.plan O.pgBall k = 0) :
    (s.pgLed k e rest level).out = .ball k level :: s.out := by
  unfold State.pgLed
  rw [State.out_setReg, State.out_setReg, State.out_bump, State.pgDrive_out hball]

theorem State.pg_setReg (r : Row) (k v i j : Nat) : (s.setReg r v i j).pg k = s.pg k := rfl

theorem State.pg_bump (r : Row) (k v i j : Nat) : (s.bump r v i j).pg k = s.pg k := rfl

theorem State.pgLed_pg {k e : Nat} {rest : List (Nat × Bool)} {level : Bool} :
    (s.pgLed k e rest level).pg k = { s.pg k with edges := rest, level := level } := by
  unfold State.pgLed
  rw [State.pg_setReg, State.pg_setReg, State.pg_bump, State.pgDrive_pg]

theorem State.pgOut_plan {k : Nat} {level : Bool} {r : Row} {i j : Nat} : (s.pgOut k level).plan r i j = s.plan r i j := by
  unfold State.pgOut
  dsimp only
  split <;> rfl

theorem State.plan_bump {r q : Row} {v i j k l : Nat} : (s.bump r v i j).plan q k l = s.plan q k l := rfl

theorem State.pgLed_plan {k e : Nat} {rest : List (Nat × Bool)} {level : Bool} {r : Row} {i j : Nat} :
    (s.pgLed k e rest level).plan r i j = s.plan r i j := by
  unfold State.pgLed State.pgDrive
  rw [State.plan_setReg, State.plan_setReg, State.plan_bump, State.pgOut_plan]
  rfl

theorem exec_pgPulseEdge_leading {e : Nat} {rest : List (Nat × Bool)} (hedges : (s.pg g.val).edges = (e, true) :: rest) (hcome : e ≤ s.after 32 1)
    (hslots : (List.range 32).all (fun n => s.plan O.hkSlotStart n != 9 + g.val) = true) :
    exec (.pgPulseEdge g) s = .next (s.pgLed g.val e rest (s.plan O.pgIdle g.val != 1)) := by
  have hlevel : (true != s.pgIdleLevel g.val) = (s.plan O.pgIdle g.val != 1) := by
    unfold State.pgIdleLevel bne
    cases s.plan O.pgIdle g.val == 1 <;> rfl
  have hsource : (s.pgLed g.val e rest (s.plan O.pgIdle g.val != 1)).hkSource (9 + g.val) true = s.pgLed g.val e rest (s.plan O.pgIdle g.val != 1) :=
    State.hkSource_none fun n hn => State.pgLed_plan.trans_ne (State.slotStarts_free (s := s) hslots n hn)
  unfold State.pgLed at hsource ⊢
  rw [exec_pgPulseEdge hedges hcome, if_pos rfl, hlevel, hsource]

theorem exec_pgPulseEdge_last {e : Nat} (hedges : (s.pg g.val).edges = [(e, false)]) (hcome : e ≤ s.after 32 1) :
    exec (.pgPulseEdge g) s = .next ((s.pgDrive g.val [] (s.plan O.pgIdle g.val == 1)).setReg O.pgState 0 g.val) := by
  have hlevel : (false != s.pgIdleLevel g.val) = (s.plan O.pgIdle g.val == 1) := by
    unfold State.pgIdleLevel
    cases s.plan O.pgIdle g.val == 1 <;> rfl
  rw [exec_pgPulseEdge hedges hcome, if_neg (by decide), if_neg (fun h => absurd h.2 (by decide)), hlevel]

theorem pgPulseEdge_last_states {e : Nat} (hedges : (s.pg g.val).edges = [(e, false)]) (hcome : e ≤ s.after 32 1) (hball : s.plan O.pgBall g.val = 0) :
    ∃ t, exec (.pgPulseEdge g) s = .next t ∧
      t.pg g.val = { s.pg g.val with edges := [], level := s.plan O.pgIdle g.val == 1 } ∧
      t.reg O.pgState g.val = 0 ∧
      t.out = .ball g.val (s.plan O.pgIdle g.val == 1) :: s.out ∧
      Effect s { t with pgs := s.pgs, out := s.out } [] [O.pgState.key g.val 0] [] := by
  refine ⟨_, exec_pgPulseEdge_last hedges hcome, ?_, State.reg_setReg_same .., ?_, ?_⟩
  · rw [State.pg_setReg, State.pgDrive_pg]
  · rw [State.out_setReg, State.pgDrive_out hball]
  · change Effect s (((s.pgDrive g.val [] (s.plan O.pgIdle g.val == 1)).setReg O.pgState 0 g.val).withPgs s.pgs s.out) _ _ _
    rw [State.setReg_withPgs, State.pgDrive_withPgs, State.withPgs_self]
    exact Effect.refl.setReg (by simp)

/-- A generator that has seen a whole second. -/
def State.pgSecond (s : State) (k sec : Nat) : State := s.setPg k { s.pg k with lastSecond := sec }

theorem State.pgTime_pgSecond (k sec v : Nat) : (s.pgSecond k sec).pgTime v = s.pgTime v := by
  have hinc : (s.pgSecond k sec).inc = s.inc := rfl
  unfold State.pgTime
  rw [hinc]

theorem State.pgSecond_due {k sec w : Nat} (hstate : s.reg O.pgState k ≠ 2) :
    (s.pgSecond k sec).pgDue k w = (s.pgSecond k sec).pgPulse k (w + s.pgTime (s.plan O.pgDelay k)) := by
  have hkept : (s.pgSecond k sec).reg O.pgState k = s.reg O.pgState k := rfl
  have hplan : (s.pgSecond k sec).plan O.pgDelay k = s.plan O.pgDelay k := rfl
  unfold State.pgDue
  rw [if_neg (by rw [hkept]; exact hstate), State.pgTime_pgSecond, hplan]

theorem State.pgSecond_pulse {k sec e : Nat} (hnone : (s.pg k).edges = []) : ((s.pgSecond k sec).pgPulse k e).pg k =
    { s.pg k with lastSecond := sec, edges := [(e, true), (e + s.pgTime (s.plan O.pgWidth k), false)] } := by
  have hpg : (s.pgSecond k sec).pg k = { s.pg k with lastSecond := sec } := State.pg_setPg ..
  have hplan : (s.pgSecond k sec).plan O.pgWidth k = s.plan O.pgWidth k := rfl
  rw [State.pgPulse_first (s := s.pgSecond k sec) (by rw [hpg]; exact hnone), State.pgTime_pgSecond, hpg, hplan]

/-- The second that has come is given as a variable: the kernel is never to work it out. -/
theorem exec_pgPpsEdge {w : Nat} (hsecond : s.wholeSecond = some w) (hmode : s.plan O.pgMode g.val = 5)
    (hnew : (s.pg g.val).lastSecond < w / T96.second) : exec (.pgPpsEdge g) s = .next ((s.pgSecond g.val (w / T96.second)).pgDue g.val w) := by
  have hdef : execPgPpsEdge = execPgPpsEdge := rfl
  conv at hdef =>
    rhs
    delta execPgPpsEdge
  have hrun := congrFun (congrFun hdef g) s
  rw [hsecond] at hrun
  have htaken : execPgPpsEdge g s = .next ((s.pgSecond g.val (w / T96.second)).pgDue g.val w) := hrun.trans (if_pos ⟨hmode, hnew⟩)
  exact htaken

theorem State.pgSecond_effect {k sec e : Nat} : Effect s { (s.pgSecond k sec).pgPulse k e with pgs := s.pgs } [] [] [] := Effect.refl

/-- A whole second starts a pulse-per-second generator that has not been started for it. -/
theorem pgPpsEdge_states {w : Nat} (hsecond : s.wholeSecond = some w) (hmode : s.plan O.pgMode g.val = 5)
    (hnew : (s.pg g.val).lastSecond < w / T96.second) (hstate : s.reg O.pgState g.val ≠ 2) (hnone : (s.pg g.val).edges = []) :
    ∃ t, exec (.pgPpsEdge g) s = .next t ∧
      t.pg g.val = { s.pg g.val with
        lastSecond := (w / T96.second)
        edges := [(w + s.pgTime (s.plan O.pgDelay g.val), true), (w + s.pgTime (s.plan O.pgDelay g.val) + s.pgTime (s.plan O.pgWidth g.val), false)] } ∧
      Effect s { t with pgs := s.pgs } [] [] [] := by
  refine ⟨_, exec_pgPpsEdge hsecond hmode hnew, ?_⟩
  rw [State.pgSecond_due hstate]
  exact ⟨State.pgSecond_pulse hnone, State.pgSecond_effect⟩

end Sys2Proof.Machine
end

section
/-! SUPPORT. Window monitors and trips of the pulse generators (R415, R418, R419), and the generators' statement. -/

namespace Sys2Proof.Machine

variable {s t u : State} {n k : Nat} {evs : List (Nat × Nat)} {keys hids : List Nat}

/-! ### Monitors with no generator in use (R415) -/

/-- A monitor's change shown, and told where it is a rise. -/
def State.wmShown (s : State) (mon : Nat) (up : Bool) : State :=
  if up then (s.setReg O.wmState (setBit (s.reg O.wmState) mon up)).raiseRare 0x7E3 (setBit (s.reg O.wmState) mon up)
  else s.setReg O.wmState (setBit (s.reg O.wmState) mon up)

theorem State.wmSet_change {mon : Nat} {up : Bool} (hchange : (s.reg O.wmState).testBit mon ≠ up) :
    s.wmSet mon up = (List.range 16).foldl (fun s g => s.pgMonitor g mon) (s.wmShown mon up) := by
  have hshown : (s.setReg O.wmState (setBit (s.reg O.wmState) mon up)).reg O.wmState = setBit (s.reg O.wmState) mon up := State.reg_setReg_same ..
  unfold State.wmSet State.wmShown
  dsimp only
  rw [if_neg hchange, hshown]

theorem State.wmShown_quiet (mon : Nat) (up : Bool) : Quiet s (s.wmShown mon up) :=
  Quiet.ite (Quiet.trans (t := s.setReg O.wmState (setBit (s.reg O.wmState) mon up)) rfl (State.raiseRare_quiet ..)) rfl

theorem State.wmShown_state (mon : Nat) (up : Bool) : (s.wmShown mon up).reg O.wmState = setBit (s.reg O.wmState) mon up := by
  unfold State.wmShown
  split
  · rw [State.raiseRare_reg _ _ _ (by decide), State.reg_setReg_same]
  · exact State.reg_setReg_same ..

theorem State.wmShown_kept {r : Row} {i j mon : Nat} {up : Bool} (hstate : r.key i j ≠ O.wmState.key 0 0) (hmerged : r.key i j ≠ mergedKey) :
    (s.wmShown mon up).reg r i j = s.reg r i j := by
  unfold State.wmShown
  split
  · rw [State.raiseRare_reg _ _ _ hmerged, State.reg_setReg_ne _ _ _ _ _ _ _ _ hstate]
  · exact State.reg_setReg_ne _ _ _ _ _ _ _ _ hstate

theorem State.wmShown_effect {mon : Nat} {up : Bool} (hrare : s.hidden H.rare 0x7E3 = 0) :
    Effect s (s.wmShown mon up) (if up then [(0x7E3, setBit (s.reg O.wmState) mon true)] else []) [O.wmState.key 0 0] [hkey H.rare 0x7E3] := by
  have hset : Effect s (s.setReg O.wmState (setBit (s.reg O.wmState) mon up)) [] [O.wmState.key 0 0] [hkey H.rare 0x7E3] := Effect.refl.setReg (by simp)
  unfold State.wmShown
  cases up
  · exact hset
  · have hrare' : (s.setReg O.wmState (setBit (s.reg O.wmState) mon true)).hidden H.rare 0x7E3 = 0 := hrare
    rw [if_pos rfl]
    unfold State.raiseRare
    rw [hrare', if_pos (Or.inl rfl)]
    exact (hset.setHidden (by simp)).raise _ _ (by intro e he; revert e he; decide)

/-- With no generator in use that is all of a change. -/
theorem State.wmSet_alone {mon : Nat} {up : Bool} (hchange : (s.reg O.wmState).testBit mon ≠ up)
    (hmodes : (List.range 16).all (fun g => s.plan O.pgMode g == 0) = true) : s.wmSet mon up = s.wmShown mon up := by
  rw [State.wmSet_change hchange]
  refine State.pgMonitors_idle _ (fun g hg => ?_) mon
  have hquiet := State.wmShown_quiet (s := s) mon up
  have hplan : (s.wmShown mon up).plan O.pgMode g = s.plan O.pgMode g := by
    rw [hquiet]
    rfl
  rw [hplan]
  simpa using List.all_eq_true.mp hmodes g hg

theorem wmShown_states {mon : Nat} {up : Bool} {r : Result} (hchange : (s.reg O.wmState).testBit mon ≠ up) (hrare : s.hidden H.rare 0x7E3 = 0)
    (hmodes : (List.range 16).all (fun g => s.plan O.pgMode g == 0) = true) (hrun : r = .next (s.wmSet mon up)) :
    ∃ t, r = .next t ∧
      t.reg O.wmState = setBit (s.reg O.wmState) mon up ∧
      Effect s { t with pgs := s.pgs } (if up then [(0x7E3, setBit (s.reg O.wmState) mon true)] else []) [O.wmState.key 0 0] [hkey H.rare 0x7E3] := by
  have hquiet := State.wmShown_quiet (s := s) mon up
  have heffect := State.wmShown_effect (mon := mon) (up := up) hrare
  have hpgs : (s.wmShown mon up).pgs = s.pgs := by rw [hquiet]
  refine ⟨_, hrun.trans (congrArg _ (State.wmSet_alone hchange hmodes)), State.wmShown_state mon up, ?_⟩
  rw [← hpgs]
  exact heffect

/-! ### Trips (R418) -/

/-- The machine without what a trip may change. -/
def State.offPulses (s : State) : State := { s with regs := [], hid := [], raises := [], pgs := [], out := [], hkSlots := [] }

@[simp] theorem State.setPg_offPulses (x : Pg) : (s.setPg k x).offPulses = s.offPulses := rfl
@[simp] theorem State.setReg_offPulses (r : Row) (v i j : Nat) : (s.setReg r v i j).offPulses = s.offPulses := rfl
@[simp] theorem State.bumpSat_offPulses (r : Row) (v i j : Nat) : (s.bumpSat r v i j).offPulses = s.offPulses := rfl
@[simp] theorem State.setHkSlot_offPulses (x : HkSlot) : (s.setHkSlot k x).offPulses = s.offPulses := rfl
@[simp] theorem State.raise_offPulses (e d : Nat) : (s.raise e d).offPulses = s.offPulses := by
  rw [State.raise_eq]
  rfl
@[simp] theorem State.raiseRare_offPulses (e d : Nat) : (s.raiseRare e d).offPulses = s.offPulses := by
  have hquiet := State.raiseRare_quiet s e d
  rw [hquiet]
  rfl
@[simp] theorem State.pgOut_offPulses (level : Bool) : (s.pgOut k level).offPulses = s.offPulses := by
  unfold State.pgOut
  dsimp only
  split <;> rfl

theorem State.of_offPulses (h : t.offPulses = s.offPulses) :
    ({ t with regs := s.regs, hid := s.hid, raises := s.raises, pgs := s.pgs, out := s.out, hkSlots := s.hkSlots } : State) = s :=
  congrArg (fun v : State => { v with regs := s.regs, hid := s.hid, raises := s.raises, pgs := s.pgs, out := s.out, hkSlots := s.hkSlots }) h

theorem State.plan_of_offPulses {r : Row} {i j : Nat} (h : t.offPulses = s.offPulses) : t.plan r i j = s.plan r i j := by
  have hplan : t.offPulses.plan r i j = s.offPulses.plan r i j := by rw [h]
  exact hplan

theorem State.now_of_offPulses (h : t.offPulses = s.offPulses) : t.now = s.now := by
  have hnow : t.offPulses.now = s.offPulses.now := by rw [h]
  exact hnow

/-- Two machines alike but for the housekeeping slots, and objects before the monitors'. -/
structure SlotsApart (s t : State) : Prop where
  pgs : t.pgs = s.pgs
  rest : t.offPulses = s.offPulses
  late : ∀ (r : Row) (i j : Nat), 0x2C7000 ≤ r.key i j → t.reg r i j = s.reg r i j

theorem SlotsApart.refl : SlotsApart s s := ⟨rfl, rfl, fun _ _ _ _ => rfl⟩

theorem SlotsApart.trans (h : SlotsApart s t) (h' : SlotsApart t u) : SlotsApart s u :=
  ⟨h'.pgs.trans h.pgs, h'.rest.trans h.rest, fun r i j hr => (h'.late r i j hr).trans (h.late r i j hr)⟩

theorem State.raise_apart (e d : Nat) : SlotsApart s (s.raise e d) := by
  refine ⟨?_, State.raise_offPulses .., fun r i j hr => State.reg_raise_ne _ _ _ _ _ _ ?_⟩
  · rw [State.raise_eq]
  · have hmerged : mergedKey = 0x58005 := rfl
    omega

theorem State.raiseRare_apart (e d : Nat) : SlotsApart s (s.raiseRare e d) := by
  refine ⟨?_, State.raiseRare_offPulses .., fun r i j hr => State.raiseRare_reg _ _ _ ?_⟩
  · have hquiet := State.raiseRare_quiet s e d
    rw [hquiet]
  · have hmerged : mergedKey = 0x58005 := rfl
    omega

theorem State.hkStart_apart {byPg : Bool} (hn : n < 32) : SlotsApart s (s.hkStart n byPg) := by
  have hslot (x : HkSlot) : SlotsApart s (s.setHkSlot n x) := ⟨rfl, rfl, fun _ _ _ _ => rfl⟩
  have hmissed (u : State) : SlotsApart u (u.bumpSat O.hkSlotMissed n) :=
    ⟨rfl, rfl, fun r i j hr => State.reg_setReg_ne _ _ _ _ _ _ _ _ (by
      have hkey : O.hkSlotMissed.key n 0 = (0x2C20 + 1 * n) * 256 + (6 + 0 * 0) := rfl
      omega)⟩
  unfold State.hkStart
  dsimp only
  split_ifs
  · exact SlotsApart.refl
  · exact ((hslot _).trans (hmissed _)).trans (State.raiseRare_apart ..)
  · exact hslot _

theorem State.hkSource_apart {start : Nat} {byPg : Bool} : SlotsApart s (s.hkSource start byPg) := by
  have hall : ∀ (l : List Nat) (u : State), (∀ n ∈ l, n < 32) → SlotsApart s u →
      SlotsApart s (l.foldl (fun s n => if s.plan O.hkSlotStart n = start then s.hkStart n byPg else s) u) := by
    intro l
    induction l with
    | nil => exact fun u _ hu => hu
    | cons n l ih =>
      intro u hl hu
      refine ih _ (fun k hk => hl k (List.mem_cons_of_mem _ hk)) ?_
      dsimp only
      split
      · exact hu.trans (State.hkStart_apart (hl n List.mem_cons_self))
      · exact hu
  exact hall _ s (fun n hn => List.mem_range.mp hn) SlotsApart.refl

/-- A generator tripped now (R418). -/
structure Tripped (s : State) (k now : Nat) : Prop where
  state : s.reg O.pgState k = 2
  edges : (s.pg k).edges = []
  level : (s.pg k).level = (s.plan O.pgTripLevel k == 1)
  time : s.reg O.pgTripT96 k = now

/-- The objects of a trip. -/
def State.pgTripShown (s : State) (k : Nat) : State :=
  (((s.pgDrive k [] (s.plan O.pgTripLevel k == 1)).setReg O.pgState 2 k).bumpSat O.pgTrips k).setReg O.pgTripT96 s.now k

theorem State.pgTrip_apart {mons : Nat} : SlotsApart (s.pgTripShown k) (s.pgTrip k mons) := by
  have hnow : (((s.pgDrive k [] (s.plan O.pgTripLevel k == 1)).setReg O.pgState 2 k).bumpSat O.pgTrips k).now = s.now :=
    State.now_of_offPulses (by
      rw [State.bumpSat_offPulses, State.setReg_offPulses, State.pgDrive, State.pgOut_offPulses, State.setPg_offPulses])
  have hshown : s.pgTripShown k = (((s.pgDrive k [] (s.plan O.pgTripLevel k == 1)).setReg O.pgState 2 k).bumpSat O.pgTrips k).setReg O.pgTripT96
      (((s.pgDrive k [] (s.plan O.pgTripLevel k == 1)).setReg O.pgState 2 k).bumpSat O.pgTrips k).now k := by
    rw [hnow]
    rfl
  rw [hshown]
  exact (State.raise_apart ..).trans State.hkSource_apart

theorem State.pgTripShown_rest : (s.pgTripShown k).offPulses = s.offPulses := by
  unfold State.pgTripShown State.pgDrive
  rw [State.setReg_offPulses, State.bumpSat_offPulses, State.setReg_offPulses, State.pgOut_offPulses, State.setPg_offPulses]

theorem State.pg_bumpSat (r : Row) (v i j : Nat) : (s.bumpSat r v i j).pg k = s.pg k := rfl

theorem State.pgTripShown_pg : (s.pgTripShown k).pg k = { s.pg k with edges := [], level := s.plan O.pgTripLevel k == 1 } := by
  unfold State.pgTripShown
  rw [State.pg_setReg, State.pg_bumpSat, State.pg_setReg, State.pgDrive_pg]

theorem State.pgTripShown_pg_ne {j : Nat} (h : j ≠ k) : (s.pgTripShown k).pg j = s.pg j := by
  unfold State.pgTripShown State.pgDrive
  rw [State.pg_setReg, State.pg_bumpSat, State.pg_setReg, State.pgOut_pg_ne _ h, State.pg_setPg_ne _ _ h]

theorem State.pgTripShown_kept {r : Row} {i : Nat} (hstate : r.key i 0 ≠ O.pgState.key k 0) (htrips : r.key i 0 ≠ O.pgTrips.key k 0)
    (htime : r.key i 0 ≠ O.pgTripT96.key k 0) : (s.pgTripShown k).reg r i = s.reg r i := by
  unfold State.pgTripShown
  rw [State.reg_setReg_ne _ _ _ _ _ _ _ _ htime]
  refine (State.reg_setReg_ne _ _ _ _ _ _ _ _ htrips).trans ?_
  rw [State.reg_setReg_ne _ _ _ _ _ _ _ _ hstate, State.pgDrive_reg]

theorem State.pgTripShown_tripped : Tripped (s.pgTripShown k) k s.now := by
  refine ⟨?_, ?_, ?_, State.reg_setReg_same ..⟩
  · unfold State.pgTripShown
    rw [State.reg_setReg_ne _ _ _ _ _ _ _ _ (key_ne_of_sub (by decide))]
    exact (State.reg_setReg_ne _ _ _ _ _ _ _ _ (key_ne_of_sub (by decide))).trans (State.reg_setReg_same ..)
  · rw [State.pgTripShown_pg]
  · rw [State.pgTripShown_pg, State.plan_of_offPulses State.pgTripShown_rest]

theorem pgState_late : 0x2C7000 ≤ O.pgState.key n 0 := by
  have hkey : O.pgState.key n 0 = (0x2D10 + 1 * n) * 256 + (1 + 0 * 0) := rfl
  omega

theorem pgTripT96_late : 0x2C7000 ≤ O.pgTripT96.key n 0 := by
  have hkey : O.pgTripT96.key n 0 = (0x2D10 + 1 * n) * 256 + (6 + 0 * 0) := rfl
  omega

theorem SlotsApart.pg (h : SlotsApart s t) : t.pg k = s.pg k := by
  unfold State.pg
  rw [h.pgs]

theorem Tripped.apart {now : Nat} (hs : Tripped s k now) (h : SlotsApart s t) : Tripped t k now := by
  constructor
  · rw [h.late _ _ _ pgState_late]
    exact hs.state
  · rw [h.pg]
    exact hs.edges
  · rw [h.pg, State.plan_of_offPulses h.rest]
    exact hs.level
  · rw [h.late _ _ _ pgTripT96_late]
    exact hs.time

/-- What the trips of other generators leave of one: its state, its output and its trip. -/
structure SameGenerator (s t : State) (k : Nat) : Prop where
  rest : t.offPulses = s.offPulses
  monitors : t.reg O.wmState = s.reg O.wmState
  pg : t.pg k = s.pg k
  state : t.reg O.pgState k = s.reg O.pgState k
  time : t.reg O.pgTripT96 k = s.reg O.pgTripT96 k

theorem State.pgTrip_rest {mons : Nat} : (s.pgTrip k mons).offPulses = s.offPulses := State.pgTrip_apart.rest.trans State.pgTripShown_rest

theorem State.pgTrip_monitors {mons : Nat} : (s.pgTrip k mons).reg O.wmState = s.reg O.wmState := by
  rw [State.pgTrip_apart.late _ _ _ (by decide)]
  exact State.pgTripShown_kept (by simp only [Row.key, O.wmState, O.pgState]; omega) (by simp only [Row.key, O.wmState, O.pgTrips]; omega)
    (by simp only [Row.key, O.wmState, O.pgTripT96]; omega)

theorem State.pgTrip_others {j mons : Nat} (h : k ≠ j) : SameGenerator s (s.pgTrip j mons) k := by
  refine ⟨State.pgTrip_rest, State.pgTrip_monitors, ?_, ?_, ?_⟩
  · rw [State.pgTrip_apart.pg, State.pgTripShown_pg_ne h]
  · rw [State.pgTrip_apart.late _ _ _ pgState_late]
    exact State.pgTripShown_kept (key_ne_of_idx (by decide) (by decide) (by simp only [O.pgState]; omega)) (key_ne_of_sub (by decide)) (key_ne_of_sub (by decide))
  · rw [State.pgTrip_apart.late _ _ _ pgTripT96_late]
    exact State.pgTripShown_kept (key_ne_of_sub (by decide)) (key_ne_of_sub (by decide)) (key_ne_of_idx (by decide) (by decide) (by simp only [O.pgTripT96]; omega))

/-! ### A monitor's change and every generator -/

/-- A generator that a monitor trips: it is not tripped yet, or it has just been. -/
structure ToTrip (s : State) (k mon now : Nat) : Prop where
  used : s.plan O.pgMode k ≠ 0
  trips : (s.pgTripping k).testBit mon = true
  moment : s.now = now
  open_ : s.reg O.pgState k ≠ 2 ∨ Tripped s k now

theorem State.pgTripping_congr (hrest : t.offPulses = s.offPulses) (hmonitors : t.reg O.wmState = s.reg O.wmState) :
    t.pgTripping k = s.pgTripping k := by
  unfold State.pgTripping
  rw [hmonitors, State.plan_of_offPulses hrest, State.plan_of_offPulses hrest]

theorem State.pgMonitor_rest {mon : Nat} : (s.pgMonitor k mon).offPulses = s.offPulses := by
  unfold State.pgMonitor
  dsimp only
  split
  · exact State.pgTrip_rest
  · rfl

theorem State.pgMonitor_monitors {mon : Nat} : (s.pgMonitor k mon).reg O.wmState = s.reg O.wmState := by
  unfold State.pgMonitor
  dsimp only
  split
  · exact State.pgTrip_monitors
  · rfl

theorem ToTrip.of_same {mon now : Nat} (h : ToTrip s k mon now) (hsame : SameGenerator s t k) : ToTrip t k mon now := by
  obtain ⟨hrest, hmonitors, hpg, hstate, htime⟩ := hsame
  refine ⟨?_, ?_, (State.now_of_offPulses hrest).trans h.moment, h.open_.imp ?_ ?_⟩
  · rw [State.plan_of_offPulses hrest]
    exact h.used
  · rw [State.pgTripping_congr hrest hmonitors]
    exact h.trips
  · rw [hstate]
    exact id
  · exact fun ht => ⟨hstate.trans ht.state, by rw [hpg]; exact ht.edges, by rw [hpg, State.plan_of_offPulses hrest]; exact ht.level, htime.trans ht.time⟩

theorem ToTrip.tripped {mon now : Nat} (h : ToTrip s k mon now) : Tripped (s.pgMonitor k mon) k now := by
  unfold State.pgMonitor
  dsimp only
  by_cases hstate : s.reg O.pgState k = 2
  · rw [if_neg (fun hc => hc.2.2 hstate)]
    exact h.open_.resolve_left (fun hc => hc hstate)
  · rw [if_pos ⟨h.used, h.trips, hstate⟩, ← h.moment]
    exact State.pgTripShown_tripped.apart State.pgTrip_apart

theorem ToTrip.monitor {mon now j : Nat} (h : ToTrip s k mon now) : ToTrip (s.pgMonitor j mon) k mon now := by
  by_cases hj : k = j
  · subst hj
    refine ⟨?_, ?_, (State.now_of_offPulses State.pgMonitor_rest).trans h.moment, .inr h.tripped⟩
    · rw [State.plan_of_offPulses State.pgMonitor_rest]
      exact h.used
    · rw [State.pgTripping_congr State.pgMonitor_rest State.pgMonitor_monitors]
      exact h.trips
  · unfold State.pgMonitor
    dsimp only
    split
    · exact h.of_same (State.pgTrip_others hj)
    · exact h

/-- The generators in turn. -/
def State.pgMonitors (s : State) (mon : Nat) (l : List Nat) : State := l.foldl (fun s g => s.pgMonitor g mon) s

theorem State.pgMonitors_rest {mon : Nat} (l : List Nat) : (s.pgMonitors mon l).offPulses = s.offPulses ∧ (s.pgMonitors mon l).reg O.wmState = s.reg O.wmState := by
  unfold State.pgMonitors
  induction l generalizing s with
  | nil => exact ⟨rfl, rfl⟩
  | cons j l ih => exact ⟨ih.1.trans State.pgMonitor_rest, ih.2.trans State.pgMonitor_monitors⟩

theorem ToTrip.monitors {mon now : Nat} (l : List Nat) (h : ToTrip s k mon now) : ToTrip (s.pgMonitors mon l) k mon now := by
  unfold State.pgMonitors
  induction l generalizing s with
  | nil => exact h
  | cons j l ih => exact ih h.monitor

/-- A tripped generator stays as it is in the same change. -/
theorem Tripped.monitor {mon now j : Nat} (h : Tripped s k now) : Tripped (s.pgMonitor j mon) k now := by
  unfold State.pgMonitor
  dsimp only
  split
  case isFalse => exact h
  case isTrue hc =>
    have hj : k ≠ j := fun hj => hc.2.2 (hj ▸ h.state)
    obtain ⟨hrest, -, hpg, hstate, htime⟩ := State.pgTrip_others (s := s) (mons := s.pgTripping j) hj
    exact ⟨hstate.trans h.state, by rw [hpg]; exact h.edges, by rw [hpg, State.plan_of_offPulses hrest]; exact h.level, htime.trans h.time⟩

theorem Tripped.monitors {mon now : Nat} (l : List Nat) (h : Tripped s k now) : Tripped (s.pgMonitors mon l) k now := by
  unfold State.pgMonitors
  induction l generalizing s with
  | nil => exact h
  | cons j l ih => exact ih h.monitor

theorem ToTrip.tripped_of_mem {mon now : Nat} {l : List Nat} (hk : k ∈ l) (h : ToTrip s k mon now) : Tripped (s.pgMonitors mon l) k now := by
  obtain ⟨l1, l2, rfl⟩ := List.append_of_mem hk
  have hsplit : s.pgMonitors mon (l1 ++ k :: l2) = ((s.pgMonitors mon l1).pgMonitor k mon).pgMonitors mon l2 := by
    unfold State.pgMonitors
    rw [List.foldl_append, List.foldl_cons]
  rw [hsplit]
  exact (h.monitors l1).tripped.monitors l2

end Sys2Proof.Machine
end

section
/-! SUPPORT. Monitors' changes and releases of generators, and the statement of timers and pulses (R409, R415 to R419). -/

namespace Sys2Proof.Machine

variable {s t u : State} {n k : Nat} {g : Fin 16} {mon : Fin 12} {asserted : Bool}

theorem exec_wmChange_window (hwindow : 8 ≤ mon.val) : exec (.wmChange mon asserted) s = .next (s.wmSet mon.val asserted) :=
  congrArg (fun up => Host.Outcome.next (s.wmSet mon.val up)) (if_neg (Nat.not_lt.mpr hwindow))

theorem exec_wmChange_comparator (hcomp : mon.val < 8) :
    exec (.wmChange mon asserted) s = .next (s.wmSet mon.val (s.hidden H.comp mon.val == 1)) :=
  congrArg (fun up => Host.Outcome.next (s.wmSet mon.val up)) (if_pos hcomp)

/-- A change trips every generator in use that its mask names and that is not tripped (R418). -/
theorem State.wmSet_trips {m : Nat} {up : Bool} (hchange : (s.reg O.wmState).testBit m ≠ up) (hg : k < 16) (hused : s.plan O.pgMode k ≠ 0)
    (hopen : s.reg O.pgState k ≠ 2)
    (htrips : (((setBit (s.reg O.wmState) m up) ^^^ s.plan O.pgTripInv k) &&& s.plan O.pgTripMask k &&& 0xFFF).testBit m = true) :
    Tripped (s.wmSet m up) k s.now := by
  have hquiet := State.wmShown_quiet (s := s) m up
  have hrest : (s.wmShown m up).offPulses = s.offPulses := by
    rw [hquiet]
    rfl
  have hstate : (s.wmShown m up).reg O.pgState k = s.reg O.pgState k :=
    State.wmShown_kept (by simp only [Row.key, O.pgState, O.wmState]; omega)
      (by simp only [Row.key, O.pgState, mergedKey, O.evMerged]; omega)
  rw [State.wmSet_change hchange]
  refine ToTrip.tripped_of_mem (List.mem_range.mpr hg) ⟨?_, ?_, State.now_of_offPulses hrest, .inl ?_⟩
  · rw [State.plan_of_offPulses hrest]
    exact hused
  · unfold State.pgTripping
    rw [State.wmShown_state, State.plan_of_offPulses hrest, State.plan_of_offPulses hrest]
    exact htrips
  · rw [hstate]
    exact hopen

theorem State.wmSet_rest {m : Nat} {up : Bool} (hchange : (s.reg O.wmState).testBit m ≠ up) :
    (s.wmSet m up).offPulses = s.offPulses ∧ (s.wmSet m up).reg O.wmState = setBit (s.reg O.wmState) m up := by
  have hquiet := State.wmShown_quiet (s := s) m up
  have hrest : (s.wmShown m up).offPulses = s.offPulses := by
    rw [hquiet]
    rfl
  obtain ⟨hmonitors, hstate⟩ := State.pgMonitors_rest (s := s.wmShown m up) (mon := m) (List.range 16)
  rw [State.wmSet_change hchange]
  exact ⟨hmonitors.trans hrest, hstate.trans (State.wmShown_state m up)⟩

theorem wmChange_states (hwindow : 8 ≤ mon.val) (hchange : (s.reg O.wmState).testBit mon.val ≠ asserted) :
    ∃ t, exec (.wmChange mon asserted) s = .next t ∧
      t.reg O.wmState = setBit (s.reg O.wmState) mon.val asserted ∧
      (∀ g : Fin 16, s.plan O.pgMode g.val ≠ 0 → s.reg O.pgState g.val ≠ 2 →
        (((setBit (s.reg O.wmState) mon.val asserted) ^^^ s.plan O.pgTripInv g.val) &&& s.plan O.pgTripMask g.val &&& 0xFFF).testBit mon.val = true →
        t.reg O.pgState g.val = 2 ∧ (t.pg g.val).edges = [] ∧ (t.pg g.val).level = (s.plan O.pgTripLevel g.val == 1) ∧ t.reg O.pgTripT96 g.val = s.now) ∧
      ({ t with regs := s.regs, hid := s.hid, raises := s.raises, pgs := s.pgs, out := s.out, hkSlots := s.hkSlots } : State) = s := by
  obtain ⟨hrest, hstate⟩ := State.wmSet_rest hchange
  refine ⟨_, exec_wmChange_window hwindow, hstate, fun g hused hopen htrips => ?_, State.of_offPulses hrest⟩
  obtain ⟨htripped, hedges, hlevel, htime⟩ := State.wmSet_trips hchange g.isLt hused hopen htrips
  exact ⟨htripped, hedges, hlevel.trans (by rw [State.plan_of_offPulses hrest]), htime⟩

/-! ### Releases (R419) -/

theorem State.pgRelease_spec (hball : s.plan O.pgBall k = 3) :
    ((s.pgRelease k).pg k).level = (s.plan O.pgIdle k == 1) ∧ (s.pgRelease k).reg O.pgState k = 0 ∧ (s.pgRelease k).out = s.out := by
  unfold State.pgRelease
  refine ⟨?_, ?_, ?_⟩
  · rw [State.pg_raise, State.pg_setReg, State.pgOut_pg]
    rfl
  · rw [State.reg_raise_late (by decide), State.reg_setReg_same]
  · rw [State.out_raise, State.out_setReg, State.pgOut_none _ hball]

theorem State.pgRelease_effect : Effect s ((s.pgRelease k).withPgs s.pgs s.out) [(0x7E5, k)] [O.pgState.key k 0] [] := by
  unfold State.pgRelease
  rw [State.raise_withPgs, State.setReg_withPgs, State.pgOut_withPgs, State.withPgs_self]
  exact (Effect.refl.setReg (by simp)).raise _ _ (spanFree_nil.key (by decide))

theorem pgTripRelease_states (htripped : s.reg O.pgState g.val = 2) (hfault : (s.pg g.val).byFault = false) (hclear : s.pgTripping g.val = 0)
    (hball : s.plan O.pgBall g.val = 3) (hhold : s.plan O.pgTripHold g.val ≠ 0) :
    ∃ t, exec (.pgTripRelease g) s = .next t ∧
      (t.pg g.val).level = (s.plan O.pgIdle g.val == 1) ∧
      t.reg O.pgState g.val = 0 ∧
      Effect s { t with pgs := s.pgs } [(0x7E5, g.val)] [O.pgState.key g.val 0] [] := by
  obtain ⟨hlevel, hstate, hout⟩ := State.pgRelease_spec hball
  have heffect := State.pgRelease_effect (s := s) (k := g.val)
  rw [← hout] at heffect
  exact ⟨_, if_pos ⟨htripped, by rw [hfault]; rfl, hhold, hclear⟩, hlevel, hstate, heffect⟩

theorem pgTripClr_states {m : Master} (howner : Owner s m) (htripped : s.reg O.pgState g.val = 2) (hfault : (s.pg g.val).byFault = false)
    (hclear : s.pgTripping g.val = 0) (hball : s.plan O.pgBall g.val = 3) (hon : bit (s.reg O.pwrDomainOn) 31 = true) (hhold : s.plan O.pgTripHold g.val = 0) :
    ∃ t, exec (.pgTripClr m g 1) s = .next t ∧
      t.out = replied s m ∧
      (t.pg g.val).level = (s.plan O.pgIdle g.val == 1) ∧
      t.reg O.pgState g.val = 0 ∧
      Effect s { t with out := s.out, pgs := s.pgs } [(0x7E5, g.val)] [O.pgState.key g.val 0] [] := by
  obtain ⟨hlevel, hstate, hout⟩ := State.pgRelease_spec hball
  have hkept : (s.pgRelease g.val).reg O.pwrDomainOn = s.reg O.pwrDomainOn := by
    unfold State.pgRelease
    rw [State.reg_raise_ne _ _ _ _ _ _ (by decide), State.reg_setReg_ne _ _ _ _ _ _ _ _ (by simp only [Row.key, O.pwrDomainOn, O.pgState]; omega), State.pgOut_reg]
  have hact : actPgTripClr g.val 1 s = .ok (s.pgRelease g.val) := by
    unfold actPgTripClr onlyOne refuseIf
    rw [if_neg (by decide)]
    refine reaching_on ?_ (by rw [hkept]; exact hon)
    rw [if_neg (by rw [htripped, hfault, hhold]; decide), if_neg (fun hc => hc hclear)]
  have hexec : exec (.pgTripClr m g 1) s = .next { s.pgRelease g.val with out := replied (s.pgRelease g.val) m } :=
    State.command_ok howner rfl (by decide) (by decide) hact
  exact ⟨_, hexec, replied_congr m hout, hlevel, hstate, State.pgRelease_effect⟩

/-- Settles O45: each timer, edge and release by its own effect; a monitor's change through the generators in turn, each
tripped at its own place and left as it is by the rest. -/
theorem timersAndPulses : Obligations.TimersAndPulses := by
  refine ⟨fun s t8 => gtDue_states, fun s t8 g => gtDue_pulse_states, ?_, ?_, ?_, fun s g w => pgPpsEdge_states, ?_, ?_,
    fun s mon asserted => wmChange_states, fun s m g => pgTripClr_states, fun s g => pgTripRelease_states⟩
  · intro s m g howner hon hmode hidle hfirst hnone
    exact pgFire_started_states (pgFire_started howner hon (State.pgFireNow_single hmode hidle hfirst)) hnone
  · intro s g e rest hedges hcome hball hslots
    obtain ⟨hpulses, htime, hstate⟩ := State.pgLed_spec (s := s) (k := g.val) (e := e) (rest := rest) (level := s.plan O.pgIdle g.val != 1)
    exact ⟨_, exec_pgPulseEdge_leading hedges hcome hslots, State.pgLed_pg, hpulses, htime, hstate, State.pgLed_out hball, State.pgLed_effect⟩
  · intro s g e rest hedges hcome hball hrest
    subst hrest
    exact pgPulseEdge_last_states hedges hcome hball
  · intro s mon asserted hwindow hchange hrare hmodes
    exact wmShown_states hchange hrare hmodes (exec_wmChange_window hwindow)
  · intro s mon asserted hcomp hchange hrare hmodes
    exact wmShown_states hchange hrare hmodes (exec_wmChange_comparator hcomp)

end Sys2Proof.Machine
end

section
/-! SUPPORT. What the units behind the dictionary leave alone: time, the plan in force, the connections and the objects before their own. -/

namespace Sys2Proof.Machine

variable {s t u : State} {lim i j v n d c k e : Nat} {r : Row}

/-! ### The relation -/

/-- Time, the index, the steps that wait, the plan in force and the sessions. -/
def State.frameView (s : State) : Nat × Nat × Nat × List (Bool × Int) × Store × Map Session := (s.tc, s.up, s.idx, s.steps, s.active, s.sess)

/-- Hidden scalars that no unit behind the dictionary writes: the host's connection, the slew and a restart of PLL-A. -/
def apartHids : List Nat := [H.hostUp, H.slew, H.restarting, H.frootOld]

/-- What stays where only units behind the dictionary act: what `frameView` shows, a free mailbox, the hidden scalars of
`apartHids`, the objects before `lim`, the events that wait, and the canonical form of the DRAM contents. -/
def Apart (lim : Nat) (s t : State) : Prop :=
  t.frameView = s.frameView ∧ (s.mbx = none → t.mbx = none) ∧ (∀ n ∈ apartHids, t.hidden n = s.hidden n) ∧
  (∀ (r : Row) (i j : Nat), r.key i j < lim → r.key i j ≠ mergedKey → t.reg r i j = s.reg r i j) ∧
  (∀ e, s.raises.any (fun x => x.event == e) = true → t.raises.any (fun x => x.event == e) = true) ∧ (Inv s → Inv t)

theorem Apart.refl : Apart lim s s := ⟨rfl, id, fun _ _ => rfl, fun _ _ _ _ _ => rfl, fun _ => id, id⟩

theorem Apart.trans (h : Apart lim s t) (h' : Apart lim t u) : Apart lim s u := by
  obtain ⟨hframe, hmbx, hhid, hreg, hraise, hinv⟩ := h
  obtain ⟨hframe', hmbx', hhid', hreg', hraise', hinv'⟩ := h'
  exact ⟨hframe'.trans hframe, hmbx' ∘ hmbx, fun n hn => (hhid' n hn).trans (hhid n hn),
    fun r i j hk hm => (hreg' r i j hk hm).trans (hreg r i j hk hm), fun e => hraise' e ∘ hraise e, hinv' ∘ hinv⟩

theorem Apart.mono {lim' : Nat} (h : Apart lim s t) (hle : lim' ≤ lim) : Apart lim' s t := by
  obtain ⟨hframe, hmbx, hhid, hreg, hraise, hinv⟩ := h
  exact ⟨hframe, hmbx, hhid, fun r i j hk => hreg r i j (Nat.lt_of_lt_of_le hk hle), hraise, hinv⟩

theorem Apart.ite {p : Prop} [Decidable p] {a b : State} (ha : Apart lim s a) (hb : Apart lim s b) : Apart lim s (if p then a else b) := by
  split
  · exact ha
  · exact hb

theorem Apart.foldl {α : Type} {f : State → α → State} (h : Apart lim s t) (hf : ∀ u a, Apart lim s u → Apart lim s (f u a))
    (as : List α) : Apart lim s (as.foldl f t) :=
  as.foldlRecOn f (motive := Apart lim s) h fun u hu a _ => hf u a hu

theorem Apart.foldRange {f : State → Nat → State} (h : Apart lim s t)
    (hf : ∀ u, ∀ a < k, Apart lim s u → Apart lim s (f u a)) : Apart lim s ((List.range k).foldl f t) :=
  (List.range k).foldlRecOn f (motive := Apart lim s) h fun u hu a ha => hf u a (List.mem_range.mp ha) hu

/-! ### Writes -/

theorem Apart.setReg_of (h : Apart lim s t) (hk : ∀ k, k < lim → k ≠ mergedKey → k ≠ r.key i j) : Apart lim s (t.setReg r v i j) := by
  obtain ⟨hframe, hmbx, hhid, hreg, hraise, hinv⟩ := h
  exact ⟨hframe, hmbx, hhid, fun q x y hq hm => (State.reg_setReg_ne _ _ _ _ _ _ _ _ (hk _ hq hm)).trans (hreg q x y hq hm), hraise, hinv⟩

/-- An object whose row begins at or after the limit. -/
theorem Apart.setReg (h : Apart lim s t) (hr : lim ≤ r.idx * 256) : Apart lim s (t.setReg r v i j) :=
  h.setReg_of fun k hk _ he => by
    have : r.idx * 256 ≤ (r.idx + r.ist * i) * 256 := Nat.mul_le_mul_right _ (Nat.le_add_right ..)
    rw [he, Row.key] at hk
    omega

theorem Apart.bump (h : Apart lim s t) (hr : lim ≤ r.idx * 256) : Apart lim s (t.bump r i j n) := h.setReg hr

theorem Apart.bumpSat (h : Apart lim s t) (hr : lim ≤ r.idx * 256) : Apart lim s (t.bumpSat r i j n) := h.setReg hr

theorem Apart.setHidden (h : Apart lim s t) (hn : n ∉ apartHids) (hi : i < 2 ^ 20) : Apart lim s (t.setHidden n v i) := by
  obtain ⟨hframe, hmbx, hhid, hreg, hraise, hinv⟩ := h
  refine ⟨hframe, hmbx, fun m hm => ?_, hreg, hraise, hinv⟩
  refine (State.hidden_setHidden_ne _ _ _ _ _ _ ?_).trans (hhid m hm)
  have hne : m ≠ n := fun he => hn (he ▸ hm)
  omega

theorem Apart.raise (h : Apart lim s t) : Apart lim s (t.raise e d) := by
  obtain ⟨hframe, hmbx, hhid, hreg, hraise, hinv⟩ := h
  have heq := State.raise_eq t e d
  refine ⟨?_, fun h0 => ?_, fun m hm => (State.hidden_raise ..).trans (hhid m hm),
    fun q x y hq hm => (State.reg_raise_ne _ _ _ _ _ _ hm).trans (hreg q x y hq hm), fun e' he => State.any_event_raise_of (hraise e' he), fun h0 => ?_⟩
  · rw [heq]
    exact hframe
  · rw [heq]
    exact hmbx h0
  · rw [heq]
    exact hinv h0

theorem Apart.raiseRare (h : Apart lim s t) (he : e < 2 ^ 20) : Apart lim s (t.raiseRare e d) := by
  have hrare : Apart lim s (t.setHidden H.rare (t.up + 1) e) := h.setHidden (by decide) he
  exact Apart.ite hrare.raise hrare

theorem Apart.fault (h : Apart lim s t) (hd : d < 2 ^ 20) : Apart lim s (t.fault d e) :=
  Apart.setHidden (h.setHidden (by decide) hd) (by decide) hd

/-! The units' own memories. -/

theorem Apart.emit {o : Out} (h : Apart lim s t) : Apart lim s (t.emit o) := h
theorem Apart.setCtx {x : Ctx} (h : Apart lim s t) : Apart lim s (t.setCtx c x) := h
theorem Apart.setStream {x : Stream} (h : Apart lim s t) : Apart lim s (t.setStream n x) := h
theorem Apart.setNvSet {x : NvSet} (h : Apart lim s t) : Apart lim s (t.setNvSet n x) := h
theorem Apart.setSlot {x : Slot} (h : Apart lim s t) : Apart lim s (t.setSlot n x) := h
theorem Apart.setChan {x : Chan} (h : Apart lim s t) : Apart lim s (t.setChan n x) := h
theorem Apart.setCv {x : Conv} (h : Apart lim s t) : Apart lim s (t.setCv n x) := h
theorem Apart.setSlice {x : Slice} (h : Apart lim s t) : Apart lim s (t.setSlice n x) := h
theorem Apart.setDma {x : Dma} (h : Apart lim s t) : Apart lim s (t.setDma n x) := h
theorem Apart.setDom {b : List Byte} (h : Apart lim s t) : Apart lim s (t.setDom r b i j) := h
theorem Apart.withNvCmds {x : List NvCmd} (h : Apart lim s t) : Apart lim s { t with nvCmds := x } := h
theorem Apart.withDrains {x : List Drain} (h : Apart lim s t) : Apart lim s { t with drains := x } := h

/-! ### DRAM -/

theorem Apart.writeLines (h : Apart lim s t) (a : Nat) (bs : List Byte) : Apart lim s (t.writeLines n a bs) := by
  induction n generalizing t a bs with
  | zero => exact h
  | succ n ih =>
    cases bs with
    | nil => exact h
    | cons b bs =>
      refine ih ?_ _ _
      obtain ⟨hframe, hmbx, hhid, hreg, hraise, hinv⟩ := h
      have hwf : Inv t → Inv (t.writeLine a ((b :: bs).take (64 - a % 64))) := fun h0 => State.writeLine_wf _ _ _ h0
      unfold State.writeLine at hwf ⊢
      split_ifs at hwf ⊢
      all_goals exact ⟨hframe, hmbx, hhid, hreg, hraise, hwf ∘ hinv⟩

theorem Apart.writeMem (h : Apart lim s t) {a : Nat} {bs : List Byte} : Apart lim s (t.writeMem a bs) := h.writeLines a bs

theorem Apart.portBytes (h : Apart lim s t) {port : Nat} (hlim : lim ≤ 0x300000) : Apart lim s (t.portBytes port n) := h.bump (hlim.trans (by decide))

theorem Apart.writeRing (h : Apart lim s t) {port base size off : Nat} {bs : List Byte} (hlim : lim ≤ 0x300000) :
    Apart lim s (t.writeRing port base size off bs).1 := by
  have hwritten := (h.writeMem (a := base + off) (bs := bs.take (size - off))).portBytes (n := bs.length) (port := port) hlim
  unfold State.writeRing
  split
  · exact h
  · exact Apart.ite hwritten.writeMem hwritten

theorem Apart.readPort (h : Apart lim s t) {port a : Nat} (hlim : lim ≤ 0x300000) : Apart lim s (t.readPort port a n).2.2 :=
  (h.foldl (fun _ _ hu => (hu.bumpSat (hlim.trans (by decide))).raiseRare (by decide)) _).portBytes hlim

/-! ### Drive sets -/

theorem Apart.nvFlush (h : Apart lim s t) : Apart lim s (t.nvFlush d c) := h

theorem Apart.nvCatPut (h : Apart lim s t) {st total : Nat} : Apart lim s (t.nvCatPut d st total) := by
  have hput {x : NvSet} {o : Out} : Apart lim s ((t.emit o).setNvSet d x) := h.emit.setNvSet
  unfold State.nvCatPut
  dsimp only
  split
  · exact hput.nvFlush
  · exact hput

section
variable (hlim : lim ≤ 0x300000)
include hlim

/-- An object of the memory controller, the streams or the drives. -/
theorem Apart.setStreamReg (h : Apart lim s t) (hr : 0x300000 ≤ r.idx * 256) : Apart lim s (t.setReg r v i j) := h.setReg (hlim.trans hr)

theorem Apart.nvCatDone (h : Apart lim s t) : Apart lim s (t.nvCatDone d) := by
  unfold State.nvCatDone
  dsimp only
  split
  · exact h
  · refine Apart.setStreamReg hlim (Apart.setStreamReg hlim (Apart.ite ?_ h.setNvSet) (by decide)) (by decide)
    exact Apart.setStreamReg hlim h.setNvSet (by decide)

theorem Apart.nvCatalogue (h : Apart lim s t) {st : Nat} : Apart lim s (t.nvCatalogue d st) := by
  have hflush : Apart lim s ((t.setNvSet d { t.nvSet d with cat := some ⟨st, t.nvDone d, false⟩ }).nvFlushAll d) :=
    h.setNvSet.foldl (fun _ _ hu => hu.nvFlush) _
  unfold State.nvCatalogue State.nvCatStep
  refine Apart.ite hflush ?_
  split
  · exact hflush
  · exact Apart.ite (Apart.nvCatDone hlim hflush) hflush.nvCatPut

theorem Apart.nvSubmit (h : Apart lim s t) {len : Nat} : Apart lim s (t.nvSubmit d n len) := by
  unfold State.nvSubmit
  exact Apart.setStreamReg hlim (Apart.withNvCmds (Apart.setNvSet (h.foldl (fun _ _ hu => hu.emit) _))) (by decide)

theorem Apart.nvDrain (h : Apart lim s t) (fuel : Nat) : Apart lim s (t.nvDrain d n fuel) := by
  induction fuel generalizing t with
  | zero => exact h
  | succ f ih => exact Apart.ite h (Apart.ite h (ih (Apart.nvSubmit hlim h.setStream)))

theorem Apart.nvClose (h : Apart lim s t) : Apart lim s (t.nvClose d) := Apart.ite h.setNvSet (Apart.nvCatalogue hlim h.setNvSet)

theorem Apart.nvStop (h : Apart lim s t) : Apart lim s (t.nvStop n) :=
  Apart.ite h (Apart.nvClose hlim (Apart.ite h (Apart.nvSubmit hlim h.setStream)))

theorem Apart.nvFull (h : Apart lim s t) : Apart lim s (t.nvFull d) := by
  unfold State.nvFull
  split
  · exact h
  · refine Apart.ite (Apart.raise (Apart.nvCatalogue hlim (Apart.setStream ?_))) h
    exact Apart.setStreamReg hlim (Apart.setStreamReg hlim h (by decide)) (by decide)

theorem Apart.nvPush (h : Apart lim s t) {x : StRec} : Apart lim s (t.nvPush n x) :=
  Apart.nvFull hlim (Apart.nvDrain hlim h.setNvSet.setStream _)

/-! ### Streams -/

theorem Apart.streamLost (h : Apart lim s t) (hn : n < 32) : Apart lim s (t.streamLost n k) :=
  Apart.raiseRare (Apart.setStream (Apart.setStreamReg hlim h (by decide))) (by omega)

theorem Apart.readBack (h : Apart lim s t) {x : StRec} : Apart lim s (t.readBack n x).2 := by
  unfold State.readBack
  dsimp only
  split
  · exact h
  · exact (h.readPort hlim).readPort hlim

theorem Apart.hostPut (h : Apart lim s t) {bs : List Byte} : Apart lim s (t.hostPut n bs) := by
  unfold State.hostPut
  have hring {p q : Prop} [Decidable p] [Decidable q] {a b c d e : Out} :
      Apart lim s (if p then t.emit a else if q then (t.emit b).emit c else (t.emit d).emit e) :=
    Apart.ite h.emit (Apart.ite h.emit.emit h.emit.emit)
  refine Apart.ite (Apart.raise (Apart.setStream ?_)) (Apart.setStream ?_)
  all_goals exact Apart.setStreamReg hlim (Apart.emit hring) (by decide)

theorem Apart.stateShown (h : Apart lim s t) : Apart lim s (t.setReg O.stState v n) := Apart.setStreamReg hlim h (by decide)

theorem Apart.streamDrain (h : Apart lim s t) (fuel : Nat) : Apart lim s (t.streamDrain n fuel) := by
  induction fuel generalizing t with
  | zero => exact h
  | succ f ih =>
    unfold State.streamDrain
    split
    · exact Apart.ite (Apart.stateShown hlim h) h
    · split
      · exact Apart.ite (ih (Apart.hostPut hlim (Apart.readBack hlim h).setStream)) (Apart.ite (Apart.stateShown hlim h).raise h)
      · exact Apart.ite (ih (Apart.nvPush hlim (Apart.setStreamReg hlim (Apart.readBack hlim h).setStream (by decide)))) h
      · exact h

theorem Apart.streamOut (h : Apart lim s t) : Apart lim s (t.streamOut n) := Apart.streamDrain hlim h _

theorem Apart.stage (h : Apart lim s t) {x : StRec} (hn : n < 32) : Apart lim s (t.stage n x) := by
  have hturn : Apart lim s (t.setHidden H.turn (t.hidden H.turn + 1)) := h.setHidden (by decide) (by decide)
  unfold State.stage
  dsimp only
  split
  · exact Apart.ite (Apart.streamLost hlim hturn hn) (Apart.streamOut hlim (Apart.setStream (hturn.writeRing hlim)))
  · exact Apart.ite (Apart.streamLost hlim (Apart.setStream (Apart.streamOut hlim hturn.setStream)) hn) (Apart.streamOut hlim hturn.setStream)

theorem Apart.streamTake (h : Apart lim s t) {x : Item} (hn : n < 32) : Apart lim s (t.streamTake n x) := by
  unfold State.streamTake
  split
  · exact Apart.stage hlim h hn
  · exact h.setStream
  · exact h

theorem Apart.streamItem (h : Apart lim s t) {kind src : Nat} {x : Item} : Apart lim s (t.streamItem kind src x) :=
  h.foldRange fun _ _ hn hu => Apart.ite (Apart.streamTake hlim hu hn) hu

theorem Apart.streamRing (h : Apart lim s t) {kind src base size off len index t96 : Nat} :
    Apart lim s (t.streamRing kind src base size off len index t96) :=
  h.foldRange fun _ _ hn hu => Apart.ite (Apart.streamTake hlim ((hu.readPort hlim).readPort hlim) hn) hu

theorem Apart.streamEnd (h : Apart lim s t) : Apart lim s (t.streamEnd n) :=
  Apart.ite (Apart.nvStop hlim (Apart.stateShown hlim h.setStream)) (Apart.stateShown hlim h.setStream)

theorem Apart.streamKill (h : Apart lim s t) : Apart lim s (t.streamKill n) := Apart.ite h.withDrains (Apart.streamEnd hlim h.withDrains.setStream)

theorem Apart.streamsHold (h : Apart lim s t) : Apart lim s t.streamsHold :=
  h.foldRange fun _ _ _ hu => Apart.ite (Apart.stateShown hlim hu).raise hu

/-! ### DMA channels -/

theorem Apart.writeStatus (h : Apart lim s t) : Apart lim s (t.writeStatus c v) := by
  unfold State.writeStatus
  exact Apart.setStreamReg hlim (Apart.setStreamReg hlim (Apart.ite (h.writeMem.portBytes hlim) h.emit) (by decide)) (by decide)

theorem Apart.descDone (h : Apart lim s t) {x : Desc} : Apart lim s (t.descDone c x n v) :=
  Apart.ite (Apart.writeStatus hlim h) (Apart.writeStatus hlim h).raise

theorem Apart.dmaHalt (h : Apart lim s t) : Apart lim s (t.dmaHalt c v) := Apart.raise (Apart.setStreamReg hlim h.setDma (by decide))

theorem Apart.dmaAbort (h : Apart lim s t) {which : State → Nat → Bool} : Apart lim s (t.dmaAbort v which) := by
  refine h.foldRange fun u c _ hu => Apart.ite ?_ hu
  dsimp only
  split
  · exact Apart.dmaHalt hlim (Apart.descDone hlim hu)
  · exact Apart.dmaHalt hlim hu

end

theorem Apart.vdifItem (h : Apart lim s t) {kind src hdr w : Nat} {bad : Bool} {time : Nat → Nat} {x : Item} :
    Apart lim s (t.vdifItem kind src hdr w bad time x) := by
  refine h.foldRange fun u n _ hu => Apart.ite ?_ hu
  dsimp only
  split
  · exact hu.setStream
  · exact hu

theorem Apart.streamEpoch (h : Apart lim s t) : Apart lim s t.streamEpoch := h.foldRange fun _ _ _ hu => Apart.ite hu hu.setStream

end Sys2Proof.Machine
end

section
/-! SUPPORT. What stopping and starting the data paths leaves alone (R277, R295, Table 13.5), and a tick's tags and gates. -/

namespace Sys2Proof.Machine

variable {s t u : State} {lim i j v n d c k e m sl ch : Nat} {r : Row}

/-! ### What touches no object -/

theorem Apart.gateClose (h : Apart lim s t) {short : Bool} : Apart lim s (t.gateClose sl v short) := by
  unfold State.gateClose
  dsimp only
  split
  · exact h
  · exact h.setSlot

theorem Apart.calDue (h : Apart lim s t) {cause : Nat} : Apart lim s (t.calDue ch cause) := Apart.ite h.setCv h

theorem Apart.taRestart (h : Apart lim s t) : Apart lim s t.taRestart :=
  h.foldRange fun _ _ hk hu => Apart.ite (Apart.ite (hu.setHidden (by decide) (by omega)) hu) hu

section
variable (hlim : lim ≤ 0x90000)
include hlim

/-- An object after those of the clocks. -/
theorem Apart.setLate (h : Apart lim s t) (hr : 0x90000 ≤ r.idx * 256) : Apart lim s (t.setReg r v i j) := h.setReg (hlim.trans hr)

/-! ### Capture contexts -/

theorem Apart.segPlace (h : Apart lim s t) {stop : Nat} {truncated : Bool} : Apart lim s (t.segPlace c stop truncated) := by
  have hplace {x : Ctx} {k : Nat} {v : Nat} : Apart lim s ((((t.aqPush c k).setCtx c x).setReg O.aqWritePtr v c).bump O.aqSegSeq c) :=
    Apart.setLate hlim (Apart.setLate hlim (Apart.setCtx h.setCtx) (by decide)) (by decide)
  exact Apart.ite hplace.raise hplace

theorem Apart.ctxCut (h : Apart lim s t) {stop : Nat} : Apart lim s (t.ctxCut c stop) := Apart.ite (Apart.ite (Apart.segPlace hlim h) h.setCtx) h

/-- A context's state shown. -/
theorem Apart.aqShown (h : Apart lim s t) : Apart lim s (t.setReg O.aqState v c) := Apart.setLate hlim h (by decide)

theorem Apart.ctxDone (h : Apart lim s t) {full : Bool} : Apart lim s (t.ctxDone c full) :=
  Apart.ite (Apart.aqShown hlim h).raise.raise (Apart.aqShown hlim h).raise

theorem Apart.aqOpen (h : Apart lim s t) (hu : t.aqOpen c = some u) : Apart lim s u := by
  unfold State.aqOpen at hu
  dsimp only at hu
  split at hu
  · rw [← Option.some.inj hu]
    exact Apart.ite (Apart.setCtx h.setCtx) (Apart.raise (Apart.setLate hlim (Apart.setCtx h.setCtx) (by decide)))
  · cases hu

theorem Apart.ctxContinue (h : Apart lim s t) : Apart lim s (t.ctxContinue c n) := by
  have hopen {x : Ctx} : Apart lim s ((t.setCtx c x).setReg O.aqState 4 c) := Apart.aqShown hlim h.setCtx
  unfold State.ctxContinue
  dsimp only
  split
  · next hu => exact Apart.aqOpen hlim hopen hu
  · exact Apart.setLate hlim hopen.setCtx (by decide)

theorem Apart.ctxReady (h : Apart lim s t) : Apart lim s (t.ctxReady c) :=
  Apart.ite (Apart.aqShown hlim h.setCtx) (Apart.aqShown hlim h.setCtx).raise

theorem Apart.ctxArmAt (h : Apart lim s t) {a : Nat} : Apart lim s (t.ctxArmAt c n a) :=
  Apart.ite (Apart.ctxReady hlim (Apart.aqShown hlim h.setCtx)) (Apart.aqShown hlim h.setCtx)

theorem Apart.ctxNext (h : Apart lim s t) {stop : Nat} : Apart lim s (t.ctxNext c stop) :=
  Apart.ite (Apart.aqShown hlim h.setCtx) (Apart.ite (Apart.ctxDone hlim h) (Apart.ite (Apart.ctxDone hlim h)
    (Apart.ite (Apart.ctxContinue hlim h) (Apart.ctxArmAt hlim h))))

theorem Apart.ctxResume (h : Apart lim s t) : Apart lim s (t.ctxResume c n) :=
  Apart.ite (Apart.ctxNext hlim h) (Apart.ite (Apart.ctxArmAt hlim h) h)

theorem Apart.ctxHalt (h : Apart lim s t) {kind src : Nat} : Apart lim s (t.ctxHalt kind src n) :=
  h.foldl (fun _ _ hu => Apart.ite (Apart.ctxCut hlim hu) (Apart.ctxResume hlim (Apart.ctxCut hlim hu))) _

/-! ### Gates -/

/-- A slot's state shown. -/
theorem Apart.slotShown (h : Apart lim s t) : Apart lim s (t.setReg O.msState v sl) := Apart.setLate hlim h (by decide)

theorem Apart.afterGate (h : Apart lim s t) {other : Nat} : Apart lim s (t.afterGate sl other) :=
  Apart.ite (Apart.slotShown hlim h.setSlot) (Apart.ite (Apart.slotShown hlim h.setSlot) (Apart.slotShown hlim h))

theorem Apart.gateDue (h : Apart lim s t) : Apart lim s (t.gateDue sl) := by
  unfold State.gateDue
  exact Apart.ite (Apart.ite (Apart.setSlot (Apart.afterGate hlim (Apart.gateClose h))) (Apart.afterGate hlim (Apart.gateClose h))) h

theorem Apart.gateShort (h : Apart lim s t) : Apart lim s (t.gateShort sl) :=
  Apart.ite (Apart.afterGate hlim (Apart.gateClose (Apart.gateDue hlim h))) (Apart.gateDue hlim h)

/-! ### Channels and slices stop -/

theorem Apart.runAbandon (h : Apart lim s t) : Apart lim s (t.runAbandon ch) := by
  unfold State.runAbandon
  dsimp only
  split
  · exact Apart.setLate hlim (Apart.ite (Apart.setLate hlim h.setCv (by decide)) h.setCv) (by decide)
  · exact h.setCv

theorem Apart.convStop (h : Apart lim s t) : Apart lim s (t.convStop ch) := (Apart.runAbandon hlim h).setCv

theorem Apart.frameOut (h : Apart lim s t) (hm : m < 32) {truncated : Bool} : Apart lim s (t.frameOut m truncated) := by
  have hcount {p : Prop} [Decidable p] {x : Slice} {o : Out} {d : Nat} :
      Apart lim s (if p then (((t.setSlice m x).emit o).bumpSat O.satFrames m).raiseRare (ddcEvent m 3) d else (t.setSlice m x).emit o) :=
    Apart.ite (Apart.raiseRare (Apart.setLate hlim h.setSlice.emit (by decide)) (by unfold ddcEvent; omega)) h.setSlice.emit
  unfold State.frameOut
  exact Apart.ite h (Apart.vdifItem (Apart.streamItem (hlim.trans (by decide)) hcount))

theorem Apart.pathsStop (h : Apart lim s t) : Apart lim s t.pathsStop := by
  unfold State.pathsStop
  refine Apart.foldRange (Apart.foldRange (h.foldRange fun u ch _ hu => ?_) fun u m hm hu => ?_) fun u sl _ hu => Apart.gateShort hlim hu
  · exact Apart.ite (Apart.convStop hlim (Apart.ctxHalt hlim hu)) hu
  · exact Apart.ite hu (Apart.frameOut hlim (Apart.ctxHalt hlim hu) hm)

/-! ### Tags -/

theorem Apart.deliverTag (h : Apart lim s t) {x : QTag} : Apart lim s (t.deliverTag n x) := by
  have hpoints : Apart lim s ((List.range 16).foldl (fun s sl =>
      let t := s.takesPoints sl n
      if t.1 || t.2 then
        let y := s.slot sl
        s.setSlot sl { y with ptsA := if t.1 then y.ptsA ++ [x.tag] else y.ptsA, ptsB := if t.2 then y.ptsB ++ [x.tag] else y.ptsB }
      else s) (t.setChan n { t.chan n with newest := some x.tag })) :=
    h.setChan.foldRange fun _ _ _ hu => Apart.ite hu.setSlot hu
  have hring := hpoints.writeRing (port := 4) (base := x.base) (size := x.size) (off := x.off) (bs := leBytes x.tag 16) (hlim.trans (by decide))
  unfold State.deliverTag
  exact Apart.ite hpoints (Apart.streamRing (hlim.trans (by decide)) (Apart.ite (Apart.setLate hlim hring (by decide)) hring))

theorem Apart.drainTags (h : Apart lim s t) : Apart lim s (t.drainTags n) := by
  unfold State.drainTags
  dsimp only
  split
  · exact h
  · exact Apart.setLate hlim (Apart.setChan (h.foldl (fun _ _ hu => Apart.deliverTag hlim hu) _)) (by decide)

theorem Apart.setSpacing (h : Apart lim s t) : Apart lim s (t.setSpacing n) := Apart.ite h (Apart.setLate hlim h (by decide))

theorem Apart.chansTick (h : Apart lim s t) : Apart lim s t.chansTick := by
  have hdrained : Apart lim s ((List.range 8).foldl (fun s n =>
      let s := s.drainTags n
      match (s.chan n).join with
      | some i => (s.setChan n { s.chan n with join := none, turn := (s.chan n).turn ++ [i] }).setSpacing n
      | none => s) t) := by
    refine h.foldRange fun u n _ hu => ?_
    dsimp only
    split
    · exact Apart.setSpacing hlim (Apart.drainTags hlim hu).setChan
    · exact Apart.drainTags hlim hu
  unfold State.chansTick
  exact Apart.ite hdrained (Apart.foldRange (hdrained.setHidden (by decide) (by decide)) fun _ _ _ hu => Apart.gateShort hlim hu)

/-! ### Channels start -/

theorem Apart.convMode (h : Apart lim s t) (hch : ch < 4) : Apart lim s (t.convMode ch) := by
  have hmarked : Apart lim s (if t.plan O.calMode ch ≠ 1 then t.unfault (0x24 + ch)
      else if (t.idle ch).isNone then t.fault (0x24 + ch) 0xFF else t) :=
    Apart.ite (h.setHidden (by decide) (by omega)) (Apart.ite (h.fault (by omega)) h)
  unfold State.convMode
  exact Apart.ite (Apart.setCv (Apart.runAbandon hlim hmarked)) (Apart.ite (Apart.setLate hlim hmarked (by decide)) hmarked)

theorem Apart.convStart (h : Apart lim s t) (hch : ch < 4) : Apart lim s (t.convStart ch) :=
  Apart.ite (Apart.calDue (Apart.convMode hlim h.setCv hch)) (Apart.convMode hlim h.setCv hch)

theorem Apart.convRestart (h : Apart lim s t) (hch : ch < 4) {moved : Bool} : Apart lim s (t.convRestart ch moved) :=
  Apart.ite (Apart.ite (Apart.convStart hlim h hch).setCv (Apart.convStart hlim h hch)) h

theorem Apart.chanStart (h : Apart lim s t) : Apart lim s (t.chanStart n) :=
  Apart.setLate hlim (Apart.setLate hlim (Apart.setLate hlim h.setChan (by decide)) (by decide)) (by decide)

theorem Apart.chanBegin (h : Apart lim s t) : Apart lim s (t.chanBegin n) := by
  have hgates : Apart lim s ((List.range 16).foldl (fun s sl => if readsChan s.active sl n then s.gateShort sl else s) t) :=
    h.foldRange fun _ _ _ hu => Apart.ite (Apart.gateShort hlim hu) hu
  exact (Apart.chanStart hlim hgates).foldRange fun _ _ _ hu => Apart.ite hu.setSlot hu

theorem Apart.loupeStart (h : Apart lim s t) : Apart lim s (t.loupeStart n) := by
  unfold State.loupeStart
  split
  · exact h
  · exact Apart.setLate hlim (Apart.setLate hlim h.setChan (by decide)) (by decide)

theorem Apart.loupeMoves (h : Apart lim s t) {ratio : Rat} : Apart lim s (t.loupeMoves n ratio) := by
  have hscaled : Apart lim s (t.loupeRescale n ratio) := h.foldRange fun _ _ _ hu => Apart.ite hu hu.setDom
  exact Apart.ite hscaled (Apart.ite (Apart.loupeStart hlim hscaled) hscaled.setChan)

theorem Apart.ticFroot (h : Apart lim s t) {hz : Nat} : Apart lim s (t.ticFroot hz) := by
  have hmoved : Apart lim s (t.setHidden H.loupeHz hz) := h.setHidden (by decide) (by decide)
  exact Apart.ite hmoved (hmoved.foldRange fun _ _ _ hu => Apart.loupeMoves hlim (Apart.ite (Apart.chanBegin hlim hu) hu))

theorem Apart.ticRestart (h : Apart lim s t) : Apart lim s (t.ticRestart n) := Apart.ite (Apart.chanBegin hlim h.setChan) h.setChan

/-! ### Figures of the plan -/

theorem Apart.engFigures (h : Apart lim s t) : Apart lim s (t.engFigures e) := by
  unfold State.engFigures State.engWindow
  exact Apart.setLate hlim (Apart.setLate hlim (Apart.setLate hlim (Apart.setLate hlim h (by decide)) (by decide)) (by decide)) (by decide)

theorem Apart.planFigures (h : Apart lim s t) : Apart lim s t.planFigures := by
  have hfold {r : Row} {f : Nat → Nat} {k : Nat} {u : State} (hu : Apart lim s u) (hr : 0x90000 ≤ r.idx * 256) :
      Apart lim s ((List.range k).foldl (fun s i => s.setReg r (f i) i) u) := hu.foldRange fun _ _ _ hw => Apart.setLate hlim hw hr
  unfold State.planFigures
  exact hfold (hfold (Apart.setLate hlim (Apart.setLate hlim (hfold (hfold (Apart.setLate hlim (hfold h (by decide)) (by decide)) (by decide)) (by decide))
    (by decide)) (by decide)) (by decide)) (by decide)

theorem Apart.pathsStart (h : Apart lim s t) {old : Rat} : Apart lim s (t.pathsStart old) := by
  have hepoch {x : Map Slice} {y : Map EngSrc} {z : Map Trig} : Apart lim s { t with slices := x, engSrcs := y, trigs := z } := h
  unfold State.pathsStart
  refine Apart.streamEpoch (Apart.taRestart (Apart.planFigures hlim (Apart.foldRange (Apart.foldRange (Apart.foldRange
    (Apart.ticFroot hlim (Apart.foldRange hepoch fun _ _ hch hu => Apart.convRestart hlim hu hch)) fun _ _ _ hu => Apart.ticRestart hlim hu)
    fun _ _ _ hu => Apart.ite hu (Apart.setLate hlim hu (by decide))) fun u e _ hu => ?_)))
  have hcap : Apart lim s (u.setTeCapacity e) := Apart.setLate hlim hu (by decide)
  exact Apart.ite (Apart.engFigures hlim hcap) hcap

end

end Sys2Proof.Machine
end

section
/-! SUPPORT. Resets (R478, R486, R488, R489): what each keeps. -/

namespace Sys2Proof.Machine

variable {s t u : State} {i j v n e : Nat} {r : Row}

/-! ### The host master disconnects (R33) -/

/-- With no object to keep, any may be written. -/
theorem Apart.setAny (h : Apart 0 s t) : Apart 0 s (t.setReg r v i j) := h.setReg_of fun _ hk => absurd hk (Nat.not_lt_zero _)

theorem Apart.withTransfers {x : List Xfer} {y : List (Nat × Nat × Bool × Nat)} (h : Apart 0 s t) : Apart 0 s { t with xfers := x, ends := y } := h

theorem Apart.dropTransfers (h : Apart 0 s t) (hmbx : t.mbx = none) : Apart 0 s (t.dropTransfers n) := by
  unfold State.dropTransfers
  dsimp only
  split
  · next hsome => exact absurd (hmbx.symm.trans hsome) (by simp)
  · exact h.withTransfers

theorem Apart.withStaged {x : Store} (h : Apart 0 s t) : Apart 0 s { t with staged := x } := h
theorem Apart.withAdm {x : Option Admission} (h : Apart 0 s t) : Apart 0 s { t with adm := x } := h

theorem Apart.setTa (h : Apart 0 s t) : Apart 0 s (t.setTa e v) := Apart.ite h.setAny.setAny (Apart.ite h.setAny.setAny h.setAny)

theorem Apart.taFreeStaged (h : Apart 0 s t) : Apart 0 s t.taFreeStaged :=
  h.foldRange fun _ _ he hu => Apart.ite (Apart.setHidden (Apart.setAny hu.setTa) (by decide) (by omega)) hu

theorem Apart.dropAdmission (h : Apart 0 s t) : Apart 0 s t.dropAdmission :=
  Apart.ite (Apart.setAny (Apart.raise (Apart.withAdm (h.setHidden (by decide) (by decide))))) h

theorem Apart.endOwner (h : Apart 0 s t) (hmbx : t.mbx = none) : Apart 0 s t.endOwner :=
  Apart.dropAdmission (Apart.withStaged (Apart.taFreeStaged (Apart.setAny (Apart.setAny (Apart.setAny (h.dropTransfers hmbx))))))

theorem Apart.masterGone (h : Apart 0 s t) (hmbx : t.mbx = none) : Apart 0 s (t.masterGone n) :=
  Apart.ite (Apart.raise (h.endOwner hmbx)) (Apart.ite (Apart.raise h.setAny.setAny) h)

theorem State.msixReset_apart : Apart 0 s s.msixReset := by
  refine ⟨rfl, id, fun n hn => ?_, fun _ _ _ hk => absurd hk (Nat.not_lt_zero _), fun _ => id, id⟩
  have hkept : n * 2 ^ 20 + 0 < H.modOn * 2 ^ 20 := by revert n; decide
  refine Map.get_filter _ _ fun p hp => decide_eq_true (.inl ?_)
  rw [hp]
  omega

/-- The connection closed: what is done at once. -/
def State.hostOff (s : State) : State :=
  { s.setHidden H.hostUp 0 with
    xfers := s.xfers.filter (fun x => x.master != 1)
    ends := s.ends.filter (fun x => x.1 != 1)
    mbx := none
    mbxData := [] }

theorem State.hostOff_dropped : Apart 0 s.hostOff ((s.hostOff.setReg O.mbxStatus 0).dropInstances 1) :=
  ⟨rfl, id, fun _ _ => rfl, fun _ _ _ hk => absurd hk (Nat.not_lt_zero _), fun _ => id, id⟩

theorem State.hostGone_apart (hup : s.hidden H.hostUp = 1) : Apart 0 s.hostOff s.hostGone := by
  have hgone : s.hostGone = ((((s.hostOff.setReg O.mbxStatus 0).dropInstances 1).masterGone 1).msixReset.dmaAbort 3 State.dmaOnHost).streamsHold := if_pos hup
  rw [hgone]
  have hmaster := State.hostOff_dropped.masterGone (n := 1) (s := s.hostOff) rfl
  exact Apart.streamsHold (by decide) (Apart.dmaAbort (by decide) (hmaster.trans State.msixReset_apart))

/-! ### PERST_N (R486, R489) -/

/-- The endpoint's link shown down. -/
def State.linkShownDown (s : State) : State := ((s.setHidden H.linkUp 0).setReg O.pcieWidth 0).setReg O.pcieSpeed 0

theorem State.linkShownDown_objects : s.linkShownDown.reg O.pcieWidth = 0 ∧ s.linkShownDown.reg O.pcieSpeed = 0 ∧ s.linkShownDown.hidden H.linkUp = 0 :=
  ⟨(State.reg_setReg_ne _ _ _ _ _ _ _ _ (by decide)).trans (State.reg_setReg_same ..), State.reg_setReg_same ..,
    State.hidden_setHidden_same s H.linkUp 0 0⟩

theorem exec_perstAssert : exec .perstAssert s = .next s.hostGone.linkShownDown := rfl

theorem perstAssert_alone (hup : s.hidden H.hostUp ≠ 1) :
    ∃ t, exec .perstAssert s = .next t ∧
      t.reg O.pcieWidth = 0 ∧
      t.reg O.pcieSpeed = 0 ∧
      t.hidden H.linkUp = 0 ∧
      Effect s t [] [O.pcieWidth.key 0 0, O.pcieSpeed.key 0 0] [hkey H.linkUp] := by
  obtain ⟨hwidth, hspeed, hlink⟩ := State.linkShownDown_objects (s := s)
  have hgone : s.hostGone = s := if_neg hup
  refine ⟨_, exec_perstAssert, ?_⟩
  rw [hgone]
  exact ⟨hwidth, hspeed, hlink, ((Effect.refl.setHidden (by simp)).setReg (by simp)).setReg (by simp)⟩

theorem perstAssert_disconnects (hup : s.hidden H.hostUp = 1) :
    ∃ t, exec .perstAssert s = .next t ∧
      t.reg O.pcieWidth = 0 ∧
      t.reg O.pcieSpeed = 0 ∧
      t.hidden H.linkUp = 0 ∧
      t.hidden H.hostUp = 0 ∧
      t.mbx = none ∧
      t.active = s.active ∧
      t.sess = s.sess := by
  obtain ⟨hwidth, hspeed, hlink⟩ := State.linkShownDown_objects (s := s.hostGone)
  obtain ⟨hframe, hmbx, hhid, -, -, -⟩ := State.hostGone_apart hup
  have hoff : s.hostGone.hidden H.hostUp = 0 := (hhid H.hostUp (by decide)).trans (State.hidden_setHidden_same s H.hostUp 0 0)
  have hkept : s.hostGone.linkShownDown.hidden H.hostUp = 0 := by
    unfold State.linkShownDown
    rw [State.hidden_setReg, State.hidden_setReg, State.hidden_setHidden_ne _ _ _ _ _ _ (by decide)]
    exact hoff
  simp only [State.frameView, Prod.mk.injEq] at hframe
  obtain ⟨-, -, -, -, hactive, hsess⟩ := hframe
  exact ⟨_, exec_perstAssert, hwidth, hspeed, hlink, hkept, hmbx rfl, hactive, hsess⟩

theorem perstRelease_wakes (hready : s.dictReady = true) (hplla : s.reg O.pllaState ≠ 0) :
    ∃ t, exec .perstRelease s = .next t ∧
      t.hidden H.dwelling = 1 ∧
      Effect s t [] [O.pwrWakes.key 0 0] [hkey H.dwelling, hkey H.pwrNext, hkey H.pwrCause] := by
  have hexec : exec .perstRelease s = .next (s.wake 5) := congrArg Host.Outcome.next (if_pos hready)
  refine ⟨_, hexec, ?_, Effect.refl.wake hplla (by simp) (by simp) (by simp) (by simp)⟩
  have hdwell : (s.setHidden H.dwelling 1).hidden H.dwelling = 1 := State.hidden_setHidden_same s H.dwelling 1 0
  have hkeep : ((((s.setHidden H.dwelling 1).bumpSat O.pwrWakes).setHidden H.pwrNext 1).setHidden H.pwrCause 5).reg O.pllaState ≠ 0 := by
    rw [State.reg_setHidden, State.reg_setHidden, State.bumpSat, State.reg_setReg_ne _ _ _ _ _ _ _ _ (by decide)]
    exact hplla
  unfold State.wake State.pwrTo
  dsimp only
  split_ifs with hstay hoff
  · exact hdwell
  · exact absurd hoff.2 hkeep
  · rw [State.hidden_setHidden_ne _ _ _ _ _ _ (by decide), State.hidden_setHidden_ne _ _ _ _ _ _ (by decide)]
    exact hdwell

/-! ### Cold and warm resets (R478, R488) -/

/-- A key whose entries go reads as nothing stored. -/
theorem Map.get_filter_out {α : Type} (m : Map α) (d : α) {k : Nat} {f : Nat × α → Bool} (h : ∀ p, p.1 = k → f p = false) :
    Map.get (m.filter f) d k = d := by
  induction m with
  | nil => rfl
  | cons p m ih =>
    by_cases hp : f p = true
    · rw [List.filter_cons_of_pos hp, Map.get_cons, if_neg fun he => absurd hp (by rw [h p he]; decide), ih]
    · rw [List.filter_cons_of_neg hp, ih]

/-- What leaves by the balls is all that changes. -/
theorem State.emits_withOut (f : Nat → Out) (l : List Nat) (o : List Out) :
    (l.foldl (fun (s : State) b => s.emit (f b)) s).withOut o = s.withOut o := by
  induction l generalizing s with
  | nil => rfl
  | cons b l ih => exact (ih (s := s.emit (f b))).trans (State.emit_withOut _)

theorem State.ballsReset_withOut : s.ballsReset.withOut s.out = s := by
  unfold State.ballsReset
  rw [State.emit_withOut, State.emits_withOut, State.withOut_self]

/-- Machines alike but for what has left them. -/
theorem State.fields_of_withOut {o : List Out} (h : t.withOut o = s) : t.mem = s.mem ∧ t.poison = s.poison ∧ t.tc = s.tc ∧ t.up = s.up ∧
    t.flash = s.flash ∧ t.pending = s.pending ∧ ∀ (r : Row) (i j : Nat), t.reg r i j = s.reg r i j := by
  subst h
  exact ⟨rfl, rfl, rfl, rfl, rfl, rfl, fun _ _ _ => rfl⟩

theorem State.coldBase_kept (h : (decide (r.key i j < 2 ^ 24) && O.svnMin.has (r.key i j)) = true) : s.coldBase.reg r i j = s.reg r i j :=
  Map.get_filter _ _ fun p hp => by rw [hp]; exact h

theorem State.coldBase_gone (h : (decide (r.key i j < 2 ^ 24) && O.svnMin.has (r.key i j)) = false) : s.coldBase.reg r i j = r.default i j :=
  Map.get_filter_out _ _ fun p hp => by rw [hp]; exact h

theorem porstAssert_states : ∃ t, exec .porstAssert s = .next t ∧
      t.flash = s.flash ∧
      t.tc = 0 ∧
      t.idx = 0 ∧
      t.mem = [] ∧
      t.doms = [] ∧
      t.active = [] ∧
      t.staged = [] ∧
      t.sess = [] ∧
      t.raises = [] ∧
      t.pending = s.pending ∧
      t.reg O.svnMin = s.reg O.svnMin ∧
      t.reg O.readyState = 0 ∧
      t.reg O.planGen = 0 ∧
      t.reg O.pllaState = 0 ∧
      t.hidden H.boot = 0 ∧
      t.out = s.ballsReset.out := by
  obtain ⟨-, -, -, -, hflash, hpending, hreg⟩ := State.fields_of_withOut (State.ballsReset_withOut (s := s))
  have hexec : exec .porstAssert s = .next s.ballsReset.coldBase := rfl
  generalize s.ballsReset = u at hexec hflash hpending hreg ⊢
  have hboot : u.coldBase.hidden H.boot = 0 := Map.get_filter_out _ _ fun p hp => by rw [hp]; decide
  exact ⟨u.coldBase, hexec, hflash, rfl, rfl, rfl, rfl, rfl, rfl, rfl, rfl, hpending, (State.coldBase_kept (by decide)).trans (hreg ..),
    State.coldBase_gone (by decide), State.coldBase_gone (by decide), State.coldBase_gone (by decide), hboot, rfl⟩

/-- What a warm reset takes over, before it is told from a cold one. -/
theorem State.warmBase_kept (hcause : r.key i j ≠ O.resetCause.key 0 0) (h : (decide (r.key i j < 2 ^ 24) && warmKey (r.key i j)) = true) :
    s.warmBase.reg r i j = s.reg r i j := by
  refine (State.reg_setReg_ne _ _ _ _ _ _ _ _ hcause).trans ?_
  exact Map.get_filter _ _ fun p hp => by rw [hp]; exact h

theorem State.warmBase_gone (hcause : r.key i j ≠ O.resetCause.key 0 0) (h : (decide (r.key i j < 2 ^ 24) && warmKey (r.key i j)) = false) :
    s.warmBase.reg r i j = r.default i j := by
  refine (State.reg_setReg_ne _ _ _ _ _ _ _ _ hcause).trans ?_
  exact Map.get_filter_out _ _ fun p hp => by rw [hp]; exact h

/-- A boot from a slot begins with its verification. -/
theorem State.bootBegin_slot (hslot : s.reg O.bootSel < 2) :
    s.bootBegin = ((s.setHidden H.bootStart s.up).setHidden H.boot 1).setHidden H.bootTry (s.reg O.bootSel) := by
  have hsel : (s.setHidden H.bootStart s.up).reg O.bootSel = s.reg O.bootSel := rfl
  unfold State.bootBegin
  dsimp only
  rw [hsel]
  generalize s.reg O.bootSel = k at hslot ⊢
  match k, hslot with
  | 0, _ => rfl
  | 1, _ => rfl

/-- The machine that boots again. -/
def State.warmBoot (s : State) : State := s.ballsReset.warmBase.bootBegin

theorem resetCmd_states {m : Master} (howner : Owner s m) (hslot : s.reg O.bootSel < 2) :
    ∃ t, exec (.resetCmd m 0x57525354) s = .next t ∧
      t.reg O.resetCause = 2 ∧
      t.hidden H.boot = 1 ∧
      t.hidden H.bootTry = s.reg O.bootSel ∧
      t.reg O.ownerId = 0 ∧
      t.mem = s.mem ∧
      t.poison = s.poison ∧
      t.tc = s.tc ∧
      t.up = s.up ∧
      t.flash = s.flash ∧
      t.reg O.tcValid = s.reg O.tcValid ∧
      t.sess = [] ∧
      t.staged = [] ∧
      t.pending = s.pending := by
  have hexec : exec (.resetCmd m 0x57525354) s = .next { s.warmBoot with out := replied s.warmBoot m } :=
    State.command_ok howner rfl (by decide) (by decide) rfl
  obtain ⟨hmem, hpoison, htc, hup, hflash, hpending, hreg⟩ := State.fields_of_withOut (State.ballsReset_withOut (s := s))
  unfold State.warmBoot at hexec
  generalize s.ballsReset = u at hexec hmem hpoison htc hup hflash hpending hreg
  have hsel : u.warmBase.reg O.bootSel = s.reg O.bootSel := (State.warmBase_kept (by decide) (by decide)).trans (hreg ..)
  have hboot := State.bootBegin_slot (s := u.warmBase) (by rw [hsel]; exact hslot)
  rw [hsel] at hboot
  have hvalid : u.warmBase.reg O.tcValid = s.reg O.tcValid := (State.warmBase_kept (by decide) (by decide)).trans (hreg ..)
  have howner0 : u.warmBase.reg O.ownerId = 0 := State.warmBase_gone (by decide) (by decide)
  have hcause : u.warmBase.reg O.resetCause = 2 := State.reg_setReg_same ..
  rw [hboot] at hexec
  refine ⟨_, hexec, hcause, ?_, ?_, howner0, hmem, hpoison, htc, hup, hflash, hvalid, rfl, rfl, hpending⟩
  · exact (State.hidden_setHidden_ne _ _ _ _ _ _ (by decide)).trans (State.hidden_setHidden_same ..)
  · exact State.hidden_setHidden_same _ H.bootTry _ 0

/-- Settles O48: what the resets keep is read off the filters of their bases; PERST_N reaches the units only through the
host master's disconnection, of which `Apart` says what it leaves alone. -/
theorem resets : Obligations.Resets :=
  ⟨fun _ => porstAssert_states, fun _ _ => resetCmd_states, fun _ => perstAssert_alone, fun _ => perstAssert_disconnects, fun _ => perstRelease_wakes⟩

end Sys2Proof.Machine
end

section
/-! SUPPORT. The fault collector's rails and latch (R433, R435). -/

namespace Sys2Proof.Machine

variable {s t u : State} {n src k data l : Nat} {c : RailChange} {evs : List (Nat × Nat)} {keys hids : List Nat}

/-! ### Bits -/

/-- A number by its bit at a place, and what stands above and below. -/
theorem split_at_bit (v i : Nat) : v = 2 ^ (i + 1) * (v / 2 ^ (i + 1)) + (2 ^ i * b2n (v.testBit i) + v % 2 ^ i) := by
  have hlow := Nat.div_add_mod v (2 ^ i)
  have hhigh := Nat.div_add_mod (v / 2 ^ i) 2
  have hquot : v / 2 ^ i / 2 = v / 2 ^ (i + 1) := by rw [Nat.div_div_eq_div_mul, Nat.pow_succ]
  have hbit : v / 2 ^ i % 2 = b2n (v.testBit i) := by
    rw [Nat.testBit_eq_decide_div_mod_eq]
    rcases Nat.mod_two_eq_zero_or_one (v / 2 ^ i) with h | h <;> simp [h, b2n]
  rw [hquot, hbit] at hhigh
  conv_lhs => rw [← hlow, ← hhigh]
  ring

theorem setBit_eq (v i : Nat) (b : Bool) : setBit v i b = 2 ^ (i + 1) * (v / 2 ^ (i + 1)) + (2 ^ i * b2n b + v % 2 ^ i) := by
  have hsplit := split_at_bit v i
  unfold setBit
  cases hv : v.testBit i <;> cases b <;> simp only [hv, b2n, if_true, if_false, Bool.false_eq_true] at hsplit ⊢ <;> omega

theorem testBit_setBit (v i j : Nat) (b : Bool) : (setBit v i b).testBit j = if j = i then b else v.testBit j := by
  have hr : v % 2 ^ i < 2 ^ i := Nat.mod_lt _ (Nat.two_pow_pos i)
  have hlow (c : Bool) : 2 ^ i * b2n c + v % 2 ^ i < 2 ^ (i + 1) := by
    rw [Nat.pow_succ]
    cases c <;> simp only [b2n, if_true, if_false, Bool.false_eq_true] <;> omega
  rw [setBit_eq, Nat.testBit_two_pow_mul_add _ (hlow b)]
  conv_rhs => rw [split_at_bit v i, Nat.testBit_two_pow_mul_add _ (hlow _)]
  rw [Nat.testBit_two_pow_mul_add _ hr, Nat.testBit_two_pow_mul_add _ hr]
  by_cases hj : j = i
  · subst hj
    cases b <;> simp [b2n]
  · rcases Nat.lt_or_gt_of_ne hj with h | h
    · simp [hj, h, Nat.lt_succ_of_lt h]
    · simp [hj, show ¬ j < i + 1 by omega]

/-! ### Rails -/

/-- Rails shown: a fault or none, by both rails or by one. -/
def State.railShown (s : State) (src : Nat) (up wire : Bool) : State := (s.setFrBit O.frRaw src up).setFrBit O.frWire src wire

theorem frRaw_ne_frWire {i j : Nat} (hi : i < 4) : O.frRaw.key 0 i ≠ O.frWire.key 0 j := by
  simp only [Row.key, O.frRaw, O.frWire]
  omega

theorem State.railShown_raw {up wire : Bool} (hn : n < 256) : (s.railShown src up wire).faultRaw n = if n = src then up else s.faultRaw n := by
  have hraw : (s.railShown src up wire).reg O.frRaw 0 (n / 64) = if n / 64 = src / 64 then setBit (s.reg O.frRaw 0 (src / 64)) (src % 64) up
      else s.reg O.frRaw 0 (n / 64) := by
    refine (State.reg_setReg_ne _ _ _ _ _ _ _ _ (frRaw_ne_frWire (by omega))).trans ?_
    split
    · next h => rw [h]; exact State.reg_setReg_same ..
    · next h => exact State.reg_setReg_ne _ _ _ _ _ _ _ _ (by simp only [Row.key, O.frRaw]; omega)
  unfold State.faultRaw
  rw [hraw]
  by_cases hword : n / 64 = src / 64
  · rw [if_pos hword, testBit_setBit, hword]
    by_cases h : n = src
    · rw [if_pos h, if_pos (by rw [h])]
    · rw [if_neg h, if_neg (by omega)]
  · rw [if_neg hword, if_neg (fun h => hword (by rw [h]))]

theorem State.railShown_wire {up wire : Bool} : (s.railShown src up wire).frBit O.frWire src = wire := by
  unfold State.frBit State.railShown State.setFrBit
  rw [State.reg_setReg_same, testBit_setBit, if_pos rfl]

theorem State.railShown_effect {up wire : Bool} (hraw : O.frRaw.key 0 (src / 64) ∈ keys) (hwire : O.frWire.key 0 (src / 64) ∈ keys) :
    Effect s (s.railShown src up wire) [] keys hids := (Effect.refl.setReg hraw).setReg hwire

/-- Rails that show a fault anew: what no unit of the model drives gives its data, and the fault is counted. -/
def State.railCounted (s : State) (src : Nat) (data : Option Nat) : State :=
  let s := s.railShown src true false
  (match data with
    | some d => s.setHidden H.driveData d src
    | none => s).bumpSat O.frCount 0 src

/-- Objects of a source's rails. -/
abbrev railKeys (src : Nat) : List Nat := [O.frRaw.key 0 (src / 64), O.frWire.key 0 (src / 64), O.frCount.key 0 src]

theorem State.railCounted_kept {r : Row} {i j : Nat} {x : Option Nat} (hraw : r.key i j ≠ O.frRaw.key 0 (src / 64))
    (hwire : r.key i j ≠ O.frWire.key 0 (src / 64)) (hcount : r.key i j ≠ O.frCount.key 0 src) : (s.railCounted src x).reg r i j = s.reg r i j := by
  have hshown : (s.railShown src true false).reg r i j = s.reg r i j :=
    (State.reg_setReg_ne _ _ _ _ _ _ _ _ hwire).trans (State.reg_setReg_ne _ _ _ _ _ _ _ _ hraw)
  unfold State.railCounted
  refine (State.reg_setReg_ne _ _ _ _ _ _ _ _ hcount).trans ?_
  cases x <;> exact hshown

theorem State.railCounted_raw {x : Option Nat} (hn : n < 256) (hs : src < 256) : (s.railCounted src x).faultRaw n = if n = src then true else s.faultRaw n := by
  have hkept : (s.railCounted src x).reg O.frRaw 0 (n / 64) = (s.railShown src true false).reg O.frRaw 0 (n / 64) := by
    unfold State.railCounted
    refine (State.reg_setReg_ne _ _ _ _ _ _ _ _ (by simp only [Row.key, O.frRaw, O.frCount]; omega)).trans ?_
    cases x <;> rfl
  rw [← State.railShown_raw (s := s) (up := true) (wire := false) hn]
  unfold State.faultRaw
  rw [hkept]

theorem State.railCounted_wire {x : Option Nat} (hs : src < 256) : (s.railCounted src x).frBit O.frWire src = false := by
  have hkept : (s.railCounted src x).reg O.frWire 0 (src / 64) = (s.railShown src true false).reg O.frWire 0 (src / 64) := by
    unfold State.railCounted
    refine (State.reg_setReg_ne _ _ _ _ _ _ _ _ (by simp only [Row.key, O.frWire, O.frCount]; omega)).trans ?_
    cases x <;> rfl
  rw [← State.railShown_wire (s := s) (src := src) (up := true) (wire := false)]
  unfold State.frBit
  rw [hkept]

theorem State.railCounted_count {x : Option Nat} (hs : src < 256) :
    (s.railCounted src x).reg O.frCount 0 src = satAdd O.frCount.width (s.reg O.frCount 0 src) 1 := by
  have hkept : (s.railShown src true false).reg O.frCount 0 src = s.reg O.frCount 0 src :=
    (State.reg_setReg_ne _ _ _ _ _ _ _ _ (by simp only [Row.key, O.frWire, O.frCount]; omega)).trans
      (State.reg_setReg_ne _ _ _ _ _ _ _ _ (by simp only [Row.key, O.frRaw, O.frCount]; omega))
  unfold State.railCounted
  refine (State.reg_setReg_same ..).trans ?_
  cases x <;> exact congrArg (fun v => satAdd O.frCount.width v 1) hkept

theorem State.railCounted_hidden {x : Option Nat} {m i : Nat} (h : hkey m i ≠ hkey H.driveData src) : (s.railCounted src x).hidden m i = s.hidden m i := by
  cases x with
  | none => rfl
  | some d => exact State.hidden_setHidden_ne _ _ _ _ _ _ h

theorem State.railCounted_data {x : Option Nat} : (s.railCounted src x).hidden H.driveData src = x.getD (s.hidden H.driveData src) := by
  cases x with
  | none => rfl
  | some d => exact State.hidden_setHidden_same ..

theorem State.railCounted_effect {x : Option Nat} (hraw : O.frRaw.key 0 (src / 64) ∈ keys) (hwire : O.frWire.key 0 (src / 64) ∈ keys)
    (hcount : O.frCount.key 0 src ∈ keys) (hdata : x ≠ none → hkey H.driveData src ∈ hids) : Effect s (s.railCounted src x) [] keys hids := by
  have hshown : Effect s (s.railShown src true false) [] keys hids := State.railShown_effect hraw hwire
  cases x with
  | none => exact hshown.setReg hcount
  | some d => exact (hshown.setHidden (hdata (by simp))).setReg hcount

theorem State.railCounted_masked {x : Option Nat} (hn : n < 256) (hs : src < 256) : (s.railCounted src x).masked n = s.masked n := by
  unfold State.masked State.frBit
  rw [State.railCounted_kept (by simp only [Row.key, O.frMask, O.frRaw]; omega) (by simp only [Row.key, O.frMask, O.frWire]; omega)
    (by simp only [Row.key, O.frMask, O.frCount]; omega)]

theorem State.railCounted_acked {x : Option Nat} (hs : src < 256) (hn : n < 256) : (s.railCounted src x).hidden H.acked n = s.hidden H.acked n :=
  State.railCounted_hidden (by simp only [hkey, H.acked, H.driveData]; omega)

theorem State.railCounted_latched {x : Option Nat} (hs : src < 256) : (s.railCounted src x).latched = s.latched := by
  unfold State.latched
  rw [State.railCounted_kept (by simp only [Row.key, O.frFirst, O.frRaw]; omega) (by simp only [Row.key, O.frFirst, O.frWire]; omega)
    (by simp only [Row.key, O.frFirst, O.frCount]; omega)]

/-- One source shows a fault where none did that could be latched: it is the only candidate. -/
theorem State.railCounted_candidates {x : Option Nat} (hs : src < 256) (hnone : s.candidates = []) (hmask : s.masked src = false)
    (hack : s.hidden H.acked src = 0) : (s.railCounted src x).candidates = [src] := by
  have hothers : ∀ n < 256, (s.faultRaw n && !s.masked n && s.hidden H.acked n == 0) = false := by
    intro n hn
    have := List.filter_eq_nil_iff.mp hnone n (List.mem_range.mpr hn)
    simpa using this
  have hfilter : ∀ n ∈ List.range 256, ((s.railCounted src x).faultRaw n && !(s.railCounted src x).masked n && (s.railCounted src x).hidden H.acked n == 0) = (n == src) := by
    intro n hmem
    have hn := List.mem_range.mp hmem
    rw [State.railCounted_raw hn hs, State.railCounted_masked hn hs, State.railCounted_acked hs hn]
    by_cases h : n = src
    · rw [if_pos h, h, hmask, hack]
      simp
    · rw [if_neg h, hothers n hn]
      simp [h]
  unfold State.candidates
  rw [List.filter_congr hfilter]
  rw [List.filter_beq, List.count_eq_one_of_mem List.nodup_range (List.mem_range.mpr hs), List.replicate_one]

/-! ### What a change of one source does -/

/-- The change is a fault that counts: the unit of the model that drives the source says so too, or no unit does. -/
structure Counts (s : State) (c : RailChange) (x : Option Nat) : Prop where
  known : (faultClass c.src.val).isSome = true
  p : c.p = true
  n : c.n = false
  right : s.railWrong c = false
  new : s.faultRaw c.src.val = false
  data : x = if s.hidden H.drive c.src.val = 1 ∨ s.hidden H.held c.src.val = 1 then none else some c.data.toNat

theorem railWrong_of_driven (hp : c.p = true) (hdrive : s.hidden H.drive c.src.val = 1) : s.railWrong c = false := by
  unfold State.railWrong
  rw [hp, hdrive]
  simp

theorem railWrong_of_outside (hout : outsideOccurrence c.src.val = true) : s.railWrong c = false := by
  unfold State.railWrong
  rw [hout]
  rfl

theorem Counts.railCounts {x : Option Nat} (h : Counts s c x) : s.railCounts [c] = (s.railCounted c.src.val x, [c.src.val]) := by
  obtain ⟨hknown, hp, hn, hright, hnew, hdata⟩ := h
  have hcount : s.railCount c = (s.railCounted c.src.val x, true) := by
    unfold State.railCount
    dsimp only
    rw [if_neg (by rw [hright]; simp [Option.isNone_iff_eq_none, Option.isSome_iff_ne_none.mp hknown]), hp, hn]
    have hself : (if c.src.val = 0 ∧ (!(true || !false)) = true then s.unfault 0 else s) = s := if_neg (by simp)
    rw [hself, if_neg (by simp), if_neg (by rw [hnew]; decide)]
    subst hdata
    unfold State.railCounted State.railShown
    have hsame (m : Nat) : ((s.setFrBit O.frRaw c.src.val (true || !false)).setFrBit O.frWire c.src.val (true == false)).hidden m c.src.val =
        s.hidden m c.src.val := rfl
    rw [hsame, hsame]
    by_cases hown : s.hidden H.drive c.src.val = 1 ∨ s.hidden H.held c.src.val = 1
    · rw [if_pos hown, if_pos hown]
      rfl
    · rw [if_neg hown, if_neg hown]
      rfl
  unfold State.railCounts
  rw [hcount]
  rfl

end Sys2Proof.Machine
end

section
/-! SUPPORT. Latching, overflow, faults that end, and the steward's watchdog (R433, R435, R440, R441). -/

namespace Sys2Proof.Machine

variable {s t u : State} {n src k data l : Nat} {c : RailChange} {x : Option Nat} {evs : List (Nat × Nat)} {keys hids : List Nat}

/-! ### The latch (R435) -/

/-- A correctable or recoverable fault latched: its record, its class's starting step, and `FR_LATCHED`. -/
def State.frLatched (s : State) (src k : Nat) : State :=
  ((((s.setReg O.frFirst (src + 512 * k + 0x8000)).setReg O.frFirstT96 s.now).setReg O.frFirstData (s.hidden H.driveData src)).setReg O.frState 1).raise 0x030
    (src + 1024 * k)

theorem State.latch_usual (hclass : s.effClass src = k) (hk : k < 2) (hwire : s.frBit O.frWire src = false) : s.latch src false = s.frLatched src k := by
  have hstep : (if k = 2 then 3 else 1) = 1 := if_neg (by omega)
  have hstays (w : State) : w.frStep 1 src = w := rfl
  have hnow (w : State) (v : Nat) : (w.setReg O.frFirst v).now = w.now := rfl
  unfold State.latch State.frLatched b2n
  dsimp only
  rw [hclass, hwire, hstep, hstays, hnow, State.hidden_setReg, if_neg (by decide)]
  simp only [Nat.mul_zero, Nat.add_zero]

theorem State.effClass_plain (hclass : faultClass src = some k) (hwire : s.frBit O.frWire src = false) : s.effClass src = k := by
  unfold State.effClass
  dsimp only
  rw [hclass, hwire, if_neg (by decide)]
  rfl

/-- The one candidate is the highest. -/
theorem State.highest_one (hclass : s.effClass src = k) (hk : k < 2) : s.highest [src] = some src := by
  unfold State.highest
  have : k = 0 ∨ k = 1 := by omega
  rcases this with h | h <;> simp [List.find?, hclass, h]

/-- The objects of the latch. -/
abbrev latchKeys (src : Nat) : List Nat :=
  [O.frRaw.key 0 (src / 64), O.frWire.key 0 (src / 64), O.frCount.key 0 src, O.frFirst.key 0 0, O.frFirstT96.key 0 0, O.frFirstData.key 0 0, O.frState.key 0 0]

theorem latchKeys_span (hs : src < 256) : SpanFree (latchKeys src) := by
  have hfixed : SpanFree [O.frFirst.key 0 0, O.frFirstT96.key 0 0, O.frFirstData.key 0 0, O.frState.key 0 0] := by decide
  refine ((hfixed.cons ?_).cons ?_).cons ?_
  · simp only [spanKeys, Row.key, O.frCount, O.pllaState, O.frootActual, List.mem_cons, List.not_mem_nil, or_false]
    omega
  · simp only [spanKeys, Row.key, O.frWire, O.pllaState, O.frootActual, List.mem_cons, List.not_mem_nil, or_false]
    omega
  · simp only [spanKeys, Row.key, O.frRaw, O.pllaState, O.frootActual, List.mem_cons, List.not_mem_nil, or_false]
    omega

theorem State.frLatched_objects : (s.frLatched src k).reg O.frFirst = src + 512 * k + 0x8000 ∧ (s.frLatched src k).reg O.frFirstT96 = s.now ∧
    (s.frLatched src k).reg O.frFirstData = s.hidden H.driveData src ∧ (s.frLatched src k).reg O.frState = 1 := by
  unfold State.frLatched
  refine ⟨?_, ?_, ?_, ?_⟩
  all_goals rw [State.reg_raise_late (by decide)]
  · rw [State.reg_setReg_ne _ _ _ _ _ _ _ _ (by decide), State.reg_setReg_ne _ _ _ _ _ _ _ _ (by decide),
      State.reg_setReg_ne _ _ _ _ _ _ _ _ (by decide), State.reg_setReg_same]
  · rw [State.reg_setReg_ne _ _ _ _ _ _ _ _ (by decide), State.reg_setReg_ne _ _ _ _ _ _ _ _ (by decide), State.reg_setReg_same]
  · rw [State.reg_setReg_ne _ _ _ _ _ _ _ _ (by decide), State.reg_setReg_same]
  · exact State.reg_setReg_same ..

/-- A latch writes no object of the rails. -/
theorem State.frLatched_kept {r : Row} {i j : Nat} (hr : 0x601 ≤ r.idx) : (s.frLatched src k).reg r i j = s.reg r i j := by
  have hne {q : Row} (hq : q.key 0 0 < 0x60100) : r.key i j ≠ q.key 0 0 := by
    have := Nat.mul_le_mul_right 256 (hr.trans (Nat.le_add_right r.idx (r.ist * i)))
    have hkey : r.key i j = (r.idx + r.ist * i) * 256 + (r.sub + r.sst * j) := rfl
    omega
  unfold State.frLatched
  rw [State.reg_raise_late (Nat.le_trans (by decide) hr), State.reg_setReg_ne _ _ _ _ _ _ _ _ (hne (by decide)),
    State.reg_setReg_ne _ _ _ _ _ _ _ _ (hne (by decide)), State.reg_setReg_ne _ _ _ _ _ _ _ _ (hne (by decide)),
    State.reg_setReg_ne _ _ _ _ _ _ _ _ (hne (by decide))]

theorem State.frLatched_effect (hs : src < 256) (hu : Effect s u [] (latchKeys src) hids) :
    Effect s (u.frLatched src k) [(0x030, src + 1024 * k)] (latchKeys src) hids := by
  unfold State.frLatched
  have h1 := hu.setReg (r := O.frFirst) (v := src + 512 * k + 0x8000) (i := 0) (j := 0) (by simp)
  have h2 := h1.setReg (r := O.frFirstT96) (v := u.now) (i := 0) (j := 0) (by simp)
  have h3 := h2.setReg (r := O.frFirstData) (v := u.hidden H.driveData src) (i := 0) (j := 0) (by simp)
  exact (h3.setReg (r := O.frState) (v := 1) (i := 0) (j := 0) (by simp)).raise _ _ (latchKeys_span hs)

/-! ### Faults that count (R433, R435) -/

theorem Counts.exec_latches (h : Counts s c x) (hclass : faultClass c.src.val = some k) (hk : k < 2) (hfree : bit (s.reg O.frFirst) 15 = false)
    (hmask : s.masked c.src.val = false) (hack : s.hidden H.acked c.src.val = 0) (hnone : s.candidates = []) :
    exec (.faultRailChange [c]) s = .next ((s.railCounted c.src.val x).frLatched c.src.val k) := by
  have hs := c.src.isLt
  have hwire := State.railCounted_wire (s := s) (x := x) hs
  have heff := State.effClass_plain (s := s.railCounted c.src.val x) hclass hwire
  have hlatched : (s.railCounted c.src.val x).latched = none := by
    rw [State.railCounted_latched hs, State.latched, hfree]
    rfl
  have hfresh : [c.src.val].filter (fun n => !(s.railCounted c.src.val x).masked n) = [c.src.val] := by
    rw [List.filter_cons_of_pos (by rw [State.railCounted_masked hs hs, hmask]; rfl), List.filter_nil]
  change execFaultRailChange [c] s = _
  unfold execFaultRailChange
  rw [h.railCounts]
  dsimp only
  rw [hlatched, hfresh]
  dsimp only
  rw [if_neg (by simp), State.railCounted_candidates hs hnone hmask hack, State.highest_one heff hk]
  dsimp only
  have hsame : ([c.src.val].any fun n => n != c.src.val) = false := by simp
  rw [hsame, if_neg (by decide), State.latch_usual heff hk hwire]

theorem Counts.latches (h : Counts s c x) (hclass : faultClass c.src.val = some k) (hk : k < 2) (hfree : bit (s.reg O.frFirst) 15 = false)
    (hmask : s.masked c.src.val = false) (hack : s.hidden H.acked c.src.val = 0) (hnone : s.candidates = [])
    (hdata : x ≠ none → hkey H.driveData c.src.val ∈ hids) :
    ∃ t, exec (.faultRailChange [c]) s = .next t ∧
      t.faultRaw c.src.val = true ∧
      t.reg O.frCount 0 c.src.val = satAdd O.frCount.width (s.reg O.frCount 0 c.src.val) 1 ∧
      t.reg O.frFirst = c.src.val + 512 * k + 0x8000 ∧
      t.reg O.frFirstT96 = s.now ∧
      t.reg O.frFirstData = x.getD (s.hidden H.driveData c.src.val) ∧
      t.reg O.frState = 1 ∧
      Effect s t [(0x030, c.src.val + 1024 * k)] (latchKeys c.src.val) hids := by
  have hs := c.src.isLt
  obtain ⟨hfirst, htime, hgiven, hstate⟩ := State.frLatched_objects (s := s.railCounted c.src.val x) (src := c.src.val) (k := k)
  have hraw : ((s.railCounted c.src.val x).frLatched c.src.val k).faultRaw c.src.val = true := by
    have hkept : ((s.railCounted c.src.val x).frLatched c.src.val k).faultRaw c.src.val = (s.railCounted c.src.val x).faultRaw c.src.val := by
      unfold State.faultRaw
      rw [State.frLatched_kept (by decide)]
    rw [hkept, State.railCounted_raw hs hs, if_pos rfl]
  have hnow : (s.railCounted c.src.val x).now = s.now := by cases x <;> rfl
  refine ⟨_, h.exec_latches hclass hk hfree hmask hack hnone, hraw, ?_, hfirst, htime.trans hnow, hgiven.trans State.railCounted_data, hstate, ?_⟩
  · rw [State.frLatched_kept (by decide), State.railCounted_count hs]
  · exact State.frLatched_effect hs (State.railCounted_effect (by simp) (by simp) (by simp) hdata)

/-- Another fault while one is latched. -/
theorem Counts.overflows (h : Counts s c x) (hheld : bit (s.reg O.frFirst) 15 = true) (hother : s.reg O.frFirst % 256 ≠ c.src.val)
    (hmask : s.masked c.src.val = false) (hdata : x ≠ none → hkey H.driveData c.src.val ∈ hids) :
    ∃ t, exec (.faultRailChange [c]) s = .next t ∧
      t.faultRaw c.src.val = true ∧
      t.reg O.frCount 0 c.src.val = satAdd O.frCount.width (s.reg O.frCount 0 c.src.val) 1 ∧
      t.reg O.frOverflow = 1 ∧
      Effect s t [] [O.frRaw.key 0 (c.src.val / 64), O.frWire.key 0 (c.src.val / 64), O.frCount.key 0 c.src.val, O.frOverflow.key 0 0] hids := by
  have hs := c.src.isLt
  have hlatched : (s.railCounted c.src.val x).latched = some (s.reg O.frFirst % 256) := by
    rw [State.railCounted_latched hs, State.latched, hheld]
    rfl
  have hfresh : [c.src.val].filter (fun n => !(s.railCounted c.src.val x).masked n) = [c.src.val] := by
    rw [List.filter_cons_of_pos (by rw [State.railCounted_masked hs hs, hmask]; rfl), List.filter_nil]
  have hexec : exec (.faultRailChange [c]) s = .next ((s.railCounted c.src.val x).setReg O.frOverflow 1) := by
    change execFaultRailChange [c] s = _
    unfold execFaultRailChange
    rw [h.railCounts]
    dsimp only
    rw [hlatched, hfresh]
    dsimp only
    rw [if_pos (by simpa using Ne.symm hother)]
  refine ⟨_, hexec, ?_, ?_, State.reg_setReg_same .., (State.railCounted_effect (by simp) (by simp) (by simp) hdata).setReg (by simp)⟩
  · have hkept : ((s.railCounted c.src.val x).setReg O.frOverflow 1).faultRaw c.src.val = (s.railCounted c.src.val x).faultRaw c.src.val := by
      unfold State.faultRaw
      rw [State.reg_setReg_ne _ _ _ _ _ _ _ _ (by simp only [Row.key, O.frRaw, O.frOverflow]; omega)]
    rw [hkept, State.railCounted_raw hs hs, if_pos rfl]
  · rw [State.reg_setReg_ne _ _ _ _ _ _ _ _ (by simp only [Row.key, O.frCount, O.frOverflow]; omega), State.railCounted_count hs]

theorem counts_driven (hclass : faultClass c.src.val = some k) (hp : c.p = true) (hn : c.n = false) (hnew : s.faultRaw c.src.val = false)
    (hdrive : s.hidden H.drive c.src.val = 1) : Counts s c none :=
  ⟨by rw [hclass]; rfl, hp, hn, railWrong_of_driven hp hdrive, hnew, (if_pos (.inl hdrive)).symm⟩

theorem counts_outside (hclass : faultClass c.src.val = some k) (hp : c.p = true) (hn : c.n = false) (hnew : s.faultRaw c.src.val = false)
    (hout : outsideOccurrence c.src.val = true) (hdrive : s.hidden H.drive c.src.val ≠ 1) (hheld : s.hidden H.held c.src.val ≠ 1) :
    Counts s c (some c.data.toNat) :=
  ⟨by rw [hclass]; rfl, hp, hn, railWrong_of_outside hout, hnew, (if_neg (by tauto)).symm⟩

/-! ### Faults that end -/

theorem railCounts_ended (hclass : faultClass c.src.val = some k) (hp : c.p = false) (hn : c.n = true) (hsrc : c.src.val ≠ 0) (hright : s.railWrong c = false) :
    s.railCounts [c] = ((s.railShown c.src.val false false).setHidden H.acked 0 c.src.val, []) := by
  have hself : (if c.src.val = 0 ∧ (!(false || !true)) = true then s.unfault 0 else s) = s := if_neg (fun h => hsrc h.1)
  have hcount : s.railCount c = ((s.railShown c.src.val false false).setHidden H.acked 0 c.src.val, false) := by
    unfold State.railCount
    dsimp only
    rw [if_neg (by rw [hright, hclass]; simp), hp, hn, hself, if_pos (by decide)]
    rfl
  unfold State.railCounts
  rw [hcount]
  rfl

theorem faultEnds_states (hclass : faultClass c.src.val = some k) (hp : c.p = false) (hn : c.n = true) (hsrc : c.src.val ≠ 0) (hright : s.railWrong c = false) :
    ∃ t, exec (.faultRailChange [c]) s = .next t ∧
      t.faultRaw c.src.val = false ∧
      t.hidden H.acked c.src.val = 0 ∧
      Effect s t [] [O.frRaw.key 0 (c.src.val / 64), O.frWire.key 0 (c.src.val / 64)] [hkey H.acked c.src.val] := by
  have hs := c.src.isLt
  have hexec : exec (.faultRailChange [c]) s = .next ((s.railShown c.src.val false false).setHidden H.acked 0 c.src.val) := by
    change execFaultRailChange [c] s = _
    unfold execFaultRailChange
    rw [railCounts_ended hclass hp hn hsrc hright]
    dsimp only
    rw [List.filter_nil]
    split
    · rfl
    · rfl
  have hraw : (s.railShown c.src.val false false).faultRaw c.src.val = false := by rw [State.railShown_raw hs, if_pos rfl]
  exact ⟨_, hexec, hraw, State.hidden_setHidden_same .., (State.railShown_effect (by simp) (by simp)).setHidden (by simp)⟩

/-! ### The steward's watchdog (R440) -/

/-- A latch of any class writes no object of the rails: step 3 only makes the safe plan due. -/
theorem State.latch_rails {same : Bool} {r : Row} {i j : Nat} (hr : 0x601 ≤ r.idx) : (s.latch src same).reg r i j = s.reg r i j := by
  have hne {q : Row} (hq : q.key 0 0 < 0x60100) : r.key i j ≠ q.key 0 0 := by
    have := Nat.mul_le_mul_right 256 (hr.trans (Nat.le_add_right r.idx (r.ist * i)))
    have hkey : r.key i j = (r.idx + r.ist * i) * 256 + (r.sub + r.sst * j) := rfl
    omega
  have hstep (u : State) (m : Nat) (hm : m = 3 ∨ m = 1) : (u.frStep m src).reg r i j = u.reg r i j := by
    rcases hm with rfl | rfl <;> rfl
  unfold State.latch
  dsimp only
  rw [hstep _ _ (by split <;> simp), State.reg_raise_late (Nat.le_trans (by decide) hr), State.reg_setReg_ne _ _ _ _ _ _ _ _ (hne (by decide)),
    State.reg_setReg_ne _ _ _ _ _ _ _ _ (hne (by decide)), State.reg_setReg_ne _ _ _ _ _ _ _ _ (hne (by decide)),
    State.reg_setReg_ne _ _ _ _ _ _ _ _ (hne (by decide))]

/-- Whatever follows a counted change, the rails and the counter stay as the change left them. -/
theorem Counts.rails (h : Counts s c x) : ∃ t, exec (.faultRailChange [c]) s = .next t ∧
    ∀ (r : Row) (i j : Nat), 0x601 ≤ r.idx → t.reg r i j = (s.railCounted c.src.val x).reg r i j := by
  have hover (u : State) {r : Row} {i j : Nat} (hr : 0x601 ≤ r.idx) : (u.setReg O.frOverflow 1).reg r i j = u.reg r i j :=
    State.reg_setReg_ne _ _ _ _ _ _ _ _ (by
      have := Nat.mul_le_mul_right 256 (hr.trans (Nat.le_add_right r.idx (r.ist * i)))
      simp only [Row.key, O.frOverflow]
      omega)
  change ∃ t, execFaultRailChange [c] s = .next t ∧ _
  unfold execFaultRailChange
  rw [h.railCounts]
  dsimp only
  generalize s.railCounted c.src.val x = u
  split
  · refine ⟨_, rfl, fun r i j hr => ?_⟩
    split
    · exact hover u hr
    · rfl
  · split
    · exact ⟨u, rfl, fun _ _ _ _ => rfl⟩
    · split
      · exact ⟨u, rfl, fun _ _ _ _ => rfl⟩
      · refine ⟨_, rfl, fun r i j hr => ?_⟩
        rw [State.latch_rails hr]
        split
        · exact hover u hr
        · rfl

theorem stewardWatchdog_counts (hnew : s.faultRaw 0 = false) :
    (s.fault 0 0).thenDoes (.faultRailChange [⟨0, true, false, 0⟩]) (fun u => (u.faultRaw 0, u.reg O.frCount 0 0)) =
      some (true, satAdd O.frCount.width (s.reg O.frCount 0 0) 1) := by
  have hdrive : (s.fault 0 0).hidden H.drive 0 = 1 := by
    unfold State.fault
    rw [State.hidden_setHidden_ne _ _ _ _ _ _ (by decide)]
    exact State.hidden_setHidden_same s H.drive 1 0
  have hcounts : Counts (s.fault 0 0) ⟨0, true, false, 0⟩ none := counts_driven (k := 2) (by decide) rfl rfl hnew hdrive
  obtain ⟨t, hexec, hrails⟩ := hcounts.rails
  have hraw : t.faultRaw 0 = true := by
    have hkept : t.faultRaw 0 = ((s.fault 0 0).railCounted 0 none).faultRaw 0 := by
      unfold State.faultRaw
      rw [hrails _ _ _ (by decide)]
      rfl
    rw [hkept, State.railCounted_raw (by decide) (by decide), if_pos rfl]
  have hcount : t.reg O.frCount 0 0 = satAdd O.frCount.width (s.reg O.frCount 0 0) 1 :=
    (hrails O.frCount 0 0 (by decide)).trans (State.railCounted_count (by decide))
  rw [State.thenDoes_of_exec _ hexec, hraw, hcount]

end Sys2Proof.Machine
end

section
/-! SUPPORT. The steps of the ladder, the acknowledgement and the release (R436 to R439). -/

namespace Sys2Proof.Machine

variable {s t u : State} {lim g k n src v step reason kind pool group unit : Nat} {m : Master}

/-! ### The safe state leaves the collector's objects, and every generator tripped -/

theorem Apart.pgOut (h : Apart lim s t) {level : Bool} : Apart lim s (t.pgOut g level) := by
  unfold State.pgOut
  dsimp only
  split <;> exact h

section
variable (hlim : lim ≤ 0x2C0000)
include hlim

theorem Apart.hkSource (h : Apart lim s t) {start : Nat} {byPg : Bool} : Apart lim s (t.hkSource start byPg) := by
  refine h.foldRange fun u k hk hu => Apart.ite ?_ hu
  have hmissed (x : HkSlot) : Apart lim s ((u.setHkSlot k x).bumpSat O.hkSlotMissed k) :=
    Apart.bumpSat (t := u.setHkSlot k x) hu (hlim.trans (by decide))
  exact Apart.ite hu (Apart.ite ((hmissed _).raiseRare (by decide)) hu)

theorem Apart.pgTrip (h : Apart lim s t) : Apart lim s (t.pgTrip g n) := by
  have hout := Apart.pgOut (g := g) (level := t.plan O.pgTripLevel g == 1) (show Apart lim s (t.setPg g { t.pg g with edges := [] }) from h)
  exact Apart.hkSource hlim (((hout.setReg (hlim.trans (by decide))).bumpSat (hlim.trans (by decide))).setReg (hlim.trans (by decide))).raise

theorem Apart.pgTripAll (h : Apart lim s t) : Apart lim s t.pgTripAll := by
  refine h.foldRange fun u g _ hu => ?_
  have hmarked : Apart lim s (u.setPg g { u.pg g with byFault := true, before := u.reg O.pgState g == 2 }) := hu
  exact Apart.ite hmarked (Apart.pgTrip hlim hmarked)

end

theorem Apart.clkoutShow (h : Apart lim s t) : Apart lim s t.clkoutShow := Apart.ite h (h.setHidden (by decide) (by decide))

theorem Apart.laceBalls (h : Apart lim s t) {mask : Nat} {level : Bool} : Apart lim s (t.laceBalls mask level) :=
  h.foldRange fun _ _ _ hu => Apart.ite hu.emit hu

theorem Apart.laceIdle (h : Apart lim s t) : Apart lim s t.laceIdle := by
  have hballs := h.laceBalls (mask := t.hidden H.laceOut) (level := false)
  have hveto := Apart.ite (p := (t.laceBalls (t.hidden H.laceOut) false).hidden H.laceVeto = 1) (hballs.emit (o := .ball 22 false)) hballs
  refine Apart.setHidden (Apart.setHidden (Apart.setHidden (Apart.setHidden (Apart.setHidden (Apart.setHidden (Apart.setHidden
    (Apart.ite hveto.emit hveto) ?_ ?_) ?_ ?_) ?_ ?_) ?_ ?_) ?_ ?_) ?_ ?_) ?_ ?_ <;> decide

theorem Apart.park (h : Apart lim s t) : Apart lim s t.park := (h.laceIdle.foldl (fun _ _ hu => hu.emit) _).clkoutShow

theorem Apart.unitRetired (h : Apart lim s t) (hlim : lim ≤ 0x100000) : Apart lim s (t.unitRetired pool group unit) := by
  unfold State.unitRetired
  split
  · exact h.setReg (hlim.trans (by decide))
  · exact h.setReg (hlim.trans (by decide))
  · exact h.setReg (hlim.trans (by decide))
  · exact h.setReg (hlim.trans (by decide))
  · exact h

theorem Apart.fitFail (h : Apart lim s t) (hlim : lim ≤ 0x100000) : Apart lim s (t.fitFail reason kind) := by
  unfold State.fitFail
  split
  · exact h
  · next pool group unit _ =>
    have hshown := ((h.setReg (r := O.fitProgress) (v := t.fitPart) (i := 0) (j := 0) (hlim.trans (by decide))).unitRetired hlim (pool := pool)
      (group := group) (unit := unit)).setReg (r := O.fitState) (v := 3) (i := 0) (j := 0) (hlim.trans (by decide))
    have htold := Apart.ite (p := pool = 3 ∧ kind ≠ 0)
      (hshown.raise (e := 0x480 + 17 * group + unit) (d := 6 + 256 * (t.shadows.head?.map (·.pos)).getD 0 + 65536 * kind)) hshown
    exact Apart.ite (p := pool = 6 ∧ reason ≠ 3) htold.raise htold

theorem Apart.safeState (h : Apart lim s (t.setReg O.frSafe 1)) (hlim : lim ≤ 0x100000) : Apart lim s (t.safeState src) := by
  have hparked := (Apart.pgTripAll (hlim.trans (by decide)) h).park
  have hhalted := Apart.dmaAbort (hlim.trans (by decide)) hparked (v := 4) (which := fun _ _ => true)
  unfold State.safeState
  dsimp only
  exact ((hhalted.foldRange fun _ _ _ hu => Apart.streamKill (hlim.trans (by decide)) hu).fitFail hlim).raise

/-! ### Every generator -/

/-- Step 4 on one generator. -/
def State.pgFault (s : State) (g : Nat) : State :=
  let was := s.reg O.pgState g == 2
  let s := s.setPg g { s.pg g with byFault := true, before := was }
  if was then s else s.pgTrip g 0

theorem State.pgFault_tripped : (s.pgFault g).reg O.pgState g = 2 := by
  unfold State.pgFault
  dsimp only
  split
  · next hwas => exact eq_of_beq hwas
  · rw [State.pgTrip_apart.late _ _ _ pgState_late]
    exact State.pgTripShown_tripped.state

theorem State.pgFault_keeps (h : s.reg O.pgState k = 2) : (s.pgFault g).reg O.pgState k = 2 := by
  by_cases hk : k = g
  · exact hk ▸ State.pgFault_tripped
  · unfold State.pgFault
    dsimp only
    split
    · exact h
    · exact (State.pgTrip_others hk).state.trans h

theorem State.pgTripAll_tripped (hg : g < 16) : s.pgTripAll.reg O.pgState g = 2 := by
  have hfold : s.pgTripAll = (List.range 16).foldl State.pgFault s := rfl
  obtain ⟨l1, l2, hl⟩ := List.append_of_mem (List.mem_range.mpr hg)
  rw [hfold, hl, List.foldl_append, List.foldl_cons]
  exact List.foldlRecOn l2 State.pgFault (motive := fun u : State => u.reg O.pgState g = 2) State.pgFault_tripped fun _ hu _ _ => State.pgFault_keeps hu

theorem pgState_key (hg : g < 16) : O.pgState.key g 0 < 0x300000 ∧ O.pgState.key g 0 ≠ mergedKey := by
  have hkey : O.pgState.key g 0 = (0x2D10 + 1 * g) * 256 + (1 + 0 * 0) := rfl
  have hmerged : mergedKey = 0x58005 := rfl
  omega

theorem Apart.pgState (h : Apart 0x300000 s t) (hg : g < 16) : t.reg O.pgState g = s.reg O.pgState g := by
  obtain ⟨-, -, -, hreg, -, -⟩ := h
  exact hreg _ _ _ (pgState_key hg).1 (pgState_key hg).2

/-- The state of a unit being fitted is none of a generator. -/
theorem State.unitRetired_pgState (hg : g < 16) (hgroup : group < 256) (hunit : unit < 256) :
    (s.unitRetired pool group unit).reg O.pgState g = s.reg O.pgState g := by
  have hkey : O.pgState.key g 0 = (0x2D10 + 1 * g) * 256 + (1 + 0 * 0) := rfl
  unfold State.unitRetired
  split
  · refine State.reg_setReg_ne _ _ _ _ _ _ _ _ ?_
    have : O.scState.key group unit = (0x1002 + 0x100 * group) * 256 + (0 + 1 * unit) := rfl
    omega
  · refine State.reg_setReg_ne _ _ _ _ _ _ _ _ ?_
    have : O.bnPhysState.key group unit = (0x2410 + 1 * group) * 256 + (16 + 1 * unit) := rfl
    omega
  · refine State.reg_setReg_ne _ _ _ _ _ _ _ _ ?_
    have : O.ipState.key group unit = (0x2801 + 0x20 * group) * 256 + (16 + 1 * unit) := rfl
    omega
  · refine State.reg_setReg_ne _ _ _ _ _ _ _ _ ?_
    have : O.drPosState.key group unit = (0x3010 + 1 * group) * 256 + (1 + 1 * unit) := rfl
    omega
  · rfl

theorem State.fitting_bounds (h : s.fitting = some (pool, group, unit)) : group < 256 ∧ unit < 256 := by
  unfold State.fitting at h
  split at h
  · injection h with h
    injection h with hpool h
    injection h with hgroup hunit
    exact ⟨hgroup ▸ Nat.mod_lt _ (by decide), hunit ▸ Nat.mod_lt _ (by decide)⟩
  · cases h

theorem State.fitFail_pgState (hg : g < 16) : (s.fitFail reason kind).reg O.pgState g = s.reg O.pgState g := by
  have hraise (u : State) (e d : Nat) : (u.raise e d).reg O.pgState g = u.reg O.pgState g := State.reg_raise_ne _ _ _ _ _ _ (pgState_key hg).2
  have hshown (u : State) {r : Row} (v : Nat) (hr : O.pgState.key g 0 ≠ r.key 0 0) : (u.setReg r v).reg O.pgState g = u.reg O.pgState g :=
    State.reg_setReg_ne _ _ _ _ _ _ _ _ hr
  unfold State.fitFail
  split
  · rfl
  · next pool group unit hfit =>
    obtain ⟨hgroup, hunit⟩ := State.fitting_bounds hfit
    have hretired : (((s.setReg O.fitProgress s.fitPart).unitRetired pool group unit).setReg O.fitState 3).reg O.pgState g = s.reg O.pgState g := by
      rw [hshown _ _ (by simp only [Row.key, O.pgState, O.fitState]; omega), State.unitRetired_pgState hg hgroup hunit,
        hshown _ _ (by simp only [Row.key, O.pgState, O.fitProgress]; omega)]
    dsimp only
    refine Eq.trans ?_ hretired
    generalize ((s.setReg O.fitProgress s.fitPart).unitRetired pool group unit).setReg O.fitState 3 = u
    change (State.reg (if pool = 6 ∧ reason ≠ 3 then _ else _) O.pgState g) = _
    split
    · rw [hraise]
      split
      · exact hraise ..
      · rfl
    · split
      · exact hraise ..
      · rfl

theorem State.safeState_pgState (hg : g < 16) : (s.safeState src).reg O.pgState g = 2 := by
  have hall : Apart 0x300000 ((s.setReg O.frSafe 1).pgTripAll)
      ((((s.setReg O.frSafe 1).pgTripAll.park).dmaAbort 4 (fun _ _ => true)).each 32 State.streamKill) :=
    (Apart.dmaAbort (Nat.le_refl _) Apart.refl.park).foldRange fun _ _ _ hu => Apart.streamKill (Nat.le_refl _) hu
  unfold State.safeState
  dsimp only
  rw [State.reg_raise_ne _ _ _ _ _ _ (pgState_key hg).2, State.fitFail_pgState hg, hall.pgState hg, State.pgTripAll_tripped hg]

theorem State.safeState_told : (s.safeState src).raises.any (fun r => r.event == 0x032) = true := by
  unfold State.safeState
  exact State.any_event_raise ..

/-! ### The timer (R436) -/

theorem State.latched_of (hheld : bit (s.reg O.frFirst) 15 = true) (hsrc : s.reg O.frFirst % 256 = src) : s.latched = some src := by
  unfold State.latched
  rw [hheld, hsrc]
  rfl

/-- A fault of a class that is not correctable stays latched after each step. -/
theorem frTimerExpire_step (hheld : bit (s.reg O.frFirst) 15 = true) (hsrc : s.reg O.frFirst % 256 = src) (hclass : bits (s.reg O.frFirst) 10 9 ≠ 0)
    (hstep : s.reg O.frState + 1 = step) (hle : step ≤ 4)
    (hfirst : ((s.setReg O.frState step).frStep step src).reg O.frFirst = s.reg O.frFirst) :
    exec .frTimerExpire s = .next (((s.setReg O.frState step).frStep step src).raise 0x031 (step + 256 * src)) := by
  have hkept : (((s.setReg O.frState step).frStep step src).raise 0x031 (step + 256 * src)).reg O.frFirst = s.reg O.frFirst :=
    (State.reg_raise_late (by decide)).trans hfirst
  change execFrTimerExpire s = _
  unfold execFrTimerExpire
  rw [State.latched_of hheld hsrc]
  dsimp only
  rw [hstep, if_neg (by omega), hkept, if_neg hclass]

theorem State.isolate_none (hlo : 0x30 ≤ src) (hhi : src ≤ 0x41) : s.isolate src = s := by
  unfold State.isolate
  rw [if_neg (by omega), if_neg (by omega), if_neg (by omega), if_neg (by omega), if_neg (by omega), if_neg (by omega)]

theorem frTimerExpire_isolates (hheld : bit (s.reg O.frFirst) 15 = true) (hsrc : s.reg O.frFirst % 256 = src) (hclass : bits (s.reg O.frFirst) 10 9 ≠ 0)
    (hstate : s.reg O.frState = 1) (hlo : 0x30 ≤ src) (hhi : src ≤ 0x41) :
    ∃ t, exec .frTimerExpire s = .next t ∧ t.reg O.frState = 2 ∧ Effect s t [(0x031, 2 + 256 * src)] [O.frState.key 0 0] [] := by
  have hsame : (s.setReg O.frState 2).frStep 2 src = s.setReg O.frState 2 := State.isolate_none hlo hhi
  have hexec := frTimerExpire_step (step := 2) hheld hsrc hclass (by rw [hstate]) (by decide) (by
    rw [hsame]
    exact State.reg_setReg_ne _ _ _ _ _ _ _ _ (by decide))
  rw [hsame] at hexec
  refine ⟨_, hexec, ?_, (Effect.refl.setReg (by simp)).raise _ _ (by decide)⟩
  rw [State.reg_raise_late (by decide)]
  exact State.reg_setReg_same ..

/-- Step 3 with the admission as it was. -/
theorem State.raise_safeStep (e d : Nat) : ({ s.safeStep.raise e d with adm := s.adm } : State) = (s.setHidden H.safeDue 2).raise e d := by
  rw [State.raise_eq, State.raise_eq]
  rfl

theorem frTimerExpire_safe (hheld : bit (s.reg O.frFirst) 15 = true) (hsrc : s.reg O.frFirst % 256 = src) (hclass : bits (s.reg O.frFirst) 10 9 ≠ 0)
    (hstate : s.reg O.frState = 2) :
    ∃ t, exec .frTimerExpire s = .next t ∧ t.reg O.frState = 3 ∧ t.hidden H.safeDue = 2 ∧
      Effect s { t with adm := s.adm } [(0x031, 3 + 256 * src)] [O.frState.key 0 0] [hkey H.safeDue] := by
  have hexec := frTimerExpire_step (step := 3) hheld hsrc hclass (by rw [hstate]) (by decide) (by
    exact State.reg_setReg_ne s O.frState O.frFirst 3 0 0 0 0 (by decide))
  refine ⟨_, hexec, ?_, ?_, ?_⟩
  · rw [State.reg_raise_late (by decide)]
    exact State.reg_setReg_same s O.frState 3 0 0
  · rw [State.hidden_raise]
    exact State.hidden_setHidden_same (s.setReg O.frState 3) H.safeDue 2 0
  · have hadm := State.raise_safeStep (s := s.setReg O.frState 3) 0x031 (3 + 256 * src)
    exact hadm ▸ ((Effect.refl.setReg (by simp)).setHidden (by simp)).raise _ _ (by decide)

theorem frTimerExpire_parks (hheld : bit (s.reg O.frFirst) 15 = true) (hsrc : s.reg O.frFirst % 256 = src) (hclass : bits (s.reg O.frFirst) 10 9 ≠ 0)
    (hstate : s.reg O.frState = 3) :
    ∃ t, exec .frTimerExpire s = .next t ∧ t.reg O.frState = 4 ∧ t.reg O.frSafe = 1 ∧ (∀ g : Fin 16, t.reg O.pgState g.val = 2) ∧
      t.raises.any (fun r => r.event == 0x032) = true ∧ t.raises.any (fun r => r.event == 0x031) = true := by
  have hall : Apart 0x100000 ((s.setReg O.frState 4).setReg O.frSafe 1) ((s.setReg O.frState 4).safeState src) := Apart.refl.safeState (Nat.le_refl _)
  obtain ⟨-, -, -, hreg, -, -⟩ := hall
  have hexec := frTimerExpire_step (step := 4) hheld hsrc hclass (by rw [hstate]) (Nat.le_refl _) (by
    refine (hreg O.frFirst 0 0 (by decide) (by decide)).trans ?_
    rw [State.reg_setReg_ne _ _ _ _ _ _ _ _ (by decide), State.reg_setReg_ne _ _ _ _ _ _ _ _ (by decide)])
  have hsafe : (s.setReg O.frState 4).frStep 4 src = (s.setReg O.frState 4).safeState src := rfl
  rw [hsafe] at hexec
  refine ⟨_, hexec, ?_, ?_, fun g => ?_, State.any_event_raise_of State.safeState_told, State.any_event_raise _ _ _⟩
  · rw [State.reg_raise_late (by decide)]
    refine (hreg O.frState 0 0 (by decide) (by decide)).trans ?_
    rw [State.reg_setReg_ne _ _ _ _ _ _ _ _ (by decide), State.reg_setReg_same]
  · rw [State.reg_raise_late (by decide)]
    exact (hreg O.frSafe 0 0 (by decide) (by decide)).trans (State.reg_setReg_same ..)
  · rw [State.reg_raise_late (by decide)]
    exact State.safeState_pgState g.isLt

end Sys2Proof.Machine
end

section
/-! SUPPORT. The acknowledgement and the release, and the collector's statement (R438, R439). -/

namespace Sys2Proof.Machine

variable {s t u : State} {n src v : Nat} {m : Master}

/-! ### Acknowledgement (R438) -/

/-- The latch freed. -/
def State.latchFreed (s : State) : State := (s.setReg O.frFirst (s.reg O.frFirst % 0x8000)).setReg O.frState 0

/-- The latch freed and its occurrence released, before the collector latches again. -/
def State.frFreed (s : State) (src : Nat) : State :=
  (if s.latchFreed.faultRaw src then s.latchFreed.setHidden H.acked 1 src else s.latchFreed).setHidden H.held 0 src

theorem State.latchFreed_reg {r : Row} {i j : Nat} (hfirst : r.key i j ≠ O.frFirst.key 0 0) (hstate : r.key i j ≠ O.frState.key 0 0) :
    s.latchFreed.reg r i j = s.reg r i j := by
  unfold State.latchFreed
  rw [State.reg_setReg_ne _ _ _ _ _ _ _ _ hstate, State.reg_setReg_ne _ _ _ _ _ _ _ _ hfirst]

theorem State.frFreed_latch {r : Row} {i j : Nat} : (s.frFreed src).reg r i j = s.latchFreed.reg r i j := by
  unfold State.frFreed
  split <;> rfl

theorem State.latchFreed_raw : s.latchFreed.faultRaw n = s.faultRaw n := by
  unfold State.faultRaw
  rw [State.latchFreed_reg (by simp only [Row.key, O.frRaw, O.frFirst]; omega) (by simp only [Row.key, O.frRaw, O.frState]; omega)]

theorem State.frFreed_raw : (s.frFreed src).faultRaw n = s.faultRaw n := by
  refine Eq.trans ?_ State.latchFreed_raw
  unfold State.faultRaw
  rw [State.frFreed_latch]

theorem State.frFreed_held : (s.frFreed src).hidden H.held src = 0 := by
  unfold State.frFreed
  exact State.hidden_setHidden_same ..

theorem State.frFreed_masked : (s.frFreed src).masked n = s.masked n := by
  unfold State.masked State.frBit
  rw [State.frFreed_latch, State.latchFreed_reg (by simp only [Row.key, O.frMask, O.frFirst]; omega) (by simp only [Row.key, O.frMask, O.frState]; omega)]

theorem State.frFreed_acked (hn : n < 256) (hs : src < 256) :
    (s.frFreed src).hidden H.acked n = if n = src ∧ s.faultRaw src = true then 1 else s.hidden H.acked n := by
  have hfree (u : State) : (u.setHidden H.held 0 src).hidden H.acked n = u.hidden H.acked n :=
    State.hidden_setHidden_ne _ _ _ _ _ _ (by simp only [H.acked, H.held]; omega)
  unfold State.frFreed
  rw [hfree, State.latchFreed_raw]
  by_cases hraw : s.faultRaw src = true
  · rw [if_pos hraw]
    by_cases he : n = src
    · rw [if_pos ⟨he, hraw⟩, he, State.hidden_setHidden_same]
    · rw [if_neg (fun h => he h.1), State.hidden_setHidden_ne _ _ _ _ _ _ (by omega)]
      rfl
  · rw [if_neg hraw, if_neg (fun h => hraw h.2)]
    rfl

/-- No other source waits to latch. -/
theorem State.frFreed_candidates (hs : src < 256)
    (hnone : (List.range 256).all (fun n => n == src || !s.faultRaw n || s.masked n || s.hidden H.acked n != 0) = true) : (s.frFreed src).candidates = [] := by
  unfold State.candidates
  refine List.filter_eq_nil_iff.mpr fun n hmem => ?_
  have hn := List.mem_range.mp hmem
  have hout := List.all_eq_true.mp hnone n hmem
  rw [State.frFreed_raw, State.frFreed_masked, State.frFreed_acked hn hs]
  by_cases he : n = src
  · subst he
    by_cases hraw : s.faultRaw n = true
    · rw [if_pos ⟨rfl, hraw⟩]
      simp
    · simp [hraw]
  · rw [if_neg (fun h => he h.1)]
    simp only [Bool.or_eq_true, beq_iff_eq, he, false_or, Bool.not_eq_true', bne_iff_ne] at hout
    rcases hout with (hraw | hmask) | hack
    · simp [hraw]
    · simp [hmask]
    · simp [hack]

theorem State.frFree_alone (hs : src < 256)
    (hnone : (List.range 256).all (fun n => n == src || !s.faultRaw n || s.masked n || s.hidden H.acked n != 0) = true) : s.frFree src = s.frFreed src := by
  have hrelatch : s.frFree src = (s.frFreed src).relatch := rfl
  rw [hrelatch, State.relatch, State.frFreed_candidates hs hnone]
  rfl

theorem State.frFreed_effect {keys hids : List Nat} (hu : Effect s u [] keys hids) (hfirst : O.frFirst.key 0 0 ∈ keys) (hstate : O.frState.key 0 0 ∈ keys)
    (hheld : hkey H.held src ∈ hids) (hacked : hkey H.acked src ∈ hids) : Effect s (u.frFreed src) [] keys hids :=
  (Effect.ite ((hu.setReg hfirst).setReg hstate |>.setHidden hacked) ((hu.setReg hfirst).setReg hstate)).setHidden hheld

theorem State.frFreed_out : (s.frFreed src).out = s.out := by
  unfold State.frFreed
  split <;> rfl

/-- `FR_OVERFLOW` clear. -/
def State.overflowClear (s : State) : State := s.setReg O.frOverflow 0

theorem State.overflowClear_raw : s.overflowClear.faultRaw n = s.faultRaw n := by
  unfold State.faultRaw State.overflowClear
  rw [State.reg_setReg_ne _ _ _ _ _ _ _ _ (by simp only [Row.key, O.frRaw, O.frOverflow]; omega)]

theorem State.overflowClear_masked : s.overflowClear.masked n = s.masked n := by
  unfold State.masked State.frBit State.overflowClear
  rw [State.reg_setReg_ne _ _ _ _ _ _ _ _ (by simp only [Row.key, O.frMask, O.frOverflow]; omega)]

theorem frAck_exec (howner : Owner s m) (hv : v < 2 ^ 8) (hheld : bit (s.reg O.frFirst) 15 = true) (hsrc : s.reg O.frFirst % 256 = v)
    (hnone : (List.range 256).all (fun n => n == v || !s.faultRaw n || s.masked n || s.hidden H.acked n != 0) = true) :
    exec (.frAck m v) s = .next { s.overflowClear.frFreed v with out := replied s m } := by
  have hclear : (List.range 256).all (fun n => n == v || !s.overflowClear.faultRaw n || s.overflowClear.masked n || s.overflowClear.hidden H.acked n != 0) = true := by
    simp only [State.overflowClear_raw, State.overflowClear_masked]
    exact hnone
  have hact : actFrAck v s = .ok (s.overflowClear.frFreed v) := by
    unfold actFrAck
    rw [State.latched_of hheld hsrc]
    dsimp only
    rw [if_pos rfl, ← State.frFree_alone hv hclear]
    rfl
  have hreplied : replied (s.overflowClear.frFreed v) m = replied s m := replied_congr m State.frFreed_out
  rw [← hreplied]
  exact State.command_ok howner rfl (Nat.lt_trans hv (by decide)) rfl hact

theorem frAck_states (howner : Owner s m) (hv : v < 2 ^ 8) (hheld : bit (s.reg O.frFirst) 15 = true) (hsrc : s.reg O.frFirst % 256 = v)
    (hnone : (List.range 256).all (fun n => n == v || !s.faultRaw n || s.masked n || s.hidden H.acked n != 0) = true) :
    ∃ t, exec (.frAck m v) s = .next t ∧
      t.out = replied s m ∧
      t.reg O.frFirst = s.reg O.frFirst % 0x8000 ∧
      t.reg O.frState = 0 ∧
      t.reg O.frOverflow = 0 ∧
      t.hidden H.held v = 0 ∧
      t.hidden H.acked v = (if s.faultRaw v then 1 else s.hidden H.acked v) ∧
      Effect s { t with out := s.out } [] [O.frFirst.key 0 0, O.frState.key 0 0, O.frOverflow.key 0 0] [hkey H.held v, hkey H.acked v] := by
  have hfirst : s.overflowClear.reg O.frFirst = s.reg O.frFirst := State.reg_setReg_ne _ _ _ _ _ _ _ _ (by decide)
  refine ⟨_, frAck_exec howner hv hheld hsrc hnone, rfl, ?_, ?_, ?_, ?_, ?_, ?_⟩
  · change (s.overflowClear.frFreed v).reg O.frFirst = _
    rw [State.frFreed_latch, State.latchFreed, State.reg_setReg_ne _ _ _ _ _ _ _ _ (by decide), State.reg_setReg_same, hfirst]
  · exact (State.frFreed_latch (src := v)).trans (State.reg_setReg_same ..)
  · refine (State.frFreed_latch (src := v)).trans ((State.latchFreed_reg (by decide) (by decide)).trans (State.reg_setReg_same ..))
  · exact State.frFreed_held
  · refine (State.frFreed_acked hv hv).trans ?_
    rw [State.overflowClear_raw]
    by_cases hraw : s.faultRaw v = true
    · rw [if_pos ⟨rfl, hraw⟩, if_pos hraw]
    · rw [if_neg (fun h => hraw h.2), if_neg hraw]
      rfl
  · have heffect : Effect s (s.overflowClear.frFreed v) [] [O.frFirst.key 0 0, O.frState.key 0 0, O.frOverflow.key 0 0] [hkey H.held v, hkey H.acked v] :=
      State.frFreed_effect (Effect.refl.setReg (by simp)) (by simp) (by simp) (by simp) (by simp)
    exact heffect.withOut s.out

/-! ### Release (R439) -/

theorem State.pgReleaseAll_none (h : (List.range 16).all (fun g => !(s.pg g).byFault) = true) : s.pgReleaseAll = s := by
  have hall (l : List Nat) (hl : ∀ g ∈ l, (s.pg g).byFault = false) :
      l.foldl (fun s g => if (s.pg g).byFault then
        let was := (s.pg g).before
        let s := s.setPg g { s.pg g with byFault := false, before := false }
        if was then s else s.pgRelease g
        else s) s = s := by
    induction l with
    | nil => rfl
    | cons g l ih =>
      rw [List.foldl_cons, if_neg (by rw [hl g List.mem_cons_self]; decide)]
      exact ih fun k hk => hl k (List.mem_cons_of_mem _ hk)
  exact hall _ fun g hg => by simpa using List.all_eq_true.mp h g hg

theorem State.clkoutShow_low (hplan : s.plan O.clkoutSel = 0) (hlow : s.hidden H.clkout = 0) : s.clkoutShow = s := by
  unfold State.clkoutShow
  dsimp only
  rw [hplan, ite_self, if_pos hlow]

theorem frRelease_exec (howner : Owner s m) (hsafe : s.reg O.frSafe ≠ 0)
    (hfatal : (List.range 256).all (fun n => !s.faultRaw n || faultClass n != some 2) = true)
    (hpgs : (List.range 16).all (fun g => !(s.pg g).byFault) = true) (hplan : s.plan O.clkoutSel = 0) (hlow : s.hidden H.clkout = 0) :
    exec (.frRelease m 1) s = .next { (s.setReg O.frSafe 0).raise 0x034 with out := replied s m } := by
  have hnone : (List.range 256).any (fun n => s.faultRaw n && faultClass n == some 2) = false := by
    refine List.any_eq_false.mpr fun n hn => ?_
    have := List.all_eq_true.mp hfatal n hn
    simpa [Bool.or_eq_true, imp_iff_not_or] using this
  have hact : actFrRelease 1 s = .ok ((s.setReg O.frSafe 0).raise 0x034) := by
    unfold actFrRelease onlyOne refuseIf
    rw [if_neg (by decide)]
    dsimp only
    rw [if_neg hsafe, if_neg (by rw [hnone]; decide), State.pgReleaseAll_none (s := s.setReg O.frSafe 0) hpgs,
      State.clkoutShow_low (s := s.setReg O.frSafe 0) hplan hlow]
  have hreplied : replied ((s.setReg O.frSafe 0).raise 0x034) m = replied s m := replied_congr m (by rw [State.out_raise]; rfl)
  rw [← hreplied]
  exact State.command_ok howner rfl (by decide) (by decide) hact

theorem frRelease_states (howner : Owner s m) (hsafe : s.reg O.frSafe ≠ 0)
    (hfatal : (List.range 256).all (fun n => !s.faultRaw n || faultClass n != some 2) = true)
    (hpgs : (List.range 16).all (fun g => !(s.pg g).byFault) = true) (hplan : s.plan O.clkoutSel = 0) (hlow : s.hidden H.clkout = 0) :
    ∃ t, exec (.frRelease m 1) s = .next t ∧ t.out = replied s m ∧ t.reg O.frSafe = 0 ∧
      Effect s { t with out := s.out } [(0x034, 0)] [O.frSafe.key 0 0] [] := by
  refine ⟨_, frRelease_exec howner hsafe hfatal hpgs hplan hlow, rfl, ?_, ?_⟩
  · exact (State.reg_raise_late (by decide)).trans (State.reg_setReg_same ..)
  · have heffect : Effect s ((s.setReg O.frSafe 0).raise 0x034) [(0x034, 0)] [O.frSafe.key 0 0] [] := (Effect.refl.setReg (by simp)).raise _ _ (by decide)
    exact heffect.withOut s.out

/-! ### The statement -/

theorem faultMaskedDrop_states {src : Fin 256} (hmask : s.masked src.val = true) :
    ∃ t, exec (.faultMaskedDrop src) s = .next t ∧ t.hidden H.held src.val = 0 ∧ Effect s t [] [] [hkey H.held src.val] := by
  have hexec : exec (.faultMaskedDrop src) s = .next (s.setHidden H.held 0 src.val) := by
    change execFaultMaskedDrop src s = _
    unfold execFaultMaskedDrop
    rw [if_pos hmask]
  exact ⟨_, hexec, State.hidden_setHidden_same .., Effect.refl.setHidden (by simp)⟩

theorem stewardWatchdog_states :
    ∃ t, exec .stewardWatchdog s = .next t ∧ t.hidden H.drive 0 = 1 ∧ Effect s t [] [] [hkey H.drive, hkey H.driveData] := by
  refine ⟨_, rfl, ?_, Effect.refl.fault (by simp) (by simp)⟩
  unfold State.fault
  rw [State.hidden_setHidden_ne _ _ _ _ _ _ (by decide), State.hidden_setHidden_same]

/-- Settles O46: the rails' changes count and latch through `State.railCounted` and `State.frLatched`, and each step of the ladder
by what it leaves of the collector's objects. -/
theorem faultCollector : Obligations.FaultCollector := by
  unfold Obligations.FaultCollector
  refine ⟨?_, ?_, ?_, ?_, ?_, ?_, ?_, ?_, ?_, ?_, ?_, ?_, ?_, ?_⟩
  · intro s c k hclass hk hp hn hnew _ hdrive hfree hmask hack hnone
    exact (counts_driven hclass hp hn hnew hdrive).latches hclass hk hfree hmask hack hnone (fun h => absurd rfl h)
  · intro s c k hclass hk hp hn hnew _ hdrive hheld hother hmask
    exact (counts_driven hclass hp hn hnew hdrive).overflows hheld hother hmask (fun h => absurd rfl h)
  · intro s c k hclass hk hp hn hnew hout hdrive hheld hfree hmask hack hnone
    exact (counts_outside hclass hp hn hnew hout hdrive hheld).latches hclass hk hfree hmask hack hnone (fun _ => by simp)
  · intro s c k hclass hk hp hn hnew hout hdrive hnone hheld hother hmask
    exact (counts_outside hclass hp hn hnew hout hdrive hnone).overflows hheld hother hmask (fun _ => by simp)
  · intro s c k hclass hp hn _ hsrc hout
    exact faultEnds_states hclass hp hn hsrc (railWrong_of_outside hout)
  · intro s c k hclass hp hn _ hsrc hout hdrive hheld
    exact faultEnds_states hclass hp hn hsrc (by simp [State.railWrong, hout, hp, hn, hdrive, hheld])
  · exact fun s src hmask => faultMaskedDrop_states hmask
  · exact fun s => stewardWatchdog_states
  · exact fun s hnew => ⟨_, rfl, stewardWatchdog_counts hnew, rfl⟩
  · exact fun s src hheld hsrc hclass hstate hlo hhi => frTimerExpire_isolates hheld hsrc hclass hstate hlo hhi
  · exact fun s src hheld hsrc hclass hstate => frTimerExpire_safe hheld hsrc hclass hstate
  · exact fun s src hheld hsrc hclass hstate => frTimerExpire_parks hheld hsrc hclass hstate
  · exact fun s m v howner hv hheld hsrc hnone => frAck_states howner hv hheld hsrc hnone
  · exact fun s m howner hsafe hfatal hpgs hplan hlow => frRelease_states howner hsafe hfatal hpgs hplan hlow

end Sys2Proof.Machine
end

section
/-! SUPPORT. Steps, slews and trims of device time, PPSOUT, and the servo (R302 to R308, R317). -/

namespace Sys2Proof.Machine

variable {s t u : State} {n v src sec : Nat} {off at_ : Int} {set : Option Int} {m : Master} {lim : Nat}

/-! ### Requests -/

/-- A request whose refusal has an effect of its own, by the owner. -/
theorem State.commandHeld_owner {r : Row} {f : State → State × Nat} (h : Owner s m) (hr : r.host = false) (hv : v < 2 ^ r.width)
    (hc : r.checks (v &&& r.mask) = true) : s.commandHeld m r v f = .next ((f s).1.answer m (f s).2) := by
  obtain ⟨hready, hconnected, howns⟩ := h
  have hj : s.judge m r v .ok = .ok s := by
    simp [State.judge, hr, howns, hc, Nat.not_le.mpr hv]
  unfold State.commandHeld
  rw [hready, hconnected, hj]
  rfl

/-- A request that waits for the next tick. -/
def State.stepQueued (s : State) (q : Bool × Int) : State := { s with steps := s.steps ++ [q] }

theorem State.stepRequest_accepted (hrange : s.inRange off = true) (hmax : s.reg O.jumpMax ≠ 0) (hnear : off.natAbs ≤ s.reg O.jumpMax * 65536) :
    s.stepRequest src off set = (s.stepQueued (match set with | some t => (true, t) | none => (false, off)), .accepted) := by
  unfold State.stepRequest
  rw [if_neg (by rw [hrange]; decide), if_neg (by omega)]
  rfl

/-- A request beyond `JUMP_MAX`. -/
def State.stepHeld (s : State) (src : Nat) (off : Int) : State :=
  ((((s.setHidden H.heldOffset (ofI 128 off)).setReg O.tcStepHeld (i64 off)).setReg O.tcStepHeldSrc src).setReg O.tcStepHeldSeq
    ((s.reg O.tcStepHeldSeq + 1) % 2 ^ 32)).raise 0x062 ((s.reg O.tcStepHeldSeq + 1) % 2 ^ 32 + 2 ^ 32 * src)

theorem State.stepRequest_held (hrange : s.inRange off = true) (hfar : s.reg O.jumpMax = 0 ∨ s.reg O.jumpMax * 65536 < off.natAbs) :
    s.stepRequest src off set = (s.stepHeld src off, .held) := by
  unfold State.stepRequest
  rw [if_neg (by rw [hrange]; decide), if_pos (hfar.imp_right fun h => by exact_mod_cast h)]
  rfl

theorem State.inRange_of (hlo : 0 ≤ (s.nowTicks : Int) + off) (hhi : (s.nowTicks : Int) + off < timeTop) : s.inRange off = true := decide_eq_true ⟨hlo, hhi⟩

/-- A time that a TC_SET writes lies in range. -/
theorem State.inRange_set (hhi : at_ < timeTop) (hlo : 0 ≤ at_) : s.inRange (at_ - s.nowTicks) = true := State.inRange_of (by omega) (by omega)

theorem State.timeUnset_of (h : s.reg O.tcValid ≠ 0) : s.timeUnset = false := beq_eq_false_iff_ne.mpr h

theorem State.answer_queued {q : Bool × Int} : (s.stepQueued q).answer m 0 = { s.stepQueued q with out := replied s m } := by
  rw [State.answer_zero]
  exact congrArg (fun o => { s.stepQueued q with out := o }) (replied_congr m rfl)

theorem tcSet_checks (hv : v < 2 ^ 96) (hok : T96.ok v = true) : O.tcSet.checks (v &&& O.tcSet.mask) = true := by
  have hmask : v &&& O.tcSet.mask = v := (Nat.and_two_pow_sub_one_eq_mod v 96).trans (Nat.mod_eq_of_lt hv)
  rw [hmask]
  change (T96.ok v && true) = true
  rw [hok]
  rfl

theorem execTcSet_queued (howner : Owner s m) (hv : v < 2 ^ 96) (hok : T96.ok v = true) (hset : s.reg O.tcValid ≠ 0) (hmax : s.reg O.jumpMax ≠ 0)
    (hnear : (((T96.toTicks v : Nat) : Int) - (s.nowTicks : Nat)).natAbs ≤ s.reg O.jumpMax * 65536) (htop : (T96.toTicks v : Int) < timeTop) :
    exec (.tcSet m v) s = .next { s.stepQueued (true, (T96.toTicks v : Int)) with out := replied s m } := by
  have hchecks : O.tcSet.checks (v &&& O.tcSet.mask) = true := tcSet_checks hv hok
  have hact : tcSetAct v s = (s.stepQueued (true, (T96.toTicks v : Int)), 0) := by
    unfold tcSetAct
    dsimp only
    rw [State.timeUnset_of hset, if_neg (by decide), State.stepRequest_accepted (State.inRange_set htop (Int.natCast_nonneg _)) hmax hnear]
    rfl
  refine (State.commandHeld_owner howner rfl hv hchecks).trans ?_
  rw [hact, State.answer_queued]

theorem execTcStep_queued (howner : Owner s m) (hv : v < 2 ^ 64) (hset : s.reg O.tcValid ≠ 0) (hmax : s.reg O.jumpMax ≠ 0)
    (hnear : (toI 64 v).natAbs ≤ s.reg O.jumpMax * 65536) (hrange : s.inRange (toI 64 v) = true) :
    exec (.tcStep m v) s = .next { s.stepQueued (false, toI 64 v) with out := replied s m } := by
  have hact : tcStepAct v s = (s.stepQueued (false, toI 64 v), 0) := by
    unfold tcStepAct
    dsimp only
    rw [State.timeUnset_of hset, if_neg (by decide), State.stepRequest_accepted hrange hmax hnear]
    rfl
  refine (State.commandHeld_owner howner rfl hv rfl).trans ?_
  rw [hact, State.answer_queued]

theorem State.queued_effect {q : Bool × Int} {o : List Out} : Effect s { ({ s.stepQueued q with out := o } : State) with out := s.out, steps := s.steps } [] [] [] :=
  Effect.refl

/-- A request refused and held (R305). -/
theorem execTcStep_held (hready : s.dictReady = true) (hhost : s.connected .host = true) (howns : s.owns .host = true) (hv : v < 2 ^ 64)
    (hset : s.reg O.tcValid ≠ 0) (hfar : s.reg O.jumpMax = 0 ∨ s.reg O.jumpMax * 65536 < (toI 64 v).natAbs) (hrange : s.inRange (toI 64 v) = true) :
    exec (.tcStep .host v) s = .next ((s.stepHeld 1 (toI 64 v)).answer .host Abort.range) := by
  have hact : tcStepAct v s = (s.stepHeld 1 (toI 64 v), Abort.range) := by
    unfold tcStepAct
    dsimp only
    rw [State.timeUnset_of hset, if_neg (by decide), State.stepRequest_held hrange hfar]
    rfl
  refine (State.commandHeld_owner ⟨hready, hhost, howns⟩ rfl hv rfl).trans ?_
  rw [hact]

/-- The objects of a held request, and of the host's refusal. -/
theorem tcStep_held_states (hready : s.dictReady = true) (hhost : s.connected .host = true) (howns : s.owns .host = true) (hv : v < 2 ^ 64)
    (hset : s.reg O.tcValid ≠ 0) (hfar : s.reg O.jumpMax = 0 ∨ s.reg O.jumpMax * 65536 < (toI 64 v).natAbs) (hrange : s.inRange (toI 64 v) = true) :
    ∃ t, exec (.tcStep .host v) s = .next t ∧
      t.hidden H.heldOffset = ofI 128 (toI 64 v) ∧
      t.reg O.tcStepHeld = i64 (toI 64 v) ∧
      t.reg O.tcStepHeldSrc = 1 ∧
      t.reg O.tcStepHeldSeq = (s.reg O.tcStepHeldSeq + 1) % 2 ^ 32 ∧
      t.reg O.pcieLastAbort = Abort.range ∧
      Effect s t [(0x062, (s.reg O.tcStepHeldSeq + 1) % 2 ^ 32 + 2 ^ 32 * 1), (0x019, Abort.range)]
        [O.tcStepHeld.key 0 0, O.tcStepHeldSrc.key 0 0, O.tcStepHeldSeq.key 0 0, O.pcieLastAbort.key 0 0] [hkey H.heldOffset] := by
  have hanswer : (s.stepHeld 1 (toI 64 v)).answer .host Abort.range = ((s.stepHeld 1 (toI 64 v)).setReg O.pcieLastAbort Abort.range).raise 0x019 Abort.range := by
    unfold State.answer
    dsimp only
    rw [if_neg (by decide)]
  have hkept {r : Row} (habort : r.key 0 0 ≠ O.pcieLastAbort.key 0 0) (hidx : 0x581 ≤ r.idx) :
      (((s.stepHeld 1 (toI 64 v)).setReg O.pcieLastAbort Abort.range).raise 0x019 Abort.range).reg r = (s.stepHeld 1 (toI 64 v)).reg r := by
    rw [State.reg_raise_late hidx, State.reg_setReg_ne _ _ _ _ _ _ _ _ habort]
  refine ⟨_, (execTcStep_held hready hhost howns hv hset hfar hrange).trans (congrArg _ hanswer), ?_, ?_, ?_, ?_, ?_, ?_⟩
  · rw [State.hidden_raise, State.hidden_setReg, State.stepHeld, State.hidden_raise]
    exact State.hidden_setHidden_same s H.heldOffset _ 0
  · rw [hkept (by decide) (by decide), State.stepHeld, State.reg_raise_late (by decide), State.reg_setReg_ne _ _ _ _ _ _ _ _ (by decide),
      State.reg_setReg_ne _ _ _ _ _ _ _ _ (by decide), State.reg_setReg_same]
  · rw [hkept (by decide) (by decide), State.stepHeld, State.reg_raise_late (by decide), State.reg_setReg_ne _ _ _ _ _ _ _ _ (by decide), State.reg_setReg_same]
  · rw [hkept (by decide) (by decide), State.stepHeld, State.reg_raise_late (by decide), State.reg_setReg_same]
  · rw [State.reg_raise_ne _ _ _ _ _ _ (by decide), State.reg_setReg_same]
  · have hheld := ((((Effect.refl (s := s)).setHidden (n := H.heldOffset) (v := ofI 128 (toI 64 v)) (i := 0)
      (hids := [hkey H.heldOffset]) (keys := [O.tcStepHeld.key 0 0, O.tcStepHeldSrc.key 0 0, O.tcStepHeldSeq.key 0 0, O.pcieLastAbort.key 0 0]) (by simp)).setReg
      (r := O.tcStepHeld) (v := i64 (toI 64 v)) (i := 0) (j := 0) (by simp)).setReg (r := O.tcStepHeldSrc) (v := 1) (i := 0) (j := 0) (by simp)).setReg
      (r := O.tcStepHeldSeq) (v := (s.reg O.tcStepHeldSeq + 1) % 2 ^ 32) (i := 0) (j := 0) (by simp)
    exact ((hheld.raise 0x062 ((s.reg O.tcStepHeldSeq + 1) % 2 ^ 32 + 2 ^ 32 * 1) (by decide)).setReg (by simp)).append (by decide)

/-- A request accepted after all (R305). -/
def State.stepTaken (s : State) : State := (s.stepQueued (false, toI 128 (s.hidden H.heldOffset))).clearHold

theorem exec_tcStepAccept (howner : Owner s m) (hv : v < 2 ^ 32) (hheld : s.reg O.tcStepHeldSrc ≠ 0) (hseq : v = s.reg O.tcStepHeldSeq)
    (hrange : s.inRange (toI 128 (s.hidden H.heldOffset)) = true) : exec (.tcStepAccept m v) s = .next { s.stepTaken with out := replied s m } := by
  have hact : actStepAccept v s = .ok s.stepTaken := by
    unfold actStepAccept
    rw [if_neg (fun h => h.elim hheld (fun hne => hne hseq))]
    dsimp only
    rw [if_pos hrange]
    rfl
  have hreplied : replied s.stepTaken m = replied s m := replied_congr m rfl
  rw [← hreplied]
  exact State.command_ok howner rfl hv rfl hact

theorem tcStepAccept_states (howner : Owner s m) (hv : v < 2 ^ 32) (hheld : s.reg O.tcStepHeldSrc ≠ 0) (hseq : v = s.reg O.tcStepHeldSeq)
    (hrange : s.inRange (toI 128 (s.hidden H.heldOffset)) = true) :
    ∃ t, exec (.tcStepAccept m v) s = .next t ∧
      t.out = replied s m ∧
      t.steps = s.steps ++ [(false, toI 128 (s.hidden H.heldOffset))] ∧
      t.reg O.tcStepHeld = 0 ∧
      t.reg O.tcStepHeldSrc = 0 ∧
      Effect s { t with out := s.out, steps := s.steps } [] [O.tcStepHeld.key 0 0, O.tcStepHeldSrc.key 0 0] [hkey H.heldOffset] := by
  have hcleared : Effect s s.clearHold [] [O.tcStepHeld.key 0 0, O.tcStepHeldSrc.key 0 0] [hkey H.heldOffset] :=
    ((Effect.refl.setHidden (by simp)).setReg (by simp)).setReg (by simp)
  have hshown : s.stepTaken.reg O.tcStepHeld = 0 ∧ s.stepTaken.reg O.tcStepHeldSrc = 0 := by
    unfold State.stepTaken State.clearHold
    refine ⟨?_, State.reg_setReg_same ..⟩
    rw [State.reg_setReg_ne _ _ _ _ _ _ _ _ (by decide), State.reg_setReg_same]
  exact ⟨_, exec_tcStepAccept howner hv hheld hseq hrange, rfl, rfl, hshown.1, hshown.2, hcleared⟩

/-! ### The tick that applies them (R304, R307, R409) -/

/-- The machine without what a step may change. -/
def State.offSteps (s : State) : State :=
  { s with tc := 0, steps := [], regs := [], hid := [], raises := [], conv := [], timeline := [], holds := [], pgs := [] }

section
@[simp] theorem State.setReg_offSteps (r : Row) (v i j : Nat) : (s.setReg r v i j).offSteps = s.offSteps := rfl
@[simp] theorem State.setHidden_offSteps (k v i : Nat) : (s.setHidden k v i).offSteps = s.offSteps := rfl
@[simp] theorem State.raise_offSteps (e d : Nat) : (s.raise e d).offSteps = s.offSteps := by
  rw [State.raise_eq]
  rfl
@[simp] theorem State.moveTime_offSteps (c : Nat) : (s.moveTime c).offSteps = s.offSteps := rfl
@[simp] theorem State.pgMoved_offSteps : (s.pgMoved off).offSteps = s.offSteps := rfl
@[simp] theorem State.eachConv_offSteps (f : Conv → Conv) : (s.eachConv f).offSteps = s.offSteps := rfl
end

theorem State.gtSkip_offSteps : (s.gtSkip n).offSteps = s.offSteps := by
  unfold State.gtSkip
  refine List.foldlRecOn _ _ (motive := fun u : State => u.offSteps = s.offSteps) rfl fun u hu k _ => ?_
  dsimp only
  split
  · exact hu
  · rw [State.raise_offSteps]
    exact hu

theorem State.of_offSteps (h : t.offSteps = s.offSteps) : t.up = s.up ∧ t.idx = s.idx ∧
    ({ t with tc := s.tc, steps := s.steps, regs := s.regs, hid := s.hid, raises := s.raises, conv := s.conv, timeline := s.timeline, holds := s.holds,
              pgs := s.pgs } : State) = s := by
  have hup : t.offSteps.up = s.offSteps.up := by rw [h]
  have hidx : t.offSteps.idx = s.offSteps.idx := by rw [h]
  exact ⟨hup, hidx, congrArg (fun u : State => { u with tc := s.tc, steps := s.steps, regs := s.regs, hid := s.hid, raises := s.raises, conv := s.conv,
                                                        timeline := s.timeline, holds := s.holds, pgs := s.pgs }) h⟩

theorem Apart.gtSkip (h : Apart lim s t) (hlim : lim ≤ 0x90000) : Apart lim s (t.gtSkip n) := by
  refine h.foldRange fun u k hk hu => Apart.ite hu ?_
  exact ((hu.setHidden (by decide) (by omega)).bumpSat (hlim.trans (by decide))).raise

/-- An event that waits keeps its data while others are raised. -/
theorem State.any_data_raise_of {e d e' d' : Nat} (he : e' ≠ e) (h : s.raises.any (fun r => r.event == e' && r.data == d') = true) :
    (s.raise e d).raises.any (fun r => r.event == e' && r.data == d') = true := by
  have hmerge (span now : Nat) (l l' : List Raise) (hl : mergeRaise span now e d l = some l') (hany : l.any (fun r => r.event == e' && r.data == d') = true) :
      l'.any (fun r => r.event == e' && r.data == d') = true := by
    induction l generalizing l' with
    | nil => cases hl
    | cons r l ih =>
      unfold mergeRaise at hl
      split at hl
      · next hsame =>
        obtain rfl := Option.some.inj hl
        have hother : (r.event == e') = false := beq_eq_false_iff_ne.mpr (hsame.1 ▸ Ne.symm he)
        rw [List.any_cons, hother, Bool.false_and, Bool.false_or] at hany
        rw [List.any_cons, hany, Bool.or_true]
      · obtain ⟨l'', hl'', rfl⟩ := Option.map_eq_some_iff.mp hl
        rw [List.any_cons, Bool.or_eq_true] at hany ⊢
        exact hany.imp_right (ih _ hl'')
  rw [State.raise_raises]
  unfold pushRaise
  split
  · next hmerged => exact hmerge _ _ _ _ hmerged h
  · obtain ⟨r, hr, hfacts⟩ := List.any_eq_true.mp h
    exact List.any_eq_true.mpr ⟨r, mem_insRaise_of_mem hr, hfacts⟩

theorem State.gtSkip_told {e d : Nat} (he : e ≠ 0x7E7) (h : s.raises.any (fun r => r.event == e && r.data == d) = true) :
    (s.gtSkip n).raises.any (fun r => r.event == e && r.data == d) = true := by
  unfold State.gtSkip
  refine List.foldlRecOn _ _ (motive := fun u : State => u.raises.any (fun r => r.event == e && r.data == d) = true) h fun u hu k _ => ?_
  dsimp only
  split
  · exact hu
  · exact State.any_data_raise_of he hu

/-- Device time moved by a step, and the objects that show it. -/
def State.stepMoved (s : State) (off : Int) : State :=
  (((({ s with steps := [] } : State).moveTime ((s.tc : Int) + off * 2 ^ 48).toNat).pgMoved off).clearHold)

def State.lastStepShown (s : State) (off : Int) : State := ((s.stepMoved off).setReg O.tcLastStep (i64 off)).setReg O.tcLastStepT96 (s.stepMoved off).now

def State.stepTold (s : State) (off : Int) : State := ((s.lastStepShown off).markBlocks 8).raise 0x061 (i64 off)

def State.stepApplied (s : State) (off : Int) : State := (s.stepTold off).gtSkip (s.lastStepShown off).nowTicks

theorem exec_tcStepApply (hsteps : s.steps ≠ []) (hoff : s.steps.foldl (fun a q => a + stepOffset s.nowTicks q) 0 = off) (hrange : s.inRange off = true) :
    exec .tcStepApply s = .next (s.stepApplied off) := by
  change execTcStepApply s = _
  unfold execTcStepApply
  split
  · next hnone => exact absurd hnone hsteps
  · dsimp only
    rw [hoff, hrange, if_pos rfl]
    rfl

theorem State.stepTold_offSteps : (s.stepTold off).offSteps = s.offSteps := by
  have hcleared (u : State) : u.clearHold.offSteps = u.offSteps := rfl
  have hmarked (u : State) : (u.markBlocks 8).offSteps = u.offSteps := rfl
  unfold State.stepTold State.lastStepShown State.stepMoved
  rw [State.raise_offSteps, hmarked, State.setReg_offSteps, State.setReg_offSteps, hcleared, State.pgMoved_offSteps, State.moveTime_offSteps]
  rfl

theorem State.stepApplied_offSteps : (s.stepApplied off).offSteps = s.offSteps := State.gtSkip_offSteps.trans State.stepTold_offSteps

theorem State.stepApplied_apart : Apart 0x90000 (s.stepTold off) (s.stepApplied off) := Apart.refl.gtSkip (Nat.le_refl _)

theorem Apart.time (h : Apart lim s t) : t.tc = s.tc ∧ t.steps = s.steps := by
  obtain ⟨hframe, -, -, -, -, -⟩ := h
  exact ⟨congrArg (fun x => x.1) hframe, congrArg (fun x => x.2.2.2.1) hframe⟩

theorem State.stepMoved_time : (s.stepMoved off).tc = ((s.tc : Int) + off * 2 ^ 48).toNat ∧ (s.stepMoved off).steps = [] := by
  have hmove (u : State) (c : Nat) : ((u.moveTime c).pgMoved off).clearHold.tc = c ∧ ((u.moveTime c).pgMoved off).clearHold.steps = u.steps := ⟨rfl, rfl⟩
  exact hmove _ _

theorem State.stepTold_time : (s.stepTold off).tc = ((s.tc : Int) + off * 2 ^ 48).toNat ∧ (s.stepTold off).steps = [] := by
  have hset (u : State) (r : Row) (w : Nat) : (u.setReg r w).tc = u.tc ∧ (u.setReg r w).steps = u.steps := ⟨rfl, rfl⟩
  have hmarked (u : State) : (u.markBlocks 8).tc = u.tc ∧ (u.markBlocks 8).steps = u.steps := ⟨rfl, rfl⟩
  unfold State.stepTold State.lastStepShown
  rw [State.raise_tc, State.raise_steps, (hmarked _).1, (hmarked _).2, (hset _ _ _).1, (hset _ _ _).2, (hset _ _ _).1, (hset _ _ _).2]
  exact State.stepMoved_time

theorem State.stepApplied_time : (s.stepApplied off).tc = ((s.tc : Int) + off * 2 ^ 48).toNat ∧ (s.stepApplied off).steps = [] := by
  obtain ⟨htc, hsteps⟩ := (State.stepApplied_apart (s := s) (off := off)).time
  rw [htc, hsteps]
  exact State.stepTold_time

theorem State.stepApplied_shown : (s.stepApplied off).reg O.tcLastStep = i64 off := by
  have hmarked (u : State) : (u.markBlocks 8).reg O.tcLastStep = u.reg O.tcLastStep := rfl
  obtain ⟨-, -, -, hreg, -, -⟩ := State.stepApplied_apart (s := s) (off := off)
  rw [hreg O.tcLastStep 0 0 (by decide) (by decide), State.stepTold, State.reg_raise_late (by decide), hmarked, State.lastStepShown,
    State.reg_setReg_ne _ _ _ _ _ _ _ _ (by decide), State.reg_setReg_same]

theorem State.stepApplied_told : (s.stepApplied off).raises.any (fun r => r.event == 0x061 && r.data == i64 off) = true :=
  State.gtSkip_told (by decide) (State.any_data_raise ..)

theorem stepOffset_set (now : Nat) (t : Int) : stepOffset now (true, t) = t - now := rfl

theorem stepOffset_by (now : Nat) (o : Int) : stepOffset now (false, o) = o := rfl

/-- One request that waits is applied: the machine's time is all that the tick goes by. -/
theorem thenDoes_stepApply {q : Bool × Int} (hsteps : t.steps = [q]) (htc : t.tc = s.tc) (hoff : stepOffset s.nowTicks q = off) (hrange : s.inRange off = true) :
    t.thenDoes .tcStepApply (fun u => (u.steps, u.tc)) = some ([], ((s.tc : Int) + off * 2 ^ 48).toNat) := by
  have hnow : t.nowTicks = s.nowTicks := by
    unfold State.nowTicks
    rw [htc]
  have hin : t.inRange off = true := by
    unfold State.inRange at hrange ⊢
    rw [hnow]
    exact hrange
  have hexec := exec_tcStepApply (s := t) (by rw [hsteps]; exact List.cons_ne_nil _ _)
    (by rw [hsteps, List.foldl_cons, List.foldl_nil, Int.zero_add, hnow, hoff]) hin
  rw [State.thenDoes_of_exec _ hexec, State.stepApplied_time.1, State.stepApplied_time.2, htc]

end Sys2Proof.Machine
end

section
/-! SUPPORT. The first setting of device time, slews and trims, PPSOUT, the servo, and the statement of time steps. -/

namespace Sys2Proof.Machine

variable {s t u : State} {n v sec : Nat} {ticks off : Int} {m : Master}

/-! ### The first setting (R306) -/

/-- Device time set, before general timers leave the due times that it passes. -/
def State.setFirst (s : State) (ticks : Int) : State :=
  (((s.markUntil 0x200).moveTime (ticks.toNat * 2 ^ 48)).pgMoved (ticks - s.nowTicks)).setReg O.tcValid 1

def State.gtPassed (s : State) : State :=
  (List.range 8).foldl (fun s t => s.setHidden H.gtServed (max (s.hidden H.gtServed t) (s.nowTicks - 1)) t) s

theorem State.firstSet_eq : s.firstSet ticks = (s.setFirst ticks).gtPassed.raise 0x060 ((s.setFirst ticks).gtPassed.now >>> 48) := rfl

theorem State.gtPassed_kept : s.gtPassed.offSteps = s.offSteps ∧ s.gtPassed.tc = s.tc ∧ s.gtPassed.regs = s.regs :=
  List.foldlRecOn _ _ (motive := fun u : State => u.offSteps = s.offSteps ∧ u.tc = s.tc ∧ u.regs = s.regs) ⟨rfl, rfl, rfl⟩ fun _ hu _ _ => hu

theorem State.setFirst_offSteps : (s.setFirst ticks).offSteps = s.offSteps := by
  have hmarked : (s.markUntil 0x200).offSteps = s.offSteps := rfl
  unfold State.setFirst
  rw [State.setReg_offSteps, State.pgMoved_offSteps, State.moveTime_offSteps, hmarked]

theorem State.firstSet_offSteps : (s.firstSet ticks).offSteps = s.offSteps := by
  rw [State.firstSet_eq, State.raise_offSteps, State.gtPassed_kept.1, State.setFirst_offSteps]

theorem State.firstSet_time : (s.firstSet ticks).tc = ticks.toNat * 2 ^ 48 := by
  have hset (w : State) (c : Nat) (o : Int) : (((w.moveTime c).pgMoved o).setReg O.tcValid 1).tc = c := rfl
  rw [State.firstSet_eq, State.raise_tc, State.gtPassed_kept.2.1]
  exact hset _ _ _

theorem State.firstSet_steps : (s.firstSet ticks).steps = s.steps := by
  have hpassed (w : State) : w.gtPassed.steps = w.steps := List.foldlRecOn _ _ (motive := fun u : State => u.steps = w.steps) rfl fun _ hu _ _ => hu
  have hset (w : State) (c : Nat) (o : Int) : (((w.moveTime c).pgMoved o).setReg O.tcValid 1).steps = w.steps := rfl
  have hmarked : (s.markUntil 0x200).steps = s.steps := rfl
  rw [State.firstSet_eq, State.raise_steps, hpassed, State.setFirst, hset, hmarked]

theorem State.firstSet_valid : (s.firstSet ticks).reg O.tcValid = 1 := by
  have hpassed (w : State) : w.gtPassed.reg O.tcValid = w.reg O.tcValid := by
    unfold State.reg
    rw [State.gtPassed_kept.2.2]
  rw [State.firstSet_eq, State.reg_raise_late (by decide), hpassed, State.setFirst, State.reg_setReg_same]

theorem execTcSet_first (howner : Owner s m) (hv : v < 2 ^ 96) (hok : T96.ok v = true) (hunset : s.reg O.tcValid = 0) :
    exec (.tcSet m v) s = .next { s.firstSet (T96.toTicks v : Int) with out := replied s m } := by
  have hact : tcSetAct v s = (s.firstSet (T96.toTicks v : Int), 0) := by
    have htime : s.timeUnset = true := beq_iff_eq.mpr hunset
    unfold tcSetAct
    dsimp only
    rw [htime, if_pos rfl]
  have hview : (s.firstSet (T96.toTicks v : Int)).offSteps.out = s.offSteps.out := by rw [State.firstSet_offSteps]
  have hout : (s.firstSet (T96.toTicks v : Int)).out = s.out := hview
  have hanswer : (s.firstSet (T96.toTicks v : Int)).answer m 0 = { s.firstSet (T96.toTicks v : Int) with out := replied s m } := by
    rw [State.answer_zero, replied_congr m hout]
  refine (State.commandHeld_owner howner rfl hv (tcSet_checks hv hok)).trans ?_
  rw [hact]
  exact congrArg _ hanswer

theorem tcSet_first_states (howner : Owner s m) (hv : v < 2 ^ 96) (hok : T96.ok v = true) (hunset : s.reg O.tcValid = 0) :
    ∃ t, exec (.tcSet m v) s = .next t ∧
      t.out = replied s m ∧
      t.tc = T96.toTicks v * 2 ^ 48 ∧
      t.reg O.tcValid = 1 ∧
      t.raises.any (fun r => r.event == 0x060) = true ∧
      t.up = s.up ∧
      t.idx = s.idx ∧
      ({ t with out := s.out, tc := s.tc, regs := s.regs, hid := s.hid, raises := s.raises, conv := s.conv, timeline := s.timeline, holds := s.holds,
                pgs := s.pgs } : State) = s := by
  have hexec := execTcSet_first howner hv hok hunset
  have htime := State.firstSet_time (s := s) (ticks := (T96.toTicks v : Int))
  have hsteps := State.firstSet_steps (s := s) (ticks := (T96.toTicks v : Int))
  have hvalid := State.firstSet_valid (s := s) (ticks := (T96.toTicks v : Int))
  have htold : (s.firstSet (T96.toTicks v : Int)).raises.any (fun r => r.event == 0x060) = true := State.any_event_raise ..
  obtain ⟨hup, hidx, hrest⟩ := State.of_offSteps (State.firstSet_offSteps (s := s) (ticks := (T96.toTicks v : Int)))
  rw [Int.toNat_natCast] at htime
  generalize s.firstSet (T96.toTicks v : Int) = u at hexec htime hsteps hvalid htold hup hidx hrest
  refine ⟨_, hexec, rfl, htime, hvalid, htold, hup, hidx, ?_⟩
  rw [← hsteps] at hrest
  exact congrArg (fun w : State => { w with out := s.out }) hrest

/-! ### Slews and trims (R302, R303) -/

/-- The remainder of a slew is set, and its end told. -/
def State.slewSet (s : State) (v : Int) : State := if s.slewLeft ≠ 0 ∧ v = 0 then (s.setSlew v).raise 0x063 0 else s.setSlew v

theorem State.setSlew_left {v : Int} (hlo : -2 ^ 127 ≤ v) (hhi : v < 2 ^ 127) : (s.setSlew v).slewLeft = v := by
  unfold State.slewLeft State.setSlew
  rw [State.hidden_setReg, State.hidden_setHidden_same]
  exact toI_ofI_128 hlo hhi

theorem State.slewLeft_raise (e d : Nat) : (s.raise e d).slewLeft = s.slewLeft := by
  unfold State.slewLeft
  rw [State.hidden_raise]

theorem tcSlew_states (howner : Owner s m) (hv : v < 2 ^ 64) (hc : O.tcSlew.checks (v &&& O.tcSlew.mask) = true) (hservo : s.plan O.tcServo ≠ 0)
    (hnear : (s.slewLeft + toI 64 v * 2 ^ 48).natAbs ≤ T96.second * 2 ^ 48) :
    ∃ t, exec (.tcSlew m v) s = .next t ∧
      t.out = replied s m ∧
      t.slewLeft = s.slewLeft + toI 64 v * 2 ^ 48 ∧
      Effect s { t with out := s.out } (if s.slewLeft ≠ 0 ∧ s.slewLeft + toI 64 v * 2 ^ 48 = 0 then [(0x063, 0)] else []) [O.tcSlewRemain.key 0 0] [hkey H.slew] := by
  have hact : actSlew v s = .ok (s.slewSet (s.slewLeft + toI 64 v * 2 ^ 48)) := by
    unfold actSlew
    rw [if_neg hservo]
    dsimp only
    rw [if_pos hnear]
    rfl
  have hsecond : T96.second * 2 ^ 48 < 2 ^ 127 := by decide
  have hset : Effect s (s.setSlew (s.slewLeft + toI 64 v * 2 ^ 48)) [] [O.tcSlewRemain.key 0 0] [hkey H.slew] := (Effect.refl.setHidden (by simp)).setReg (by simp)
  have hleft := State.setSlew_left (s := s) (v := s.slewLeft + toI 64 v * 2 ^ 48) (by omega) (by omega)
  generalize s.slewLeft + toI 64 v * 2 ^ 48 = w at hact hset hleft ⊢
  have hshown : (s.slewSet w).slewLeft = w ∧ (s.slewSet w).out = s.out ∧
      Effect s (s.slewSet w) (if s.slewLeft ≠ 0 ∧ w = 0 then [(0x063, 0)] else []) [O.tcSlewRemain.key 0 0] [hkey H.slew] := by
    unfold State.slewSet
    split
    · exact ⟨(State.slewLeft_raise ..).trans hleft, State.out_raise .., hset.raise _ _ (by decide)⟩
    · exact ⟨hleft, rfl, hset⟩
  obtain ⟨hremains, hout, heffect⟩ := hshown
  have hexec := State.command_ok howner (r := O.tcSlew) rfl hv hc hact
  rw [replied_congr m hout] at hexec
  exact ⟨_, hexec, rfl, hremains, heffect.withOut s.out⟩

theorem tcFreqAdj_states (howner : Owner s m) (hv : v < 2 ^ 64) (hc : O.tcFreqAdj.checks (v &&& O.tcFreqAdj.mask) = true) (hservo : s.plan O.tcServo ≠ 0) :
    ∃ t, exec (.tcFreqAdjWrite m v) s = .next t ∧
      t.out = replied s m ∧
      t.reg O.tcFreqAdj = v ∧
      Effect s { t with out := s.out } [] [O.tcFreqAdj.key 0 0] [] := by
  have hact : actFreqAdj v s = .ok (s.setReg O.tcFreqAdj v) := if_neg hservo
  have hreplied : replied (s.setReg O.tcFreqAdj v) m = replied s m := replied_congr m rfl
  have hexec := State.command_ok howner (r := O.tcFreqAdj) rfl hv hc hact
  rw [hreplied] at hexec
  exact ⟨_, hexec, rfl, State.reg_setReg_same .., Effect.refl.setReg (by simp)⟩

/-! ### The tick that ends a slew -/

theorem State.slewOffset_all (h : s.slewLeft.natAbs ≤ s.slewMax) : s.slewOffset = s.slewLeft := by
  unfold State.slewOffset
  dsimp only
  split <;> omega

theorem State.ticked_moved : s.ticked.tc = ((s.tc : Int) + s.tickAdd s.slewOffset).toNat ∧ s.ticked.steps = s.steps := by
  obtain ⟨hrest, -, -, -⟩ := State.ticked_effect s
  rw [hrest]
  exact ⟨rfl, rfl⟩

theorem Apart.slewLeft {lim : Nat} (h : Apart lim s t) : t.slewLeft = s.slewLeft := by
  obtain ⟨-, -, hhid, -, -, -⟩ := h
  unfold State.slewLeft
  rw [hhid H.slew (by decide)]

theorem tcSlewDone_states (hboot : s.hidden H.boot ≠ 0) (hleft : s.slewLeft ≠ 0) (hall : s.slewLeft.natAbs ≤ s.slewMax) (hadd : 0 ≤ s.tickAdd s.slewLeft) :
    ∃ t, exec .tcSlewDone s = .next t ∧
      t.slewLeft = 0 ∧
      t.tc = s.tc + (s.tickAdd s.slewLeft).toNat ∧
      t.raises.any (fun r => r.event == 0x063) = true ∧
      t.steps = s.steps := by
  have hoff := State.slewOffset_all hall
  have htick : tick s = s.ticked.raise 0x063 0 := by
    rw [tick_eq hboot, hoff, if_pos ⟨hleft, Int.sub_self _⟩]
  have hexec : exec .tcSlewDone s = .next (s.ticked.raise 0x063 0).chansTick := by
    change execTcSlewDone s = _
    unfold execTcSlewDone
    rw [if_pos ⟨hleft, hall⟩, htick]
  have hapart : Apart 0x90000 (s.ticked.raise 0x063 0) (s.ticked.raise 0x063 0).chansTick := Apart.chansTick (Nat.le_refl _) Apart.refl
  have htold := State.any_event_raise s.ticked 0x063 0
  have hended : (s.ticked.raise 0x063 0).slewLeft = 0 := by
    rw [State.slewLeft_raise, State.ticked_slewLeft, hoff, Int.sub_self]
  obtain ⟨htc, hsteps⟩ := hapart.time
  have hslew := hapart.slewLeft
  obtain ⟨-, -, -, -, hraises, -⟩ := hapart
  refine ⟨_, hexec, hslew.trans hended, ?_, hraises _ htold, ?_⟩
  · rw [htc, State.raise_tc, State.ticked_moved.1, hoff]
    omega
  · rw [hsteps, State.raise_steps, State.ticked_moved.2]

/-! ### PPSOUT and the servo (R308, R317) -/

theorem ppsoutPulse_states (hsecond : s.wholeSecond = some sec) (hen : s.plan O.ppsoutEn = 1) (hsafe : s.reg O.frSafe = 0) (hfirst : s.hidden H.ppsOut = 0) :
    ∃ t, exec .ppsoutPulse s = .next t ∧
      t.out = .pulse 16 (T96.ofTicks sec) (s.plan O.ppsoutWidth) :: s.out ∧
      t.hidden H.ppsOut = sec + 1 ∧
      Effect s { t with out := s.out } [] [] [hkey H.ppsOut] := by
  have hexec : exec .ppsoutPulse s = .next ((s.setHidden H.ppsOut (sec + 1)).emit (.pulse 16 (T96.ofTicks sec) (s.plan O.ppsoutWidth))) := by
    have hdef : execPpsoutPulse = execPpsoutPulse := rfl
    conv at hdef => rhs; delta execPpsoutPulse
    have hrun := congrFun hdef s
    rw [hsecond] at hrun
    exact hrun.trans (if_pos ⟨hen, hsafe, by rw [hfirst]; rfl⟩)
  generalize T96.ofTicks sec = at_ at hexec ⊢
  have hshown : (s.setHidden H.ppsOut (sec + 1)).hidden H.ppsOut = sec + 1 := State.hidden_setHidden_same ..
  have heffect : Effect s (s.setHidden H.ppsOut (sec + 1)) [] [] [hkey H.ppsOut] := Effect.refl.setHidden (by simp)
  exact ⟨_, hexec, rfl, hshown, heffect⟩

theorem servoHoldover_states (hservo : s.plan O.tcServo = 0) (hstate : s.reg O.servoState = 3) :
    ∃ t, exec .servoHoldoverTimeout s = .next t ∧
      t.reg O.servoState = 4 ∧
      Effect s t [(0x064, 4 + 16 * 3)] [O.servoState.key 0 0] [hkey H.servoGood] := by
  have hkept : (s.setHidden H.servoGood 0).reg O.servoState = 3 := hstate
  have hset : (s.setHidden H.servoGood 0).setServo 4 = ((s.setHidden H.servoGood 0).setReg O.servoState 4).raise 0x064 (4 + 16 * 3) := by
    unfold State.setServo
    dsimp only
    rw [hkept, if_neg (by decide)]
  have hexec : exec .servoHoldoverTimeout s = .next (((s.setHidden H.servoGood 0).setReg O.servoState 4).raise 0x064 (4 + 16 * 3)) := by
    change execServoHoldoverTimeout s = _
    unfold execServoHoldoverTimeout
    rw [if_pos ⟨hservo, .inr hstate⟩, hset]
  refine ⟨_, hexec, ?_, ((Effect.refl.setHidden (by simp)).setReg (by simp)).raise _ _ (by decide)⟩
  rw [State.reg_raise_late (by decide), State.reg_setReg_same]

/-! ### The statement -/

theorem tcStepApply_states (hsteps : s.steps ≠ []) (hrange : s.inRange (s.steps.foldl (fun a q => a + stepOffset s.nowTicks q) 0) = true) :
    ∃ t, exec .tcStepApply s = .next t ∧
      t.steps = [] ∧
      t.tc = ((s.tc : Int) + (s.steps.foldl (fun a q => a + stepOffset s.nowTicks q) 0) * 2 ^ 48).toNat ∧
      t.reg O.tcLastStep = i64 (s.steps.foldl (fun a q => a + stepOffset s.nowTicks q) 0) ∧
      t.raises.any (fun r => r.event == 0x061 && r.data == (i64 (s.steps.foldl (fun a q => a + stepOffset s.nowTicks q) 0))) = true ∧
      t.up = s.up ∧
      t.idx = s.idx ∧
      ({ t with tc := s.tc, steps := s.steps, regs := s.regs, hid := s.hid, raises := s.raises, conv := s.conv, timeline := s.timeline, holds := s.holds,
                pgs := s.pgs } : State) = s := by
  have hexec := exec_tcStepApply hsteps rfl hrange
  generalize s.steps.foldl (fun a q => a + stepOffset s.nowTicks q) 0 = off at hexec ⊢
  obtain ⟨hup, hidx, hrest⟩ := State.of_offSteps (State.stepApplied_offSteps (s := s) (off := off))
  exact ⟨_, hexec, State.stepApplied_time.2, State.stepApplied_time.1, State.stepApplied_shown, State.stepApplied_told, hup, hidx, hrest⟩

/-- Settles O32: requests judged by `State.stepRequest`, the tick that applies them by `State.stepApplied`, slews by what a tick consumes. -/
theorem timeSteps : Obligations.TimeSteps := by
  unfold Obligations.TimeSteps
  refine ⟨?_, ?_, ?_, ?_, ?_, ?_, ?_, ?_, ?_, ?_, ?_, ?_, ?_, ?_⟩
  · exact fun s m v howner hv hok hunset => tcSet_first_states howner hv hok hunset
  · exact fun s m v howner hv hok hset hmax hnear htop => ⟨_, execTcSet_queued howner hv hok hset hmax hnear htop, rfl, rfl, State.queued_effect⟩
  · intro s m v howner hv hok hset hmax hnone hnear htop
    refine ⟨_, execTcSet_queued howner hv hok hset hmax hnear htop, rfl, ?_, rfl⟩
    have hqueue : s.steps ++ [(true, (T96.toTicks v : Int))] = [(true, (T96.toTicks v : Int))] := by rw [hnone, List.nil_append]
    exact thenDoes_stepApply hqueue rfl (stepOffset_set _ _) (State.inRange_set htop (Int.natCast_nonneg _))
  · exact fun s m v howner hv hset hmax hnear hrange => ⟨_, execTcStep_queued howner hv hset hmax hnear (State.inRange_of hrange.1 hrange.2), rfl, rfl, State.queued_effect⟩
  · intro s m v howner hv hset hmax hnone hnear hrange
    refine ⟨_, execTcStep_queued howner hv hset hmax hnear (State.inRange_of hrange.1 hrange.2), rfl, ?_, rfl⟩
    have hqueue : s.steps ++ [(false, toI 64 v)] = [(false, toI 64 v)] := by rw [hnone, List.nil_append]
    exact thenDoes_stepApply hqueue rfl (stepOffset_by _ _) (State.inRange_of hrange.1 hrange.2)
  · rintro s m v hready hhost howns rfl hv hset hfar hrange
    exact tcStep_held_states hready hhost howns hv hset hfar (State.inRange_of hrange.1 hrange.2)
  · exact fun s m v howner hv hheld hseq hrange => tcStepAccept_states howner hv hheld hseq hrange
  · intro s m v howner hv hheld hseq hnone hrange
    refine ⟨_, exec_tcStepAccept howner hv hheld hseq hrange, rfl, ?_, rfl⟩
    have hqueue : s.steps ++ [(false, toI 128 (s.hidden H.heldOffset))] = [(false, toI 128 (s.hidden H.heldOffset))] := by rw [hnone, List.nil_append]
    exact thenDoes_stepApply hqueue rfl (stepOffset_by _ _) hrange
  · exact fun s hsteps hrange => tcStepApply_states hsteps hrange
  · exact fun s m v howner hv hc hservo hnear => tcSlew_states howner hv hc hservo hnear
  · exact fun s hboot hleft hall hadd => tcSlewDone_states hboot hleft hall hadd
  · exact fun s m v howner hv hc hservo => tcFreqAdj_states howner hv hc hservo
  · exact fun s sec hsecond hen hsafe hfirst => ppsoutPulse_states hsecond hen hsafe hfirst
  · exact fun s hservo hstate => servoHoldover_states hservo hstate

end Sys2Proof.Machine
end

section
/-! SUPPORT. The crystal, PLL-C and PPSIN (R283 to R290). -/

namespace Sys2Proof.Machine

variable {s t u : State} {n v : Nat} {start phase delta : Int} {err : Rat} {within : Bool} {m : Master} {evs : List (Nat × Nat)} {keys hids : List Nat}

theorem State.setPllc_moves {st old : Nat} (hold : s.reg O.pllcState = old) (hne : old ≠ st) :
    s.setPllc st = (s.setReg O.pllcState st).raise 0x040 (st + 16 * old) := by
  unfold State.setPllc
  dsimp only
  rw [hold, if_neg hne]

/-- A change of `PLLC_STATE` and its event. -/
theorem State.setPllc_shown {st old : Nat} (hold : s.reg O.pllcState = old) (hne : old ≠ st) : (s.setPllc st).reg O.pllcState = st := by
  rw [State.setPllc_moves hold hne, State.reg_raise_late (by decide), State.reg_setReg_same]

theorem State.setPllc_kept {st : Nat} {r : Row} (hr : r.key 0 0 ≠ O.pllcState.key 0 0) (hidx : 0x581 ≤ r.idx) : (s.setPllc st).reg r = s.reg r := by
  unfold State.setPllc
  dsimp only
  split
  · rfl
  · rw [State.reg_raise_late hidx, State.reg_setReg_ne _ _ _ _ _ _ _ _ hr]

theorem State.setPllc_hidden {st k i : Nat} : (s.setPllc st).hidden k i = s.hidden k i := by
  unfold State.setPllc
  dsimp only
  split
  · rfl
  · rw [State.hidden_raise, State.hidden_setReg]

theorem Effect.setPllc {st old : Nat} (h : Effect s t evs keys hids) (hold : t.reg O.pllcState = old) (hne : old ≠ st) (hk : O.pllcState.key 0 0 ∈ keys)
    (hspan : SpanFree keys) : Effect s (t.setPllc st) (evs ++ [(0x040, st + 16 * old)]) keys hids := by
  rw [State.setPllc_moves hold hne]
  exact (h.setReg hk).append hspan

/-! ### The crystal (R283) -/

theorem xoComp_states (temp : BitVec 32) :
    ∃ t, exec (.xoCompUpdate temp) s = .next t ∧
      t.reg O.xoTemp = temp.toNat ∧
      t.hidden H.xoAt = s.up ∧
      t.hidden H.xoFrom = toF64 s.xoNow ∧
      t.reg O.xoCorr = toF64 (-(s.xoTc (f32 temp.toNat) / 1000 + (toI 32 (s.reg O.xoAgeRate) : Rat) * (((s.nowTicks : Int) - (T96.toTicks (s.reg O.xoAgeT0) : Nat) : Int) / (tickHz * 86400)) / 1000000)) ∧
      Effect s t [] [O.xoTemp.key 0 0, O.xoCorr.key 0 0] [hkey H.xoFrom, hkey H.xoAt] := by
  have hrate (x : Nat) : (s.setReg O.xoTemp x).reg O.xoAgeRate = s.reg O.xoAgeRate := State.reg_setReg_ne _ _ _ _ _ _ _ _ (by decide)
  have hsince (x : Nat) : (s.setReg O.xoTemp x).reg O.xoAgeT0 = s.reg O.xoAgeT0 := State.reg_setReg_ne _ _ _ _ _ _ _ _ (by decide)
  have hexec : exec (.xoCompUpdate temp) s = .next (((((s.setHidden H.xoFrom (toF64 s.xoNow)).setHidden H.xoAt s.up).setReg O.xoTemp temp.toNat)).setReg O.xoCorr
      (toF64 (-(s.xoTc (f32 temp.toNat) / 1000 + (toI 32 ((s.setReg O.xoTemp temp.toNat).reg O.xoAgeRate) : Rat) *
        (((s.nowTicks : Int) - (T96.toTicks ((s.setReg O.xoTemp temp.toNat).reg O.xoAgeT0) : Nat) : Int) / (tickHz * 86400)) / 1000000)))) := rfl
  rw [hrate, hsince] at hexec
  generalize toF64 (-(s.xoTc (f32 temp.toNat) / 1000 + (toI 32 (s.reg O.xoAgeRate) : Rat) *
    (((s.nowTicks : Int) - (T96.toTicks (s.reg O.xoAgeT0) : Nat) : Int) / (tickHz * 86400)) / 1000000)) = corr at hexec ⊢
  generalize toF64 s.xoNow = from_ at hexec ⊢
  refine ⟨_, hexec, ?_, ?_, ?_, State.reg_setReg_same .., (((Effect.refl.setHidden (by simp)).setHidden (by simp)).setReg (by simp)).setReg (by simp)⟩
  · rw [State.reg_setReg_ne _ _ _ _ _ _ _ _ (by decide), State.reg_setReg_same]
  · rw [State.hidden_setReg, State.hidden_setReg, State.hidden_setHidden_same]
  · rw [State.hidden_setReg, State.hidden_setReg, State.hidden_setHidden_ne _ _ _ _ _ _ (by decide), State.hidden_setHidden_same]

theorem xoAgeRate_states (howner : Owner s m) (hv : v < 2 ^ 32) :
    ∃ t, exec (.xoAgeRateWrite m v) s = .next t ∧
      t.out = replied s m ∧
      t.reg O.xoAgeRate = v ∧
      t.reg O.xoAgeT0 = s.now ∧
      Effect s { t with out := s.out } [] [O.xoAgeRate.key 0 0, O.xoAgeT0.key 0 0] [] := by
  obtain ⟨at_, hnow⟩ : ∃ x, s.now = x := ⟨_, rfl⟩
  have hact : actXoAgeRate v s = .ok ((s.setReg O.xoAgeRate v).setReg O.xoAgeT0 at_) := by
    rw [← hnow]
    rfl
  have hexec := State.command_ok howner (r := O.xoAgeRate) rfl hv rfl hact
  rw [hnow]
  have hreplied : replied ((s.setReg O.xoAgeRate v).setReg O.xoAgeT0 at_) m = replied s m := replied_congr m rfl
  have hrate : ((s.setReg O.xoAgeRate v).setReg O.xoAgeT0 at_).reg O.xoAgeRate = v := by
    rw [State.reg_setReg_ne _ _ _ _ _ _ _ _ (by decide), State.reg_setReg_same]
  rw [hreplied] at hexec
  exact ⟨_, hexec, rfl, hrate, State.reg_setReg_same .., (Effect.refl.setReg (by simp)).setReg (by simp)⟩

/-! ### The lock gate (R285, R287) -/

/-- The error of a gate, in ppb. -/
def State.gateErr (s : State) (start phase : Int) : Rat :=
  ((phase : Rat) - (if s.hidden H.gateBase = 1 then f64 (s.reg O.pllcPhaseErr) else (start : Rat))) / (s.plan O.pllcLockGate : Rat)

/-- The objects that a gate writes. -/
def State.gateShown (s : State) (err : Rat) (phase : Int) (hz : Nat) (within : Bool) : State :=
  ((((s.setReg O.pllcFreqErr (toF64 err)).setReg O.pllcPhaseErr (toF64 phase)).setReg O.pllcRefFreq hz).setHidden H.gateBase 1).setReg O.pllcLocked (b2n within)

def State.gateTold (s : State) (err : Rat) (phase : Int) (hz : Nat) (within : Bool) : State :=
  if s.reg O.pllcLocked = b2n within then s.gateShown err phase hz within
  else (s.gateShown err phase hz within).raise (if within then 0x041 else 0x042) (toF64 err)

/-- What a gate does beyond its objects. -/
def State.gateMoves (s : State) (st : Nat) (within : Bool) (phase delta : Int) : State :=
  if !within then s
  else if st = 1 then s.setPllc 2
  else if st = 5 ∧ phase.natAbs < 50 then s.setPllc 2
  else if st = 6 then (s.setPllc 2).pllcHandOff (s.resolveDelta delta)
  else s

theorem exec_pllcLockGate (refHz : BitVec 64) (h0 : s.reg O.pllcState ≠ 0) (h3 : s.reg O.pllcState ≠ 3) (herr : s.gateErr start phase = err)
    (hwithin : decide (ratAbs err ≤ f32 (s.plan O.pllcLockPpb)) = within) :
    exec (.pllcLockGate start phase delta refHz) s = .next ((s.gateTold err phase refHz.toNat within).gateMoves (s.reg O.pllcState) within phase delta) := by
  have hwas : (((s.setReg O.pllcFreqErr (toF64 err)).setReg O.pllcPhaseErr (toF64 phase)).setReg O.pllcRefFreq refHz.toNat).reg O.pllcLocked = s.reg O.pllcLocked := by
    rw [State.reg_setReg_ne _ _ _ _ _ _ _ _ (by decide), State.reg_setReg_ne _ _ _ _ _ _ _ _ (by decide), State.reg_setReg_ne _ _ _ _ _ _ _ _ (by decide)]
  have hgate : ((phase : Rat) - (if s.hidden H.gateBase = 1 then f64 (s.reg O.pllcPhaseErr) else (start : Rat))) / (s.plan O.pllcLockGate : Rat) = err := herr
  have hplan : (((s.setReg O.pllcFreqErr (toF64 err)).setReg O.pllcPhaseErr (toF64 phase)).setReg O.pllcRefFreq refHz.toNat).plan O.pllcLockPpb = s.plan O.pllcLockPpb := rfl
  change execPllcLockGate start phase delta refHz s = _
  unfold execPllcLockGate
  dsimp only
  rw [if_neg (by omega), hgate, hplan, hwithin, hwas]
  unfold State.gateTold State.gateShown State.gateMoves
  generalize s.reg O.pllcState = st
  split_ifs <;> rfl

end Sys2Proof.Machine
end

section
/-! SUPPORT. What PLL-C's gates, losses and returns leave, and PPSIN (R285 to R290). -/

namespace Sys2Proof.Machine

variable {s t u : State} {n v hz : Nat} {start phase delta measured : Int} {err : Rat} {within : Bool} {m : Master}

/-! ### The objects of a gate -/

abbrev gateKeys : List Nat := [O.pllcFreqErr.key 0 0, O.pllcPhaseErr.key 0 0, O.pllcRefFreq.key 0 0, O.pllcLocked.key 0 0]

theorem State.gateShown_objects : (s.gateShown err phase hz within).reg O.pllcFreqErr = toF64 err ∧ (s.gateShown err phase hz within).reg O.pllcPhaseErr = toF64 phase ∧
    (s.gateShown err phase hz within).reg O.pllcRefFreq = hz ∧ (s.gateShown err phase hz within).reg O.pllcLocked = b2n within := by
  have hhid (w : State) (r : Row) : (w.setHidden H.gateBase 1).reg r = w.reg r := State.reg_setHidden ..
  unfold State.gateShown
  generalize toF64 err = e
  generalize toF64 phase = p
  refine ⟨?_, ?_, ?_, State.reg_setReg_same ..⟩
  · rw [State.reg_setReg_ne _ _ _ _ _ _ _ _ (by decide), hhid, State.reg_setReg_ne _ _ _ _ _ _ _ _ (by decide),
      State.reg_setReg_ne _ _ _ _ _ _ _ _ (by decide), State.reg_setReg_same]
  · rw [State.reg_setReg_ne _ _ _ _ _ _ _ _ (by decide), hhid, State.reg_setReg_ne _ _ _ _ _ _ _ _ (by decide), State.reg_setReg_same]
  · rw [State.reg_setReg_ne _ _ _ _ _ _ _ _ (by decide), hhid, State.reg_setReg_same]

theorem State.gateTold_reg {r : Row} (hr : 0x581 ≤ r.idx) : (s.gateTold err phase hz within).reg r = (s.gateShown err phase hz within).reg r := by
  unfold State.gateTold
  split
  · rfl
  · exact State.reg_raise_late hr

theorem State.gateTold_state : (s.gateTold err phase hz within).reg O.pllcState = s.reg O.pllcState := by
  have hhid (w : State) : (w.setHidden H.gateBase 1).reg O.pllcState = w.reg O.pllcState := State.reg_setHidden ..
  rw [State.gateTold_reg (by decide), State.gateShown, State.reg_setReg_ne _ _ _ _ _ _ _ _ (by decide), hhid, State.reg_setReg_ne _ _ _ _ _ _ _ _ (by decide),
    State.reg_setReg_ne _ _ _ _ _ _ _ _ (by decide), State.reg_setReg_ne _ _ _ _ _ _ _ _ (by decide)]

/-- The event of a gate that finds the loop newly within its window, or newly outside. -/
def State.gateEvents (s : State) (err : Rat) (within : Bool) : List (Nat × Nat) :=
  if s.reg O.pllcLocked = b2n within then [] else [(if within then 0x041 else 0x042, toF64 err)]

theorem State.gateTold_effect {keys : List Nat} (hkeys : ∀ k ∈ gateKeys, k ∈ keys) (hspan : SpanFree keys) :
    Effect s (s.gateTold err phase hz within) (s.gateEvents err within) keys [hkey H.gateBase] := by
  have hshown : Effect s (s.gateShown err phase hz within) [] keys [hkey H.gateBase] :=
    ((((Effect.refl.setReg (hkeys _ (by simp))).setReg (hkeys _ (by simp))).setReg (hkeys _ (by simp))).setHidden (by simp)).setReg (hkeys _ (by simp))
  unfold State.gateTold State.gateEvents
  split
  · exact hshown
  · exact hshown.append hspan

theorem State.gateEvents_eq {window : Rat} : s.gateEvents err (decide (ratAbs err ≤ window)) =
    if s.reg O.pllcLocked = b2n (decide (ratAbs err ≤ window)) then [] else [(if ratAbs err ≤ window then 0x041 else 0x042, toF64 err)] := by
  unfold State.gateEvents
  by_cases h : ratAbs err ≤ window
  · rw [decide_eq_true h, if_pos rfl, if_pos h]
  · rw [decide_eq_false h, if_neg h]
    rfl

/-- A gate under QUALIFY changes no state. -/
theorem pllcLockGate_qualifying (refHz : BitVec 64) (hstate : s.reg O.pllcState = 4) :
    ∃ t, exec (.pllcLockGate start phase delta refHz) s = .next t ∧
      t.reg O.pllcFreqErr = toF64 (s.gateErr start phase) ∧
      t.reg O.pllcPhaseErr = toF64 phase ∧
      t.reg O.pllcRefFreq = refHz.toNat ∧
      t.reg O.pllcLocked = b2n (decide (ratAbs (s.gateErr start phase) ≤ f32 (s.plan O.pllcLockPpb))) ∧
      Effect s t (if s.reg O.pllcLocked = b2n (decide (ratAbs (s.gateErr start phase) ≤ f32 (s.plan O.pllcLockPpb))) then []
        else [(if ratAbs (s.gateErr start phase) ≤ f32 (s.plan O.pllcLockPpb) then 0x041 else 0x042, toF64 (s.gateErr start phase))]) gateKeys [hkey H.gateBase] := by
  have hexec := exec_pllcLockGate (delta := delta) refHz (by omega) (by omega) (rfl : s.gateErr start phase = _) rfl
  have hevents := State.gateEvents_eq (s := s) (err := s.gateErr start phase) (window := f32 (s.plan O.pllcLockPpb))
  rw [← hevents]
  generalize hw : decide (ratAbs (s.gateErr start phase) ≤ f32 (s.plan O.pllcLockPpb)) = within at hexec ⊢
  generalize s.gateErr start phase = err at hexec ⊢
  have hstays : (s.gateTold err phase refHz.toNat within).gateMoves (s.reg O.pllcState) within phase delta = s.gateTold err phase refHz.toNat within := by
    rw [hstate]
    unfold State.gateMoves
    have h5 : ¬ (4 = 5 ∧ phase.natAbs < 50) := fun h => absurd h.1 (by decide)
    rw [if_neg (show ¬ 4 = 1 by decide), if_neg h5, if_neg (show ¬ 4 = 6 by decide), ite_self]
  rw [hstays] at hexec
  obtain ⟨hfreq, hphase, href, hlocked⟩ := State.gateShown_objects (s := s) (err := err) (phase := phase) (hz := refHz.toNat) (within := within)
  refine ⟨_, hexec, (State.gateTold_reg (by decide)).trans hfreq, (State.gateTold_reg (by decide)).trans hphase, (State.gateTold_reg (by decide)).trans href,
    (State.gateTold_reg (by decide)).trans hlocked, State.gateTold_effect (fun _ h => h) (by decide)⟩

/-- A gate within the window under ACQUIRE locks. -/
theorem pllcLockGate_locks (refHz : BitVec 64) (hstate : s.reg O.pllcState = 1) (hin : ratAbs (s.gateErr start phase) ≤ f32 (s.plan O.pllcLockPpb)) :
    ∃ t, exec (.pllcLockGate start phase delta refHz) s = .next t ∧
      t.reg O.pllcFreqErr = toF64 (s.gateErr start phase) ∧
      t.reg O.pllcPhaseErr = toF64 phase ∧
      t.reg O.pllcRefFreq = refHz.toNat ∧
      t.reg O.pllcLocked = 1 ∧
      t.reg O.pllcState = 2 ∧
      Effect s t ((if s.reg O.pllcLocked = 1 then [] else [(0x041, toF64 (s.gateErr start phase))]) ++ [(0x040, 2 + 16 * 1)])
        [O.pllcFreqErr.key 0 0, O.pllcPhaseErr.key 0 0, O.pllcRefFreq.key 0 0, O.pllcLocked.key 0 0, O.pllcState.key 0 0] [hkey H.gateBase] := by
  have hexec := exec_pllcLockGate (delta := delta) refHz (by omega) (by omega) (rfl : s.gateErr start phase = _) (decide_eq_true hin)
  generalize s.gateErr start phase = err at hexec ⊢
  have hmoves : (s.gateTold err phase refHz.toNat true).gateMoves (s.reg O.pllcState) true phase delta = (s.gateTold err phase refHz.toNat true).setPllc 2 := by
    rw [hstate]
    rfl
  rw [hmoves] at hexec
  have hstill : (s.gateTold err phase refHz.toNat true).reg O.pllcState = 1 := State.gateTold_state.trans hstate
  obtain ⟨hfreq, hphase, href, hlocked⟩ := State.gateShown_objects (s := s) (err := err) (phase := phase) (hz := refHz.toNat) (within := true)
  have hkept {r : Row} (hr : r.key 0 0 ≠ O.pllcState.key 0 0) (hidx : 0x581 ≤ r.idx) :
      ((s.gateTold err phase refHz.toNat true).setPllc 2).reg r = (s.gateShown err phase refHz.toNat true).reg r :=
    (State.setPllc_kept hr hidx).trans (State.gateTold_reg hidx)
  refine ⟨_, hexec, (hkept (by decide) (by decide)).trans hfreq, (hkept (by decide) (by decide)).trans hphase, (hkept (by decide) (by decide)).trans href,
    (hkept (by decide) (by decide)).trans hlocked, State.setPllc_shown hstill (by decide), ?_⟩
  exact (State.gateTold_effect (fun k hk => List.mem_append_left [O.pllcState.key 0 0] hk) (by decide)).setPllc hstill (by decide) (by simp) (by decide)

/-! ### Loss and return of the reference (R286, R287) -/

/-- The frozen offset, as HOLDOVER is entered. -/
def State.frozen (s : State) (average : Nat) : State := ((s.setHidden H.handoff 0).setReg O.pllcHoldT96 s.now).setReg O.pllcHoldRatio average

/-- The loss told, and PPSIN's phase kept from a locked loop. -/
def State.refGone (s : State) (cause : Nat) : State :=
  let s := ((s.setHidden H.refPresent 0).setHidden H.gateBase 0).raise 0x043 (cause + 1)
  s.setHidden H.ppsHeld (if s.ppsQualified then 2 ^ 64 + s.hidden H.ppsPhase else 0)

theorem State.refGone_effect {cause : Nat} {keys hids : List Nat} (h0 : hkey H.refPresent ∈ hids) (h1 : hkey H.gateBase ∈ hids) (h2 : hkey H.ppsHeld ∈ hids)
    (hspan : SpanFree keys) : Effect s (s.refGone cause) [(0x043, cause + 1)] keys hids :=
  (((Effect.refl.setHidden h0).setHidden h1).raise _ _ hspan).setHidden h2

theorem State.refGone_state {cause : Nat} : (s.refGone cause).reg O.pllcState = s.reg O.pllcState := by
  unfold State.refGone
  rw [State.reg_setHidden, State.reg_raise_late (by decide)]
  rfl

theorem State.refGone_now {cause : Nat} : (s.refGone cause).now = s.now := by
  have hnow (w x : State) (h : w.tc = x.tc) : w.now = x.now := by
    unfold State.now
    rw [h]
  exact hnow _ _ (State.raise_tc ..)

theorem exec_pllcRefLost (cause : Fin 3) (average : BitVec 64) (hsrc : s.plan O.pllcSrc ≠ 0) (hpresent : s.hidden H.refPresent ≠ 0) (hstate : s.reg O.pllcState = 2) :
    exec (.pllcRefLost cause average) s = .next (((s.refGone cause.val).frozen average.toNat).setPllc 3) := by
  have hdef : execPllcRefLost cause average s = if s.plan O.pllcSrc = 0 ∨ s.hidden H.refPresent = 0 then .next s else
      if s.reg O.pllcState = 2 ∨ s.reg O.pllcState = 4 ∨ s.reg O.pllcState = 5 ∨ s.reg O.pllcState = 6 then
        .next ((State.frozen (if s.reg O.pllcState = 2 then s.refGone cause.val else ((s.setHidden H.refPresent 0).setHidden H.gateBase 0).raise 0x043 (cause.val + 1))
          average.toNat).setPllc 3)
      else .next (if s.reg O.pllcState = 2 then s.refGone cause.val else ((s.setHidden H.refPresent 0).setHidden H.gateBase 0).raise 0x043 (cause.val + 1)) := rfl
  refine hdef.trans ?_
  rw [if_neg (fun h => h.elim hsrc hpresent), hstate, if_pos (.inl rfl), if_pos rfl]

theorem pllcRefLost_states (cause : Fin 3) (average : BitVec 64) (hsrc : s.plan O.pllcSrc ≠ 0) (hpresent : s.hidden H.refPresent ≠ 0) (hstate : s.reg O.pllcState = 2) :
    ∃ t, exec (.pllcRefLost cause average) s = .next t ∧
      t.reg O.pllcState = 3 ∧
      t.reg O.pllcHoldRatio = average.toNat ∧
      t.reg O.pllcHoldT96 = s.now ∧
      t.hidden H.refPresent = 0 ∧
      Effect s t [(0x043, cause.val + 1), (0x040, 3 + 16 * 2)] [O.pllcState.key 0 0, O.pllcHoldRatio.key 0 0, O.pllcHoldT96.key 0 0]
        [hkey H.refPresent, hkey H.handoff, hkey H.gateBase, hkey H.ppsHeld] := by
  have hexec := exec_pllcRefLost cause average hsrc hpresent hstate
  have hnow := State.refGone_now (s := s) (cause := cause.val)
  have hgone : (s.refGone cause.val).hidden H.refPresent = 0 := by
    unfold State.refGone
    rw [State.hidden_setHidden_ne _ _ _ _ _ _ (by decide), State.hidden_raise, State.hidden_setHidden_ne _ _ _ _ _ _ (by decide), State.hidden_setHidden_same]
  have heffect : Effect s (s.refGone cause.val) [(0x043, cause.val + 1)] [O.pllcState.key 0 0, O.pllcHoldRatio.key 0 0, O.pllcHoldT96.key 0 0]
      [hkey H.refPresent, hkey H.handoff, hkey H.gateBase, hkey H.ppsHeld] := State.refGone_effect (by simp) (by simp) (by simp) (by decide)
  have hstill := State.refGone_state (s := s) (cause := cause.val)
  rw [hstate] at hstill
  unfold State.frozen at hexec
  rw [hnow] at hexec
  generalize s.now = at_ at hexec ⊢
  generalize s.refGone cause.val = w at hexec hgone heffect hstill
  have hheld : (((w.setHidden H.handoff 0).setReg O.pllcHoldT96 at_).setReg O.pllcHoldRatio average.toNat).reg O.pllcState = 2 := by
    rw [State.reg_setReg_ne _ _ _ _ _ _ _ _ (by decide), State.reg_setReg_ne _ _ _ _ _ _ _ _ (by decide), State.reg_setHidden, hstill]
  refine ⟨_, hexec, State.setPllc_shown hheld (by decide), ?_, ?_, ?_, ?_⟩
  · rw [State.setPllc_kept (by decide) (by decide), State.reg_setReg_same]
  · rw [State.setPllc_kept (by decide) (by decide), State.reg_setReg_ne _ _ _ _ _ _ _ _ (by decide), State.reg_setReg_same]
  · rw [State.setPllc_hidden, State.hidden_setReg, State.hidden_setReg, State.hidden_setHidden_ne _ _ _ _ _ _ (by decide), hgone]
  · exact (((heffect.setHidden (by simp)).setReg (by simp)).setReg (by simp)).setPllc hheld (by decide) (by simp) (by decide)

theorem State.refNominal_setReg (x : Nat) : (s.setReg O.pllcRefFreq x).refNominal = s.refNominal := by
  have hlink (i : Nat) : (s.setReg O.pllcRefFreq x).reg O.ethLink i = s.reg O.ethLink i :=
    State.reg_setReg_ne _ _ _ _ _ _ _ _ (by simp only [Row.key, O.ethLink, O.pllcRefFreq]; omega)
  have hplan (r : Row) : (s.setReg O.pllcRefFreq x).plan r = s.plan r := rfl
  unfold State.refNominal
  rw [hlink, hlink, hplan, hplan]

theorem exec_pllcRefReturn (refHz : BitVec 64) (hsrc : s.plan O.pllcSrc ≠ 0) (hstate : s.reg O.pllcState = 3)
    (hnear : ratAbs (f64 refHz.toNat - s.refNominal) * 1000000 ≤ f32 (s.plan O.pllcRefWin) * s.refNominal) :
    exec (.pllcRefReturn refHz) s = .next ((s.setReg O.pllcRefFreq refHz.toNat).setHidden H.refPresent 1).qualify := by
  have hkept : ((s.setReg O.pllcRefFreq refHz.toNat).setHidden H.refPresent 1).reg O.pllcState = 3 := by
    rw [State.reg_setHidden, State.reg_setReg_ne _ _ _ _ _ _ _ _ (by decide), hstate]
  have hplan : (s.setReg O.pllcRefFreq refHz.toNat).plan O.pllcRefWin = s.plan O.pllcRefWin := rfl
  change execPllcRefReturn refHz s = _
  unfold execPllcRefReturn
  rw [if_neg hsrc]
  dsimp only
  rw [State.refNominal_setReg, hplan, if_pos hnear, hkept, if_pos rfl]

theorem pllcRefReturn_states (refHz : BitVec 64) (hsrc : s.plan O.pllcSrc ≠ 0) (hstate : s.reg O.pllcState = 3)
    (hnear : ratAbs (f64 refHz.toNat - s.refNominal) * 1000000 ≤ f32 (s.plan O.pllcRefWin) * s.refNominal) :
    ∃ t, exec (.pllcRefReturn refHz) s = .next t ∧
      t.reg O.pllcState = 4 ∧
      t.reg O.pllcRefFreq = refHz.toNat ∧
      t.hidden H.refPresent = 1 ∧
      t.hidden H.qualHeld = 1 ∧
      t.hidden H.gateBase = 0 ∧
      Effect s t [(0x040, 4 + 16 * 3)] [O.pllcState.key 0 0, O.pllcRefFreq.key 0 0] [hkey H.refPresent, hkey H.qualHeld, hkey H.gateBase] := by
  have hback : ((s.setReg O.pllcRefFreq refHz.toNat).setHidden H.refPresent 1).reg O.pllcState = 3 := by
    rw [State.reg_setHidden, State.reg_setReg_ne _ _ _ _ _ _ _ _ (by decide), hstate]
  have hheld : ((s.setReg O.pllcRefFreq refHz.toNat).setHidden H.refPresent 1).outHeld = true := by
    unfold State.outHeld
    rw [hback]
    rfl
  have hexec := exec_pllcRefReturn refHz hsrc hstate hnear
  unfold State.qualify at hexec
  rw [hheld] at hexec
  refine ⟨_, hexec, State.setPllc_shown (old := 3) hback (by decide), ?_, ?_, ?_, ?_, ?_⟩
  · rw [State.setPllc_kept (by decide) (by decide), State.reg_setHidden, State.reg_setHidden, State.reg_setHidden, State.reg_setReg_same]
  · rw [State.setPllc_hidden, State.hidden_setHidden_ne _ _ _ _ _ _ (by decide), State.hidden_setHidden_ne _ _ _ _ _ _ (by decide), State.hidden_setHidden_same]
  · rw [State.setPllc_hidden, State.hidden_setHidden_ne _ _ _ _ _ _ (by decide), State.hidden_setHidden_same]
    rfl
  · rw [State.setPllc_hidden, State.hidden_setHidden_same]
  · exact Effect.setPllc (evs := []) ((((Effect.refl.setReg (by simp)).setHidden (by simp)).setHidden (by simp)).setHidden (by simp)) hback (by decide) (by simp) (by decide)

/-! ### The qualified source (R289) -/

/-- The source is qualified: the output is held no longer. -/
def State.qualified (s : State) : State := (s.setHidden H.refPresent 1).setHidden H.gateBase 1

theorem State.qualified_new (hnew : s.hidden H.newSource ≠ 1) : s.qualified.hidden H.newSource ≠ 1 := by
  unfold State.qualified
  rw [State.hidden_setHidden_ne _ _ _ _ _ _ (by decide), State.hidden_setHidden_ne _ _ _ _ _ _ (by decide)]
  exact hnew

theorem pllcQualified_near (hstate : s.reg O.pllcState = 4) (hnew : s.hidden H.newSource ≠ 1) (hdelta : s.resolveDelta measured = delta)
    (hnear : delta.natAbs ≤ s.plan O.pllcPhasePull) :
    ∃ t, exec (.pllcQualified measured) s = .next t ∧
      t.reg O.pllcState = 5 ∧
      t.reg O.pllcPhaseErr = toF64 delta ∧
      Effect s t [(0x040, 5 + 16 * 4)] [O.pllcState.key 0 0, O.pllcPhaseErr.key 0 0] [hkey H.refPresent, hkey H.gateBase] := by
  have hexec : exec (.pllcQualified measured) s = .next ((s.qualified.setReg O.pllcPhaseErr (toF64 delta)).setPllc 5) := by
    have hplan : s.qualified.plan O.pllcPhasePull = s.plan O.pllcPhasePull := rfl
    change execPllcQualified measured s = _
    unfold execPllcQualified
    rw [if_pos hstate, hdelta]
    exact (if_neg (State.qualified_new hnew)).trans (if_pos (hplan ▸ hnear))
  generalize toF64 (delta : Rat) = x at hexec ⊢
  have hstill : (s.qualified.setReg O.pllcPhaseErr x).reg O.pllcState = 4 := by
    rw [State.reg_setReg_ne _ _ _ _ _ _ _ _ (by decide)]
    exact hstate
  refine ⟨_, hexec, State.setPllc_shown hstill (by decide), ?_, ?_⟩
  · rw [State.setPllc_kept (by decide) (by decide), State.reg_setReg_same]
  · exact Effect.setPllc (evs := []) (((Effect.refl.setHidden (by simp)).setHidden (by simp)).setReg (by simp)) hstill (by decide) (by simp) (by decide)

theorem pllcQualified_far (hstate : s.reg O.pllcState = 4) (hnew : s.hidden H.newSource ≠ 1) (hdelta : s.resolveDelta measured = delta)
    (hfar : s.plan O.pllcPhasePull < delta.natAbs) :
    ∃ t, exec (.pllcQualified measured) s = .next t ∧
      t.reg O.pllcState = 6 ∧
      t.hidden H.handoff = 1 ∧
      t.reg O.pllcPhaseErr = 0 ∧
      Effect s t [(0x040, 6 + 16 * 4)] [O.pllcState.key 0 0, O.pllcPhaseErr.key 0 0] [hkey H.refPresent, hkey H.gateBase, hkey H.handoff] := by
  have hexec : exec (.pllcQualified measured) s = .next (((s.qualified.setHidden H.handoff 1).setReg O.pllcPhaseErr 0).setPllc 6) := by
    have hplan : s.qualified.plan O.pllcPhasePull = s.plan O.pllcPhasePull := rfl
    change execPllcQualified measured s = _
    unfold execPllcQualified
    rw [if_pos hstate, hdelta]
    exact (if_neg (State.qualified_new hnew)).trans (if_neg (hplan ▸ Nat.not_le.mpr hfar))
  have hstill : ((s.qualified.setHidden H.handoff 1).setReg O.pllcPhaseErr 0).reg O.pllcState = 4 := by
    rw [State.reg_setReg_ne _ _ _ _ _ _ _ _ (by decide)]
    exact hstate
  refine ⟨_, hexec, State.setPllc_shown hstill (by decide), ?_, ?_, ?_⟩
  · rw [State.setPllc_hidden, State.hidden_setReg, State.hidden_setHidden_same]
  · rw [State.setPllc_kept (by decide) (by decide), State.reg_setReg_same]
  · exact Effect.setPllc (evs := []) ((((Effect.refl.setHidden (by simp)).setHidden (by simp)).setHidden (by simp)).setReg (by simp)) hstill (by decide) (by simp) (by decide)

end Sys2Proof.Machine
end

section
/-! SUPPORT. PPSIN, PLL-A, phase steps, and the statement of the clocks (R290 to R297). -/

namespace Sys2Proof.Machine

variable {s t u : State} {n v : Nat} {phase : Int} {m : Master} {lim : Nat}

/-! ### PPSIN (R290) -/

/-- An edge of PPSIN: its place in the second, and the objects that show it. -/
def State.ppsShown (s : State) (last since : Nat) (phase : Int) (x : Nat) : State :=
  (((s.setHidden H.ppsLast last).setHidden H.ppsSince since).setHidden H.ppsPhase (ofI 64 phase)).setReg O.ppsinPhase x

/-- How far into the second an edge comes, nearest 0. -/
def ppsOffset (r : Nat) : Int := if 2 * r < T96.second then r else (r : Int) - T96.second

/-- Since when PPSIN's edges come a second apart, with one at `e`. -/
def State.ppsKept (s : State) (e : Nat) : Nat :=
  if s.hidden H.ppsLast ≠ 0 ∧ ((e : Int) - s.hidden H.ppsLast - T96.second).natAbs ≤ 1000 * 65536 then s.hidden H.ppsSince else e

theorem exec_ppsinEdge {after : Nat} {off : Int} (hen : s.plan O.ppsinEn ≠ 0) (hservo : s.plan O.servoSrc ≠ 1)
    (hoff : ppsOffset ((s.nowTicks + after) % T96.second) = off) :
    exec (.ppsinEdge after phase) s =
      .next (s.ppsShown (s.upTicks + after + 1) (s.ppsKept (s.upTicks + after + 1)) phase (toF64 ((off : Rat) * 1000 / 65536))) := by
  unfold ppsOffset at hoff
  change execPpsinEdge after phase s = _
  unfold execPpsinEdge
  rw [if_neg hen]
  dsimp only
  rw [hoff]
  generalize s.upTicks + after + 1 = e
  rw [if_neg]
  · rfl
  · intro h
    simp only [Bool.and_eq_true, beq_iff_eq] at h
    exact hservo h.1.2

theorem ppsinEdge_states {after : Nat} (hen : s.plan O.ppsinEn ≠ 0) (hservo : s.plan O.servoSrc ≠ 1) :
    ∃ t, exec (.ppsinEdge after phase) s = .next t ∧
      t.reg O.ppsinPhase = toF64 ((ppsOffset ((s.nowTicks + after) % T96.second) : Rat) * 1000 / 65536) ∧
      t.hidden H.ppsLast = s.upTicks + after + 1 ∧
      t.hidden H.ppsPhase = ofI 64 phase ∧
      Effect s t [] [O.ppsinPhase.key 0 0] [hkey H.ppsLast, hkey H.ppsSince, hkey H.ppsPhase] := by
  obtain ⟨off, hoff⟩ : ∃ off, ppsOffset ((s.nowTicks + after) % T96.second) = off := ⟨_, rfl⟩
  have hexec := exec_ppsinEdge (phase := phase) hen hservo hoff
  rw [hoff]
  generalize toF64 ((off : Rat) * 1000 / 65536) = x at hexec ⊢
  generalize s.ppsKept (s.upTicks + after + 1) = since at hexec
  generalize s.upTicks + after + 1 = last at hexec ⊢
  unfold State.ppsShown at hexec
  refine ⟨_, hexec, State.reg_setReg_same .., ?_, ?_, (((Effect.refl.setHidden (by simp)).setHidden (by simp)).setHidden (by simp)).setReg (by simp)⟩
  · rw [State.hidden_setReg, State.hidden_setHidden_ne _ _ _ _ _ _ (by decide), State.hidden_setHidden_ne _ _ _ _ _ _ (by decide), State.hidden_setHidden_same]
  · rw [State.hidden_setReg, State.hidden_setHidden_same]

/-! ### Lock, loss of lock and relock of PLL-A (R292, R295) -/

theorem pllaLol_states (hstate : s.reg O.pllaState = 2) (hlol : s.reg O.pllaLol = 0) :
    ∃ t, exec .pllaLolDetect s = .next t ∧
      t.reg O.pllaLol = 1 ∧
      t.reg O.pllaState = 2 ∧
      t.raises.any (fun r => r.event == 0x046 && r.data == (s.now >>> 48)) = true := by
  have hexec : exec .pllaLolDetect s = .next (((s.setReg O.pllaLol 1).setHidden H.gatesDue 1).raise 0x046 (s.now >>> 48)) := by
    change execPllaLolDetect s = _
    unfold execPllaLolDetect
    rw [if_pos ⟨beq_iff_eq.mpr hstate, hlol⟩]
  generalize s.now >>> 48 = d at hexec ⊢
  refine ⟨_, hexec, ?_, ?_, State.any_data_raise ..⟩
  · rw [State.reg_raise_late (by decide), State.reg_setHidden, State.reg_setReg_same]
  · rw [State.reg_raise_late (by decide), State.reg_setHidden, State.reg_setReg_ne _ _ _ _ _ _ _ _ (by decide), hstate]

/-- The sticky flag cleared: blocks in progress keep CLK_UNQUAL. -/
def State.lolCleared (s : State) : State := (if s.clkUnqual then s.markUntil 0x100 else s).setReg O.pllaLol 0

theorem State.lolCleared_kept : s.lolCleared.out = s.out ∧ s.lolCleared.reg O.pwrDomainOn = s.reg O.pwrDomainOn ∧
    Effect s { s.lolCleared with conv := s.conv } [] [O.pllaLol.key 0 0] [] := by
  have hset (w : State) (hregs : w.regs = s.regs) (hout : w.out = s.out) (hw : ({ w with conv := s.conv } : State) = s) :
      (w.setReg O.pllaLol 0).out = s.out ∧ (w.setReg O.pllaLol 0).reg O.pwrDomainOn = s.reg O.pwrDomainOn ∧
        Effect s { w.setReg O.pllaLol 0 with conv := s.conv } [] [O.pllaLol.key 0 0] [] := by
    refine ⟨hout, ?_, ?_⟩
    · rw [State.reg_setReg_ne _ _ _ _ _ _ _ _ (by decide)]
      unfold State.reg
      rw [hregs]
    · have heffect : Effect s (({ w with conv := s.conv } : State).setReg O.pllaLol 0) [] [O.pllaLol.key 0 0] [] := by
        rw [hw]
        exact Effect.refl.setReg (by simp)
      exact heffect
  unfold State.lolCleared
  split
  · exact hset _ rfl rfl rfl
  · exact hset _ rfl rfl rfl

theorem pllaLolClr_states (howner : Owner s m) (hon : bit (s.reg O.pwrDomainOn) 5 = true) :
    ∃ t, exec (.pllaLolClr m 1) s = .next t ∧
      t.out = replied s m ∧
      t.reg O.pllaLol = 0 ∧
      Effect s { t with out := s.out, conv := s.conv } [] [O.pllaLol.key 0 0] [] := by
  obtain ⟨hout, hdomains, heffect⟩ := State.lolCleared_kept (s := s)
  have hcleared : s.lolCleared.reg O.pllaLol = 0 := State.reg_setReg_same ..
  have hact : actLolClr 1 s = .ok s.lolCleared := by
    unfold actLolClr onlyOne refuseIf
    rw [if_neg (by decide)]
    exact reaching_on rfl (by rw [hdomains]; exact hon)
  have hexec := State.command_ok howner (r := O.pllaLolClr) (v := 1) rfl (by decide) (by decide) hact
  rw [replied_congr m hout] at hexec
  exact ⟨_, hexec, rfl, hcleared, heffect.withOut s.out⟩

/-- A restart of PLL-A: its paths stop first, and a fitting in progress ends last. -/
theorem pllaRestart_states : (s.pllaRestart).reg O.pllaState = 1 ∧ s.pllaRestart.reg O.phaseRemain = 0 ∧ s.pllaRestart.hidden H.restarting = 1 ∧
    s.pllaRestart.hidden H.frootOld = s.reg O.frootActual ∧ s.pllaRestart.reg O.pwrDomainOn = s.reg O.pwrDomainOn := by
  have hpaths : Apart 0x90000 s s.pathsStop := Apart.refl.pathsStop (Nat.le_refl _)
  obtain ⟨-, -, -, hstopped, -, -⟩ := hpaths
  have hfroot := hstopped O.frootActual 0 0 (by decide) (by decide)
  have hdomains := hstopped O.pwrDomainOn 0 0 (by decide) (by decide)
  unfold State.pllaRestart
  generalize s.pathsStop = w at hfroot hdomains ⊢
  have hfit : Apart 0x90000 (w.pllaStop false) ((w.pllaStop false).fitFail 3 0) := Apart.refl.fitFail (by decide)
  obtain ⟨-, -, hhid, hreg, -, -⟩ := hfit
  have hshown : Apart 0x90000 ((((w.setReg O.pllaState 1).setHidden H.restarting 1).setHidden H.frootOld (w.reg O.frootActual)).setReg O.phaseRemain 0) (w.pllaStop false) := by
    have hold : ((w.setReg O.pllaState 1).setHidden H.restarting 1).reg O.frootActual = w.reg O.frootActual := by
      rw [State.reg_setHidden, State.reg_setReg_ne _ _ _ _ _ _ _ _ (by decide)]
    unfold State.pllaStop
    exact Apart.ite Apart.refl.clkoutShow Apart.refl.clkoutShow.raise
  obtain ⟨-, -, hhid', hreg', -, -⟩ := hshown
  refine ⟨?_, ?_, ?_, ?_, ?_⟩
  · rw [hreg _ _ _ (by decide) (by decide), hreg' _ _ _ (by decide) (by decide), State.reg_setReg_ne _ _ _ _ _ _ _ _ (by decide), State.reg_setHidden,
      State.reg_setHidden, State.reg_setReg_same]
  · rw [hreg _ _ _ (by decide) (by decide), hreg' _ _ _ (by decide) (by decide), State.reg_setReg_same]
  · rw [hhid H.restarting (by decide), hhid' H.restarting (by decide), State.hidden_setReg, State.hidden_setHidden_ne _ _ _ _ _ _ (by decide), State.hidden_setHidden_same]
  · rw [hhid H.frootOld (by decide), hhid' H.frootOld (by decide), State.hidden_setReg, State.hidden_setHidden_same, hfroot]
  · rw [hreg _ _ _ (by decide) (by decide), hreg' _ _ _ (by decide) (by decide), State.reg_setReg_ne _ _ _ _ _ _ _ _ (by decide), State.reg_setHidden,
      State.reg_setHidden, State.reg_setReg_ne _ _ _ _ _ _ _ _ (by decide), hdomains]

theorem pllaRelock_states (howner : Owner s m) (hon : bit (s.reg O.pwrDomainOn) 5 = true) (hstate : s.reg O.pllaState ≠ 1) :
    ∃ t, exec (.pllaRelock m 1) s = .next t ∧
      (m ≠ .host → t.out.head? = some (.answer m.id 0)) ∧
      t.reg O.pllaState = 1 ∧
      t.reg O.phaseRemain = 0 ∧
      t.hidden H.restarting = 1 ∧
      t.hidden H.frootOld = s.reg O.frootActual := by
  obtain ⟨hwaits, hremain, hrestarting, hfroot, hdomains⟩ := pllaRestart_states (s := s)
  have hact : actPllaRelock 1 s = .ok s.pllaRestart := by
    unfold actPllaRelock onlyOne refuseIf
    rw [if_neg (by decide)]
    exact reaching_on (if_neg hstate) (by rw [hdomains]; exact hon)
  have hexec := State.command_ok howner (r := O.pllaRelock) (v := 1) rfl (by decide) (by decide) hact
  generalize s.pllaRestart = u at hexec hwaits hremain hrestarting hfroot
  refine ⟨_, hexec, fun hm => ?_, hwaits, hremain, hrestarting, hfroot⟩
  cases m with
  | host => exact absurd rfl hm
  | _ => rfl

end Sys2Proof.Machine
end

section
/-! SUPPORT. The lock of PLL-A, phase steps, and the statement of the clocks (R292 to R297). -/

namespace Sys2Proof.Machine

variable {s t u : State} {n v st ch old : Nat} {left d add : Int} {m : Master} {again : Bool}

/-! ### The lock (R292, R293, R295) -/

/-- What the start of the units behind PLL-A keeps of it: its objects, the index, and that no restart waits. -/
structure ClockKept (s t : State) : Prop where
  objects : ∀ r : Row, 0x80400 ≤ r.key 0 0 → r.key 0 0 < 0x80500 → t.reg r = s.reg r
  restarting : t.hidden H.restarting = s.hidden H.restarting
  idx : t.idx = s.idx

theorem ClockKept.refl : ClockKept s s := ⟨fun _ _ _ => rfl, rfl, rfl⟩

theorem ClockKept.trans (h : ClockKept s t) (h' : ClockKept t u) : ClockKept s u :=
  ⟨fun r hlo hhi => (h'.objects r hlo hhi).trans (h.objects r hlo hhi), h'.restarting.trans h.restarting, h'.idx.trans h.idx⟩

theorem ClockKept.of_apart (h : Apart 0x80500 s t) : ClockKept s t := by
  obtain ⟨hframe, -, hhid, hreg, -, -⟩ := h
  have hmerged : mergedKey = 0x58005 := rfl
  exact ⟨fun r hlo hhi => hreg r 0 0 hhi (by omega), hhid H.restarting (by decide), congrArg (fun x => x.2.2.1) hframe⟩

theorem ClockKept.setReg {r : Row} (hr : r.key 0 0 < 0x80400) : ClockKept s (s.setReg r v) :=
  ⟨fun q hlo _ => State.reg_setReg_ne _ _ _ _ _ _ _ _ (by omega), rfl, rfl⟩

theorem ClockKept.ite {p : Prop} [Decidable p] (h : ClockKept s t) : ClockKept s (if p then t else s) := by
  split
  · exact h
  · exact ClockKept.refl

theorem ClockKept.setPllc : ClockKept s (s.setPllc st) := by
  unfold State.setPllc
  dsimp only
  split
  · exact ClockKept.refl
  · exact (ClockKept.setReg (by decide)).trans (ClockKept.of_apart Apart.refl.raise)

theorem ClockKept.qualify : ClockKept s s.qualify :=
  (ClockKept.of_apart ((Apart.refl.setHidden (by decide) (by decide)).setHidden (by decide) (by decide))).trans ClockKept.setPllc

/-- The objects of a lock. -/
def State.lockShown (s : State) : State :=
  let r := pllaRatio (s.plan O.frootHz) (s.plan O.pllaMode)
  let u := (((s.setReg O.pllaState 2).setReg O.pllaN r.1).setReg O.pllaFrac r.2).setReg O.frootActual (toF64 s.plannedHz)
  (((u.setReg O.pllaLol 0).setReg O.pllaLockT96 u.now).setReg O.phaseTotal 0).setHidden H.restarting 0

/-- A new epoch at index 0. -/
def State.epochBegun (s : State) : State :=
  { s with idx := 0, conv := s.conv.map (fun (e : Nat × Conv) => (e.1, { e.2 with suspectFrom := 0 })) }

/-- The epoch of a channel. -/
def State.epochShown (s : State) (ch : Nat) : State :=
  let s := (if s.hidden H.everLocked = 1 then s.bump O.idxEpoch ch else s).setReg O.idxEpochT96 s.now ch
  s.raise (0x107 + 16 * ch) (s.reg O.idxEpoch ch)

/-- The increment, the time line and the channels under the new epoch, and what is told of it. -/
def State.epochTold (s : State) (again : Bool) (hz old : Nat) : State :=
  let inc := s.incBase.toNat
  let s := (s.setReg O.tcInc (inc / 2 ^ 32 % 2 ^ 40)).setReg O.tcIncExt (inc % 2 ^ 32)
  let s := { s with timeline := [⟨0, s.tc, s.inc⟩], holds := [] }
  let s := (List.range 4).foldl State.epochShown s
  let s := s.raise 0x045 (s.reg O.idxEpoch)
  if !again ∨ hz = old then s else s.raise 0x049 hz

/-- The first lock qualifies the source. -/
def State.firstLock (s : State) : State :=
  let first := s.hidden H.everLocked == 0
  let s := s.setHidden H.everLocked 1
  if first && (s.reg O.pllcState == 1 || (s.reg O.pllcState == 0 && s.plan O.pllcSrc != 0)) then (s.setHidden H.newSource 1).qualify
  else s

theorem State.pllaRelease_eq : s.pllaRelease =
    (s.lockShown.clkoutShow.epochBegun.epochTold (decide (s.reg O.frootActual ≠ 0)) (toF64 s.plannedHz) (s.hidden H.frootOld)).firstLock := by
  unfold State.pllaRelease State.epochTold
  simp only [Bool.not_eq_true', decide_eq_false_iff_not]
  rfl

theorem State.epochTold_apart {hz : Nat} : Apart 0x80500 s (s.epochTold again hz old) := by
  have hepoch (w : State) (h : Apart 0x80500 s w) (ch : Nat) : Apart 0x80500 s (w.epochShown ch) :=
    ((Apart.ite (h.bump (by decide)) h).setReg (by decide)).raise
  have hinc : Apart 0x80500 s ((s.setReg O.tcInc (s.incBase.toNat / 2 ^ 32 % 2 ^ 40)).setReg O.tcIncExt (s.incBase.toNat % 2 ^ 32)) :=
    (Apart.refl.setReg (by decide)).setReg (by decide)
  unfold State.epochTold
  dsimp only
  generalize (s.setReg O.tcInc (s.incBase.toNat / 2 ^ 32 % 2 ^ 40)).setReg O.tcIncExt (s.incBase.toNat % 2 ^ 32) = w at hinc ⊢
  have hline : Apart 0x80500 s { w with timeline := [⟨0, w.tc, w.inc⟩], holds := [] } := hinc
  have hall := hline.foldRange (k := 4) (f := State.epochShown) fun x ch _ hx => hepoch x hx ch
  exact Apart.ite hall.raise hall.raise.raise

theorem ClockKept.firstLock : ClockKept s s.firstLock := by
  have hever : ClockKept s (s.setHidden H.everLocked 1) := ClockKept.of_apart (Apart.refl.setHidden (by decide) (by decide))
  unfold State.firstLock
  dsimp only
  split
  · exact (hever.trans (ClockKept.of_apart (Apart.refl.setHidden (by decide) (by decide)))).trans ClockKept.qualify
  · exact hever

theorem State.lockShown_objects : s.lockShown.reg O.pllaState = 2 ∧ s.lockShown.reg O.pllaLol = 0 ∧ s.lockShown.reg O.phaseTotal = 0 ∧
    s.lockShown.reg O.pllaLockT96 = s.now ∧ s.lockShown.reg O.pllaN = (pllaRatio (s.plan O.frootHz) (s.plan O.pllaMode)).1 ∧
    s.lockShown.reg O.pllaFrac = (pllaRatio (s.plan O.frootHz) (s.plan O.pllaMode)).2 ∧ s.lockShown.hidden H.restarting = 0 := by
  have hnow (w : State) (r : Row) (x : Nat) : (w.setReg r x).now = w.now := rfl
  unfold State.lockShown
  dsimp only
  rw [hnow, hnow, hnow, hnow]
  generalize pllaRatio (s.plan O.frootHz) (s.plan O.pllaMode) = ratio
  generalize toF64 s.plannedHz = hz
  generalize s.now = at_
  refine ⟨?_, ?_, ?_, ?_, ?_, ?_, State.hidden_setHidden_same ..⟩
  · rw [State.reg_setHidden, State.reg_setReg_ne _ _ _ _ _ _ _ _ (by decide), State.reg_setReg_ne _ _ _ _ _ _ _ _ (by decide),
      State.reg_setReg_ne _ _ _ _ _ _ _ _ (by decide), State.reg_setReg_ne _ _ _ _ _ _ _ _ (by decide), State.reg_setReg_ne _ _ _ _ _ _ _ _ (by decide),
      State.reg_setReg_ne _ _ _ _ _ _ _ _ (by decide), State.reg_setReg_same]
  · rw [State.reg_setHidden, State.reg_setReg_ne _ _ _ _ _ _ _ _ (by decide), State.reg_setReg_ne _ _ _ _ _ _ _ _ (by decide), State.reg_setReg_same]
  · rw [State.reg_setHidden, State.reg_setReg_same]
  · rw [State.reg_setHidden, State.reg_setReg_ne _ _ _ _ _ _ _ _ (by decide), State.reg_setReg_same]
  · rw [State.reg_setHidden, State.reg_setReg_ne _ _ _ _ _ _ _ _ (by decide), State.reg_setReg_ne _ _ _ _ _ _ _ _ (by decide),
      State.reg_setReg_ne _ _ _ _ _ _ _ _ (by decide), State.reg_setReg_ne _ _ _ _ _ _ _ _ (by decide), State.reg_setReg_ne _ _ _ _ _ _ _ _ (by decide),
      State.reg_setReg_same]
  · rw [State.reg_setHidden, State.reg_setReg_ne _ _ _ _ _ _ _ _ (by decide), State.reg_setReg_ne _ _ _ _ _ _ _ _ (by decide),
      State.reg_setReg_ne _ _ _ _ _ _ _ _ (by decide), State.reg_setReg_ne _ _ _ _ _ _ _ _ (by decide), State.reg_setReg_same]

/-- Every unit behind PLL-A has started. -/
theorem ClockKept.pathsStart {o : Rat} : ClockKept s (s.pathsStart o) := ClockKept.of_apart ((Apart.refl.pathsStart (Nat.le_refl 0x90000)).mono (by decide))

theorem pllaRelease_kept : ClockKept s.lockShown.clkoutShow.epochBegun s.pllaRelease := by
  rw [State.pllaRelease_eq]
  exact (ClockKept.of_apart State.epochTold_apart).trans ClockKept.firstLock

theorem pllaLock_states (hstate : s.reg O.pllaState = 1) :
    ∃ t, exec .pllaLock s = .next t ∧
      t.reg O.pllaState = 2 ∧
      t.reg O.pllaLol = 0 ∧
      t.reg O.phaseTotal = 0 ∧
      t.reg O.pllaLockT96 = s.now ∧
      t.idx = 0 ∧
      t.hidden H.restarting = 0 ∧
      t.reg O.pllaN = (pllaRatio (s.plan O.frootHz) (s.plan O.pllaMode)).1 ∧
      t.reg O.pllaFrac = (pllaRatio (s.plan O.frootHz) (s.plan O.pllaMode)).2 := by
  have hrun : ∃ t, exec .pllaLock s = .next t ∧ ClockKept s.pllaRelease t := by
    change ∃ t, execPllaLock s = .next t ∧ _
    unfold execPllaLock
    rw [if_pos hstate]
    refine ⟨_, rfl, ?_⟩
    have hstarted := ClockKept.pathsStart (s := s.pllaRelease) (o := f64 (s.hidden H.frootOld))
    generalize s.pllaRelease.pathsStart (f64 (s.hidden H.frootOld)) = w at hstarted ⊢
    have hdram : ClockKept w (if 6 ≤ w.hidden H.boot ∧ w.reg O.drState = 0 then w.setReg O.drState 1 else w) :=
      ClockKept.ite (ClockKept.of_apart (Apart.refl.setReg (by decide)))
    exact (hstarted.trans hdram).trans (ClockKept.ite (ClockKept.setReg (by decide)))
  obtain ⟨t, hexec, hkept⟩ := hrun
  obtain ⟨hobjects, hrestarting, hidx⟩ := pllaRelease_kept.trans hkept
  have hclk : Apart 0x80500 s.lockShown s.lockShown.clkoutShow := Apart.refl.clkoutShow
  obtain ⟨-, -, hhid, hreg, -, -⟩ := hclk
  obtain ⟨hlocked, hlol, htotal, htime, hn, hfrac, hwaits⟩ := State.lockShown_objects (s := s)
  have hshown (r : Row) (hlo : 0x80400 ≤ r.key 0 0) (hhi : r.key 0 0 < 0x80500) : t.reg r = s.lockShown.reg r :=
    (hobjects r hlo hhi).trans (hreg r 0 0 hhi (by have hmerged : mergedKey = 0x58005 := rfl; omega))
  refine ⟨t, hexec, (hshown _ (by decide) (by decide)).trans hlocked, (hshown _ (by decide) (by decide)).trans hlol, (hshown _ (by decide) (by decide)).trans htotal,
    (hshown _ (by decide) (by decide)).trans htime, hidx, ?_, (hshown _ (by decide) (by decide)).trans hn, (hshown _ (by decide) (by decide)).trans hfrac⟩
  exact hrestarting.trans ((hhid H.restarting (by decide)).trans hwaits)

end Sys2Proof.Machine
end

section
/-! SUPPORT. Phase steps, and the statement of the clocks (R296, R297). -/

namespace Sys2Proof.Machine

variable {s t u : State} {n v : Nat} {left d add : Int} {m : Master}

theorem toI_ofI_32 {i : Int} (hlo : -2 ^ 31 ≤ i) (hhi : i < 2 ^ 31) : toI 32 (ofI 32 i) = i := by
  have hpow : ((2 ^ 32 : Nat) : Int) = 2 ^ 32 := by norm_num
  simp only [toI, ofI, hpow]
  split_ifs <;> omega

/-! ### Requests (R297) -/

theorem phaseStep_exec (howner : Owner s m) (hon : bit (s.reg O.pwrDomainOn) 5 = true) (hv : v < 2 ^ 32) (hc : O.phaseStep.checks (v &&& O.phaseStep.mask) = true)
    (hne : v ≠ 0) (hlocked : s.reg O.pllaState = 2) (hnear : (toI 32 (s.reg O.phaseRemain) + toI 32 v).natAbs ≤ 65535) :
    exec (.phaseStep m v) s = .next { s.phaseTake (toI 32 v) with out := replied s m } := by
  have hkept : (s.phaseTake (toI 32 v)).out = s.out ∧ (s.phaseTake (toI 32 v)).reg O.pwrDomainOn = s.reg O.pwrDomainOn := by
    have hset (x : Nat) : (s.setReg O.phaseRemain x).reg O.pwrDomainOn = s.reg O.pwrDomainOn := State.reg_setReg_ne _ _ _ _ _ _ _ _ (by decide)
    unfold State.phaseTake
    dsimp only
    split
    · exact ⟨State.out_raise .., (State.reg_raise_ne _ _ _ _ _ _ (by decide)).trans (hset _)⟩
    · exact ⟨rfl, hset _⟩
  have hover : s.phaseOver (toI 32 v) = false := decide_eq_false (by omega)
  have hact : actPhaseStep v s = .ok (s.phaseTake (toI 32 v)) := by
    have hlock : s.locked = true := beq_iff_eq.mpr hlocked
    unfold actPhaseStep refuseIf
    rw [if_neg (by simpa using hne)]
    refine reaching_on ?_ (by rw [hkept.2]; exact hon)
    rw [hlock, hover]
    rfl
  have hexec := State.command_ok howner (r := O.phaseStep) rfl hv hc hact
  rw [replied_congr m hkept.1] at hexec
  exact hexec

theorem State.phaseTake_shown {sum : Int} (hsum : toI 32 (s.reg O.phaseRemain) + toI 32 v = sum) :
    (s.phaseTake (toI 32 v)).reg O.phaseRemain = ofI 32 sum ∧
      Effect s (s.phaseTake (toI 32 v)) (if sum = 0 then [(0x047, s.reg O.phaseTotal % 2 ^ 32)] else []) [O.phaseRemain.key 0 0] [] := by
  have htotal (x : Nat) : (s.setReg O.phaseRemain x).reg O.phaseTotal = s.reg O.phaseTotal := State.reg_setReg_ne _ _ _ _ _ _ _ _ (by decide)
  have hset (x : Nat) : Effect s (s.setReg O.phaseRemain x) [] [O.phaseRemain.key 0 0] [] := Effect.refl.setReg (by simp)
  unfold State.phaseTake
  dsimp only
  rw [hsum, htotal]
  split
  · exact ⟨(State.reg_raise_late (by decide)).trans (State.reg_setReg_same ..), (hset _).raise _ _ (by decide)⟩
  · exact ⟨State.reg_setReg_same .., hset _⟩

/-! ### Steps applied (R296) -/

/-- Which way a step goes. -/
def phaseDir (left : Int) : Int := if 0 < left then 1 else -1

/-- One step of `d`, the time counter moved with it. -/
def State.phaseMoved (s : State) (left d add : Int) : State :=
  let s := ({ s with tc := ((s.tc : Int) + add).toNat } : State).anchor
  ((s.setReg O.phaseRemain (ofI 32 (left - d))).setReg O.phaseTotal (ofI 64 (toI 64 (s.reg O.phaseTotal) + d))).markWithin

def State.phaseApplied (s : State) (left d add : Int) : State :=
  if left = d then (s.phaseMoved left d add).raise 0x047 ((s.phaseMoved left d add).reg O.phaseTotal % 2 ^ 32) else s.phaseMoved left d add

theorem exec_phaseStepApply (hlocked : s.reg O.pllaState = 2) (hleft : toI 32 (s.reg O.phaseRemain) = left) (hne : left ≠ 0)
    (hadd : rne ((1000000000 * 2 ^ 64 : Nat) / (512 * s.froot)) * phaseDir left = add) :
    exec .phaseStepApply s = .next (s.phaseApplied left (phaseDir left) add) := by
  have hlock : s.locked = true := beq_iff_eq.mpr hlocked
  change execPhaseStepApply s = _
  unfold execPhaseStepApply
  unfold phaseDir at hadd ⊢
  dsimp only
  rw [hlock, hleft, if_neg (by simpa using hne), hadd]
  rfl

theorem State.phaseMoved_shown : (s.phaseMoved left d add).reg O.phaseRemain = ofI 32 (left - d) ∧
    (s.phaseMoved left d add).reg O.phaseTotal = ofI 64 (toI 64 (s.reg O.phaseTotal) + d) ∧ (s.phaseMoved left d add).tc = ((s.tc : Int) + add).toNat := by
  have hmark (w : State) (r : Row) : w.markWithin.reg r = w.reg r := rfl
  have htime (w : State) (x y : Nat) : ((w.setReg O.phaseRemain x).setReg O.phaseTotal y).markWithin.tc = w.tc := rfl
  unfold State.phaseMoved
  dsimp only
  refine ⟨?_, ?_, ?_⟩
  · rw [hmark, State.reg_setReg_ne _ _ _ _ _ _ _ _ (by decide), State.reg_setReg_same]
  · rw [hmark, State.reg_setReg_same]
    rfl
  · rw [htime]
    rfl

theorem State.phaseApplied_shown : (s.phaseApplied left d add).reg O.phaseRemain = ofI 32 (left - d) ∧
    (s.phaseApplied left d add).reg O.phaseTotal = ofI 64 (toI 64 (s.reg O.phaseTotal) + d) ∧ (s.phaseApplied left d add).tc = ((s.tc : Int) + add).toNat := by
  obtain ⟨hremain, htotal, htc⟩ := State.phaseMoved_shown (s := s) (left := left) (d := d) (add := add)
  unfold State.phaseApplied
  split
  · exact ⟨(State.reg_raise_late (by decide)).trans hremain, (State.reg_raise_late (by decide)).trans htotal, (State.raise_tc ..).trans htc⟩
  · exact ⟨hremain, htotal, htc⟩

theorem State.phaseMoved_rest : ({ s.phaseMoved left d add with tc := s.tc, regs := s.regs, raises := s.raises, conv := s.conv, timeline := s.timeline } : State) = s := by
  have hrest (w : State) (c x y : Nat) : ({ ((({ w with tc := c } : State).anchor.setReg O.phaseRemain x).setReg O.phaseTotal y).markWithin with
      tc := w.tc, regs := w.regs, raises := w.raises, conv := w.conv, timeline := w.timeline } : State) = w := rfl
  exact hrest _ _ _ _

theorem State.phaseApplied_rest : ({ s.phaseApplied left d add with tc := s.tc, regs := s.regs, raises := s.raises, conv := s.conv, timeline := s.timeline } : State) = s := by
  have hmoved := State.phaseMoved_rest (s := s) (left := left) (d := d) (add := add)
  unfold State.phaseApplied
  generalize s.phaseMoved left d add = w at hmoved ⊢
  split
  · rw [State.raise_eq]
    exact hmoved
  · exact hmoved

/-- Settles O31: PLL-C and PPSIN by their objects, PLL-A's lock and restart by what the start and stop of the units behind it keep. -/
theorem clocks : Obligations.Clocks := by
  unfold Obligations.Clocks
  refine ⟨?_, ?_, ?_, ?_, ?_, ?_, ?_, ?_, ?_, ?_, ?_, ?_, ?_, ?_, ?_, ?_⟩
  · exact fun s temp => xoComp_states temp
  · exact fun s m v howner hv => xoAgeRate_states howner hv
  · exact fun s start phase delta refHz hstate => pllcLockGate_qualifying refHz hstate
  · exact fun s start phase delta refHz hstate hin => pllcLockGate_locks refHz hstate hin
  · exact fun s cause average hsrc hpresent hstate => pllcRefLost_states cause average hsrc hpresent hstate
  · exact fun s refHz hsrc hstate hnear => pllcRefReturn_states refHz hsrc hstate hnear
  · exact fun s measured hstate hnew hnear => pllcQualified_near hstate hnew rfl hnear
  · exact fun s measured hstate hnew hfar => pllcQualified_far hstate hnew rfl hfar
  · intro s after phase hen hservo
    obtain ⟨t, hexec, hphase, hlast, hheld, heffect⟩ := ppsinEdge_states (after := after) (phase := phase) hen hservo
    refine ⟨t, hexec, hphase.trans ?_, hlast, hheld, heffect⟩
    generalize (s.nowTicks + after) % T96.second = r
    unfold ppsOffset
    split <;> push_cast <;> rfl
  · exact fun s hstate => pllaLock_states hstate
  · exact fun s m howner hon hstate => pllaRelock_states howner hon hstate
  · exact fun s hstate hlol => pllaLol_states hstate hlol
  · exact fun s m howner hon => pllaLolClr_states howner hon
  · intro s m v howner hon hv hc hne hlocked hnear
    obtain ⟨hremain, heffect⟩ := State.phaseTake_shown (s := s) (v := v) rfl
    exact ⟨_, phaseStep_exec howner hon hv hc hne hlocked hnear, rfl, hremain, heffect.withOut s.out⟩
  · intro s m v howner hon hv hc hne hlocked hnear hsum
    obtain ⟨hremain, heffect⟩ := State.phaseTake_shown (s := s) (v := v) rfl
    have hexec := phaseStep_exec howner hon hv hc hne hlocked hnear
    generalize toI 32 (s.reg O.phaseRemain) + toI 32 v = sum at hremain heffect hnear hsum ⊢
    rw [if_neg hsum] at heffect
    obtain ⟨hrest, hraises, hregs, hhid⟩ := heffect
    generalize s.phaseTake (toI 32 v) = w at hexec hremain hrest hregs hhid hraises
    have hkept (r : Row) (hr : r.key 0 0 ∉ [mergedKey, O.phaseRemain.key 0 0]) : w.reg r = s.reg r := Effect.reg ⟨hrest, hraises, hregs, hhid⟩ hr
    have happly := exec_phaseStepApply (s := { w with out := replied s m }) ((hkept O.pllaState (by decide)).trans hlocked)
      ((congrArg (toI 32) hremain).trans (toI_ofI_32 (by omega) (by omega))) hsum rfl
    have htotal : ({ w with out := replied s m } : State).reg O.phaseTotal = s.reg O.phaseTotal := hkept O.phaseTotal (by decide)
    obtain ⟨hstep, hcount, -⟩ := State.phaseApplied_shown (s := { w with out := replied s m }) (left := sum) (d := phaseDir sum)
      (add := rne ((1000000000 * 2 ^ 64 : Nat) / (512 * ({ w with out := replied s m } : State).froot)) * phaseDir sum)
    refine ⟨_, hexec, rfl, ?_, ?_⟩
    · rw [State.thenDoes_of_exec _ happly, hstep, hcount, htotal]
      rfl
    · rw [hrest]
  · intro s hlocked hne
    have hexec := exec_phaseStepApply hlocked rfl hne rfl
    obtain ⟨hremain, htotal, htc⟩ := State.phaseApplied_shown (s := s) (left := toI 32 (s.reg O.phaseRemain)) (d := phaseDir (toI 32 (s.reg O.phaseRemain)))
      (add := rne ((1000000000 * 2 ^ 64 : Nat) / (512 * s.froot)) * phaseDir (toI 32 (s.reg O.phaseRemain)))
    exact ⟨_, hexec, hremain, htotal, htc, State.phaseApplied_rest⟩

end Sys2Proof.Machine
end
